-- ==== Sys2Proof/Word.lean ====
section
/-! DEFINITION. The words of the hardware: bytes, 16-bit halves, 32-bit words and 64-bit words, with the plainest
helpers over them. The spec's order code (00_scope.md) counts everything little-endian. -/

namespace Sys2Proof

/-- One byte. -/
abbrev Byte := BitVec 8
/-- Sixteen bits. -/
abbrev Half := BitVec 16
/-- The 32-bit word of cells, queues and the runner network. -/
abbrev Word := BitVec 32
/-- A 64-bit quantity: a cell of DRAM data, an address, a time. -/
abbrev DWord := BitVec 64

/-- A one-bit word from a truth value. -/
abbrev bit1 (b : Bool) : BitVec 1 := BitVec.ofBool b

end Sys2Proof
end

