-- ==== Sys2Proof/Types.lean ====
section
/-! DEFINITION. The data that commands and the machine's state share: queue words, runner network packets, error
reports, and what the device puts outside itself. -/

namespace Sys2Proof

/-- A block of a Villet lane: its sync header and 64 payload bits (R478). -/
structure Block where
  sync : BitVec 2
  payload : BitVec 64
  deriving DecidableEq, Repr

/-- What a SECDED check reports of one protected word: good, a corrected single-bit error, or an uncorrectable one.
Whether a stored bit decays is physics, so the commands that read a protected word carry it as an operand. -/
inductive Ecc where
  | ok | corrected | uncorrectable
  deriving DecidableEq, Repr

/-- What physics does to a firing of the fabric: nothing; a K or S register it reads shows a corrected or an
uncorrectable error; the word arriving at its register fails its parity check (R63, R86). -/
inductive FabEv where
  | clean | corrected | uncorrectable | parity
  deriving DecidableEq, Repr

/-- What the SECDED checks find in a crucible cycle: nothing, a corrected or an uncorrectable word, in PM (0), X (1), Y (2)
or a register (3) (R195). -/
inductive CruEv where
  | clean
  | corrected (space : Nat)
  | uncorrectable (space : Nat)
  deriving DecidableEq, Repr

/-- What the checks find when the tundish applies a message (R249-R251, R265): nothing; a corrected pool or link word; a
corrected descriptor word; duplicate pointers that disagree; an uncorrectable link entry or descriptor word; an
uncorrectable free-list head, counter or sweep word. -/
inductive TunEv where
  | clean | correctedPool | correctedDesc | pointers | link | fatal
  deriving DecidableEq, Repr

/-- What the SECDED checks find while a ladle core executes (R272, R308, R321): nothing; a corrected memory or bank word; an
uncorrectable instruction word, data word or register of the current bank. -/
inductive LcEv where
  | clean | dataCorrected | regCorrected | fetchBad | dataBad | regBad
  deriving DecidableEq, Repr

/-- What the checks of Cupola's tables find during an operation (R368): nothing; a corrected word; an uncorrectable item,
thread entry, match slot or list link. -/
inductive CupEv where
  | clean | corrected
  | item (n : Nat)
  | thread (t : Nat)
  | slot (n : Nat)
  | link
  deriving DecidableEq, Repr

/-- What a router finds as a header reaches it (R395, R396, R416): nothing; a corrected word; a header it drops, whose source
and whose tag may be readable; an uncorrectable word of its own tables, which stops it. -/
inductive HopEv where
  | clean | corrected
  | drop (src tag : Bool)
  | fatal
  deriving DecidableEq, Repr

/-- What the checks of the dictionary agent's memories find (R659, R666): nothing; a corrected word; one copy, or both, of the key store
words of slot `k`; an uncorrectable word in the staging of session `n`, or in the agent's own path or session state. -/
inductive DictEv where
  | clean | corrected
  | keyCopy (k : Nat)
  | keyLost (k : Nat)
  | staging (n : Nat)
  | fatal
  deriving DecidableEq, Repr

/-- The form of an SDO request (R631): expedited or normal, complete access, block transfer, or an unknown command specifier. -/
inductive SdoForm where
  | normal | complete | block | unknown
  deriving DecidableEq, Repr

/-- A queue word: 32 data bits, the tags L and I, and the poison bit (R17, R200). -/
structure QWord where
  d : Word
  l : Bool
  i : Bool
  p : Bool
  deriving DecidableEq, Repr

/-- A word a fabric track carries: valid bit, L, I, data and its parity bit (R37, R63). -/
structure TWord where
  v : Bool
  l : Bool
  i : Bool
  d : Word
  p : Bool
  deriving DecidableEq, Repr

/-- A register that holds no word. -/
def TWord.empty : TWord := { v := false, l := false, i := false, d := 0, p := false }

/-- A data word on the runner network with its poison bit (R374). -/
structure NWord where
  d : Word
  p : Bool
  deriving DecidableEq, Repr

/-- STATUS of an answer (R378). -/
inductive NetStatus where
  | ok | offline | lost | noroute
  deriving DecidableEq, Repr

/-- The tundish's answer to a POP (R379). -/
inductive PopStatus where
  | ok | empty | idle | refused | offline
  deriving DecidableEq, Repr

/-- What a packet carries. Requests, answers and notes of R377 and R379; `internal` stands for the messages among
Cupola, the flask gates and the ladle cores, whose codes the spec leaves internal (R379). -/
inductive Body where
  | rd (addr : Nat) (n : Nat)
  | wr (addr : Nat) (first last : BitVec 4) (ws : List NWord)
  | fold (addr : Nat) (code : Nat) (ws : List NWord)
  | push (q : Nat) (sop : Bool) (ws : List QWord)
  | rewind (q : Nat)
  | revokeAck (q : Nat) (n : Nat)
  | watchSet (q : Nat) (idx : Nat) (en : Bool)
  | pop (q : Nat) (max : Nat)
  | rdata (st : NetStatus) (ws : List NWord)
  | wack (st : NetStatus) (rejected : Bool)
  | popResp (st : PopStatus) (ws : List QWord)
  | crsp (st : NetStatus) (result : Nat)
  | credit (q : Nat) (n : Nat)
  | revoke (q : Nat)
  | watchState (q : Nat) (idx : Nat) (ne : Bool)
  | headerNotice (tag : Nat)
  | nack (st : NetStatus)
  | internal (code : Nat) (args : List Word)
  deriving DecidableEq, Repr

/-- One packet: the header fields of R376 and what it carries. `la` is the port the look-ahead unit wrote, `who` the model's own mark of the
requester inside the initiator, which the hardware finds by TAG. -/
structure Packet where
  dest : Nat
  src : Nat
  oclass : Nat
  tag : Nat
  tc : Nat
  la : Nat
  who : Nat
  body : Body
  deriving DecidableEq, Repr

/-- Where the header of a packet stands: at its source, in a router that made it, in the bridge of the link it crosses, or in the
input buffer of its receiver (R384, R387). -/
inductive Place where
  | source | own | bridge | buffer
  deriving DecidableEq, Repr

/-- A packet in flight and the router whose input it stands at or enters (R381): 0-7 row runners, 8 and 9 trunks, 10 the sprue,
11 the ladle concentrator, 12 the port concentrator; 13 its destination. `inp` is the input there, the node at 13. `here` counts its
flits in the header's store, `tail` lists the stores behind with their flits. -/
structure Flight where
  at' : Nat
  inp : Nat
  pkt : Packet
  place : Place := .buffer
  here : Nat := 1
  tail : List (Nat × Nat) := []
  deriving DecidableEq, Repr

/-- What drives a pad as it is sampled: something drives it low or high, or nothing outside the device drives it. -/
inductive PadDrive where
  | low | high | undriven
  deriving DecidableEq, Repr

/-- An access that reaches the dictionary agent in a cycle of CLK_MGT: a write or a read of a slot, or the outputs of an RxPDO, which are one access of
path 0x7E (R627, R634, R724). -/
inductive Access where
  | write (path idx sub : Nat) (wide : Bool) (v : DWord) (keylockN : Bool) (ev : DictEv)
  | read (path idx sub : Nat) (wide : Bool) (ecc : Ecc) (ev : DictEv)
  | outputs (bs : List Byte)
  deriving DecidableEq, Repr

/-- An error as it is reported to the log intake (R680, R685). `recovery` numbers the recovery that goes on beyond the log entry (R689), 0 with none,
and `failed` says that it failed before the entry was written. -/
structure ErrRep where
  code : Nat
  kind : Nat
  oid : Nat
  aux : Word
  detail : DWord
  recovery : Nat := 0
  failed : Bool := false
  deriving DecidableEq, Repr

end Sys2Proof
end

