-- ==== Sys2Proof/Syntax.lean ====
section
/-! DEFINITION. The commands of the block: one constructor for each row of spec/opcode_table.json. The rows give no
operand fields, so the operands are the model's (log 4): the object a command acts on, the fields of the word written
where the command is a dictionary write (then `path` first, R627), what arrives with an event, and what physics
decides. -/

namespace Sys2Proof

/-- The commands: one constructor for each row of the table of operations and events, in the table's order. -/
inductive Instr where
  /-- CELL_PASS (R45): A cell fires PASS, copying operand A to its output register and writing Z and N. -/
  | cellPass (p c : Nat) (ev : FabEv)
  /-- CELL_ADD (R45): A cell fires ADD, adding A, B and the carry in and writing C, OV, Z and N. -/
  | cellAdd (p c : Nat) (ev : FabEv)
  /-- CELL_SUB (R45): A cell fires SUB, adding A, NOT B and the carry in and writing C, OV, Z and N. -/
  | cellSub (p c : Nat) (ev : FabEv)
  /-- CELL_AND (R45): A cell fires AND of A and B. -/
  | cellAnd (p c : Nat) (ev : FabEv)
  /-- CELL_OR (R45): A cell fires OR of A and B. -/
  | cellOr (p c : Nat) (ev : FabEv)
  /-- CELL_XOR (R45): A cell fires XOR of A and B. -/
  | cellXor (p c : Nat) (ev : FabEv)
  /-- CELL_ANDN (R45): A cell fires A AND NOT B. -/
  | cellAndn (p c : Nat) (ev : FabEv)
  /-- CELL_SHL (R45): A cell fires a logical left shift of A by B[4:0], with C the last bit shifted out. -/
  | cellShl (p c : Nat) (ev : FabEv)
  /-- CELL_SHR (R45): A cell fires a logical right shift of A by B[4:0]. -/
  | cellShr (p c : Nat) (ev : FabEv)
  /-- CELL_SAR (R45): A cell fires an arithmetic right shift of A by B[4:0]. -/
  | cellSar (p c : Nat) (ev : FabEv)
  /-- CELL_ROL (R45): A cell fires a left rotate of A by B[4:0], with C = Y[0]. -/
  | cellRol (p c : Nat) (ev : FabEv)
  /-- CELL_ROR (R45): A cell fires a right rotate of A by B[4:0], with C = Y[31]. -/
  | cellRor (p c : Nat) (ev : FabEv)
  /-- CELL_EXTU (R46): A cell fires EXTU, extracting a zero-extended field of A at pos and width from IMM. -/
  | cellExtu (p c : Nat) (ev : FabEv)
  /-- CELL_EXTS (R46): A cell fires EXTS, extracting a sign-extended field of A, truncated at bit 31. -/
  | cellExts (p c : Nat) (ev : FabEv)
  /-- CELL_INS (R46): A cell fires INS, replacing a field of B with the low bits of A. -/
  | cellIns (p c : Nat) (ev : FabEv)
  /-- CELL_POPC (R45): A cell fires POPC, counting the 1 bits of A. -/
  | cellPopc (p c : Nat) (ev : FabEv)
  /-- CELL_CLZ (R45): A cell fires CLZ, counting the leading zero bits of A. -/
  | cellClz (p c : Nat) (ev : FabEv)
  /-- CELL_MINU (R45): A cell fires the unsigned minimum of A and B, setting F when A is chosen. -/
  | cellMinu (p c : Nat) (ev : FabEv)
  /-- CELL_MAXU (R45): A cell fires the unsigned maximum of A and B, setting F when A is chosen. -/
  | cellMaxu (p c : Nat) (ev : FabEv)
  /-- CELL_MINS (R45): A cell fires the signed minimum of A and B. -/
  | cellMins (p c : Nat) (ev : FabEv)
  /-- CELL_MAXS (R45): A cell fires the signed maximum of A and B. -/
  | cellMaxs (p c : Nat) (ev : FabEv)
  /-- CELL_CMPEQ (R45): A cell fires an equality compare, writing all ones or zero and F. -/
  | cellCmpeq (p c : Nat) (ev : FabEv)
  /-- CELL_CMPNE (R45): A cell fires an inequality compare. -/
  | cellCmpne (p c : Nat) (ev : FabEv)
  /-- CELL_CMPLTU (R45): A cell fires an unsigned less-than compare. -/
  | cellCmpltu (p c : Nat) (ev : FabEv)
  /-- CELL_CMPLTS (R45): A cell fires a signed less-than compare. -/
  | cellCmplts (p c : Nat) (ev : FabEv)
  /-- CELL_CMPLEU (R45): A cell fires an unsigned less-or-equal compare. -/
  | cellCmpleu (p c : Nat) (ev : FabEv)
  /-- CELL_CMPLES (R45): A cell fires a signed less-or-equal compare. -/
  | cellCmples (p c : Nat) (ev : FabEv)
  /-- CELL_SEL (R45): A cell fires SEL, choosing A or B by its F flag as held before the cycle. -/
  | cellSel (p c : Nat) (ev : FabEv)
  /-- CELL_LFSR (R49): A cell fires LFSR, shifting A right and XORing the K7 tap mask when A[0] is 1. -/
  | cellLfsr (p c : Nat) (ev : FabEv)
  /-- CELL_CRC8 (R47): A cell fires CRC8, updating a CRC-32C value in A with byte B[7:0]. -/
  | cellCrc8 (p c : Nat) (ev : FabEv)
  /-- CELL_PAR (R48): A cell fires PAR, shifting B left and inserting the parity of A masked by K[KM]. -/
  | cellPar (p c : Nat) (ev : FabEv)
  /-- CELL_QPUSH (R51): A west-edge cell holding a gate credit fires QPUSH, handing A with its tags to the gate for the target queue. -/
  | cellQpush (p c : Nat) (ev : FabEv)
  /-- CELL_QPOP (R52): A west-edge cell with fewer than four pops outstanding fires QPOP, sending a POP with MAX 1 to the queue. -/
  | cellQpop (p c : Nat) (ev : FabEv)
  /-- QPOP_RESULT (R52): The answer to an outstanding QPOP returns and its word, or F = 0 for an empty answer, reaches the cell in issue order. -/
  | qpopResult (p n c : Nat) (st : PopStatus) (w : QWord) (parity : Bool)
  /-- BM_PORT_READ (R79): A block memory port fires a read with an address word, placing the data in its read-data register a cycle later. -/
  | bmPortRead (p n : Nat) (lo hi : Ecc) (parity : Bool)
  /-- BM_PORT_WRITE (R80): A block memory port fires a write, full-width in one cycle or narrow by read-merge-write over two. -/
  | bmPortWrite (p n : Nat) (ecc : Ecc) (parity : Bool)
  /-- BM_SCRUB_WRITEBACK (R84): A corrected block memory word is written back in the next cycle in which neither port writes. -/
  | bmScrubWriteback (p m : Nat)
  /-- SEQUENCER_CHOICE (R93): The flask sequencer chooses the slot that runs in the next CLK_FAB cycle by the priority rules. -/
  | sequencerChoice (p : Nat) (ev : FabEv)
  /-- FLASK_DISPATCH_MSG (R99): A dispatch message from Cupola reaches a flask gate and is queued in the dispatch FIFO or answered REFUSED. -/
  | flaskDispatchMsg (p ctx run token core tag : Nat)
  /-- DISPATCH_ENTRY_RETIRE (R100): The head dispatch entry's run count reaches RUN_CYCLES and the entry retires. -/
  | dispatchEntryRetire (p : Nat)
  /-- BOUNDARY_CROSS (R113): An edge cell's word crosses a boundary lane once the sending context holds a credit and the destination context is resident. -/
  | boundaryCross (p sl : Nat) (parity : Bool)
  /-- CTX_SPILL (R120): The context engine starts a spill of a slot once no QPOP of its context is outstanding. -/
  | ctxSpill (p : Nat)
  /-- CTX_SPILL_COMPLETE (R120): Every write of a spill has been answered and the slot becomes EMPTY. -/
  | ctxSpillComplete (p : Nat)
  /-- CTX_FILL (R121): The context engine starts a fill, choosing a victim if needed, once no write to the record is unanswered. -/
  | ctxFill (p : Nat)
  /-- CTX_FILL_COMPLETE (R121): The last line of a fill is written and the slot becomes RESIDENT. -/
  | ctxFillComplete (p : Nat)
  /-- CTX_CMD_FILL (R140): CTX_CMD FILL asks the context engine to fill a context into a slot. -/
  | ctxCmdFill (path p x n : Nat)
  /-- CTX_CMD_SPILL (R140): CTX_CMD SPILL asks the context engine to spill a slot. -/
  | ctxCmdSpill (path p n : Nat)
  /-- CTX_CMD_PIN (R140): CTX_CMD PIN pins a slot. -/
  | ctxCmdPin (path p n : Nat)
  /-- CTX_CMD_UNPIN (R140): CTX_CMD UNPIN unpins a slot. -/
  | ctxCmdUnpin (path p n : Nat)
  /-- CTX_CMD_EVICT (R140): CTX_CMD EVICT spills a slot if dirty and empties it. -/
  | ctxCmdEvict (path p n : Nat)
  /-- CTX_STATUS_CLR (R135): A write to CTX_STATUS_CLR clears status word bits of the selected context. -/
  | ctxStatusClr (path p : Nat) (w : Word)
  /-- CTX_WIN_DATA_READ (R136): A read of CTX_WIN_DATA returns live state for a resident context or the backing record from catch memory. -/
  | ctxWinDataRead (path p : Nat)
  /-- RECAST_CMD_START (R128): RECAST_CMD START begins a recast into PRECOPY when R127 and R128 hold. -/
  | recastCmdStart (path k target : Nat)
  /-- RECAST_CMD_CANCEL (R131): RECAST_CMD CANCEL aborts a recast in PRECOPY or DRAIN. -/
  | recastCmdCancel (path k : Nat)
  /-- RECAST_CMD_RELEASE (R141): RECAST_CMD RELEASE returns a RETIRED flask, repowered since, to SPARE_IDLE. -/
  | recastCmdRelease (path p : Nat)
  /-- RECAST_PRECOPY_COMPLETE (R129): A precopy pass completes and the recast enters DRAIN or copies dirty words again. -/
  | recastPrecopyComplete (y : Nat)
  /-- RECAST_FREEZE (R129): At the first pour tick with the drain conditions met, the source freezes and its live state is copied. -/
  | recastFreeze (y : Nat)
  /-- RECAST_DONE (R129): On the first pour tick after the freeze copy, the recast map, routes and initiator ID switch to the target. -/
  | recastDone (y : Nat)
  /-- RECAST_TIMEOUT (R129): RECAST_TIMEOUT expires in DRAIN and the recast aborts with TIMEOUT. -/
  | recastTimeout (y : Nat)
  /-- RECAST_TARGET_FAULT (R129): An uncorrectable error in a copied word at the target aborts the recast. -/
  | recastTargetFault (y : Nat)
  /-- CRU_NOP (R181): The crucible executes NOP. -/
  | cruNop (p : Nat) (ev : CruEv)
  /-- CRU_HALT (R192): The crucible executes HALT and leaves RUNNING with CAUSE 1. -/
  | cruHalt (p : Nat) (ev : CruEv)
  /-- CRU_B (R153): The crucible executes a conditional branch with two delay slots. -/
  | cruB (p : Nat) (ev : CruEv)
  /-- CRU_CALL (R184): The crucible executes CALL, pushing the return address. -/
  | cruCall (p : Nat) (ev : CruEv)
  /-- CRU_RET (R184): The crucible executes RET, popping the return address. -/
  | cruRet (p : Nat) (ev : CruEv)
  /-- CRU_RETI (R165): The crucible executes RETI, restoring ST from IST and resuming at IRA after two delay slots. -/
  | cruReti (p : Nat) (ev : CruEv)
  /-- CRU_REP (R157): The crucible executes REP, repeating the next instruction c times. -/
  | cruRep (p : Nat) (ev : CruEv)
  /-- CRU_BREP (R158): The crucible executes BREP, opening a block repeat level. -/
  | cruBrep (p : Nat) (ev : CruEv)
  /-- CRU_EI (R181): The crucible executes EI, enabling interrupts. -/
  | cruEi (p : Nat) (ev : CruEv)
  /-- CRU_DI (R181): The crucible executes DI, disabling interrupts. -/
  | cruDi (p : Nat) (ev : CruEv)
  /-- CRU_MOV (R181): The crucible executes MOV from a register or immediate to a register. -/
  | cruMov (p : Nat) (ev : CruEv)
  /-- CRU_LOAD (R152): The crucible loads a D register from X or Y through a pointer with its step. -/
  | cruLoad (p : Nat) (ev : CruEv)
  /-- CRU_STORE (R152): The crucible stores a D register to X or Y through a pointer with its step. -/
  | cruStore (p : Nat) (ev : CruEv)
  /-- CRU_MODP (R152): The crucible applies a step to a pointer without an access. -/
  | cruModp (p : Nat) (ev : CruEv)
  /-- CRU_ADD (R181): The crucible ALU adds two D registers or an immediate. -/
  | cruAdd (p : Nat) (ev : CruEv)
  /-- CRU_SUB (R181): The crucible ALU subtracts. -/
  | cruSub (p : Nat) (ev : CruEv)
  /-- CRU_AND (R181): The crucible ALU ANDs. -/
  | cruAnd (p : Nat) (ev : CruEv)
  /-- CRU_OR (R181): The crucible ALU ORs. -/
  | cruOr (p : Nat) (ev : CruEv)
  /-- CRU_XOR (R181): The crucible ALU XORs. -/
  | cruXor (p : Nat) (ev : CruEv)
  /-- CRU_ANDN (R181): The crucible ALU computes AND NOT. -/
  | cruAndn (p : Nat) (ev : CruEv)
  /-- CRU_SHL (R181): The crucible ALU shifts left. -/
  | cruShl (p : Nat) (ev : CruEv)
  /-- CRU_SHR (R181): The crucible ALU shifts right logically. -/
  | cruShr (p : Nat) (ev : CruEv)
  /-- CRU_SAR (R181): The crucible ALU shifts right arithmetically. -/
  | cruSar (p : Nat) (ev : CruEv)
  /-- CRU_CMP (R181): The crucible ALU compares and sets flags without writing D. -/
  | cruCmp (p : Nat) (ev : CruEv)
  /-- CRU_MPY (R169): The crucible MAC lanes multiply and set the accumulators and epochs. -/
  | cruMpy (p : Nat) (ev : CruEv)
  /-- CRU_MAC (R172): The crucible MAC lanes add products to the accumulators, stepping epochs or saturating. -/
  | cruMac (p : Nat) (ev : CruEv)
  /-- CRU_MSU (R172): The crucible MAC lanes subtract products from the accumulators. -/
  | cruMsu (p : Nat) (ev : CruEv)
  /-- CRU_MACS (R171): The crucible multiplies the window by a coefficient into four lanes and slides the window. -/
  | cruMacs (p : Nat) (ev : CruEv)
  /-- CRU_CMPY (R179): In 1024 mode the crucible sets an accumulator pair to a complex product. -/
  | cruCmpy (p : Nat) (ev : CruEv)
  /-- CRU_CMAC (R179): In 1024 mode the crucible adds a complex product to an accumulator pair. -/
  | cruCmac (p : Nat) (ev : CruEv)
  /-- CRU_CMSU (R179): In 1024 mode the crucible subtracts a complex product from an accumulator pair. -/
  | cruCmsu (p : Nat) (ev : CruEv)
  /-- CRU_CMACJ (R179): In 1024 mode the crucible accumulates a product with the conjugate of b. -/
  | cruCmacj (p : Nat) (ev : CruEv)
  /-- CRU_CLR (R175): The crucible clears the accumulators and epochs of the masked lanes. -/
  | cruClr (p : Nat) (ev : CruEv)
  /-- CRU_EXT32 (R176): The crucible extracts a lane value shifted, convergently rounded and saturated into D. -/
  | cruExt32 (p : Nat) (ev : CruEv)
  /-- CRU_EXT16 (R176): The crucible extracts a lane value into one half of D. -/
  | cruExt16 (p : Nat) (ev : CruEv)
  /-- CRU_SIN (R188): The crucible takes a word from a stream input once it holds one, copying its tags. -/
  | cruSin (p : Nat) (ev : CruEv)
  /-- CRU_SOUT (R188): The crucible places a word in a stream output once it has room. -/
  | cruSout (p : Nat) (ev : CruEv)
  /-- CRU_INTERRUPT_ACCEPT (R164): The crucible accepts an enabled stream interrupt at an acceptable boundary and enters its handler. -/
  | cruInterruptAccept (p : Nat)
  /-- CRU_HOLDOFF_LIMIT (R167): The hold-off counter reaches HLIM; error 0x3201 is logged and HLIM_HIT set. -/
  | cruHoldoffLimit (p : Nat)
  /-- CRU_SCRUB_WRITEBACK (R195): A corrected crucible memory word is scrubbed in a free cycle of its bus. -/
  | cruScrubWriteback (p : Nat)
  /-- CRU_CMD_RUN (R194): CRU_CMD RUN starts the crucible from HALTED or ERROR at PC or ENTRY. -/
  | cruCmdRun (path p : Nat) (useEntry : Bool) (entry : Nat)
  /-- CRU_CMD_HALT (R194): CRU_CMD HALT asks a running crucible to halt at its next interrupt-acceptable point. -/
  | cruCmdHalt (path p : Nat)
  /-- CRU_HALT_POINT (R194): A requested halt reaches an interrupt-acceptable point and the crucible becomes HALTED. -/
  | cruHaltPoint (p : Nat)
  /-- CRU_CMD_STEP (R194): CRU_CMD STEP executes one instruction from HALTED. -/
  | cruCmdStep (path p : Nat) (ev : CruEv)
  /-- CRU_CMD_CLEAR_PORTS (R194): CRU_CMD CLEAR_PORTS empties the stream FIFOs. -/
  | cruCmdClearPorts (path p : Nat)
  /-- CRU_WIN_WRITE (R190): A write of CRU_WIN_WRITE stores the selected crucible word when HALTED or in ERROR. -/
  | cruWinWrite (path p : Nat) (v : Word)
  /-- CRU_WIN_DATA_READ (R191): A read of CRU_WIN_DATA takes a free bus cycle, stalling the program after 16 cycles if needed. -/
  | cruWinDataRead (path p : Nat) (late : Bool) (ecc : Ecc)
  /-- CRU_STICKY_CLEAR (R189): A W1C write of CRU_STICKY clears sticky bits in ST. -/
  | cruStickyClear (path p : Nat) (w : Word)
  /-- PUSH (R231): The tundish applies a PUSH message, storing, rewinding, refusing or discarding each word and committing packets. -/
  | push (src q : Nat) (sop : Bool) (ws : List QWord) (corrected : Nat) (bad : List Nat) (ev : TunEv) (same : Bool)
  /-- REWIND (R234): The tundish receives REWIND and abandons the queue's open packet. -/
  | rewind (src q : Nat) (ev : TunEv)
  /-- POP (R239): The tundish answers a POP with committed words, EMPTY, IDLE or REFUSED. -/
  | pop (src q max tag : Nat) (bad : List Nat) (ev : TunEv)
  /-- CR_WAIT_EXPIRY (R226): CR_WAIT cycles pass since the oldest accrued credit and a CREDIT is sent. -/
  | crWaitExpiry (q : Nat)
  /-- REVOKE_ACK (R229): The tundish receives REVOKE_ACK, zeroes CREDIT_OUT and disables the queue. -/
  | revokeAck (src q n : Nat) (ev : TunEv)
  /-- WATCH_SET (R244): The tundish registers or clears a gate's watch and answers with the current state. -/
  | watchSet (src q i : Nat) (en : Bool)
  /-- GATE_CREDIT (R223): A producer gate sinks a CREDIT message and adds to its credits for the queue. -/
  | gateCredit (i q n : Nat)
  /-- GATE_REVOKE (R229): A producer receives REVOKE, drops its credits and sends REVOKE_ACK. -/
  | gateRevoke (i q : Nat)
  /-- GATE_WATCH_STATE (R98): A flask gate receives WATCH_STATE and updates its watch condition. -/
  | gateWatchState (i q ix : Nat) (ne : Bool)
  /-- GATE_PUSH_SEND (R258): A gate sends a gathered PUSH when it holds 16 words or no further word came in a cycle. -/
  | gatePushSend (i q : Nat)
  /-- DEEP_SPILL_ANSWER (R204): The block writes of a deep spill are answered; the block is linked or the move abandoned. -/
  | deepSpillAnswer (q : Nat) (ev : TunEv)
  /-- DEEP_REFILL_ANSWER (R204): The refill read returns; words are stored, poisoned where needed, and the block freed. -/
  | deepRefillAnswer (q : Nat) (ev : TunEv)
  /-- DEEP_BLOCKS_WRITE (R209): A write of DEEP_BLOCKS with a non-zero value starts initialisation of the deep link table. -/
  | deepBlocksWrite (path : Nat) (v : Word)
  /-- DEEP_INIT_COMPLETE (R209): Initialisation of the deep region's link table completes. -/
  | deepInitComplete
  /-- QUEUE_ENABLE (R210): QCFG EN written 1 reserves the pool and grants credits, or is refused. -/
  | queueEnable (path : Nat) (v : Word) (ev : TunEv)
  /-- QUEUE_DISABLE (R210): QCFG EN written 0 flushes the queue and sends REVOKE to the producer. -/
  | queueDisable (path : Nat) (v : Word) (ev : TunEv)
  /-- FLUSH (R245): A write of 1 to FLUSH empties the queue in one cycle and returns its credits. -/
  | flush (path : Nat) (v : Word) (ev : TunEv)
  /-- TUNDISH_SWEEP_COMPLETE (R252): A sweep completes, freeing stale cells and blocks and returning the reset queues' credits. -/
  | tundishSweepComplete (q : Nat) (ev : TunEv)
  /-- BAR4_PUSH (R260): A host write to a queue's PUSH offset pushes a word with L = 0. -/
  | bar4Push (q : Nat) (v : Word)
  /-- BAR4_PUSH_LAST (R260): A host write to PUSH_LAST pushes a word with L = 1. -/
  | bar4PushLast (q : Nat) (v : Word)
  /-- BAR4_PUSH_ABANDON (R260): A host write to PUSH_ABANDON sends REWIND. -/
  | bar4PushAbandon (q ofs : Nat)
  /-- BAR4_CREDIT_TAKE (R260): A host read of CREDIT_TAKE returns and hands over the credits granted since the last read. -/
  | bar4CreditTake (q ofs : Nat)
  /-- BAR4_POP (R260): A host 8-byte read of POP pops one word. -/
  | bar4Pop (q : Nat)
  /-- LC_QUEUE_PUSH (R274): A core store to a queue's push word sends the word with L = 0 once the gate holds a credit. -/
  | lcQueuePush (c : Nat) (ev : LcEv)
  /-- LC_QUEUE_PUSH_LAST (R273): A core store to a queue's push-last word sends the word with L = 1. -/
  | lcQueuePushLast (c : Nat) (ev : LcEv)
  /-- QPUSH_TIMEOUT (R274): QPUSH_TIMEOUT passes without a credit; the store faults and error 0x3503 is logged. -/
  | qpushTimeout (c : Nat)
  /-- LC_QUEUE_POP (R276): A core store of a POP command sends a POP and stalls the core. -/
  | lcQueuePop (c : Nat) (ev : LcEv)
  /-- LC_POP_RESPONSE (R277): The POP response is written to the destination and the stalled store completes. -/
  | lcPopResponse (c : Nat) (st : PopStatus) (ws : List QWord)
  /-- LC_QUEUE_REWIND (R273): A core store to offset 0xC sends REWIND. -/
  | lcQueueRewind (c : Nat) (ev : LcEv)
  /-- LC_INSTRUCTION (R267): A ladle core executes an RV32IMAC or Zicsr instruction. -/
  | lcInstruction (c : Nat) (ev : LcEv)
  /-- LC_RUNNER_LOAD (R271): A core load from the runner window issues a runner network read. -/
  | lcRunnerLoad (c : Nat) (ev : LcEv)
  /-- LC_RUNNER_STORE (R271): A core store to the runner window issues a posted write. -/
  | lcRunnerStore (c : Nat) (ev : LcEv)
  /-- LC_FENCE (R271): FENCE waits until every earlier posted write has been answered. -/
  | lcFence (c : Nat) (ev : LcEv)
  /-- LDM (R303): LDM loads the masked registers from consecutive words, interruptibly, using XBPROG. -/
  | ldm (c n : Nat) (ev : LcEv)
  /-- STM (R303): STM stores the masked registers to consecutive words, interruptibly. -/
  | stm (c n : Nat) (ev : LcEv)
  /-- BRET (R293): BRET pops the level stack in LEVEL mode, or in bank 0 resumes the faulted bank. -/
  | bret (c : Nat) (ev : LcEv)
  /-- MRET (R307): MRET returns from a trap and moves XBTPROG back to XBPROG. -/
  | mret (c : Nat) (ev : LcEv)
  /-- LC_DISPATCH_ACCEPT (R286): A core accepts a Cupola dispatch and switches to the thread's bank in one cycle. -/
  | lcDispatchAccept (c : Nat)
  /-- LC_SOURCE_TRAP (R291): In THREAD mode an accepted local source is taken as a trap in the current bank. -/
  | lcSourceTrap (c src : Nat)
  /-- LC_LEVEL_ENTRY (R292): In LEVEL mode an accepted local source switches to its level's bank and vector. -/
  | lcLevelEntry (c src : Nat)
  /-- XBREADY_WRITE (R285): Writing 1 to XBREADY in THREAD mode ends the boot context and opens the core to dispatch. -/
  | xbreadyWrite (c : Nat) (ev : LcEv)
  /-- XBWDATA_WRITE (R284): Bank 0 writes the selected item of another bank through XBWDATA. -/
  | xbwdataWrite (c : Nat) (ev : LcEv)
  /-- BANK_SPILL (R298): The spill unit starts spilling a victim bank to keep FREE_TARGET banks free. -/
  | bankSpill (c : Nat)
  /-- BANK_SPILL_COMPLETE (R296): A bank spill completes and the bank becomes FREE. -/
  | bankSpillComplete (c : Nat) (corrected bad : List Nat)
  /-- BANK_FILL (R297): The spill unit starts filling a bank for a dispatched thread. -/
  | bankFill (c : Nat)
  /-- BANK_FILL_COMPLETE (R296): A bank fill completes and binds the bank. -/
  | bankFillComplete (c : Nat) (corrected bad : List Nat)
  /-- LC_FW_LOAD_COMPLETE (R315): A firmware load finishes and the core runs, parks, tries the other slot or halts. -/
  | lcFwLoadComplete (c : Nat)
  /-- LC_CMD_PARK (R315): LC_CMD PARK moves a running core to PARKING. -/
  | lcCmdPark (path c : Nat)
  /-- LC_PARK_COMPLETE (R315): A parking core has banks 1-31 FREE at level 0 and becomes PARKED. -/
  | lcParkComplete (c : Nat)
  /-- LC_CMD_JOIN (R315): LC_CMD JOIN returns a parked core to RUNNING. -/
  | lcCmdJoin (path c : Nat)
  /-- LC_CMD_RELOAD (R315): LC_CMD RELOAD loads a named firmware slot into a parked core. -/
  | lcCmdReload (path c : Nat) (slotB : Bool)
  /-- LC_CMD_RESTART (R315): LC_CMD RESTART resets the banks of a halted core and loads a slot. -/
  | lcCmdRestart (path c : Nat) (slotB : Bool)
  /-- POST (R330): Cupola accepts a work item into item memory, ELIGIBLE or WAITING on its flow, or refuses it. -/
  | post (c : Nat) (lev : LcEv) (ev : CupEv)
  /-- SEND (R342): Cupola applies a SEND of a tag and value to the match store. -/
  | send (c : Nat) (lev : LcEv) (ev : CupEv)
  /-- WAIT_MATCH (R343): A thread arms or fills match slots for 1 to 4 tags, or continues at once when all are held. -/
  | waitMatch (c : Nat) (lev : LcEv) (ev : CupEv)
  /-- DELAY (R347): A thread enters its home core's delay list for d ticks. -/
  | delay (c : Nat) (lev : LcEv) (ev : CupEv)
  /-- YIELD (R323): A running thread yields and goes to the tail of its priority. -/
  | yield (c : Nat) (lev : LcEv) (ev : CupEv)
  /-- CANCEL (R348): A thread is cancelled: its item ends, slots freed, delay removed and bank freed. -/
  | cancel (c : Nat) (lev : LcEv) (ev : CupEv)
  /-- CREATE (R323): A FREE or CANCELLED thread is created as IDLE or READY. -/
  | create (c : Nat) (lev : LcEv) (ev : CupEv)
  /-- FDISPATCH (R358): A core sends a context dispatch to a flask through Cupola. -/
  | fdispatch (c : Nat) (lev : LcEv) (ev : CupEv)
  /-- ABANDON (R323): A bank-fault handler moves a thread to FAULTED with its item still in service. -/
  | abandon (c : Nat) (lev : LcEv) (ev : CupEv)
  /-- RESTART (R323): A FAULTED thread becomes READY at its entry address with its item delivered again. -/
  | restart (c : Nat) (lev : LcEv) (ev : CupEv)
  /-- DONE (R334): A thread stores to DONE, ending its item's service and taking a new item or becoming IDLE. -/
  | done (c : Nat) (same : Bool) (lev : LcEv) (ev : CupEv)
  /-- ATTN_READ (R356): A read of ATTN returns and clears ABANDONED, CORE_HALTED and RING_STALL. -/
  | attnRead (c : Nat) (ev : LcEv)
  /-- CUPOLA_DISPATCH (R338): Cupola sends the most urgent dispatchable READY thread to a candidate core, up to eight per cycle. -/
  | cupolaDispatch (ev : CupEv)
  /-- DISPATCH_WITHDRAW (R339): A dispatch not accepted within the next cycle is withdrawn. -/
  | dispatchWithdraw (c : Nat)
  /-- DELAY_EXPIRY (R347): A DELAY expires on its tick and the thread becomes READY with RESULT OK. -/
  | delayExpiry (t : Nat)
  /-- MATCH_TIMEOUT (R323): A WAIT_MATCH timeout expires; armed slots are freed and the thread becomes READY with TIMEOUT. -/
  | matchTimeout (t : Nat)
  /-- RING_POP (R353): Cupola pops one packet from an input ring in round robin and posts or sends it. -/
  | ringPop (ev : CupEv)
  /-- RING_RETRY (R354): A staged ring packet that was refused is retried in the next cycle. -/
  | ringRetry (r : Nat)
  /-- FLASK_COMPLETION (R346): A flask gate's dispatch completion arrives at Cupola as a SEND on a device tag. -/
  | flaskCompletion (k ctx token : Nat) (cut : Bool) (ev : CupEv)
  /-- CUPOLA_HALT_PLACEMENT (R360): Cupola receives the threads spilled from a halted core and makes them READY at the head of their priority. -/
  | cupolaHaltPlacement (c : Nat) (ev : CupEv)
  /-- T_CMD_CREATE (R364): T_CMD CREATE creates the selected thread. -/
  | tCmdCreate (path : Nat)
  /-- T_CMD_CANCEL (R364): T_CMD CANCEL cancels the selected thread. -/
  | tCmdCancel (path : Nat)
  /-- T_CMD_RESTART (R364): T_CMD RESTART restarts the selected FAULTED thread. -/
  | tCmdRestart (path : Nat)
  /-- T_CMD_RELEASE (R364): T_CMD RELEASE returns a CANCELLED thread to FREE. -/
  | tCmdRelease (path : Nat)
  /-- GATE_INJECT (R400): A gate injects a request once a tag, answer space and bucket level allow. -/
  | gateInject (i tc : Nat)
  /-- RUNNER_HOP (R381): A packet header crosses into a router, is checked and corrected and leaves on its look-ahead port. -/
  | runnerHop (k : Nat) (ev : HopEv)
  /-- GATE_ANSWER (R389): A response-class answer reaches its gate and completes the transaction. -/
  | gateAnswer (i : Nat) (pkt : Packet) (corrected : Nat) (bad : List Nat) (lat : Nat)
  /-- GATE_DROP_NOTICE (R397): A drop notice reaches a gate, which completes the named or all transactions LOST. -/
  | gateDropNotice (i tag : Nat)
  /-- RSP_TIMEOUT (R392): A transaction unanswered within RSP_TIMEOUT is completed LOST. -/
  | rspTimeout (i tag : Nat)
  /-- TAG_QUARANTINE_END (R392): After 4 x RSP_TIMEOUT a lost transaction's TAG becomes reusable. -/
  | tagQuarantineEnd (i tag : Nat)
  /-- PORT_DRAINED (R404): A closing port has no outstanding transaction or flit and becomes CLOSED. -/
  | portDrained (r n : Nat)
  /-- CLOSE_TIMEOUT (R404): CLOSE_TIMEOUT passes on a closing port and error 0x3605 is logged. -/
  | closeTimeout (r n : Nat)
  /-- PORT_CREDITS_EXCHANGED (R404): Hop credits are exchanged both ways and the port becomes OPEN. -/
  | portCreditsExchanged (r n : Nat)
  /-- RTR_CMD_APPLY (R409): RTR_CMD APPLY schedules the staged routing table and holds new look-ahead from the next tick. -/
  | rtrCmdApply (path r : Nat)
  /-- ROUTE_TABLE_SWITCH (R409): On the first pour tick with no old look-ahead in use, the staged table becomes live. -/
  | routeTableSwitch (r : Nat)
  /-- RTR_CMD_DISCARD (R412): RTR_CMD DISCARD copies the live table into the staged table. -/
  | rtrCmdDiscard (path r : Nat)
  /-- RD (R436): A channel receives a RD of up to four lines and queues their line reads. -/
  | rd (n : Nat) (pkt : Packet)
  /-- WR (R436): A channel receives a WR, queuing line writes or read-merge-writes. -/
  | wr (n : Nat) (pkt : Packet) (corrected : Nat) (bad : List Nat)
  /-- FOLD (R438): A channel receives a FOLD and joins or allocates a combining buffer entry, or rejects it. -/
  | fold (n : Nat) (pkt : Packet) (corrected : Nat) (bad : List Nat)
  /-- FOLD_ENTRY_ISSUE (R443): A combining entry issues its line read after FOLD_HOLD, under pressure, or when another operation arrives behind it. -/
  | foldEntryIssue (n line : Nat)
  /-- LINE_ACCESS_ISSUE (R435): The scheduler issues an activate and access for the oldest eligible line of a subchannel queue. -/
  | lineAccessIssue (n sub : Nat) (busy : List Nat) (errs : List (Nat × Option Nat)) (bad : List Nat) (corr : Bool)
  /-- RDATA_SEND (R437): Every line of a RD has been read and the channel sends RDATA. -/
  | rdataSend (n : Nat)
  /-- WACK_SEND (R437): Every line write of a WR or FOLD has issued and the channel sends WACK. -/
  | wackSend (n : Nat)
  /-- REFRESH_OBLIGATION (R444): REF_INTERVAL passes and a same-bank refresh obligation accrues. -/
  | refreshObligation (n cs cid bank : Nat)
  /-- REFSB_ISSUE (R445): The controller issues a REFsb for an owed obligation when its banks are free or urgent. -/
  | refsbIssue (n cs cid bank : Nat)
  /-- PHY_PLL_LOCK (R419): A catch PHY PLL locks and waiting channel commands proceed. -/
  | phyPllLock (n : Nat)
  /-- CH_CFG_WRITE (R448): A write of CH_CFG in OFFLINE or FAILED_TRAIN sets speed and geometry, relocking the PHY and clearing DLY_VALID as needed. -/
  | chCfgWrite (path n : Nat) (v : Word)
  /-- CH_CMD_ONLINE (R447): CH_CMD ONLINE brings a channel with valid delays ONLINE. -/
  | chCmdOnline (path n : Nat)
  /-- CH_CMD_OFFLINE (R447): CH_CMD OFFLINE starts draining a channel no window uses. -/
  | chCmdOffline (path n : Nat)
  /-- CHANNEL_DRAIN_COMPLETE (R447): A draining channel has answered everything and goes OFFLINE in self-refresh. -/
  | channelDrainComplete (n : Nat)
  /-- CH_CMD_GATHER (R447): CH_CMD GATHER enters GATHERING with staged delays copied from the live set. -/
  | chCmdGather (path n : Nat)
  /-- CH_CMD_RUN_INJ (R455): CH_CMD RUN_INJ runs the injection program once. -/
  | chCmdRunInj (path n : Nat)
  /-- INJ_RUN_COMPLETE (R455): An injection run reaches its end or a reserved KIND. -/
  | injRunComplete (n : Nat) (caps : List (List DWord × List DWord))
  /-- CH_CMD_SWEEP (R456): CH_CMD SWEEP starts a delay sweep of the staged codes. -/
  | chCmdSweep (path n : Nat)
  /-- TRAIN_SWEEP_COMPLETE (R456): A delay sweep finishes or ends at a code above 0xFFFF and restores the staged codes. -/
  | trainSweepComplete (n : Nat) (caps : List (List (List DWord × List DWord)))
  /-- CH_CMD_ABORT_RUN (R457): CH_CMD ABORT_RUN ends a run or sweep at the next entry boundary. -/
  | chCmdAbortRun (path n : Nat) (caps : List (List (List DWord × List DWord)))
  /-- CH_CMD_END_GATHER_ACCEPT (R447): END_GATHER ACCEPT makes the staged set live and returns to OFFLINE. -/
  | chCmdEndGatherAccept (path n : Nat)
  /-- CH_CMD_END_GATHER_FAIL (R447): END_GATHER FAIL discards the staged set and enters FAILED_TRAIN. -/
  | chCmdEndGatherFail (path n : Nat)
  /-- CH_CMD_SAVE_DELAYS (R453): CH_CMD SAVE_DELAYS starts writing the live set and settings to the mould store delay area. -/
  | chCmdSaveDelays (path n : Nat)
  /-- SAVE_DELAYS_COMPLETE (R453): The SAVE_DELAYS write session completes. -/
  | saveDelaysComplete (n : Nat)
  /-- CATCH_ALERT (R472): A CHn_ALERT_N pulse precharges all banks and reissues the last 256 tCK of commands. -/
  | catchAlert (n : Nat)
  /-- PHY_CLOCK_LOSS (R473): A catch PHY clock is lost, a fatal fault of its channel. -/
  | phyClockLoss (n : Nat)
  /-- EVAC_CMD_START (R458): EVAC_CMD START begins copying a window to a destination placement. -/
  | evacCmdStart (path src dst : Nat)
  /-- EVAC_CMD_CANCEL (R462): EVAC_CMD CANCEL ends an evacuation ABORTED. -/
  | evacCmdCancel (path : Nat)
  /-- EVAC_COPY_COMPLETE (R461): The evacuation copy completes and gates hold new requests to the window. -/
  | evacCopyComplete (errs : List (Nat × Option Nat))
  /-- EVAC_SWITCH (R461): On the first pour tick with no unanswered request, the window takes the new placement. -/
  | evacSwitch
  /-- ZERO_CMD_START (R463): ZERO_CMD START begins zeroing the range. -/
  | zeroCmdStart (path : Nat)
  /-- ZERO_CMD_CANCEL (R795): ZERO_CMD CANCEL ends a zeroing with CANCELLED set. -/
  | zeroCmdCancel (path : Nat)
  /-- ZERO_COMPLETE (R463): Every zero write of the range has issued and BUSY clears. -/
  | zeroComplete
  /-- MAP_ENABLE (R429): Setting EN of a map window checks its placement and enables it on a pour tick. -/
  | mapEnable (path w : Nat) (v : Word)
  /-- MAP_DISABLE (R431): Clearing EN of a map window removes it from every gate on a pour tick. -/
  | mapDisable (path w : Nat)
  /-- DATA_FRAME (R494): A receiver handles a DATA frame: accepts it in order, NAKs it, or discards a duplicate. -/
  | dataFrame (n : Nat) (ws : List Word) (cut : Bool) (ecc : Ecc)
  /-- ACK_FRAME (R497): A side takes ACK and credit grants from an ACK frame, releasing replay buffer frames. -/
  | ackFrame (n : Nat) (ws : List Word) (cut : Bool)
  /-- NAK_FRAME (R498): A NAK starts a replay round from ACK + 1. -/
  | nakFrame (n : Nat) (ws : List Word) (cut : Bool) (ecc : Ecc)
  /-- INIT_FRAME (R509): A side receives INIT; it completes INIT as a resume or partner reset, or moves from ACTIVE to INIT. -/
  | initFrame (n : Nat) (ws : List Word) (cut : Bool) (ecc : Ecc)
  /-- RETRAIN_RUN_START (R798): The start of a run of RETRAIN blocks moves a side in INIT or ACTIVE to RETRAIN. -/
  | retrainRunStart (n : Nat) (prev b : Block)
  /-- LANE_BLOCK_LOCK (R483): A lane gains block lock after 64 valid sync headers. -/
  | laneBlockLock (n l : Nat)
  /-- LANE_BLOCK_LOCK_LOSS (R483): A lane loses block lock after 16 of 64 invalid sync headers. -/
  | laneBlockLockLoss (n l : Nat)
  /-- LANE_MARKER_LOCK (R484): A lane gains marker lock from two matching markers 16,385 blocks apart. -/
  | laneMarkerLock (n l k : Nat)
  /-- LANE_MARKER_LOCK_LOSS (R484): A lane loses marker lock on four missing or a foreign marker. -/
  | laneMarkerLockLoss (n l : Nat)
  /-- LANES_ALIGNED (R485): All eight lanes hold both locks within the skew limit and the port moves from ALIGN to INIT. -/
  | lanesAligned (n : Nat) (skews eqs : List Nat)
  /-- DATA_FRAME_SEND (R503): A side begins the first transmission of a DATA frame once credit covers it. -/
  | dataFrameSend (n : Nat)
  /-- ACK_DELAY_EXPIRY (R500): ACK_DELAY passes after an acceptance or credit free with no frame due, and an ACK frame is sent. -/
  | ackDelayExpiry (n : Nat)
  /-- REPLAY_TIMEOUT (R498): The oldest unacknowledged frame stays unacknowledged for REPLAY_TIMEOUT and a replay starts. -/
  | replayTimeout (n : Nat) (ecc : Ecc)
  /-- KEEPALIVE (R519): KEEPALIVE passes with no frame sent in ACTIVE and an ACK frame is sent. -/
  | keepalive (n : Nat)
  /-- DEAD_TIMEOUT (R514): Nothing good is received for DEAD_TIMEOUT in ACTIVE and the port retrains. -/
  | deadTimeout (n : Nat)
  /-- ALIGN_TIMEOUT (R514): ALIGN_TIMEOUT passes in ALIGN and the port retrains. -/
  | alignTimeout (n : Nat)
  /-- INIT_TIMEOUT (R514): INIT_TIMEOUT passes in INIT and the port retrains. -/
  | initTimeout (n : Nat)
  /-- RETRAIN_HOLD (R514): RETRAIN_HOLD passes and the port returns to ALIGN or, at RETRAIN_LIMIT, becomes FAILED. -/
  | retrainHold (n : Nat)
  /-- INIT_INTERVAL (R510): INIT_INTERVAL passes in INIT and another INIT is sent. -/
  | initInterval (n : Nat)
  /-- ATTEMPT_COUNTER_RESET (R514): After 1 ms in ACTIVE the attempt counter returns to 0. -/
  | attemptCounterReset (n : Nat)
  /-- LINK_CMD_ENABLE (R514): LINK_CMD ENABLE performs a link-layer reset and enters ALIGN. -/
  | linkCmdEnable (path n : Nat)
  /-- LINK_CMD_DISABLE (R515): LINK_CMD DISABLE resets the link layer and turns the transmitters off. -/
  | linkCmdDisable (path n : Nat) (force : Bool)
  /-- LINK_CMD_RESET (R515): LINK_CMD RESET performs a link-layer reset and returns to ALIGN. -/
  | linkCmdReset (path n : Nat) (force : Bool)
  /-- LINK_CMD_RETRAIN (R514): LINK_CMD RETRAIN moves an ACTIVE port to RETRAIN. -/
  | linkCmdRetrain (path n : Nat)
  /-- SERDES_REF_LOSS (R526): A SerDes reference or PLL is lost and the port pair stops with error 0x4801. -/
  | serdesRefLoss (n : Nat) (shared : Bool)
  /-- HEAT_CMD_OPEN (R549): HEAT_CMD OPEN checks the slot, enters OPENING and sends OPEN. -/
  | heatCmdOpen (path n sl : Nat)
  /-- HEAT_CMD_HOLD (R548): HEAT_CMD HOLD sends the pending VECTORS and HOLD and enters HELD. -/
  | heatCmdHold (path n sl : Nat)
  /-- HEAT_CMD_RESUME (R548): HEAT_CMD RESUME sends RESUME and returns to STREAMING. -/
  | heatCmdResume (path n sl : Nat)
  /-- HEAT_CMD_MARK (R549): HEAT_CMD MARK sends MARK at MARK_AT. -/
  | heatCmdMark (path n sl : Nat)
  /-- HEAT_CMD_CLOSE (R548): HEAT_CMD CLOSE sets END to NEXT_SEND, sends CLOSE and enters DRAINING. -/
  | heatCmdClose (path n sl : Nat)
  /-- HEAT_CMD_ABORT (R548): HEAT_CMD ABORT sends ABORT and ends the heat ABORTED. -/
  | heatCmdAbort (path n sl : Nat)
  /-- HEAT_CMD_CLEAR (R548): HEAT_CMD CLEAR returns an ended slot to IDLE. -/
  | heatCmdClear (path n sl : Nat)
  /-- OPEN_ACK (R548): OPEN_ACK moves an OPENING heat to STREAMING. -/
  | openAck (n : Nat)
  /-- OPEN_NAK (R548): OPEN_NAK ends an OPENING heat ABORTED with its REASON. -/
  | openNak (n : Nat)
  /-- APPLIED (R551): APPLIED advances the heat's APPLIED watermark. -/
  | applied (n : Nat)
  /-- MARK_DONE (R554): MARK_DONE confirms the oldest MARK and sets RESTART_INDEX and APPLIED. -/
  | markDone (n : Nat)
  /-- CLOSED (R548): CLOSED with u = END ends a DRAINING heat CLOSED or VOIDED. -/
  | closed (n : Nat)
  /-- VOID (R548): VOID from the front end voids a live heat, or sets FE_FINAL for an ended one. -/
  | void (n : Nat)
  /-- GAP (R559): GAP is counted under TOLERANT or voids the heat under STRICT. -/
  | gap (n : Nat)
  /-- FAIL (R555): A FAIL message's records are pushed to RES_Q or discarded. -/
  | fail (n : Nat)
  /-- PARAM (R555): A PARAM message's records are pushed to PARAM_Q or discarded. -/
  | param (n : Nat)
  /-- VECTOR_POP (R536): The port manager pops the vector queue whose turn it is while STREAMING below END. -/
  | vectorPop (n : Nat)
  /-- VECTOR_POP_RESPONSE (R539): A vector POP answer arrives; vectors are indexed and VECTORS messages built and sent. -/
  | vectorPopResponse (n : Nat)
  /-- VECTOR_POP_RETRY (R799): After a REFUSED or OFFLINE answer the manager pops the same queue again no sooner than 1 us later. -/
  | vectorPopRetry (n : Nat)
  /-- OPEN_TIMEOUT (R550): OPEN_TIMEOUT expires and the heat ends ABORTED. -/
  | openTimeout (n sl : Nat)
  /-- APPLIED_TIMEOUT (R550): APPLIED_TIMEOUT expires with vectors outstanding and the heat is voided. -/
  | appliedTimeout (n sl : Nat)
  /-- DRAIN_TIMEOUT (R550): DRAIN_TIMEOUT expires and the draining heat is voided. -/
  | drainTimeout (n sl : Nat)
  /-- HEADER_RECORD (R593): The loader checks an image header record and enters RECEIVING or rejects it. -/
  | headerRecord (ecc : Ecc)
  /-- FRAME_RECORD (R594): The loader checks and stages a frame record, retries it or rejects the image. -/
  | frameRecord (ecc : Ecc)
  /-- END_RECORD (R595): The loader checks the END record and moves to PLACING or QUIESCING, or rejects the image. -/
  | endRecord (ecc : Ecc)
  /-- LOADER_SOURCE_EXHAUSTED (R591): An image source ends early and the load is discarded with 0x3907. -/
  | loaderSourceExhausted
  /-- LOADER_QUIESCED (R613): On a pour tick with every region flask quiet, the partial load enters PLACING and disables the region's produced queues. -/
  | loaderQuiesced
  /-- LD_DRAIN_TIMEOUT (R591): LD_DRAIN_TIMEOUT expires in QUIESCING and the load is discarded. -/
  | ldDrainTimeout
  /-- LOADER_PLACED (R591): Every staged frame has been written to its target and the loader waits to release. -/
  | loaderPlaced (ecc : Ecc)
  /-- IMAGE_RELEASE (R601): On one pour tick every target starts from the new configuration and entry records apply. -/
  | imageRelease
  /-- LOADER_RECORDS_COMPLETE (R602): Every backing record of the image has been written and the loader becomes IDLE. -/
  | loaderRecordsComplete
  /-- LD_CMD_LOAD_SLOT (R604): LD_CMD LOAD_SLOT starts loading an image from a mould store slot. -/
  | ldCmdLoadSlot (path n : Nat)
  /-- LD_CMD_LOAD_CATCH (R604): LD_CMD LOAD_CATCH starts loading an image from catch memory at LD_ADDR. -/
  | ldCmdLoadCatch (path : Nat)
  /-- LD_CMD_ABANDON (R604): LD_CMD ABANDON discards a load in RECEIVING or QUIESCING. -/
  | ldCmdAbandon (path : Nat)
  /-- SCP_RECORD (R608): An SCP RECORD transaction delivers one image record to the loader, or is ignored as BUSY or OVERRUN. -/
  | scpRecord (ws : List Word)
  /-- SCP_STATUS (R607): An SCP STATUS transaction returns the loader status word. -/
  | scpStatus
  /-- SCP_ABANDON (R606): An SCP ABANDON transaction acts as LD_CMD ABANDON. -/
  | scpAbandon
  /-- SCP_ERROR (R606): An SCP ERROR transaction returns LD_ERROR. -/
  | scpError
  /-- SCP_TIMEOUT (R610): A gap longer than SCP_TIMEOUT discards an SCP load. -/
  | scpTimeout
  /-- MS_CMD_OPEN (R585): MS_CMD OPEN opens a write session on a mould store area. -/
  | msCmdOpen (path n code : Nat)
  /-- MS_DATA_WRITE (R585): A write of MS_DATA stores bytes at MS_OFFSET and advances it. -/
  | msDataWrite (path n : Nat) (bs : List Byte)
  /-- MS_CMD_CLOSE (R585): MS_CMD CLOSE checks the area and sets it VALID or INVALID. -/
  | msCmdClose (path n : Nat) (damaged : Bool)
  /-- MS_CMD_CANCEL (R585): MS_CMD CANCEL ends a session leaving the area invalid. -/
  | msCmdCancel (path n : Nat)
  /-- BOOT_ORDER_WRITE (R617): A write of BOOT_ORDER rewrites both boot record copies. -/
  | bootOrderWrite (path : Nat) (v : Word)
  /-- SDO_DOWNLOAD (R633): An SDO download writes an entry and is answered after it is applied. -/
  | sdoDownload (idx sub : Nat) (bs : List Byte) (more : Bool) (form : SdoForm) (keylockN : Bool) (ev : DictEv)
  /-- SDO_UPLOAD (R631): An SDO upload reads an entry. -/
  | sdoUpload (idx sub room : Nat) (form : SdoForm) (ecc : Ecc) (ev : DictEv)
  /-- SDO_SEGMENT (R632): A segment of a segmented SDO transfer is taken, applying a download at its last segment. -/
  | sdoSegment (bs : List Byte) (last : Bool) (room : Nat) (keylockN : Bool)
  /-- SDO_SEGMENT_TIMEOUT (R632): A missing segment for 100 ms ends the transfer with abort 0x0504_0000. -/
  | sdoSegmentTimeout
  /-- GET_OD_LIST (R631): The SDO information service returns the object dictionary list. -/
  | getOdList
  /-- GET_OBJECT_DESCRIPTION (R631): The SDO information service returns an object description. -/
  | getObjectDescription (idx : Nat)
  /-- GET_ENTRY_DESCRIPTION (R631): The SDO information service returns an entry description. -/
  | getEntryDescription (idx sub : Nat)
  /-- DICT_WRITE (R625): A write to an entry with no row of its own is checked and applied, staged or refused. -/
  | dictWrite (path idx sub : Nat) (wide : Bool) (v : DWord) (keylockN : Bool) (ev : DictEv) (more : Bool)
  /-- SESS_REQ_REQUEST (R641): SESS_REQ REQUEST creates a fresh challenge for a key slot and level. -/
  | sessReqRequest (path : Nat) (v : Word)
  /-- SESS_REQ_PROVE (R643): SESS_REQ PROVE answers the pending challenge and opens a session or is refused and counted. -/
  | sessReqProve (path : Nat) (late : Bool) (ev : DictEv)
  /-- SESS_REQ_CLOSE (R645): SESS_REQ CLOSE closes the path's session. -/
  | sessReqClose (path : Nat)
  /-- SESS_CMD_CLOSE (R645): A Factory session closes another session through SESS_CMD. -/
  | sessCmdClose (path n : Nat)
  /-- SESS_IDLE_TIMEOUT (R645): No access arrives for SESS_IDLE_TIMEOUT and the session closes. -/
  | sessIdleTimeout (n : Nat)
  /-- KEY_LOCKOUT_END (R644): The 1 s lockout of a key slot ends. -/
  | keyLockoutEnd (k : Nat)
  /-- KEY_CMD_SET (R648): KEY_CMD SET stores a key and level in both copies. -/
  | keyCmdSet (path k level : Nat) (keylockN : Bool)
  /-- KEY_CMD_CLEAR (R648): KEY_CMD CLEAR unprovisions a key slot. -/
  | keyCmdClear (path k : Nat) (keylockN : Bool)
  /-- TX_CMD_BEGIN (R649): TX_CMD BEGIN opens a transaction for the session. -/
  | txCmdBegin (path : Nat)
  /-- TX_CMD_COMMIT (R652): TX_CMD COMMIT moves the transaction to COMMITTING and chooses its tick by WHEN. -/
  | txCmdCommit (path w : Nat)
  /-- TX_CMD_ROLLBACK (R657): TX_CMD ROLLBACK discards the staged writes. -/
  | txCmdRollback (path : Nat)
  /-- TX_COMMIT_TICK (R655): At the commit tick every staged write is checked and all apply, or none and the transaction fails. -/
  | txCommitTick (ev : DictEv)
  /-- CHILL_CMD_FIRE (R670): CHILL_CMD FIRE triggers a chill on the next pour tick. -/
  | chillCmdFire (path : Nat)
  /-- CHILL_CMD_FIRE_AT (R671): CHILL_CMD FIRE_AT schedules a chill at a DC time. -/
  | chillCmdFireAt (path : Nat)
  /-- CHILL_CMD_RELEASE (R673): CHILL_CMD RELEASE frees a snapshot bank. -/
  | chillCmdRelease (path : Nat) (b : Bool)
  /-- CHILL_CMD_CANCEL_AT (R671): CHILL_CMD CANCEL_AT discards a pending FIRE_AT. -/
  | chillCmdCancelAt (path : Nat)
  /-- CHILL_TAKE (R668): On a triggered pour tick the chill set is copied into a bank or the chill is dropped. -/
  | chillTake
  /-- LOG_ENTRY_WRITE (R681): The log writes the next error from its intake as an entry or merges a repeat. -/
  | logEntryWrite
  /-- RECAST_CE_WINDOW_EXPIRY (R697): RECAST_CE_WINDOW passes and the per-flask error counts clear. -/
  | recastCeWindowExpiry
  /-- LOG_ACK (R686): A write of LOG_ACK acknowledges class 3 and 4 entries up to a SEQ. -/
  | logAck (path : Nat) (v : Word)
  /-- PCIE_PERST_RELEASE (R706): PCIE_PERST_N is released and the endpoint trains its link. -/
  | pciePerstRelease
  /-- PCIE_RESET (R713): A hot reset, function-level reset or link down clears DMA enables and MSI-X state and resets the path. -/
  | pcieReset (down perst : Bool)
  /-- BAR2_READ (R707): A host read of BAR2 issues a catch memory read. -/
  | bar2Read (a n : Nat)
  /-- BAR2_WRITE (R707): A host write of BAR2 issues a catch memory write. -/
  | bar2Write (a : Nat) (first last : BitVec 4) (ws : List Word) (ep : Bool)
  /-- DMA_ENABLE (R708): DMA_CFG EN written 1 enables an engine whose queues are bound. -/
  | dmaEnable (path q : Nat)
  /-- DMA_DISABLE (R713): DMA_CFG EN written 0 aborts the descriptor in progress. -/
  | dmaDisable (path q : Nat)
  /-- DMA_DESCRIPTOR_POP (R710): An idle enabled engine pops its next descriptor and starts moving data. -/
  | dmaDescriptorPop (e : Nat)
  /-- DMA_HOST_READ_COMPLETION (R712): A host read completion for an H2C descriptor arrives and its words are written. -/
  | dmaHostReadCompletion (e : Nat) (ws : List Word) (ep bad : Bool)
  /-- DMA_Q2H_REPOP (R712): A Q2H engine finding the queue empty pops again after 1 us. -/
  | dmaQ2hRepop (e : Nat)
  /-- DMA_DESCRIPTOR_COMPLETE (R710): A descriptor's writes are answered; the completion is pushed and the vector sent. -/
  | dmaDescriptorComplete (e : Nat)
  /-- MSIX_UNMASK (R714): Unmasking an MSI-X vector with its pending bit set sends it. -/
  | msixUnmask (v : Nat) (addr : DWord) (data : Word) (masked on mask : Bool)
  /-- AL_REQUEST_INIT (R722): The master requests INIT; the mailbox empties and the CoE path is reset. -/
  | alRequestInit
  /-- AL_REQUEST_PREOP (R722): The master requests PREOP and the mailbox runs. -/
  | alRequestPreop (start0 len0 start1 len1 : Nat)
  /-- AL_REQUEST_SAFEOP (R722): The master requests SAFEOP, checked against the mapped lengths. -/
  | alRequestSafeop (start2 len2 start3 len3 : Nat)
  /-- AL_REQUEST_OP (R722): The master requests OP once valid outputs are received. -/
  | alRequestOp
  /-- AL_REQUEST_BOOT (R722): The master requests BOOT, allowed only while unconfigured. -/
  | alRequestBoot
  /-- SM2_WATCHDOG (R722): The SyncManager 2 watchdog expires in OP and the slave falls to SAFEOP. -/
  | sm2Watchdog
  /-- MAILBOX_UNSUPPORTED (R719): A non-CoE mailbox is answered with mailbox error 0x0002. -/
  | mailboxUnsupported (type : Nat)
  /-- RXPDO_EXCHANGE (R724): A SyncManager 2 buffer exchange writes the mapped PDO_OUT entries and asserts source 19. -/
  | rxpdoExchange (bs : List Byte) (more : Bool)
  /-- TXPDO_SAMPLE (R724): TxPDO entries are sampled when SyncManager 3's buffer is filled. -/
  | txpdoSample
  /-- DC_OFFSET_WRITE (R721): The first write of the system time offset starts distributed clocks. -/
  | dcOffsetWrite (t : DWord)
  /-- SYNC1_EVENT (R670): An EtherCAT SYNC1 event triggers a chill when enabled. -/
  | sync1Event
  /-- ECAT_LINK_CHANGE (R717): An EtherCAT port gains or loses link and opens or closes with loopback. -/
  | ecatLinkChange (k : Nat) (up : Bool)
  /-- BANK_SUPPLY_CHANGE (R727): A general-pin bank supply enters or leaves its range; pins go high-impedance and ownership is settled. -/
  | bankSupplyChange (b supply : Nat)
  /-- BANK_SETTLE (R728): 100 us after its supply enters a range a bank takes its configured state. -/
  | bankSettle (b : Nat)
  /-- PIN_INPUT_CHANGE (R741): A sampled pin change or level sets PIN_IRQ by its IRQ_MODE. -/
  | pinInputChange (n : Nat) (drive : PadDrive)
  /-- TRIGGER_EDGE (R739): A trigger input sees an edge at a pour tick. -/
  | triggerEdge (k : Nat) (level : Bool)
  /-- CAPTURE_EDGE (R744): A timer capture pin edge records its tick's time and counts. -/
  | captureEdge (n : Nat) (rising : Bool)
  /-- I2C_XFER (R744): I2C_CMD XFER starts an I2C transfer. -/
  | i2cXfer (path n addr wr rd : Nat)
  /-- I2C_TRANSFER_DONE (R744): An I2C transfer ends with its RESULT. -/
  | i2cTransferDone (n result : Nat) (rx : List Byte)
  /-- I2C_STUCK (R745): SCL or SDA held low for 25 ms ends the transfer STUCK. -/
  | i2cStuck (n : Nat)
  /-- SPI_XFER (R744): SPI_CMD XFER starts a full-duplex SPI transfer. -/
  | spiXfer (path n k : Nat)
  /-- SPI_TRANSFER_DONE (R744): An SPI transfer ends with its RESULT. -/
  | spiTransferDone (n : Nat) (rx : List Byte)
  /-- UART_TX (R744): A write of UART_TX appends bytes to the transmit FIFO. -/
  | uartTx (path n : Nat) (bytes : List Byte)
  /-- UART_RX (R744): A read of UART_RX returns and removes received bytes. -/
  | uartRx (path n : Nat)
  /-- UART_RX_BYTE (R744): A UART receives a byte, or sets OVERRUN when its FIFO is full. -/
  | uartRxByte (n : Nat) (b : Byte)
  /-- TRIG_FIRE (R744): Writing 1 to TRIG_FIRE pulses a trigger output on the tick it applies. -/
  | trigFire (path k : Nat) (v : Word)
  /-- STB_FIRE (R744): A write of STB_FIRE starts pulses on the named relay strobes. -/
  | stbFire (path : Nat) (v : Word)
  /-- STROBE_END (R744): A relay strobe's width expires and its pulse ends. -/
  | strobeEnd (j : Nat)
  /-- POWER_ON_RESET_RELEASE (R751): PWRGOOD[0] has been high for 1 ms; the power-on reset releases and the straps are sampled. -/
  | powerOnResetRelease (bootSel : BitVec 2) (scpMode keylockN : Bool)
  /-- PLL_LOCK (R747): The root PLL locks, the derived clocks start and start-up proceeds. -/
  | pllLock (undrained : List Nat)
  /-- PLL_LOCK_LOSS (R749): The root PLL loses lock, stopping every domain but management. -/
  | pllLockLoss
  /-- PWRGOOD_FALL (R752): PWRGOOD[1] or [2] falls and the dependent domains are powered off. -/
  | pwrgoodFall (k : Nat) (undrained : List Nat)
  /-- PWR_CMD_ON (R755): PWR_CMD ON moves an OFF or FAILED domain to RAMPING. -/
  | pwrCmdOn (path d : Nat)
  /-- PWR_CMD_OFF (R754): PWR_CMD OFF closes the runner ports of a domain at rest. -/
  | pwrCmdOff (path d : Nat)
  /-- DOMAIN_SWITCH_GRANT (R756): A ramping domain is granted its 5 us in-rush slot and its switch closes. -/
  | domainSwitchGrant (d : Nat)
  /-- DOMAIN_SETTLED (R755): A ramping domain's supply settles; its reset releases and its ports open. -/
  | domainSettled (d : Nat)
  /-- DOMAIN_RAMP_TIMEOUT (R755): 20 us pass without settling and the domain becomes FAILED. -/
  | domainRampTimeout (d : Nat)
  /-- DOMAIN_POWER_OFF (R755): Every port toward a closing domain is CLOSED; outputs clamp and power switches off. -/
  | domainPowerOff (d : Nat)
  /-- RST_CMD_CORE (R760): RST_CMD CORE resets every domain except management and reloads the image. -/
  | rstCmdCore (path : Nat) (undrained : List Nat)
  /-- RST_CMD_MGMT (R762): RST_CMD MGMT resets the management functions. -/
  | rstCmdMgmt (path : Nat)
  /-- MGMT_AUTO_RESET (R760): 1 ms after the dictionary agent stops, a management reset follows. -/
  | mgmtAutoReset
  /-- HOLD_CMD_ENTER (R765): HOLD_CMD ENTER disables ports, drains channels and powers off all but management. -/
  | holdCmdEnter (path : Nat)
  /-- HOLD_CMD_EXIT (R766): HOLD_CMD EXIT powers the core up and restarts as after a core reset. -/
  | holdCmdExit (path : Nat)
  /-- DIMM_PWR_WAIT_EXPIRY (R465): DIMM_PWR_WAIT passes after Hold exit and the channels reload their delays and programs. -/
  | dimmPwrWaitExpiry
  /-- THERM_SAMPLE (R767): The thermal sensors are read every 10 us and THERM_HOT updated. -/
  | thermSample (t : BitVec 16)
  /-- MARKER_RECEIVED (R481): A lane receives an alignment marker and checks its BIP-8, counting a mismatch in BIP_ERRORS. -/
  | markerReceived (n l : Nat) (b : Block) (bip : Byte)
  /-- CODING_ERROR_BLOCK (R482): A receiver gets a block with an invalid sync header, an unknown control type or a data block outside a frame, and discards and counts it in CODING_ERRORS. -/
  | codingErrorBlock (n : Nat) (b : Block) (inFrame : Bool)
  /-- MIRROR_READ (R634): A read through the BAR0 mirror or the runner window reaches the dictionary agent, latching 64-bit halves, clearing RC entries or returning a refusal. -/
  | mirrorRead (path idx sub : Nat) (wide : Bool) (ecc : Ecc) (ev : DictEv) (more : Bool)
  /-- PCIE_LINK_UP (R704): The endpoint finishes training its PCI Express link and the link is up. -/
  | pcieLinkUp (rate width : Nat) (busMaster msixOn : Bool)
  /-- PWRGOOD_RISE (R751): PWRGOOD[1] or PWRGOOD[2] rises, allowing the core, flask, port and PHY domains to power up. -/
  | pwrgoodRise (k : Nat)
  /-- MAILBOX_IN_READ (R720): The master reads mailbox in, freeing it so that a waiting Emergency message is sent. -/
  | mailboxInRead
  deriving DecidableEq, Repr

end Sys2Proof
end

