-- ==== Sys2Proof/Decode.lean ====
section
/-! DEFINITION. The command that a word spells by the bits of the table of operations and events: that table gives no row any bits. -/

namespace Sys2Proof

/-- No row of the table has an encoding, so no word spells a command (log 49). -/
def decodeTableWord (_nbits _w : Nat) : Option Instr := none

end Sys2Proof
end

