-- ==== Sys2Proof/Machine/Tab.lean ====
section
/-! DEFINITION. Sparse tables: what the machine holds once per cell, queue, thread, row or address. A table is a list
of pairs whose keys strictly rise and which lists no entry equal to the default, so equal tables are equal data. The
default (what an unlisted key reads as) is given at each read and write. -/

namespace Sys2Proof.Machine

/-- A sparse table from numbers to values. -/
abbrev Tab (α : Type) := List (Nat × α)

/-- The value at a key; `d` where the table lists none. -/
def Tab.get {α : Type} (d : α) : Tab α → Nat → α
  | [], _ => d
  | (k', v) :: t, k => if k = k' then v else Tab.get d t k

/-- The table with a pair put in its place, replacing one of the same key. -/
def Tab.insert {α : Type} : Tab α → Nat → α → Tab α
  | [], k, v => [(k, v)]
  | (k', v') :: t, k, v =>
    if k < k' then (k, v) :: (k', v') :: t
    else if k = k' then (k, v) :: t
    else (k', v') :: Tab.insert t k v

/-- The table without a key. -/
def Tab.erase {α : Type} : Tab α → Nat → Tab α
  | [], _ => []
  | (k', v') :: t, k => if k = k' then Tab.erase t k else (k', v') :: Tab.erase t k

/-- The table with `k` holding `v`; writing the default removes the entry. -/
def Tab.set {α : Type} [DecidableEq α] (d : α) (t : Tab α) (k : Nat) (v : α) : Tab α :=
  if v = d then Tab.erase t k else Tab.insert t k v

/-- The table with the value at `k` changed by `g`. -/
def Tab.modify {α : Type} [DecidableEq α] (d : α) (t : Tab α) (k : Nat) (g : α → α) : Tab α :=
  Tab.set d t k (g (Tab.get d t k))

/-- A run of consecutive keys from `k` set to a list of values. -/
def Tab.setList {α : Type} [DecidableEq α] (d : α) : Tab α → Nat → List α → Tab α
  | t, _, [] => t
  | t, k, v :: vs => Tab.setList d (Tab.set d t k v) (k + 1) vs

/-- `n` consecutive values from key `k`. -/
def Tab.getList {α : Type} (d : α) (t : Tab α) (k : Nat) : Nat → List α
  | 0 => []
  | n + 1 => Tab.get d t k :: Tab.getList d t (k + 1) n

/-- Drop every key in `[lo, hi)`. -/
def Tab.clearRange {α : Type} (t : Tab α) (lo hi : Nat) : Tab α :=
  t.filter (fun p => decide (p.1 < lo) || decide (hi ≤ p.1))

/-- The listed keys whose values satisfy `g`. -/
def Tab.keys {α : Type} (g : α → Bool) (t : Tab α) : List Nat :=
  (t.filter (fun p => g p.2)).map (·.1)

/-- The table in which each of the keys `ks` (rising) holds what `g` gives it; entries equal to the default are left out. -/
def Tab.ofFn {α : Type} [DecidableEq α] (d : α) (g : Nat → α) : List Nat → Tab α
  | [] => []
  | k :: ks => let v := g k; if v = d then Tab.ofFn d g ks else (k, v) :: Tab.ofFn d g ks

/-- Apply `g` to every listed value, leaving out what becomes the default. -/
def Tab.mapVals {α : Type} [DecidableEq α] (d : α) (g : Nat → α → α) : Tab α → Tab α
  | [] => []
  | (k, v) :: t => let w := g k v; if w = d then Tab.mapVals d g t else (k, w) :: Tab.mapVals d g t

/-- The keys rise strictly and no entry equals the default: the canonical form. -/
def Tab.wf {α : Type} [DecidableEq α] (d : α) : Tab α → Bool
  | [] => true
  | [(_, v)] => decide (v ≠ d)
  | (k, v) :: (k', v') :: t => decide (v ≠ d) && decide (k < k') && Tab.wf d ((k', v') :: t)

end Sys2Proof.Machine
end

