-- ==== Sys2Proof/Machine/FlaskState.lean ====
section
/-! DEFINITION. A flask: its contexts, slots, sequencer, context engine and block memories
(02_cells_routing_memories.md, 03_flask_contexts.md). -/

namespace Sys2Proof.Machine

/-- The five flags of a cell (R39). -/
structure CellFlags where
  c : Bool
  z : Bool
  n : Bool
  ov : Bool
  f : Bool
  deriving DecidableEq, Repr

/-- All flags 0. -/
def CellFlags.reset : CellFlags := { c := false, z := false, n := false, ov := false, f := false }

/-- One pop of a QPOP cell that has been sent: waiting, or its answer, kept until its turn (R52). -/
inductive PopSlot where
  | waiting
  | word (w : QWord)
  | empty
  deriving DecidableEq, Repr

/-- Everything a context owns: configuration and every registered point of R69. Keys: cells 0-63; K registers
8c + k; quad tracks h at h and v at 32 + v; long lines LH0-3 at 0-3 and LV0-3 at 4-7; ports BM0 A, BM0 B, BM1 A, BM1 B
at 0-3; boundary buffers and lanes 8·side + lane, sides N E S W. -/
structure Ctx where
  /-- Cell configuration words (R59). -/
  cells : Tab DWord
  /-- Quad selectors (R67). -/
  qsel : Tab (BitVec 3)
  /-- Port words of BM0 and BM1 (R74). -/
  ports0 : Word
  ports1 : Word
  srcEn : BitVec 4
  destEn : BitVec 4
  /-- DEST and SRC context IDs, byte per side (R117). -/
  dest : Word
  src : Word
  /-- Context status word (R70). -/
  status : Word
  flags : Tab CellFlags
  k : Tab Word
  out : Tab TWord
  quad : Tab TWord
  long : Tab TWord
  /-- Block memory port registers. An address with V = 1 is of a read whose data come at the end of the next cycle
  (R79), kept in `bmPipe`; write data with V = 1 are of a narrow write in its second cycle (R80). -/
  bmAddr : Tab TWord
  bmWd : Tab TWord
  bmRd : Tab TWord
  bmPipe : Tab TWord
  inbuf : Tab (List TWord)
  /-- Outstanding pops of each west-edge cell, in issue order. -/
  pops : Tab (List PopSlot)
  deriving DecidableEq, Repr

/-- A context with nothing configured and every register empty. -/
def Ctx.reset : Ctx :=
  { cells := [], qsel := [], ports0 := 0, ports1 := 0, srcEn := 0, destEn := 0, dest := 0, src := 0, status := 0,
    flags := [], k := [], out := [], quad := [], long := [], bmAddr := [], bmWd := [], bmRd := [], bmPipe := [],
    inbuf := [], pops := [] }

/-- Slot states (R88, R139). -/
inductive SlotSt where
  | empty | resident | filling | spilling
  deriving DecidableEq, Repr

/-- One slot; `lastRun` is the flask's cycle count when its context last ran (R124). `moved`: words of the context have moved, or its status
or sides have changed, since its record was read or written, whether or not a cell or port has fired (R116; log 23). -/
structure Slot where
  st : SlotSt
  ctxId : Nat
  pin : Bool
  dirty : Bool
  faulted : Bool
  lastRun : Nat
  moved : Bool
  ctx : Ctx
  deriving DecidableEq, Repr

/-- An EMPTY slot. -/
def Slot.reset : Slot :=
  { st := .empty, ctxId := 0, pin := false, dirty := false, faulted := false, lastRun := 0, moved := false, ctx := .reset }

/-- Roles of a physical flask (R137). -/
inductive Role where
  | off | active | spareIdle | recastSource | recastTarget | retired | stopped
  deriving DecidableEq, Repr

/-- One entry of the dispatch FIFO (R99). -/
structure DispEntry where
  ctxId : Nat
  runCycles : Nat
  token : Nat
  ran : Nat
  fillAsked : Bool
  deriving DecidableEq, Repr

/-- A request to the context engine (R123, R140). `slot` is 16 where the engine is to choose. -/
inductive EngReq where
  | fill (ctxId slot : Nat)
  | spill (slot : Nat)
  | evict (slot : Nat)
  deriving DecidableEq, Repr

/-- What the context engine is moving. -/
inductive EngOp where
  | idle
  | spilling (slot : Nat)
  | filling (slot : Nat)
  deriving DecidableEq, Repr

/-- A write a block memory port has fired in the current cycle: memory, word, field mask, and whether by port B. -/
structure BmWrite where
  mem : Nat
  word : Nat
  mask : Word
  data : Word
  portB : Bool
  deriving DecidableEq, Repr

/-- The current cycle, while one is open: the running context, S registers, block memories and crucible stream FIFOs as they stood at its
start, and what has happened in it so far. Cells are numbered 0-63, ports 136-139, lanes 140-171. `loaded` lists the output registers that
have taken a new word in it, `narrow` the ports that fired a narrow write, `corrected` the block memory words a read corrected, and `freeBase`
the first of the 64 free values that its cells use, once one has (log 1). -/
structure Cycle where
  on : Bool
  ctx : Ctx
  s : Tab Word
  bm0 : Tab Word
  bm1 : Tab Word
  so : Tab (List TWord)
  si : Tab (List TWord)
  fired : List Nat
  loaded : List Nat
  sBy : Tab Nat
  writes : List BmWrite
  narrow : List Nat
  corrected : List Nat
  freeBase : Option Nat
  deriving DecidableEq, Repr

/-- No cycle in which a slot runs is open. -/
def Cycle.reset : Cycle :=
  { on := false, ctx := .reset, s := [], bm0 := [], bm1 := [], so := [], si := [], fired := [], loaded := [], sBy := [], writes := [],
    narrow := [], corrected := [], freeBase := none }

/-- One physical flask, without its crucible. -/
structure Flask where
  role : Role
  logical : Nat
  slots : Tab Slot
  s : Tab Word
  bm0 : Tab Word
  bm1 : Tab Word
  /-- Block memory words corrected on a read and not yet written back (R84): memory × 1024 + word. -/
  scrub : List Nat
  /-- Ports in the second cycle of a narrow write in this cycle, whichever slot runs in it, with the slot that fired it (R80). -/
  wb : List (Nat × Nat)
  /-- Data of block memory reads in flight of contexts that are not resident, by context and port: R81 fixes them and the record has no
  place for them (log 21). -/
  reads : Tab (Tab TWord)
  /-- When each context that is not resident last ran (R124). -/
  lastRan : Tab Nat
  /-- The slot running in this cycle, 16 for none, and the slot chosen for the next one (R92). -/
  cur : Nat
  nxt : Nat
  /-- The slot of the previous cycle and how many consecutive cycles the current slot has run. -/
  prev : Nat
  runLen : Nat
  cycles : Nat
  cyc : Cycle
  fifo : List DispEntry
  /-- WATCH_NE as last reported, per watch register (R98). -/
  watchNe : Tab Bool
  eng : List EngReq
  engOp : EngOp
  cmdResult : BitVec 8
  /-- Boundary credit table (R112), keyed 32·context + 8·side + lane; an unlisted counter holds 4. -/
  credits : Tab Nat
  idleCycles : DWord
  switches : Word
  fills : Word
  spills : Word
  irqBlocked : Word
  /-- The flask's domain has been powered up again since it retired (recast RELEASE). -/
  repowered : Bool
  /-- The contexts the flask defines (R88, R119). -/
  defined : List Nat
  deriving DecidableEq, Repr

/-- A flask after the reset of its domain. -/
def Flask.reset : Flask :=
  { role := .off, logical := 0, slots := [], s := [], bm0 := [], bm1 := [], scrub := [], wb := [], reads := [], lastRan := [], cur := 16, nxt := 16,
    prev := 16, runLen := 0, cycles := 0, cyc := .reset, fifo := [], watchNe := [], eng := [], engOp := .idle,
    cmdResult := 0, credits := [], idleCycles := 0, switches := 0, fills := 0, spills := 0, irqBlocked := 0,
    repowered := false, defined := [] }

/-- States of a recast (R129, R141). -/
inductive RecastSt where
  | idle | precopy | drain | freeze | done | aborted
  deriving DecidableEq, Repr

/-- The recast of one physical row; `byPolicy` marks one a recovery policy started, with the physical flask whose
error count started it (R134, R697). `dirty` lists the words written since they were copied. -/
structure Recast where
  st : RecastSt
  result : BitVec 8
  logical : Nat
  source : Nat
  target : Nat
  byPolicy : Bool
  dirty : List Nat
  deriving DecidableEq, Repr

/-- No recast yet. -/
def Recast.reset : Recast :=
  { st := .idle, result := 0, logical := 0, source := 0, target := 0, byPolicy := false, dirty := [] }

end Sys2Proof.Machine
end

