-- ==== Sys2Proof/Machine/Flags.lean ====
section
/-! DEFINITION. The results and flags of the cell operations (R45-R49, R57). -/

namespace Sys2Proof.Machine

/-- What an operation computes: Y and the flags after it. -/
structure AluOut where
  y : Word
  fl : CellFlags
  deriving DecidableEq, Repr

/-- What an operation reads: A, B, the carry in, IMM, K7, K[KM], the flags held before the cycle, and a free bit for
what the spec does not state (log 19): F of a minimum or maximum of equal operands. -/
structure AluIn where
  a : Word
  b : Word
  cin : Bool
  imm : BitVec 16
  k7 : Word
  km : Word
  fl : CellFlags
  free : Bool
  deriving DecidableEq, Repr

/-- Y with Z and N written and the other flags as given. -/
def setZN (y : Word) (fl : CellFlags) : AluOut := { y := y, fl := { fl with z := y = 0, n := y.msb } }

/-- Y with Z alone written. -/
def setZ (y : Word) (fl : CellFlags) : AluOut := { y := y, fl := { fl with z := y = 0 } }

/-- A + B + cin in 33 bits. -/
def addWide (a b : Word) (cin : Bool) : BitVec 33 := a.setWidth 33 + b.setWidth 33 + (bit1 cin).setWidth 33

/-- ADD, and SUB with B inverted: C is the carry out of bit 31, OV signed overflow. -/
def aluAddB (i : AluIn) (b : Word) : AluOut :=
  let t := addWide i.a b i.cin
  let y := t.setWidth 32
  setZN y { i.fl with c := t.msb, ov := i.a.msb = b.msb && y.msb ≠ i.a.msb }
def aluAdd (i : AluIn) : AluOut := aluAddB i i.b
def aluSub (i : AluIn) : AluOut := aluAddB i (~~~i.b)

/-- The shift amount B[4:0]. -/
def shiftBy (i : AluIn) : Nat := i.b.toNat % 32

/-- SHL: C is the last bit shifted out, 0 for a shift by 0. -/
def aluShl (i : AluIn) : AluOut :=
  let n := shiftBy i
  setZN (i.a <<< n) { i.fl with c := n ≠ 0 && i.a.getLsbD (32 - n) }
def aluShr (i : AluIn) : AluOut :=
  let n := shiftBy i
  setZN (i.a >>> n) { i.fl with c := n ≠ 0 && i.a.getLsbD (n - 1) }
def aluSar (i : AluIn) : AluOut :=
  let n := shiftBy i
  setZN (i.a.sshiftRight n) { i.fl with c := n ≠ 0 && i.a.getLsbD (n - 1) }
def aluRol (i : AluIn) : AluOut :=
  let y := i.a.rotateLeft (shiftBy i)
  setZN y { i.fl with c := y.getLsbD 0 }
def aluRor (i : AluIn) : AluOut :=
  let y := i.a.rotateRight (shiftBy i)
  setZN y { i.fl with c := y.getLsbD 31 }

/-- pos, and width cut so that the field ends at bit 31 (R46). -/
def fieldPos (imm : BitVec 16) : Nat := imm.toNat % 32
def fieldWidth (imm : BitVec 16) : Nat := min (imm.toNat / 32 % 32 + 1) (32 - fieldPos imm)

/-- The low `w` bits of a word set. -/
def lowMask (w : Nat) : Word := BitVec.ofNat 32 (2 ^ w - 1)

/-- The field of A at pos and width, zero-extended. -/
def fieldOf (a : Word) (imm : BitVec 16) : Word := (a >>> fieldPos imm) &&& lowMask (fieldWidth imm)
def aluExtu (i : AluIn) : AluOut := setZN (fieldOf i.a i.imm) i.fl
def aluExts (i : AluIn) : AluOut :=
  let w := fieldWidth i.imm
  let f := fieldOf i.a i.imm
  setZN (if f.getLsbD (w - 1) then f ||| ~~~(lowMask w) else f) i.fl
def aluIns (i : AluIn) : AluOut :=
  let m := lowMask (fieldWidth i.imm)
  let p := fieldPos i.imm
  setZN ((i.b &&& ~~~(m <<< p)) ||| ((i.a &&& m) <<< p)) i.fl

/-- The number of 1 bits among the low `n`. -/
def onesBelow (a : Word) : Nat → Nat
  | 0 => 0
  | n + 1 => (if a.getLsbD n then 1 else 0) + onesBelow a n

/-- The number of 0 bits above the highest 1 among the low `n`. -/
def zerosAbove (a : Word) : Nat → Nat
  | 0 => 0
  | n + 1 => if a.getLsbD n then 0 else 1 + zerosAbove a n

def aluPopc (i : AluIn) : AluOut := setZ (BitVec.ofNat 32 (onesBelow i.a 32)) i.fl
def aluClz (i : AluIn) : AluOut := setZ (BitVec.ofNat 32 (zerosAbove i.a 32)) i.fl

/-- A minimum or maximum: A where `chooseA`, with F saying so; which of two equal operands was chosen is not stated. -/
def aluPick (i : AluIn) (chooseA : Bool) : AluOut :=
  setZN (if chooseA then i.a else i.b) { i.fl with f := if i.a = i.b then i.free else chooseA }
def aluMinu (i : AluIn) : AluOut := aluPick i (i.a.ult i.b)
def aluMaxu (i : AluIn) : AluOut := aluPick i (i.b.ult i.a)
def aluMins (i : AluIn) : AluOut := aluPick i (i.a.slt i.b)
def aluMaxs (i : AluIn) : AluOut := aluPick i (i.b.slt i.a)

/-- A compare: all ones or zero, and F. -/
def aluCompare (i : AluIn) (t : Bool) : AluOut := setZN (if t then BitVec.allOnes 32 else 0) { i.fl with f := t }
def aluCmpeq (i : AluIn) : AluOut := aluCompare i (i.a = i.b)
def aluCmpne (i : AluIn) : AluOut := aluCompare i (i.a ≠ i.b)
def aluCmpltu (i : AluIn) : AluOut := aluCompare i (i.a.ult i.b)
def aluCmplts (i : AluIn) : AluOut := aluCompare i (i.a.slt i.b)
def aluCmpleu (i : AluIn) : AluOut := aluCompare i (i.a.ule i.b)
def aluCmples (i : AluIn) : AluOut := aluCompare i (i.a.sle i.b)

/-- SEL by F as held before the cycle. -/
def aluSel (i : AluIn) : AluOut := setZN (if i.fl.f then i.a else i.b) i.fl

/-- LFSR: K7 is the tap mask (R49). -/
def aluLfsr (i : AluIn) : AluOut :=
  setZN ((i.a >>> 1) ^^^ (if i.a.getLsbD 0 then i.k7 else 0)) { i.fl with c := i.a.getLsbD 0 }

/-- `n` steps of reflected CRC-32C (R47). -/
def crcSteps : Nat → Word → Word
  | 0, c => c
  | n + 1, c => crcSteps n (if c.getLsbD 0 then (c >>> 1) ^^^ 0x82F63B78#32 else c >>> 1)

/-- CRC-32C over a byte (R47). -/
def crcByte (a : Word) (b : Byte) : Word := crcSteps 8 (a ^^^ b.setWidth 32)
def aluCrc8 (i : AluIn) : AluOut := setZN (crcByte i.a (i.b.setWidth 8)) i.fl

/-- The XOR of the bits of a word. -/
def parityOf (a : Word) : Bool := onesBelow a 32 % 2 = 1

/-- PAR: the parity of A AND K[KM] enters below B shifted left (R48). -/
def aluPar (i : AluIn) : AluOut :=
  let p := parityOf (i.a &&& i.km)
  setZN ((i.b <<< 1) ||| (bit1 p).setWidth 32) { i.fl with c := p }

def aluPass (i : AluIn) : AluOut := setZN i.a i.fl
def aluAnd (i : AluIn) : AluOut := setZN (i.a &&& i.b) i.fl
def aluOr (i : AluIn) : AluOut := setZN (i.a ||| i.b) i.fl
def aluXor (i : AluIn) : AluOut := setZN (i.a ^^^ i.b) i.fl
def aluAndn (i : AluIn) : AluOut := setZN (i.a &&& ~~~i.b) i.fl

/-- The operation of an OPC. QPUSH and QPOP compute no Y when they fire and write no flag. -/
def alu (opc : Nat) (i : AluIn) : AluOut :=
  match opc with
  | 0x01 => aluPass i
  | 0x02 => aluAdd i
  | 0x03 => aluSub i
  | 0x04 => aluAnd i
  | 0x05 => aluOr i
  | 0x06 => aluXor i
  | 0x07 => aluAndn i
  | 0x08 => aluShl i
  | 0x09 => aluShr i
  | 0x0A => aluSar i
  | 0x0B => aluRol i
  | 0x0C => aluRor i
  | 0x0D => aluExtu i
  | 0x0E => aluExts i
  | 0x0F => aluIns i
  | 0x10 => aluPopc i
  | 0x11 => aluClz i
  | 0x12 => aluMinu i
  | 0x13 => aluMaxu i
  | 0x14 => aluMins i
  | 0x15 => aluMaxs i
  | 0x16 => aluCmpeq i
  | 0x17 => aluCmpne i
  | 0x18 => aluCmpltu i
  | 0x19 => aluCmplts i
  | 0x1A => aluCmpleu i
  | 0x1B => aluCmples i
  | 0x1C => aluSel i
  | 0x1D => aluLfsr i
  | 0x1E => aluCrc8 i
  | 0x1F => aluPar i
  | _ => { y := 0, fl := i.fl }

/-- cin for ADD and SUB (R57): `west` is the carry out of the west neighbour in this cycle, `own` the cell's C flag. -/
def carryIn (sub : Bool) (sel : Nat) (west own : Bool) : Bool :=
  match sel with
  | 0 => sub
  | 1 => !sub
  | 2 => west
  | _ => own

/-- A track word with its parity computed: D, L, I and P hold an even number of 1 bits (R61). -/
def mkTWord (d : Word) (l i : Bool) : TWord := { v := true, l := l, i := i, d := d, p := (parityOf d ^^ l) ^^ i }

end Sys2Proof.Machine
end

