-- ==== Sys2Proof/Config.lean ====
section
/-! DEFINITION. What an implementation fixes and what the spec leaves open. Every free value is an opaque constant
without a body: no proof can see what it is. -/

namespace Sys2Proof

/-- A value the spec calls undefined, or gives no rule for, at its n-th use: applied to the machine's counter `fresh`
(log 1). -/
opaque Config.free : Nat → BitVec 64

/-- What a word of catch memory that nothing has written reads as; the spec gives DRAM no contents at power-up
(log 7). -/
opaque Config.dramInit : Nat → Word

/-- Words of the challenges the agent draws, "32 fresh random bytes" (R641, log 12). -/
opaque Config.random : Nat → Word

/-- The EPOCH a port powers up with (R508, log 12). -/
opaque Config.epoch : Nat → BitVec 16

/-- SILICON_REV and SERIAL (R660), which the spec leaves to the device. -/
opaque Config.siliconRev : Word
opaque Config.serial : DWord

/-- The Hardware version string (R638), the silicon revision in letters and digits, which the spec leaves to the device. -/
opaque Config.hardwareVersion : List Byte

/-- The RISC-V identification CSRs and misa by CSR number, which the spec leaves to the device (log 8). -/
opaque Config.coreId : Nat → Word

end Sys2Proof
end

