-- ==== Sys2Proof/Machine/Entries.lean ====
section
/-! DEFINITION. The entry tables of the object dictionary: one row for each row of the chapters' entry tables (R621-R624),
with the access code and level of each (R12, R13) and its default (R623). -/

namespace Sys2Proof.Machine

/-- Access codes (R12). -/
inductive Acc where
  | ro | rw | wo | rwt | w1c | rc | st
  deriving DecidableEq, Repr

/-- One row: indices `idx + step·i` for i < `n`, subindices `sub` to `sub + subs − 1`; `bits` is the width of the type, 0 for
strings and DOMAINs; levels 0 Observer, 1 Operator, 2 Engineer, 3 Factory. -/
structure EntryRow where
  idx : Nat
  step : Nat
  n : Nat
  sub : Nat
  subs : Nat
  bits : Nat
  signed : Bool
  acc : Acc
  level : Nat
  dflt : Nat
  deriving DecidableEq, Repr

/-- Entries of the chapter on flasks. -/
def entries03 : List EntryRow := [
  ⟨0x4000, 1, 72, 0x01, 1, 32, false, .ro, 0, 0⟩,  -- FLASK_STATUS
  ⟨0x4000, 1, 72, 0x02, 1, 32, false, .rwt, 2, 0⟩,  -- SEQ_CFG
  ⟨0x4000, 1, 72, 0x03, 1, 64, false, .rwt, 2, 0⟩,  -- CTX_BASE
  ⟨0x4000, 1, 72, 0x05, 1, 32, false, .wo, 2, 0⟩,  -- CTX_CMD
  ⟨0x4000, 1, 72, 0x06, 1, 32, false, .ro, 0, 0⟩,  -- CTX_CMD_STATUS
  ⟨0x4000, 1, 72, 0x07, 4, 32, false, .rwt, 2, 0⟩,  -- WATCH0–WATCH3
  ⟨0x4000, 1, 72, 0x10, 16, 32, false, .ro, 0, 0⟩,  -- SLOT_0–SLOT_15
  ⟨0x4000, 1, 72, 0x20, 16, 32, false, .rwt, 2, 0⟩,  -- EVENT_0–EVENT_15
  ⟨0x4000, 1, 72, 0x30, 1, 32, false, .rw, 1, 0⟩,  -- CTX_WIN_SELECT
  ⟨0x4000, 1, 72, 0x31, 1, 64, false, .ro, 1, 0⟩,  -- CTX_WIN_DATA
  ⟨0x4000, 1, 72, 0x33, 1, 32, false, .w1c, 1, 0⟩,  -- CTX_STATUS_CLR
  ⟨0x4000, 1, 72, 0x38, 1, 64, false, .rc, 1, 0⟩,  -- IDLE_CYCLES
  ⟨0x4000, 1, 72, 0x3A, 1, 32, false, .rc, 1, 0⟩,  -- SWITCHES
  ⟨0x4000, 1, 72, 0x3B, 1, 32, false, .rc, 1, 0⟩,  -- FILLS
  ⟨0x4000, 1, 72, 0x3C, 1, 32, false, .rc, 1, 0⟩,  -- SPILLS
  ⟨0x4000, 1, 72, 0x3D, 1, 32, false, .rc, 1, 0⟩,  -- IRQ_BLOCKED
  ⟨0x4200, 1, 1, 0x01, 64, 8, false, .ro, 0, 0⟩,  -- LMAP_0–LMAP_63
  ⟨0x4200, 1, 1, 0x41, 1, 32, false, .wo, 2, 0⟩,  -- RECAST_CMD
  ⟨0x4200, 1, 1, 0x42, 1, 32, false, .ro, 0, 0⟩,  -- RECAST_STATUS
  ⟨0x4200, 1, 1, 0x43, 1, 32, false, .rw, 2, 100⟩,  -- RECAST_TIMEOUT
  ⟨0x4200, 1, 1, 0x44, 1, 32, false, .ro, 0, 0⟩  -- RECAST_COUNT
  ]

/-- Entries of the chapter on crucibles. -/
def entries04 : List EntryRow := [
  ⟨0x4100, 1, 72, 0x01, 1, 32, false, .ro, 0, 0⟩,  -- CRU_STATUS
  ⟨0x4100, 1, 72, 0x02, 1, 32, false, .rwt, 2, 0⟩,  -- CRU_PORTS
  ⟨0x4100, 1, 72, 0x03, 1, 32, false, .rwt, 2, 0⟩,  -- CRU_BOOT
  ⟨0x4100, 1, 72, 0x04, 1, 32, false, .wo, 2, 0⟩,  -- CRU_CMD
  ⟨0x4100, 1, 72, 0x05, 1, 32, false, .rw, 1, 0⟩,  -- CRU_WIN_SELECT
  ⟨0x4100, 1, 72, 0x06, 1, 32, false, .ro, 1, 0⟩,  -- CRU_WIN_DATA
  ⟨0x4100, 1, 72, 0x07, 1, 32, false, .wo, 2, 0⟩,  -- CRU_WIN_WRITE
  ⟨0x4100, 1, 72, 0x08, 1, 32, false, .w1c, 1, 0⟩,  -- CRU_STICKY
  ⟨0x4100, 1, 72, 0x09, 1, 64, false, .rc, 1, 0⟩,  -- CRU_CYCLES
  ⟨0x4100, 1, 72, 0x0B, 1, 32, false, .rc, 1, 0⟩  -- CRU_STALLS
  ]

/-- Entries of the chapter on tundish. -/
def entries05 : List EntryRow := [
  ⟨0x3211, 1, 1, 0x01, 1, 32, false, .rwt, 2, 0⟩,  -- QCFG
  ⟨0x3211, 1, 1, 0x02, 1, 32, false, .rwt, 2, 0⟩,  -- BUDGET
  ⟨0x3211, 1, 1, 0x03, 1, 32, false, .ro, 0, 0⟩,  -- COUNT
  ⟨0x3211, 1, 1, 0x04, 1, 32, false, .rwt, 2, 0⟩,  -- IDLE_WORD
  ⟨0x3211, 1, 1, 0x05, 1, 32, false, .wo, 1, 0⟩,  -- FLUSH
  ⟨0x3211, 1, 1, 0x06, 1, 32, false, .ro, 0, 0⟩,  -- CREDIT_OUT
  ⟨0x3211, 1, 1, 0x08, 1, 32, false, .ro, 3, 0x7fffffff⟩,  -- HEAD
  ⟨0x3211, 1, 1, 0x09, 1, 32, false, .ro, 3, 0x7fffffff⟩,  -- TAIL
  ⟨0x3211, 1, 1, 0x0A, 1, 32, false, .ro, 3, 0⟩,  -- PTR_AUX
  ⟨0x3200, 1, 1, 0x01, 1, 32, false, .ro, 0, 0⟩,  -- TUN_STATUS
  ⟨0x3200, 1, 1, 0x02, 1, 32, false, .ro, 0, 0x80000⟩,  -- POOL_FREE
  ⟨0x3200, 1, 1, 0x03, 1, 32, false, .ro, 0, 0⟩,  -- POOL_QUEUED
  ⟨0x3200, 1, 1, 0x04, 1, 32, false, .ro, 0, 0⟩,  -- POOL_OPEN
  ⟨0x3200, 1, 1, 0x05, 1, 32, false, .ro, 0, 0⟩,  -- POOL_RECLAIM
  ⟨0x3200, 1, 1, 0x06, 1, 32, false, .ro, 0, 0⟩,  -- POOL_RESERVED
  ⟨0x3200, 1, 1, 0x07, 1, 64, false, .rwt, 2, 0⟩,  -- DEEP_BASE
  ⟨0x3200, 1, 1, 0x09, 1, 32, false, .rwt, 2, 0⟩,  -- DEEP_BLOCKS
  ⟨0x3200, 1, 1, 0x0A, 1, 32, false, .ro, 0, 0⟩,  -- DEEP_FREE
  ⟨0x3200, 1, 1, 0x0B, 1, 32, false, .ro, 0, 0⟩,  -- DEEP_QUEUED
  ⟨0x3200, 1, 1, 0x0C, 1, 32, false, .ro, 0, 0⟩,  -- DEEP_RECLAIM
  ⟨0x3200, 1, 1, 0x0D, 1, 32, false, .ro, 0, 0⟩,  -- DEEP_MOVING
  ⟨0x3200, 1, 1, 0x0E, 1, 32, false, .ro, 0, 0⟩,  -- DEEP_RESERVED
  ⟨0x3200, 1, 1, 0x0F, 1, 32, false, .ro, 0, 0⟩,  -- DEEP_ENABLED
  ⟨0x3200, 1, 1, 0x10, 1, 32, false, .rwt, 2, 1024⟩,  -- ONDIE_LIMIT
  ⟨0x3200, 1, 1, 0x11, 1, 32, false, .rwt, 2, 8⟩,  -- CR_BATCH
  ⟨0x3200, 1, 1, 0x12, 1, 32, false, .rwt, 2, 64⟩,  -- CR_WAIT
  ⟨0x3200, 1, 1, 0x13, 1, 64, false, .rc, 1, 0⟩,  -- SLAG_WORDS
  ⟨0x3200, 1, 1, 0x15, 1, 32, false, .rc, 1, 0⟩,  -- CREDIT_VIOL
  ⟨0x3200, 1, 1, 0x16, 1, 32, false, .rc, 1, 0⟩,  -- PROTO_REFUSED
  ⟨0x3200, 1, 1, 0x17, 1, 32, false, .rc, 1, 0⟩,  -- QUEUE_RESETS
  ⟨0x3210, 1, 1, 0x00, 1, 32, false, .rw, 1, 0⟩  -- QUEUE_SELECT
  ]

/-- Entries of the chapter on ladle cores. -/
def entries06 : List EntryRow := [
  ⟨0x3400, 1, 8, 0x01, 1, 32, false, .ro, 0, 0⟩,  -- LC_STATUS
  ⟨0x3400, 1, 8, 0x02, 1, 32, false, .rwt, 2, 1⟩,  -- LC_CFG
  ⟨0x3400, 1, 8, 0x03, 1, 32, false, .wo, 2, 0⟩,  -- LC_CMD
  ⟨0x3400, 1, 8, 0x04, 1, 32, false, .rwt, 2, 8000⟩,  -- QPUSH_TIMEOUT
  ⟨0x3400, 1, 8, 0x05, 1, 32, false, .ro, 0, 0⟩,  -- BANK_COUNT
  ⟨0x3400, 1, 8, 0x06, 1, 32, false, .rc, 1, 0⟩,  -- SPILLS
  ⟨0x3400, 1, 8, 0x07, 1, 32, false, .rc, 1, 0⟩,  -- FILLS
  ⟨0x3400, 1, 8, 0x08, 1, 32, false, .rc, 1, 0⟩,  -- BANK_FAULTS
  ⟨0x3400, 1, 8, 0x09, 1, 32, false, .ro, 0, 0⟩,  -- LAST_BFAULT
  ⟨0x3400, 1, 8, 0x0A, 1, 32, false, .ro, 0, 0⟩,  -- DF_PC
  ⟨0x3410, 1, 1, 0x01, 1, 8, false, .rwt, 2, 0⟩,  -- FW_DEFAULT
  ⟨0x3410, 1, 1, 0x02, 1, 32, false, .ro, 0, 0⟩,  -- FW_A_INFO
  ⟨0x3410, 1, 1, 0x03, 1, 32, false, .ro, 0, 0⟩  -- FW_B_INFO
  ]

/-- Entries of the chapter on Cupola. -/
def entries07 : List EntryRow := [
  ⟨0x3300, 1, 1, 0x01, 1, 32, false, .ro, 0, 0⟩,  -- CUP_STATUS
  ⟨0x3300, 1, 1, 0x02, 1, 32, false, .rwt, 2, 10⟩,  -- TICK
  ⟨0x3300, 1, 1, 0x03, 1, 32, false, .ro, 0, 0x80000⟩,  -- ITEM_FREE
  ⟨0x3300, 1, 1, 0x04, 1, 32, false, .ro, 0, 0⟩,  -- ITEM_WAITING
  ⟨0x3300, 1, 1, 0x05, 1, 32, false, .ro, 0, 0⟩,  -- ITEM_ELIGIBLE
  ⟨0x3300, 1, 1, 0x06, 1, 32, false, .ro, 0, 0⟩,  -- ITEM_SERVICE
  ⟨0x3300, 1, 1, 0x07, 1, 32, false, .ro, 0, 0⟩,  -- MATCH_USED
  ⟨0x3300, 1, 1, 0x08, 1, 32, false, .ro, 0, 0⟩,  -- STRANDED
  ⟨0x3300, 1, 1, 0x09, 1, 32, false, .rc, 1, 0⟩,  -- POSTS_REFUSED
  ⟨0x3300, 1, 1, 0x0A, 1, 32, false, .rc, 1, 0⟩,  -- MATCH_REFUSED
  ⟨0x3300, 1, 1, 0x0B, 1, 32, false, .rc, 1, 0⟩,  -- DUP_OPERANDS
  ⟨0x3300, 1, 1, 0x0C, 1, 32, false, .rc, 1, 0⟩,  -- OPERANDS_DISCARDED
  ⟨0x3300, 1, 1, 0x0D, 1, 32, false, .rc, 1, 0⟩,  -- ITEMS_CANCELLED
  ⟨0x3300, 1, 1, 0x0E, 1, 32, false, .rc, 1, 0⟩,  -- BAD_PACKETS
  ⟨0x3300, 1, 1, 0x0F, 1, 64, false, .rc, 1, 0⟩,  -- DISPATCHES
  ⟨0x3310, 1, 1, 0x00, 1, 32, false, .rw, 1, 0⟩,  -- THREAD_SELECT
  ⟨0x3310, 1, 1, 0x01, 1, 32, false, .ro, 0, 0⟩,  -- T_STATE
  ⟨0x3310, 1, 1, 0x02, 1, 32, false, .rwt, 2, 0xfbf0ff00⟩,  -- T_CFG
  ⟨0x3310, 1, 1, 0x03, 1, 32, false, .rwt, 2, 0⟩,  -- T_ENTRY
  ⟨0x3310, 1, 1, 0x04, 1, 32, false, .wo, 2, 0⟩,  -- T_CMD
  ⟨0x3310, 1, 1, 0x05, 1, 32, false, .ro, 0, 0⟩,  -- T_RESULT
  ⟨0x3320, 1, 1, 0x00, 1, 32, false, .rw, 1, 0⟩,  -- FLOW_SELECT
  ⟨0x3320, 1, 1, 0x01, 1, 32, false, .ro, 0, 0⟩,  -- F_STATE
  ⟨0x3330, 1, 1, 0x00, 1, 32, false, .rw, 1, 0⟩,  -- MATCH_SELECT
  ⟨0x3330, 1, 1, 0x01, 1, 32, false, .ro, 0, 0⟩,  -- M_STATE
  ⟨0x3330, 1, 1, 0x02, 2, 32, false, .ro, 1, 0⟩  -- M_TAG, M_OPERAND
  ]

/-- Entries of the chapter on runner network, part 1. -/
def entries08a : List EntryRow := [
  ⟨0x3000, 1, 12, 0x01, 1, 32, false, .ro, 0, 0⟩,  -- RTR_STATUS
  ⟨0x3000, 1, 12, 0x02, 1, 32, false, .wo, 3, 0⟩,  -- RTR_CMD
  ⟨0x3000, 1, 12, 0x03, 1, 32, false, .rc, 1, 0⟩,  -- HDR_CORRECTED
  ⟨0x3000, 1, 12, 0x04, 1, 32, false, .rc, 1, 0⟩,  -- HDR_DROPPED
  ⟨0x3000, 1, 12, 0x05, 1, 32, false, .rc, 1, 0⟩,  -- OFFLINE_ANSWERS
  ⟨0x3000, 1, 12, 0x06, 1, 32, false, .rc, 1, 0⟩,  -- CLOSED_DROPS
  ⟨0x3000, 1, 12, 0x10, 16, 32, false, .ro, 0, 0⟩,  -- ROUTE_0–ROUTE_15
  ⟨0x3000, 1, 12, 0x20, 16, 32, false, .rw, 3, 0⟩,  -- STAGE_0–STAGE_15
  ⟨0x3000, 1, 12, 0x30, 16, 32, false, .ro, 0, 0⟩,  -- PORT_0–PORT_15
  ⟨0x3010, 1, 1, 0x01, 1, 32, false, .ro, 0, 0⟩,  -- NET_STATUS
  ⟨0x3010, 1, 1, 0x02, 1, 32, false, .rwt, 2, 1000⟩,  -- RSP_TIMEOUT
  ⟨0x3010, 1, 1, 0x03, 1, 32, false, .rwt, 2, 100⟩,  -- CLOSE_TIMEOUT
  ⟨0x3010, 1, 1, 0x04, 1, 32, false, .rc, 1, 0⟩,  -- DATA_CORRECTED
  ⟨0x3010, 1, 1, 0x05, 1, 32, false, .rc, 1, 0⟩,  -- DATA_POISONED
  ⟨0x3010, 1, 1, 0x06, 1, 32, false, .rc, 1, 0⟩,  -- LOST_COUNT
  ⟨0x3010, 1, 1, 0x07, 1, 32, false, .rc, 1, 0⟩,  -- LATE_ANSWERS
  ⟨0x3040, 1, 1, 0x00, 1, 32, false, .rw, 1, 0⟩,  -- STAT_SELECT
  ⟨0x3040, 1, 1, 0x01, 1, 64, false, .rc, 1, 0⟩,  -- REQ_COUNT
  ⟨0x3040, 1, 1, 0x03, 1, 64, false, .rc, 1, 0⟩,  -- BYTE_COUNT
  ⟨0x3040, 1, 1, 0x05, 1, 32, false, .rc, 1, 0xffffffff⟩,  -- LAT_MIN
  ⟨0x3040, 1, 1, 0x06, 1, 32, false, .rc, 1, 0⟩,  -- LAT_MAX
  ⟨0x3040, 1, 1, 0x08, 8, 32, false, .rc, 1, 0⟩,  -- HIST_0–HIST_7
  ⟨0x3080, 1, 96, 0x01, 1, 32, false, .rwt, 2, 0⟩,  -- RATE_c
  ⟨0x3080, 1, 96, 0x05, 1, 32, false, .rwt, 2, 0⟩,  -- RATE_c
  ⟨0x3080, 1, 96, 0x09, 1, 32, false, .rwt, 2, 0⟩,  -- RATE_c
  ⟨0x3080, 1, 96, 0x0D, 1, 32, false, .rwt, 2, 0⟩,  -- RATE_c
  ⟨0x3080, 1, 96, 0x02, 1, 32, false, .rwt, 2, 4096⟩,  -- BURST_c
  ⟨0x3080, 1, 96, 0x06, 1, 32, false, .rwt, 2, 4096⟩,  -- BURST_c
  ⟨0x3080, 1, 96, 0x0A, 1, 32, false, .rwt, 2, 4096⟩,  -- BURST_c
  ⟨0x3080, 1, 96, 0x0E, 1, 32, false, .rwt, 2, 4096⟩,  -- BURST_c
  ⟨0x3080, 1, 96, 0x03, 1, 32, false, .rc, 1, 0⟩,  -- THROTTLED_c
  ⟨0x3080, 1, 96, 0x07, 1, 32, false, .rc, 1, 0⟩  -- THROTTLED_c
  ]

/-- Entries of the chapter on runner network, part 2. -/
def entries08b : List EntryRow := [
  ⟨0x3080, 1, 96, 0x0B, 1, 32, false, .rc, 1, 0⟩,  -- THROTTLED_c
  ⟨0x3080, 1, 96, 0x0F, 1, 32, false, .rc, 1, 0⟩  -- THROTTLED_c
  ]

/-- Entries of the chapter on catch memory, part 1. -/
def entries09a : List EntryRow := [
  ⟨0x3180, 1, 16, 0x01, 1, 32, false, .rwt, 2, 0⟩,  -- MAP_CFG
  ⟨0x3180, 1, 16, 0x02, 1, 32, false, .rwt, 2, 0⟩,  -- MAP_CHAN
  ⟨0x3180, 1, 16, 0x03, 1, 32, false, .rwt, 2, 0⟩,  -- MAP_LOCAL
  ⟨0x3100, 16, 8, 0x01, 1, 32, false, .ro, 0, 0⟩,  -- CH_STATUS
  ⟨0x3100, 16, 8, 0x02, 1, 32, false, .rw, 2, 0⟩,  -- CH_CFG
  ⟨0x3100, 16, 8, 0x03, 1, 32, false, .wo, 2, 0⟩,  -- CH_CMD
  ⟨0x3100, 16, 8, 0x04, 1, 32, false, .ro, 0, 0⟩,  -- CH_CMD_STATUS
  ⟨0x3100, 16, 8, 0x05, 1, 32, false, .rw, 2, 0⟩,  -- REF_CFG
  ⟨0x3100, 16, 8, 0x06, 5, 32, false, .rw, 2, 0⟩,  -- TIMING_0–TIMING_4
  ⟨0x3100, 16, 8, 0x0B, 1, 32, false, .rc, 1, 0⟩,  -- CE_COUNT
  ⟨0x3100, 16, 8, 0x0C, 1, 32, false, .rc, 1, 0⟩,  -- UE_COUNT
  ⟨0x3100, 16, 8, 0x0D, 1, 32, false, .rc, 1, 0⟩,  -- POISON_READS
  ⟨0x3100, 16, 8, 0x0E, 1, 32, false, .rc, 1, 0⟩,  -- RMW_COUNT
  ⟨0x3100, 16, 8, 0x0F, 1, 32, false, .rc, 1, 0⟩,  -- FOLDS
  ⟨0x3100, 16, 8, 0x10, 1, 32, false, .rc, 1, 0⟩,  -- FOLD_LINES
  ⟨0x3100, 16, 8, 0x11, 1, 32, false, .rc, 1, 0⟩,  -- REF_URGENT
  ⟨0x3100, 16, 8, 0x12, 1, 64, false, .w1c, 1, 0⟩,  -- CE_LANES_A
  ⟨0x3100, 16, 8, 0x14, 1, 64, false, .w1c, 1, 0⟩,  -- CE_LANES_B
  ⟨0x3101, 16, 8, 0x01, 1, 32, false, .rw, 2, 0⟩,  -- DLY_SELECT
  ⟨0x3101, 16, 8, 0x02, 1, 32, false, .rw, 2, 0⟩,  -- DLY_DATA
  ⟨0x3101, 16, 8, 0x03, 1, 32, false, .ro, 0, 0⟩,  -- DLY_VALID
  ⟨0x3102, 16, 8, 0x01, 1, 32, false, .rw, 2, 0⟩,  -- INJ_SELECT
  ⟨0x3102, 16, 8, 0x02, 1, 64, false, .rw, 2, 0⟩,  -- INJ_ENTRY
  ⟨0x3102, 16, 8, 0x04, 1, 32, false, .rw, 2, 0⟩,  -- INJ_LEN
  ⟨0x3102, 16, 8, 0x05, 1, 32, false, .rw, 2, 0⟩,  -- PATTERN_SELECT
  ⟨0x3102, 16, 8, 0x06, 1, 64, false, .rw, 2, 0⟩,  -- PATTERN
  ⟨0x3102, 16, 8, 0x08, 1, 32, false, .rw, 2, 0⟩,  -- CAPTURE_SELECT
  ⟨0x3102, 16, 8, 0x09, 1, 64, false, .ro, 2, 0⟩,  -- CAPTURE
  ⟨0x3103, 16, 8, 0x01, 1, 32, false, .rw, 2, 0⟩,  -- SWEEP_CFG
  ⟨0x3103, 16, 8, 0x02, 1, 32, false, .rw, 2, 0⟩,  -- SWEEP_START
  ⟨0x3103, 16, 8, 0x03, 1, 32, false, .rw, 2, 0⟩,  -- SWEEP_SELECT
  ⟨0x3103, 16, 8, 0x04, 1, 64, false, .ro, 2, 0⟩  -- SWEEP_PASS_A
  ]

/-- Entries of the chapter on catch memory, part 2. -/
def entries09b : List EntryRow := [
  ⟨0x3103, 16, 8, 0x06, 1, 64, false, .ro, 2, 0⟩,  -- SWEEP_PASS_B
  ⟨0x3103, 16, 8, 0x08, 1, 32, false, .ro, 2, 0⟩,  -- SWEEP_ERRS
  ⟨0x3190, 1, 1, 0x01, 1, 32, false, .wo, 2, 0⟩,  -- EVAC_CMD
  ⟨0x3190, 1, 1, 0x02, 1, 32, false, .ro, 0, 0⟩,  -- EVAC_STATUS
  ⟨0x3190, 1, 1, 0x03, 1, 32, false, .ro, 0, 0⟩,  -- EVAC_PROGRESS
  ⟨0x3190, 1, 1, 0x04, 1, 32, false, .ro, 0, 0⟩,  -- EVAC_POISONED
  ⟨0x3191, 1, 1, 0x01, 1, 64, false, .rw, 2, 0⟩,  -- ZERO_BASE
  ⟨0x3191, 1, 1, 0x03, 1, 64, false, .rw, 2, 0⟩,  -- ZERO_LEN
  ⟨0x3191, 1, 1, 0x05, 1, 32, false, .wo, 2, 0⟩,  -- ZERO_CMD
  ⟨0x3191, 1, 1, 0x06, 1, 32, false, .ro, 0, 0⟩,  -- ZERO_STATUS
  ⟨0x3192, 1, 1, 0x01, 1, 32, false, .rwt, 2, 32⟩,  -- FOLD_HOLD
  ⟨0x3192, 1, 1, 0x02, 1, 32, false, .rwt, 2, 1⟩,  -- SCRUB_CE
  ⟨0x3192, 1, 1, 0x03, 1, 32, false, .rwt, 2, 48⟩,  -- WQ_HIGH
  ⟨0x3192, 1, 1, 0x04, 1, 32, false, .rwt, 2, 16⟩,  -- WQ_LOW
  ⟨0x3192, 1, 1, 0x05, 1, 32, false, .rwt, 2, 0⟩,  -- HOLD_RETAIN
  ⟨0x3192, 1, 1, 0x06, 1, 32, false, .rwt, 2, 10000⟩,  -- DIMM_PWR_WAIT
  ⟨0x3192, 1, 1, 0x07, 1, 32, false, .rwt, 2, 8⟩  -- ALERT_LIMIT
  ]

/-- Entries of the chapter on Villet link ports, part 1. -/
def entries10a : List EntryRow := [
  ⟨0x3500, 32, 6, 0x01, 1, 32, false, .ro, 0, 0⟩,  -- LINK_STATUS
  ⟨0x3500, 32, 6, 0x02, 1, 32, false, .wo, 2, 0⟩,  -- LINK_CMD
  ⟨0x3500, 32, 6, 0x03, 1, 32, false, .rwt, 2, 0⟩,  -- LINK_CFG
  ⟨0x3500, 32, 6, 0x04, 1, 32, false, .rwt, 2, 200⟩,  -- ACK_DELAY
  ⟨0x3500, 32, 6, 0x05, 1, 32, false, .rwt, 2, 4000⟩,  -- REPLAY_TIMEOUT
  ⟨0x3500, 32, 6, 0x06, 1, 32, false, .rwt, 2, 4⟩,  -- REPLAY_LIMIT
  ⟨0x3500, 32, 6, 0x07, 1, 32, false, .rwt, 2, 0x1003e8⟩,  -- ERR_LIMIT
  ⟨0x3500, 32, 6, 0x08, 1, 32, false, .rwt, 2, 100⟩,  -- DEAD_TIMEOUT
  ⟨0x3500, 32, 6, 0x09, 1, 32, false, .rwt, 2, 10⟩,  -- KEEPALIVE
  ⟨0x3500, 32, 6, 0x0A, 1, 32, false, .rwt, 2, 2000⟩,  -- ALIGN_TIMEOUT
  ⟨0x3500, 32, 6, 0x0B, 1, 32, false, .rwt, 2, 1000⟩,  -- INIT_TIMEOUT
  ⟨0x3500, 32, 6, 0x0C, 1, 32, false, .rwt, 2, 2⟩,  -- RETRAIN_HOLD
  ⟨0x3500, 32, 6, 0x0D, 1, 32, false, .rwt, 2, 8⟩,  -- RETRAIN_LIMIT
  ⟨0x3500, 32, 6, 0x0E, 1, 32, false, .ro, 0, 0⟩,  -- EPOCHS
  ⟨0x3500, 32, 6, 0x0F, 1, 64, false, .ro, 0, 0⟩,  -- SEQ_STATE
  ⟨0x3500, 32, 6, 0x11, 1, 32, false, .ro, 0, 0⟩,  -- UNACKED
  ⟨0x3500, 32, 6, 0x12, 1, 64, false, .ro, 0, 0⟩,  -- CRED_TX
  ⟨0x3500, 32, 6, 0x14, 1, 64, false, .ro, 0, 0⟩,  -- CRED_RX
  ⟨0x3501, 32, 6, 0x01, 1, 32, false, .rw, 1, 0⟩,  -- LANE_SELECT
  ⟨0x3501, 32, 6, 0x02, 1, 32, false, .ro, 0, 0⟩,  -- LANE_STATUS
  ⟨0x3501, 32, 6, 0x03, 1, 32, false, .rwt, 2, 0⟩,  -- LANE_CFG
  ⟨0x3501, 32, 6, 0x04, 1, 32, false, .rc, 1, 0⟩,  -- BIP_ERRORS
  ⟨0x3502, 32, 6, 0x01, 1, 64, false, .rc, 1, 0⟩,  -- FRAMES_TX
  ⟨0x3502, 32, 6, 0x03, 1, 64, false, .rc, 1, 0⟩,  -- FRAMES_RX
  ⟨0x3502, 32, 6, 0x05, 1, 32, false, .rc, 1, 0⟩,  -- BAD_FRAMES
  ⟨0x3502, 32, 6, 0x06, 1, 32, false, .rc, 1, 0⟩,  -- NAKS_SENT
  ⟨0x3502, 32, 6, 0x07, 1, 32, false, .rc, 1, 0⟩,  -- NAKS_RECEIVED
  ⟨0x3502, 32, 6, 0x08, 1, 32, false, .rc, 1, 0⟩,  -- REPLAYS
  ⟨0x3502, 32, 6, 0x09, 1, 32, false, .rc, 1, 0⟩,  -- REPLAYED_FRAMES
  ⟨0x3502, 32, 6, 0x0A, 1, 32, false, .rc, 1, 0⟩,  -- DUP_FRAMES
  ⟨0x3502, 32, 6, 0x0B, 1, 32, false, .rc, 1, 0⟩,  -- PROTO_ERRORS
  ⟨0x3502, 32, 6, 0x0C, 1, 32, false, .rc, 1, 0⟩  -- CODING_ERRORS
  ]

/-- Entries of the chapter on Villet link ports, part 2. -/
def entries10b : List EntryRow := [
  ⟨0x3502, 32, 6, 0x0D, 1, 32, false, .rc, 1, 0⟩,  -- RETRAINS
  ⟨0x3502, 32, 6, 0x0E, 1, 32, false, .rc, 1, 0⟩,  -- OUT_OF_STATE_FRAMES
  ⟨0x3502, 32, 6, 0x0F, 1, 32, false, .rc, 1, 0⟩  -- STRAY_MSGS
  ]

/-- Entries of the chapter on heats. -/
def entries11 : List EntryRow := [
  ⟨0x35C0, 1, 12, 0x01, 1, 32, false, .ro, 0, 0⟩,  -- HEAT_STATUS
  ⟨0x35C0, 1, 12, 0x02, 1, 32, false, .wo, 2, 0⟩,  -- HEAT_CMD
  ⟨0x35C0, 1, 12, 0x03, 1, 32, false, .rwt, 2, 0⟩,  -- HEAT_CFG
  ⟨0x35C0, 1, 12, 0x04, 1, 64, false, .rwt, 2, 0⟩,  -- START
  ⟨0x35C0, 1, 12, 0x06, 1, 64, false, .rwt, 2, 0⟩,  -- END
  ⟨0x35C0, 1, 12, 0x08, 1, 64, false, .rwt, 2, 0⟩,  -- SITE_MAP
  ⟨0x35C0, 1, 12, 0x0A, 4, 32, false, .rwt, 2, 0⟩,  -- VEC_Q, RES_Q, PARAM_Q, EVENT_Q
  ⟨0x35C0, 1, 12, 0x0E, 1, 64, false, .rw, 1, 0⟩,  -- MARK_AT
  ⟨0x35C0, 1, 12, 0x10, 1, 64, false, .ro, 0, 0⟩,  -- NEXT_SEND
  ⟨0x35C0, 1, 12, 0x12, 1, 64, false, .ro, 0, 0⟩,  -- APPLIED
  ⟨0x35C0, 1, 12, 0x14, 1, 64, false, .ro, 0, 0⟩,  -- VOID_INDEX
  ⟨0x35C0, 1, 12, 0x16, 1, 64, false, .ro, 0, 0⟩,  -- LAST_MARK
  ⟨0x35C0, 1, 12, 0x18, 1, 64, false, .ro, 0, 0⟩,  -- RESTART_INDEX
  ⟨0x35C0, 1, 12, 0x1A, 1, 64, false, .ro, 0, 0xffffffffffffffff⟩,  -- FE_FINAL
  ⟨0x35C0, 1, 12, 0x1C, 1, 64, false, .rc, 1, 0⟩,  -- GAP_VECTORS
  ⟨0x35C0, 1, 12, 0x1E, 1, 32, false, .rc, 1, 0⟩,  -- GAP_EVENTS
  ⟨0x35C0, 1, 12, 0x1F, 1, 32, false, .rc, 1, 0⟩,  -- IDLE_WORDS
  ⟨0x35C0, 1, 12, 0x20, 32, 32, false, .rwt, 2, 0⟩,  -- IDLE_0–IDLE_31
  ⟨0x35C0, 1, 12, 0x40, 1, 32, false, .rc, 1, 0⟩,  -- FAIL_RECORDS
  ⟨0x35C0, 1, 12, 0x41, 1, 32, false, .rc, 1, 0⟩,  -- PARAM_RECORDS
  ⟨0x35C0, 1, 12, 0x42, 1, 32, false, .rc, 1, 0⟩,  -- BAD_RECORDS
  ⟨0x35C0, 1, 12, 0x43, 1, 32, false, .rc, 1, 0⟩,  -- HEAT_PROTO
  ⟨0x35C0, 1, 12, 0x44, 1, 32, false, .rwt, 2, 1000⟩,  -- OPEN_TIMEOUT
  ⟨0x35C0, 1, 12, 0x45, 1, 32, false, .rwt, 2, 100⟩,  -- APPLIED_TIMEOUT
  ⟨0x35C0, 1, 12, 0x46, 1, 32, false, .rwt, 2, 10000⟩  -- DRAIN_TIMEOUT
  ]

/-- Entries of the chapter on loader and mould store. -/
def entries12 : List EntryRow := [
  ⟨0x2200, 1, 1, 0x01, 1, 32, false, .ro, 0, 0⟩,  -- LD_STATUS
  ⟨0x2200, 1, 1, 0x02, 1, 32, false, .wo, 2, 0⟩,  -- LD_CMD
  ⟨0x2200, 1, 1, 0x03, 1, 64, false, .rw, 2, 0⟩,  -- LD_ADDR
  ⟨0x2200, 1, 1, 0x05, 1, 32, false, .ro, 0, 0⟩,  -- LD_ERROR
  ⟨0x2200, 1, 1, 0x06, 1, 32, false, .ro, 0, 0⟩,  -- LD_RELEASES
  ⟨0x2200, 1, 1, 0x07, 1, 32, false, .rwt, 2, 1000⟩,  -- SCP_TIMEOUT
  ⟨0x2200, 1, 1, 0x08, 1, 32, false, .rwt, 2, 100⟩,  -- LD_DRAIN_TIMEOUT
  ⟨0x2200, 1, 1, 0x09, 1, 32, false, .rc, 1, 0⟩,  -- SCP_RETRIES
  ⟨0x2200, 1, 1, 0x0A, 1, 32, false, .rw, 2, 0xffffff10⟩,  -- BOOT_ORDER
  ⟨0x2200, 1, 1, 0x0B, 1, 32, false, .ro, 0, 0⟩,  -- BOOT_WEAR
  ⟨0x2210, 1, 4, 0x01, 1, 32, false, .ro, 0, 0⟩,  -- MS_INFO
  ⟨0x2210, 1, 4, 0x02, 1, 32, false, .ro, 0, 0⟩,  -- MS_VERSION
  ⟨0x2210, 1, 4, 0x03, 1, 32, false, .ro, 0, 0⟩,  -- MS_WEAR
  ⟨0x2210, 1, 4, 0x04, 1, 32, false, .wo, 2, 0⟩,  -- MS_CMD
  ⟨0x2210, 1, 4, 0x05, 1, 32, false, .rw, 2, 0⟩,  -- MS_OFFSET
  ⟨0x2210, 1, 4, 0x06, 1, 0, false, .wo, 2, 0⟩,  -- MS_DATA
  ⟨0x2210, 1, 4, 0x07, 1, 0, false, .ro, 1, 0⟩  -- MS_RDATA
  ]

/-- Entries of the chapter on standard objects, paths, sessions, keys, transactions, part 1. -/
def entries13a : List EntryRow := [
  ⟨0x2001, 1, 1, 0x01, 1, 32, false, .rc, 0, 0⟩,  -- PATH_ABORT
  ⟨0x2001, 1, 1, 0x02, 1, 32, false, .rc, 0, 0⟩,  -- PATH_ABORT_AT
  ⟨0x2001, 1, 1, 0x03, 1, 32, false, .rc, 0, 0⟩,  -- PATH_REFUSED
  ⟨0x2001, 1, 1, 0x04, 1, 32, false, .ro, 0, 0⟩,  -- PATH_ID
  ⟨0x2001, 1, 1, 0x05, 1, 32, false, .ro, 0, 0⟩,  -- PATH_SESSION
  ⟨0x2000, 1, 1, 0x01, 1, 32, false, .ro, 0, 16534⟩,  -- DEVICE_ID
  ⟨0x2000, 1, 1, 0x02, 1, 32, false, .ro, 0, 0⟩,  -- SILICON_REV
  ⟨0x2000, 1, 1, 0x03, 1, 64, false, .ro, 0, 0⟩,  -- SERIAL
  ⟨0x2000, 1, 1, 0x05, 1, 0, false, .ro, 0, 0⟩,  -- ORDER_CODE
  ⟨0x2010, 1, 1, 0x01, 1, 32, false, .wo, 0, 0⟩,  -- SESS_REQ
  ⟨0x2010, 1, 1, 0x02, 8, 32, false, .ro, 0, 0⟩,  -- SESS_CHAL_0–7
  ⟨0x2010, 1, 1, 0x0A, 8, 32, false, .wo, 0, 0⟩,  -- SESS_RESP_0–7
  ⟨0x2011, 1, 4, 0x01, 1, 32, false, .ro, 0, 0⟩,  -- SESS_STATE
  ⟨0x2011, 1, 4, 0x02, 1, 32, false, .ro, 0, 0⟩,  -- SESS_IDLE
  ⟨0x2011, 1, 4, 0x03, 1, 32, false, .wo, 3, 0⟩,  -- SESS_CMD
  ⟨0x2018, 1, 1, 0x01, 1, 32, false, .rw, 2, 60⟩,  -- SESS_IDLE_TIMEOUT
  ⟨0x2018, 1, 1, 0x02, 1, 32, false, .rw, 2, 1000⟩,  -- CHAL_TIMEOUT
  ⟨0x2018, 1, 1, 0x03, 1, 32, false, .rc, 0, 0⟩,  -- AUTH_FAILS
  ⟨0x2020, 1, 4, 0x01, 1, 32, false, .ro, 0, 0⟩,  -- KEY_INFO
  ⟨0x2020, 1, 4, 0x02, 8, 32, false, .wo, 3, 0⟩,  -- KEY_DATA_0–7
  ⟨0x2020, 1, 4, 0x0A, 1, 32, false, .wo, 3, 0⟩,  -- KEY_CMD
  ⟨0x2020, 1, 4, 0x0B, 1, 32, false, .ro, 0, 0⟩,  -- KEY_WEAR
  ⟨0x2030, 1, 1, 0x01, 1, 32, false, .wo, 1, 0⟩,  -- TX_CMD
  ⟨0x2030, 1, 1, 0x02, 1, 32, false, .ro, 1, 0⟩,  -- TX_STATUS
  ⟨0x2030, 1, 1, 0x03, 1, 64, false, .rw, 1, 0⟩,  -- TX_AT
  ⟨0x2030, 1, 1, 0x05, 1, 32, false, .rw, 1, 0⟩,  -- TX_HEAT
  ⟨0x2030, 1, 1, 0x06, 1, 64, false, .rw, 1, 0⟩,  -- TX_HEAT_INDEX
  ⟨0x2030, 1, 1, 0x08, 1, 32, false, .ro, 1, 0⟩,  -- TX_FAIL_AT
  ⟨0x2030, 1, 1, 0x09, 1, 32, false, .ro, 1, 0⟩,  -- TX_FAIL_CODE
  ⟨0x2030, 1, 1, 0x0A, 1, 64, false, .ro, 1, 0⟩,  -- TX_APPLIED_TICK
  ⟨0x2030, 1, 1, 0x0C, 1, 32, false, .ro, 0, 0⟩,  -- TX_LAST
  ⟨0x1000, 1, 1, 0x00, 1, 32, false, .ro, 0, 0⟩  -- Device type
  ]

/-- Entries of the chapter on standard objects, paths, sessions, keys, transactions, part 2. -/
def entries13b : List EntryRow := [
  ⟨0x1001, 1, 1, 0x00, 1, 8, false, .ro, 0, 0⟩,  -- Error register
  ⟨0x1008, 1, 1, 0x00, 1, 0, false, .ro, 0, 0⟩,  -- Device name
  ⟨0x1009, 1, 1, 0x00, 1, 0, false, .ro, 0, 0⟩,  -- Hardware version
  ⟨0x100A, 1, 1, 0x00, 1, 0, false, .ro, 0, 0⟩,  -- Software version
  ⟨0x1018, 1, 1, 0x01, 4, 32, false, .ro, 0, 0⟩,  -- Identity :01-:04
  ⟨0x1600, 1, 8, 0x01, 64, 32, false, .rw, 2, 0⟩,  -- RxPDO mapping
  ⟨0x1A00, 1, 8, 0x01, 64, 32, false, .rw, 2, 0⟩,  -- TxPDO mapping
  ⟨0x1C00, 1, 1, 0x01, 8, 8, false, .ro, 0, 0⟩,  -- SyncManager communication type
  ⟨0x1C12, 1, 2, 0x01, 8, 16, false, .rw, 2, 0⟩,  -- PDO assignment
  ⟨0x1C32, 1, 2, 0x01, 1, 16, false, .rw, 2, 0⟩,  -- SyncManager parameters: synchronisation type
  ⟨0x1600, 1, 8, 0x00, 1, 8, false, .rw, 2, 0⟩,  -- RxPDO mapping count
  ⟨0x1A00, 1, 8, 0x00, 1, 8, false, .rw, 2, 0⟩,  -- TxPDO mapping count
  ⟨0x1C12, 1, 2, 0x00, 1, 8, false, .rw, 2, 0⟩  -- PDO assignment count
  ]

/-- Entries of the chapter on chill, log, policies, records. -/
def entries14 : List EntryRow := [
  ⟨0x2300, 1, 1, 0x01, 1, 32, false, .ro, 0, 0⟩,  -- CHILL_STATUS
  ⟨0x2300, 1, 1, 0x02, 1, 32, false, .wo, 1, 0⟩,  -- CHILL_CMD
  ⟨0x2300, 1, 1, 0x03, 1, 32, false, .rwt, 2, 0⟩,  -- CHILL_CFG
  ⟨0x2300, 1, 1, 0x04, 1, 64, false, .rw, 1, 0⟩,  -- CHILL_AT
  ⟨0x2300, 1, 1, 0x06, 1, 32, false, .rc, 1, 0⟩,  -- CHILL_MISSED
  ⟨0x2300, 1, 1, 0x07, 1, 32, false, .ro, 0, 0⟩,  -- CHILL_COUNT
  ⟨0x2301, 1, 2, 0x01, 1, 32, false, .w1c, 1, 0⟩,  -- BANK_INFO
  ⟨0x2301, 1, 2, 0x02, 1, 32, false, .ro, 0, 0⟩,  -- BANK_SEQ
  ⟨0x2301, 1, 2, 0x03, 1, 64, false, .ro, 0, 0⟩,  -- BANK_TIME
  ⟨0x2301, 1, 2, 0x05, 1, 32, false, .ro, 0, 0⟩,  -- BANK_ERRSEQ
  ⟨0x2303, 1, 1, 0x00, 1, 32, false, .rw, 1, 0⟩,  -- CHILL_WIN_SELECT
  ⟨0x2303, 1, 1, 0x01, 1, 64, false, .ro, 1, 0⟩,  -- CHILL_WIN_DATA
  ⟨0x2304, 1, 1, 0x01, 64, 32, false, .rwt, 2, 0⟩,  -- CHILL_LIST_0–63
  ⟨0x2400, 1, 1, 0x01, 1, 32, false, .ro, 0, 1⟩,  -- LOG_HEAD
  ⟨0x2400, 1, 1, 0x02, 1, 32, false, .ro, 0, 1⟩,  -- LOG_OLDEST
  ⟨0x2400, 1, 1, 0x03, 1, 32, false, .rw, 0, 0⟩,  -- LOG_SELECT
  ⟨0x2400, 1, 1, 0x04, 8, 32, false, .ro, 0, 0⟩,  -- LOG_E0–LOG_E7
  ⟨0x2400, 1, 1, 0x0C, 1, 32, false, .wo, 1, 0⟩,  -- LOG_ACK
  ⟨0x2400, 1, 1, 0x0D, 1, 32, false, .ro, 0, 0⟩,  -- LOG_UNACK
  ⟨0x2400, 1, 1, 0x0E, 1, 32, false, .rc, 1, 0⟩,  -- LOG_LOST
  ⟨0x2400, 1, 1, 0x0F, 4, 32, false, .rc, 1, 0⟩,  -- CLASS1_COUNT–CLASS4_COUNT
  ⟨0x2400, 1, 1, 0x13, 1, 32, false, .rw, 0, 0⟩,  -- LOG_SEEN
  ⟨0x2410, 1, 1, 0x00, 1, 32, false, .rw, 1, 0⟩,  -- POL_SELECT
  ⟨0x2410, 1, 1, 0x01, 1, 32, false, .rwt, 2, 0⟩,  -- POLICY
  ⟨0x2411, 1, 1, 0x01, 1, 32, false, .rwt, 2, 16⟩,  -- RECAST_CE_LIMIT
  ⟨0x2411, 1, 1, 0x02, 1, 32, false, .rwt, 2, 1000⟩,  -- RECAST_CE_WINDOW
  ⟨0x2420, 1, 1, 0x00, 1, 32, false, .rw, 0, 0⟩,  -- REC_SELECT
  ⟨0x2420, 1, 1, 0x01, 1, 32, false, .ro, 0, 0⟩,  -- REC_STATUS
  ⟨0x2420, 1, 1, 0x02, 1, 32, false, .ro, 0, 0⟩,  -- REC_SEQ
  ⟨0x2420, 1, 1, 0x03, 1, 32, false, .ro, 0, 0⟩,  -- REC_OBJ
  ⟨0x2420, 1, 1, 0x04, 1, 32, false, .ro, 0, 0⟩,  -- REC_ACTIVE
  ⟨0x2420, 1, 1, 0x05, 1, 32, false, .rc, 1, 0⟩  -- REC_OVERFLOW
  ]

/-- Entries of the chapter on PCIe and process data. -/
def entries15 : List EntryRow := [
  ⟨0x2600, 1, 1, 0x01, 1, 32, false, .ro, 0, 0⟩,  -- PCIE_STATUS
  ⟨0x2600, 1, 1, 0x02, 1, 32, false, .rw, 2, 0⟩,  -- PCIE_CFG
  ⟨0x2600, 1, 1, 0x03, 1, 32, false, .rwt, 2, 0⟩,  -- EVT_LOG_VEC
  ⟨0x2600, 1, 1, 0x04, 1, 32, false, .rwt, 2, 0⟩,  -- EVT_CHILL_VEC
  ⟨0x2600, 1, 1, 0x05, 1, 32, false, .rc, 1, 0⟩,  -- WR_DROPS
  ⟨0x2600, 1, 1, 0x06, 1, 32, false, .rc, 1, 0⟩,  -- RD_ABORTS
  ⟨0x2610, 1, 1, 0x00, 1, 32, false, .rw, 1, 0⟩,  -- DMA_SELECT
  ⟨0x2610, 1, 1, 0x01, 1, 32, false, .rwt, 2, 0⟩,  -- DMA_CFG
  ⟨0x2610, 1, 1, 0x02, 1, 32, false, .rwt, 2, 0⟩,  -- DMA_CQ
  ⟨0x2610, 1, 1, 0x03, 1, 32, false, .ro, 0, 0⟩,  -- DMA_STATUS
  ⟨0x2610, 1, 1, 0x04, 1, 32, false, .rc, 1, 0⟩,  -- DMA_DONE
  ⟨0x6000, 1, 1, 0x01, 16, 32, false, .rw, 1, 0⟩,  -- PDO_OUT_0-15
  ⟨0x6800, 1, 1, 0x01, 16, 32, false, .rw, 1, 0⟩,  -- PDO_IN_0-15
  ⟨0x6800, 1, 1, 0x11, 1, 8, false, .ro, 0, 0⟩,  -- ERROR_REG_IN
  ⟨0x6800, 1, 1, 0x12, 1, 32, false, .ro, 0, 0⟩  -- LOG_HEAD_IN
  ]

/-- Entries of the chapter on general pins. -/
def entries16 : List EntryRow := [
  ⟨0x2500, 1, 64, 0x01, 1, 32, false, .rwt, 2, 0⟩,  -- PIN_CFG
  ⟨0x2500, 1, 64, 0x02, 1, 32, false, .rw, 1, 0⟩,  -- PIN_OUT
  ⟨0x2500, 1, 64, 0x03, 1, 32, false, .ro, 0, 0⟩,  -- PIN_STATUS
  ⟨0x2500, 1, 64, 0x04, 1, 32, false, .w1c, 1, 0⟩,  -- PIN_IRQ
  ⟨0x2540, 1, 1, 0x01, 1, 32, false, .ro, 0, 0⟩,  -- BANK_STATUS
  ⟨0x2540, 1, 1, 0x02, 1, 64, false, .ro, 0, 0⟩,  -- GP_IN
  ⟨0x2540, 1, 1, 0x04, 1, 64, false, .rw, 1, 0⟩,  -- GP_OUT
  ⟨0x2540, 1, 1, 0x06, 1, 64, false, .w1c, 1, 0⟩,  -- GP_IRQ
  ⟨0x2580, 1, 4, 0x01, 1, 32, false, .rwt, 2, 0⟩,  -- I2C_CFG
  ⟨0x2580, 1, 4, 0x03, 1, 32, false, .wo, 1, 0⟩,  -- I2C_CMD
  ⟨0x2580, 1, 4, 0x04, 1, 0, false, .rw, 1, 0⟩,  -- I2C_DATA
  ⟨0x2584, 1, 4, 0x01, 1, 32, false, .rwt, 2, 0⟩,  -- SPI_CFG
  ⟨0x2584, 1, 4, 0x03, 1, 32, false, .wo, 1, 0⟩,  -- SPI_CMD
  ⟨0x2584, 1, 4, 0x04, 1, 0, false, .rw, 1, 0⟩,  -- SPI_DATA
  ⟨0x2588, 1, 2, 0x01, 1, 32, false, .rwt, 2, 0⟩,  -- UART_CFG
  ⟨0x2588, 1, 2, 0x03, 1, 0, false, .wo, 1, 0⟩,  -- UART_TX
  ⟨0x2588, 1, 2, 0x04, 1, 0, false, .ro, 1, 0⟩,  -- UART_RX
  ⟨0x2590, 1, 8, 0x01, 1, 32, false, .rwt, 2, 0⟩,  -- TRIG_CFG
  ⟨0x2590, 1, 8, 0x03, 1, 32, false, .rwt, 1, 0⟩,  -- TRIG_FIRE
  ⟨0x2598, 1, 4, 0x01, 1, 32, false, .rwt, 2, 0⟩,  -- CAP_CFG
  ⟨0x2598, 1, 4, 0x03, 1, 64, false, .ro, 0, 0⟩,  -- CAP_TIME
  ⟨0x2598, 1, 4, 0x05, 1, 32, false, .rc, 1, 0⟩,  -- CAP_COUNT
  ⟨0x25A0, 1, 1, 0x01, 16, 32, false, .rwt, 2, 0⟩,  -- STB_CFG_0–15
  ⟨0x25A0, 1, 1, 0x11, 1, 32, false, .rwt, 1, 0⟩,  -- STB_FIRE
  ⟨0x25A0, 1, 1, 0x12, 1, 32, false, .ro, 0, 0⟩,  -- STB_STATUS
  ⟨0x25B0, 1, 16, 0x01, 1, 32, false, .rwt, 2, 0⟩,  -- PRB_SEL
  ⟨0x2580, 1, 4, 0x02, 1, 32, false, .ro, 0, 0⟩,  -- I2C_STATUS
  ⟨0x2584, 1, 4, 0x02, 1, 32, false, .ro, 0, 0⟩,  -- SPI_STATUS
  ⟨0x2588, 1, 2, 0x02, 1, 32, false, .ro, 0, 0⟩,  -- UART_STATUS
  ⟨0x2590, 1, 8, 0x02, 1, 32, false, .ro, 0, 0⟩,  -- TRIG_STATUS
  ⟨0x2598, 1, 4, 0x02, 1, 32, false, .ro, 0, 0⟩  -- CAP_STATUS
  ]

/-- Entries of the chapter on clocks, power, reset, Hold, thermal. -/
def entries17 : List EntryRow := [
  ⟨0x2100, 1, 1, 0x01, 1, 32, false, .ro, 0, 0⟩,  -- CLK_STATUS
  ⟨0x2100, 1, 1, 0x02, 1, 64, false, .ro, 0, 0⟩,  -- POUR_COUNT
  ⟨0x2100, 1, 1, 0x04, 1, 32, false, .ro, 0, 0⟩,  -- PLL_LOSSES
  ⟨0x2110, 1, 1, 0x01, 89, 32, false, .ro, 0, 0⟩,  -- DOM_STATUS_0–88
  ⟨0x2111, 1, 1, 0x01, 1, 32, false, .wo, 2, 0⟩,  -- PWR_CMD
  ⟨0x2111, 1, 1, 0x02, 1, 64, false, .rwt, 2, 0⟩,  -- PWR_DEFAULT_0
  ⟨0x2111, 1, 1, 0x04, 1, 32, false, .rwt, 2, 0⟩,  -- PWR_DEFAULT_1
  ⟨0x2111, 1, 1, 0x05, 1, 32, false, .rc, 1, 0⟩,  -- RAMP_FAILS
  ⟨0x2120, 1, 1, 0x01, 1, 32, false, .wo, 2, 0⟩,  -- RST_CMD
  ⟨0x2120, 1, 1, 0x02, 1, 32, false, .ro, 0, 0⟩,  -- RST_CAUSE
  ⟨0x2120, 1, 1, 0x03, 1, 32, false, .ro, 0, 0⟩,  -- RST_COUNT
  ⟨0x2130, 1, 1, 0x01, 1, 32, false, .wo, 2, 0⟩,  -- HOLD_CMD
  ⟨0x2130, 1, 1, 0x02, 1, 32, false, .ro, 0, 0⟩,  -- HOLD_STATUS
  ⟨0x2130, 1, 1, 0x03, 1, 32, false, .rwt, 2, 0⟩,  -- HOLD_WAKE
  ⟨0x2140, 1, 1, 0x01, 1, 16, true, .ro, 0, 0⟩,  -- THERM_HOT
  ⟨0x2140, 1, 1, 0x02, 1, 16, true, .rc, 1, 0⟩,  -- TJ_PEAK
  ⟨0x2140, 1, 1, 0x03, 1, 32, false, .rwt, 2, 105⟩,  -- TJ_THROTTLE
  ⟨0x2140, 1, 1, 0x04, 1, 32, false, .rwt, 2, 4⟩,  -- THR_SKIP
  ⟨0x2140, 1, 1, 0x05, 1, 32, false, .rc, 1, 0⟩  -- THROTTLE_TIME
  ]

/-- Every row of the dictionary. -/
def entryRows : List EntryRow :=
  entries03 ++ entries04 ++ entries05 ++ entries06 ++ entries07 ++ entries08a ++ entries08b ++ entries09a ++
  entries09b ++ entries10a ++ entries10b ++ entries11 ++ entries12 ++ entries13a ++ entries13b ++ entries14 ++
  entries15 ++ entries16 ++ entries17

/-- A row holds an index and subindex. -/
def EntryRow.covers (r : EntryRow) (idx sub : Nat) : Bool :=
  decide (r.idx ≤ idx) && decide ((idx - r.idx) % r.step = 0) && decide ((idx - r.idx) / r.step < r.n)
    && decide (r.sub ≤ sub) && decide (sub < r.sub + r.subs)

/-- The row of an entry, if the dictionary has it. -/
def findEntry (idx sub : Nat) : Option EntryRow := entryRows.find? (fun r => r.covers idx sub)

/-- The index exists (check 1 of R625). -/
def indexExists (idx : Nat) : Bool :=
  entryRows.any (fun r => decide (r.idx ≤ idx) && decide ((idx - r.idx) % r.step = 0) && decide ((idx - r.idx) / r.step < r.n))

/-- The highest subindex defined at an index, which subindex 0 reads (R624). -/
def highestSub (idx : Nat) : Nat :=
  entryRows.foldl (fun m r => if r.covers idx r.sub then max m (r.sub + r.subs - 1) else m) 0

/-- The default of a stored entry (R623): the table's, and for RATE the regulator defaults of R402. -/
def entryDefault (idx sub : Nat) : DWord :=
  if 0x3080 ≤ idx && idx < 0x30E0 && sub % 4 = 1 then
    let i := idx - 0x3080
    if i < 72 && sub = 5 then 4096 else if i = 81 && sub = 5 then 2048 else if i = 91 && sub = 1 then 8192 else 0
  else match findEntry idx sub with
    | some r => BitVec.ofNat 64 r.dflt
    | none => 0

/-! ### Reserved bits (R10) -/

/-- The bits of an entry that hold a value: those of the fields its map names. A reserved bit is written to no effect and reads 0. -/
def entryMask (idx sub : Nat) : DWord :=
  if 0x4000 ≤ idx && idx < 0x4048 then
    (if sub = 2 then 0xFF0FF103 else if 7 ≤ sub && sub ≤ 10 then 0x8003FFFF else if 0x20 ≤ sub && sub < 0x30 then 0xFE0FFFFF
     else if sub = 0x30 then 0x00FF1FF8 else BitVec.allOnes 64)
  else if 0x4100 ≤ idx && idx < 0x4148 then
    (if sub = 3 then 0x80000FFF else if sub = 5 then 0xC0000FFF else BitVec.allOnes 64)
  else if 0x3400 ≤ idx && idx < 0x3408 then (if sub = 2 then 0x80000007 else BitVec.allOnes 64)
  else if 0x3100 ≤ idx && idx < 0x3180 then
    (match idx % 16, sub with
     | 0, 2 => 0xFFC00000
     | 0, 5 => 0xFFFF000F
     | 0, 9 => 0xFFFF0000
     | 1, 1 => 0x8731003F
     | 2, 1 => 0x3F
     | 2, 2 => 0xFF00FFF00FFFFFFF
     | 2, 4 => 0x7F
     | 2, 5 => 0x1F
     | 2, 8 => 0xFF1
     | 3, 1 => 0xFFFFFF00
     | 3, 3 => 0x1FF
     | _, _ => BitVec.allOnes 64)
  else if 0x3180 ≤ idx && idx < 0x3190 then (if sub = 1 then 0xFBFFEFFF else if sub = 2 then 0x00FFFFFF else BitVec.allOnes 64)
  else if 0x3500 ≤ idx && idx < 0x35C0 then
    (match idx % 32, sub with
     | 0, 3 => 0x80000000
     | 1, 1 => 7
     | 1, 3 => 0xC001FF3F
     | _, _ => BitVec.allOnes 64)
  else if 0x35C0 ≤ idx && idx < 0x35CC then
    (if sub = 3 then 0x8FC0FFFF else if sub = 4 || sub = 6 || sub = 0x0E then 0xFFFFFFFFFFFF
     else if 0x0A ≤ sub && sub ≤ 0x0D then 0x3FFFF else BitVec.allOnes 64)
  else if 0x2500 ≤ idx && idx < 0x2540 then (if sub = 1 then 0xFFEE000F else if sub = 2 || sub = 4 then 1 else BitVec.allOnes 64)
  else if 0x2580 ≤ idx && idx < 0x259C && sub = 1 then
    (if idx < 0x2584 then 0xC0000003 else if idx < 0x2588 then 0xF00000FF else if idx < 0x2590 then 0xE0FFFFFF else 0xF0000000)
  else if idx = 0x25A0 && 1 ≤ sub && sub ≤ 16 then 0x9000FFFF
  else match idx, sub with
    | 0x2030, 5 => 0x71
    | 0x2030, 6 => 0xFFFFFFFFFFFF
    | 0x2111, 4 => 0x7FFFFF
    | 0x2130, 3 => 0xF8000000
    | 0x2300, 3 => 0xFFFE3FDF
    | 0x2304, _ => 0xF00FFFFF
    | 0x2410, 0 => 0xFFFF
    | 0x2410, 1 => 0xC000000F
    | 0x2420, 0 => 0x1F
    | 0x2600, 2 => 0x3F
    | 0x2600, 3 => 0x800007FF
    | 0x2600, 4 => 0x800007FF
    | 0x2610, 0 => 0x3F
    | 0x3040, 0 => 0x7F
    | 0x3192, 2 => 1
    | 0x3210, 0 => 0x3FFFF
    | 0x3310, 0 => 0xFFF
    | 0x3320, 0 => 0xFFFFF
    | 0x3330, 0 => 0xFFFF
    | 0x3410, 1 => 1
    | _, _ => BitVec.allOnes 64

end Sys2Proof.Machine
end

