-- ==== Sys2Proof/Machine/CatchState.lean ====
section
/-! DEFINITION. The catch memory controller (09_catch_memory.md). -/

namespace Sys2Proof.Machine

/-- Channel states (R447, R467). -/
inductive ChSt where
  | online | draining | offline | gathering | failedTrain
  deriving DecidableEq, Repr

/-- A command, release or Hold exit that waits for the PHY PLL (R419). -/
inductive ChWait where
  | none | online | gather
  deriving DecidableEq, Repr

/-- A run or a sweep in progress (R455, R456). -/
inductive ChRun where
  | none | inj | sweep
  deriving DecidableEq, Repr

/-- What a line operation does: a read of words into positions of its request; a write of words with their byte enables; a fold entry of the combining buffer with its
operation, its operand words and whether its line read has issued; a write-back of a scrubbed line, with the words that
are stored poisoned. Words are numbered 0-15. -/
inductive LineKind where
  | read (at' : List (Nat × Nat))
  | write (ws : Tab (BitVec 4 × NWord))
  | fold (code : Nat) (ws : Tab (Option NWord)) (issued : Bool)
  | scrub (bad : List Nat)
  deriving DecidableEq, Repr

/-- A line operation: its catch address, its line as channel × 2^33 + line index, and the requests it belongs to, by number. -/
structure LineOp where
  addr : Nat
  line : Nat
  kind : LineKind
  reqs : List Nat
  deriving DecidableEq, Repr

/-- A request a channel has received and not answered: how many of its lines are still to be done, the words read so far by
position, and whether it was rejected (R439). -/
structure CatchReq where
  id : Nat
  pkt : Packet
  left : Nat
  words : Tab (Option NWord)
  rejected : Bool
  deriving DecidableEq, Repr

/-- One channel. `held` and `wasOnline` are of Hold; `ops` and `reqs` are in arrival order; `writing` says by subchannel that
writes are chosen (R435); `refresh` counts obligations by chip select × 16 + chip ID × 4 + bank. Delay sets are keyed
((kind × 4 + CS) × 2 + subchannel) × 64 + lane; pattern and capture beats by slot × 32 + subchannel × 16 + beat. -/
structure Channel where
  st : ChSt
  fault : Bool
  held : Bool
  wasOnline : Bool
  dlyValid : Bool
  locked : Bool
  waiting : ChWait
  run : ChRun
  result : Nat
  reqs : List CatchReq
  ops : List LineOp
  nextReq : Nat
  writing : BitVec 2
  refresh : Tab Nat
  live : Tab Half
  staged : Tab Half
  inj : Tab DWord
  pattern : Tab DWord
  capture : Tab DWord
  capNext : Nat
  passA : Tab DWord
  passB : Tab DWord
  errs : Tab Word
  alerts : List DWord
  ce : Word
  ue : Word
  poisonReads : Word
  rmw : Word
  folds : Word
  foldLines : Word
  refUrgent : Word
  lanesA : DWord
  lanesB : DWord
  deriving DecidableEq, Repr

/-- A channel after reset: OFFLINE (R467). -/
def Channel.reset : Channel :=
  { st := .offline, fault := false, held := false, wasOnline := false, dlyValid := false, locked := false, waiting := .none, run := .none,
    result := 0, reqs := [], ops := [], nextReq := 0, writing := 0, refresh := [], live := [], staged := [], inj := [], pattern := [],
    capture := [], capNext := 0, passA := [], passB := [], errs := [], alerts := [], ce := 0, ue := 0, poisonReads := 0, rmw := 0, folds := 0,
    foldLines := 0, refUrgent := 0, lanesA := 0, lanesB := 0 }

/-- States of an evacuation (R471). -/
inductive EvacSt where
  | idle | copy | switch | done | aborted
  deriving DecidableEq, Repr

/-- The controller: its channels, the evacuation and the zeroing. `zeroBase` and `zeroLen` are of the zeroing under way or the
last one; `zeroLines` counts the lines whose zero write has issued. -/
structure CatchState where
  chans : Tab Channel
  evac : EvacSt
  evacResult : Nat
  evacSrc : Nat
  evacDst : Nat
  evacPoisoned : Word
  evacMiB : Word
  zeroBusy : Bool
  zeroCancelled : Bool
  zeroInterrupted : Bool
  zeroBase : Nat
  zeroLen : Nat
  zeroLines : Nat
  deriving DecidableEq, Repr

/-- The controller after reset. -/
def CatchState.reset : CatchState :=
  { chans := [], evac := .idle, evacResult := 0, evacSrc := 0, evacDst := 0, evacPoisoned := 0, evacMiB := 0, zeroBusy := false,
    zeroCancelled := false, zeroInterrupted := false, zeroBase := 0, zeroLen := 0, zeroLines := 0 }

end Sys2Proof.Machine
end

