-- ==== Sys2Proof/Machine/ChillState.lean ====
section
/-! DEFINITION. The error log, the recovery records and the chill banks: the state of
14_chill_errors_recovery.md. -/

namespace Sys2Proof.Machine

/-- One log entry (R684). -/
structure LogEntry where
  code : BitVec 16
  dcValid : Bool
  esc : Bool
  /-- Recovery record slot + 1; 0 for none. -/
  rec' : BitVec 6
  repeats : BitVec 8
  seq : Word
  time : DWord
  kind : BitVec 8
  oid : BitVec 24
  aux : Word
  detail : DWord
  /-- An uncorrectable word was found in the entry: its words read 0 except SEQ (R703). -/
  damaged : Bool
  deriving DecidableEq, Repr

/-- The entry no error has written. -/
def LogEntry.reset : LogEntry :=
  { code := 0, dcValid := false, esc := false, rec' := 0, repeats := 0, seq := 0, time := 0, kind := 0, oid := 0,
    aux := 0, detail := 0, damaged := false }

/-- The states of a recovery record (R689, R702). -/
inductive RecSt where
  | free | active | done | failed
  deriving DecidableEq, Repr

/-- One recovery record slot; `opened` orders the records by when they were opened (R691), `serial` is the recovery's own number. -/
structure RecSlot where
  st : RecSt
  code : BitVec 16
  seq : Word
  obj : Word
  opened : Nat
  serial : Nat
  deriving DecidableEq, Repr

/-- A FREE record slot. -/
def RecSlot.reset : RecSlot := { st := .free, code := 0, seq := 0, obj := 0, opened := 0, serial := 0 }

/-- A recovery that has begun and not completed (R691): its number, its code and the word of its object. -/
structure Recovery where
  serial : Nat
  code : Nat
  obj : Word
  deriving DecidableEq, Repr

/-- One snapshot bank (R673, R674, R699). `entries` is keyed by [23:8] index and [7:0] subindex, `cru` by
[14:8] p and [5:0] MOV number, `list` by item: the three spaces of CHILL_WIN_SELECT. -/
structure ChillBank where
  held : Bool
  new : Bool
  damaged : Bool
  dcValid : Bool
  cause : BitVec 8
  seq : Word
  time : DWord
  errSeq : Word
  entries : Tab DWord
  cru : Tab DWord
  list : Tab DWord
  deriving DecidableEq, Repr

/-- A FREE bank that nothing has written. -/
def ChillBank.reset : ChillBank :=
  { held := false, new := false, damaged := false, dcValid := false, cause := 0, seq := 0, time := 0, errSeq := 0,
    entries := [], cru := [], list := [] }

/-- Log, records and chill. -/
structure ChillState where
  /-- LOG_HEAD (R681). -/
  head : Word
  /-- The ring of 256 entries, newest first. -/
  ring : List LogEntry
  /-- The intake, oldest first, at most 64 (R680). -/
  intake : List ErrRep
  /-- How many errors of the intake were reported before the present CLK_MGT cycle (R680; log 3). -/
  settled : Nat
  /-- The errors lost at intake whose policy has yet to act (R695, R697). -/
  unlogged : List ErrRep
  lost : Word
  /-- CLASS1_COUNT to CLASS4_COUNT. -/
  class1 : Word
  class2 : Word
  class3 : Word
  class4 : Word
  /-- SEQ of each class 3 or 4 entry not acknowledged, and LOG_HEAD at each such error lost at intake (R686). -/
  unackSeq : List Word
  unackLost : List Word
  /-- Recoveries that have begun and not completed, oldest first (R691), and how many have begun. -/
  ongoing : List Recovery
  recoveries : Nat
  recs : Tab RecSlot
  opened : Nat
  recOverflow : Word
  /-- Errors of codes set to RECAST, per physical flask, and whether 0x1103 was logged this window (R697). -/
  ceCount : Tab Nat
  ceLogged : Tab Bool
  bankA : ChillBank
  bankB : ChillBank
  /-- The bank written last: `false` A, `true` B. -/
  lastB : Bool
  /-- FIRE_AT is pending (R671), with the time it was given. -/
  fireAt : Bool
  fireTime : DWord
  /-- The causes that have fallen on the next pour tick and the newest error entry among them (R672, R674). -/
  due : BitVec 8
  dueSeq : Word
  missed : Word
  count : Word
  deriving DecidableEq, Repr

/-- Log and chill after the reset of the management domain. -/
def ChillState.reset : ChillState :=
  { head := 1, ring := [], intake := [], settled := 0, unlogged := [], lost := 0, class1 := 0, class2 := 0, class3 := 0, class4 := 0, unackSeq := [],
    unackLost := [], ongoing := [], recoveries := 0, recs := [], opened := 0, recOverflow := 0, ceCount := [], ceLogged := [],
    bankA := .reset, bankB := .reset, lastB := false, fireAt := false, fireTime := 0, due := 0, dueSeq := 0,
    missed := 0, count := 0 }

end Sys2Proof.Machine
end

