-- ==== Sys2Proof/Machine/CruState.lean ====
section
/-! DEFINITION. A crucible (04_crucible.md). -/

namespace Sys2Proof.Machine

/-- CRU_STATUS.STATE (R192). -/
inductive CruSt where
  | halted | running | error | stopped
  deriving DecidableEq, Repr

/-- A repeat level: first and last address of the body, iterations left including the present one, INT (R158). -/
structure RepLevel where
  first : Nat
  last : Nat
  left : Nat
  int : Bool
  deriving DecidableEq, Repr

/-- A register write that lands after this cycle (R153): MOV number, half written (0 low, 1 high, 2 all), value. -/
structure LateWrite where
  reg : Nat
  half : Nat
  value : Word
  deriving DecidableEq, Repr

/-- One crucible. `regs` holds D, P, N and M by MOV number, HLIM, IRA and IST; `acc` the 40-bit accumulators. -/
structure Cru where
  st : CruSt
  cause : BitVec 4
  stall : Bool
  pc : Nat
  pm : Tab Word
  x : Tab Word
  y : Tab Word
  regs : Tab Word
  acc : Tab (BitVec 40)
  win : DWord
  status : Word
  hlim : Nat
  hlimHit : Bool
  holdoff : Nat
  /-- HLIM has been reported for the present hold-off (R167). -/
  holdLogged : Bool
  ret : List Nat
  reps : List RepLevel
  /-- REP in progress: times the instruction at PC is still to run; 0 for none. -/
  repLeft : Nat
  /-- A branch under way: delay slots still to run and the target (R153). -/
  delay : Nat
  target : Nat
  /-- RETI under way: after the delay slots ST is restored (R165). -/
  reti : Bool
  /-- RET under way: after the delay slots execution goes on behind the CALL's second one, which may end a body (R158, R184). -/
  returns : Bool
  /-- Of `reps`, the outermost levels that were active when the interrupt in progress was accepted: they stay through its handler (R166). -/
  kept : Nat
  /-- That interrupt was accepted between two iterations of the innermost level (R163). -/
  keptBetween : Bool
  /-- Writes that land at the end of the coming cycle. -/
  late : List LateWrite
  /-- Pointer, N and M values that address generation still sees (R153): MOV number and old value. -/
  shadow : List (Nat × Word)
  /-- The last boundary lay between two iterations of the innermost level (R163). -/
  between : Bool
  /-- Stream FIFOs, head first (R185, R186). -/
  si : Tab (List TWord)
  so : Tab (List TWord)
  /-- HALT command waiting for an interrupt-acceptable point (R194). -/
  haltAsked : Bool
  /-- Words corrected on a read and not yet scrubbed (R195): space × 4096 + address. -/
  scrub : List Nat
  cycles : DWord
  stalls : Word
  deriving DecidableEq, Repr

/-- A crucible after the reset of its flask's domain. -/
def Cru.reset : Cru :=
  { st := .halted, cause := 0, stall := false, pc := 0, pm := [], x := [], y := [], regs := [], acc := [], win := 0,
    status := 0, hlim := 0, hlimHit := false, holdoff := 0, holdLogged := false, ret := [], reps := [], repLeft := 0,
    delay := 0, target := 0, reti := false, returns := false, kept := 0, keptBetween := false, late := [], shadow := [], between := false, si := [], so := [], haltAsked := false,
    scrub := [], cycles := 0, stalls := 0 }

end Sys2Proof.Machine
end

