-- ==== Sys2Proof/Machine/CupolaState.lean ====
section
/-! DEFINITION. Cupola (07_cupola_scheduler.md). -/

namespace Sys2Proof.Machine

/-- Thread states (R322). -/
inductive ThSt where
  | free | idle | ready | running | match' | delay | faulted | cancelled
  deriving DecidableEq, Repr

/-- One thread. `order` places it on its list: among READY threads of one priority and among IDLE ones of a group lower
comes first. `fresh` says that its next dispatch starts at its entry address; `held` the register values to be written
at its next dispatch and `operands` how many of them a match delivered, `result` the RESULT and RVAL that the store it resumes after completes with. `home` is the core on
which it last ran; `timeout` the ticks of a delay or of a match timeout, 0 for none, `due` the tick at which it expires and `entered` its place in the
order of entry (R347); `tags` the match slots it waits on, by position;
`cancelAsked` a cancel of the running thread that waits for its boundary, `tAsked` that a T_CMD asked for it. -/
structure Thread where
  st : ThSt
  cfg : Word
  entry : Word
  fresh : Bool
  item : Option Nat
  order : Int
  held : List (Nat × Word)
  operands : Nat
  result : Option (Nat × Word)
  home : Nat
  bank : Option (Nat × Nat)
  timeout : Nat
  due : Nat
  entered : Nat
  tags : List Nat
  cancelAsked : Bool
  tAsked : Bool
  tResult : Word
  deriving DecidableEq, Repr

/-- A FREE thread: T_CFG resets to base priority 31, GROUP 63, every core (R363). -/
def Thread.reset : Thread :=
  { st := .free, cfg := 0xFBF0FF00#32, entry := 0, fresh := false, item := none, order := 0, held := [], operands := 0, result := none, home := 0,
    bank := none, timeout := 0, due := 0, entered := 0, tags := [], cancelAsked := false, tAsked := false, tResult := 0 }

/-- States of a work item that occupies a slot (R327). -/
inductive ItemSt where
  | waiting | eligible | service
  deriving DecidableEq, Repr

/-- A work item; items are numbered in order of arrival. -/
structure Item where
  st : ItemSt
  header : Word
  payload : List Word
  thread : Nat
  deriving DecidableEq, Repr

/-- A match slot's state (R341). -/
inductive MatchSt where
  | free | armed | held | filled
  deriving DecidableEq, Repr

/-- A match slot: its tag and operand, its waiter and the position of the tag in the waiter's list. -/
structure MatchSlot where
  st : MatchSt
  tag : Word
  operand : Word
  waiter : Nat
  pos : Nat
  deriving DecidableEq, Repr

/-- A FREE slot. -/
def MatchSlot.reset : MatchSlot := { st := .free, tag := 0, operand := 0, waiter := 0, pos := 0 }

/-- An input ring: the words of its present packet popped so far, and the packet held in its staging register (R353,
R354). -/
structure Ring where
  partialWords : List QWord
  staged : Option (List QWord)
  deriving DecidableEq, Repr

/-- An idle ring. -/
def Ring.reset : Ring := { partialWords := [], staged := none }

/-- Cupola. `period` is the TICK in force, `sinceTick` the pour ticks since the last tick, `tickNow` the ticks so far and `entries` the entries made
on the delay lists (R347); `latched` holds the counts of R361 by subindex as the last pour tick latched them; `sent` holds the dispatches sent to cores and not yet accepted, by core; `readyLo` and `readyHi` number the
next place at the head and at the tail of the lists. -/
structure Cupola where
  stopped : Bool
  threads : Tab Thread
  items : Tab (Option Item)
  nextItem : Nat
  slots : Tab MatchSlot
  rings : Tab Ring
  nextRing : Nat
  sent : Tab (Option Nat)
  readyLo : Int
  readyHi : Int
  period : Nat
  sinceTick : Nat
  tickNow : Nat
  entries : Nat
  latched : Tab DWord
  ringStall : Bool
  coreHalted : Bool
  abandoned : Bool
  postsRefused : Word
  matchRefused : Word
  dupOperands : Word
  discarded : Word
  itemsCancelled : Word
  badPackets : Word
  dispatches : DWord
  deriving DecidableEq, Repr

/-- Cupola after the reset of the core domain. -/
def Cupola.reset : Cupola :=
  { stopped := false, threads := [], items := [], nextItem := 0, slots := [], rings := [], nextRing := 0, sent := [],
    readyLo := 0, readyHi := 0, period := 10, sinceTick := 0, tickNow := 0, entries := 0, latched := [], ringStall := false, coreHalted := false, abandoned := false, postsRefused := 0,
    matchRefused := 0, dupOperands := 0, discarded := 0, itemsCancelled := 0, badPackets := 0, dispatches := 0 }

end Sys2Proof.Machine
end

