-- ==== Sys2Proof/Machine/DictState.lean ====
section
/-! DEFINITION. The dictionary agent: paths, sessions, transactions and key slots (13_object_dictionary.md). -/

namespace Sys2Proof.Machine

/-- A pending challenge of a path (R641-R643): its eight words, and the REQUEST word as written. -/
structure Challenge where
  words : List Word
  request : Word
  deriving DecidableEq, Repr

/-- A segmented SDO transfer under way (R631, R632): direction, entry and the bytes moved so far or still to move. -/
structure Segment where
  download : Bool
  idx : Nat
  sub : Nat
  bytes : List Byte
  deriving DecidableEq, Repr

/-- What the agent holds for one path (R627-R637). -/
structure Path where
  abort : Word
  abortAt : Word
  refused : Word
  /-- The open session of the path, 1-4; 0 for none (R640). -/
  session : Nat
  challenge : Option Challenge
  /-- SESS_RESP_0-7. -/
  resp : Tab Word
  /-- Latched upper half: entry and its bits [63:32] (R634). -/
  latch : Option (Nat × Word)
  /-- Held lower half of a 64-bit write: entry and its bits [31:0] (R634). -/
  held : Option (Nat × Word)
  /-- The string or DOMAIN slot last accessed and the next byte (R635). -/
  stream : Option (Nat × Nat)
  segment : Option Segment
  /-- POUR_COUNT at the last access, for SESS_IDLE. -/
  lastAccess : DWord
  /-- POUR_COUNT at the REQUEST of the pending challenge (R643). -/
  challengeAt : DWord
  deriving DecidableEq, Repr

/-- A path after the reset of the management domain. -/
def Path.reset : Path :=
  { abort := 0, abortAt := 0, refused := 0, session := 0, challenge := none, resp := [], latch := none, held := none,
    stream := none, segment := none, lastAccess := 0, challengeAt := 0 }

/-- TX_STATUS.STATE (R665). -/
inductive TxSt where
  | none | opened | committing | committed | failed | rolledBack | discarded
  deriving DecidableEq, Repr

/-- TX_STATUS.RESULT (R665). -/
inductive TxResult where
  | none | ok | check | heatEnded | stagingError | sessionLost | rollback
  deriving DecidableEq, Repr

/-- WHEN of a COMMIT (R652). -/
inductive TxWhen where
  | next | atDc | atHeat
  deriving DecidableEq, Repr

/-- One staged write: the object the path's selector named, the entry and the value (R629, R650). -/
structure Staged where
  obj : Nat
  idx : Nat
  sub : Nat
  value : DWord
  deriving DecidableEq, Repr

/-- One session context with its transaction (R640, R649, R664). -/
structure Session where
  isOpen : Bool
  path : Nat
  slot : Nat
  level : Nat
  txSt : TxSt
  txResult : TxResult
  txWhen : TxWhen
  tickDc : Bool
  staged : List Staged
  txAt : DWord
  txHeat : Word
  txHeatIndex : DWord
  failAt : Word
  failCode : Word
  appliedTick : DWord
  deriving DecidableEq, Repr

/-- A closed session context. -/
def Session.reset : Session :=
  { isOpen := false, path := 0, slot := 0, level := 0, txSt := .none, txResult := .none, txWhen := .next,
    tickDc := false, staged := [], txAt := 0, txHeat := 0, txHeatIndex := 0, failAt := 0, failCode := 0,
    appliedTick := 0 }

/-- A key slot (R646, R648, R663). The two SECDED copies in the key store hold the same key (log 18). `data` lists the KEY_DATA words written since the last SET or CLEAR. -/
structure KeySlot where
  provisioned : Bool
  locked : Bool
  level : Nat
  failRun : Nat
  key : List Word
  wear : Word
  data : Tab (Option Word)
  deriving DecidableEq, Repr

/-- An unprovisioned slot. -/
def KeySlot.reset : KeySlot :=
  { provisioned := false, locked := false, level := 0, failRun := 0, key := [], wear := 0, data := [] }

/-- The agent. -/
structure DictState where
  /-- The agent has stopped on a fatal fault (R667). -/
  stopped : Bool
  paths : Tab Path
  sessions : Tab Session
  keys : Tab KeySlot
  authFails : Word
  /-- A failure has been logged since the last read of AUTH_FAILS (R644). -/
  authLogged : Bool
  /-- TX_LAST (R658). -/
  txLast : Word
  /-- Settings: the stored values of entries, keyed by object, index and subindex; an unlisted entry holds its
  default. -/
  settings : Tab DWord
  /-- Selectors and other path-relative values, keyed by path, index and subindex (R629, R630). -/
  perPath : Tab DWord
  /-- Accesses that have reached the agent in the present cycle of CLK_MGT, in the order queued, while others of the cycle are still to come (R725). -/
  arriving : List Access
  deriving DecidableEq, Repr

/-- The agent after the power-on reset. -/
def DictState.reset : DictState :=
  { stopped := false, paths := [], sessions := [], keys := [], authFails := 0, authLogged := false, txLast := 0,
    settings := [], perPath := [], arriving := [] }

end Sys2Proof.Machine
end

