-- ==== Sys2Proof/Machine/HostState.lean ====
section
/-! DEFINITION. The host attachments: the PCI Express endpoint with its DMA engines and MSI-X table, and the EtherCAT slave
(15_host_interfaces.md). -/

namespace Sys2Proof.Machine

/-- OP of a descriptor (R709). -/
inductive DmaOp where
  | h2c | c2h | q2h
  deriving DecidableEq, Repr

/-- A descriptor an engine serves (R709). -/
structure DmaDesc where
  op : DmaOp
  len : Nat
  host : Nat
  dev : Nat
  vector : Nat
  irq : Bool
  cookie : Word
  deriving DecidableEq, Repr

/-- STATUS of a completion (R710). -/
inductive DmaStatus where
  | ok | poison | error | malformed | aborted | oversize
  deriving DecidableEq, Repr

/-- One DMA engine: `words` is the descriptor packet as far as it has been popped, `desc` the descriptor in progress (with the MALFORMED
one kept as its vector, IRQ and COOKIE), `moved` the bytes moved so far,
`finished` that only answers are still awaited, `status` the STATUS it has, `last` that of the last completion. -/
structure Dma where
  en : Bool
  words : List (Word × Bool)
  desc : Option DmaDesc
  moved : Nat
  finished : Bool
  status : DmaStatus
  last : DmaStatus
  done : Word
  deriving DecidableEq, Repr

/-- An engine after reset. -/
def Dma.reset : Dma :=
  { en := false, words := [], desc := none, moved := 0, finished := false, status := .ok, last := .ok, done := 0 }

/-- One entry of the MSI-X table. -/
structure MsixVec where
  addr : DWord
  data : Word
  masked : Bool
  deriving DecidableEq, Repr

/-- An entry after reset: masked (PRESUMED, the PCI Express base specification; log 14). -/
def MsixVec.reset : MsixVec := { addr := 0, data := 0, masked := true }

/-- The PCI Express endpoint (R704-R716): PERST_N, the link, the configuration the host has given it, BAR2_LOG2 in force, the MSI-X
table and pending bits. -/
structure Pcie where
  perstHigh : Bool
  linkUp : Bool
  rate : Nat
  width : Nat
  busMaster : Bool
  bar2Log2 : Nat
  wrDrops : Word
  rdAborts : Word
  engines : Tab Dma
  msixOn : Bool
  msixMask : Bool
  vectors : Tab MsixVec
  pendingBits : Tab Bool
  deriving DecidableEq, Repr

/-- The endpoint in reset. -/
def Pcie.reset : Pcie :=
  { perstHigh := false, linkUp := false, rate := 0, width := 0, busMaster := false, bar2Log2 := 0, wrDrops := 0, rdAborts := 0,
    engines := [], msixOn := false, msixMask := false, vectors := [], pendingBits := [] }

/-- The states of the EtherCAT slave (R722). -/
inductive AlSt where
  | init | preop | safeop | op | boot
  deriving DecidableEq, Repr

/-- One Emergency message (R720): the error register, CODE and SEQ[23:0]. -/
structure Emergency where
  reg : Byte
  code : BitVec 16
  seq : BitVec 24
  deriving DecidableEq, Repr

/-- The EtherCAT slave (R717-R724): AL state and status code, link of the two ports, start and length of SyncManagers 0-3, whether an
Emergency stands in mailbox in and those that wait, the RAM of 0x1000-0x4FFF and the SII by byte. The registers of the ESC space that the
chapter names are these fields (log 13). -/
structure Ecat where
  al : AlSt
  alStatus : BitVec 16
  links : BitVec 2
  smStart : Tab Nat
  smLen : Tab Nat
  mailFull : Bool
  mails : List Emergency
  emcyLost : Word
  outputsValid : Bool
  ram : Tab Byte
  /-- The registers of 0x0000-0x0FFF that no other field holds: the FMMUs and SyncManagers 4-7, which this chapter leaves unused; no command writes
  them. -/
  regs : Tab Byte
  sii : Tab Byte
  deriving DecidableEq, Repr

/-- The slave after the reset of the management domain. -/
def Ecat.reset : Ecat :=
  { al := .init, alStatus := 0, links := 0, smStart := [], smLen := [], mailFull := false, mails := [], emcyLost := 0,
    outputsValid := false, ram := [], regs := [], sii := [] }

end Sys2Proof.Machine
end

