-- ==== Sys2Proof/Machine/LadleState.lean ====
section
/-! DEFINITION. The ladle cores (06_ladle_cores.md). The RISC-V registers and CSRs of the base architecture, which the
spec names only by reference, are PRESUMED from it (log 8). -/

namespace Sys2Proof.Machine

/-- LC_STATUS.STATE (R315, R319). -/
inductive LcSt where
  | off | loading | running | parking | parked | halted
  deriving DecidableEq, Repr

/-- Bank states (R282). -/
inductive BankSt where
  | free | resident | spilling
  deriving DecidableEq, Repr

/-- One bank: x1-x31, BPC, BPROG, BWIN (R279), and the Cupola registers held for it (R356). `last` orders the banks by
dispatch (R298). -/
structure Bank where
  st : BankSt
  thread : Option Nat
  filling : Bool
  x : Tab Word
  bpc : Word
  bprog : Word
  bwin : Word
  args : Tab Word
  result : Nat
  rval : Word
  last : Nat
  deriving DecidableEq, Repr

/-- A FREE bank, every register 0. -/
def Bank.reset : Bank :=
  { st := .free, thread := none, filling := false, x := [], bpc := 0, bprog := 0, bwin := 0, args := [], result := 0, rval := 0,
    last := 0 }

/-- What the current instruction waits for: a credit for the word of a PUSH store of `len` bytes (R274), a POP response and its destination (R277),
the answer to a runner window load into a register (width in bytes, signed, of an LDM), the answer to an FDISPATCH, or a CANCEL. -/
inductive Stall where
  | none
  | push (q : Nat) (v : Word) (last : Bool) (len : Nat)
  | pop (q dest : Nat)
  | load (addr : Nat) (rd size : Nat) (signed ldm : Bool)
  | fdispatch
  | cancel (t : Nat)
  deriving DecidableEq, Repr

/-- The spill unit (R296, R297). -/
inductive SpillUnit where
  | idle
  | spilling (bank : Nat)
  | filling (bank : Nat)
  deriving DecidableEq, Repr

/-- What started a firmware load (R315). -/
inductive LoadKind where
  | start | reload
  deriving DecidableEq, Repr

/-- One core. `booted` is false in the boot context of THREAD mode; `csr` holds the RISC-V and Xbank CSRs by number;
`waiting` is the thread whose accepted dispatch waits for its bank (R286); `posted` counts posted writes not yet answered;
`placing` the threads spilled after a double fault and `placeDue` that Cupola has yet to place them (R313, R360); `entry` the ENTRY of the image
loaded (R285); `ask` numbers the requests whose answer an instruction awaits; `faultDue` the thread whose fill has met poison while an instruction was
stalled (R278, R301); `counts` BANK_COUNT as the last pour tick latched it (R318). -/
structure LcCore where
  st : LcSt
  slotB : Bool
  fresh : Bool
  kind : LoadKind
  tried : Bool
  levelMode : Bool
  booted : Bool
  idle : Bool
  cur : Nat
  level : Nat
  stack : List Nat
  pc : Word
  banks : Tab Bank
  csr : Tab Word
  minstret : DWord
  lmem : Tab Word
  resv : Option Nat
  stall : Stall
  posted : Nat
  unit' : SpillUnit
  waiting : Option Nat
  clock : Nat
  placing : List Nat
  placeDue : Bool
  spills : Word
  fills : Word
  bankFaults : Word
  lastBfault : Word
  dfPc : Word
  /-- The core was idle when the bank fault bank 0 handles was taken. -/
  faultIdle : Bool
  entry : Word
  ask : Nat
  faultDue : Option Nat
  counts : Word
  deriving DecidableEq, Repr

/-- A core after the reset of the ladle domain: OFF. XBPIN and XBFVEC reset as R284 states. -/
def LcCore.reset : LcCore :=
  { st := .off, slotB := false, fresh := false, kind := .start, tried := false, levelMode := false, booted := false, idle := false,
    cur := 0, level := 0, stack := [], pc := 0, banks := [], csr := [(0x7C2, 1), (0x7C4, 0x40)], minstret := 0, lmem := [],
    resv := none, stall := .none, posted := 0, unit' := .idle, waiting := none, clock := 0, placing := [], placeDue := false, spills := 0,
    fills := 0, bankFaults := 0, lastBfault := 0, dfPc := 0, faultIdle := false, entry := 0, ask := 0, faultDue := none, counts := 0 }

end Sys2Proof.Machine
end

