-- ==== Sys2Proof/Machine/LoaderState.lean ====
section
/-! DEFINITION. The loader, its staging store and the mould store (12_images_and_loading.md). -/

namespace Sys2Proof.Machine

/-- LD_STATUS.STATE (R591, R618). -/
inductive LdSt where
  | idle | receiving | quiescing | placing | releasing | records
  deriving DecidableEq, Repr

/-- State of an area of the mould store (R585, R619). -/
inductive AreaSt where
  | invalid | valid | writing
  deriving DecidableEq, Repr

/-- An area: its state and its contents, by word (R579). -/
structure MouldArea where
  st : AreaSt
  words : Tab Word
  deriving DecidableEq, Repr

/-- An area nothing has been written to. -/
def MouldArea.reset : MouldArea := { st := .invalid, words := [] }

/-- An image slot: its areas by area code, its write sessions, MS_OFFSET and the area MS_CMD OPEN named last. -/
structure MouldSlot where
  areas : Tab MouldArea
  wear : Word
  offset : Nat
  sel : Nat
  deriving DecidableEq, Repr

/-- A slot nothing has been written to. -/
def MouldSlot.reset : MouldSlot := { areas := [], wear := 0, offset := 0, sel := 0 }

/-- The open write session (R585, R586): slot, area, the byte above the highest written. -/
structure MouldSession where
  slot : Nat
  area : Nat
  high : Nat
  deriving DecidableEq, Repr

/-- The outcome of the last RECORD on the SCP (R607). -/
inductive ScpLast where
  | ok | retry | rejected | busy | overrun
  deriving DecidableEq, Repr

/-- The loader. `crc` is the running CRC of the image, `staged` the frames in FADDR order, `armed` that a source has been named and its header is due, `scpRec` the record an SCP transaction
has delivered, `toTry` the boot slots start-up has yet to try, `scpBusy` that SCP_RDY is low, `bootCopies` BOOT_ORDER as each copy of the boot record holds it, while the copy is valid (R579). -/
structure Loader where
  st : LdSt
  source : Nat
  slot : Nat
  released : Bool
  isPartial : Bool
  actValid : Bool
  actSlot : Nat
  region : BitVec 72
  frameCount : Nat
  version : Word
  fullVersion : Option Word
  crc : Word
  staged : List (Nat × List Word)
  frames : Nat
  error : Word
  releases : Word
  retries : Nat
  retryLogged : Bool
  scpRetries : Word
  last : ScpLast
  scpBusy : Bool
  scpRec : List Word
  armed : Bool
  booting : Bool
  toTry : List Nat
  bootCopies : Option Word × Option Word
  bootWear : Word
  slots : Tab MouldSlot
  session : Option MouldSession
  saving : Option Nat
  srcOff : List (Nat × Nat × Nat)
  deriving DecidableEq, Repr

/-- The loader and the mould store before the first load: no copy of the boot record is valid (R588). -/
def Loader.reset : Loader :=
  { st := .idle, source := 0, slot := 0, released := false, isPartial := false, actValid := false, actSlot := 0, region := 0,
    frameCount := 0, version := 0, fullVersion := none, crc := 0, staged := [], frames := 0, error := 0, releases := 0,
    retries := 0, retryLogged := false, scpRetries := 0, last := .ok, scpBusy := false, scpRec := [], armed := false, booting := false, toTry := [],
    bootCopies := (none, none), bootWear := 0, slots := [], session := none, saving := none, srcOff := [] }

end Sys2Proof.Machine
end

