-- ==== Sys2Proof/Machine/PinState.lean ====
section
/-! DEFINITION. The general pins and their peripherals (16_general_pins.md). -/

namespace Sys2Proof.Machine

/-- One pin bank: its supply as BANK_STATUS codes it, whether it has taken its configured state since the supply entered
its range (R728), and whether error 0x3B01 awaits the return. -/
structure PinBank where
  supply : Nat
  settled : Bool
  outage : Bool
  deriving DecidableEq, Repr

/-- A bank whose supply is off. -/
def PinBank.reset : PinBank := { supply := 0, settled := false, outage := false }

/-- One pin peripheral (R744): BUSY, RESULT, its transmit and receive buffers, and the time and count of a capture. -/
structure PinPeriph where
  busy : Bool
  result : Nat
  tx : List Byte
  rx : List Byte
  time : DWord
  count : Word
  deriving DecidableEq, Repr

/-- An idle peripheral. -/
def PinPeriph.reset : PinPeriph := { busy := false, result := 0, tx := [], rx := [], time := 0, count := 0 }

/-- The pins. `input` is the input register, `owner` the owner settled last by pin (0 GPIO, else PIN_STATUS.OWNER × 16 +
INST), `switching` the pins in the cycle of R733. Peripherals are numbered I2C 0-3, SPI 4-7, UART 8-9, captures 10-13,
triggers 14-21, strobes 22-37. `kept` holds the last level driven or sensed on each pin (R737), `probe` the probe channels as sampled at the last
pour tick (R738) and `half` CLK_MGT divided by 2. -/
structure PinState where
  banks : Tab PinBank
  latch : BitVec 64
  input : BitVec 64
  irq : BitVec 64
  trigSample : BitVec 8
  /-- A full image has been released since power-up (R616). -/
  configured : Bool
  owner : Tab Nat
  switching : BitVec 64
  periphs : Tab PinPeriph
  pulsing : BitVec 16
  kept : BitVec 64
  probe : BitVec 16
  half : Bool
  deriving DecidableEq, Repr

/-- The pins at power-up: high-impedance, latches 0. Every pin's owner is none (R616). -/
def PinState.reset : PinState :=
  { banks := [], latch := 0, input := 0, irq := 0, trigSample := 0, configured := false, owner := [], switching := 0, periphs := [], pulsing := 0, kept := 0,
    probe := 0, half := false }

end Sys2Proof.Machine
end

