-- ==== Sys2Proof/Machine/PowerState.lean ====
section
/-! DEFINITION. Clocks, power domains, resets, Hold and heat: the state of 17_clocks_power_startup.md. -/

namespace Sys2Proof.Machine

/-- The states of a power domain (R755, R771). -/
inductive DomSt where
  | off | closing | ramping | on | failed
  deriving DecidableEq, Repr

/-- One power domain: its state, whether its switch has been granted its in-rush slot (R756), HOLD_RET and POWER_UPS (R771). -/
structure Dom where
  st : DomSt
  granted : Bool
  holdRet : Bool
  powerUps : BitVec 16
  deriving DecidableEq, Repr

/-- A domain after the power-on reset: OFF, never powered up. -/
def Dom.reset : Dom := { st := .off, granted := false, holdRet := false, powerUps := 0 }

/-- HOLD_STATUS.STATE (R770). -/
inductive HoldSt where
  | running | entering | held | exiting
  deriving DecidableEq, Repr

/-- Clock, supply, reset, Hold and thermal state. -/
structure PowerState where
  pllLocked : Bool
  backupOsc : Bool
  pllLosses : Word
  /-- POUR_COUNT (R748). -/
  pour : DWord
  /-- PWRGOOD[0], [1] and [2] (R750). -/
  good0 : Bool
  good1 : Bool
  good2 : Bool
  /-- The power-on reset has been released (R751). -/
  released : Bool
  /-- BOOT_SEL, SCP_MODE (the form of the SCP) and KEYLOCK_N as sampled or read (R587, R646, R778). -/
  bootSel : BitVec 2
  scpMode : Bool
  keylockN : Bool
  doms : Tab Dom
  coreCause : BitVec 4
  mgmtCause : BitVec 4
  coreResets : BitVec 16
  mgmtResets : BitVec 16
  hold : HoldSt
  holdEmergency : Bool
  /-- The power the device draws from the ranks is on: DIMM_PWREN[7:0] (R465, R761). -/
  dimmPwren : BitVec 8
  /-- DIMM_PWR_WAIT is running after a Hold exit (R465). -/
  dimmWait : Bool
  /-- POUR_COUNT when a domain switch last closed (R756). -/
  lastGrant : Option DWord
  /-- The domains start-up powers up under PWR_DEFAULT (R758). -/
  wanted : BitVec 88
  thermHot : BitVec 16
  tjPeak : BitVec 16
  throttling : Bool
  throttleTime : Word
  rampFails : Word
  deriving DecidableEq, Repr

/-- The state before the power-on reset is released. -/
def PowerState.reset : PowerState :=
  { pllLocked := false, backupOsc := false, pllLosses := 0, pour := 0, good0 := false, good1 := false, good2 := false,
    released := false, bootSel := 0, scpMode := false, keylockN := false, doms := [], coreCause := 0, mgmtCause := 0, coreResets := 0,
    mgmtResets := 0, hold := .running, holdEmergency := false, dimmPwren := 0, dimmWait := false, lastGrant := none, wanted := 0, thermHot := 0, tjPeak := 0,
    throttling := false, throttleTime := 0, rampFails := 0 }

end Sys2Proof.Machine
end

