-- ==== Sys2Proof/Machine/RunnerState.lean ====
section
/-! DEFINITION. The runner network: routers, ports, gates and what is in flight (08_runner_network.md). -/

namespace Sys2Proof.Machine

/-- The states of a router port (R404, R413). -/
inductive PortSt where
  | opened | closing | closed | opening
  deriving DecidableEq, Repr

/-- One router (R380, R413). The live and staged tables list the entries that differ from the default tables of R383. -/
structure Router where
  stopped : Bool
  applyPending : Bool
  /-- The staged table becomes live at the switch; the pending APPLY came from a command (R409). -/
  route : Tab Nat
  stage : Tab Nat
  ports : Tab PortSt
  /-- Ports whose 0x3605 has been logged for the close under way (R404). -/
  closeLogged : List Nat
  hdrCorrected : Word
  hdrDropped : Word
  offlineAnswers : Word
  closedDrops : Word
  /-- The input whose packet each virtual channel of each output carried last: output × 2 + channel (R386). -/
  lastIn : Tab Nat
  deriving DecidableEq, Repr

/-- A router after reset. -/
def Router.reset : Router :=
  { stopped := false, applyPending := false, route := [], stage := [], ports := [], closeLogged := [],
    hdrCorrected := 0, hdrDropped := 0, offlineAnswers := 0, closedDrops := 0, lastIn := [] }

/-- A transaction a gate has outstanding (R389); `who` is the mark of its packet. -/
structure Outstanding where
  tag : Nat
  who : Nat
  dest : Nat
  addr : Nat
  body : Body
  deriving DecidableEq, Repr

/-- What a producer's gate holds for one queue: its credits, credits granted to the host and not yet handed over (R260),
whether the last word sent left a packet open (R232), and the words gathered for the next PUSH (R258). -/
structure Producer where
  credits : Nat
  granted : Nat
  midPacket : Bool
  gather : List QWord
  deriving DecidableEq, Repr

/-- A queue the gate does not produce for. -/
def Producer.reset : Producer := { credits := 0, granted := 0, midPacket := false, gather := [] }

/-- One initiator's gate: requests waiting per traffic class, outstanding transactions, tags in quarantine (R392),
the bucket levels below BURST, counted as bytes × 1,600 (R400), and the statistics of R403. -/
structure Gate where
  waiting : List Packet
  outstanding : List Outstanding
  quarantine : List Nat
  /-- Answers that have been delivered and not yet consumed by the initiator. -/
  answers : List Packet
  spent : Tab Nat
  /-- Producer state by queue. -/
  prod : Tab Producer
  reqCount : DWord
  byteCount : DWord
  latMin : Word
  latMax : Word
  hist : Tab Word
  throttled : Tab Word
  /-- The traffic class that injected last (R401). -/
  lastTc : Nat
  deriving DecidableEq, Repr

/-- A gate after reset. -/
def Gate.reset : Gate :=
  { waiting := [], outstanding := [], quarantine := [], answers := [], spent := [], prod := [], reqCount := 0, byteCount := 0,
    latMin := 0xFFFFFFFF#32, latMax := 0, hist := [], throttled := [], lastTc := 3 }

/-- The whole network. -/
structure RunnerState where
  routers : Tab Router
  gates : Tab Gate
  /-- Packets in flight, oldest first. -/
  wire : List Flight
  /-- The hop credits that each virtual channel of each link holds at its sender, where they differ from the depth of the receiver's input
  buffer (R384, R385). -/
  credits : Tab Nat
  dataCorrected : Word
  dataPoisoned : Word
  lostCount : Word
  lateAnswers : Word
  deriving DecidableEq, Repr

/-- The network after reset. -/
def RunnerState.reset : RunnerState :=
  { routers := [], gates := [], wire := [], credits := [], dataCorrected := 0, dataPoisoned := 0, lostCount := 0,
    lateAnswers := 0 }

end Sys2Proof.Machine
end

