-- ==== Sys2Proof/Machine/TapState.lean ====
section
/-! DEFINITION. The IEEE 1149.1 test access port and its boundary cells (R783). The spec names the standard, the pins and the cells and gives no
instruction codes; the controller's states and moves are the standard's (PRESUMED, log 51). -/

namespace Sys2Proof.Machine

/-- The states of the TAP controller. -/
inductive TapSt where
  | testLogicReset | runTestIdle
  | selectDr | captureDr | shiftDr | exit1Dr | pauseDr | exit2Dr | updateDr
  | selectIr | captureIr | shiftIr | exit1Ir | pauseIr | exit2Ir | updateIr
  deriving DecidableEq, Repr

/-- The test access port: its controller, and the boundary cells by ball that hold 1, keyed 64 · row index + column (R783, R784). -/
structure Tap where
  st : TapSt
  cells : Tab Bool
  deriving DecidableEq, Repr

/-- The port with TRST_N low, and after power-up: the test logic leaves the device alone. -/
def Tap.reset : Tap := { st := .testLogicReset, cells := [] }

/-- The controller's move on a rising edge of TCK with TMS as given. -/
def tapMove (tms : Bool) (st : TapSt) : TapSt :=
  match st, tms with
  | .testLogicReset, true => .testLogicReset
  | .testLogicReset, false => .runTestIdle
  | .runTestIdle, true => .selectDr
  | .runTestIdle, false => .runTestIdle
  | .selectDr, true => .selectIr
  | .selectDr, false => .captureDr
  | .captureDr, true => .exit1Dr
  | .captureDr, false => .shiftDr
  | .shiftDr, true => .exit1Dr
  | .shiftDr, false => .shiftDr
  | .exit1Dr, true => .updateDr
  | .exit1Dr, false => .pauseDr
  | .pauseDr, true => .exit2Dr
  | .pauseDr, false => .pauseDr
  | .exit2Dr, true => .updateDr
  | .exit2Dr, false => .shiftDr
  | .updateDr, true => .selectDr
  | .updateDr, false => .runTestIdle
  | .selectIr, true => .testLogicReset
  | .selectIr, false => .captureIr
  | .captureIr, true => .exit1Ir
  | .captureIr, false => .shiftIr
  | .shiftIr, true => .exit1Ir
  | .shiftIr, false => .shiftIr
  | .exit1Ir, true => .updateIr
  | .exit1Ir, false => .pauseIr
  | .pauseIr, true => .exit2Ir
  | .pauseIr, false => .pauseIr
  | .exit2Ir, true => .updateIr
  | .exit2Ir, false => .shiftIr
  | .updateIr, true => .selectDr
  | .updateIr, false => .runTestIdle

/-- The port after an edge of TCK with TRST_N as given. -/
def tapClock (trstN tms : Bool) (t : Tap) : Tap := if trstN then { t with st := tapMove tms t.st } else .reset

end Sys2Proof.Machine
end

