-- ==== Sys2Proof/Machine/TundishState.lean ====
section
/-! DEFINITION. The tundish: queues, pool cells, deep blocks and sweeps (05_tundish_queues.md). Duplicated pointers are
held once: whether the copies disagree is physics, and the commands that read them carry it (log 18). -/

namespace Sys2Proof.Machine

/-- QCFG.STATE (R210, R214). -/
inductive QSt where
  | disabled | active | revoking | suspended
  deriving DecidableEq, Repr

/-- An on-die pool cell of a queue's list: its index, the generation it was allocated under and the item words stored in
it, oldest first (R198, R199). NEXT is its successor in the list, OWNER the queue; it is OPEN while it holds words of the
open packet alone and QUEUED otherwise. -/
structure PoolCell where
  idx : Nat
  gen : Nat
  words : List QWord
  deriving DecidableEq, Repr

/-- A queue's descriptor and list (R203, R212). `front`, `mid` and `back` are the three segments; with no block in the
middle every cell is in the front. `headOfs` is HEAD_OFS, `opened` the words of the open packet, `discard` R238,
`withheld` W, `accrued` the credits not yet sent and `sweepHeld` those of words pushed while SUSPENDED (R256). `moving` is
the spill in flight: its block and cells; `refilling` a refill read in flight. `onDie` and `deepRes` are the reservation,
`oldOnDie` and `oldDeep` what a disabled queue still holds for cells awaiting a sweep (R217), `limit` the ONDIE_LIMIT it was
enabled with (R263). -/
structure Queue where
  st : QSt
  deep : Bool
  idleL : Bool
  producer : Nat
  consumer : Nat
  budget : Nat
  idleWord : Word
  gen : Nat
  watcher : Option (Nat × Nat)
  count : Nat
  opened : Nat
  discard : Bool
  front : List PoolCell
  mid : List Nat
  back : List PoolCell
  headOfs : Nat
  creditOut : Nat
  withheld : Nat
  accrued : Nat
  sweepHeld : Nat
  moving : Option (Nat × List Nat)
  refilling : Bool
  resets : Nat
  onDie : Nat
  deepRes : Nat
  oldOnDie : Nat
  oldDeep : Nat
  limit : Nat
  deriving DecidableEq, Repr

/-- A queue after reset: DISABLED and empty. -/
def Queue.reset : Queue :=
  { st := .disabled, deep := false, idleL := false, producer := 0, consumer := 0, budget := 0, idleWord := 0, gen := 0,
    watcher := none, count := 0, opened := 0, discard := false, front := [], mid := [], back := [], headOfs := 0,
    creditOut := 0, withheld := 0, accrued := 0, sweepHeld := 0, moving := none, refilling := false, resets := 0,
    onDie := 0, deepRes := 0, oldOnDie := 0, oldDeep := 0, limit := 0 }

/-- What one reset passed to RECLAIMING: the queue, its cells and blocks, the credits of its words (R250, R253), and the reservation of the
queue, disabled since, that is held for them (R217). -/
structure Reclaim where
  q : Nat
  cells : List Nat
  blocks : List Nat
  credits : Nat
  onDie : Nat := 0
  deepRes : Nat := 0
  recovers : Bool := false
  deriving DecidableEq, Repr

/-- The tundish. The free lists are the cells (blocks) given back, last first, and then every index from `nextCell`
(`nextBlock`) up (log 28). `sweeping` is what the sweep under way reclaims, `waiting` what the next one does. `initAt` and `sweepAt` count the
pairs of deep link entries that the initialisation has written and the sweep has asked for (R209, R252), `pool` holds the pool counters as the last
pour tick latched them (R256), by subindex of 0x3200, and `cycle` the queue that a flush or pop last changed in the present cycle with its CREDIT_OUT at the
cycle's start (R247). -/
structure Tundish where
  stopped : Bool
  queues : Tab Queue
  freeCells : List Nat
  nextCell : Nat
  freeBlocks : List Nat
  nextBlock : Nat
  deepInit : Bool
  deepReady : Bool
  sweeping : List Reclaim
  waiting : List Reclaim
  initAt : Nat
  sweepAt : Nat
  pool : Tab DWord
  cycle : Option (Nat × Nat)
  slag : DWord
  creditViol : Word
  violLogged : Bool
  protoRefused : Word
  queueResets : Word
  deriving DecidableEq, Repr

/-- The tundish after the reset of the core domain. -/
def Tundish.reset : Tundish :=
  { stopped := false, queues := [], freeCells := [], nextCell := 0, freeBlocks := [], nextBlock := 0, deepInit := false,
    deepReady := false, sweeping := [], waiting := [], initAt := 0, sweepAt := 0, pool := [], cycle := none, slag := 0, creditViol := 0, violLogged := false,
    protoRefused := 0, queueResets := 0 }

end Sys2Proof.Machine
end

