-- ==== Sys2Proof/Machine/VilletState.lean ====
section
/-! DEFINITION. The Villet link ports and the heat slots (10_villet_link.md, 11_heats.md). -/

namespace Sys2Proof.Machine

/-- LINK_STATUS.STATE (R523). -/
inductive LinkSt where
  | disabled | align | init | active | retrain | failed
  deriving DecidableEq, Repr

/-- One physical lane of a port (R483-R485, R525). -/
structure Lane where
  block : Bool
  marker : Bool
  logical : Nat
  skew : Nat
  eq : Nat
  bip : Word
  deriving DecidableEq, Repr

/-- A lane that has locked on nothing. -/
def Lane.reset : Lane := { block := false, marker := false, logical := 0, skew := 0, eq := 0, bip := 0 }

/-- The transmitter of a logical lane: the scrambled payload of its last block, and the BIP-8 since its last marker (R478, R481). -/
structure LaneTx where
  scr : DWord
  bip : Byte
  deriving DecidableEq, Repr

/-- One that has sent nothing. -/
def LaneTx.reset : LaneTx := { scr := 0, bip := 0 }

/-- A DATA frame in the replay buffer (R493, R501). -/
structure TxFrame where
  seq : Nat
  vc : Nat
  words : List Word
  deriving DecidableEq, Repr

/-- An accepted DATA frame in the receive buffer: its VC, the words the manager has yet to take, whether they are poisoned
(0x3804), and the credits it holds. -/
structure RxFrame where
  vc : Nat
  words : List Word
  poison : Bool
  credits : Nat
  deriving DecidableEq, Repr

/-- A word the port manager is to push: the slot of its heat, the queue and the word (R557). -/
structure Due where
  slot : Nat
  q : Nat
  w : QWord
  deriving DecidableEq, Repr

/-- One port. Credits are kept modulo 2^16 and sequence numbers modulo 2^20. `resend` lists the SEQs of a round yet to be
resent, `replayAck` the ACK value of the NAK that began it, `roundOldest` the oldest unacknowledged SEQ when the round
began, `txAt` counts the blocks sent since the last alignment markers and `tx` holds the lanes' transmitters (R479), `recs` the recoveries open with the last SEQ of their round. `badAt` holds POUR_COUNT at each bad frame in ACTIVE.
`popOut` is the slot whose POP the manager waits for, 2 where that heat no longer takes it. -/
structure VPort where
  st : LinkSt
  stopped : Bool
  resumed : Bool
  retrained : Bool
  attempts : Nat
  epoch : BitVec 16
  epochKept : Bool
  partner : BitVec 16
  seen : BitVec 16
  nextSeq : Nat
  expect : Nat
  nakOut : Bool
  ackOwed : Bool
  unacked : List TxFrame
  resend : List Nat
  replayAck : Option Nat
  roundOldest : Option Nat
  rounds : Nat
  recs : List (Nat × Nat)
  replayLogged : Bool
  txCtl : List (List Word)
  txVec : List (List Word)
  conCtl : Nat
  conVec : Nat
  limCtl : Nat
  limVec : Nat
  freedCtl : Nat
  freedRes : Nat
  heldCtl : Nat
  heldRes : Nat
  h0Ctl : Nat
  h0Res : Nat
  badAt : List DWord
  lanes : Tab Lane
  txAt : Nat
  tx : Tab LaneTx
  rx : List RxFrame
  backlog : List Due
  popOut : Option Nat
  retry : Bool
  strayLogged : Bool
  framesTx : DWord
  framesRx : DWord
  badFrames : Word
  naksSent : Word
  naksReceived : Word
  replays : Word
  replayed : Word
  dups : Word
  protoErrors : Word
  codingErrors : Word
  retrains : Word
  outOfState : Word
  strays : Word
  deriving DecidableEq, Repr

/-- A port whose domain has not been powered up. -/
def VPort.reset : VPort :=
  { st := .disabled, stopped := false, resumed := false, retrained := false, attempts := 0, epoch := 0, epochKept := false,
    partner := 0, seen := 0, nextSeq := 0, expect := 0, nakOut := false, ackOwed := false, unacked := [], resend := [],
    replayAck := none, roundOldest := none, rounds := 0, recs := [], replayLogged := false, txCtl := [], txVec := [],
    conCtl := 0, conVec := 0, limCtl := 0, limVec := 0, freedCtl := 0, freedRes := 0, heldCtl := 0, heldRes := 0,
    h0Ctl := 0, h0Res := 0, badAt := [], lanes := [], txAt := 0, tx := [], rx := [], backlog := [], popOut := none, retry := false,
    strayLogged := false, framesTx := 0, framesRx := 0, badFrames := 0, naksSent := 0, naksReceived := 0, replays := 0,
    replayed := 0, dups := 0, protoErrors := 0, codingErrors := 0, retrains := 0, outOfState := 0, strays := 0 }

/-- HEAT_STATUS.STATE (R562). -/
inductive HeatSt where
  | idle | opening | streaming | held | draining | closed | voided | aborted
  deriving DecidableEq, Repr

/-- One heat slot. `marks` are the unanswered MARKs, oldest first; `cur` the words popped of the vector under way and
`built` the vectors gathered for the next VECTORS message; `lost` the queues lost under R801. -/
structure Heat where
  st : HeatSt
  cause : Nat
  reason : Nat
  voidPend : Bool
  nextSend : Nat
  applied : Nat
  voidIndex : Nat
  lastMark : Nat
  restart : Nat
  feFinal : DWord
  marks : List Nat
  cur : List Word
  built : List (List Word)
  lost : List Nat
  protoLogged : Bool
  gapVectors : DWord
  gapEvents : Word
  idleWords : Word
  failRecords : Word
  paramRecords : Word
  badRecords : Word
  proto : Word
  deriving DecidableEq, Repr

/-- A slot no heat has used. -/
def Heat.reset : Heat :=
  { st := .idle, cause := 0, reason := 0, voidPend := false, nextSend := 0, applied := 0, voidIndex := 0, lastMark := 0,
    restart := 0, feFinal := BitVec.allOnes 64, marks := [], cur := [], built := [], lost := [], protoLogged := false,
    gapVectors := 0, gapEvents := 0, idleWords := 0, failRecords := 0, paramRecords := 0, badRecords := 0, proto := 0 }

/-- Ports by number; slots by 2·port + slot. -/
structure VilletState where
  ports : Tab VPort
  heats : Tab Heat
  deriving DecidableEq, Repr

/-- Every port off. -/
def VilletState.reset : VilletState := { ports := [], heats := [] }

end Sys2Proof.Machine
end

