-- ==== Sys2Proof/Machine/State.lean ====
section
/-! DEFINITION. The whole machine as plain data, its stops, and its state after reset. -/

namespace Sys2Proof.Machine

/-- Why the machine stops with a fault: never. The spec lets the block go on after every command, and no meaning
raises a fault. -/
inductive Fault where
  deriving DecidableEq, Repr

/-- Why a command is refused by the model. -/
inductive Refusal where
  /-- Raised only by `exec` for a command whose meaning is not written; safe, since nothing is claimed of it. -/
  | notModelled (mnemonic : String)
  deriving DecidableEq, Repr

/-- What the device puts outside itself, oldest first. -/
inductive Out where
  | sdoOk (idx sub : Nat)
  | sdoAbort (idx sub : Nat) (code : Word)
  | sdoData (idx sub : Nat) (bytes : List Byte)
  | busRead (path : Nat) (value : DWord)
  | i2cXfer (n addr : Nat) (sent : List Byte) (reads : Nat)
  | spiXfer (n : Nat) (sent : List Byte)
  | uartSent (n : Nat) (sent : List Byte)
  | trigPulse (k : Nat)
  | strobe (j : Nat) (on : Bool)
  /-- A frame of a Villet port, header, payload and CRC. -/
  | villetTx (n : Nat) (ws : List Word)
  /-- Blocks of a Villet port, by logical lane, in the order sent (R478-R480). -/
  | villetBlocks (n : Nat) (blocks : List (Nat × Block))
  /-- An Emergency message, a mailbox error, or an SDO information answer (R631, R719, R720). -/
  | emergency (e : Emergency)
  | mailboxError (code : BitVec 16)
  | odList (indices : List Nat)
  | sdoInfo (idx sub : Nat) (fields : List Nat)
  | alStatus (state : AlSt) (code : BitVec 16)
  | txPdo (bytes : List Byte)
  /-- Completions and requests on PCI Express: `bad` is a Completer Abort, `ep` the poison attribute. -/
  | hostCpl (words : List Word) (ep bad : Bool)
  | hostWrite (addr : Nat) (words : List Word) (ep : Bool)
  | hostRead (engine addr bytes : Nat)
  | msix (addr : DWord) (data : Word)
  /-- A status or error word on the SCP. -/
  | scp (w : Word)
  deriving DecidableEq, Repr

/-- The machine. -/
structure State where
  power : PowerState
  chill : ChillState
  dict : DictState
  net : RunnerState
  flasks : Tab Flask
  crus : Tab Cru
  tun : Tundish
  /-- Ladle cores, and the shared SRAM by word (R268, R269). -/
  cores : Tab LcCore
  sram : Tab NWord
  cup : Cupola
  loader : Loader
  catch' : CatchState
  villet : VilletState
  pins : PinState
  /-- The test access port, which no command of the table moves (R783, log 51). -/
  tap : Tap
  pcie : Pcie
  ecat : Ecat
  /-- Local source 19, by core: a process-data exchange has asserted it (R724). -/
  pdoIrq : BitVec 8
  recasts : Tab Recast
  /-- The row of the recast that RECAST_STATUS shows (R141). -/
  recastRow : Nat
  recastCount : Word
  /-- Physical flask of each logical flask, where it differs from R141's default. -/
  lmap : Tab Nat
  /-- Distributed clock: running, system time in ns and quarters of a ns (R721). -/
  dcRunning : Bool
  dcTime : DWord
  dcQuarter : Nat
  /-- Words of catch memory written so far, by line-aligned word number (address ÷ 4): data and poison. -/
  dram : Tab (Option NWord)
  out : List Out
  /-- The model's own counter for free values (log 1). -/
  fresh : Nat
  /-- The commands that wait, first in, first out. -/
  pending : List Instr
  deriving DecidableEq, Repr

/-- The machine before its power-on reset is released: every value the spec states for reset, and the values log 6
names where it states none. -/
def State.reset : State :=
  { power := .reset, chill := .reset, dict := .reset, net := .reset, flasks := [], crus := [], tun := .reset, cores := [], sram := [], cup := .reset,
    loader := .reset, catch' := .reset, villet := .reset, pins := .reset, tap := .reset, pcie := .reset, ecat := .reset, pdoIrq := 0, recasts := [],
    recastRow := 0, recastCount := 0, lmap := [], dcRunning := false, dcTime := 0, dcQuarter := 0, dram := [],
    out := [], fresh := 0, pending := [] }

end Sys2Proof.Machine
end

