-- ==== Sys2Proof/Machine/Links.lean ====
section
/-! DEFINITION. The links of the runner network (R370, R374, R375, R384-R390): flits, virtual channels, input buffers, hop credits
and bridges. A link is named by its receiver: router 0-12 and the input there, or 13 and the node of an endpoint. -/

namespace Sys2Proof.Machine

/-! ### Packets and flits -/

/-- Messages, which are not answered, and requests that are (R377, R379); both travel in the request class. -/
def isMsg (b : Body) : Bool :=
  match b with
  | .push _ _ _ => true
  | .rewind _ => true
  | .revokeAck _ _ => true
  | .watchSet _ _ _ => true
  | .internal code _ => code = 0x12
  | _ => false
def isCall (b : Body) : Bool :=
  match b with
  | .rd _ _ => true
  | .wr _ _ _ _ => true
  | .fold _ _ _ => true
  | .pop _ _ => true
  | .internal code _ => code ≠ 0x12
  | _ => false
def isRequest (b : Body) : Bool := isMsg b || isCall b

/-- DLEN: the data words that follow the header (R375, R376). -/
def dataLength (b : Body) : Nat :=
  match b with
  | .wr _ _ _ ws => ws.length
  | .fold _ _ ws => ws.length
  | .push _ _ ws => ws.length
  | .rdata _ ws => ws.length
  | .popResp _ ws => ws.length
  | _ => 0

/-- The flits of a packet: its header and ⌈DLEN ÷ 4⌉ data flits (R375). -/
def flitCount (b : Body) : Nat := 1 + (dataLength b + 3) / 4

/-- The virtual channel: 0 request, 1 response (R384). -/
def channelOf (b : Body) : Nat := if isRequest b then 0 else 1

/-! ### Links -/

/-- The input that a node's own link is at a router, apart from those between routers. -/
def nodeInput (node : Nat) : Nat := 16 + node

/-- The key of one virtual channel of the link into (`x`, `inp`), of its bridge, and of the packets that wait at their source. -/
def linkKey (x inp vc : Nat) : Nat := (x * 256 + inp) * 2 + vc
def bridgeKey (k : Nat) : Nat := 2 ^ 16 + k
def sourceKey (node vc : Nat) : Nat := 2 ^ 17 + node * 2 + vc

/-- What an endpoint has taken, and an answer a router holds of its own: neither fills an input buffer. -/
def sinkKey (node : Nat) : Nat := 2 ^ 18 + node
def ownKey (r vc : Nat) : Nat := 2 ^ 19 + r * 2 + vc

/-- The node whose own link a link is, if it is one. -/
def linkNode (x inp : Nat) : Option Nat := if x = 13 then some inp else if 16 ≤ inp then some (inp - 16) else none

/-- The link of a node passes through a bridge (R370): the flask gates, the ladle cores, Cupola, the port managers, PCIe, the loader and
management. -/
def bridgedNode (node : Nat) : Bool := node ≤ 90 && node ≠ 81

/-- Depth in flits of an input buffer, per virtual channel (R370, R384): 16 on links of 128 and 256 bits, 32 on 512, 64 on 1,024. -/
def linkDepth (k : Nat) : Nat :=
  let x := k / 512
  let inp := k / 2 % 256
  match linkNode x inp with
  | some node => if node = 81 then 64 else if node = 88 || 91 ≤ node then 32 else 16
  | none =>
    if x < 8 || x = 11 then 32
    else if x < 10 then (if inp = 4 then 64 else 32)
    else if x = 10 then (if inp = 11 then 32 else 64)
    else 64

/-- The link passes through a bridge. -/
def linkBridged (k : Nat) : Bool :=
  match linkNode (k / 512) (k / 2 % 256) with
  | some node => bridgedNode node
  | none => false

/-- Flits that a bridge holds, per virtual channel and direction (R387). -/
abbrev bridgeDepth : Nat := 8

/-! ### Where a packet's flits are -/

/-- The store of a packet's header. -/
def flightStore (f : Flight) : Nat :=
  let vc := channelOf f.pkt.body
  let k := linkKey f.at' f.inp vc
  match f.place with
  | .source => sourceKey f.pkt.src vc
  | .own => ownKey f.at' vc
  | .bridge => bridgeKey k
  | .buffer => if f.at' = 13 && vc = 1 then sinkKey f.inp else k

/-- The stores that hold flits of a packet, and how many, the header's first. -/
def flightStores (f : Flight) : List (Nat × Nat) := ((flightStore f), f.here) :: f.tail

/-- The flits in a store. -/
def RunnerState.held (n : RunnerState) (key : Nat) : Nat :=
  (n.wire.map (fun f => (((flightStores f).filter (fun e => e.1 = key)).map (·.2)).sum)).sum

/-- The hop credits the sender of a link holds (R385). -/
def RunnerState.hopCredits (n : RunnerState) (k : Nat) : Nat := Tab.get (linkDepth k) n.credits k

/-- Change them. -/
def RunnerState.modCredits (n : RunnerState) (k : Nat) (g : Nat → Nat) : RunnerState :=
  { n with credits := Tab.modify (linkDepth k) n.credits k g }

/-- Flits leave a store: those of an input buffer give their credits back (R385). -/
def leaveStore (key m : Nat) (n : RunnerState) : RunnerState := if key < 2 ^ 16 then n.modCredits key (· + m) else n

/-- Flits enter a store from another: entering a bridge, or the buffer of a link without one, uses hop credits; from its bridge a flit has
its place in the buffer already, and one that the endpoint takes at once gives it back (R385, R387, R390). -/
def enterStore (src key m : Nat) (n : RunnerState) : RunnerState :=
  if 2 ^ 18 ≤ key then (if 2 ^ 16 ≤ src && src < 2 ^ 17 then n.modCredits (src - 2 ^ 16) (· + m) else n)
  else if 2 ^ 16 ≤ key then n.modCredits (key - 2 ^ 16) (· - m)
  else if linkBridged key then n
  else n.modCredits key (· - m)

/-- `m` flits move from one store to the next. -/
def moveFlits (src key m : Nat) (n : RunnerState) : RunnerState := enterStore src key m (leaveStore src m n)

/-- How many of `want` flits a store can take now, with `own` flits of their packet there beside those of the network. -/
def storeRoom (n : RunnerState) (key own want : Nat) : Nat :=
  if 2 ^ 18 ≤ key then want
  else if 2 ^ 16 ≤ key then min want (min (n.hopCredits (key - 2 ^ 16)) (bridgeDepth - (n.held key + own)))
  else if linkBridged key then want
  else min want (n.hopCredits key)

/-- The first store of a link: its bridge, or its input buffer, or the endpoint itself for a response (R390). -/
def firstStore (x inp vc : Nat) : Nat :=
  let k := linkKey x inp vc
  if linkBridged k then bridgeKey k else if x = 13 && vc = 1 then sinkKey inp else k

/-- Stores at the end of a list that hold nothing more are left out. -/
def trimStores (l : List (Nat × Nat)) : List (Nat × Nat) := (l.reverse.dropWhile (fun e => e.2 = 0)).reverse

/-- One pass of a packet's flits toward its header: the store `a` takes from the next what it has room for, and so on along the list. -/
def pullFrom (a : Nat × Nat) : List (Nat × Nat) → RunnerState → List (Nat × Nat) × RunnerState
  | [], n => ([a], n)
  | b :: rest, n =>
    let m := storeRoom n a.1 a.2 b.2
    let (l, n) := pullFrom (b.1, b.2 - m) rest (moveFlits b.1 a.1 m n)
    ((a.1, a.2 + m) :: l, n)
def pullStores (l : List (Nat × Nat)) (n : RunnerState) : List (Nat × Nat) × RunnerState :=
  match l with
  | [] => ([], n)
  | a :: rest => pullFrom a rest n

/-- As many passes as a list has stores. -/
def pullPasses : Nat → List (Nat × Nat) → RunnerState → List (Nat × Nat) × RunnerState
  | 0, l, n => (l, n)
  | k + 1, l, n => let (l, n) := pullStores l n; pullPasses k l n

/-- A packet of the network, put behind the others after its flits have followed its header as far as there is room (R386). -/
def RunnerState.addFollowed (n : RunnerState) (f : Flight) : RunnerState :=
  let (l, n) := pullPasses (flightStores f).length (flightStores f) n
  { n with wire := n.wire ++ [{ f with here := (l.headD (0, 1)).2, tail := trimStores (l.drop 1) }] }

/-- A packet leaves the network whole: its flits free what they held. -/
def RunnerState.drop (n : RunnerState) (f : Flight) : RunnerState :=
  (flightStores f).foldl (fun n e =>
      if 2 ^ 16 ≤ e.1 && e.1 < 2 ^ 17 then n.modCredits (e.1 - 2 ^ 16) (· + e.2) else leaveStore e.1 e.2 n)
    { n with wire := n.wire.erase f }

/-- Whether another packet's flits still cross into a store: an output channel carries one packet at a time (R386). -/
def storeBusy (n : RunnerState) (f : Flight) (key : Nat) : Bool :=
  n.wire.any (fun g => g ≠ f && (((flightStores g).dropWhile (fun e => e.1 ≠ key)).drop 1).any (fun e => e.2 ≠ 0))

/-- A header can enter a link: there is a credit for it, room in the bridge, and the channel is free (R385-R387). -/
def canEnter (n : RunnerState) (f : Flight) (x inp : Nat) : Bool :=
  let key := firstStore x inp (channelOf f.pkt.body)
  decide (1 ≤ storeRoom n key 0 1) && !storeBusy n f key

/-- The header enters a link and its flits follow. -/
def enterHop (f : Flight) (x inp : Nat) (pkt : Packet) (n : RunnerState) : RunnerState :=
  let vc := channelOf f.pkt.body
  let key := firstStore x inp vc
  (moveFlits (flightStore f) key 1 { n with wire := n.wire.erase f }).addFollowed
    { f with at' := x, inp := inp, pkt := pkt, here := 1, tail := ((flightStore f), f.here - 1) :: f.tail,
             place := if linkBridged (linkKey x inp vc) then .bridge else .buffer }

/-- The header leaves the bridge of its link and its flits follow. -/
def leaveBridge (f : Flight) (n : RunnerState) : RunnerState :=
  let g := { f with place := .buffer, here := 1, tail := ((flightStore f), f.here - 1) :: f.tail }
  (moveFlits (flightStore f) (flightStore g) 1 { n with wire := n.wire.erase f }).addFollowed g

/-- No earlier packet stands in the store, nor does the end of one (R387, R394). -/
def oldestHere (n : RunnerState) (f : Flight) : Bool :=
  n.wire.all (fun g => g = f || !g.tail.any (fun e => e.1 = (flightStore f))) &&
    (match n.wire.find? (fun g => (flightStore g) = (flightStore f)) with
     | some g => g = f
     | none => true)

/-- Flits follow their headers in the cycles of a pour tick. -/
def followAll (n : RunnerState) : RunnerState :=
  n.wire.foldl (fun n f => ({ n with wire := n.wire.erase f }).addFollowed f) n

/-! ### What stands at an endpoint -/

/-- The packet's header has reached its endpoint. -/
def flightArrived (f : Flight) : Bool := f.at' = 13 && f.place = .buffer

/-- The oldest packet of a source, ordering class and virtual channel that stands at an endpoint (R31, R394). -/
def RunnerState.front (n : RunnerState) (dest src oclass vc : Nat) : Option Flight :=
  n.wire.find? (fun f => flightArrived f && f.inp = dest && f.pkt.src = src && f.pkt.oclass = oclass && channelOf f.pkt.body = vc)

/-- It carries a body. -/
def State.atFront (s : State) (dest src oclass : Nat) (b : Body) : Bool :=
  match s.net.front dest src oclass (channelOf b) with
  | some f => f.pkt.body = b
  | none => false

/-- It carries a body and a tag. -/
def State.tagAtFront (s : State) (dest src oclass tag : Nat) (b : Body) : Bool :=
  match s.net.front dest src oclass (channelOf b) with
  | some f => f.pkt.body = b && f.pkt.tag = tag
  | none => false

/-- The packet is the oldest of its source and class at an endpoint. -/
def State.packetAt (s : State) (dest : Nat) (pkt : Packet) : Bool :=
  match s.net.front dest pkt.src pkt.oclass (channelOf pkt.body) with
  | some f => f.pkt = pkt
  | none => false

/-- The endpoint takes it (R31, R394). -/
def State.consume (s : State) (dest src oclass : Nat) (b : Body) : State :=
  match s.net.front dest src oclass (channelOf b) with
  | some f => if f.pkt.body = b then { s with net := s.net.drop f } else s
  | none => s

end Sys2Proof.Machine
end

