-- ==== Sys2Proof/Machine/Ops.lean ====
section
/-! DEFINITION. The operations every family shares: lenses into the state, error reports and recoveries, stored
dictionary values, the checks of a dictionary command, packets and catch memory contents. -/

namespace Sys2Proof.Machine

/-- What a meaning answers. -/
abbrev Result := Host.Outcome State Fault Refusal

/-- A command that changes the machine and always goes on. -/
def ok (s : State) : Result := .next s

/-- An event whose conditions hold has its effect; otherwise it is no event and nothing changes (log 2). -/
def event (c : Bool) (s s' : State) : Result := .next (if c then s' else s)

/-! ### Lenses -/

/-- Physical flask `p`. -/
def State.flask (s : State) (p : Nat) : Flask := Tab.get Flask.reset s.flasks p

/-- Change physical flask `p`. -/
def State.modFlask (s : State) (p : Nat) (g : Flask → Flask) : State :=
  { s with flasks := Tab.modify Flask.reset s.flasks p g }

/-- The crucible of physical flask `p`. -/
def State.cru (s : State) (p : Nat) : Cru := Tab.get Cru.reset s.crus p

/-- Change the crucible of physical flask `p`. -/
def State.modCru (s : State) (p : Nat) (g : Cru → Cru) : State :=
  { s with crus := Tab.modify Cru.reset s.crus p g }

/-- The recast of row `y`. -/
def State.recast (s : State) (y : Nat) : Recast := Tab.get Recast.reset s.recasts y

/-- Change the recast of row `y`. -/
def State.modRecast (s : State) (y : Nat) (g : Recast → Recast) : State :=
  { s with recasts := Tab.modify Recast.reset s.recasts y g }

/-- The gate of initiator `i`. -/
def State.gate (s : State) (i : Nat) : Gate := Tab.get Gate.reset s.net.gates i

/-- Change the gate of initiator `i`. -/
def State.modGate (s : State) (i : Nat) (g : Gate → Gate) : State :=
  { s with net := { s.net with gates := Tab.modify Gate.reset s.net.gates i g } }

/-- Change the network. -/
def State.modNet (s : State) (g : RunnerState → RunnerState) : State := { s with net := g s.net }

/-- Router `r`. -/
def State.router (s : State) (r : Nat) : Router := Tab.get Router.reset s.net.routers r

/-- Change router `r`. -/
def State.modRouter (s : State) (r : Nat) (g : Router → Router) : State :=
  { s with net := { s.net with routers := Tab.modify Router.reset s.net.routers r g } }

/-- Power domain `d`. -/
def State.dom (s : State) (d : Nat) : Dom := Tab.get Dom.reset s.power.doms d

/-- Change power domain `d`. -/
def State.modDom (s : State) (d : Nat) (g : Dom → Dom) : State :=
  { s with power := { s.power with doms := Tab.modify Dom.reset s.power.doms d g } }

/-- Path `p` of the dictionary agent. -/
def State.path (s : State) (p : Nat) : Path := Tab.get Path.reset s.dict.paths p

/-- Change path `p`. -/
def State.modPath (s : State) (p : Nat) (g : Path → Path) : State :=
  { s with dict := { s.dict with paths := Tab.modify Path.reset s.dict.paths p g } }

/-- Session context `n`. -/
def State.session (s : State) (n : Nat) : Session := Tab.get Session.reset s.dict.sessions n

/-- Change session context `n`. -/
def State.modSession (s : State) (n : Nat) (g : Session → Session) : State :=
  { s with dict := { s.dict with sessions := Tab.modify Session.reset s.dict.sessions n g } }

/-- Put something outside the device. -/
def State.emit (s : State) (o : Out) : State := { s with out := s.out ++ [o] }

/-- The next free value, and the counter stepped (log 1). -/
def State.draw (s : State) : DWord × State := (Config.free s.fresh, { s with fresh := s.fresh + 1 })

/-! ### Time -/

/-- The time an entry records: DC time in ns while distributed clocks run, otherwise pour ticks (R674, R684). -/
def State.now (s : State) : DWord := if s.dcRunning then s.dcTime else s.power.pour

/-- One pour tick passes: POUR_COUNT steps (R748) and the system time advances by 6.25 ns (R721). -/
def State.tick (s : State) : State :=
  let q := s.dcQuarter + 1
  { s with
    power := { s.power with pour := if s.power.pllLocked then s.power.pour + 1 else s.power.pour }
    dcTime := if s.dcRunning then s.dcTime + 6 + BitVec.ofNat 64 (q / 4) else s.dcTime
    dcQuarter := if s.dcRunning then q % 4 else s.dcQuarter }

/-- `n` pour ticks pass. -/
def State.ticks : Nat → State → State
  | 0, s => s
  | n + 1, s => State.ticks n s.tick

/-! ### Errors and recoveries -/

/-- Word 4 of a log entry: OBJ_KIND and OBJ_ID (R684). -/
def objWord (kind oid : Nat) : Word := BitVec.ofNat 32 ((kind % 256) * 2 ^ 24 + oid % 2 ^ 24)

/-- The intake with another error: those of one CLK_MGT cycle stand in ascending order of code (R680). -/
def enterIntake (c : ChillState) (e : ErrRep) : List ErrRep :=
  let now := c.intake.drop c.settled
  c.intake.take c.settled ++ now.takeWhile (fun x => x.code ≤ e.code) ++ [e] ++ now.dropWhile (fun x => x.code ≤ e.code)

/-- Report an error to the log intake (R680): its class counter steps; a full intake counts it as lost, and a lost
error of class 3 or 4 stays unacknowledged with the SEQ the next entry will take (R686). -/
def report (e : ErrRep) (s : State) : State :=
  let c := s.chill
  let cls := e.code / 4096
  let c := { c with
    class1 := if cls = 1 then c.class1 + 1 else c.class1
    class2 := if cls = 2 then c.class2 + 1 else c.class2
    class3 := if cls = 3 then c.class3 + 1 else c.class3
    class4 := if cls = 4 then c.class4 + 1 else c.class4 }
  if c.intake.length < 64 then { s with chill := { c with intake := enterIntake c e } }
  else { s with chill := { c with
    lost := c.lost + 1
    unlogged := c.unlogged ++ [e]
    unackLost := if 3 ≤ cls then c.unackLost ++ [c.head] else c.unackLost } }

/-- Report with the fields named. -/
def reportAt (code kind oid : Nat) (aux : Word) (detail : DWord) (s : State) : State :=
  report { code := code, kind := kind, oid := oid, aux := aux, detail := detail } s

/-- An object whose recovery from an earlier fault has not completed (R28, R691). -/
def State.recovering (s : State) (kind oid : Nat) : Bool := s.chill.ongoing.any (fun r => r.obj = objWord kind oid)

/-- Report an error whose recovery goes on beyond its log entry (R689): it counts in REC_ACTIVE until it completes. -/
def reportRecovering (e : ErrRep) (s : State) : State :=
  let k := s.chill.recoveries + 1
  let s := report { e with recovery := k } s
  { s with chill := { s.chill with
    recoveries := k
    ongoing := s.chill.ongoing ++ [{ serial := k, code := e.code, obj := objWord e.kind e.oid }] } }

/-- Close the record of recovery `k` while it is ACTIVE, as DONE or FAILED (R689, R690). -/
def closeRecord (k : Nat) (good : Bool) (r : RecSlot) : RecSlot :=
  if r.st = .active && r.serial = k then { r with st := if good then .done else .failed } else r

/-- The oldest recovery of a code and object completes, or fails: REC_ACTIVE falls, and its record closes, or its entry to come opens no ACTIVE one. -/
def recoveryEnds (code kind oid : Nat) (good : Bool) (s : State) : State :=
  match s.chill.ongoing.find? (fun r => r.code = code && r.obj = objWord kind oid) with
  | some r =>
    { s with chill := { s.chill with
      ongoing := s.chill.ongoing.erase r
      intake := s.chill.intake.map (fun e => if e.recovery = r.serial then { e with failed := !good } else e)
      recs := Tab.mapVals RecSlot.reset (fun _ x => closeRecord r.serial good x) s.chill.recs } }
  | none => s

/-- SEQ `a` is after SEQ `b` (R681). -/
def seqAfter (a b : Word) : Bool := 1 ≤ (a - b).toNat && (a - b).toNat < 2 ^ 31

/-- A chill cause falls on the next pour tick (R670, R672): bits 0 FIRE, 1 FIRE_AT, 2 TRIG_IN, 3 SYNC1, 4 fabric, 5 error. -/
def chillDue (bit : Nat) (s : State) : State :=
  { s with chill := { s.chill with due := s.chill.due ||| BitVec.ofNat 8 (2 ^ bit) } }

/-- A FIRE_AT is due at this tick (R671). -/
def fireAtDue (s : State) : Bool := s.chill.fireAt && s.dcRunning && decide (s.chill.fireTime.toNat ≤ s.dcTime.toNat)

/-- The causes of the chill of this tick (R670, R672). -/
def chillCauses (s : State) : BitVec 8 := s.chill.due ||| (if fireAtDue s then 2 else 0)

/-- A pour tick may begin whose state no chill is still to take: there are ticks only while the PLL is locked (R19), and the chill of a tick
takes the state at its start, before what else the tick does (R133, R668). -/
def State.tickFree (s : State) : Bool := s.power.pllLocked && chillCauses s = 0

/-! ### Stored dictionary values -/

/-- The key of an entry: the object a window's selector names (0 for an entry of its own), index and subindex. -/
def entryKey (obj idx sub : Nat) : Nat := obj * 2 ^ 24 + idx * 256 + sub

/-- The stored value of an entry of object `obj`. -/
def State.settingOf (s : State) (obj idx sub : Nat) : DWord :=
  Tab.get (entryDefault idx sub) s.dict.settings (entryKey obj idx sub)

/-- The stored value of an entry. -/
def State.setting (s : State) (idx sub : Nat) : DWord := s.settingOf 0 idx sub

/-- The same as a word. -/
def State.settingW (s : State) (idx sub : Nat) : Word := (s.setting idx sub).setWidth 32

/-- The same as a number. -/
def State.settingN (s : State) (idx sub : Nat) : Nat := (s.setting idx sub).toNat

/-- Store a value of an entry of object `obj`. -/
def State.putSettingOf (s : State) (obj idx sub : Nat) (v : DWord) : State :=
  { s with dict := { s.dict with
    settings := Tab.set (entryDefault idx sub) s.dict.settings (entryKey obj idx sub) v } }

/-- Store a value of an entry. -/
def State.putSetting (s : State) (idx sub : Nat) (v : DWord) : State := s.putSettingOf 0 idx sub v

/-- Entries of whole indices return to their defaults. -/
def State.clearSettings (s : State) (lo hi : Nat) : State :=
  { s with dict := { s.dict with
    settings := s.dict.settings.filter (fun e =>
      let idx := e.1 / 256 % 65536
      decide (idx < lo) || decide (hi < idx)) } }

/-- A selector or path-relative value of one path (R629, R630). -/
def State.selector (s : State) (path idx sub : Nat) : Nat :=
  (Tab.get 0 s.dict.perPath (entryKey path idx sub)).toNat

/-- Write a selector or path-relative value. -/
def State.putSelector (s : State) (path idx sub : Nat) (v : DWord) : State :=
  { s with dict := { s.dict with perPath := Tab.set 0 s.dict.perPath (entryKey path idx sub) v } }

/-! ### Packets -/

/-- A destination the gate has yet to resolve from the address (R373). -/
abbrev unresolved : Nat := 127

/-- A packet of an initiator before injection: no tag, no look-ahead port. -/
def mkPacket (src dest oclass tc : Nat) (b : Body) : Packet :=
  { dest := dest, src := src, oclass := oclass, tag := 0, tc := tc, la := 15, who := 0, body := b }

/-- Hand a request to an initiator's gate, behind those that wait (R401). -/
def State.request (s : State) (src dest oclass tc : Nat) (b : Body) : State :=
  s.modGate src (fun g => { g with waiting := g.waiting ++ [mkPacket src dest oclass tc b] })

/-- The same of a request that `who` marks inside its block. -/
def State.requestBy (s : State) (who src dest oclass tc : Nat) (b : Body) : State :=
  s.modGate src (fun g => { g with waiting := g.waiting ++ [{ mkPacket src dest oclass tc b with who := who }] })

/-- The router a node's own link enters: row runners for flask gates, the concentrators, or the sprue (R370, R371).
Flask gates hold logical flasks, which lie in row `k div 8`, or the row's spare. -/
def entryRouter (node : Nat) : Nat :=
  if node < 64 then node / 8
  else if node < 72 then node - 64
  else if node ≤ 80 then 11
  else if node = 81 then 10
  else if node ≤ 87 then 12
  else 10

/-- A packet of a node, waiting to enter the link to its router. -/
def sourceFlight (src : Nat) (pkt : Packet) : Flight :=
  { at' := entryRouter src, inp := nodeInput src, pkt := pkt, place := .source, here := flitCount pkt.body }

/-- Send a response-class packet, which no regulator holds back (R400): it waits at its node for its link's credits. -/
def State.answer (s : State) (src dest oclass tag : Nat) (b : Body) : State :=
  { s with net := { s.net with wire := s.net.wire ++ [sourceFlight src { mkPacket src dest oclass 0 b with tag := tag }] } }

/-- An answer that a gate has delivered to the part of its block that `who` marks. -/
def State.answered (s : State) (i who : Nat) (b : Body) : Bool := (s.gate i).answers.any (fun p => p.who = who && p.body = b)

/-- It is taken. -/
def State.takeAnswer (s : State) (i who : Nat) (b : Body) : State :=
  s.modGate i (fun g => { g with answers := g.answers.eraseP (fun p => p.who = who && p.body = b) })

/-! ### Dictionary commands -/

/-- Aborts of R625, R626 and R643. -/
abbrev abortNoIndex : Word := 0x06020000#32
abbrev abortNoSub : Word := 0x06090011#32
abbrev abortReadWo : Word := 0x06010001#32
abbrev abortWriteRo : Word := 0x06010002#32
abbrev abortLevel : Word := 0x06008A01#32
abbrev abortLength : Word := 0x06070010#32
abbrev abortAbove : Word := 0x06090031#32
abbrev abortBelow : Word := 0x06090032#32
abbrev abortValue : Word := 0x06090030#32
abbrev abortKeyLock : Word := 0x08000021#32
abbrev abortState : Word := 0x08000022#32
abbrev abortStopped : Word := 0x08000000#32
abbrev abortDamaged : Word := 0x08000020#32

/-- The CoE mailbox path and the process-data path (R627). -/
abbrev coePath : Nat := 0x7F
abbrev pdoPath : Nat := 0x7E

/-- The level a path holds (R639). -/
def State.level (s : State) (path : Nat) : Nat :=
  if path = pdoPath then 1 else
  let n := (s.path path).session
  if n = 0 then 0 else (s.session n).level

/-- The base of the dictionary window of the runner network (R373, R627) and the address of an entry's slot in it (R14). -/
abbrev dictWindow : Nat := 0x400000000000
def slotAddr (idx sub : Nat) : Nat := dictWindow + idx * 1024 + sub * 4

/-- A request of the runner window names the slot, or the upper slot after it. -/
def slotRequest (idx sub : Nat) (read : Bool) (b : Body) : Bool :=
  match b with
  | .rd a _ => read && (a = slotAddr idx sub || a = slotAddr idx (sub + 1))
  | .wr a _ _ _ => !read && (a = slotAddr idx sub || a = slotAddr idx (sub + 1))
  | _ => false

/-- An access of a runner initiator comes as a request of its gate to node 90 (R627): the oldest of that initiator, where it names the
entry's lower or upper slot, leaves the network and is answered. The host's mirror and the mailbox bring none. -/
def netReply (path idx sub : Nat) (read : Bool) (b : Body) (s : State) : State :=
  if 88 ≤ path then s else
  match s.net.front 90 path 0 0 with
  | none => s
  | some f =>
    if slotRequest idx sub read f.pkt.body then ({ s with net := s.net.drop f } : State).answer 90 path f.pkt.oclass f.pkt.tag b else s

/-- The answer to a write of the runner window. -/
def netWack (path idx sub : Nat) (s : State) : State := netReply path idx sub false (.wack .ok false) s

/-- Record a refusal: an SDO abort to the master, or PATH_ABORT, PATH_ABORT_AT and PATH_REFUSED (R633, R636). -/
def refuse (path idx sub : Nat) (code : Word) (s : State) : State :=
  if path = coePath then s.emit (.sdoAbort idx sub code)
  else (netWack path idx sub s).modPath path (fun p =>
    { p with
      abort := if p.abort = 0 then code else p.abort
      abortAt := if p.abort = 0 then BitVec.ofNat 32 (idx * 256 + sub) else p.abortAt
      refused := p.refused + 1 })

/-- An accepted write is answered on the mailbox after it is applied (R633). -/
def accept (path idx sub : Nat) (s : State) : State :=
  if path = coePath then s.emit (.sdoOk idx sub) else netWack path idx sub s

/-- An access of a path: the idle time starts again (R645), a held lower half is discarded and refused (R634), and a string stream ends
(R635). -/
def touch (path : Nat) (s : State) : State :=
  let s := match (s.path path).held with
    | some (key, _) => refuse path (key / 256) (key % 256) abortLength s
    | none => s
  s.modPath path (fun p => { p with held := none, stream := none, lastAccess := s.power.pour })

/-- A read of a path also ends a latched upper half (R634). -/
def touchRead (path : Nat) (s : State) : State := (touch path s).modPath path (fun p => { p with latch := none })

/-- The low `n` bytes of a value, lowest first. -/
def valueBytes : Nat → DWord → List Byte
  | 0, _ => []
  | n + 1, v => v.setWidth 8 :: valueBytes n (v >>> 8)

/-- A value goes back over the mirror or the runner window (R634). -/
def busAnswer (path idx sub : Nat) (v : DWord) (s : State) : State :=
  (netReply path idx sub true (.rdata .ok [{ d := v.setWidth 32, p := false }]) s).emit (.busRead path v)

/-- Answer a read of an entry of `size` bytes: an SDO upload's data, or the bus read's value (R631, R634). -/
def answerRead (path idx sub size : Nat) (v : DWord) (s : State) : State :=
  if path = coePath then s.emit (.sdoData idx sub (valueBytes size v)) else busAnswer path idx sub v s

/-- A refused read: an SDO abort, or ones and the refusal recorded (R636). -/
def refuseRead (path idx sub : Nat) (code : Word) (s : State) : State :=
  let s := refuse path idx sub code s
  if path = coePath then s else busAnswer path idx sub 0xFFFFFFFF s

/-- The power domain that holds the block of an index (R753). -/
def domainOf (idx : Nat) : Nat :=
  if 0x4000 ≤ idx && idx ≤ 0x4047 then idx - 0x4000
  else if 0x4100 ≤ idx && idx ≤ 0x4147 then idx - 0x4100
  else if 0x3500 ≤ idx && idx < 0x35C0 then 72 + (idx - 0x3500) / 32
  else if 0x35C0 ≤ idx && idx < 0x35CC then 72 + (idx - 0x35C0) / 2
  else if 0x3400 ≤ idx && idx ≤ 0x340F then 86
  else if (0x3000 ≤ idx && idx ≤ 0x3FFF) || idx = 0x4200 || (0x2600 ≤ idx && idx ≤ 0x26FF) then 87
  else 88

/-- A domain runs: management always, any other while it is ON and the PLL is locked (R749, R755, R759). -/
def State.domOn (s : State) (d : Nat) : Bool := d = 88 || ((s.dom d).st = .on && s.power.pllLocked)

/-- The block of an index takes writes: its domain runs, and a full image has been released where the block is held in reset until then
(R616, R759, R765, log 17). -/
def State.entryUp (s : State) (idx : Nat) : Bool := s.domOn (domainOf idx) && (idx < 0x3000 || 0x6000 ≤ idx || s.loader.released)

/-- An entry can be read: its block is powered (R765, log 17); FLASK_STATUS reads OFF of a flask that is not (R757). -/
def State.entryReads (s : State) (idx sub : Nat) : Bool :=
  s.domOn (domainOf idx) || (0x4000 ≤ idx && idx < 0x4048 && sub = 1 && s.domOn 87)

/-- The session of a path has a COMMITTING transaction (R657). -/
def State.committing (s : State) (path : Nat) : Bool :=
  let n := (s.path path).session
  n ≠ 0 && (s.session n).txSt = .committing

/-- The access of a path reaches the agent: the mailbox runs in every AL state but INIT (R722), the host's link is up (R704), a ladle
core has power (R627); process data carry no other access. -/
def State.reaches (s : State) (path : Nat) : Bool :=
  if path = coePath then s.ecat.al ≠ .init
  else if path = 88 then s.pcie.linkUp && s.domOn 87
  else if 72 ≤ path && path < 80 then s.domOn 86
  else path ≠ pdoPath

/-- The paths that the agent serves (R627). -/
def pathOk (path : Nat) : Bool := path = coePath || (72 ≤ path && path < 80) || path = 88

/-- The checks 1 and 2 of R625. -/
def entryFault (idx sub : Nat) : Option Word :=
  if (findEntry idx sub).isSome || (sub = 0 && indexExists idx) then none
  else if indexExists idx then some abortNoSub else some abortNoIndex

/-- What every access meets before its own checks: the agent answers (R667), serves the path (R627), the entry exists and the level is
held (checks 1, 2 and 4 of R625). -/
def State.gateCheck (s : State) (path idx sub level : Nat) : Option Word :=
  if s.dict.stopped then some abortStopped
  else if !pathOk path then some abortLevel
  else match entryFault idx sub with
    | some code => some code
    | none => if s.level path < level then some abortLevel else none

/-- In BOOT the mailbox reaches only 0x2000 to 0x22FF (R722). -/
def State.bootBars (s : State) (path idx : Nat) : Bool := path = coePath && s.ecat.al = .boot && !(0x2000 ≤ idx && idx ≤ 0x22FF)

/-- Check 9 for a write, beyond what its own rules say: the block is powered (R765, log 17), the session is not COMMITTING (R657), and
BOOT lets the index through. -/
def State.fits (s : State) (path idx : Nat) : Bool := !s.committing path && s.entryUp idx && !s.bootBars path idx

/-- A dictionary command, its value already taken apart: the checks every access meets, then the command's own checks and effect in
`act`, and what else check 9 asks for. An access that does not reach the agent is none. -/
def dictCommand (path idx sub level : Nat) (act : State → Except Word State) (s0 : State) : Result :=
  if !s0.reaches path then .next s0 else
  let s := touch path s0
  match s.gateCheck path idx sub level with
  | some code => .next (refuse path idx sub code s)
  | none => match act s with
    | .error code => .next (refuse path idx sub code s)
    | .ok s' => if s.fits path idx then .next (accept path idx sub s') else .next (refuse path idx sub abortState s)

/-- The session of a path has an OPEN transaction (R649). -/
def State.staging (s : State) (path : Nat) : Bool :=
  let n := (s.path path).session
  n ≠ 0 && (s.session n).txSt = .opened

/-- Abort of a staged write beyond the 1,024 a transaction holds (R651). -/
abbrev abortStaged : Word := 0x06008A06#32

/-- A write of a transactable entry (R649-R651): with the checks of its value passed, it is staged while the session's
transaction is OPEN, for the object the selector names now (R213, R629), and applied by `act` otherwise. -/
def rwtCommand (path obj idx sub level : Nat) (v : DWord) (bad : Option Word) (act : State → Except Word State) (s0 : State) :
    Result :=
  let s := touch path s0
  if s0.reaches path && (s.gateCheck path idx sub level).isNone && bad.isNone && s.staging path && !s.bootBars path idx then
    let n := (s.path path).session
    if 1024 ≤ (s.session n).staged.length then .next (refuse path idx sub abortStaged s)
    else .next (accept path idx sub (s.modSession n (fun x =>
      { x with staged := x.staged ++ [{ obj := obj, idx := idx, sub := sub, value := v }] })))
  else dictCommand path idx sub level (fun s => match bad with
    | some code => .error code
    | none => act s) s0

/-- A read through the dictionary: the checks every access meets, the block is powered (log 17), then `act` gives the value or an abort. -/
def dictRead (path idx sub level size : Nat) (act : State → Except Word (DWord × State)) (s0 : State) : Result :=
  if !s0.reaches path then .next s0 else
  let s := touchRead path s0
  match s.gateCheck path idx sub level with
  | some code => .next (refuseRead path idx sub code s)
  | none =>
    if !s.entryReads idx sub || s.bootBars path idx then .next (refuseRead path idx sub abortState s)
    else match act s with
      | .error code => .next (refuseRead path idx sub code s)
      | .ok (v, s') => .next (answerRead path idx sub size v s')

/-- Refuse under R626 unless a condition holds. -/
def need {α : Type} (c : Bool) (code : Word) (k : Except Word α) : Except Word α := if c then k else .error code

/-! ### Catch memory contents -/

/-- A word that nothing has written holds the free contents of log 7, without poison. -/
def State.dramWord (s : State) (w : Nat) : NWord :=
  match Tab.get none s.dram w with
  | some v => v
  | none => { d := Config.dramInit w, p := false }

/-- Write one word. -/
def State.dramPut (s : State) (w : Nat) (v : NWord) : State := { s with dram := Tab.set none s.dram w (some v) }

/-- `n` words from word number `w`. -/
def State.dramRead (s : State) (w : Nat) : Nat → List NWord
  | 0 => []
  | n + 1 => s.dramWord w :: s.dramRead (w + 1) n

/-- Write words from word number `w`. -/
def State.dramWrite (s : State) (w : Nat) : List NWord → State
  | [] => s
  | v :: vs => (s.dramPut w v).dramWrite (w + 1) vs

end Sys2Proof.Machine
end

