-- ==== Sys2Proof/Machine/CatchMap.lean ====
section
/-! DEFINITION. The catch address map (R427-R431) and reads and writes of catch memory through it. -/

namespace Sys2Proof.Machine

/-- A window covers an address and is enabled. -/
def windowCovers (s : State) (w a : Nat) : Bool :=
  let c := s.settingW (0x3180 + w) 1
  let base := (c.extractLsb' 0 12).toNat * 2 ^ 30
  c.getLsbD 31 && decide (base ≤ a) && decide (a < base + (c.extractLsb' 13 13).toNat * 2 ^ 30)

/-- The enabled window that covers an address. -/
def windowOf (s : State) (a : Nat) : Option Nat := (List.range 16).find? (fun w => windowCovers s w a)

/-- The shift of the interleave unit: 64 B, 256 B or 4 KiB. -/
def granShift (g : Nat) : Nat := if g = 0 then 6 else if g = 1 then 8 else 12

/-- Channel and channel-local byte address of a catch address in window `w` (R428). -/
def mapIn (s : State) (w a : Nat) : Nat × Nat :=
  let c := s.settingW (0x3180 + w) 1
  let g := granShift (c.extractLsb' 29 2).toNat
  let wl := (c.extractLsb' 27 2).toNat
  let o := a - (c.extractLsb' 0 12).toNat * 2 ^ 30
  let u := o / 2 ^ g
  let way := u % 2 ^ wl
  let ch := ((s.settingW (0x3180 + w) 2).toNat / 2 ^ (3 * way)) % 8
  let loc := (s.settingN (0x3180 + w) 3 % 1024) * 2 ^ 30
  (ch, loc + u / 2 ^ wl * 2 ^ g + o % 2 ^ g)

/-- Channel and channel-local byte address of a catch address; none where no enabled window covers it (R431). -/
def catchMap (s : State) (a : Nat) : Option (Nat × Nat) := (windowOf s a).map (fun w => mapIn s w a)

/-- The key of a channel-local word in the stored contents: 2^37 words a channel (512 GiB, R417). -/
def dramKey (ch localAddr : Nat) : Nat := ch * 2 ^ 37 + localAddr / 4

/-- Channel `n`, and changes to it and to the controller. -/
def State.chan (s : State) (n : Nat) : Channel := Tab.get Channel.reset s.catch'.chans n
def State.modCatch (s : State) (g : CatchState → CatchState) : State := { s with catch' := g s.catch' }
def State.modChan (s : State) (n : Nat) (g : Channel → Channel) : State :=
  s.modCatch (fun c => { c with chans := Tab.modify Channel.reset c.chans n g })

/-- The channel serves requests (R407): ONLINE or DRAINING, with the core domain and its PHY powered. -/
def State.chanServes (s : State) (n : Nat) : Bool :=
  s.domOn 87 && s.domOn (78 + n) && n < 8 && ((s.chan n).st = .online || (s.chan n).st = .draining)

/-- The word at a catch address, for an access whose packets are not shown (log 24): poison where no window covers it or its channel does not
serve, as a read answered NOROUTE or OFFLINE delivers it (R393, R407). -/
def catchWord (s : State) (a : Nat) : NWord :=
  match catchMap s a with
  | some (ch, l) => if s.chanServes ch then s.dramWord (dramKey ch l) else { d := 0, p := true }
  | none => { d := 0, p := true }

/-- Write the word at a catch address; a write no window covers has no effect (R431), nor has one to a channel that does not serve (R407). -/
def catchPut (s : State) (a : Nat) (v : NWord) : State :=
  match catchMap s a with
  | some (ch, l) => if s.chanServes ch then s.dramPut (dramKey ch l) v else s
  | none => s

/-- `n` words from a word-aligned catch address. -/
def catchRead (s : State) (a : Nat) : Nat → List NWord
  | 0 => []
  | n + 1 => catchWord s a :: catchRead s (a + 4) n

/-- Write words from a word-aligned catch address. -/
def catchWrite (s : State) (a : Nat) : List NWord → State
  | [] => s
  | v :: vs => catchWrite (catchPut s a v) (a + 4) vs

/-- A 64-bit value of two words, low word first; poisoned where either is. -/
def catchDWord (s : State) (a : Nat) : DWord := (catchWord s (a + 4)).d ++ (catchWord s a).d

end Sys2Proof.Machine
end

