-- ==== Sys2Proof/Machine/NetOps.lean ====
section
/-! DEFINITION. What the blocks use of the runner network: where a node sits, the default routes, closing and opening
ports, and a producer's gate (R223, R224, R232, R258, R370-R372, R383, R404). -/

namespace Sys2Proof.Machine

/-- The default physical flask of logical flask `k` (R141). -/
def lmapDefault (k : Nat) : Nat := 9 * (k / 8) + k % 8

/-- The physical flask that holds logical flask `k`. -/
def State.physOf (s : State) (k : Nat) : Nat := Tab.get (lmapDefault k) s.lmap k

/-- The logical flask that physical flask `p` holds, if it holds one. -/
def State.logicalOf (s : State) (p : Nat) : Option Nat :=
  ((List.range 8).map (fun i => 8 * (p / 9) + i)).find? (fun k => s.physOf k = p)

/-- The node ID of physical flask `p`'s gate (R371, R372). -/
def State.flaskNode (s : State) (p : Nat) : Nat :=
  match s.logicalOf p with
  | some k => k
  | none => 64 + p / 9

/-- The physical flask behind a flask gate's node ID. -/
def State.nodeFlask (s : State) (i : Nat) : Nat :=
  if i < 64 then s.physOf i
  else ((List.range 9).map (fun x => 9 * (i - 64) + x)).find? (fun p => (s.logicalOf p).isNone) |>.getD (9 * (i - 64) + 8)

/-- The router and port toward a node (R370, R371, R413). -/
def State.nodePort (s : State) (i : Nat) : Nat × Nat :=
  if i < 72 then let p := s.nodeFlask i; (p / 9, p % 9)
  else if i < 80 then (11, i - 71)
  else if i = 80 then (11, 0)
  else if i = 81 then (10, 10)
  else if i < 88 then (11, 9 + (i - 82))
  else if i = 88 then (10, 12)
  else if i = 89 then (10, 14)
  else if i = 90 then (10, 15)
  else (10, 2 + (i - 96))

/-- The state of a router port. -/
def State.port (s : State) (r n : Nat) : PortSt := Tab.get .opened (s.router r).ports n

/-- Set the state of a router port. -/
def State.setPort (s : State) (r n : Nat) (p : PortSt) : State :=
  s.modRouter r (fun x => { x with ports := Tab.set .opened x.ports n p })

/-- An OPEN port begins to close (R404); a port in another state stays as it is. -/
def closePort (r n : Nat) (s : State) : State :=
  match s.port r n with
  | .opened => (s.setPort r n .closing).modRouter r (fun x => { x with closeLogged := x.closeLogged.erase n })
  | _ => s

/-- The node behind a port, by the dictionary's number. -/
def State.portNode (s : State) (r n : Nat) : Nat :=
  if r < 8 then s.flaskNode (9 * r + n)
  else if r = 11 then (if n = 0 then 80 else if n < 9 then 71 + n else 73 + n)
  else if n < 10 then 94 + n
  else if n = 10 then 81
  else if n = 12 then 88
  else if n = 14 then 89
  else 90

/-- A port begins to open: its bridge is emptied and its hop credits are set to the buffer depths (R404). -/
def linkFresh (node : Nat) (s : State) : State :=
  let keys := [0, 1].flatMap (fun vc => [linkKey 13 node vc, linkKey (entryRouter node) (nodeInput node) vc])
  let mine (f : Flight) : Bool := (flightStores f).any (fun e => keys.contains e.1 || keys.any (fun k => e.1 = bridgeKey k))
  let n := (s.net.wire.filter mine).foldl RunnerState.drop s.net
  { s with net := { n with credits := keys.foldl (fun t k => Tab.set (linkDepth k) t k (linkDepth k)) n.credits } }

/-- A CLOSED port begins to open (R404): its domain is up, or a partial image names its flask. -/
def openPort (r n : Nat) (s : State) : State :=
  match s.port r n with
  | .closed => linkFresh (s.portNode r n) (s.setPort r n .opening)
  | _ => s

/-- The router ports toward the blocks of a power domain (R370, R753). -/
def domainPorts (d : Nat) : List (Nat × Nat) :=
  if d < 72 then [(d / 9, d % 9)]
  else if d < 78 then [(11, 9 + (d - 72))]
  else if d < 86 then []
  else if d = 86 then (List.range 8).map (fun n => (11, 1 + n))
  else []

/-- The address a packet carries. -/
def packetAddr (b : Body) : Nat :=
  match b with
  | .rd a _ => a
  | .wr a _ _ _ => a
  | .fold a _ _ => a
  | _ => 0

/-! ### Data words at their endpoint (R398) -/

/-- The data words of a packet at their endpoint: an uncorrectable one is delivered, or written, with poison (R31, R398). -/
def poisonWords (bad : List Nat) (ws : List NWord) : List NWord := (ws.zipIdx).map (fun e => { e.1 with p := e.1.p || bad.contains e.2 })
def poisonBody (bad : List Nat) (b : Body) : Body :=
  match b with
  | .rdata st ws => .rdata st (poisonWords bad ws)
  | .wr a f l ws => .wr a f l (poisonWords bad ws)
  | .fold a c ws => .fold a c (poisonWords bad ws)
  | .push q sop ws => .push q sop ((ws.zipIdx).map (fun e => { e.1 with p := e.1.p || bad.contains e.2 }))
  | .popResp st ws => .popResp st ((ws.zipIdx).map (fun e => { e.1 with p := e.1.p || bad.contains e.2 }))
  | _ => b

/-- Report an error of initiator `i`, or of an endpoint by its node, about a transaction (R685). -/
def reportGate (code i dest addr : Nat) (s : State) : State := reportAt code 9 i (BitVec.ofNat 32 dest) (BitVec.ofNat 64 addr) s

/-- The endpoint's data checks: corrected words count and are logged, so are uncorrectable ones. -/
def dataChecks (i dest addr corrected bad : Nat) (s : State) : State :=
  let s := if corrected = 0 then s
    else (reportGate 0x1602 i dest addr s).modNet (fun n => { n with dataCorrected := n.dataCorrected + BitVec.ofNat 32 corrected })
  if bad = 0 then s else (reportGate 0x3602 i dest addr s).modNet (fun n => { n with dataPoisoned := n.dataPoisoned + BitVec.ofNat 32 bad })

/-! ### A producer's gate -/

/-- What gate `i` holds for queue `q`. -/
def State.producer (s : State) (i q : Nat) : Producer := Tab.get Producer.reset (s.gate i).prod q

/-- Change it. -/
def State.modProducer (s : State) (i q : Nat) (g : Producer → Producer) : State :=
  s.modGate i (fun x => { x with prod := Tab.modify Producer.reset x.prod q g })

/-- The node of the tundish. -/
abbrev tundishNode : Nat := 81

/-- Whether a list of words leaves a packet open, given whether one was open before. -/
def leavesOpen (mid : Bool) (ws : List QWord) : Bool :=
  match ws.getLast? with
  | some w => !w.l
  | none => mid

/-- The traffic class of an initiator's queue messages (R402, R707): of the endpoint's, those of a DMA engine's completion queue go in TC1, the
host's in TC2. -/
def gateClass (s : State) (i q : Nat) : Nat :=
  if i ≠ 88 then 0
  else if (List.range 64).any (fun e =>
      let d := Tab.get Dma.reset s.pcie.engines e
      (d.en || d.desc.isSome) && (s.settingOf e 0x2610 2).toNat % 2 ^ 18 = q) then 1
  else 2

/-- Send the words gathered for a queue, up to 16, as one PUSH with SOP under R232. -/
def gateSend (i q : Nat) (s : State) : State :=
  let p := s.producer i q
  let ws := p.gather.take 16
  if ws.isEmpty then s else
  let s := s.modProducer i q (fun p => { p with midPacket := leavesOpen p.midPacket ws, gather := p.gather.drop 16 })
  s.request i tundishNode 0 (gateClass s i q) (.push q (!p.midPacket) ws)

/-- A word is handed to the gate for a queue: it uses one credit and joins the words gathered, which leave in a PUSH once there are 16
(R224, R258). -/
def gatePush (i q : Nat) (w : QWord) (s : State) : State :=
  let s := s.modProducer i q (fun p => { p with credits := p.credits - 1, gather := p.gather ++ [w] })
  if 16 ≤ (s.producer i q).gather.length then gateSend i q s else s

/-- Send REWIND for a queue: the next word begins a packet (R232). -/
def gateRewind (i q : Nat) (s : State) : State :=
  (s.modProducer i q (fun p => { p with midPacket := false })).request i tundishNode 0 (gateClass s i q) (.rewind q)

/-- A stopping gate sends what it gathered and REWIND for every queue in which it has an open packet (R406). -/
def gateAbandonOne (i : Nat) (s : State) (q : Nat) : State :=
  let s := gateSend i q s
  if (s.producer i q).midPacket then gateRewind i q s else s

/-- The same for every queue of the gate. -/
def gateAbandon (i : Nat) (s : State) : State :=
  ((s.gate i).prod.map (·.1)).foldl (gateAbandonOne i) s

/-- The power domain of an initiator's own block. -/
def State.nodeDomain (s : State) (i : Nat) : Nat :=
  if i < 72 then s.nodeFlask i
  else if i < 80 then 86
  else if 82 ≤ i && i < 88 then 72 + (i - 82)
  else if i = 89 || i = 90 then 88
  else 87

end Sys2Proof.Machine
end

