-- ==== Sys2Proof/Machine/Operands.lean ====
section
/-! DEFINITION. Operand forms of the fabric: the cell configuration word (R59), the sources of operands (R60), illegal
words (R58), block memory port words (R74), and which words can move in a cycle (R40, R62). Registers are numbered: cell
outputs 0-63, quad tracks 64-127, long lines 128-135, read-data registers 136-139, boundary buffer heads
144 + 8·side + lane, crucible stream outputs 176-179; 255 stands for an operand that is not routed. -/

namespace Sys2Proof.Machine

/-! ### Cell configuration words -/

/-- OPC. -/
def cfgOpc (w : DWord) : Nat := (w.extractLsb' 58 6).toNat
/-- SRC_A and IXA. -/
def cfgSrcA (w : DWord) : Nat := (w.extractLsb' 54 4).toNat
def cfgIxA (w : DWord) : Nat := (w.extractLsb' 51 3).toNat
/-- SRC_B and IXB. -/
def cfgSrcB (w : DWord) : Nat := (w.extractLsb' 47 4).toNat
def cfgIxB (w : DWord) : Nat := (w.extractLsb' 44 3).toNat
/-- CIN_SEL, TAG_B, IDLE_PASS. -/
def cfgCin (w : DWord) : Nat := (w.extractLsb' 42 2).toNat
def cfgTagB (w : DWord) : Bool := w.getLsbD 41
def cfgIdlePass (w : DWord) : Bool := w.getLsbD 40
/-- KWE, KDST, SWE, SDST. -/
def cfgKwe (w : DWord) : Bool := w.getLsbD 39
def cfgKdst (w : DWord) : Nat := (w.extractLsb' 36 3).toNat
def cfgSwe (w : DWord) : Bool := w.getLsbD 35
def cfgSdst (w : DWord) : Nat := (w.extractLsb' 33 2).toNat
/-- DRV_LH, DRV_LV, KM. -/
def cfgDrvH (w : DWord) : Bool := w.getLsbD 32
def cfgDrvV (w : DWord) : Bool := w.getLsbD 31
def cfgKm (w : DWord) : Nat := (w.extractLsb' 28 3).toNat
/-- IMM and its extension by IMM_SX. -/
def cfgImm (w : DWord) : BitVec 16 := w.extractLsb' 0 16
def cfgImmWord (w : DWord) : Word := if w.getLsbD 27 then (cfgImm w).signExtend 32 else (cfgImm w).setWidth 32

/-- The operation uses operand A, or B (R45). -/
def opUsesA (opc : Nat) : Bool := 1 ≤ opc && opc ≤ 0x20
def opUsesB (opc : Nat) : Bool :=
  (2 ≤ opc && opc ≤ 0xC) || opc = 0xF || (0x12 ≤ opc && opc ≤ 0x1C) || (0x1E ≤ opc && opc ≤ 0x21)

/-- The configuration word of cell `c`. -/
def Ctx.cell (x : Ctx) (c : Nat) : DWord := Tab.get 0 x.cells c

/-- ADD or SUB. -/
def isAddSub (opc : Nat) : Bool := opc = 2 || opc = 3

/-- An ADD or SUB whose carry in comes from the west chain. -/
def isChained (x : Ctx) (c : Nat) : Bool := isAddSub (cfgOpc (x.cell c)) && cfgCin (x.cell c) = 2

/-- The westmost member of the carry-chain group that reaches column `col` of a row: going west while a cell takes the west chain from an
ADD or SUB (R55). -/
def chainHead (x : Ctx) (row : Nat) : Nat → Nat
  | 0 => 8 * row
  | col + 1 =>
    if isChained x (8 * row + (col + 1)) && isAddSub (cfgOpc (x.cell (8 * row + col))) then chainHead x row col else 8 * row + (col + 1)

/-- The cell's word is illegal (R46, R50, R56, R58). -/
def cellIllegal (x : Ctx) (c : Nat) : Bool :=
  let w := x.cell c
  let opc := cfgOpc w
  opc ≥ 0x22 || cfgSrcA w = 15 || cfgSrcB w = 15
    || ((opc = 0x20 || opc = 0x21) && c % 8 ≠ 0)
    || ((opc = 0xD || opc = 0xE || opc = 0xF) && (cfgSrcA w = 0xD || cfgSrcB w = 0xD))
    || (isChained x c && (c % 8 = 0 || !isAddSub (cfgOpc (x.cell (c - 1))) || 4 ≤ c - chainHead x (c / 8) (c % 8)))

/-- The lowest illegal cell of a context, if any, recomputed at release and at each fill (R58). -/
def lowestIllegal (x : Ctx) : Option Nat := (x.cells.map (·.1)).find? (cellIllegal x)

/-- The bits of a context's configuration that are not reserved, which read 0 (R10, R59, R70, R74). -/
def cellBits : DWord := 0xFFFFFFFFF800FFFF
def portBits : Word := 0xFFFEFFFE
def statusBits : Word := 0x00003F1D

/-- ILLOP and ILL_CELL as the check sets them, the reserved bits cleared (R10, R58, R70). -/
def checkCells (x : Ctx) : Ctx :=
  let st := x.status &&& 0x19#32
  match lowestIllegal x with
  | some c => { x with status := st ||| 4#32 ||| (BitVec.ofNat 32 c <<< 8) }
  | none => { x with status := st }

/-- The cell can fire at all: its word is legal and is not NOP. -/
def cellActive (x : Ctx) (c : Nat) : Bool := c < 64 && cfgOpc (x.cell c) ≠ 0 && !cellIllegal x c

/-- The cells of a context that can fire. -/
def activeCells (x : Ctx) : List Nat := (x.cells.map (·.1)).filter (cellActive x)

/-- The members of a cell's carry-chain group, west to east, at most four, an illegal one among them; the cell alone where it has none
(R55). -/
def chainGroup (x : Ctx) (c : Nat) : List Nat :=
  if isAddSub (cfgOpc (x.cell c)) then
    let head := chainHead x (c / 8) (c % 8)
    let east := (List.range (min 3 (7 - head % 8))).map (fun i => head + 1 + i)
    head :: east.takeWhile (isChained x)
  else [c]

/-! ### Sources -/

/-- The register a source code of cell `c` names (R60); 255 where it is not routed. -/
def srcReg (c code : Nat) : Nat :=
  let row := c / 8
  let col := c % 8
  match code with
  | 0 => if row = 0 then 144 + col else c - 8
  | 1 => if col = 7 then 152 + row else c + 1
  | 2 => if row = 7 then 160 + col else c + 8
  | 3 => if col = 0 then 168 + row else c - 1
  | 4 => 64 + 4 * row + 2 * (col / 4)
  | 5 => 64 + 4 * row + 2 * (col / 4) + 1
  | 6 => 96 + 4 * col + 2 * (row / 4)
  | 7 => 96 + 4 * col + 2 * (row / 4) + 1
  | 8 => 128 + row / 2
  | 9 => 132 + col / 2
  | 10 => c
  | _ => 255

/-- The registers of the routed operands a cell's operation uses. -/
def cellRegA (x : Ctx) (c : Nat) : Nat :=
  let w := x.cell c
  if opUsesA (cfgOpc w) then srcReg c (cfgSrcA w) else 255
def cellRegB (x : Ctx) (c : Nat) : Nat :=
  let w := x.cell c
  if opUsesB (cfgOpc w) then srcReg c (cfgSrcB w) else 255

/-- The word a register holds at the start of the cycle. -/
def regWord (y : Cycle) (r : Nat) : TWord :=
  if r < 64 then Tab.get .empty y.ctx.out r
  else if r < 128 then Tab.get .empty y.ctx.quad (r - 64)
  else if r < 136 then Tab.get .empty y.ctx.long (r - 128)
  else if r < 140 then Tab.get .empty y.ctx.bmRd (r - 136)
  else if 144 ≤ r && r < 176 then ((Tab.get [] y.ctx.inbuf (r - 144)).head?).getD .empty
  else if 176 ≤ r && r < 180 then ((Tab.get [] y.so (r - 176)).head?).getD .empty
  else .empty

/-- The value of an operand that is always available (R41, R60). -/
def fixedOperand (y : Cycle) (c code ix : Nat) : Word :=
  match code with
  | 0xB => Tab.get 0 y.ctx.k (8 * c + ix)
  | 0xC => Tab.get 0 y.s (ix % 4)
  | 0xD => cfgImmWord (y.ctx.cell c)
  | _ => 0

/-- Operand A, and B, of a cell at the start of the cycle. -/
def operandA (y : Cycle) (c : Nat) : Word :=
  let w := y.ctx.cell c
  if srcReg c (cfgSrcA w) = 255 then fixedOperand y c (cfgSrcA w) (cfgIxA w)
  else (regWord y (srcReg c (cfgSrcA w))).d
def operandB (y : Cycle) (c : Nat) : Word :=
  let w := y.ctx.cell c
  if srcReg c (cfgSrcB w) = 255 then fixedOperand y c (cfgSrcB w) (cfgIxB w)
  else (regWord y (srcReg c (cfgSrcB w))).d

/-- The tags of Y: those of the selected operand where the operation uses it and it is routed, else 0 (R42). -/
def resultTags (y : Cycle) (c : Nat) : Bool × Bool :=
  let r := if cfgTagB (y.ctx.cell c) then cellRegB y.ctx c else cellRegA y.ctx c
  if r = 255 then (false, false) else ((regWord y r).l, (regWord y r).i)

/-- A passes unchanged under IDLE_PASS (R43). -/
def idlePasses (y : Cycle) (c : Nat) : Bool :=
  cfgIdlePass (y.ctx.cell c) && cellRegA y.ctx c ≠ 255 &&
    (regWord y (cellRegA y.ctx c)).v && (regWord y (cellRegA y.ctx c)).i

/-- The cell reads a K or S register, so its SECDED check applies (R86). -/
def readsBank (x : Ctx) (c : Nat) : Bool :=
  let w := x.cell c
  let opc := cfgOpc w
  (opUsesA opc && (cfgSrcA w = 0xB || cfgSrcA w = 0xC)) || (opUsesB opc && (cfgSrcB w = 0xB || cfgSrcB w = 0xC))
    || opc = 0x1D || opc = 0x1F

/-! ### Block memory ports -/

/-- The 16 configuration bits of port `p`: BM0 A, BM0 B, BM1 A, BM1 B (R74). -/
def portHalf (x : Ctx) (p : Nat) : BitVec 16 :=
  let w := if p < 2 then x.ports0 else x.ports1
  if p % 2 = 0 then w.extractLsb' 0 16 else w.extractLsb' 16 16

def portMode (h : BitVec 16) : Nat := (h.extractLsb' 14 2).toNat
def portAspect (h : BitVec 16) : Nat := (h.extractLsb' 11 3).toNat
def portAddrSel (h : BitVec 16) : Nat := (h.extractLsb' 8 3).toNat
def portWdSel (h : BitVec 16) : Nat := (h.extractLsb' 5 3).toNat
def portRdDrv (h : BitVec 16) : Bool := h.getLsbD 4
def portRdLine (h : BitVec 16) : Nat := (h.extractLsb' 1 3).toNat

/-- The memory of port `p` is ganged: port A's aspect says so (R75). -/
def ganged (x : Ctx) (p : Nat) : Bool := portAspect (portHalf x (p / 2 * 2)) = 4

/-- The port makes accesses: not off, a defined aspect, and not port B of a ganged memory. A port B whose own aspect is 0b100 while port A is not
ganged is off: the spec sets ganged mode in port A's ASPECT alone and gives such a port B no meaning (log 20, DESIGN CHOICE). -/
def portOn (x : Ctx) (p : Nat) : Bool :=
  let h := portHalf x p
  p < 4 && portMode h ≠ 0 && (if p % 2 = 0 then portAspect h ≤ 4 else portAspect h ≤ 3 && !ganged x p)

/-- The access at the head of the port's address line is a write (R76). -/
def portWrites (y : Cycle) (p : Nat) : Bool :=
  let h := portHalf y.ctx p
  portMode h = 2 || (portMode h = 3 && (regWord y (128 + portAddrSel h)).d.getLsbD 31)

/-- The long lines a port is a configured reader of: its address line, and in the modes that write its write-data line,
with port B's of a ganged memory (R71, R75). -/
def portLines (x : Ctx) (p : Nat) : List Nat :=
  let h := portHalf x p
  if !portOn x p then [] else
  let wd := if portMode h = 2 || portMode h = 3 then
      portWdSel h :: (if ganged x p then [portWdSel (portHalf x (p + 1))] else []) else []
  portAddrSel h :: wd

/-- The lines a firing of the port takes words from. -/
def portTakes (y : Cycle) (p : Nat) : List Nat :=
  if portWrites y p then portLines y.ctx p else [portAddrSel (portHalf y.ctx p)]

/-! ### What can move in a cycle -/

/-- What the movement of words depends on outside the cycle's own registers: CRU_PORTS, the lanes whose crossing
conditions hold, and the QPUSH and QPOP cells whose condition 4 holds. -/
structure FabEnv where
  y : Cycle
  cells : List Nat
  cruPorts : Word
  laneOk : Nat → Bool
  queueOk : Nat → Bool
  held : Nat → Bool
  /-- Ports in the second cycle of a narrow write (R80). -/
  busy : Nat → Bool

/-- The nibble of a stream port in CRU_PORTS: SI0-3 at 0-3, SO0-3 at 4-7 (R193). -/
def streamNibble (w : Word) (k : Nat) : BitVec 4 := (w >>> (4 * k)).setWidth 4
def streamEn (w : Word) (k : Nat) : Bool := (streamNibble w k).getLsbD 3
def streamLine (w : Word) (k : Nat) : Nat := (streamNibble w k).toNat % 8

/-- Cells whose operation reads a register. -/
def cellReaders (e : FabEnv) (r : Nat) : List Nat :=
  e.cells.filter (fun c => cellRegA e.y.ctx c = r || cellRegB e.y.ctx c = r)

/-- A quad track's register empties: it holds nothing, or every cell that reads it fires (R62). -/
def quadEmpties (e : FabEnv) (stuck : List Nat) (q : Nat) : Bool :=
  !(regWord e.y (64 + q)).v || (cellReaders e (64 + q)).all (fun c => !stuck.contains c)

/-- The word of a long line moves: every reading cell, port and stream input takes it. -/
def longMoves (e : FabEnv) (stuck : List Nat) (l : Nat) : Bool :=
  (cellReaders e (128 + l)).all (fun c => !stuck.contains c) &&
    (List.range 4).all (fun p => !(portLines e.y.ctx p).contains l ||
      (!stuck.contains (136 + p) && (portTakes e.y p).contains l)) &&
    (List.range 4).all (fun k => !(streamEn e.cruPorts k && streamLine e.cruPorts k = l) ||
      decide ((Tab.get [] e.y.si k).length < 4))

/-- A long line's register empties. -/
def longEmpties (e : FabEnv) (stuck : List Nat) (l : Nat) : Bool :=
  !(regWord e.y (128 + l)).v || longMoves e stuck l

/-- The quad tracks a cell's output drives in this context (R67). -/
def quadsOf (x : Ctx) (c : Nat) : List Nat :=
  let row := c / 8
  let col := c % 8
  let h := 4 * row + 2 * (col / 4)
  let v := 32 + 4 * col + 2 * (row / 4)
  let on (q off : Nat) : Bool := let sel := Tab.get 0#3 x.qsel q; sel.getLsbD 2 && (sel.extractLsb' 0 2).toNat = off
  ([h, h + 1].filter (fun q => on q (col % 4))) ++ ([v, v + 1].filter (fun q => on q (row % 4)))

/-- The lanes that read a cell's output: those of the sides whose DEST_EN is set (R108, R113). -/
def lanesOf (x : Ctx) (c : Nat) : List Nat :=
  let row := c / 8
  let col := c % 8
  let sides := (if row = 0 then [col] else []) ++ (if col = 7 then [8 + row] else []) ++
    (if row = 7 then [16 + col] else []) ++ (if col = 0 then [24 + row] else [])
  sides.filter (fun sl => x.destEn.getLsbD (sl / 8))

/-- The long lines a cell's output drives. -/
def longsOf (x : Ctx) (c : Nat) : List Nat :=
  (if cfgDrvH (x.cell c) then [c / 8 / 2] else []) ++ (if cfgDrvV (x.cell c) then [4 + c % 8 / 2] else [])

/-- The word of a register moves in this cycle: every configured reader takes it (R62). A register without readers
empties in every cycle (R44). `stuck` lists among others the long lines that take nothing in this cycle, at 128-135. -/
def regMoves (e : FabEnv) (stuck : List Nat) (r : Nat) : Bool :=
  if r < 64 then
    (cellReaders e r).all (fun c => !stuck.contains c) &&
      (quadsOf e.y.ctx r).all (quadEmpties e stuck) && (longsOf e.y.ctx r).all (fun l => !stuck.contains (128 + l)) &&
      (lanesOf e.y.ctx r).all e.laneOk
  else if r < 128 then (cellReaders e r).all (fun c => !stuck.contains c)
  else if r < 136 then longMoves e stuck (r - 128)
  else if r < 140 then
    let h := portHalf e.y.ctx (r - 136)
    !portRdDrv h || !stuck.contains (128 + portRdLine h)
  else if 144 ≤ r && r < 176 then (cellReaders e r).all (fun c => !stuck.contains c)
  else if 176 ≤ r && r < 180 then
    let k := r - 176 + 4
    streamEn e.cruPorts k && !stuck.contains (128 + streamLine e.cruPorts k)
  else true

/-- The registers that drive a long line (R65, R71, R186). -/
def longDrivers (e : FabEnv) (l : Nat) : List Nat :=
  let x := e.y.ctx
  ((x.cells.map (·.1)).filter (fun c => c < 64 && (longsOf x c).contains l)) ++
    (([0, 1, 2, 3].filter (fun n => (portOn x n || (n % 2 = 1 && ganged x n && portOn x (n - 1))) &&
      portRdDrv (portHalf x n) && portRdLine (portHalf x n) = l)).map (136 + ·)) ++
    (([0, 1, 2, 3].filter (fun k => streamEn e.cruPorts (4 + k) && streamLine e.cruPorts (4 + k) = l)).map (176 + ·))

/-- The drivers that hold a word (R65). -/
def lineWords (e : FabEnv) (l : Nat) : List Nat := (longDrivers e l).filter (fun r => (regWord e.y r).v)

/-- A long line takes the words of its drivers: its register empties, and every driver that holds a word gives it up in this cycle, since the
line receives the OR of them all and takes every one (R62, R65, R66; log 20, DEDUCED). -/
def lineTakes (e : FabEnv) (stuck : List Nat) (l : Nat) : Bool :=
  longEmpties e stuck l && (lineWords e l).all (regMoves e stuck)

/-- A register empties in this cycle or is empty. -/
def regEmpties (e : FabEnv) (stuck : List Nat) (r : Nat) : Bool := !(regWord e.y r).v || regMoves e stuck r

/-- A routed operand is there and moves. -/
def operandReady (e : FabEnv) (stuck : List Nat) (r : Nat) : Bool :=
  r = 255 || ((regWord e.y r).v && regMoves e stuck r)

/-- Conditions 1 and 2 of R40, with operand B optional where A passes under IDLE_PASS (R43). -/
def cellReady (e : FabEnv) (stuck : List Nat) (c : Nat) : Bool :=
  operandReady e stuck (cellRegA e.y.ctx c) &&
    (operandReady e stuck (cellRegB e.y.ctx c) ||
      (idlePasses e.y c && !(regWord e.y (cellRegB e.y.ctx c)).v)) &&
    regEmpties e stuck c

/-- The cell can fire, given the elements known to be stuck (R40): every member of its group is legal and ready, itself among them. -/
def cellFires (e : FabEnv) (stuck : List Nat) (c : Nat) : Bool :=
  (chainGroup e.y.ctx c).all (fun m => !stuck.contains m && cellActive e.y.ctx m) && cellReady e stuck c && !e.held c &&
    (idlePasses e.y c || e.queueOk c)

/-- The port can fire (R78, R80): its words are there and move, it is not in the second cycle of a narrow write, and for
a read its read-data register empties. -/
def portFires (e : FabEnv) (stuck : List Nat) (p : Nat) : Bool :=
  portOn e.y.ctx p && !e.busy p &&
    (portTakes e.y p).all (fun l => operandReady e stuck (128 + l)) &&
    (portWrites e.y p || (regEmpties e stuck (136 + p) &&
      (!ganged e.y.ctx p || regEmpties e stuck (137 + p))))

/-- The elements that cannot act in this cycle: start from a list and add, until nothing is added (R40, R62). Cells are
0-63, long lines 128-135, ports 136-139. -/
def stuckSet (e : FabEnv) : Nat → List Nat → List Nat
  | 0, stuck => stuck
  | n + 1, stuck =>
    let more := (e.cells.filter (fun c => !stuck.contains c && !cellFires e stuck c)) ++
      (([0, 1, 2, 3].filter (fun p => !stuck.contains (136 + p) && !portFires e stuck p)).map (136 + ·)) ++
      (((List.range 8).filter (fun l => !stuck.contains (128 + l) && !lineTakes e stuck l)).map (128 + ·))
    if more.isEmpty then stuck else stuckSet e n (more ++ stuck)

end Sys2Proof.Machine
end

