-- ==== Sys2Proof/Machine/FlaskOps.lean ====
section
/-! DEFINITION. Operations over a flask: its neighbours and lanes, whether a slot runs, what may fire in the present
cycle, error reports and the stop on a fatal fault (R87, R108-R114, R129). -/

namespace Sys2Proof.Machine

/-- The logical neighbour on side 0 N, 1 E, 2 S, 3 W (R108). -/
def neighbour (k side : Nat) : Option Nat :=
  match side with
  | 0 => if 8 ≤ k then some (k - 8) else none
  | 1 => if k % 8 < 7 then some (k + 1) else none
  | 2 => if k < 56 then some (k + 8) else none
  | _ => if 0 < k % 8 then some (k - 1) else none

/-- Byte `n` of a word. -/
def byteOf (w : Word) (n : Nat) : Nat := (w.extractLsb' (8 * n) 8).toNat

/-- Slot `n` of a flask. -/
def Flask.slot (f : Flask) (n : Nat) : Slot := Tab.get Slot.reset f.slots n

/-- Change slot `n`. -/
def Flask.modSlot (f : Flask) (n : Nat) (g : Slot → Slot) : Flask :=
  { f with slots := Tab.modify Slot.reset f.slots n g }

/-- The slot in which a context is RESIDENT. -/
def Flask.residentSlot (f : Flask) (x : Nat) : Option Nat :=
  (List.range 16).find? (fun n => (f.slot n).st = .resident && (f.slot n).ctxId = x)

/-- The slot that names a context in any state but EMPTY (R89). -/
def Flask.slotOf (f : Flask) (x : Nat) : Option Nat :=
  (List.range 16).find? (fun n => (f.slot n).st ≠ .empty && (f.slot n).ctxId = x)

/-- A slot is runnable (R88). -/
def Flask.runnable (f : Flask) (n : Nat) : Bool := n < 16 && (f.slot n).st = .resident && !(f.slot n).faulted

/-- The loader holds the entries of physical flask `p`: it is a region flask of a partial image (R612). -/
def State.inRegion (s : State) (p : Nat) : Bool := s.loader.st ≠ .idle && s.loader.isPartial && s.loader.region.getLsbD p

/-- A partial load holds the flask for its new configuration: no slot of it runs (R614). -/
def State.placing (s : State) (p : Nat) : Bool := s.inRegion p && (s.loader.st = .placing || s.loader.st = .releasing)

/-- A partial load waits for the flask to be quiet: its QPOP cells do not fire (R613). -/
def State.quiescing (s : State) (p : Nat) : Bool := s.inRegion p && s.loader.st = .quiescing

/-- The backing records of the flask's contexts are being written, and its engine serves nothing else (R602). -/
def State.recording (s : State) (p : Nat) : Bool := s.loader.st = .records && (!s.loader.isPartial || s.loader.region.getLsbD p)

/-- A recast of this flask, as source or target, is in its freeze (R129). -/
def State.frozen (s : State) (p : Nat) : Bool :=
  let r := s.recast (p / 9)
  r.st = .freeze && (r.source = p || r.target = p)

/-- The flask is held still: in the freeze of a recast, or for a partial image. -/
def State.heldStill (s : State) (p : Nat) : Bool := s.frozen p || s.placing p

/-- The flask holds a logical flask that is not stopped. -/
def Flask.live (f : Flask) : Bool := f.role = .active || f.role = .recastSource

/-- It also has power and clock. -/
def State.flaskLive (s : State) (p : Nat) : Bool := (s.flask p).live && s.domOn p

/-- A slot of the flask runs in this cycle (R93, R94). -/
def State.running (s : State) (p : Nat) : Bool :=
  let f := s.flask p
  s.flaskLive p && !s.heldStill p && f.cyc.on && f.runnable f.cur

/-- A recast of this flask as source is in DRAIN and holds its queue cells and engine (R129). -/
def State.draining (s : State) (p : Nat) : Bool :=
  let r := s.recast (p / 9)
  r.st = .drain && r.source = p

/-- The key of a boundary credit counter (R112). -/
def creditKey (ctx sl : Nat) : Nat := 32 * ctx + sl

/-- The context engine takes no new request from the sequencer (R129, R602, R613). -/
def State.engineHeld (s : State) (p : Nat) : Bool := s.draining p || s.quiescing p || s.placing p || s.recording p

/-- The side of the neighbour that faces a side. -/
def facing (side : Nat) : Nat := (side + 2) % 4

/-- A word can cross lane `sl` of the running context (R110, R113). -/
def laneReady (s : State) (p sl : Nat) : Bool :=
  let f := s.flask p
  match neighbour f.logical (sl / 8) with
  | none => false
  | some k =>
    let q := s.physOf k
    let d := byteOf f.cyc.ctx.dest (sl / 8)
    0 < Tab.get 4 f.credits (creditKey (f.slot f.cur).ctxId sl) && s.flaskLive q && !s.heldStill q &&
      ((s.flask q).residentSlot d).isSome

/-- QPUSH cells below `c` of the same queue that have yet to push in this cycle: those that `stuck` does not hold back and that do not pass an
idle word. Which of several cells gets the last credit of a queue is not stated: the lowest cell number does (log 20, DESIGN CHOICE). -/
def earlierPushes (f : Flask) (stuck : List Nat) (c q : Nat) : Nat :=
  ((activeCells f.cyc.ctx).filter (fun m => m < c && cfgOpc (f.cyc.ctx.cell m) = 0x20 && !f.cyc.fired.contains m && !stuck.contains m &&
    !idlePasses f.cyc m && (operandB f.cyc m).toNat % 2 ^ 18 = q)).length

/-- Condition 4 of R40: a credit for a QPUSH; fewer than four pops outstanding for a QPOP, where a pop whose answer has come and waits for the
output register is still outstanding (log 20, DESIGN CHOICE). -/
def queueReady (s : State) (p c : Nat) : Bool :=
  let f := s.flask p
  let opc := cfgOpc (f.cyc.ctx.cell c)
  let q := (operandB f.cyc c).toNat % 2 ^ 18
  if opc = 0x20 then 0 < (s.producer (s.flaskNode p) q).credits
  else if opc = 0x21 then (Tab.get [] (f.slot f.cur).ctx.pops c).length < 4
  else true

/-- A credit is left for a QPUSH once the cells below it have theirs, `stuck` being the elements that no shortage of credits holds back. -/
def pushWins (s : State) (p : Nat) (stuck : List Nat) (c : Nat) : Bool :=
  let f := s.flask p
  let q := (operandB f.cyc c).toNat % 2 ^ 18
  cfgOpc (f.cyc.ctx.cell c) ≠ 0x20 || earlierPushes f stuck c q < (s.producer (s.flaskNode p) q).credits

/-- In DRAIN a QPUSH cell is held from firing the first word of a packet and a QPOP cell from firing (R129); a partial load holds QPOP
cells while it waits (R613). -/
def queueHeld (s : State) (p c : Nat) : Bool :=
  let f := s.flask p
  let opc := cfgOpc (f.cyc.ctx.cell c)
  let pr := s.producer (s.flaskNode p) ((operandB f.cyc c).toNat % 2 ^ 18)
  (s.quiescing p && opc = 0x21) || (s.draining p && (opc = 0x21 || (opc = 0x20 && !leavesOpen pr.midPacket pr.gather)))

/-- What the words of the flask's present cycle depend on; what has fired in it stays counted as able to. -/
def fabEnv (s : State) (p : Nat) : FabEnv :=
  let f := s.flask p
  { y := f.cyc, cells := activeCells f.cyc.ctx, cruPorts := s.settingW (0x4100 + p) 2
    laneOk := fun sl => f.cyc.fired.contains (140 + sl) || laneReady s p sl
    queueOk := fun c => f.cyc.fired.contains c || queueReady s p c
    held := fun c => !f.cyc.fired.contains c && queueHeld s p c
    busy := fun n => f.wb.any (fun e => e.2 = n) }

/-- The elements of the flask that cannot act in its present cycle: those that stay so however the credits go, then those for which no credit
is left. -/
def stuckNow (s : State) (p : Nat) : List Nat :=
  let e := fabEnv s p
  let n := e.cells.length + 13
  let stuck := stuckSet e n []
  stuckSet { e with queueOk := fun c => e.queueOk c && (e.y.fired.contains c || pushWins s p stuck c) } n stuck

/-- A cell fires in this cycle and has not done so yet. -/
def cellCanFire (s : State) (p c : Nat) : Bool :=
  let e := fabEnv s p
  s.running p && e.cells.contains c && !(s.flask p).cyc.fired.contains c && !(stuckNow s p).contains c

/-- Change the context of a slot otherwise than by its firing. -/
def Flask.modCtx (f : Flask) (n : Nat) (g : Ctx → Ctx) : Flask := f.modSlot n (fun x => { x with moved := true, ctx := g x.ctx })

/-- Change the running context of a flask. -/
def Flask.modRunning (f : Flask) (g : Ctx → Ctx) : Flask := f.modCtx f.cur g

/-- AUX of an error that names a physical flask: its logical flask and the running context (R685). -/
def flaskAux (s : State) (p : Nat) : Word :=
  let f := s.flask p
  let k := match s.logicalOf p with
    | some k => k
    | none => 255
  BitVec.ofNat 32 (k * 256 + (f.slot f.cur).ctxId)

/-- Report an error of the fabric of flask `p`. -/
def reportFlask (code p : Nat) (detail : Nat) (s : State) : State :=
  reportAt code 1 p (flaskAux s p) (BitVec.ofNat 64 detail) s

/-- A recast by policy is not possible or has ended ABORTED: 0x1103, once per window for a flask (R697). -/
def policyFails (p reason : Nat) (s : State) : State :=
  if Tab.get false s.chill.ceLogged p then s
  else
    let s := reportFlask 0x1103 p reason s
    { s with chill := { s.chill with ceLogged := Tab.set false s.chill.ceLogged p true } }

/-- A recast under way in row `y` ends ABORTED: holds are released and the roles return (R129, R131). -/
def abortRecast (y : Nat) (result : BitVec 8) (s : State) : State :=
  let r := s.recast y
  let s := s.modRecast y (fun r => { r with st := .aborted, result := result, dirty := [] })
  let s := s.modFlask r.source (fun f => if f.role = .recastSource then { f with role := .active } else f)
  let s := s.modFlask r.target (fun f => if f.role = .recastTarget then { f with role := .spareIdle } else f)
  if r.byPolicy then policyFails r.source (0x10 + result.toNat) s else s

/-- A recast is under way in row `y`. -/
def State.recasting (s : State) (y : Nat) : Bool :=
  let r := s.recast y
  r.st = .precopy || r.st = .drain || r.st = .freeze

/-- The stop of a flask (R87): nothing of it fires again, its crucible stops with it, its open pushes are rewound, its
gate closes, and a recast it is the source of aborts (R129). -/
def flaskHalt (p : Nat) (s : State) : State :=
  let node := s.flaskNode p
  let s := if s.recasting (p / 9) && (s.recast (p / 9)).source = p then abortRecast (p / 9) 4 s else s
  let s := s.modFlask p (fun f => { f with role := .stopped, cur := 16, nxt := 16, cyc := .reset })
  let s := s.modCru p (fun c => { c with st := .stopped })
  let s := gateAbandon node s
  closePort (p / 9) (p % 9) s

/-- A fatal fault of flask `p`: logged, then the flask stops. -/
def flaskFatal (code p detail : Nat) (s : State) : State := flaskHalt p (reportFlask code p detail s)

/-- The receiving context takes the head of a boundary buffer and returns one credit to the sender (R114). -/
def takeBoundary (p sl : Nat) (s : State) : State :=
  let f := s.flask p
  let srcCtx := byteOf f.cyc.ctx.src (sl / 8)
  let s := s.modFlask p (fun f => f.modRunning (fun x => { x with inbuf := Tab.set [] x.inbuf sl ((Tab.get [] x.inbuf sl).drop 1) }))
  match neighbour f.logical (sl / 8) with
  | none => s
  | some k => s.modFlask (s.physOf k) (fun g =>
      { g with credits := Tab.modify 4 g.credits (creditKey srcCtx (8 * facing (sl / 8) + sl % 8)) (fun n => min 4 (n + 1)) })

/-- A reader takes the word of register `r`: the register empties unless a new word has already entered it in this cycle (R62). -/
def takeReg (p : Nat) (s : State) (r : Nat) : State :=
  if 144 ≤ r && r < 176 then takeBoundary p (r - 144) s
  else
    let loaded := (s.flask p).cyc.loaded
    s.modFlask p (fun f => f.modRunning (fun x =>
      if r < 64 then
        if loaded.contains r then x else { x with out := Tab.set TWord.empty x.out r .empty }
      else if r < 128 then { x with quad := Tab.set TWord.empty x.quad (r - 64) .empty }
      else if r < 136 then { x with long := Tab.set TWord.empty x.long (r - 128) .empty }
      else if r < 140 then { x with bmRd := Tab.set TWord.empty x.bmRd (r - 136) .empty }
      else x))

/-- Write Y to an S register: the lowest cell's write of the cycle stands, and a second writer sets CONTENTION of the running context (R38). -/
def writeS (p c ix : Nat) (v : Word) (s : State) : State :=
  let by' := Tab.get 0 (s.flask p).cyc.sBy ix
  let s := if by' = 0 || 16 ≤ (s.flask p).cur then s else
    s.modFlask p (fun f => f.modRunning (fun x => { x with status := x.status ||| 1 }))
  if by' = 0 || c + 1 < by' then
    s.modFlask p (fun f => { f with s := Tab.set 0 f.s ix v, cyc := { f.cyc with sBy := Tab.set 0 f.cyc.sBy ix (c + 1) } })
  else s

/-- A word enters an output register of the context in slot `n`. -/
def loadOut (p n c : Nat) (w : TWord) (s : State) : State :=
  s.modFlask p (fun f =>
    let f := f.modCtx n (fun x => { x with out := Tab.set TWord.empty x.out c w })
    if n = f.cur then { f with cyc := { f.cyc with loaded := c :: f.cyc.loaded } } else f)

end Sys2Proof.Machine
end

