-- ==== Sys2Proof/Machine/Cells.lean ====
section
/-! DEFINITION. The firing of a cell (R40-R57) and the meanings of the CELL_ commands and QPOP_RESULT. A command is the
firing of cell `c` of physical flask `p` in the flask's present cycle; it is an event when the cell's word selects that
operation and the cell can fire (log 20). -/

namespace Sys2Proof.Machine

/-- The carry out of the ADD or SUB of a cell in this cycle (R54, R57). A west neighbour that passes an idle item
performs no operation, and its carry is not stated: its free bit of the cycle, the same for every member that depends on it. -/
def carryOut (y : Cycle) (row : Nat) (free : Nat → Bool) : Nat → Bool
  | 0 =>
    let c := 8 * row
    let w := y.ctx.cell c
    let sub := decide (cfgOpc w = 3)
    let cin := carryIn sub (cfgCin w) false (Tab.get CellFlags.reset y.ctx.flags c).c
    let b := operandB y c
    if idlePasses y c then free c else (addWide (operandA y c) (if sub then ~~~b else b) cin).msb
  | col + 1 =>
    let c := 8 * row + (col + 1)
    let w := y.ctx.cell c
    let sub := decide (cfgOpc w = 3)
    let west := if cfgCin w = 2 then carryOut y row free col else false
    let cin := carryIn sub (cfgCin w) west (Tab.get CellFlags.reset y.ctx.flags c).c
    let b := operandB y c
    if idlePasses y c then free c else (addWide (operandA y c) (if sub then ~~~b else b) cin).msb

/-- The carry in of a cell. -/
def cellCin (y : Cycle) (c : Nat) (free : Nat → Bool) : Bool :=
  let w := y.ctx.cell c
  let west := if c % 8 = 0 then false else carryOut y (c / 8) free (c % 8 - 1)
  carryIn (decide (cfgOpc w = 3)) (cfgCin w) west (Tab.get CellFlags.reset y.ctx.flags c).c

/-- What a cell's operation reads in this cycle. -/
def cellIn (y : Cycle) (c : Nat) (free : Nat → Bool) : AluIn :=
  let w := y.ctx.cell c
  { a := operandA y c, b := operandB y c, cin := cellCin y c free, imm := cfgImm w,
    k7 := Tab.get 0 y.ctx.k (8 * c + 7), km := Tab.get 0 y.ctx.k (8 * c + cfgKm w),
    fl := Tab.get CellFlags.reset y.ctx.flags c, free := free c }

/-- The cell's result in this cycle. -/
def cellOut (y : Cycle) (c : Nat) (free : Nat → Bool) : AluOut := alu (cfgOpc (y.ctx.cell c)) (cellIn y c free)

/-- The registers a firing takes words from: A, and B unless an idle pass finds none there (R41, R43). -/
def cellTakes (y : Cycle) (c : Nat) : List Nat :=
  let a := cellRegA y.ctx c
  let b := cellRegB y.ctx c
  (if a = 255 then [] else [a]) ++
    (if b = 255 || b = a || (idlePasses y c && !(regWord y b).v) then [] else [b])

/-- The free bit is used: a minimum or maximum of equal operands, or a carry from an idle pass. -/
def usesFree (y : Cycle) (c : Nat) : Bool :=
  let w := y.ctx.cell c
  let opc := cfgOpc w
  (0x12 ≤ opc && opc ≤ 0x15 && operandA y c = operandB y c) ||
    (isChained y.ctx c && (chainGroup y.ctx c).any (fun m => m < c && idlePasses y m))

/-- The free bit of each cell in the flask's present cycle. -/
def State.freeBit (s : State) (p c : Nat) : Bool := (Config.free ((s.flask p).cyc.freeBase.getD s.fresh + c)).getLsbD 0

/-- The cycle's free values are set aside when a cell first uses one. -/
def keepFree (p : Nat) (s : State) : State :=
  match (s.flask p).cyc.freeBase with
  | some _ => s
  | none => { s.modFlask p (fun f => { f with cyc := { f.cyc with freeBase := some s.fresh } }) with fresh := s.fresh + 64 }

/-- Y, with its tags, goes to the output register, and to K and S where the word says so; the flags follow. -/
def writeResult (p c : Nat) (o : AluOut) (tags : Bool × Bool) (s : State) : State :=
  let w := (s.flask p).cyc.ctx.cell c
  let s := s.modFlask p (fun f => f.modRunning (fun x =>
    { x with
      flags := Tab.set CellFlags.reset x.flags c o.fl
      k := if cfgKwe w then Tab.set 0 x.k (8 * c + cfgKdst w) o.y else x.k }))
  let s := loadOut p (s.flask p).cur c (mkTWord o.y tags.1 tags.2) s
  if cfgSwe w then writeS p c (cfgSdst w) o.y s else s

/-- A cell, port or lane has acted in this cycle. -/
def markActed (p c : Nat) (s : State) : State :=
  s.modFlask p (fun f => { f with cyc := { f.cyc with fired := c :: f.cyc.fired } })

/-- Mark a cell or port as fired in this cycle; its context is DIRTY (R91). -/
def markFired (p c : Nat) (s : State) : State :=
  markActed p c (s.modFlask p (fun f => f.modSlot f.cur (fun x => { x with dirty := true })))

/-- The mark of a cell's pops inside the gate: context and cell. -/
def popMark (ctxId c : Nat) : Nat := 2 + ctxId * 64 + c

/-- The effect of a firing beyond the words it takes. -/
def cellEffect (p c : Nat) (s : State) : State :=
  let f := s.flask p
  let y := f.cyc
  let opc := cfgOpc (y.ctx.cell c)
  if idlePasses y c then loadOut p f.cur c (regWord y (cellRegA y.ctx c)) s
  else if opc = 0x20 then
    let a := regWord y (cellRegA y.ctx c)
    let routed := cellRegA y.ctx c ≠ 255
    gatePush (s.flaskNode p) ((operandB y c).toNat % 2 ^ 18)
      { d := operandA y c, l := routed && a.l, i := routed && a.i, p := false } s
  else if opc = 0x21 then
    let q := (operandB y c).toNat % 2 ^ 18
    let s := s.modFlask p (fun f => f.modRunning (fun x => { x with pops := Tab.set [] x.pops c (Tab.get [] x.pops c ++ [.waiting]) }))
    s.requestBy (popMark (f.slot f.cur).ctxId c) (s.flaskNode p) tundishNode 0 0 (.pop q 1)
  else
    let s' := writeResult p c (cellOut y c (s.freeBit p)) (resultTags y c) s
    if usesFree y c then keepFree p s' else s'

/-- A cell fires (R41): it takes a word from each routed operand it uses, then has its effect. -/
def fireCell (p c : Nat) (s : State) : State :=
  let takes := cellTakes (s.flask p).cyc c
  markFired p c (cellEffect p c (takes.foldl (takeReg p) s))

/-- A firing with what physics does to it (R63, R86): an uncorrectable K or S register, or a parity error in the word
arriving at the output register, stops the flask. -/
def fireCellEv (p c : Nat) (ev : FabEv) (s : State) : State :=
  let reads := readsBank (s.flask p).cyc.ctx c
  match ev with
  | .clean => fireCell p c s
  | .corrected => if reads then fireCell p c (reportFlask 0x1102 p c s) else fireCell p c s
  | .uncorrectable => if reads then flaskFatal 0x4106 p c s else fireCell p c s
  | .parity => flaskFatal 0x4103 p c s

/-- The meaning of a CELL_ command for OPC `opc`. -/
def cellCommand (opc p c : Nat) (ev : FabEv) (s : State) : Result :=
  event (decide (cfgOpc ((s.flask p).cyc.ctx.cell c) = opc) && cellCanFire s p c) s (fireCellEv p c ev s)

/-- CELL_PASS (R45). -/
def execCellPass (p c : Nat) (ev : FabEv) (s : State) : Result := cellCommand 0x01 p c ev s

/-- CELL_ADD (R45). -/
def execCellAdd (p c : Nat) (ev : FabEv) (s : State) : Result := cellCommand 0x02 p c ev s

/-- CELL_SUB (R45). -/
def execCellSub (p c : Nat) (ev : FabEv) (s : State) : Result := cellCommand 0x03 p c ev s

/-- CELL_AND (R45). -/
def execCellAnd (p c : Nat) (ev : FabEv) (s : State) : Result := cellCommand 0x04 p c ev s

/-- CELL_OR (R45). -/
def execCellOr (p c : Nat) (ev : FabEv) (s : State) : Result := cellCommand 0x05 p c ev s

/-- CELL_XOR (R45). -/
def execCellXor (p c : Nat) (ev : FabEv) (s : State) : Result := cellCommand 0x06 p c ev s

/-- CELL_ANDN (R45). -/
def execCellAndn (p c : Nat) (ev : FabEv) (s : State) : Result := cellCommand 0x07 p c ev s

/-- CELL_SHL (R45). -/
def execCellShl (p c : Nat) (ev : FabEv) (s : State) : Result := cellCommand 0x08 p c ev s

/-- CELL_SHR (R45). -/
def execCellShr (p c : Nat) (ev : FabEv) (s : State) : Result := cellCommand 0x09 p c ev s

/-- CELL_SAR (R45). -/
def execCellSar (p c : Nat) (ev : FabEv) (s : State) : Result := cellCommand 0x0A p c ev s

/-- CELL_ROL (R45). -/
def execCellRol (p c : Nat) (ev : FabEv) (s : State) : Result := cellCommand 0x0B p c ev s

/-- CELL_ROR (R45). -/
def execCellRor (p c : Nat) (ev : FabEv) (s : State) : Result := cellCommand 0x0C p c ev s

/-- CELL_EXTU (R46). -/
def execCellExtu (p c : Nat) (ev : FabEv) (s : State) : Result := cellCommand 0x0D p c ev s

/-- CELL_EXTS (R46). -/
def execCellExts (p c : Nat) (ev : FabEv) (s : State) : Result := cellCommand 0x0E p c ev s

/-- CELL_INS (R46). -/
def execCellIns (p c : Nat) (ev : FabEv) (s : State) : Result := cellCommand 0x0F p c ev s

/-- CELL_POPC (R45). -/
def execCellPopc (p c : Nat) (ev : FabEv) (s : State) : Result := cellCommand 0x10 p c ev s

/-- CELL_CLZ (R45). -/
def execCellClz (p c : Nat) (ev : FabEv) (s : State) : Result := cellCommand 0x11 p c ev s

/-- CELL_MINU (R45). -/
def execCellMinu (p c : Nat) (ev : FabEv) (s : State) : Result := cellCommand 0x12 p c ev s

/-- CELL_MAXU (R45). -/
def execCellMaxu (p c : Nat) (ev : FabEv) (s : State) : Result := cellCommand 0x13 p c ev s

/-- CELL_MINS (R45). -/
def execCellMins (p c : Nat) (ev : FabEv) (s : State) : Result := cellCommand 0x14 p c ev s

/-- CELL_MAXS (R45). -/
def execCellMaxs (p c : Nat) (ev : FabEv) (s : State) : Result := cellCommand 0x15 p c ev s

/-- CELL_CMPEQ (R45). -/
def execCellCmpeq (p c : Nat) (ev : FabEv) (s : State) : Result := cellCommand 0x16 p c ev s

/-- CELL_CMPNE (R45). -/
def execCellCmpne (p c : Nat) (ev : FabEv) (s : State) : Result := cellCommand 0x17 p c ev s

/-- CELL_CMPLTU (R45). -/
def execCellCmpltu (p c : Nat) (ev : FabEv) (s : State) : Result := cellCommand 0x18 p c ev s

/-- CELL_CMPLTS (R45). -/
def execCellCmplts (p c : Nat) (ev : FabEv) (s : State) : Result := cellCommand 0x19 p c ev s

/-- CELL_CMPLEU (R45). -/
def execCellCmpleu (p c : Nat) (ev : FabEv) (s : State) : Result := cellCommand 0x1A p c ev s

/-- CELL_CMPLES (R45). -/
def execCellCmples (p c : Nat) (ev : FabEv) (s : State) : Result := cellCommand 0x1B p c ev s

/-- CELL_SEL (R45). -/
def execCellSel (p c : Nat) (ev : FabEv) (s : State) : Result := cellCommand 0x1C p c ev s

/-- CELL_LFSR (R49). -/
def execCellLfsr (p c : Nat) (ev : FabEv) (s : State) : Result := cellCommand 0x1D p c ev s

/-- CELL_CRC8 (R47). -/
def execCellCrc8 (p c : Nat) (ev : FabEv) (s : State) : Result := cellCommand 0x1E p c ev s

/-- CELL_PAR (R48). -/
def execCellPar (p c : Nat) (ev : FabEv) (s : State) : Result := cellCommand 0x1F p c ev s

/-- CELL_QPUSH (R51). -/
def execCellQpush (p c : Nat) (ev : FabEv) (s : State) : Result := cellCommand 0x20 p c ev s

/-- CELL_QPOP (R52). -/
def execCellQpop (p c : Nat) (ev : FabEv) (s : State) : Result := cellCommand 0x21 p c ev s

/-- The head of a cell's pops, once answered, reaches the output register when it is empty (R52): a word is Y, with its
tags, and F = 1; an empty answer sets F = 0 and writes nothing else. A word that arrives while its context does not run goes to the context's own
register, and to S as the write of its cell in the present cycle (R38, R69). -/
def deliverPop (p n c : Nat) (s : State) : State :=
  let sl := (s.flask p).slot n
  let x := sl.ctx
  let fl := Tab.get CellFlags.reset x.flags c
  let w := x.cell c
  match Tab.get [] x.pops c with
  | .word q :: rest =>
    if (Tab.get TWord.empty x.out c).v then s else
    let s := s.modFlask p (fun f => f.modCtx n (fun x => { x with
      flags := Tab.set CellFlags.reset x.flags c { fl with f := true }
      k := if cfgKwe w then Tab.set 0 x.k (8 * c + cfgKdst w) q.d else x.k
      pops := Tab.set [] x.pops c rest }))
    let s := loadOut p n c (mkTWord q.d q.l q.i) s
    if cfgSwe w then writeS p c (cfgSdst w) q.d s else s
  | .empty :: rest =>
    s.modFlask p (fun f => f.modCtx n (fun x => { x with
      flags := Tab.set CellFlags.reset x.flags c { fl with f := false }
      pops := Tab.set [] x.pops c rest }))
  | _ => s

/-- Deliver as many answers of a cell as its register takes. -/
def deliverPops (p n c : Nat) : Nat → State → State
  | 0, s => s
  | k + 1, s => deliverPops p n c k (deliverPop p n c s)

/-- Put an answer in the place of the oldest pop that waits. -/
def answerPop (a : PopSlot) : List PopSlot → List PopSlot
  | [] => []
  | .waiting :: t => a :: t
  | x :: t => x :: answerPop a t

/-- QPOP_RESULT (R52, R63, R86): the answer to the oldest waiting pop of cell `c` of the context in slot `n` has come to the gate. A poisoned word
is not delivered and stops the flask, and so does one whose parity fails where it is received; a refused or offline pop returned no word. -/
def execQpopResult (p n c : Nat) (st : PopStatus) (w : QWord) (parity : Bool) (s : State) : Result :=
  let sl := (s.flask p).slot n
  let pops := Tab.get [] sl.ctx.pops c
  let delivers := st = .ok || st = .idle
  let node := s.flaskNode p
  let b : Body := .popResp st (if delivers then [w] else [])
  let s1 := s.takeAnswer node (popMark sl.ctxId c) b
  event (s.flaskLive p && pops.contains .waiting && s.answered node (popMark sl.ctxId c) b) s
    (if delivers && w.p then flaskFatal 0x4104 p c s1
     else if delivers && parity then flaskFatal 0x4103 p c s1
     else
       let a : PopSlot := if delivers then .word w else .empty
       let s2 := s1.modFlask p (fun f => f.modCtx n (fun x => { x with pops := Tab.set [] x.pops c (answerPop a pops) }))
       deliverPops p n c 4 s2)

end Sys2Proof.Machine
end

