-- ==== Sys2Proof/Machine/Fabric.lean ====
section
/-! DEFINITION. Block memory ports (R71-R85), lanes (R113), the end of a CLK_FAB cycle and the sequencer's choice
(R92-R104). -/

namespace Sys2Proof.Machine

/-! ### Block memories -/

/-- Array word and shift of the field a port address names, and the field's width (R77). -/
def aspectWord (asp a : Nat) : Nat :=
  match asp with
  | 0 => a % 1024
  | 1 => a / 2 % 1024
  | 2 => a / 4 % 1024
  | 3 => a / 8 % 1024
  | _ => 2 * (a % 512)
def aspectShift (asp a : Nat) : Nat :=
  match asp with
  | 1 => 16 * (a % 2)
  | 2 => 8 * (a % 4)
  | 3 => 4 * (a % 8)
  | _ => 0
def aspectBits (asp : Nat) : Nat :=
  match asp with
  | 1 => 16
  | 2 => 8
  | 3 => 4
  | _ => 32

/-- Block memory `m` of a flask, and its contents at the start of the cycle. -/
def Flask.bm (f : Flask) (m : Nat) : Tab Word := if m = 0 then f.bm0 else f.bm1
def Cycle.bm (y : Cycle) (m : Nat) : Tab Word := if m = 0 then y.bm0 else y.bm1

/-- Replace block memory `m`. -/
def Flask.setBm (f : Flask) (m : Nat) (t : Tab Word) : Flask := if m = 0 then { f with bm0 := t } else { f with bm1 := t }

/-- One write applied to an array: the bits of its mask. -/
def applyBmWrite (t : Tab Word) (w : BmWrite) : Tab Word :=
  Tab.modify 0 t w.word (fun v => (v &&& ~~~w.mask) ||| (w.data &&& w.mask))

/-- The array after the cycle's writes: port B's first and port A's second (R82). -/
def bmAfter (y : Cycle) (m : Nat) (ws : List BmWrite) : Tab Word :=
  let mine := ws.filter (fun w => w.mem = m)
  ((mine.filter (·.portB)) ++ (mine.filter (fun w => !w.portB))).foldl applyBmWrite (y.bm m)

/-- Two writes of one cycle overlap (R82). -/
def bmOverlap (a b : BmWrite) : Bool := a.mem = b.mem && a.word = b.word && a.mask &&& b.mask ≠ 0

/-- A write joins the cycle's writes; an overlap sets the context's COLLIDE flag. -/
def bmStore (p : Nat) (w : BmWrite) (s : State) : State :=
  let y := (s.flask p).cyc
  let s := if y.writes.any (bmOverlap w) then
      s.modFlask p (fun f => f.modRunning (fun x => { x with status := x.status ||| (if w.mem = 0 then 8 else 16) }))
    else s
  let ws := w :: y.writes
  s.modFlask p (fun f => { f.setBm w.mem (bmAfter y w.mem ws) with cyc := { f.cyc with writes := ws } })

/-- A memory that a recast copies has been written: the word is copied again (R129). Space 0 and 1 are BM0 and BM1, 2 X
and 3 Y of the crucible, 4 PM. -/
def markDirty (p space word : Nat) (s : State) : State :=
  let r := s.recast (p / 9)
  if s.recasting (p / 9) && r.source = p && !r.dirty.contains (space * 4096 + word) then
    s.modRecast (p / 9) (fun r => { r with dirty := r.dirty ++ [space * 4096 + word] })
  else s

/-- The port can fire in this cycle and has not done so. -/
def portCanFire (s : State) (p n : Nat) : Bool :=
  s.running p && n < 4 && !(s.flask p).cyc.fired.contains (136 + n) && !(stuckNow s p).contains (136 + n) &&
    portOn (s.flask p).cyc.ctx n

/-- A corrected block memory word is logged; one that a port's read corrected is written back from the next cycle on (R84). -/
def bmCorrected (p m word : Nat) (scrub : Bool) (s : State) : State :=
  let s := reportFlask 0x1101 p 0 s
  if scrub then s.modFlask p (fun f => { f with cyc := { f.cyc with corrected := (m * 1024 + word) :: f.cyc.corrected } }) else s

/-- The array word that port `n`'s access names in this cycle. -/
def portWord (y : Cycle) (n : Nat) : Nat :=
  let h := portHalf y.ctx n
  aspectWord (portAspect h) (regWord y (128 + portAddrSel h)).d.toNat

/-- A read fires (R79, R81): the words as they stood at the start of the cycle go to the read-data register at the end of
the next one. -/
def firePortRead (p n : Nat) (s : State) : State :=
  let y := (s.flask p).cyc
  let h := portHalf y.ctx n
  let a := regWord y (128 + portAddrSel h)
  let asp := portAspect h
  let wo := portWord y n
  let v := (Tab.get 0 (y.bm (n / 2)) wo >>> aspectShift asp a.d.toNat) &&& lowMask (aspectBits asp)
  let hi := Tab.get 0 (y.bm (n / 2)) (wo + 1)
  let s := takeReg p s (128 + portAddrSel h)
  markFired p (136 + n) (s.modFlask p (fun f => f.modRunning (fun x =>
    let pipe := Tab.set TWord.empty x.bmPipe n (mkTWord v a.l false)
    { x with
      bmRd := if ganged y.ctx n then Tab.set TWord.empty (Tab.set TWord.empty x.bmRd n (Tab.get .empty y.ctx.bmPipe n)) (n + 1) (Tab.get .empty y.ctx.bmPipe (n + 1))
        else Tab.set TWord.empty x.bmRd n (Tab.get .empty y.ctx.bmPipe n)
      bmPipe := if ganged y.ctx n then Tab.set TWord.empty pipe (n + 1) (mkTWord hi a.l false) else pipe
      bmAddr := Tab.set TWord.empty x.bmAddr n a })))

/-- A write fires (R80, R82): the field is merged; a narrow write keeps the port for one more cycle. A field narrower than 32 bits comes from the
low bits of D, where R77 has the read data of such a field (log 20, DEDUCED). -/
def firePortWrite (p n : Nat) (s : State) : State :=
  let y := (s.flask p).cyc
  let h := portHalf y.ctx n
  let a := regWord y (128 + portAddrSel h)
  let d := regWord y (128 + portWdSel h)
  let asp := portAspect h
  let wo := portWord y n
  let sh := aspectShift asp a.d.toNat
  let m := n / 2
  let s := (portTakes y n).eraseDups.foldl (fun s l => takeReg p s (128 + l)) s
  let s := bmStore p { mem := m, word := wo, mask := lowMask (aspectBits asp) <<< sh, data := d.d <<< sh, portB := n % 2 = 1 } s
  let s := markDirty p m wo s
  let s := if ganged y.ctx n then
      markDirty p m (wo + 1) (bmStore p
        { mem := m, word := wo + 1, mask := BitVec.allOnes 32, data := (regWord y (128 + portWdSel (portHalf y.ctx (n + 1)))).d, portB := false } s)
    else s
  let s := if aspectBits asp < 32 then
      s.modFlask p (fun f =>
        let f := f.modRunning (fun x => { x with bmWd := Tab.set TWord.empty x.bmWd n { d with v := true } })
        { f with cyc := { f.cyc with narrow := n :: f.cyc.narrow } })
    else s
  markFired p (136 + n) s

/-- BM_PORT_READ (R63, R79, R84): port `n` of flask `p` fires a read. `lo` is what the check of the word read finds and `hi` that of the upper word
of a ganged read; `parity` says that a word it receives fails its parity check. -/
def execBmPortRead (p n : Nat) (lo hi : Ecc) (parity : Bool) (s : State) : Result :=
  let y := (s.flask p).cyc
  let wd := portWord y n
  let two := ganged y.ctx n
  let bad := lo = .uncorrectable || (two && hi = .uncorrectable)
  let s1 := if lo = .corrected then bmCorrected p (n / 2) wd true s else s
  let s2 := if two && hi = .corrected then bmCorrected p (n / 2) (wd + 1) true s1 else s1
  event (portCanFire s p n && !portWrites y n) s
    (if parity then flaskFatal 0x4103 p 0 s
     else if bad then flaskFatal 0x4105 p 0 s
     else firePortRead p n s2)

/-- BM_PORT_WRITE (R63, R80, R82, R85): port `n` of flask `p` fires a write. A narrow write reads the word first, and `ecc` is
what that read finds. -/
def execBmPortWrite (p n : Nat) (ecc : Ecc) (parity : Bool) (s : State) : Result :=
  let y := (s.flask p).cyc
  let narrow := aspectBits (portAspect (portHalf y.ctx n)) < 32
  event (portCanFire s p n && portWrites y n) s
    (if parity then flaskFatal 0x4103 p 0 s
     else if !narrow then firePortWrite p n s else
     match ecc with
     | .ok => firePortWrite p n s
     | .corrected => firePortWrite p n (bmCorrected p (n / 2) (portWord y n) false s)
     | .uncorrectable => flaskFatal 0x4105 p 0 s)

/-- A port of memory `m` has fired a write in this cycle, or fires one in it yet. -/
def bmWritten (s : State) (p m : Nat) : Bool :=
  let y := (s.flask p).cyc
  y.writes.any (fun w => w.mem = m) || [2 * m, 2 * m + 1].any (fun n => portCanFire s p n && portWrites y n)

/-- The corrected words of memory `m` are written back. The stored values are the corrected ones, so the words do not change. -/
def bmScrubbed (p m : Nat) (s : State) : State :=
  s.modFlask p (fun f => { f with scrub := f.scrub.filter (fun x => x / 1024 ≠ m) })

/-- BM_SCRUB_WRITEBACK (R84): words of memory `m` that a read of an earlier cycle corrected are written back in the first cycle in which neither
of its ports fires a write. -/
def execBmScrubWriteback (p m : Nat) (s : State) : Result :=
  event (m < 2 && (s.flask p).scrub.any (fun x => x / 1024 = m) && !bmWritten s p m) s (bmScrubbed p m s)

/-! ### Lanes -/

/-- The edge cell of a lane (R108). -/
def laneCell (sl : Nat) : Nat :=
  let l := sl % 8
  match sl / 8 with
  | 0 => l
  | 1 => 8 * l + 7
  | 2 => 56 + l
  | _ => 8 * l

/-- The edge cell's word moves across lane `sl` in this cycle (R113). -/
def laneCanCross (s : State) (p sl : Nat) : Bool :=
  let f := s.flask p
  let e := fabEnv s p
  let c := laneCell sl
  s.running p && sl < 32 && !f.cyc.fired.contains (140 + sl) && (lanesOf f.cyc.ctx c).contains sl &&
    (regWord f.cyc c).v && regMoves e (stuckNow s p) c && laneReady s p sl

/-- A word crosses a lane (R107, R113, R116): one credit is used and the word joins the destination context's input buffer. -/
def crossLane (p sl : Nat) (s : State) : State :=
  let f := s.flask p
  let w := regWord f.cyc (laneCell sl)
  let key := creditKey (f.slot f.cur).ctxId sl
  let s := takeReg p (markActed p (140 + sl) s) (laneCell sl)
  let s := s.modFlask p (fun f => { f with credits := Tab.modify 4 f.credits key (fun n => n - 1) })
  match neighbour f.logical (sl / 8) with
  | none => s
  | some k =>
    let q := s.physOf k
    match (s.flask q).residentSlot (byteOf f.cyc.ctx.dest (sl / 8)) with
    | none => s
    | some n => s.modFlask q (fun g => g.modCtx n (fun x => { x with
        inbuf := Tab.modify [] x.inbuf (8 * facing (sl / 8) + sl % 8) (· ++ [w]) }))

/-- BOUNDARY_CROSS (R63, R113): the word of the edge cell of lane `sl` (8·side + lane) of flask `p` crosses. Where its parity fails at the
receiving buffer, the flask that holds the buffer stops. -/
def execBoundaryCross (p sl : Nat) (parity : Bool) (s : State) : Result :=
  let q := match neighbour (s.flask p).logical (sl / 8) with
    | some k => s.physOf k
    | none => p
  event (laneCanCross s p sl) s (if parity then flaskFatal 0x4103 q 0 s else crossLane p sl s)

/-- The lanes of a flask whose words cross in its present cycle and have not yet done so. -/
def lanesDue (s : State) (p : Nat) : List Nat := (List.range 32).filter (laneCanCross s p)

/-- They cross now. -/
def crossDue (p : Nat) (s : State) : State := (lanesDue s p).foldl (fun s sl => crossLane p sl s) s

/-- The same for the four neighbours of a flask, whose words would find it changed: nothing in flight is lost (R34). -/
def crossInto (p : Nat) (s : State) : State :=
  ([0, 1, 2, 3].filterMap (neighbour (s.flask p).logical)).foldl (fun s k => crossDue (s.physOf k) s) s

/-! ### The end of a cycle -/

/-- The source cell of a quad track and whether the track is enabled (R67). -/
def quadSource (x : Ctx) (q : Nat) : Option Nat :=
  let sel := Tab.get 0#3 x.qsel q
  let off := (sel.extractLsb' 0 2).toNat
  if !sel.getLsbD 2 then none
  else if q < 32 then some (8 * (q / 4) + 4 * (q % 4 / 2) + off)
  else let v := q - 32; some (8 * (4 * (v % 4 / 2) + off) + v / 4)

/-- The words that move onto a long line in this cycle: those of every driver that holds one, where it takes them (R65, R66). -/
def longTaken (e : FabEnv) (stuck : List Nat) (l : Nat) : List TWord :=
  if stuck.contains (128 + l) then [] else (lineWords e l).map (regWord e.y)

/-- The OR of the words, with parity afresh (R65). -/
def orWords (ws : List TWord) : TWord :=
  if ws.isEmpty then .empty
  else mkTWord (ws.foldl (fun a w => a ||| w.d) 0) (ws.any (·.l)) (ws.any (·.i))

/-- The read whose data port `n` carries fired in this cycle: port A's of a ganged memory. -/
def readFired (e : FabEnv) (fired : List Nat) (n : Nat) : Bool :=
  let owner := if ganged e.y.ctx n then n / 2 * 2 else n
  fired.contains (136 + owner) && !portWrites e.y owner

/-- The ports whose read-data registers can take what their reads have in flight: no read of them fired in this cycle, and the register empties,
both of them where the memory is ganged (R79). -/
def pipesMove (e : FabEnv) (stuck fired : List Nat) : List Nat :=
  [0, 1, 2, 3].filter (fun n =>
    let two := n / 2 * 2
    (if ganged e.y.ctx n then regEmpties e stuck (136 + two) && regEmpties e stuck (137 + two) else regEmpties e stuck (136 + n)) &&
      !readFired e fired n)

/-- The registers of the running context that the cycle's end writes: quad tracks, long lines, outputs taken by tracks
alone, and read-data registers (R64-R67, R79). Two drivers of a line that hold words at once set CONTENTION, whether or not the line takes them in
this cycle (R66). -/
def settleCtx (e : FabEnv) (stuck fired loaded : List Nat) (x : Ctx) : Ctx :=
  let y := e.y
  let quadKeys := (List.range 64).filter (fun q => (quadSource y.ctx q).isSome || (regWord y (64 + q)).v)
  let quad := quadKeys.foldl (fun t q =>
    if !quadEmpties e stuck q then t else
    match quadSource y.ctx q with
    | some c => if (regWord y c).v && regMoves e stuck c then Tab.set TWord.empty t q (regWord y c)
        else Tab.set TWord.empty t q .empty
    | none => Tab.set TWord.empty t q .empty) x.quad
  let long := (List.range 8).foldl (fun t l =>
    if longEmpties e stuck l then Tab.set TWord.empty t l (orWords (longTaken e stuck l)) else t) x.long
  let out := (y.ctx.out.map (·.1)).foldl (fun t c =>
    if (regWord y c).v && regMoves e stuck c && !loaded.contains c && (cellReaders e c).isEmpty then Tab.set TWord.empty t c .empty else t) x.out
  let moves := pipesMove e stuck fired
  let bmRd := [0, 1, 2, 3].foldl (fun t n =>
    if moves.contains n then Tab.set TWord.empty t n (Tab.get .empty y.ctx.bmPipe n)
    else if regMoves e stuck (136 + n) && !readFired e fired n then Tab.set TWord.empty t n .empty
    else t) x.bmRd
  let bmPipe := moves.foldl (fun t n => Tab.set TWord.empty t n .empty) x.bmPipe
  let bmAddr := moves.foldl (fun t n => Tab.set TWord.empty t n .empty) x.bmAddr
  let clash := (List.range 8).any (fun l => 2 ≤ (lineWords e l).length)
  { x with quad := quad, long := long, out := out, bmRd := bmRd, bmPipe := bmPipe, bmAddr := bmAddr,
           status := if clash then x.status ||| 1 else x.status }

/-- The crucible's stream FIFOs at the cycle's end: inputs take the words of their lines, outputs drop a taken head. -/
def settleStreams (e : FabEnv) (stuck : List Nat) (c : Cru) : Cru :=
  let si := [0, 1, 2, 3].foldl (fun t k =>
    let l := streamLine e.cruPorts k
    if streamEn e.cruPorts k && (regWord e.y (128 + l)).v && longMoves e stuck l then
      Tab.modify [] t k (· ++ [regWord e.y (128 + l)]) else t) c.si
  let so := [0, 1, 2, 3].foldl (fun t k =>
    if (regWord e.y (176 + k)).v && regMoves e stuck (176 + k) then Tab.modify [] t k (List.drop 1) else t) c.so
  { c with si := si, so := so }

/-- The second cycle of each narrow write ends (R80, R81), the words that reads of earlier cycles corrected are written back where no port of their
memory wrote (R84), and those this cycle's reads corrected wait for the next one. -/
def endMemories (p : Nat) (s : State) : State :=
  let y := (s.flask p).cyc
  let written (m : Nat) : Bool := y.writes.any (fun w => w.mem = m)
  s.modFlask p (fun f =>
    let f := f.wb.foldl (fun (f : Flask) e => f.modSlot e.1 (fun x => { x with ctx := { x.ctx with bmWd := Tab.set TWord.empty x.ctx.bmWd e.2 .empty } })) f
    { f with wb := y.narrow.map (fun n => (f.cur, n))
             scrub := f.scrub.filter (fun x => written (x / 1024)) ++ y.corrected.reverse })

/-- The cycle ends (R62): every cell, port and lane that can fire and has not been commanded fires, then the tracks take
their words. -/
def endCycle (p : Nat) (s : State) : State :=
  if !s.running p then endMemories p s else
  let e := fabEnv s p
  let stuck := stuckNow s p
  let done := e.y.fired
  let s := (e.cells.filter (fun c => !stuck.contains c && !done.contains c)).foldl (fun s c => fireCell p c s) s
  let s := ([0, 1, 2, 3].filter (fun n => portOn e.y.ctx n && !stuck.contains (136 + n) && !done.contains (136 + n))).foldl
    (fun s n => if portWrites e.y n then firePortWrite p n s else firePortRead p n s) s
  let lanes := (List.range 32).filter (fun sl => !done.contains (140 + sl) && (lanesOf e.y.ctx (laneCell sl)).contains sl &&
    (regWord e.y (laneCell sl)).v && regMoves e stuck (laneCell sl))
  let s := lanes.foldl (fun s sl => crossLane p sl s) s
  let y := (s.flask p).cyc
  let s := s.modFlask p (fun f => f.modSlot f.cur (fun x =>
    let z := settleCtx e stuck y.fired y.loaded x.ctx
    { x with ctx := z, moved := x.moved || decide (z ≠ x.ctx) }))
  let s := s.modCru p (settleStreams e stuck)
  let n := (s.flask p).cur
  endMemories p ((((s.flask p).slot n).ctx.pops.map (·.1)).foldl (fun s c => deliverPops p n c 4 s) s)

/-- Some word moves into a track register, a read-data register or a crucible stream input at the end of this cycle, so a parity check is made
there (R63). -/
def tracksMove (s : State) (p : Nat) : Bool :=
  let e := fabEnv s p
  let stuck := stuckNow s p
  s.running p && ((List.range 8).any (fun l => longEmpties e stuck l && !(longTaken e stuck l).isEmpty) ||
    (List.range 4).any (fun k => streamEn e.cruPorts k && (regWord e.y (128 + streamLine e.cruPorts k)).v && longMoves e stuck (streamLine e.cruPorts k)) ||
    (pipesMove e stuck e.y.fired).any (fun n => (Tab.get TWord.empty e.y.ctx.bmPipe n).v) ||
    (List.range 64).any (fun q => match quadSource e.y.ctx q with
      | some c => (regWord e.y c).v && quadEmpties e stuck q && regMoves e stuck c
      | none => false))

/-- The present cycle of a flask ends before its time and no other is open: the flask is to be held still. The sequencer's choice stands. -/
def closeCycle (p : Nat) (s : State) : State := (endCycle p s).modFlask p (fun f => { f with cyc := .reset })

/-! ### The sequencer -/

/-- SEQ_CFG and its fields (R138). -/
def State.seqCfg (s : State) (p : Nat) : Word := s.settingW (0x4000 + p) 2
def seqMinRun (w : Word) : Nat := (w.extractLsb' 24 8).toNat
def seqStatic (w : Word) : Nat := (w.extractLsb' 16 4).toNat
def seqDefault (w : Word) : Nat := (w.extractLsb' 12 4).toNat
def seqIrqEn (w : Word) : Bool := w.getLsbD 8
/-- BASE: 0 static, 1 event table, 2 dispatch; 3 acts as static. -/
def seqBase (w : Word) : Nat := if (w.extractLsb' 0 2).toNat = 3 then 0 else (w.extractLsb' 0 2).toNat

/-- Event-table entry `n` (R96). -/
def State.eventEntry (s : State) (p n : Nat) : Word := s.settingW (0x4000 + p) (0x20 + n)
def evEn (w : Word) : Bool := w.getLsbD 31
def evUrgent (w : Word) : Bool := w.getLsbD 30
def evSlot (w : Word) : Nat := (w.extractLsb' 16 4).toNat

/-- A watch register of the flask's gate: EN and the queue (R135). -/
def State.watchReg (s : State) (p i : Nat) : Word := s.settingW (0x4000 + p) (7 + i)

/-- The condition of an entry before INV (R97); none for a reserved code. -/
def condition (s : State) (p : Nat) (w : Word) : Option Bool :=
  let f := s.flask p
  let arg := w.toNat % 65536
  let side := arg % 4
  let lane := arg / 4 % 8
  let x := f.slot (evSlot w)
  let here := x.st = .resident
  match (w.extractLsb' 25 4).toNat with
  | 0 => some true
  | 1 => some ((s.watchReg p (arg % 4)).getLsbD 31 && Tab.get false f.watchNe (arg % 4))
  | 2 => some ((s.watchReg p (arg % 4)).getLsbD 31 &&
      decide (0 < (s.producer (s.flaskNode p) ((s.watchReg p (arg % 4)).toNat % 2 ^ 18)).credits))
  | 3 => some (here && !(Tab.get [] x.ctx.inbuf (8 * side + lane)).isEmpty)
  | 4 => some (here && ((Tab.get [] x.ctx.inbuf (8 * side + lane)).head?.map (·.l)).getD false)
  | 5 => some (here && decide (0 < Tab.get 4 f.credits (creditKey x.ctxId (8 * side + lane))))
  | 6 => some (!(Tab.get [] (s.cru p).so (arg % 4)).isEmpty)
  | 7 => some (decide ((Tab.get [] (s.cru p).si (arg % 4)).length < 4))
  | 8 => some ((Tab.get 0 f.s (arg % 4)).getLsbD (arg / 4 % 32))
  | _ => none

/-- An enabled entry is true. -/
def entryTrue (s : State) (p n : Nat) : Bool :=
  let w := s.eventEntry p n
  evEn w && (match condition s p w with
    | some b => b ^^ w.getLsbD 29
    | none => false)

/-- Some enabled urgent entry is true while IRQ_EN = 1 (R104). -/
def urgentTrue (s : State) (p : Nat) : Bool :=
  seqIrqEn (s.seqCfg p) && (List.range 16).any (fun n => evUrgent (s.eventEntry p n) && entryTrue s p n)

/-- The slot of the lowest true entry that is not urgent and names a runnable slot. With IRQ_EN = 0 the URGENT bit is
ignored (R96). -/
def eventSlot (s : State) (p : Nat) : Option Nat :=
  let irq := seqIrqEn (s.seqCfg p)
  ((List.range 16).find? (fun n => !(irq && evUrgent (s.eventEntry p n)) && entryTrue s p n &&
    (s.flask p).runnable (evSlot (s.eventEntry p n)))).map (fun n => evSlot (s.eventEntry p n))

/-- The slot the base source chooses (rule 4 of R93). -/
def baseSlot (s : State) (p : Nat) : Option Nat :=
  let f := s.flask p
  let c := s.seqCfg p
  match seqBase c with
  | 0 => if f.runnable (seqStatic c) then some (seqStatic c) else none
  | 1 => eventSlot s p
  | _ => match f.fifo.head? with
    | some d => (match f.residentSlot d.ctxId with
      | some n => if f.runnable n then some n else none
      | none => none)
    | none => none

/-- The slot chosen for the next cycle by the first rule that applies (R93); 16 for none. -/
def chooseSlot (s : State) (p : Nat) : Nat :=
  let f := s.flask p
  let c := s.seqCfg p
  if !s.flaskLive p || s.heldStill p then 16
  else if urgentTrue s p && f.runnable 15 then 15
  else if seqBase c = 1 && f.cur < 16 && f.runLen < seqMinRun c && f.runnable f.cur then f.cur
  else match baseSlot s p with
    | some n => n
    | none => if f.runnable (seqDefault c) then seqDefault c else 16

/-- The engine has a fill of context `x` before it that the dispatch FIFO asked for. -/
def fillWaits (f : Flask) (x : Nat) : Bool := f.eng.any (fun r => match r with
  | .fill y _ => y = x
  | _ => false)

/-- Place the one fill request of the head dispatch entry, if its context is not resident and the engine has room
(R101, R123). A request already made stands while the engine has it; a context that has been evicted since is asked for again. In DRAIN new
requests are held (R129). -/
def dispatchFill (p : Nat) (s : State) : State :=
  let f := s.flask p
  match f.fifo with
  | d :: rest =>
    if (d.fillAsked && fillWaits f d.ctxId) || (f.slotOf d.ctxId).isSome || s.engineHeld p || 4 ≤ f.eng.length || seqBase (s.seqCfg p) ≠ 2 then s
    else s.modFlask p (fun f => { f with fifo := { d with fillAsked := true } :: rest, eng := f.eng ++ [.fill d.ctxId 16] })
  | [] => s

/-- Throttling withholds this cycle (R768). -/
def throttled (s : State) (p : Nat) : Bool :=
  s.power.throttling && (s.flask p).cycles % 8 < s.settingN 0x2140 4

/-- The next cycle begins: its slot, the counters and the words as they stand (R92, R94, R100, R135). -/
def beginCycle (p : Nat) (s : State) : State :=
  let f := s.flask p
  let was := f.cur
  let cur := if throttled s p then 16 else f.nxt
  let x := (f.slot cur).ctx
  let c := s.cru p
  let f := { f with
    prev := was, cur := cur, cycles := f.cycles + 1
    runLen := if cur = was then f.runLen + 1 else 1
    idleCycles := if cur = 16 then f.idleCycles + 1 else f.idleCycles
    switches := if cur ≠ was then f.switches + 1 else f.switches
    fifo := match f.fifo with
      | d :: rest => if cur < 16 && (f.slot cur).ctxId = d.ctxId then { d with ran := d.ran + 1 } :: rest else d :: rest
      | [] => []
    cyc := if cur = 16 then .reset else
      { Cycle.reset with on := true, ctx := x, s := f.s, bm0 := f.bm0, bm1 := f.bm1, so := c.so, si := c.si } }
  let f := if cur < 16 then f.modSlot cur (fun y => { y with lastRun := f.cycles }) else f
  s.modFlask p (fun _ => f)

/-- A cycle of a flask that is held still (R93, R94, R129): no slot runs, the sequencer's choice stands, and what the memories still have to do
ends. -/
def heldCycle (p : Nat) (s : State) : State :=
  (endMemories p s).modFlask p (fun f => { f with cycles := f.cycles + 1, idleCycles := f.idleCycles + 1, cyc := .reset })

/-- The conditions are evaluated as they stand at the start of the cycle: the choice for the next one (R92), an urgent
entry that slot 15 cannot serve is counted (R104), and the head dispatch entry asks for its fill (R101). -/
def makeChoice (p : Nat) (s : State) : State :=
  let blocked := urgentTrue s p && !(s.flask p).runnable 15
  let n := chooseSlot s p
  dispatchFill p (s.modFlask p (fun f => { f with nxt := n, irqBlocked := if blocked then f.irqBlocked + 1 else f.irqBlocked }))

/-- The fabric trigger (R670, R700): the selected bit of an S register of the selected logical flask passes from 0 to 1 at the end of a
cycle. -/
def fabTrigger (p : Nat) (before after : State) : State :=
  let c := before.settingW 0x2300 3
  let r := (c.extractLsb' 6 2).toNat
  let b := (c.extractLsb' 0 5).toNat
  if c.getLsbD 25 && before.physOf (c.extractLsb' 8 6).toNat = p && (before.flask p).cur < 16 &&
      !(Tab.get 0 (before.flask p).cyc.s r).getLsbD b && (Tab.get 0 (after.flask p).s r).getLsbD b then chillDue 4 after
  else after

/-- SEQUENCER_CHOICE (R93): the flask's cycle ends, the slot chosen in it runs in the next one, and the choice after that
is made. While the flask is held still no slot runs (rule 1). -/
def execSequencerChoice (p : Nat) (ev : FabEv) (s : State) : Result :=
  event (s.flaskLive p) s
    (if s.heldStill p then heldCycle p s
     else if ev = .parity && tracksMove s p then flaskFatal 0x4103 p 0 s
     else makeChoice p (beginCycle p (fabTrigger p s (endCycle p s))))

end Sys2Proof.Machine
end

