-- ==== Sys2Proof/Machine/CruOps.lean ====
section
/-! DEFINITION. What a crucible instruction does (R143-R188): registers, addressing, MAC lanes, extraction, flow. An
instruction reads the crucible as it stood at the start of its cycle (`o` below) and writes the crucible in which the
late writes of the cycle before have landed (`c`), so a later-issued write stands (R154). -/

namespace Sys2Proof.Machine

/-! ### Status bits (R147) -/

def stM1024 (w : Word) : Bool := w.getLsbD 31
def stFrac (w : Word) : Bool := w.getLsbD 30
def stSat (w : Word) (k : Nat) : Bool := w.getLsbD (26 + k)
def stIe (w : Word) : Bool := w.getLsbD 25
def stIip (w : Word) : Bool := w.getLsbD 24

/-- A bit of a word set to a value. -/
def putBit (w : Word) (n : Nat) (b : Bool) : Word :=
  if b then w ||| (1#32 <<< n) else w &&& ~~~(1#32 <<< n)

/-- The bits a program write to ST sets: all but IIP, LTAG, ITAG and the reserved bit. -/
abbrev stWritable : Word := 0xFEFF8FFF#32

/-- SV3-SV0, EOV3-EOV0 and XS, which the device never clears (R148), and LTAG and ITAG, which are those of the last word taken (R147). -/
abbrev stKept : Word := 0x00FFE000#32

/-- ST after a RETI (R165): IST's program bits, with the sticky bits also as they stand and the tags as they stand; no handler runs
(log 25, DEDUCED from R147, R148 and R165). -/
def restoredSt (st ist : Word) : Word := (ist &&& stWritable) ||| (st &&& stKept)

/-! ### Registers (R145) -/

/-- Data register `n`. -/
def Cru.d (c : Cru) (n : Nat) : Word := Tab.get 0 c.regs (n % 8)
def Cru.setD (c : Cru) (n : Nat) (v : Word) : Cru := { c with regs := Tab.set 0 c.regs (n % 8) v }
/-- One half of a data register. -/
def Cru.setHalf (c : Cru) (n : Nat) (high : Bool) (v : BitVec 16) : Cru :=
  c.setD n (if high then v ++ (c.d n).extractLsb' 0 16 else (c.d n).extractLsb' 16 16 ++ v)
def Cru.half (c : Cru) (n : Nat) (high : Bool) : BitVec 16 := if high then (c.d n).extractLsb' 16 16 else (c.d n).extractLsb' 0 16
/-- A stored register by MOV number: P, N, M, E, IRA, IST. -/
def Cru.reg (c : Cru) (n : Nat) : Word := Tab.get 0 c.regs n
def Cru.setReg (c : Cru) (n : Nat) (v : Word) : Cru := { c with regs := Tab.set 0 c.regs n v }
/-- Accumulator `k` and its epoch as integers. -/
def Cru.a (c : Cru) (k : Nat) : BitVec 40 := Tab.get 0 c.acc k
def Cru.setA (c : Cru) (k : Nat) (v : BitVec 40) : Cru := { c with acc := Tab.set 0 c.acc k v }
def Cru.e (c : Cru) (k : Nat) : BitVec 16 := (c.reg (0x1C + k)).setWidth 16
def Cru.setE (c : Cru) (k : Nat) (v : BitVec 16) : Cru := c.setReg (0x1C + k) (v.setWidth 32)

/-- The value a MOV, or the window, reads at a number. -/
def Cru.read (c : Cru) (n : Nat) : Word :=
  if n < 0x08 then c.d n
  else if n < 0x10 then c.reg n
  else if n < 0x14 then ((c.reg n).setWidth 16).signExtend 32
  else if n < 0x1C then c.reg n
  else if n < 0x20 then (c.e (n - 0x1C)).signExtend 32
  else if n < 0x24 then (c.a (n - 0x20)).setWidth 32
  else if n < 0x28 then ((c.a (n - 0x24)).extractLsb' 32 8).signExtend 32
  else if n = 0x28 then c.win.setWidth 32
  else if n = 0x29 then c.win.extractLsb' 32 32
  else if n = 0x2A then c.status
  else if n = 0x2B then BitVec.ofNat 32 c.hlim
  else c.reg n

/-- Write a register by number, each taking the low bits of its width. -/
def Cru.write (c : Cru) (n : Nat) (v : Word) : Cru :=
  if n < 0x08 then c.setD n v
  else if n < 0x10 then c.setReg n (v &&& 0xFFF#32)
  else if n < 0x14 then c.setReg n (v &&& 0xFFFF#32)
  else if n < 0x1C then c.setReg n (v &&& 0xFDFFFFFF#32)
  else if n < 0x20 then c.setE (n - 0x1C) (v.setWidth 16)
  else if n < 0x24 then c.setA (n - 0x20) ((c.a (n - 0x20)).extractLsb' 32 8 ++ v)
  else if n < 0x28 then c.setA (n - 0x24) (v.setWidth 8 ++ (c.a (n - 0x24)).extractLsb' 0 32)
  else if n = 0x28 then { c with win := c.win.extractLsb' 32 32 ++ v }
  else if n = 0x29 then { c with win := v ++ c.win.extractLsb' 0 32 }
  else if n = 0x2A then { c with status := (c.status &&& ~~~stWritable) ||| (v &&& stWritable) }
  else if n = 0x2B then { c with hlim := v.toNat % 65536 }
  else if n = 0x2C then c.setReg n (v &&& 0xFFF#32)
  else c.setReg n v

/-- Late writes land (R153). -/
def landOne (c : Cru) (l : LateWrite) : Cru :=
  if l.half = 2 then c.setD l.reg l.value else c.setHalf l.reg (l.half = 1) (l.value.setWidth 16)
def land (c : Cru) : Cru := c.late.foldl landOne { c with late := [] }

/-! ### Addressing (R149-R152) -/

/-- A register as address generation sees it: the old value in the cycle after a MOV (R153). -/
def Cru.addrReg (c : Cru) (n : Nat) : Word := ((c.shadow.find? (fun e => e.1 = n)).map (·.2)).getD (c.reg n)

/-- An integer reduced to 0 … m − 1. -/
def wrapInt (x : Int) (m : Nat) : Nat := (x % (m : Int)).toNat

/-- The largest k with 2^k ≤ n, for n from 1 to 4,096. -/
def floorLog (n : Nat) : Nat := ((List.range 13).filter (fun k => 2 ^ k ≤ n)).length - 1

/-- The low `k` bits reversed. -/
def revBits : Nat → Nat → Nat
  | 0, _ => 0
  | k + 1, n => n % 2 * 2 ^ k + revBits k (n / 2)

/-- The step of a pointer (R150) under its M register. -/
def stepPointer (m : Word) (p : Nat) (s : Int) : Nat :=
  let len0 := (m.extractLsb' 12 13).toNat
  let len := if len0 = 0 || 4096 < len0 then 4096 else len0
  let base := (m.extractLsb' 0 12).toNat
  match (m.extractLsb' 30 2).toNat with
  | 1 =>
    let o := (p + 4096 - base) % 4096
    (base + wrapInt (((if len ≤ o then o % len else o : Nat) : Int) + s) len) % 4096
  | 2 =>
    let k := floorLog len
    let o := (p + 4096 - base) % 4096 % 2 ^ k
    (base + revBits k (wrapInt ((revBits k o : Int) + s) (2 ^ k))) % 4096
  | _ => wrapInt ((p : Int) + s) 4096

/-- An index register as a signed step. -/
def Cru.index (c : Cru) (n : Nat) : Int := ((c.addrReg (0x10 + n)).setWidth 16).toInt

/-- The configured step of pointer `q`. -/
def Cru.configured (c : Cru) (q : Nat) : Int :=
  let m := c.addrReg (0x14 + q)
  let n := c.index (m.extractLsb' 26 2).toNat
  match (m.extractLsb' 28 2).toNat with
  | 0 => 1
  | 1 => -1
  | 2 => n
  | _ => -n

/-- The address pointer `q` gives in this cycle. -/
def Cru.pointer (c : Cru) (q : Nat) : Nat := (c.addrReg (0x08 + q)).toNat % 4096

/-- Pointer `q` takes a step: written at the end of the cycle, unless a MOV of the cycle before wrote it (R154). -/
def postModify (o c : Cru) (q : Nat) (s : Int) : Cru :=
  if o.shadow.any (fun e => e.1 = 0x08 + q) then c
  else c.setReg (0x08 + q) (BitVec.ofNat 32 (stepPointer (o.addrReg (0x14 + q)) (o.pointer q) s))

/-- The step that a load, store or MODP names in [20:19] (R152, R181); none leaves the pointer unchanged. -/
def namedStep (o : Cru) (w : Word) (q : Nat) : Option Int :=
  match (w.extractLsb' 19 2).toNat with
  | 0 => some (o.configured q)
  | 1 => none
  | 2 => some (o.index (w.extractLsb' 17 2).toNat)
  | _ => some (w.extractLsb' 9 8).toInt

/-- The memory a pointer addresses, read at an address: X for P0-P3, Y for P4-P7. -/
def Cru.mem (c : Cru) (q a : Nat) : Word := Tab.get 0 (if q < 4 then c.x else c.y) a
def Cru.store (c : Cru) (q a : Nat) (v : Word) : Cru :=
  if q < 4 then { c with x := Tab.set 0 c.x a v } else { c with y := Tab.set 0 c.y a v }

/-! ### Which operation a word is (R181) -/

/-- The operations, one for each CRU_ command. -/
inductive CruOp where
  | nop | halt | b | call | ret | reti | rep | brep | ei | di | mov | load | store | modp
  | add | sub | and | or | xor | andn | shl | shr | sar | cmp
  | mpy | mac | msu | macs | cmpy | cmac | cmsu | cmacj | clr | ext32 | ext16 | sin | sout
  deriving DecidableEq, Repr

/-- The control class. -/
def controlOp (w : Word) : Option CruOp :=
  match (w.extractLsb' 24 4).toNat with
  | 0 => some .nop | 1 => some .halt | 2 => some .b | 3 => some .call | 4 => some .ret
  | 5 => some .reti | 6 => some .rep | 7 => some .brep | 8 => some .ei | 9 => some .di
  | _ => none

/-- The ALU class. -/
def aluOp (w : Word) : Option CruOp :=
  match (w.extractLsb' 24 4).toNat with
  | 0 => some .add | 1 => some .sub | 2 => some .and | 3 => some .or | 4 => some .xor
  | 5 => some .andn | 6 => some .shl | 7 => some .shr | 8 => some .sar | 9 => some .cmp
  | _ => none

/-- The MAC class, whose operations become complex ones in 1024 mode (R178); SIGN 0b11 is illegal in native mode. -/
def macOp (m1024 : Bool) (w : Word) : Option CruOp :=
  if !m1024 && (w.extractLsb' 23 2).toNat = 3 then none else
  match (w.extractLsb' 25 3).toNat with
  | 0 => some (if m1024 then .cmpy else .mpy)
  | 1 => some (if m1024 then .cmac else .mac)
  | 2 => some (if m1024 then .cmsu else .msu)
  | 3 => some (if m1024 then .cmacj else .macs)
  | _ => none

/-- The operation of an instruction word; none where it is illegal. -/
def cruOp (m1024 : Bool) (w : Word) : Option CruOp :=
  match (w.extractLsb' 28 4).toNat with
  | 0 => controlOp w
  | 1 => if 0x2D < (w.extractLsb' 22 6).toNat || (!w.getLsbD 21 && 0x2D < (w.extractLsb' 15 6).toNat) then none else some .mov
  | 2 => if w.getLsbD 8 then some .modp else if w.getLsbD 27 then some .store else some .load
  | 3 => aluOp w
  | 4 => macOp m1024 w
  | 5 => match (w.extractLsb' 24 4).toNat with
    | 0 => some .clr | 1 => some .ext32 | 2 => some .ext16
    | _ => none
  | 7 => some (if w.getLsbD 27 then .sout else .sin)
  | _ => none

/-- A control instruction in the sense of R156: not allowed in a delay slot, nor repeated by REP (R157). -/
def isControl (op : CruOp) : Bool :=
  op = .b || op = .call || op = .ret || op = .reti || op = .rep || op = .brep || op = .halt

/-! ### Flow (R153, R157-R162) -/

/-- A level whose body holds an address. -/
def RepLevel.holds (l : RepLevel) (a : Nat) : Bool := l.first ≤ a && a ≤ l.last

/-- The address after the instruction at `pc`, with the repeat levels it ends or repeats: levels, next address, whether an
iteration boundary of the innermost level was passed and whether it costs two cycles (R158, R159). -/
def afterBody (pc : Nat) : List RepLevel → List RepLevel × Nat × Bool × Bool
  | [] => ([], (pc + 1) % 4096, false, false)
  | l :: ls =>
    if l.last = pc then
      if 1 < l.left then ({ l with left := l.left - 1 } :: ls, l.first, true, 16 < l.last - l.first + 1)
      else afterBody pc ls
    else (l :: ls, (pc + 1) % 4096, false, false)

/-- Some interrupt source is true: 0-3 SIk holds a word, 4-7 SOk has room. -/
def sourceTrue (c : Cru) (n : Nat) : Bool :=
  if n < 4 then !(Tab.get [] c.si n).isEmpty else decide ((Tab.get [] c.so (n - 4)).length < 4)
/-- The lowest source that IMASK enables and that is true. -/
def enabledSource (c : Cru) : Option Nat := (List.range 8).find? (fun n => c.status.getLsbD n && sourceTrue c n)

/-- The hold-off counter of a cycle in which no interrupt is accepted (R167). -/
def countHoldoff (c : Cru) : Cru :=
  if (enabledSource c).isSome then { c with holdoff := c.holdoff + 1 }
  else { c with holdoff := 0, holdLogged := false }

/-- A cycle in which no instruction executes passes: late writes land, and it counts as one spent RUNNING (R159, R167, R191). -/
def idleCycle (c : Cru) : Cru := { countHoldoff (land c) with shadow := [], stall := false, cycles := c.cycles + 1 }

/-- The repeat levels that flow may end or repeat, innermost first: those an interrupt found active stay as they are through its handler (R166). -/
def Cru.own (c : Cru) : List RepLevel := c.reps.take (c.reps.length - c.kept)
/-- The same crucible with these instead. -/
def Cru.withOwn (c : Cru) (l : List RepLevel) : Cru := { c with reps := l ++ c.reps.drop (c.reps.length - c.kept) }

/-- Move on from the instruction at `pc` with no branch under way. -/
def advance (pc : Nat) (c : Cru) : Cru :=
  let (reps, next, between, long) := afterBody pc c.own
  let c := { c.withOwn reps with pc := next, between := between }
  if long then idleCycle (idleCycle c) else c

/-- A branch's delay slots are over: execution continues at the target. RET continues behind its CALL's second delay slot, where a body may end
(R158); RETI restores ST and the levels that were kept for it, and the boundary is the one at which the interrupt was accepted (R163, R165). -/
def takeTarget (c : Cru) : Cru :=
  let d := { c with pc := c.target, delay := 0, between := false, returns := false, reti := false }
  if c.reti then
    let ira := (c.reg 0x2C).toNat
    { d with status := restoredSt c.status (c.reg 0x2D), pc := ira, kept := 0, keptBetween := false
             between := c.keptBetween && c.reps.head?.any (fun l => l.first = ira) }
  else if c.returns then advance ((c.target + 4095) % 4096) d
  else d

/-- Move on from an instruction that is not control: a repeat in progress, a delay slot, or the next address. -/
def moveOn (c : Cru) : Cru :=
  if 1 < c.repLeft then { c with repLeft := c.repLeft - 1, between := false }
  else
    let c := { c with repLeft := 0 }
    if c.delay = 2 then { c with delay := 1, pc := (c.pc + 1) % 4096, between := false }
    else if c.delay = 1 then takeTarget c
    else advance c.pc c

/-- Begin a branch to a target (R153): two delay slots follow. -/
def beginBranch (t : Nat) (c : Cru) : Cru :=
  { c with delay := 2, target := t, pc := (c.pc + 1) % 4096, between := false }

/-- The condition codes (R183). -/
def condHolds (c : Cru) (k : Nat) : Bool :=
  let w := c.status
  let z := w.getLsbD 8
  let n := w.getLsbD 9
  let cy := w.getLsbD 10
  match k with
  | 0 => true
  | 1 => z | 2 => !z | 3 => n | 4 => !n | 5 => cy | 6 => !cy
  | 7 => w.getLsbD 11
  | 8 => (w.extractLsb' 20 4) ≠ 0
  | 9 => (w.extractLsb' 16 4) ≠ 0
  | 14 => w.getLsbD 14
  | 15 => w.getLsbD 13
  | k => !(Tab.get [] c.si (k - 10)).isEmpty

/-- The count of REP and BREP: a 12-bit immediate, or the low half of a D register. -/
def repCount (o : Cru) (w : Word) : Nat :=
  if w.getLsbD 22 then (o.d (w.extractLsb' 10 3).toNat).toNat % 65536 else (w.extractLsb' 10 12).toNat

/-- A branch, call or return whose delay slots pass the end of an active body is illegal (R161), and so is a block repeat
whose body passes the end of the enclosing one (R160). -/
def slotsLeaveBody (c : Cru) : Bool := c.own.any (fun l => l.holds c.pc && l.last < c.pc + 2)
def bodyLeavesBody (c : Cru) (w : Word) : Bool := c.own.any (fun l => l.holds c.pc && l.last < c.pc + ((w.extractLsb' 0 8).toNat + 1))

/-- The instruction at PC may not execute: illegal, 3; or stack or levels exceeded, 4 (R156, R157, R158, R161, R184). -/
def cruFault (c : Cru) (op : CruOp) (w : Word) : Option Nat :=
  if isControl op && (c.delay ≠ 0 || c.repLeft ≠ 0) then some 3
  else if (op = .b || op = .call || op = .ret || op = .reti) && slotsLeaveBody c then some 3
  else if op = .brep && bodyLeavesBody c w then some 3
  else if op = .brep && repCount c w ≠ 0 && 4 ≤ c.reps.length then some 4
  else if op = .call && 8 ≤ c.ret.length then some 4
  else if op = .ret && c.ret.isEmpty then some 4
  else none

/-! ### Arithmetic -/

/-- Z, N, C and V of ST. -/
def setAluFlags (c : Cru) (y : Word) (cy v : Bool) : Cru :=
  { c with status := putBit (putBit (putBit (putBit c.status 8 (y = 0)) 9 y.msb) 10 cy) 11 v }

/-- The operands of the ALU class: IMM8 is a signed immediate (log 25). -/
def cruAluB (o : Cru) (w : Word) : Word :=
  if w.getLsbD 14 then (w.extractLsb' 6 8).signExtend 32 else o.d (w.extractLsb' 15 3).toNat
def cruAluA (o : Cru) (w : Word) : Word := o.d (w.extractLsb' 18 3).toNat

/-- What an ALU operation computes: Y, C and V; the logical operations leave C and V, and the shifts V, open (log 25). -/
def cruAlu (op : CruOp) (a b : Word) (fc fv : Bool) : Word × Bool × Bool :=
  let n := b.toNat % 32
  match op with
  | .add => let t := addWide a b false; let y := t.setWidth 32; (y, t.msb, a.msb = b.msb && y.msb ≠ a.msb)
  | .sub | .cmp =>
    let t := addWide a (~~~b) true; let y := t.setWidth 32; (y, t.msb, a.msb = (~~~b).msb && y.msb ≠ a.msb)
  | .and => (a &&& b, fc, fv)
  | .or => (a ||| b, fc, fv)
  | .xor => (a ^^^ b, fc, fv)
  | .andn => (a &&& ~~~b, fc, fv)
  | .shl => (a <<< n, n ≠ 0 && a.getLsbD (32 - n), fv)
  | .shr => (a >>> n, n ≠ 0 && a.getLsbD (n - 1), fv)
  | _ => (a.sshiftRight n, n ≠ 0 && a.getLsbD (n - 1), fv)

/-- An ALU instruction; CMP writes no D. -/
def doAlu (op : CruOp) (o c : Cru) (w : Word) (fc fv : Bool) : Cru :=
  let (y, cy, v) := cruAlu op (cruAluA o w) (cruAluB o w) fc fv
  let c := if op = .cmp then c else c.setD (w.extractLsb' 21 3).toNat y
  setAluFlags c y cy v

/-- An exact sum enters a lane's accumulator: the epoch steps in wrap mode (R172, R173), the value clamps in saturate mode
(R174). The epoch is signed (R145): it wraps between 0x7FFF and 0x8000, so V_k is the true sum while EOVk = 0 (R175). -/
def accumulate (c : Cru) (k : Nat) (t : Int) : Cru :=
  let hi : Int := 2 ^ 39
  if stSat c.status k then
    if hi ≤ t then { c.setA k 0x7FFFFFFFFF#40 with status := putBit c.status (20 + k) true }
    else if t < -hi then { c.setA k 0x8000000000#40 with status := putBit c.status (20 + k) true }
    else c.setA k (BitVec.ofInt 40 t)
  else if hi ≤ t then
    let e := c.e k + 1
    let c := (c.setA k (BitVec.ofInt 40 t)).setE k e
    if e = 0x8000#16 then { c with status := putBit c.status (16 + k) true } else c
  else if t < -hi then
    let e := c.e k - 1
    let c := (c.setA k (BitVec.ofInt 40 t)).setE k e
    if e = 0x7FFF#16 then { c with status := putBit c.status (16 + k) true } else c
  else c.setA k (BitVec.ofInt 40 t)

/-- A native product (R169). -/
def nativeProduct (sign : Nat) (frac : Bool) (u v : BitVec 16) : Int :=
  let p : Int := if sign = 1 then (u.toNat : Int) * v.toNat else if sign = 2 then u.toInt * v.toNat else u.toInt * v.toInt
  if frac && sign = 0 then 2 * p else p

/-- Half `k` of a register pair (R170). -/
def pairHalf (o : Cru) (a k : Nat) : BitVec 16 := o.half (2 * a + k / 2) (k % 2 = 1)

/-- A lane of MPY, MAC or MSU. -/
def laneOp (op : CruOp) (c : Cru) (k : Nat) (p : Int) : Cru :=
  match op with
  | .mpy => (c.setA k (BitVec.ofInt 40 p)).setE k 0
  | .mac | .macs => accumulate c k ((c.a k).toInt + p)
  | _ => accumulate c k ((c.a k).toInt - p)

/-- MPY, MAC and MSU in pair form (R170, R182). -/
def doPair (op : CruOp) (o c : Cru) (w : Word) : Cru :=
  [0, 1, 2, 3].foldl (fun c k =>
    if w.getLsbD (15 + k) then
      laneOp op c k (nativeProduct (w.extractLsb' 23 2).toNat (stFrac o.status)
        (pairHalf o (w.extractLsb' 21 2).toNat k) (pairHalf o (w.extractLsb' 19 2).toNat k))
    else c) c

/-- MACS (R171): every lane multiplies its window half by the coefficient, then the window slides. -/
def doMacs (o c : Cru) (w : Word) : Cru :=
  let coef := o.half (w.extractLsb' 20 3).toNat (w.getLsbD 19)
  let inp := o.half (w.extractLsb' 16 3).toNat (w.getLsbD 15)
  let c := [0, 1, 2, 3].foldl (fun c k =>
    laneOp .macs c k (nativeProduct (w.extractLsb' 23 2).toNat (stFrac o.status) (o.win.extractLsb' (16 * k) 16) coef)) c
  { c with win := (o.win.extractLsb' 0 48) ++ inp }

/-- A product of 1024 mode: signed and doubled, with the one overflow clamped (R179). -/
def product1024 (u v : BitVec 16) : Int :=
  if u = 0x8000#16 && v = 0x8000#16 then 0x7FFFFFFF else 2 * (u.toInt * v.toInt)

/-- The complex operations (R178, R179). -/
def doComplex (op : CruOp) (o c : Cru) (w : Word) : Cru :=
  let a := (w.extractLsb' 20 3).toNat
  let b := (w.extractLsb' 16 3).toNat
  let k := if w.getLsbD 15 then 2 else 0
  let ar := o.half a false
  let ai := o.half a true
  let br := o.half b false
  let bi := o.half b true
  let sg : Int := if op = .cmacj then -1 else 1
  let re := product1024 ar br - sg * product1024 ai bi
  let im := sg * product1024 ar bi + product1024 ai br
  match op with
  | .cmpy => (((c.setA k (BitVec.ofInt 40 re)).setE k 0).setA (k + 1) (BitVec.ofInt 40 im)).setE (k + 1) 0
  | .cmsu => let c := accumulate c k ((c.a k).toInt - re); accumulate c (k + 1) ((c.a (k + 1)).toInt - im)
  | _ => let c := accumulate c k ((c.a k).toInt + re); accumulate c (k + 1) ((c.a (k + 1)).toInt + im)

/-- The X move and the Y move of a MAC instruction (R182). Two loads of one D register in one instruction leave it open
(log 25). -/
def doMoves (o c : Cru) (w : Word) (free : Word) : Cru :=
  let xq := (w.extractLsb' 8 2).toNat
  let yq := 4 + (w.extractLsb' 1 2).toNat
  let xd := (w.extractLsb' 10 3).toNat
  let yd := (w.extractLsb' 3 3).toNat
  let clash := w.getLsbD 14 && !w.getLsbD 13 && w.getLsbD 7 && !w.getLsbD 6 && xd = yd
  let move (c : Cru) (en st : Bool) (q d : Nat) : Cru :=
    if !en then c else
    let c := if st then c.store q (o.pointer q) (o.d d)
      else { c with late := c.late ++ [{ reg := d, half := 2, value := if clash then free else o.mem q (o.pointer q) }] }
    postModify o c q (o.configured q)
  move (move c (w.getLsbD 14) (w.getLsbD 13) xq xd) (w.getLsbD 7) (w.getLsbD 6) yq yd

/-- Convergent rounding (R177). -/
def roundConv (v : Int) (sh : Nat) : Int :=
  let q := v / 2 ^ sh
  let r := v % 2 ^ sh
  if sh = 0 then q
  else if (2 : Int) ^ (sh - 1) < r || (r = 2 ^ (sh - 1) && q % 2 = 1) then q + 1 else q

/-- Clamp to the signed range of `n` bits; whether it clamped. -/
def clampTo (n : Nat) (v : Int) : Int × Bool :=
  if (2 : Int) ^ (n - 1) ≤ v then (2 ^ (n - 1) - 1, true)
  else if v < -(2 : Int) ^ (n - 1) then (-(2 : Int) ^ (n - 1), true)
  else (v, false)

/-- The exact value of a lane (R175). -/
def Cru.laneValue (c : Cru) (k : Nat) : Int := (c.e k).toInt * 2 ^ 40 + (c.a k).toInt

/-- EXT32 and EXT16 (R176). -/
def doExt (n : Nat) (o c : Cru) (w : Word) : Cru :=
  let v := roundConv (o.laneValue (w.extractLsb' 22 2).toNat) (w.extractLsb' 13 5).toNat
  let (q, sat) := clampTo n v
  let c := if sat then { c with status := putBit c.status 15 true } else c
  { c with late := c.late ++
    [{ reg := (w.extractLsb' 19 3).toNat, half := if n = 32 then 2 else if w.getLsbD 18 then 1 else 0, value := BitVec.ofInt 32 q }] }

/-- CLR (R175). -/
def doClr (c : Cru) (w : Word) : Cru :=
  [0, 1, 2, 3].foldl (fun c k => if w.getLsbD k then (c.setA k 0).setE k 0 else c) c

/-! ### Moves, loads and streams -/

/-- MOV (R181): an immediate is sign-extended to its destination. A MOV into P, N or M leaves address generation its old
value for the next cycle (R153). -/
def doMov (o c : Cru) (w : Word) : Cru :=
  let n := (w.extractLsb' 22 6).toNat
  let v := if w.getLsbD 21 then (w.extractLsb' 0 16).signExtend 32 else o.read (w.extractLsb' 15 6).toNat
  let c' := c.write n v
  if 0x08 ≤ n && n < 0x1C then { c' with shadow := [(n, o.reg n)] } else c'

/-- Load, store and MODP (R152). -/
def doAccess (op : CruOp) (o c : Cru) (w : Word) : Cru :=
  let q := (w.extractLsb' 21 3).toNat
  let d := (w.extractLsb' 24 3).toNat
  let c := match op with
    | .load => { c with late := c.late ++ [{ reg := d, half := 2, value := o.mem q (o.pointer q) }] }
    | .store => c.store q (o.pointer q) (o.d d)
    | _ => c
  match namedStep o w q with
  | some s => postModify o c q s
  | none => c

/-- SIN and SOUT would stall (R188). -/
def streamStalls (c : Cru) (op : CruOp) (w : Word) : Bool :=
  let k := (w.extractLsb' 25 2).toNat
  (op = .sin && (Tab.get [] c.si k).isEmpty) || (op = .sout && 4 ≤ (Tab.get [] c.so k).length)

/-- SIN: the head word goes to D at the end of the next cycle; its tags to LTAG and ITAG. -/
def doSin (o c : Cru) (w : Word) : Cru :=
  let k := (w.extractLsb' 25 2).toNat
  match Tab.get [] o.si k with
  | t :: rest => { c with
      si := Tab.set [] c.si k rest
      status := putBit (putBit c.status 14 t.l) 13 t.i
      late := c.late ++ [{ reg := (w.extractLsb' 22 3).toNat, half := 2, value := t.d }] }
  | [] => c

/-- SOUT: V = 1 with the instruction's L and I. -/
def doSout (o c : Cru) (w : Word) : Cru :=
  let k := (w.extractLsb' 25 2).toNat
  { c with so := Tab.modify [] c.so k (· ++ [mkTWord (o.d (w.extractLsb' 22 3).toNat) (w.getLsbD 21) (w.getLsbD 20)]) }

/-- The effect of an operation, PC included. -/
def cruEffect (op : CruOp) (o c : Cru) (w : Word) (free : DWord) : Cru :=
  match op with
  | .nop => moveOn c
  | .halt => { land (advance c.pc c) with st := .halted, cause := 1, haltAsked := false }
  | .b => if condHolds o (w.extractLsb' 20 4).toNat then
      let t := (w.extractLsb' 0 12).toNat
      beginBranch t (c.withOwn (c.own.filter (fun l => l.holds t)))
    else moveOn c
  | .call => if condHolds o (w.extractLsb' 20 4).toNat then
      beginBranch (w.extractLsb' 0 12).toNat { c with ret := (c.pc + 3) % 4096 :: c.ret }
    else moveOn c
  | .ret => beginBranch (c.ret.headD 0) { c with ret := c.ret.drop 1, returns := true }
  | .reti => beginBranch (c.reg 0x2C).toNat { c with reti := true }
  | .rep => let n := repCount o w
    if n = 0 then advance ((c.pc + 1) % 4096) c else { c with pc := (c.pc + 1) % 4096, repLeft := n, between := false }
  | .brep => let n := repCount o w
    let last := c.pc + (w.extractLsb' 0 8).toNat + 1
    if n = 0 then advance last c
    else { c with pc := (c.pc + 1) % 4096, between := false,
                  reps := { first := c.pc + 1, last := last, left := n, int := w.getLsbD 23 } :: c.reps }
  | .ei => moveOn { c with status := putBit c.status 25 true }
  | .di => moveOn { c with status := putBit c.status 25 false }
  | .mov => moveOn (doMov o c w)
  | .load | .store | .modp => moveOn (doAccess op o c w)
  | .mpy | .mac | .msu => moveOn (doMoves o (doPair op o c w) w (free.setWidth 32))
  | .macs => moveOn (doMoves o (doMacs o c w) w (free.setWidth 32))
  | .cmpy | .cmac | .cmsu | .cmacj => moveOn (doMoves o (doComplex op o c w) w (free.setWidth 32))
  | .clr => moveOn (doClr c w)
  | .ext32 => moveOn (doExt 32 o c w)
  | .ext16 => moveOn (doExt 16 o c w)
  | .sin => moveOn (doSin o c w)
  | .sout => moveOn (doSout o c w)
  | _ => moveOn (doAlu op o c w (free.getLsbD 0) (free.getLsbD 1))

/-- Every condition of R163 but those on IE, IIP and IMASK (R168). -/
def boundaryOpen (c : Cru) : Bool :=
  c.delay = 0 && c.repLeft = 0 && (c.reps.isEmpty || (c.reps.all (·.int) && c.between))

/-- An interrupt-acceptable point (R168): a HALTED crucible is at one, and so is a stopped or faulted one, and one that stalls outside a delay slot, a REP
and a block repeat. -/
def acceptablePoint (c : Cru) : Bool :=
  if c.st = .running then boundaryOpen c || (c.stall && c.delay = 0 && c.repLeft = 0 && c.reps.isEmpty) else true

end Sys2Proof.Machine
end

