-- ==== Sys2Proof/Machine/CtxRecord.lean ====
section
/-! DEFINITION. The backing record of a context (R117, R118): the 2,048 words of a context's layout, and the context
that a record holds. -/

namespace Sys2Proof.Machine

/-- Tags of a registered word: V, L, I in bits 0-2 (R118). -/
def tagWord (w : TWord) : Word := BitVec.ofNat 32 ((if w.v then 1 else 0) + (if w.l then 2 else 0) + (if w.i then 4 else 0))

/-- Word 0 or 1 of the 8 bytes of a registered word. -/
def regHalf (w : TWord) (h : Nat) : Word := if h = 0 then w.d else tagWord w

/-- The quad selectors `base` to `base + 31` as a 96-bit field (R59's configuration cost table). -/
def qselField (x : Ctx) (base : Nat) : Nat :=
  (List.range 32).foldr (fun h acc => acc * 8 + (Tab.get 0#3 x.qsel (base + h)).toNat) 0

/-- Word `j` of a field. -/
def fieldWord (n j : Nat) : Word := BitVec.ofNat 32 (n / 2 ^ (32 * j))

/-- A cell's flag byte: F OV N Z C from bit 4 down. -/
def flagByte (f : CellFlags) : Nat :=
  (if f.c then 1 else 0) + (if f.z then 2 else 0) + (if f.n then 4 else 0) + (if f.ov then 8 else 0) + (if f.f then 16 else 0)

/-- Four bytes as a word, the first lowest (R7). -/
def packBytes (g : Nat → Nat) (base : Nat) : Word :=
  BitVec.ofNat 32 (g base % 256 + g (base + 1) % 256 * 2 ^ 8 + g (base + 2) % 256 * 2 ^ 16 + g (base + 3) % 256 * 2 ^ 24)

/-- The header word (R117). -/
def headerWord (x : Ctx) (id : Nat) : Word :=
  BitVec.ofNat 32 (2 ^ 31 + x.srcEn.toNat * 2 ^ 12 + x.destEn.toNat * 2 ^ 8 + id % 256)

/-- Word `o` of the record of context `id`. -/
def recWord (x : Ctx) (id o : Nat) : Word :=
  if o < 128 then (x.cell (o / 2)).extractLsb' (32 * (o % 2)) 32
  else if o < 131 then fieldWord (qselField x 0) (o - 128)
  else if o < 134 then fieldWord (qselField x 32) (o - 131)
  else if o = 134 then x.ports0
  else if o = 135 then x.ports1
  else if o = 136 then headerWord x id
  else if o = 137 then x.dest
  else if o = 138 then x.src
  else if o = 139 then x.status
  else if 144 ≤ o && o < 160 then packBytes (fun c => flagByte (Tab.get CellFlags.reset x.flags c)) (4 * (o - 144))
  else if 256 ≤ o && o < 768 then Tab.get 0 x.k (o - 256)
  else if 768 ≤ o && o < 896 then regHalf (Tab.get .empty x.out ((o - 768) / 2)) (o % 2)
  else if 896 ≤ o && o < 1024 then regHalf (Tab.get .empty x.quad ((o - 896) / 2)) (o % 2)
  else if 1024 ≤ o && o < 1040 then regHalf (Tab.get .empty x.long ((o - 1024) / 2)) (o % 2)
  else if 1040 ≤ o && o < 1064 then
    let n := (o - 1040) / 6
    let t := match (o - 1040) % 6 / 2 with
      | 0 => Tab.get .empty x.bmAddr n
      | 1 => Tab.get .empty x.bmWd n
      | _ => Tab.get .empty x.bmRd n
    regHalf t (o % 2)
  else if 1088 ≤ o && o < 1344 then
    let i := (o - 1088) / 2
    regHalf ((((Tab.get [] x.inbuf (i / 4)).drop (i % 4)).head?).getD .empty) (o % 2)
  else if 1344 ≤ o && o < 1352 then packBytes (fun sl => (Tab.get [] x.inbuf sl).length) (4 * (o - 1344))
  else 0

/-- A registered word from its 8 bytes; a fill recomputes P (R118). -/
def regFrom (d t : Word) : TWord := if t.getLsbD 0 then mkTWord d (t.getLsbD 1) (t.getLsbD 2) else .empty

/-- Flags from a byte. -/
def flagsFrom (b : Nat) : CellFlags :=
  let w := BitVec.ofNat 8 b
  { c := w.getLsbD 0, z := w.getLsbD 1, n := w.getLsbD 2, ov := w.getLsbD 3, f := w.getLsbD 4 }

/-- The selector at `h` of a 96-bit field in three words. -/
def qselFrom (rd : Nat → Word) (base h : Nat) : BitVec 3 :=
  BitVec.ofNat 3 (((rd base).toNat + (rd (base + 1)).toNat * 2 ^ 32 + (rd (base + 2)).toNat * 2 ^ 64) / 2 ^ (3 * h))

/-- The context that a record's words hold; reserved bits of its configuration and status read 0 (R10). -/
def ctxFrom (rd : Nat → Word) : Ctx :=
  let h := rd 136
  { cells := Tab.ofFn 0 (fun c => (rd (2 * c + 1) ++ rd (2 * c)) &&& cellBits) (List.range 64)
    qsel := Tab.ofFn 0 (fun q => if q < 32 then qselFrom rd 128 q else qselFrom rd 131 (q - 32)) (List.range 64)
    ports0 := rd 134 &&& portBits
    ports1 := rd 135 &&& portBits
    srcEn := h.extractLsb' 12 4
    destEn := h.extractLsb' 8 4
    dest := rd 137
    src := rd 138
    status := rd 139 &&& statusBits
    flags := Tab.ofFn .reset (fun c => flagsFrom (byteOf (rd (144 + c / 4)) (c % 4))) (List.range 64)
    k := Tab.ofFn 0 (fun i => rd (256 + i)) (List.range 512)
    out := Tab.ofFn .empty (fun c => regFrom (rd (768 + 2 * c)) (rd (769 + 2 * c))) (List.range 64)
    quad := Tab.ofFn .empty (fun q => regFrom (rd (896 + 2 * q)) (rd (897 + 2 * q))) (List.range 64)
    long := Tab.ofFn .empty (fun l => regFrom (rd (1024 + 2 * l)) (rd (1025 + 2 * l))) (List.range 8)
    bmAddr := Tab.ofFn .empty (fun n => regFrom (rd (1040 + 6 * n)) (rd (1041 + 6 * n))) (List.range 4)
    bmWd := Tab.ofFn .empty (fun n => regFrom (rd (1042 + 6 * n)) (rd (1043 + 6 * n))) (List.range 4)
    bmRd := Tab.ofFn .empty (fun n => regFrom (rd (1044 + 6 * n)) (rd (1045 + 6 * n))) (List.range 4)
    bmPipe := []
    inbuf := Tab.ofFn [] (fun sl => (List.range (min 4 (byteOf (rd (1344 + sl / 4)) (sl % 4)))).map
      (fun i => regFrom (rd (1088 + 8 * sl + 2 * i)) (rd (1089 + 8 * sl + 2 * i)))) (List.range 32)
    pops := [] }

/-- The data of a read whose address register holds a word: what the read had found before the context was spilled (R81), else as the array
stands (R79). -/
def refillPipe (f : Flask) (id : Nat) (x : Ctx) : Ctx :=
  let kept := Tab.get [] f.reads id
  { x with bmPipe := Tab.ofFn .empty (fun n =>
      let m := n / 2 * 2
      let owner := if ganged x n then m else n
      let a := Tab.get TWord.empty x.bmAddr owner
      let asp := portAspect (portHalf x owner)
      let wo := aspectWord asp a.d.toNat + (if ganged x n then n % 2 else 0)
      if !(a.v && portOn x owner) then .empty
      else if (Tab.get TWord.empty kept n).v then Tab.get TWord.empty kept n
      else mkTWord ((Tab.get 0 (f.bm (n / 2)) wo >>> aspectShift asp a.d.toNat) &&& lowMask (aspectBits asp)) a.l false) (List.range 4) }

/-- CTX_BASE of a flask (R135) and the catch address of the record of context `x` (R117). -/
def State.recordBase (s : State) (p x : Nat) : Nat := s.settingN (0x4000 + p) 3 + 8192 * x

/-- Word `o` of a record in catch memory. -/
def State.recordWord (s : State) (p x o : Nat) : NWord := catchWord s (s.recordBase p x + 4 * o)

/-- Line `k` of the record of a context: its 16 words. -/
def recordLine (x : Ctx) (id k : Nat) : List NWord := (List.range 16).map (fun j => { d := recWord x id (16 * k + j), p := false })

/-- The marks of the context engine's requests inside its gate: line `k` of a spill, of a fill, and of the record a release writes for a context. -/
def spillMark (k : Nat) : Nat := 20000 + k
def fillMark (k : Nat) : Nat := 30000 + k
def releaseMark (x k : Nat) : Nat := 40000 + 128 * x + k

/-- The engine hands the 128 writes of a record to its gate, in its own traffic and ordering class (R18, R120, R125, R394). -/
def writeRecord (mark : Nat → Nat) (p id : Nat) (x : Ctx) (s : State) : State :=
  let node := s.flaskNode p
  (List.range 128).foldl (fun s k => s.requestBy (mark k) node unresolved 1 1 (.wr (s.recordBase p id + 64 * k) 0xF 0xF (recordLine x id k))) s

/-- It hands over the 128 reads of one (R121). -/
def readRecord (p id : Nat) (s : State) : State :=
  let node := s.flaskNode p
  (List.range 128).foldl (fun s k => s.requestBy (fillMark k) node unresolved 1 1 (.rd (s.recordBase p id + 64 * k) 16)) s

/-- The answer to a request of the engine, once the gate has it. -/
def engAnswer (s : State) (p mark : Nat) : Option Body := ((s.gate (s.flaskNode p)).answers.find? (fun a => a.who = mark)).map (·.body)

/-- Every one of the 128 requests has been answered (R120, R121). -/
def allAnswered (s : State) (p : Nat) (mark : Nat → Nat) : Bool := (List.range 128).all (fun k => (engAnswer s p (mark k)).isSome)

/-- The answers are taken. -/
def dropAnswers (p : Nat) (mark : Nat → Nat) (s : State) : State :=
  s.modGate (s.flaskNode p) (fun g => { g with answers := g.answers.filter (fun a => decide (a.who < mark 0) || decide (mark 127 < a.who)) })

/-- Word `o` of the record that a fill has read: poison where the read of its line was not answered OK (R393). -/
def filledWord (s : State) (p o : Nat) : NWord :=
  match engAnswer s p (fillMark (o / 16)) with
  | some (.rdata .ok ws) => ws.getD (o % 16) { d := 0, p := true }
  | _ => { d := 0, p := true }

/-- Word `o` of the context window: the live value of a resident context, the record of any other (R136). -/
def State.windowWord (s : State) (p id o : Nat) : Word :=
  match (s.flask p).residentSlot id with
  | some n => recWord ((s.flask p).slot n).ctx id o
  | none => (s.recordWord p id o).d

/-- SRC_EN and SRC of a context's side, wherever the context is: in its slot, in the image that a release is bringing into force, or in its
record. -/
def ctxSrc (s : State) (img : Nat → Nat → Option Ctx) (p id side : Nat) : Bool × Nat :=
  match (s.flask p).residentSlot id, img p id with
  | none, some x => (x.srcEn.getLsbD side, byteOf x.src side)
  | _, _ => ((s.windowWord p id 136).getLsbD (12 + side), byteOf (s.windowWord p id 138) side)

/-- A side's bit cleared. -/
def clearSide (b : BitVec 4) (i : Nat) : BitVec 4 := b &&& ~~~(BitVec.ofNat 4 (2 ^ i))

/-- A side is disabled for receiving in a context, in its slot or in its record (R111); the record of a context of the image that a release brings
into force is yet to be written, and the loader keeps the side for it. -/
def disableSrc (img : Nat → Nat → Option Ctx) (p id side : Nat) (s : State) : State :=
  match (s.flask p).residentSlot id, img p id with
  | some n, _ => s.modFlask p (fun f => f.modCtx n (fun x => { x with srcEn := clearSide x.srcEn side }))
  | none, some _ => { s with loader := { s.loader with srcOff := s.loader.srcOff ++ [(p, id, side)] } }
  | none, none => catchPut s (s.recordBase p id + 4 * 136)
      { s.recordWord p id 136 with d := (s.recordWord p id 136).d &&& ~~~(BitVec.ofNat 32 (2 ^ (12 + side))) }

/-- Check one side of a context of logical flask `k` in slot `n` of flask `p` (R111): an enabled DEST that the receiver's
SRC does not match is disabled in both contexts, and error 0x3112 is logged. -/
def checkSide (img : Nat → Nat → Option Ctx) (p n side : Nat) (s : State) : State :=
  let f := s.flask p
  let x := (f.slot n).ctx
  let id := (f.slot n).ctxId
  if !x.destEn.getLsbD side then s else
  match neighbour f.logical side with
  | none => s
  | some k =>
    let q := s.physOf k
    let d := byteOf x.dest side
    let (en, src) := ctxSrc s img q d (facing side)
    if en && src = id then s else
    let s := s.modFlask p (fun f => f.modCtx n (fun y => { y with destEn := clearSide y.destEn side }))
    reportAt 0x3112 1 p (BitVec.ofNat 32 (f.logical * 256 + id)) 0 (disableSrc img q d (facing side) s)

/-- Check every side of a context. -/
def checkPairs (img : Nat → Nat → Option Ctx) (p n : Nat) (s : State) : State := [0, 1, 2, 3].foldl (fun s side => checkSide img p n side s) s

/-- No release is bringing an image into force. -/
def noImage : Nat → Nat → Option Ctx := fun _ _ => none

end Sys2Proof.Machine
end

