-- ==== Sys2Proof/Machine/Flask.lean ====
section
/-! DEFINITION. Dispatch to a flask (R99-R103), the context engine (R120-R126) and CTX_CMD (R140). -/

namespace Sys2Proof.Machine

/-- Internal messages between Cupola and a flask gate (R379 leaves their codes internal): a dispatch with its context,
RUN_CYCLES, TOKEN and the core that asked; and the completion with TOKEN, context and whether the entry was cut (R102,
R103, R346). -/
abbrev msgDispatch : Nat := 0x10
abbrev msgCompletion : Nat := 0x12

/-- The node of Cupola. -/
abbrev cupolaNode : Nat := 80

/-- Result codes of an FDISPATCH (R358). -/
abbrev resOk : Nat := 0
abbrev resRefused : Nat := 1
abbrev resState : Nat := 2
abbrev resInvalid : Nat := 3
abbrev resBusy : Nat := 4
abbrev resDuplicate : Nat := 5
abbrev resTimeout : Nat := 6
abbrev resOffline : Nat := 7

/-- Post the completion of a retired entry, if its TOKEN is not 0 (R102, R103). -/
def postCompletion (p : Nat) (cut : Bool) (d : DispEntry) (s : State) : State :=
  if d.token = 0 then s
  else s.request (s.flaskNode p) cupolaNode 0 0
    (.internal msgCompletion [BitVec.ofNat 32 d.token, BitVec.ofNat 32 d.ctxId, if cut then 1 else 0])

/-- The body of a dispatch message. -/
def dispatchBody (ctx run token core : Nat) : Body :=
  .internal msgDispatch [BitVec.ofNat 32 ctx, BitVec.ofNat 32 run, BitVec.ofNat 32 token, BitVec.ofNat 32 core]

/-- FLASK_DISPATCH_MSG (R99, R101, R358): the dispatch with its tag, the oldest packet of Cupola at the gate of flask `p`, is answered; it is queued
while BASE = dispatch and the FIFO has room. -/
def execFlaskDispatchMsg (p ctx run token core tag : Nat) (s : State) : Result :=
  let f := s.flask p
  let node := s.flaskNode p
  let b := dispatchBody ctx run token core
  let s1 := s.consume node cupolaNode 0 b
  let answer (r : Nat) (s : State) : State := s.answer node cupolaNode 0 tag (.crsp .ok r)
  event (s.flaskLive p && !s.frozen p && s.tagAtFront node cupolaNode 0 tag b) s
    (if seqBase (s.seqCfg p) ≠ 2 then answer resState s1
     else if 8 ≤ f.fifo.length then answer resRefused s1
     else answer resOk (dispatchFill p (s1.modFlask p (fun f => { f with fifo := f.fifo ++
        [{ ctxId := ctx % 256, runCycles := run % 65536, token := token % 65536, ran := 0, fillAsked := false }] }))))

/-- The head entry has run its cycles, or has RUN_CYCLES = 0 and another waits behind it (R100). -/
def headRetires (f : Flask) : Bool :=
  match f.fifo with
  | d :: rest => if d.runCycles = 0 then !rest.isEmpty else d.runCycles ≤ d.ran
  | [] => false

/-- DISPATCH_ENTRY_RETIRE (R100, R102). -/
def execDispatchEntryRetire (p : Nat) (s : State) : Result :=
  let f := s.flask p
  event (s.flaskLive p && headRetires f) s
    (match f.fifo with
     | d :: rest => postCompletion p false d (s.modFlask p (fun f => { f with fifo := rest }))
     | [] => s)

/-- BASE leaves dispatch: every entry retires (R103). Its completion is marked CUT where the entry had not run its RUN_CYCLES (R103, R346). -/
def cutFifo (p : Nat) (s : State) : State :=
  let es := (s.flask p).fifo
  es.foldl (fun s d => postCompletion p (d.runCycles = 0 || d.ran < d.runCycles) d s) (s.modFlask p (fun f => { f with fifo := [] }))

/-! ### The context engine -/

/-- A slot is pinned by another ground than its PIN bit (R90). -/
def pinnedOther (s : State) (p n : Nat) : Bool :=
  let c := s.seqCfg p
  n = seqStatic c || n = seqDefault c || (n = 15 && seqIrqEn c) ||
    (List.range 16).any (fun i => evEn (s.eventEntry p i) && evSlot (s.eventEntry p i) = n)

/-- A slot is pinned (R90). -/
def pinned (s : State) (p n : Nat) : Bool := ((s.flask p).slot n).pin || pinnedOther s p n

/-- The slot whose context ran least recently among those of a list; of several that never ran, the lowest (log 23, DESIGN CHOICE). -/
def leastRecent (f : Flask) : List Nat → Option Nat
  | [] => none
  | n :: ns => match leastRecent f ns with
    | none => some n
    | some m => if (f.slot n).lastRun ≤ (f.slot m).lastRun then some n else some m

/-- The slot for a fill the engine is to place: an EMPTY slot, the lowest of several (log 23, DESIGN CHOICE), else the victim of R124; slot 15 is never
the target while IRQ_EN = 1 (R105). Where slots are unpinned but every one of them is the current slot, the one chosen next, or not RESIDENT, there is
none, and the fill is refused as where all are pinned (log 23, DESIGN CHOICE). -/
def fillTarget (s : State) (p : Nat) : Option Nat :=
  let f := s.flask p
  let irq := seqIrqEn (s.seqCfg p)
  match (List.range 16).find? (fun n => (f.slot n).st = .empty && !(irq && n = 15)) with
  | some n => some n
  | none => leastRecent f ((List.range 16).filter (fun n =>
      (f.slot n).st = .resident && !pinned s p n && n ≠ f.cur && n ≠ f.nxt))

/-- The head request has ended; a fill that the dispatch FIFO asked for is no longer asked for. -/
def askedNoMore (f : Flask) : List DispEntry :=
  match f.fifo, f.eng.head? with
  | d :: rest, some (.fill x _) => if d.ctxId = x then { d with fillAsked := false } :: rest else d :: rest
  | l, _ => l

/-- The engine ends its head request with a result. CTX_CMD_STATUS.RESULT shows the last request that ended, a dispatch fill among them
(log 23, DESIGN CHOICE). -/
def engDone (p : Nat) (res : BitVec 8) (s : State) : State :=
  s.modFlask p (fun f => { f with fifo := askedNoMore f, eng := f.eng.drop 1, engOp := .idle, cmdResult := res })

/-- A slot can be given up: it is not the current slot nor the one chosen next, no QPOP of it is outstanding, and no narrow write of it is in its
second cycle. -/
def slotQuiet (f : Flask) (n : Nat) : Bool :=
  n ≠ f.cur && n ≠ f.nxt && (f.slot n).st = .resident && (f.slot n).ctx.pops.isEmpty && f.wb.all (fun e => e.1 ≠ n)

/-- The slot's record must be written before the slot is given up: its context is DIRTY (R120), or words of it have moved without a firing, which
R116 lets no spill lose (log 23, DEDUCED). -/
def needsWrite (f : Flask) (n : Nat) : Bool := (f.slot n).dirty || (f.slot n).moved

/-- The slot the head request wants spilled, if it wants one. -/
def spillWanted (f : Flask) : Option Nat :=
  match f.eng.head? with
  | some (.spill n) => some n
  | some (.evict n) => some n
  | some (.fill _ n) => if n < 16 && (f.slot n).st = .resident && needsWrite f n then some n else none
  | none => none

/-- A slot becomes EMPTY: what its context's reads have in flight, and when it last ran, stay with the flask. -/
def Flask.emptySlot (f : Flask) (n : Nat) : Flask :=
  let x := f.slot n
  { f.modSlot n (fun y => { y with st := .empty, ctxId := 0, dirty := false, faulted := false, lastRun := 0, moved := false, ctx := .reset })
    with reads := Tab.set [] f.reads x.ctxId x.ctx.bmPipe, lastRan := Tab.set 0 f.lastRan x.ctxId x.lastRun }

/-- CTX_SPILL (R18, R120): the engine starts the spill its head request wants, once the slot is quiet, and hands its writes to the gate; a slot that has
nothing to write becomes EMPTY at once. A request whose slot an earlier one has emptied is refused, and one whose slot is not quiet waits at the head
(log 23, DESIGN CHOICE). The words that are due into the context cross first. -/
def execCtxSpill (p : Nat) (s0 : State) : Result :=
  match spillWanted (s0.flask p) with
  | none => ok s0
  | some n =>
    let s := crossInto p s0
    let f := s.flask p
    event (s0.flaskLive p && (s0.flask p).engOp = .idle && !s0.recording p && ((s0.flask p).slot n).st ≠ .filling &&
        (((s0.flask p).slot n).st = .empty || slotQuiet (s0.flask p) n)) s0
      (if (f.slot n).st = .empty then engDone p 3 s
       else if needsWrite f n then
         writeRecord spillMark p (f.slot n).ctxId (f.slot n).ctx
           ((dropAnswers p spillMark s).modFlask p (fun f => { f.modSlot n (fun x => { x with st := .spilling }) with engOp := .spilling n }))
       else
         let s := s.modFlask p (fun f => f.emptySlot n)
         match f.eng.head? with
         | some (.fill _ _) => s
         | _ => engDone p 0 s)

/-- CTX_SPILL_COMPLETE (R120): every write of the record has been answered and the slot is EMPTY. -/
def execCtxSpillComplete (p : Nat) (s : State) : Result :=
  match (s.flask p).engOp with
  | .spilling n =>
    let s1 := (dropAnswers p spillMark s).modFlask p (fun f => { f.emptySlot n with spills := f.spills + 1, engOp := .idle })
    event (s.flaskLive p && allAnswered s p spillMark) s
      (match (s1.flask p).eng.head? with
       | some (.fill _ _) => s1
       | _ => engDone p 0 s1)
  | _ => ok s

/-- Start the fill of context `x` into slot `n` (R18, R121): its 128 reads go to the gate. The slot's former context keeps what R81 and R124 ask of it. -/
def startFill (p x n : Nat) (s : State) : State :=
  readRecord p x ((dropAnswers p fillMark s).modFlask p (fun f =>
    let g := if (f.slot n).st = .resident then f.emptySlot n else f
    { g.modSlot n (fun y => { y with st := .filling, ctxId := x, dirty := false, faulted := false, lastRun := Tab.get 0 g.lastRan x, moved := false,
                                      ctx := .reset })
      with engOp := .filling n }))

/-- A refused fill; one that the dispatch FIFO asked for is asked for again at the next evaluation (R123). -/
def refuseFill (p : Nat) (s : State) : State := engDone p 3 s

/-- CTX_FILL (R121, R124, R578): the engine starts the fill of its head request, choosing a slot where none is named; a victim with something to write
is spilled first, by CTX_SPILL. A context the image does not define is refused. -/
def execCtxFill (p : Nat) (s0 : State) : Result :=
  match (s0.flask p).eng.head? with
  | some (.fill x n) =>
    let s := crossInto p s0
    let f := s.flask p
    event (s0.flaskLive p && (s0.flask p).engOp = .idle && !s0.recording p) s0
      (if !f.defined.contains x then refuseFill p s
       else if (f.slotOf x).isSome && f.slotOf x ≠ some n then engDone p (if n < 16 then 3 else 0) s
       else if n < 16 then
         (if (f.slot n).st = .empty || ((f.slot n).st = .resident && !needsWrite f n && slotQuiet f n) then startFill p x n s else s)
       else match fillTarget s p with
         | none => refuseFill p s
         | some v =>
           if (f.slot v).st = .empty || (!needsWrite f v && slotQuiet f v) then startFill p x v s
           else s.modFlask p (fun f => { f with eng := .fill x v :: f.eng.drop 1 }))
  | _ => ok s0

/-- CTX_FILL_COMPLETE (R121, R126): every line has been read into the slot, which is RESIDENT; poison or another CTX_ID leaves
the context FAULTED. Its cells and boundary pairs are checked (R58, R111). -/
def execCtxFillComplete (p : Nat) (s : State) : Result :=
  let f := s.flask p
  match f.engOp with
  | .filling n =>
    let id := (f.slot n).ctxId
    let poisoned := (List.range 2048).any (fun o => (filledWord s p o).p)
    let x := refillPipe f id (checkCells (ctxFrom (fun o => (filledWord s p o).d)))
    let wrong := ((filledWord s p 136).d.toNat % 256 ≠ id : Bool)
    let s1 := (dropAnswers p fillMark s).modFlask p (fun f =>
      { f.modSlot n (fun y => { y with st := .resident, ctx := x, faulted := poisoned || wrong })
        with fills := f.fills + 1, reads := Tab.set [] f.reads id [] })
    let aux := BitVec.ofNat 32 (f.logical * 256 + id)
    let s2 := if poisoned then reportAt 0x3110 1 p aux 0 s1 else if wrong then reportAt 0x3111 1 p aux 0 s1 else s1
    event (s.flaskLive p && allAnswered s p fillMark) s
      (checkPairs noImage p n (engDone p (if poisoned then 1 else if wrong then 2 else 0) s2))
  | _ => ok s

/-! ### CTX_CMD -/

/-- Dictionary writes to a flask under recast, or to a region flask of a partial load, are refused (R132, R612). -/
def recastHolds (s : State) (p : Nat) : Bool :=
  let r := s.recast (p / 9)
  (s.recasting (p / 9) && (r.source = p || r.target = p)) || s.inRegion p

/-- Place a request with the engine; with four before it, the one in service counted among them, it is refused (R123). RESULT reads OK once a new
command is accepted (log 23, DESIGN CHOICE). -/
def engRequest (p : Nat) (r : EngReq) (s : State) : State :=
  if 4 ≤ (s.flask p).eng.length then s.modFlask p (fun f => { f with cmdResult := 3 })
  else s.modFlask p (fun f => { f with eng := f.eng ++ [r], cmdResult := 0 })

/-- FILL, SPILL and EVICT fit the slot (R140). -/
def slotFits (s : State) (p n : Nat) : Bool :=
  let f := s.flask p
  n < 16 && n ≠ f.cur && !pinnedOther s p n && (f.slot n).st ≠ .filling && (f.slot n).st ≠ .spilling

/-- The checks and effect of the commands of CTX_CMD. -/
def ctxCmdFill (p x n : Nat) (s : State) : Except Word State :=
  need (!recastHolds s p && s.flaskLive p && slotFits s p n && (s.flask p).defined.contains x && !(n = 15 && seqIrqEn (s.seqCfg p)) &&
      ((s.flask p).slotOf x = none || (s.flask p).slotOf x = some n)) abortState (.ok (engRequest p (.fill x n) s))
def ctxCmdSpill (p n : Nat) (s : State) : Except Word State :=
  need (!recastHolds s p && s.flaskLive p && slotFits s p n && ((s.flask p).slot n).st = .resident) abortState
    (.ok (engRequest p (.spill n) s))
def ctxCmdEvict (p n : Nat) (s : State) : Except Word State :=
  need (!recastHolds s p && s.flaskLive p && slotFits s p n && ((s.flask p).slot n).st = .resident) abortState
    (.ok (engRequest p (.evict n) s))
def ctxCmdPin (p n : Nat) (on : Bool) (s : State) : Except Word State :=
  need (!recastHolds s p && s.flaskLive p && n < 16) abortState
    (.ok (s.modFlask p (fun f => f.modSlot n (fun x => { x with pin := on }))))

/-- CTX_CMD_FILL (R140): context `x` into slot `n`. -/
def execCtxCmdFill (path p x n : Nat) (s : State) : Result := dictCommand path (0x4000 + p) 5 2 (ctxCmdFill p x n) s
/-- CTX_CMD_SPILL (R140). -/
def execCtxCmdSpill (path p n : Nat) (s : State) : Result := dictCommand path (0x4000 + p) 5 2 (ctxCmdSpill p n) s
/-- CTX_CMD_PIN (R140). -/
def execCtxCmdPin (path p n : Nat) (s : State) : Result := dictCommand path (0x4000 + p) 5 2 (ctxCmdPin p n true) s
/-- CTX_CMD_UNPIN (R140). -/
def execCtxCmdUnpin (path p n : Nat) (s : State) : Result := dictCommand path (0x4000 + p) 5 2 (ctxCmdPin p n false) s
/-- CTX_CMD_EVICT (R140). -/
def execCtxCmdEvict (path p n : Nat) (s : State) : Result := dictCommand path (0x4000 + p) 5 2 (ctxCmdEvict p n) s

/-- The context a path's CTX_WIN_SELECT names, and the word offset it names (R135). -/
def winCtx (s : State) (path p : Nat) : Nat := s.selector path (0x4000 + p) 0x30 / 2 ^ 16 % 256
def winOffset (s : State) (path p : Nat) : Nat := 2 * (s.selector path (0x4000 + p) 0x30 / 8 % 1024)

/-- The bits of the status word that writing 1 clears: CONTENTION and both COLLIDE flags (R70). -/
def statusClr (st w : Word) : Word := st &&& ~~~(w &&& 0x19#32)

/-- Clear status bits of the selected context, in its slot or in its record. -/
def ctxStatusClr (path p : Nat) (w : Word) (s : State) : Except Word State :=
  let id := winCtx s path p
  need (!recastHolds s p) abortState (.ok (match (s.flask p).residentSlot id with
    | some n => s.modFlask p (fun f => f.modCtx n (fun x => { x with status := statusClr x.status w }))
    | none => catchPut s (s.recordBase p id + 4 * 139)
        { s.recordWord p id 139 with d := statusClr (s.recordWord p id 139).d w }))

/-- CTX_STATUS_CLR (R135). -/
def execCtxStatusClr (path p : Nat) (w : Word) (s : State) : Result :=
  dictCommand path (0x4000 + p) 0x33 1 (ctxStatusClr path p w) s

/-- The flask whose values a read of flask `p`'s entries returns: the source while `p` is the target of a recast under way (R132). -/
def State.readFlaskOf (s : State) (p : Nat) : Nat :=
  let r := s.recast (p / 9)
  if s.recasting (p / 9) && r.target = p then r.source else p

/-- The 8 bytes of the selected record at the selected offset (R136). While a recast is under way reads of the target
return the source's values (R132). -/
def ctxWinData (s : State) (path p : Nat) : DWord :=
  let q := s.readFlaskOf p
  s.windowWord q (winCtx s path q) (winOffset s path q + 1) ++ s.windowWord q (winCtx s path q) (winOffset s path q)

/-- CTX_WIN_DATA_READ (R136): the path reads its window; a refused read returns ones (R636). -/
def execCtxWinDataRead (path p : Nat) (s : State) : Result :=
  dictRead path (0x4000 + p) 0x31 1 8 (fun s => .ok (ctxWinData s path p, s)) s

end Sys2Proof.Machine
end

