-- ==== Sys2Proof/Machine/Crucible.lean ====
section
/-! DEFINITION. The crucible's commands (04_crucible.md): each instruction is one cycle that issues the instruction at PC;
interrupts, hold-off, scrubs, CRU_CMD and the window. -/

namespace Sys2Proof.Machine

/-- The X or Y word (space 1 or 2) an instruction reads, if it reads one there. -/
def cruReads (o : Cru) (op : CruOp) (w : Word) (space : Nat) : Option Nat :=
  let mac := (w.extractLsb' 28 4).toNat = 4
  let q := if op = .load then (w.extractLsb' 21 3).toNat
    else if space = 1 then (w.extractLsb' 8 2).toNat else 4 + (w.extractLsb' 1 2).toNat
  let en := if space = 1 then w.getLsbD 14 && !w.getLsbD 13 else w.getLsbD 7 && !w.getLsbD 6
  let mine : Bool := if space = 1 then q < 4 else 4 ≤ q
  if (op = .load && mine) || (mac && en) then some (o.pointer q) else none

/-- The X or Y word an instruction writes: space 2 X and 3 Y, as a recast counts them. -/
def cruWrites (o : Cru) (op : CruOp) (w : Word) : List (Nat × Nat) :=
  let q := (w.extractLsb' 21 3).toNat
  let xq := (w.extractLsb' 8 2).toNat
  let yq := 4 + (w.extractLsb' 1 2).toNat
  if op = .store then [(if q < 4 then 2 else 3, o.pointer q)]
  else if (w.extractLsb' 28 4).toNat = 4 then
    (if w.getLsbD 14 && w.getLsbD 13 then [(2, o.pointer xq)] else []) ++
    (if w.getLsbD 7 && w.getLsbD 6 then [(3, o.pointer yq)] else [])
  else []

/-- Report an error of crucible `p` at an address of its program (R195). -/
def reportCru (code p pc : Nat) (s : State) : State := reportAt code 3 p 0 (BitVec.ofNat 64 pc) s

/-- The crucible leaves RUNNING for ERROR in a cycle (R192, R195): the instruction has not executed. -/
def enterError (cause : Nat) (c : Cru) : Cru :=
  { countHoldoff (land c) with st := .error, cause := BitVec.ofNat 4 cause, stall := false, haltAsked := false, shadow := [], cycles := c.cycles + 1 }

/-- The crucible enters ERROR before the instruction executes (R195). -/
def cruError (p code cause : Nat) (s : State) : State := reportCru code p (s.cru p).pc (s.modCru p (enterError cause))

/-- A window read meets an uncorrectable word (R195): STATE becomes ERROR; CAUSE tells why the crucible last left RUNNING, so only one that runs takes
it, and a stopped one stays STOPPED (R192). -/
def spoilWindow (c : Cru) : Cru :=
  match c.st with
  | .running => { land c with st := .error, cause := 5, stall := false, haltAsked := false, shadow := [] }
  | .stopped => c
  | _ => { c with st := .error }

/-- The word at PC is no instruction (R181, R195): it is illegal, unless the read of it fails first. -/
def cruIllegal (p : Nat) (ev : CruEv) (s : State) : State :=
  let c := s.cru p
  if ev = .uncorrectable 0 then cruError p 0x3204 5 s
  else if ev = .corrected 0 then
    cruError p 0x3202 3 (reportCru 0x1201 p c.pc (s.modCru p (fun c => { c with scrub := c.scrub ++ [c.pc] })))
  else cruError p 0x3202 3 s

/-- A corrected word: logged, and a memory word waits for its scrub (R195). -/
def cruCorrected (o : Cru) (op : CruOp) (w : Word) (p space : Nat) (s : State) : State :=
  let addr := if space = 0 then some o.pc else if space < 3 then cruReads o op w space else none
  match addr with
  | some a => reportCru 0x1201 p o.pc (s.modCru p (fun c => { c with scrub := c.scrub ++ [space * 4096 + a] }))
  | none => if space = 3 then reportCru 0x1202 p o.pc s else s

/-- An uncorrectable word that the cycle would use (R195). -/
def cruSpoiled (o : Cru) (op : CruOp) (w : Word) (ev : CruEv) : Bool :=
  match ev with
  | .uncorrectable space => space = 0 || 3 ≤ space || (cruReads o op w space).isSome
  | _ => false

/-- A stalled cycle: the instruction has not executed (R188). -/
def cruStall (c : Cru) : Cru :=
  { countHoldoff (land c) with stall := true, stalls := c.stalls + 1, cycles := c.cycles + 1, shadow := [] }

/-- The instruction's cycle, from the crucible at its start. -/
def cruRun (op : CruOp) (w : Word) (free : DWord) (o : Cru) : Cru :=
  cruEffect op o { countHoldoff (land o) with shadow := [], stall := false, cycles := o.cycles + 1 } w free

/-- One cycle of crucible `p` issuing operation `op` of word `w`. -/
def cruExecute (p : Nat) (op : CruOp) (w : Word) (ev : CruEv) (s : State) : State :=
  let o := s.cru p
  if cruSpoiled o op w ev then cruError p 0x3204 5 s else
  let s := match ev with
    | .corrected space => cruCorrected o op w p space s
    | _ => s
  match cruFault o op w with
  | some cause => cruError p (if cause = 3 then 0x3202 else 0x3203) cause s
  | none =>
    if streamStalls o op w then s.modCru p cruStall
    else
      let (free, s) := s.draw
      (cruWrites o op w).foldl (fun s a => markDirty p a.1 a.2 s) (s.modCru p (cruRun op w free))

/-- An enabled interrupt waits at a boundary that may accept it (R163). -/
def interruptReady (c : Cru) : Bool :=
  stIe c.status && !stIip c.status && (enabledSource c).isSome && boundaryOpen c

/-- The crucible issues an instruction in this cycle: it runs, its flask is neither stopped nor frozen, and neither a halt
nor an interrupt falls due at this boundary. -/
def cruIssues (s : State) (p : Nat) : Bool :=
  let c := s.cru p
  s.flaskLive p && !s.heldStill p && c.st = .running && !interruptReady c && !(c.haltAsked && acceptablePoint c)

/-- The cycle of an instruction: the word at PC is this operation. A word that is no instruction at all, which any of these
commands meets, is illegal (R181, R195). -/
def cruCycle (op : CruOp) (p : Nat) (ev : CruEv) (s : State) : Result :=
  let c := s.cru p
  let w := Tab.get 0 c.pm c.pc
  if !cruIssues s p then ok s
  else match cruOp (stM1024 c.status) w with
    | some op' => event (op' = op) s (cruExecute p op w ev s)
    | none => ok (cruIllegal p ev s)

/-- CRU_NOP (R181). -/
def execCruNop (p : Nat) (ev : CruEv) (s : State) : Result := cruCycle .nop p ev s
/-- CRU_HALT (R192). -/
def execCruHalt (p : Nat) (ev : CruEv) (s : State) : Result := cruCycle .halt p ev s
/-- CRU_B (R153, R162). -/
def execCruB (p : Nat) (ev : CruEv) (s : State) : Result := cruCycle .b p ev s
/-- CRU_CALL (R184). -/
def execCruCall (p : Nat) (ev : CruEv) (s : State) : Result := cruCycle .call p ev s
/-- CRU_RET (R184). -/
def execCruRet (p : Nat) (ev : CruEv) (s : State) : Result := cruCycle .ret p ev s
/-- CRU_RETI (R165). -/
def execCruReti (p : Nat) (ev : CruEv) (s : State) : Result := cruCycle .reti p ev s
/-- CRU_REP (R157). -/
def execCruRep (p : Nat) (ev : CruEv) (s : State) : Result := cruCycle .rep p ev s
/-- CRU_BREP (R158). -/
def execCruBrep (p : Nat) (ev : CruEv) (s : State) : Result := cruCycle .brep p ev s
/-- CRU_EI (R181). -/
def execCruEi (p : Nat) (ev : CruEv) (s : State) : Result := cruCycle .ei p ev s
/-- CRU_DI (R181). -/
def execCruDi (p : Nat) (ev : CruEv) (s : State) : Result := cruCycle .di p ev s
/-- CRU_MOV (R145, R153). -/
def execCruMov (p : Nat) (ev : CruEv) (s : State) : Result := cruCycle .mov p ev s
/-- CRU_LOAD (R152). -/
def execCruLoad (p : Nat) (ev : CruEv) (s : State) : Result := cruCycle .load p ev s
/-- CRU_STORE (R152, R155). -/
def execCruStore (p : Nat) (ev : CruEv) (s : State) : Result := cruCycle .store p ev s
/-- CRU_MODP (R152). -/
def execCruModp (p : Nat) (ev : CruEv) (s : State) : Result := cruCycle .modp p ev s
/-- CRU_ADD (R181). -/
def execCruAdd (p : Nat) (ev : CruEv) (s : State) : Result := cruCycle .add p ev s
/-- CRU_SUB (R181). -/
def execCruSub (p : Nat) (ev : CruEv) (s : State) : Result := cruCycle .sub p ev s
/-- CRU_AND (R181). -/
def execCruAnd (p : Nat) (ev : CruEv) (s : State) : Result := cruCycle .and p ev s
/-- CRU_OR (R181). -/
def execCruOr (p : Nat) (ev : CruEv) (s : State) : Result := cruCycle .or p ev s
/-- CRU_XOR (R181). -/
def execCruXor (p : Nat) (ev : CruEv) (s : State) : Result := cruCycle .xor p ev s
/-- CRU_ANDN (R181). -/
def execCruAndn (p : Nat) (ev : CruEv) (s : State) : Result := cruCycle .andn p ev s
/-- CRU_SHL (R181). -/
def execCruShl (p : Nat) (ev : CruEv) (s : State) : Result := cruCycle .shl p ev s
/-- CRU_SHR (R181). -/
def execCruShr (p : Nat) (ev : CruEv) (s : State) : Result := cruCycle .shr p ev s
/-- CRU_SAR (R181). -/
def execCruSar (p : Nat) (ev : CruEv) (s : State) : Result := cruCycle .sar p ev s
/-- CRU_CMP (R181). -/
def execCruCmp (p : Nat) (ev : CruEv) (s : State) : Result := cruCycle .cmp p ev s
/-- CRU_MPY (R169). -/
def execCruMpy (p : Nat) (ev : CruEv) (s : State) : Result := cruCycle .mpy p ev s
/-- CRU_MAC (R172). -/
def execCruMac (p : Nat) (ev : CruEv) (s : State) : Result := cruCycle .mac p ev s
/-- CRU_MSU (R172). -/
def execCruMsu (p : Nat) (ev : CruEv) (s : State) : Result := cruCycle .msu p ev s
/-- CRU_MACS (R171). -/
def execCruMacs (p : Nat) (ev : CruEv) (s : State) : Result := cruCycle .macs p ev s
/-- CRU_CMPY (R181). -/
def execCruCmpy (p : Nat) (ev : CruEv) (s : State) : Result := cruCycle .cmpy p ev s
/-- CRU_CMAC (R181). -/
def execCruCmac (p : Nat) (ev : CruEv) (s : State) : Result := cruCycle .cmac p ev s
/-- CRU_CMSU (R181). -/
def execCruCmsu (p : Nat) (ev : CruEv) (s : State) : Result := cruCycle .cmsu p ev s
/-- CRU_CMACJ (R181). -/
def execCruCmacj (p : Nat) (ev : CruEv) (s : State) : Result := cruCycle .cmacj p ev s
/-- CRU_CLR (R175). -/
def execCruClr (p : Nat) (ev : CruEv) (s : State) : Result := cruCycle .clr p ev s
/-- CRU_EXT32 (R176). -/
def execCruExt32 (p : Nat) (ev : CruEv) (s : State) : Result := cruCycle .ext32 p ev s
/-- CRU_EXT16 (R176). -/
def execCruExt16 (p : Nat) (ev : CruEv) (s : State) : Result := cruCycle .ext16 p ev s
/-- CRU_SIN (R188). -/
def execCruSin (p : Nat) (ev : CruEv) (s : State) : Result := cruCycle .sin p ev s
/-- CRU_SOUT (R188). -/
def execCruSout (p : Nat) (ev : CruEv) (s : State) : Result := cruCycle .sout p ev s

/-! ### Interrupts, limits and scrubs -/

/-- Interrupt entry (R164): no instruction executes in the entry cycle; the levels that are active stay through the handler (R166). -/
def enterInterrupt (n : Nat) (c : Cru) : Cru :=
  let d := idleCycle c
  { (d.setReg 0x2C (BitVec.ofNat 32 c.pc)).setReg 0x2D c.status with
    status := putBit (putBit c.status 25 false) 24 true
    pc := 0x010 + 4 * n
    holdoff := 0
    holdLogged := false
    kept := c.reps.length
    keptBetween := c.between
    between := false }

/-- CRU_INTERRUPT_ACCEPT (R163, R164): the lowest enabled source that is true is accepted. -/
def execCruInterruptAccept (p : Nat) (s : State) : Result :=
  let c := s.cru p
  match enabledSource c with
  | some n =>
    event (s.flaskLive p && !s.heldStill p && c.st = .running && interruptReady c) s (s.modCru p (enterInterrupt n))
  | none => ok s

/-- CRU_HOLDOFF_LIMIT (R167): logged once for each hold-off; the crucible runs on. -/
def execCruHoldoffLimit (p : Nat) (s : State) : Result :=
  let c := s.cru p
  event (c.st = .running && c.hlim ≠ 0 && c.hlim ≤ c.holdoff && !c.holdLogged) s
    (reportCru 0x3201 p c.pc (s.modCru p (fun c => { c with hlimHit := true, holdLogged := true })))

/-- CRU_SCRUB_WRITEBACK (R195): the oldest corrected word is written back; its data was correct already. -/
def execCruScrubWriteback (p : Nat) (s : State) : Result :=
  event (!(s.cru p).scrub.isEmpty) s (s.modCru p (fun c => { c with scrub := c.scrub.drop 1 }))

/-! ### CRU_CMD -/

/-- A crucible that is HALTED or in ERROR. -/
def Cru.atRest (c : Cru) : Bool := c.st = .halted || c.st = .error

/-- RUN at ENTRY starts the flow anew: a branch or REP under way ends, and levels whose body does not hold ENTRY end
(log 27). -/
def startAt (entry : Nat) (c : Cru) : Cru :=
  let kept := (c.reps.drop (c.reps.length - c.kept)).filter (fun l => l.holds (entry % 4096))
  { c with pc := entry % 4096, delay := 0, repLeft := 0, reti := false, returns := false, between := false, kept := kept.length
           reps := c.own.filter (fun l => l.holds (entry % 4096)) ++ kept }

/-- RUN (R194). -/
def cruCmdRun (p : Nat) (useEntry : Bool) (entry : Nat) (s : State) : Except Word State :=
  need ((s.cru p).atRest && !recastHolds s p) abortState (.ok (s.modCru p (fun c =>
    let c := if useEntry then startAt entry c else c
    { c with st := .running, stall := false })))

/-- HALT (R194): taken at the next interrupt-acceptable point. -/
def cruCmdHalt (p : Nat) (s : State) : Except Word State :=
  need ((s.cru p).st = .running && !recastHolds s p) abortState (.ok (s.modCru p (fun c => { c with haltAsked := true })))

/-- STEP (R194): one instruction from HALTED; one that stalls has not executed (log 25). -/
def cruCmdStep (p : Nat) (ev : CruEv) (s : State) : Except Word State :=
  need ((s.cru p).st = .halted && !recastHolds s p) abortState (.ok
    (let s := s.modCru p (fun c => { c with st := .running })
     let c := s.cru p
     let w := Tab.get 0 c.pm c.pc
     let s := match cruOp (stM1024 c.status) w with
       | some op => cruExecute p op w ev s
       | none => cruIllegal p ev s
     s.modCru p (fun c => if c.st = .running then { land c with st := .halted, cause := 6, shadow := [] } else c)))

/-- CLEAR_PORTS (R194). -/
def cruCmdClearPorts (p : Nat) (s : State) : Except Word State :=
  need ((s.cru p).atRest && !recastHolds s p) abortState (.ok (s.modCru p (fun c => { c with si := [], so := [] })))

/-- CRU_CMD_RUN (R194). -/
def execCruCmdRun (path p : Nat) (useEntry : Bool) (entry : Nat) (s : State) : Result :=
  dictCommand path (0x4100 + p) 4 2 (cruCmdRun p useEntry entry) s
/-- CRU_CMD_HALT (R194). -/
def execCruCmdHalt (path p : Nat) (s : State) : Result := dictCommand path (0x4100 + p) 4 2 (cruCmdHalt p) s
/-- CRU_CMD_STEP (R194). -/
def execCruCmdStep (path p : Nat) (ev : CruEv) (s : State) : Result := dictCommand path (0x4100 + p) 4 2 (cruCmdStep p ev) s
/-- CRU_CMD_CLEAR_PORTS (R194). -/
def execCruCmdClearPorts (path p : Nat) (s : State) : Result := dictCommand path (0x4100 + p) 4 2 (cruCmdClearPorts p) s

/-- CRU_HALT_POINT (R194): a requested halt takes effect. -/
def execCruHaltPoint (p : Nat) (s : State) : Result :=
  let c := s.cru p
  event (c.st = .running && c.haltAsked && acceptablePoint c) s
    (s.modCru p (fun c => { land c with st := .halted, cause := 2, haltAsked := false, stall := false, shadow := [] }))

/-! ### The window -/

/-- What CRU_WIN_SELECT of a path names (R189): a space and an address or MOV number. -/
def cruSelected (s : State) (path p : Nat) : Nat × Nat :=
  let v := s.selector path (0x4100 + p) 5
  (v / 2 ^ 30 % 4, v % 4096)

/-- The selected word. -/
def cruWinRead (c : Cru) (space a : Nat) : Word :=
  match space with
  | 0 => Tab.get 0 c.pm a
  | 1 => Tab.get 0 c.x a
  | 2 => Tab.get 0 c.y a
  | _ => c.read a

/-- Write the selected word. -/
def cruWinPut (space a : Nat) (v : Word) (c : Cru) : Cru :=
  match space with
  | 0 => { c with pm := Tab.set 0 c.pm a v }
  | 1 => { c with x := Tab.set 0 c.x a v }
  | 2 => { c with y := Tab.set 0 c.y a v }
  | _ => c.write a v

/-- A number that R145 does not list selects no register (log 27). -/
def cruSelects (space a : Nat) : Bool := space < 3 || a ≤ 0x2D

/-- CRU_WIN_WRITE's checks and effect (R190, R132). -/
def cruWinWrite (path p : Nat) (v : Word) (s : State) : Except Word State :=
  let (space, a) := cruSelected s path p
  need ((s.cru p).atRest && !recastHolds s p && cruSelects space a) abortState (.ok (s.modCru p (cruWinPut space a v)))

/-- CRU_WIN_WRITE (R190). -/
def execCruWinWrite (path p : Nat) (v : Word) (s : State) : Result :=
  dictCommand path (0x4100 + p) 7 2 (cruWinWrite path p v) s

/-- The read of the window: `late` says that no free bus cycle arrived within 16 cycles and the program stalls for one
(R191); a word found bad is logged, and an uncorrectable one is not used (R195). While a recast is under way the target
reads as its source (R132). -/
def cruWinData (path p : Nat) (late : Bool) (ecc : Ecc) (s : State) : Except Word (DWord × State) :=
  let q := s.readFlaskOf p
  let (space, a) := cruSelected s path q
  let c := s.cru q
  let v := (cruWinRead c space a).setWidth 64
  let s := if late && space < 3 && c.st = .running then s.modCru q idleCycle else s
  need (cruSelects space a) abortState
    (match ecc with
     | .ok => .ok (v, s)
     | .corrected => .ok (v, if space < 3 then
         reportCru 0x1201 q c.pc (s.modCru q (fun c => { c with scrub := c.scrub ++ [space * 4096 + a] }))
         else reportCru 0x1202 q c.pc s)
     | .uncorrectable => .ok (0xFFFFFFFF, reportCru 0x3204 q c.pc (s.modCru q spoilWindow)))

/-- A read of the window that does not say whether a free cycle arrives: it is a free bit (log 27). -/
def cruWinAny (path p : Nat) (ecc : Ecc) (s : State) : Except Word (DWord × State) :=
  let (free, s) := s.draw
  cruWinData path p (free.getLsbD 0) ecc s

/-- CRU_WIN_DATA_READ (R191). -/
def execCruWinDataRead (path p : Nat) (late : Bool) (ecc : Ecc) (s : State) : Result :=
  dictRead path (0x4100 + p) 6 1 4 (cruWinData path p late ecc) s

/-- The bits of ST that a CRU_STICKY write clears (R148, R189). -/
def stickyMask (w : Word) : Word :=
  ((w &&& 0xF#32) <<< 20) ||| ((w &&& 0xF0#32) <<< 12) ||| ((w &&& 0x100#32) <<< 7)

/-- CRU_STICKY's effect. -/
def cruStickyClear (p : Nat) (w : Word) (s : State) : Except Word State :=
  need (!recastHolds s p) abortState (.ok (s.modCru p (fun c =>
    { c with status := c.status &&& ~~~(stickyMask w), hlimHit := c.hlimHit && !w.getLsbD 9 })))

/-- CRU_STICKY_CLEAR (R189). -/
def execCruStickyClear (path p : Nat) (w : Word) (s : State) : Result :=
  dictCommand path (0x4100 + p) 8 1 (cruStickyClear p w) s

end Sys2Proof.Machine
end

