-- ==== Sys2Proof/Machine/Crypto.lean ====
section
/-! DEFINITION. CRC-32C (R489) and HMAC-SHA-256 (R642), written out. SHA-256 and HMAC are named by the spec and PRESUMED from
FIPS 180-4 and RFC 2104 (log 31). -/

namespace Sys2Proof.Machine

/-! ### CRC-32C -/

/-- One step of the reflected register. -/
def crc32Bit (c : Word) : Word := if c.getLsbD 0 then (c >>> 1) ^^^ 0x82F63B78#32 else c >>> 1

/-- `n` steps. -/
def crc32Bits : Nat → Word → Word
  | 0, c => c
  | n + 1, c => crc32Bits n (crc32Bit c)

/-- The register after one byte, and after one little-endian word. -/
def crc32Byte (c : Word) (b : Byte) : Word := crc32Bits 8 (c ^^^ b.setWidth 32)
def crc32Word (c w : Word) : Word := crc32Bits 32 (c ^^^ w)

/-- The register before the first byte, and what a register gives after the last. -/
abbrev crcInit : Word := 0xFFFFFFFF#32
def crcFinal (c : Word) : Word := ~~~c

/-- The CRC of bytes, and of whole words. -/
def crcOfBytes (bs : List Byte) : Word := crcFinal (bs.foldl crc32Byte crcInit)
def crcOfWords (ws : List Word) : Word := crcFinal (ws.foldl crc32Word crcInit)

/-! ### SHA-256 -/

/-- The round constants, in quarters. -/
def shaK0 : List Word :=
  [0x428a2f98#32, 0x71374491#32, 0xb5c0fbcf#32, 0xe9b5dba5#32, 0x3956c25b#32, 0x59f111f1#32, 0x923f82a4#32, 0xab1c5ed5#32,
   0xd807aa98#32, 0x12835b01#32, 0x243185be#32, 0x550c7dc3#32, 0x72be5d74#32, 0x80deb1fe#32, 0x9bdc06a7#32, 0xc19bf174#32]
def shaK1 : List Word :=
  [0xe49b69c1#32, 0xefbe4786#32, 0x0fc19dc6#32, 0x240ca1cc#32, 0x2de92c6f#32, 0x4a7484aa#32, 0x5cb0a9dc#32, 0x76f988da#32,
   0x983e5152#32, 0xa831c66d#32, 0xb00327c8#32, 0xbf597fc7#32, 0xc6e00bf3#32, 0xd5a79147#32, 0x06ca6351#32, 0x14292967#32]
def shaK2 : List Word :=
  [0x27b70a85#32, 0x2e1b2138#32, 0x4d2c6dfc#32, 0x53380d13#32, 0x650a7354#32, 0x766a0abb#32, 0x81c2c92e#32, 0x92722c85#32,
   0xa2bfe8a1#32, 0xa81a664b#32, 0xc24b8b70#32, 0xc76c51a3#32, 0xd192e819#32, 0xd6990624#32, 0xf40e3585#32, 0x106aa070#32]
def shaK3 : List Word :=
  [0x19a4c116#32, 0x1e376c08#32, 0x2748774c#32, 0x34b0bcb5#32, 0x391c0cb3#32, 0x4ed8aa4a#32, 0x5b9cca4f#32, 0x682e6ff3#32,
   0x748f82ee#32, 0x78a5636f#32, 0x84c87814#32, 0x8cc70208#32, 0x90befffa#32, 0xa4506ceb#32, 0xbef9a3f7#32, 0xc67178f2#32]
def shaK : List Word := shaK0 ++ shaK1 ++ shaK2 ++ shaK3

/-- The initial hash value. -/
def shaH0 : List Word :=
  [0x6a09e667#32, 0xbb67ae85#32, 0x3c6ef372#32, 0xa54ff53a#32, 0x510e527f#32, 0x9b05688c#32, 0x1f83d9ab#32, 0x5be0cd19#32]

/-- The next word of the message schedule, which is held last word first. -/
def shaNext (ws : List Word) : Word :=
  let w2 := ws.getD 1 0
  let w15 := ws.getD 14 0
  let s0 := w15.rotateRight 7 ^^^ w15.rotateRight 18 ^^^ (w15 >>> 3)
  let s1 := w2.rotateRight 17 ^^^ w2.rotateRight 19 ^^^ (w2 >>> 10)
  ws.getD 15 0 + s0 + ws.getD 6 0 + s1

/-- `n` further words of the schedule. -/
def shaExpand : Nat → List Word → List Word
  | 0, ws => ws
  | n + 1, ws => shaExpand n (shaNext ws :: ws)

/-- One round: the eight working variables a to h. -/
def shaRound (v : List Word) (kw : Word × Word) : List Word :=
  match v with
  | [a, b, c, d, e, f, g, h] =>
    let s1 := e.rotateRight 6 ^^^ e.rotateRight 11 ^^^ e.rotateRight 25
    let t1 := h + s1 + ((e &&& f) ^^^ (~~~e &&& g)) + kw.1 + kw.2
    let s0 := a.rotateRight 2 ^^^ a.rotateRight 13 ^^^ a.rotateRight 22
    [t1 + s0 + ((a &&& b) ^^^ (a &&& c) ^^^ (b &&& c)), a, b, c, d + t1, e, f, g]
  | _ => v

/-- One block of sixteen words. -/
def shaBlock (h block : List Word) : List Word :=
  let ws := (shaExpand 48 block.reverse).reverse
  List.zipWith (· + ·) h ((List.zip shaK ws).foldl shaRound h)

/-- Blocks of a padded message of words. -/
def shaBlocks : Nat → List Word → List Word → List Word
  | 0, h, _ => h
  | n + 1, h, ws => shaBlocks n (shaBlock h (ws.take 16)) (ws.drop 16)

/-- Bytes as big-endian words. -/
def beWords : List Byte → List Word
  | a :: b :: c :: d :: r => (a ++ b ++ c ++ d) :: beWords r
  | _ => []

/-- A word's bytes, highest first and lowest first. -/
def beBytes (w : Word) : List Byte := [w.extractLsb' 24 8, w.extractLsb' 16 8, w.extractLsb' 8 8, w.extractLsb' 0 8]
def leBytes (w : Word) : List Byte := [w.extractLsb' 0 8, w.extractLsb' 8 8, w.extractLsb' 16 8, w.extractLsb' 24 8]

/-- The padded message. -/
def shaPad (bs : List Byte) : List Byte :=
  let n := bs.length
  let z := (119 - n % 64) % 64
  let bits := BitVec.ofNat 64 (8 * n)
  bs ++ [0x80#8] ++ List.replicate z 0#8 ++ beBytes (bits.extractLsb' 32 32) ++ beBytes (bits.extractLsb' 0 32)

/-- SHA-256 of bytes. -/
def sha256 (bs : List Byte) : List Byte :=
  let p := shaPad bs
  (shaBlocks (p.length / 64) shaH0 (beWords p)).flatMap beBytes

/-- HMAC-SHA-256 with a key of at most 64 bytes. -/
def hmacSha256 (key msg : List Byte) : List Byte :=
  let k := key ++ List.replicate (64 - key.length) 0#8
  sha256 (k.map (· ^^^ 0x5C#8) ++ sha256 (k.map (· ^^^ 0x36#8) ++ msg))

/-- Bytes, four at a time, as little-endian words; a last word short of bytes is filled with zeros. -/
def leWords : List Byte → List Word
  | [] => []
  | [a] => [0#8 ++ 0#8 ++ 0#8 ++ a]
  | [a, b] => [0#8 ++ 0#8 ++ b ++ a]
  | [a, b, c] => [0#8 ++ c ++ b ++ a]
  | a :: b :: c :: d :: r => (d ++ c ++ b ++ a) :: leWords r

end Sys2Proof.Machine
end

