-- ==== Sys2Proof/Machine/CupolaOps.lean ====
section
/-! DEFINITION. Cupola's own operations on threads, items, flows and the match store (R322-R349), apart from the core
whose store asks for them. -/

namespace Sys2Proof.Machine

/-- Thread `t`, and a change to it. -/
def State.thread (s : State) (t : Nat) : Thread := Tab.get Thread.reset s.cup.threads t
def State.modThread (s : State) (t : Nat) (g : Thread → Thread) : State :=
  { s with cup := { s.cup with threads := Tab.modify Thread.reset s.cup.threads t g } }

/-- Change Cupola's own registers. -/
def State.modCup (s : State) (g : Cupola → Cupola) : State := { s with cup := g s.cup }

/-- Cupola runs. -/
def State.cupRuns (s : State) : Bool := s.domOn 87 && s.loader.released && !s.cup.stopped

/-- Fields of T_CFG (R363). -/
def Thread.basePrio (x : Thread) : Nat := (x.cfg.extractLsb' 27 5).toNat
def Thread.group (x : Thread) : Nat := (x.cfg.extractLsb' 20 6).toNat
def Thread.affine (x : Thread) (c : Nat) : Bool := x.cfg.getLsbD (8 + c)

/-- Fields of an item header (R326). -/
def itemPrio (h : Word) : Nat := (h.extractLsb' 26 5).toNat
def itemGroup (h : Word) : Nat := (h.extractLsb' 20 6).toNat
def itemFlow (h : Word) : Nat := (h.extractLsb' 0 20).toNat

/-- Item number `n`. -/
def State.item (s : State) (n : Nat) : Option Item := Tab.get none s.cup.items n

/-- The priority a thread runs at (R332). -/
def State.effPrio (s : State) (x : Thread) : Nat :=
  match x.item with
  | some n => match s.item n with
    | some i => itemPrio i.header
    | none => x.basePrio
  | none => x.basePrio

/-- A thread joins the tail, or the head, of its list (R336). -/
def toTail (t : Nat) (st : ThSt) (s : State) : State :=
  (s.modThread t (fun x => { x with st := st, order := s.cup.readyHi })).modCup (fun c => { c with readyHi := c.readyHi + 1 })
def toHead (t : Nat) (s : State) : State :=
  (s.modThread t (fun x => { x with st := .ready, order := s.cup.readyLo - 1 })).modCup (fun c => { c with readyLo := c.readyLo - 1 })

/-! ### Items and flows (R326-R335) -/

/-- The listed items of a state with their numbers, oldest first. -/
def itemsWhere (s : State) (g : Item → Bool) : List (Nat × Item) :=
  s.cup.items.filterMap (fun e => match e.2 with
    | some i => if g i then some (e.1, i) else none
    | none => none)

/-- The better of two eligible items: lower PRIO, then earlier arrival (R331). -/
def bestItem : List (Nat × Item) → Option Nat
  | [] => none
  | (n, i) :: r =>
    match r.foldl (fun (b : Nat × Item) e => if itemPrio e.2.header < itemPrio b.2.header then e else b) (n, i) with
    | (m, _) => some m

/-- The thread of lowest order among those that satisfy a condition. -/
def firstThread (s : State) (g : Thread → Bool) : Option Nat :=
  match s.cup.threads.filter (fun e => g e.2) with
  | [] => none
  | e :: r => some (r.foldl (fun (b : Nat × Thread) e => if e.2.order < b.2.order then e else b) e).1

/-- Item payload word `k`, 0 where absent. -/
def payloadWord (i : Item) (k : Nat) : Word := i.payload.getD k 0

/-- The registers an assignment delivers (R333). -/
def itemRegs (i : Item) : List (Nat × Word) :=
  [(10, payloadWord i 0), (11, payloadWord i 1), (12, payloadWord i 2), (13, payloadWord i 3), (14, i.header)]

/-- An ELIGIBLE item of group `g` is assigned to the thread of the group that became IDLE first (R331). -/
def assignGroup (g : Nat) (s : State) : State :=
  match bestItem (itemsWhere s (fun i => i.st = .eligible && itemGroup i.header = g)), firstThread s (fun x => x.st = .idle && x.group = g) with
  | some n, some t =>
    match s.item n with
    | some i =>
      let s := s.modCup (fun c => { c with items := Tab.set none c.items n (some { i with st := .service, thread := t }) })
      toTail t .ready (s.modThread t (fun x => { x with item := some n, held := itemRegs i, operands := 0 }))
    | none => s
  | _, _ => s

/-- A flow has an item in service or waiting. -/
def flowBusy (s : State) (f : Nat) : Bool := !(itemsWhere s (fun i => i.st ≠ .eligible && itemFlow i.header = f)).isEmpty

/-- A flow has an item ELIGIBLE: its next item, not yet in service. -/
def flowEligible (s : State) (f : Nat) : Bool := !(itemsWhere s (fun i => i.st = .eligible && itemFlow i.header = f)).isEmpty

/-- Accept a posted item (R330): ELIGIBLE if its flow is at rest, WAITING otherwise. -/
def acceptItem (h : Word) (payload : List Word) (s : State) : State :=
  let f := itemFlow h
  let st : ItemSt := if flowBusy s f || flowEligible s f then .waiting else .eligible
  let s := s.modCup (fun c => { c with
    items := Tab.set none c.items c.nextItem (some { st := st, header := h, payload := payload, thread := 0 }), nextItem := c.nextItem + 1 })
  assignGroup (itemGroup h) s

/-- Slots of item memory (R327). -/
abbrev itemSlots : Nat := 524288

/-- POST: a result code and the state after it (R326, R351). -/
def cupPost (h : Word) (payload : List Word) (s : State) : Nat × State :=
  if itemGroup h = 63 || h.getLsbD 31 || 4 < payload.length then (resInvalid, s)
  else if itemSlots ≤ s.cup.items.length then (resRefused, s.modCup (fun c => { c with postsRefused := c.postsRefused + 1 }))
  else (resOk, acceptItem h payload s)

/-- The service of a thread's item ends; the oldest WAITING item of its flow becomes ELIGIBLE (R330). Answers the group of
that item. -/
def endService (t : Nat) (s : State) : Option Nat × State :=
  match (s.thread t).item with
  | none => (none, s)
  | some n =>
    let f := match s.item n with
      | some i => itemFlow i.header
      | none => 0
    let s := (s.modCup (fun c => { c with items := Tab.set none c.items n none })).modThread t (fun x => { x with item := none })
    match itemsWhere s (fun i => i.st = .waiting && itemFlow i.header = f) with
    | (m, i) :: _ => (some (itemGroup i.header), s.modCup (fun c => { c with items := Tab.set none c.items m (some { i with st := .eligible }) }))
    | [] => (none, s)

/-- Assign for the group a new eligible item belongs to, if there is one. -/
def assignMaybe (g : Option Nat) (s : State) : State :=
  match g with
  | some g => assignGroup g s
  | none => s

/-! ### The match store (R341-R346) -/

/-- The slot a tag occupies. -/
def slotOfTag (s : State) (tag : Word) : Option Nat :=
  match s.cup.slots.find? (fun e => e.2.st ≠ .free && e.2.tag = tag) with
  | some e => some e.1
  | none => none

/-- Slot `n`. -/
def State.slotAt (s : State) (n : Nat) : MatchSlot := Tab.get MatchSlot.reset s.cup.slots n
def State.setSlot (s : State) (n : Nat) (x : MatchSlot) : State :=
  s.modCup (fun c => { c with slots := Tab.set MatchSlot.reset c.slots n x })

/-- Match slots (R341), and the slot the next allocation takes: the lowest FREE one (log 30). -/
abbrev matchSlots : Nat := 65536
def freeSlot (s : State) : Option Nat :=
  if matchSlots ≤ s.cup.slots.length then none
  else (List.range (s.cup.slots.length + 1)).find? (fun n => (s.slotAt n).st = .free)

/-- Every slot of a waiter is FILLED: its operands are copied, its slots freed, and it becomes READY (R344). A thread that has become FAULTED as it
waited stays so: only RESTART takes it to READY (R323). -/
def completeMatch (t : Nat) (s : State) : State :=
  let tags := (s.thread t).tags
  if (s.thread t).st ≠ .match' || tags.isEmpty || !tags.all (fun n => (s.slotAt n).st = .filled) then s else
  let ops := tags.map (fun n => (s.slotAt n).operand)
  let regs := (List.range 4).map (fun k => (10 + k, ops.getD k 0))
  let s := tags.foldl (fun s n => s.setSlot n .reset) s
  toTail t .ready (s.modThread t (fun x => { x with
    held := regs, operands := tags.length, tags := [], timeout := 0, result := some (resOk, 0) }))

/-- SEND of a tag (R342): RESULT, RVAL and the state after it. -/
def cupSend (tag v : Word) (s : State) : Nat × Nat × State :=
  match slotOfTag s tag with
  | some n =>
    let x := s.slotAt n
    if x.st = .armed then (resOk, n, completeMatch x.waiter (s.setSlot n { x with st := .filled, operand := v }))
    else (resDuplicate, n, s.modCup (fun c => { c with dupOperands := c.dupOperands + 1 }))
  | none =>
    match freeSlot s with
    | some n => (resOk, n, s.setSlot n { st := .held, tag := tag, operand := v, waiter := 0, pos := 0 })
    | none => (resRefused, 0, s.modCup (fun c => { c with matchRefused := c.matchRefused + 1 }))

/-- Tags that only device sources send (R345). -/
def reservedTag (t : Word) : Bool := decide (0xF0000000 ≤ t.toNat)

/-- Arm or fill one tag of a WAIT_MATCH. -/
def armTag (t pos : Nat) (tag : Word) (s : State) : State × Nat :=
  match slotOfTag s tag with
  | some n => (s.setSlot n { s.slotAt n with st := .filled, waiter := t, pos := pos }, n)
  | none =>
    let n := (freeSlot s).getD 0
    (s.setSlot n { st := .armed, tag := tag, operand := 0, waiter := t, pos := pos }, n)

/-- Arm or fill every tag, in order. -/
def armTags (t : Nat) : Nat → List Word → State → State × List Nat
  | _, [], s => (s, [])
  | pos, tag :: r, s =>
    let (s, n) := armTag t pos tag s
    let (s, ns) := armTags t (pos + 1) r s
    (s, n :: ns)

/-- Why a WAIT_MATCH does not take effect (R343). -/
def waitRefused (s : State) (tags : List Word) : Option Nat :=
  if tags.isEmpty || 4 < tags.length || tags.eraseDups.length ≠ tags.length then some resInvalid
  else if tags.any (fun g => match slotOfTag s g with
      | some n => (s.slotAt n).st = .armed || (s.slotAt n).st = .filled
      | none => false) then some resBusy
  else if matchSlots < s.cup.slots.length + (tags.filter (fun g => (slotOfTag s g).isNone)).length then some resRefused
  else none

/-! ### Threads (R323, R348) -/

/-- Discard what a cancel discards (R348): the thread's slots are freed, its item's service ends. Answers RVAL of R349,
without its bank. -/
def cancelThread (t : Nat) (s : State) : Nat × State :=
  let x := s.thread t
  let filled := (x.tags.filter (fun n => (s.slotAt n).st = .filled)).length
  let lost := filled + x.operands
  let prior := match x.st with
    | .idle => 1 | .ready => 2 | .running => 3 | .match' => 4 | .delay => 5
    | _ => 6
  let rval := (if x.st = .ready then 2 ^ 31 else 0) + (if x.item.isSome then 2 ^ 30 else 0) + prior * 2 ^ 27 + lost % 8 * 2 ^ 16
  let s := x.tags.foldl (fun s n => s.setSlot n .reset) s
  let s := s.modCup (fun c => { c with
    discarded := c.discarded + BitVec.ofNat 32 lost
    itemsCancelled := if x.item.isSome then c.itemsCancelled + 1 else c.itemsCancelled
    sent := c.sent.filter (fun e => e.2 ≠ some t) })
  let (g, s) := endService t s
  let s := s.modThread t (fun x => { x with
    st := .cancelled, tags := [], held := [], operands := 0, timeout := 0, result := none, cancelAsked := false, bank := none })
  (rval, assignMaybe g s)

/-- CREATE (R323): the result code. -/
def createThread (t : Nat) (s : State) : Nat × State :=
  let x := s.thread t
  if x.st = .free || x.st = .cancelled then
    let s := s.modThread t (fun x => { x with fresh := true, item := none, held := [], operands := 0, result := none, tags := [], bank := none })
    if x.group = 63 then (resOk, toTail t .ready s) else (resOk, assignGroup x.group (toTail t .idle s))
  else (resState, s)

/-- The slots of a waiter that waits no more: those ARMED are freed and operands received stay HELD (R323). -/
def releaseSlots (t : Nat) (s : State) : State :=
  ((s.thread t).tags.foldl (fun s n =>
    let x := s.slotAt n
    if x.st = .armed then s.setSlot n .reset else s.setSlot n { x with st := .held, waiter := 0, pos := 0 }) s).modThread t (fun x => { x with tags := [] })

/-- RESTART (R323): the thread starts at its entry address and its item is delivered again; the slots it still holds are released as by a timeout
(log 35). -/
def restartThread (t : Nat) (s : State) : Nat × State :=
  let x := s.thread t
  if x.st ≠ .faulted then (resState, s) else
  let regs := match x.item with
    | some n => match s.item n with
      | some i => itemRegs i
      | none => []
    | none => []
  (resOk, toTail t .ready ((releaseSlots t s).modThread t (fun x => { x with fresh := true, held := regs, operands := 0, result := none })))

/-- A thread becomes FAULTED: ATTN.ABANDONED is set (R359). -/
def faultThread (t : Nat) (s : State) : State :=
  (s.modThread t (fun x => { x with st := .faulted })).modCup (fun c => { c with abandoned := true })

/-- DELAY and a match timeout expire (R323, R347). -/
def expireDelay (t : Nat) (s : State) : State :=
  toTail t .ready (s.modThread t (fun x => { x with timeout := 0, result := some (resOk, 0) }))

/-- The timeout frees armed slots; operands received stay HELD. -/
def expireMatch (t : Nat) (s : State) : State :=
  toTail t .ready ((releaseSlots t s).modThread t (fun x => { x with timeout := 0, held := [], operands := 0, result := some (resTimeout, 0) }))

/-- Thread `t` enters the delay list for `d` ticks, behind what entered before it (R347). -/
def enterDelay (t d : Nat) (s : State) : State :=
  (s.modThread t (fun x => { x with timeout := d, due := s.cup.tickNow + d, entered := s.cup.entries })).modCup (fun u => { u with entries := u.entries + 1 })

/-- The entry of thread `t` has expired, and of those that have none was to become READY before it (R347). -/
def expiryTurn (s : State) (t : Nat) : Bool :=
  let x := s.thread t
  x.timeout ≠ 0 && x.due ≤ s.cup.tickNow &&
    s.cup.threads.all (fun e => e.1 = t || e.2.timeout = 0 || x.due < e.2.due || (x.due = e.2.due && x.entered < e.2.entered))

/-- Cupola's part of a pour tick (R347): every TICK × 100 ns, which is TICK × 16 pour ticks, a tick falls, and from it the TICK that stands applies. -/
def cupolaTick (s : State) : State :=
  if !s.cupRuns then s
  else if s.cup.sinceTick + 1 < s.cup.period * 16 then s.modCup (fun u => { u with sinceTick := u.sinceTick + 1 })
  else s.modCup (fun u => { u with sinceTick := 0, tickNow := u.tickNow + 1, period := s.settingN 0x3300 2 })

/-- An uncorrectable link of a list stops Cupola (R369). -/
def cupolaStop (s : State) : State :=
  closePort 11 0 (reportAt 0x4401 0 0 0 0 (s.modCup (fun c => { c with stopped := true })))

end Sys2Proof.Machine
end

