-- ==== Sys2Proof/Machine/Pins.lean ====
section
/-! DEFINITION. General pins (16_general_pins.md): banks, owners, the input register and interrupts, and the pin
peripherals. -/

namespace Sys2Proof.Machine

/-- Change the pins. -/
def State.modPins (s : State) (g : PinState → PinState) : State := { s with pins := g s.pins }

/-- Bank `b`. -/
def State.pinBank (s : State) (b : Nat) : PinBank := Tab.get PinBank.reset s.pins.banks b

/-- Peripheral number `i`, and a change to it. -/
def State.periph (s : State) (i : Nat) : PinPeriph := Tab.get PinPeriph.reset s.pins.periphs i
def State.modPeriph (s : State) (i : Nat) (g : PinPeriph → PinPeriph) : State :=
  s.modPins (fun p => { p with periphs := Tab.modify PinPeriph.reset p.periphs i g })

/-- A bank's supply is in a range (R726). -/
def PinBank.inRange (b : PinBank) : Bool := b.supply = 1 || b.supply = 2

/-- A bank is in its configured state (R728), once a full image has been released (R616). -/
def State.bankUp (s : State) (b : Nat) : Bool :=
  s.pins.configured && (s.pinBank b).inRange && (s.pinBank b).settled

/-! ### Owners (R729-R734) -/

/-- The configuration word of peripheral number `i`. -/
def periphCfg (s : State) (i : Nat) : Word :=
  if i < 4 then s.settingW (0x2580 + i) 1
  else if i < 8 then s.settingW (0x2584 + (i - 4)) 1
  else if i < 10 then s.settingW (0x2588 + (i - 8)) 1
  else if i < 14 then s.settingW (0x2598 + (i - 10)) 1
  else if i < 22 then s.settingW (0x2590 + (i - 14)) 1
  else s.settingW 0x25A0 (i - 22 + 1)

/-- The pin set of peripheral number `i` (R729). -/
def periphPins (i : Nat) (alt : Bool) : List Nat :=
  if i < 4 then
    if alt && i = 2 then [60, 61] else if alt && i = 3 then [62, 63] else [2 * i, 2 * i + 1]
  else if i < 8 then
    let b := if alt && i = 7 then 52 else 8 + 4 * (i - 4)
    [b, b + 1, b + 2, b + 3]
  else if i < 10 then
    let b := if alt && i = 8 then 56 else 24 + 4 * (i - 8)
    [b, b + 1, b + 2, b + 3]
  else if i < 14 then [40 + (i - 10)]
  else if i < 22 then [32 + (i - 14)]
  else [44 + (i - 22)]

/-- OWNER × 16 + INST of peripheral number `i` (R742). -/
def periphCode (i : Nat) : Nat :=
  if i < 4 then 2 * 16 + i
  else if i < 8 then 3 * 16 + (i - 4)
  else if i < 10 then 4 * 16 + (i - 8)
  else if i < 14 then 5 * 16 + (i - 10)
  else if i < 22 then 6 * 16 + (i - 14)
  else 7 * 16 + (i - 22)

/-- The pins that an enabled peripheral takes. -/
def wantedPins (s : State) (i : Nat) : List Nat :=
  let c := periphCfg s i
  if c.getLsbD 31 then periphPins i (c.getLsbD 30) else []

/-- One peripheral's turn in the settlement: it takes its whole pin set if every pin of it is free and in a bank that is
up. -/
def settleOne (s : State) (t : Tab Nat) (i : Nat) : Tab Nat :=
  let ps := wantedPins s i
  if ps.all (fun n => Tab.get 0 t n = 0 && s.bankUp (n / 32)) then ps.foldl (fun t n => Tab.set 0 t n (periphCode i)) t else t

/-- The owners as R730 settles them, from priority 1 down. -/
def settleOwners (s : State) : Tab Nat := (List.range 38).foldl (settleOne s) []

/-- A peripheral has every pin it wants. -/
def ownsPins (t : Tab Nat) (s : State) (i : Nat) : Bool :=
  let ps := wantedPins s i
  !ps.isEmpty && ps.all (fun n => Tab.get 0 t n = periphCode i)

/-- The peripheral owns its pins; an enabled one that does not is BLOCKED. -/
def State.owns (s : State) (i : Nat) : Bool := ownsPins s.pins.owner s i
def State.blocked (s : State) (i : Nat) : Bool := !(wantedPins s i).isEmpty && !s.owns i

/-- What drives a pin: its owner, or its GPIO logic as output latch or probe (R733). -/
def pinSource (t : Tab Nat) (s : State) (n : Nat) : Nat :=
  let o := Tab.get 0 t n
  if o = 0 && (s.settingW (0x2500 + n) 1).getLsbD 31 then 16 else o

/-- The device drives a pin in this cycle (R732, R735, R738). -/
def pinDriven (s : State) (n : Nat) : Bool :=
  let c := s.settingW (0x2500 + n) 1
  let o := Tab.get 0 s.pins.owner n
  s.bankUp (n / 32) && !s.pins.switching.getLsbD n &&
    (if o = 0 then c.getLsbD 31 || (c.getLsbD 30 && !(c.getLsbD 27 && s.pins.latch.getLsbD n))
     else if o / 16 = 3 then n % 4 ≠ 2
     else if o / 16 = 4 then n % 2 = 0
     else if o / 16 = 6 then (periphCfg s (14 + o % 16)).getLsbD 29
     else o / 16 = 7)

/-- The level the device drives a pin to (R735, R738, R739, R744): `none` where it drives none, or where a serial peripheral does, whose level comes with
the sample. -/
def drivenLevel (s : State) (n : Nat) : Option Bool :=
  let c := s.settingW (0x2500 + n) 1
  let o := Tab.get 0 s.pins.owner n
  let pol := (periphCfg s (if o / 16 = 7 then 22 + o % 16 else 14 + o % 16)).getLsbD 28
  if !pinDriven s n then none
  else if o = 0 then some (if c.getLsbD 31 then s.pins.probe.getLsbD (c.toNat % 16) else s.pins.latch.getLsbD n)
  else if o / 16 = 7 then some (s.pins.pulsing.getLsbD (o % 16) = pol)
  else if o / 16 = 6 then some (!pol)
  else none

/-- Put pin `n`'s bit of a register of all pins. -/
def putPin (b : BitVec 64) (n : Nat) (v : Bool) : BitVec 64 := if v then b ||| (1#64 <<< n) else b &&& ~~~(1#64 <<< n)

/-- The levels kept with those that state `s` drives. -/
def keptDriven (s : State) (kept : BitVec 64) : BitVec 64 :=
  (List.range 64).foldl (fun b n => match drivenLevel s n with
    | some v => putPin b n v
    | none => b) kept

/-- The keepers of pins that were driven in state `old` hold the level driven last (R737). -/
def keepDriven (old s : State) : State := s.modPins (fun p => { p with kept := keptDriven old p.kept })

/-- The level of pin `n` as `d` drives it. An undriven pin takes what the device drives, else its PULL (R737): low, high, or the level kept; without a
pull, or in a bank without its supply, the level is free (log 29). Before a full image every pin is held low (R616). -/
def padLevel (n : Nat) (d : PadDrive) (s : State) : Bool × State :=
  match d with
  | .low => (false, s)
  | .high => (true, s)
  | .undriven => match drivenLevel s n with
    | some v => (v, s)
    | none =>
      let pull := ((s.settingW (0x2500 + n) 1).extractLsb' 28 2).toNat
      let (v, s1) := s.draw
      if !s.pins.configured then (false, s)
      else if !s.bankUp (n / 32) || pull = 1 then (v.getLsbD 0, s1)
      else (pull = 2 || (pull = 3 && s.pins.kept.getLsbD n), s)

/-- A transfer of a peripheral that loses its pins ends ABORTED (R734). -/
def abortLost (t : Tab Nat) (s : State) (i : Nat) : State :=
  if (s.periph i).busy && !ownsPins t s i then s.modPeriph i (fun p => { p with busy := false, result := 4 }) else s

/-- A strobe that loses its pin pulses no more. -/
def dropStrobe (t : Tab Nat) (s : State) (i : Nat) : State :=
  if s.pins.pulsing.getLsbD (i - 22) && !ownsPins t s i then
    s.modPins (fun p => { p with pulsing := p.pulsing &&& ~~~(1#16 <<< (i - 22)) })
  else s

/-- Ownership is settled afresh (R731) after a change of configuration or of a bank; `old` is the state before it. A pin
whose source changes is high-impedance for a cycle (R733). -/
def settlePins (old s : State) : State :=
  let t := settleOwners s
  let moved := (List.range 64).filter (fun n => s.bankUp (n / 32) && (pinSource s.pins.owner old n ≠ pinSource t s n || !old.bankUp (n / 32)))
  let s := (List.range 22).foldl (abortLost t) s
  let s := keepDriven old ((List.range' 22 16).foldl (dropStrobe t) s)
  s.modPins (fun p => { p with owner := t, switching := moved.foldl (fun b n => b ||| (1#64 <<< n)) p.switching })

/-- The cycle of R733 is over at the next pour tick. -/
def endSwitching (s : State) : State := s.modPins (fun p => { p with switching := 0 })

/-! ### Input and interrupts (R736, R741) -/

/-- IRQ_MODE of a pin. -/
def irqMode (s : State) (n : Nat) : Nat := ((s.settingW (0x2500 + n) 1).extractLsb' 21 3).toNat

/-- A level mode's condition holds on pin `n`. -/
def levelHolds (s : State) (n : Nat) : Bool :=
  (irqMode s n = 4 && s.pins.input.getLsbD n) || (irqMode s n = 5 && !s.pins.input.getLsbD n)

/-- Bits of every pin that satisfies a condition. -/
def pinMask (g : Nat → Bool) : BitVec 64 := (List.range 64).foldl (fun b n => if g n then b ||| (1#64 <<< n) else b) 0

/-- PIN_IRQ of the pins whose level holds stays set. -/
def holdLevels (s : State) : State := s.modPins (fun p => { p with irq := p.irq ||| pinMask (levelHolds s) })

/-- Clear PIN_IRQ bits; a level that still holds keeps its bit (R741). -/
def clearPinIrq (m : BitVec 64) (s : State) : State := holdLevels (s.modPins (fun p => { p with irq := p.irq &&& ~~~m }))

/-- PIN_INPUT_CHANGE (R736, R737, R741): the input register of pin `n` takes the level at its pad, and the keeper senses it; an edge mode sets PIN_IRQ on
a matching change and a level mode while its level holds. -/
def execPinInputChange (n : Nat) (drive : PadDrive) (s0 : State) : Result :=
  let (high, s) := padLevel n drive s0
  let was := s.pins.input.getLsbD n
  let m := irqMode s n
  let hit := (m = 1 && !was && high) || (m = 2 && was && !high) || (m = 3 && was ≠ high)
  event (n < 64) s0 (holdLevels (s.modPins (fun p =>
    { p with input := putPin p.input n high, kept := putPin p.kept n high, irq := if hit then putPin p.irq n true else p.irq })))

/-- The ladle source 20 + k (R740). -/
def trigSource (s : State) (k : Nat) : Bool :=
  let c := periphCfg s (14 + k)
  (s.owns (14 + k) && !c.getLsbD 29 && s.pins.input.getLsbD (32 + k) = c.getLsbD 28) ||
    (List.range 64).any (fun n => s.pins.irq.getLsbD n && ((s.settingW (0x2500 + n) 1).extractLsb' 17 3).toNat = k)

/-! ### Bank supplies (R727, R728) -/

/-- BANK_SUPPLY_CHANGE (R727): the supply of a bank is found off (0), at 1.8 V (1), at 3.3 V (2) or out of range (3). -/
def execBankSupplyChange (b supply : Nat) (s : State) : Result :=
  let was := s.pinBank b
  let s1 := s.modPins (fun p => { p with banks := Tab.modify PinBank.reset p.banks b (fun x =>
    { supply := supply, settled := x.settled && supply = x.supply, outage := x.outage || (x.inRange && supply ≠ 1 && supply ≠ 2) }) })
  let s2 := if was.inRange && supply ≠ 1 && supply ≠ 2 then reportAt 0x3B01 0x10 (32 * b) 0 0 s1 else s1
  event (b < 2 && supply < 4 && supply ≠ was.supply) s (settlePins s s2)

/-- BANK_SETTLE (R728): 100 µs after the supply entered its range the bank takes its configured state. -/
def execBankSettle (b : Nat) (s : State) : Result :=
  let x := s.pinBank b
  let s1 := s.modPins (fun p => { p with banks := Tab.set PinBank.reset p.banks b { x with settled := true, outage := false } })
  let s2 := if x.outage then reportAt 0x2B01 0x10 (32 * b) 0 0 s1 else s1
  event (x.inRange && !x.settled) s (settlePins s s2)

/-! ### Peripherals (R744) -/

/-- A transfer can start: the instance owns its pins and is not BUSY. -/
def canStart (s : State) (i : Nat) : Bool := s.owns i && !(s.periph i).busy

/-- I2C_XFER (R744): instance `n` writes `wr` bytes of its buffer to an address and reads `rd`. -/
def execI2cXfer (path n addr wr rd : Nat) (s : State) : Result :=
  dictCommand path (0x2580 + n) 3 1 (fun s => need (canStart s n) abortState
    (.ok ((s.modPeriph n (fun p => { p with busy := true })).emit (.i2cXfer n (addr % 128) ((s.periph n).tx.take (wr % 256)) (rd % 256))))) s

/-- SPI_XFER (R744): instance `n` exchanges `k` bytes, 1 to 256. -/
def execSpiXfer (path n k : Nat) (s : State) : Result :=
  dictCommand path (0x2584 + n) 3 1 (fun s =>
    need (k ≠ 0) abortBelow (need (k ≤ 256) abortAbove (need (canStart s (4 + n)) abortState
      (.ok ((s.modPeriph (4 + n) (fun p => { p with busy := true })).emit (.spiXfer n ((s.periph (4 + n)).tx.take k))))))) s

/-- A transfer ends with its RESULT and the bytes received. -/
def endTransfer (i result : Nat) (rx : List Byte) (s : State) : State :=
  s.modPeriph i (fun p => { p with busy := false, result := result, rx := rx.take 256 })

/-- I2C_TRANSFER_DONE (R744): OK, NACK or ARB_LOST. -/
def execI2cTransferDone (n result : Nat) (rx : List Byte) (s : State) : Result :=
  event (n < 4 && result < 3 && (s.periph n).busy) s (endTransfer n result rx s)

/-- I2C_STUCK (R745): SCL or SDA held low for 25 ms. -/
def execI2cStuck (n : Nat) (s : State) : Result :=
  event (n < 4 && (s.periph n).busy) s
    (reportAt 0x3B02 0x10 ((wantedPins s n).headD 0) 0 0 (endTransfer n 3 [] s))

/-- SPI_TRANSFER_DONE (R744). -/
def execSpiTransferDone (n : Nat) (rx : List Byte) (s : State) : Result :=
  event (n < 4 && (s.periph (4 + n)).busy) s (endTransfer (4 + n) 0 rx s)

/-- UART_TX (R744): bytes appended to the transmit FIFO of UART `n`, which sends them in order (log 29). -/
def execUartTx (path n : Nat) (bytes : List Byte) (s : State) : Result :=
  dictCommand path (0x2588 + n) 3 1 (fun s => need (bytes.length ≤ 256) abortLength (need (s.owns (8 + n)) abortState
    (.ok (s.emit (.uartSent n bytes))))) s

/-- UART_RX (R744): received bytes are returned and removed: 4 of them, or all over the mailbox (R635). -/
def uartRead (path n : Nat) (s : State) : List Byte × State :=
  let k := if path = coePath then 256 else 4
  ((s.periph (8 + n)).rx.take k, s.modPeriph (8 + n) (fun p => { p with rx := p.rx.drop k }))

/-- A little-endian number of bytes. -/
def bytesValue : List Byte → Nat
  | [] => 0
  | b :: bs => b.toNat + 256 * bytesValue bs

/-- Answer a read of a string or DOMAIN: its bytes over the mailbox, four of them as one slot elsewhere; bytes beyond
the length read 0. -/
def answerBytes (path idx sub : Nat) (bs : List Byte) (s : State) : State :=
  if path = coePath then s.emit (.sdoData idx sub bs) else busAnswer path idx sub (BitVec.ofNat 64 (bytesValue (bs.take 4))) s

/-- UART_RX (R744). -/
def execUartRx (path n : Nat) (s0 : State) : Result :=
  if !s0.reaches path then ok s0 else
  let s := touchRead path s0
  match s.gateCheck path (0x2588 + n) 4 1 with
  | some code => ok (refuseRead path (0x2588 + n) 4 code s)
  | none =>
    if s.bootBars path (0x2588 + n) then ok (refuseRead path (0x2588 + n) 4 abortState s)
    else
      let (bs, s) := uartRead path n s
      ok (answerBytes path (0x2588 + n) 4 bs s)

/-- UART_RX_BYTE (R744): a byte received, or OVERRUN with the FIFO full. -/
def execUartRxByte (n : Nat) (b : Byte) (s : State) : Result :=
  event (n < 2 && s.owns (8 + n)) s (s.modPeriph (8 + n) (fun p =>
    if p.rx.length < 256 then { p with rx := p.rx ++ [b] } else { p with result := 5 }))

/-- Pulse trigger `k` if it is an output that owns its pin (R739). -/
def fireTrigger (k : Nat) (s : State) : State :=
  if s.owns (14 + k) && (periphCfg s (14 + k)).getLsbD 29 then s.emit (.trigPulse k) else s

/-- A write of TRIG_FIRE as it applies. -/
def trigFireApply (k : Nat) (v : DWord) (s : State) : Except Word State := .ok (if v = 1 then fireTrigger k s else s)

/-- TRIG_FIRE (R744). -/
def execTrigFire (path k : Nat) (v : Word) (s : State) : Result :=
  rwtCommand path 0 (0x2590 + k) 3 1 (v.setWidth 64) none (trigFireApply k (v.setWidth 64)) s

/-- Start the pulse of strobe `j`, if it owns its pin. -/
def fireStrobe (v : DWord) (s : State) (j : Nat) : State :=
  if v.getLsbD j && s.owns (22 + j) then
    (s.modPins (fun p => { p with pulsing := p.pulsing ||| (1#16 <<< j) })).emit (.strobe j true)
  else s

/-- A write of STB_FIRE as it applies. -/
def stbFireApply (v : DWord) (s : State) : Except Word State := .ok ((List.range 16).foldl (fireStrobe v) s)

/-- STB_FIRE (R744). -/
def execStbFire (path : Nat) (v : Word) (s : State) : Result :=
  rwtCommand path 0 0x25A0 0x11 1 (v.setWidth 64) none (stbFireApply (v.setWidth 64)) s

/-- STROBE_END (R744): the width of strobe `j` has passed. -/
def execStrobeEnd (j : Nat) (s : State) : Result :=
  event (j < 16 && s.pins.pulsing.getLsbD j) s
    ((s.modPins (fun p => { p with pulsing := p.pulsing &&& ~~~(1#16 <<< j) })).emit (.strobe j false))

/-- CAPTURE_EDGE (R744): the pin of capture `n` shows an edge that CAP_CFG selects. -/
def execCaptureEdge (n : Nat) (rising : Bool) (s : State) : Result :=
  let m := ((periphCfg s (10 + n)).extractLsb' 28 2).toNat
  event (n < 4 && s.owns (10 + n) && ((rising && (m = 1 || m = 3)) || (!rising && (m = 2 || m = 3)))) s
    (s.modPeriph (10 + n) (fun p => { p with time := s.now, count := p.count + 1 }))

/-! ### Entries -/

/-- PIN_STATUS (R742). -/
def pinStatus (s : State) (n : Nat) : Word :=
  let b (c : Bool) (k : Nat) : Nat := if c then 2 ^ k else 0
  let o := pinSource s.pins.owner s n
  let (k, i) := if !s.bankUp (n / 32) then (8, 0) else (o / 16, o % 16)
  BitVec.ofNat 32 (k * 2 ^ 28 + i * 2 ^ 24 + b (s.pins.switching.getLsbD n) 3 + b (pinDriven s n) 2 + b (s.pins.latch.getLsbD n) 1 +
    b (s.pins.input.getLsbD n) 0)

/-- STATUS of peripheral number `i` (R744). -/
def periphStatus (s : State) (i : Nat) : Word :=
  let b (c : Bool) (k : Nat) : Nat := if c then 2 ^ k else 0
  let p := s.periph i
  BitVec.ofNat 32 (b (s.owns i) 31 + b (s.blocked i) 30 + b p.busy 29 + p.result)

/-- STB_STATUS. -/
def strobeStatus (s : State) : Word :=
  let bl := (List.range 16).foldl (fun n j => if s.blocked (22 + j) then n + 2 ^ (16 + j) else n) 0
  BitVec.ofNat 32 (bl + s.pins.pulsing.toNat)

/-- The entries of the pins that are not stored settings; `none` for those that are. -/
def pinRead (s : State) (idx sub : Nat) : Option DWord :=
  if 0x2500 ≤ idx && idx < 0x2540 then
    let n := idx - 0x2500
    match sub with
    | 2 => some (if s.pins.latch.getLsbD n then 1 else 0)
    | 3 => some ((pinStatus s n).setWidth 64)
    | 4 => some (if s.pins.irq.getLsbD n then 1 else 0)
    | _ => none
  else if idx = 0x2540 then
    match sub with
    | 1 => some (BitVec.ofNat 64 ((s.pinBank 0).supply + 256 * (s.pinBank 1).supply))
    | 2 => some s.pins.input
    | 4 => some s.pins.latch
    | _ => some s.pins.irq
  else if idx = 0x25A0 && sub = 0x12 then some ((strobeStatus s).setWidth 64)
  else if idx = 0x25A0 && sub = 0x11 then some 0
  else if 0x2580 ≤ idx && idx < 0x259C && sub = 2 then
    let i := if idx < 0x2584 then idx - 0x2580 else if idx < 0x2588 then 4 + (idx - 0x2584)
      else if idx < 0x2590 then 8 + (idx - 0x2588) else if idx < 0x2598 then 14 + (idx - 0x2590) else 10 + (idx - 0x2598)
    some ((periphStatus s i).setWidth 64)
  else if 0x2590 ≤ idx && idx < 0x2598 && sub = 3 then some 0
  else if 0x2598 ≤ idx && idx < 0x259C then
    match sub with
    | 3 => some (s.periph (10 + (idx - 0x2598))).time
    | 5 => some ((s.periph (10 + (idx - 0x2598))).count.setWidth 64)
    | _ => none
  else none

/-- A read of an RC entry of the pins clears it. -/
def pinReadClear (idx sub : Nat) (s : State) : State :=
  if 0x2598 ≤ idx && idx < 0x259C && sub = 5 then s.modPeriph (10 + (idx - 0x2598)) (fun p => { p with count := 0 }) else s

/-- Set the output latches whose bits `m` names. -/
def putLatch (m v : BitVec 64) (s : State) : State :=
  (keepDriven s s).modPins (fun p => { p with latch := (p.latch &&& ~~~m) ||| (v &&& m) })

/-- A write of an entry of the pins, as it applies. A configuration change settles the owners (R731). -/
def pinApply (idx sub : Nat) (v : DWord) (s : State) : Except Word State :=
  if 0x2500 ≤ idx && idx < 0x2540 && sub = 2 then
    let n := idx - 0x2500
    .ok (putLatch (1#64 <<< n) (if v.getLsbD 0 then 1#64 <<< n else 0) s)
  else if 0x2500 ≤ idx && idx < 0x2540 && sub = 4 then
    .ok (if v.getLsbD 0 then clearPinIrq (1#64 <<< (idx - 0x2500)) s else s)
  else if idx = 0x2540 && sub = 4 then .ok (putLatch (BitVec.allOnes 64) v s)
  else if idx = 0x2540 && sub = 6 then .ok (clearPinIrq v s)
  else if 0x2590 ≤ idx && idx < 0x2598 && sub = 3 then trigFireApply (idx - 0x2590) v s
  else if idx = 0x25A0 && sub = 0x11 then stbFireApply v s
  else .ok (holdLevels (settlePins s (s.putSetting idx sub v)))

end Sys2Proof.Machine
end

