-- ==== Sys2Proof/Machine/Riscv.lean ====
section
/-! DEFINITION. RV32IMAC decoding and arithmetic. The spec names the base architecture and does not restate it; the
encodings and results here are PRESUMED from the RISC-V unprivileged architecture (log 8). -/

namespace Sys2Proof.Machine

/-! ### Fields -/

/-- Bits [hi:lo] as a number. -/
def fld (w : Word) (hi lo : Nat) : Nat := w.toNat / 2 ^ lo % 2 ^ (hi + 1 - lo)

def rvOpcode (w : Word) : Nat := fld w 6 0
def rvRd (w : Word) : Nat := fld w 11 7
def rvF3 (w : Word) : Nat := fld w 14 12
def rvRs1 (w : Word) : Nat := fld w 19 15
def rvRs2 (w : Word) : Nat := fld w 24 20
def rvF7 (w : Word) : Nat := fld w 31 25

/-- The immediates. -/
def immI (w : Word) : Word := (w.extractLsb' 20 12).signExtend 32
def immS (w : Word) : Word := (w.extractLsb' 25 7 ++ w.extractLsb' 7 5).signExtend 32
def immB (w : Word) : Word :=
  (w.extractLsb' 31 1 ++ w.extractLsb' 7 1 ++ w.extractLsb' 25 6 ++ w.extractLsb' 8 4 ++ 0#1).signExtend 32
def immU (w : Word) : Word := w &&& 0xFFFFF000#32
def immJ (w : Word) : Word :=
  (w.extractLsb' 31 1 ++ w.extractLsb' 12 8 ++ w.extractLsb' 20 1 ++ w.extractLsb' 21 10 ++ 0#1).signExtend 32

/-! ### Building words, for the compressed forms -/

def mkR (f7 rs2 rs1 f3 rd op : Nat) : Word :=
  BitVec.ofNat 32 (f7 * 2 ^ 25 + rs2 * 2 ^ 20 + rs1 * 2 ^ 15 + f3 * 2 ^ 12 + rd * 2 ^ 7 + op)
def mkI (imm : BitVec 12) (rs1 f3 rd op : Nat) : Word :=
  BitVec.ofNat 32 (imm.toNat * 2 ^ 20 + rs1 * 2 ^ 15 + f3 * 2 ^ 12 + rd * 2 ^ 7 + op)
def mkS (imm : BitVec 12) (rs2 rs1 f3 : Nat) : Word :=
  BitVec.ofNat 32 (imm.toNat / 32 * 2 ^ 25 + rs2 * 2 ^ 20 + rs1 * 2 ^ 15 + f3 * 2 ^ 12 + imm.toNat % 32 * 2 ^ 7 + 0x23)
def mkB (imm : BitVec 13) (rs2 rs1 f3 : Nat) : Word :=
  imm.extractLsb' 12 1 ++ imm.extractLsb' 5 6 ++ BitVec.ofNat 5 rs2 ++ BitVec.ofNat 5 rs1 ++ BitVec.ofNat 3 f3 ++
    imm.extractLsb' 1 4 ++ imm.extractLsb' 11 1 ++ 0x63#7
def mkJ (imm : BitVec 21) (rd : Nat) : Word :=
  imm.extractLsb' 20 1 ++ imm.extractLsb' 1 10 ++ imm.extractLsb' 11 1 ++ imm.extractLsb' 12 8 ++ BitVec.ofNat 5 rd ++ 0x6F#7

/-- Bits [hi:lo] of a compressed word. -/
def cfld (h : Half) (hi lo : Nat) : Nat := h.toNat / 2 ^ lo % 2 ^ (hi + 1 - lo)
def cbit (h : Half) (n : Nat) : Nat := cfld h n n

/-- The six-bit signed immediate of bits 12 and [6:2]. -/
def cImm6 (h : Half) : BitVec 12 := (BitVec.ofNat 6 (cbit h 12 * 32 + cfld h 6 2)).signExtend 12
/-- The offsets of C.J and C.JAL, and of C.BEQZ and C.BNEZ. -/
def cImmJ (h : Half) : BitVec 21 :=
  (BitVec.ofNat 12 (cbit h 12 * 2048 + cbit h 11 * 16 + cfld h 10 9 * 256 + cbit h 8 * 1024 + cbit h 7 * 64 + cbit h 6 * 128 +
    cfld h 5 3 * 2 + cbit h 2 * 32)).signExtend 21
def cImmB (h : Half) : BitVec 13 :=
  (BitVec.ofNat 9 (cbit h 12 * 256 + cfld h 11 10 * 8 + cfld h 6 5 * 64 + cfld h 4 3 * 2 + cbit h 2 * 32)).signExtend 13

/-- Quadrant 0. -/
def expandC0 (h : Half) : Option Word :=
  let rd := 8 + cfld h 4 2
  let rs1 := 8 + cfld h 9 7
  let off := cfld h 12 10 * 8 + cbit h 6 * 4 + cbit h 5 * 64
  match cfld h 15 13 with
  | 0 =>
    let imm := cfld h 12 11 * 16 + cfld h 10 7 * 64 + cbit h 6 * 4 + cbit h 5 * 8
    if imm = 0 then none else some (mkI (BitVec.ofNat 12 imm) 2 0 rd 0x13)
  | 2 => some (mkI (BitVec.ofNat 12 off) rs1 2 rd 0x03)
  | 6 => some (mkS (BitVec.ofNat 12 off) rd rs1 2)
  | _ => none

/-- Quadrant 1, the arithmetic group. -/
def expandC1Alu (h : Half) : Option Word :=
  let rd := 8 + cfld h 9 7
  let rs2 := 8 + cfld h 4 2
  match cfld h 11 10 with
  | 0 => if cbit h 12 = 1 then none else some (mkR 0 (cfld h 6 2) rd 5 rd 0x13)
  | 1 => if cbit h 12 = 1 then none else some (mkR 0x20 (cfld h 6 2) rd 5 rd 0x13)
  | 2 => some (mkI (cImm6 h) rd 7 rd 0x13)
  | _ =>
    if cbit h 12 = 1 then none else
    match cfld h 6 5 with
    | 0 => some (mkR 0x20 rs2 rd 0 rd 0x33)
    | 1 => some (mkR 0 rs2 rd 4 rd 0x33)
    | 2 => some (mkR 0 rs2 rd 6 rd 0x33)
    | _ => some (mkR 0 rs2 rd 7 rd 0x33)

/-- Quadrant 1. -/
def expandC1 (h : Half) : Option Word :=
  let rd := cfld h 11 7
  match cfld h 15 13 with
  | 0 => some (mkI (cImm6 h) rd 0 rd 0x13)
  | 1 => some (mkJ (cImmJ h) 1)
  | 2 => some (mkI (cImm6 h) 0 0 rd 0x13)
  | 3 =>
    if rd = 2 then
      let imm := cbit h 12 * 512 + cbit h 6 * 16 + cbit h 5 * 64 + cfld h 4 3 * 128 + cbit h 2 * 32
      if imm = 0 then none else some (mkI ((BitVec.ofNat 10 imm).signExtend 12) 2 0 2 0x13)
    else
      let imm := cImm6 h
      if imm = 0 then none else
      some ((imm.signExtend 20 : BitVec 20) ++ BitVec.ofNat 5 rd ++ 0x37#7)
  | 4 => expandC1Alu h
  | 5 => some (mkJ (cImmJ h) 0)
  | 6 => some (mkB (cImmB h) 0 (8 + cfld h 9 7) 0)
  | _ => some (mkB (cImmB h) 0 (8 + cfld h 9 7) 1)

/-- Quadrant 2. -/
def expandC2 (h : Half) : Option Word :=
  let rd := cfld h 11 7
  let rs2 := cfld h 6 2
  match cfld h 15 13 with
  | 0 => if cbit h 12 = 1 then none else some (mkR 0 rs2 rd 1 rd 0x13)
  | 2 => if rd = 0 then none else some (mkI (BitVec.ofNat 12 (cbit h 12 * 32 + cfld h 6 4 * 4 + cfld h 3 2 * 64)) 2 2 rd 0x03)
  | 4 =>
    if cbit h 12 = 0 then
      if rs2 = 0 then (if rd = 0 then none else some (mkI 0 rd 0 0 0x67)) else some (mkR 0 rs2 0 0 rd 0x33)
    else if rs2 = 0 then (if rd = 0 then some 0x00100073#32 else some (mkI 0 rd 0 1 0x67))
    else some (mkR 0 rs2 rd 0 rd 0x33)
  | 6 => some (mkS (BitVec.ofNat 12 (cfld h 12 9 * 4 + cfld h 8 7 * 64)) rs2 2 2)
  | _ => none

/-- The 32-bit form of a compressed instruction; none where it is illegal. -/
def expandC (h : Half) : Option Word :=
  match h.toNat % 4 with
  | 0 => expandC0 h
  | 1 => expandC1 h
  | _ => expandC2 h

/-! ### Arithmetic -/

/-- OP and OP-IMM: none where the encoding is illegal. -/
def rvAlu (f7 f3 : Nat) (a b : Word) : Option Word :=
  let sh := b.toNat % 32
  match f7, f3 with
  | 0, 0 => some (a + b)
  | 0x20, 0 => some (a - b)
  | 0, 1 => some (a <<< sh)
  | 0, 2 => some (if a.slt b then 1 else 0)
  | 0, 3 => some (if a.ult b then 1 else 0)
  | 0, 4 => some (a ^^^ b)
  | 0, 5 => some (a >>> sh)
  | 0x20, 5 => some (a.sshiftRight sh)
  | 0, 6 => some (a ||| b)
  | 0, 7 => some (a &&& b)
  | _, _ => none

/-- The M extension. -/
def rvMul (f3 : Nat) (a b : Word) : Word :=
  match f3 with
  | 0 => a * b
  | 1 => BitVec.ofInt 32 (a.toInt * b.toInt / 2 ^ 32)
  | 2 => BitVec.ofInt 32 (a.toInt * (b.toNat : Int) / 2 ^ 32)
  | 3 => BitVec.ofNat 32 (a.toNat * b.toNat / 2 ^ 32)
  | 4 => if b = 0 then 0xFFFFFFFF#32 else BitVec.ofInt 32 (a.toInt.tdiv b.toInt)
  | 5 => if b = 0 then 0xFFFFFFFF#32 else BitVec.ofNat 32 (a.toNat / b.toNat)
  | 6 => if b = 0 then a else BitVec.ofInt 32 (a.toInt.tmod b.toInt)
  | _ => if b = 0 then a else BitVec.ofNat 32 (a.toNat % b.toNat)

/-- Branch conditions; none where funct3 is reserved. -/
def rvBranch (f3 : Nat) (a b : Word) : Option Bool :=
  match f3 with
  | 0 => some (a = b)
  | 1 => some (a ≠ b)
  | 4 => some (a.slt b)
  | 5 => some (!a.slt b)
  | 6 => some (a.ult b)
  | 7 => some (!a.ult b)
  | _ => none

/-- The value an AMO writes; none where funct5 is not an AMO. -/
def rvAmo (f5 : Nat) (m r : Word) : Option Word :=
  match f5 with
  | 0x01 => some r
  | 0x00 => some (m + r)
  | 0x04 => some (m ^^^ r)
  | 0x0C => some (m &&& r)
  | 0x08 => some (m ||| r)
  | 0x10 => some (if m.slt r then m else r)
  | 0x14 => some (if m.slt r then r else m)
  | 0x18 => some (if m.ult r then m else r)
  | 0x1C => some (if m.ult r then r else m)
  | _ => none

/-- Size in bytes and sign of a load; none where funct3 is reserved. -/
def rvLoadKind (f3 : Nat) : Option (Nat × Bool) :=
  match f3 with
  | 0 => some (1, true)
  | 1 => some (2, true)
  | 2 => some (4, false)
  | 4 => some (1, false)
  | 5 => some (2, false)
  | _ => none

/-- Size in bytes of a store; none where funct3 is reserved. -/
def rvStoreSize (f3 : Nat) : Option Nat := if f3 < 3 then some (2 ^ f3) else none

/-- A loaded value from the word that holds it. -/
def loadValue (w : Word) (a size : Nat) (signed : Bool) : Word :=
  let v := w >>> (8 * (a % 4))
  match size with
  | 1 => if signed then (v.setWidth 8).signExtend 32 else (v.setWidth 8).setWidth 32
  | 2 => if signed then (v.setWidth 16).signExtend 32 else (v.setWidth 16).setWidth 32
  | _ => w

/-- A word with `size` bytes stored at byte address `a`. -/
def mergeStore (w v : Word) (a size : Nat) : Word :=
  let m : Word := if size = 1 then 0xFF else if size = 2 then 0xFFFF else 0xFFFFFFFF#32
  let sh := 8 * (a % 4)
  (w &&& ~~~(m <<< sh)) ||| ((v &&& m) <<< sh)

end Sys2Proof.Machine
end

