-- ==== Sys2Proof/Machine/Sessions.lean ====
section
/-! DEFINITION. How a session closes and a path is reset (R645, R658). -/

namespace Sys2Proof.Machine

/-- Word 5 of an error that names a path (R685): [18:16] session, [9:8] key slot. -/
def pathAux (n slot : Nat) : Word := BitVec.ofNat 32 (n * 2 ^ 16 + slot * 2 ^ 8)

/-- Codes of TX_STATUS.STATE and RESULT (R665). -/
def txStCode (t : TxSt) : Nat :=
  match t with
  | .none => 0
  | .opened => 1
  | .committing => 2
  | .committed => 3
  | .failed => 4
  | .rolledBack => 5
  | .discarded => 6
def txResultCode (r : TxResult) : Nat :=
  match r with
  | .none => 0
  | .ok => 1
  | .check => 2
  | .heatEnded => 3
  | .stagingError => 4
  | .sessionLost => 5
  | .rollback => 6

/-- A COMMITTING transaction of session `n` ends: TX_LAST shows it (R664). -/
def txLeaves (n : Nat) (st : TxSt) (res : TxResult) (s : State) : State :=
  let s := s.modSession n (fun x => { x with txSt := st, txResult := res })
  { s with dict := { s.dict with txLast := BitVec.ofNat 32 (txStCode st * 2 ^ 29 + txResultCode res * 2 ^ 24 + n * 2 ^ 16) } }

/-- Session `n` closes: its OPEN transaction is discarded with error 0x3A02; a COMMITTING one survives (R658). -/
def closeSession (n : Nat) (s : State) : State :=
  let x := s.session n
  if !x.isOpen then s else
  let s := if x.txSt = .opened then
      (reportAt 0x3A02 0x0E x.path (pathAux n x.slot) 0 s).modSession n (fun x =>
        { x with txSt := .discarded, txResult := .sessionLost, staged := [] })
    else s
  (s.modPath x.path (fun p => { p with session := 0 })).modSession n (fun x => { x with isOpen := false })

/-- A path is reset: its session closes and its challenge is void (R643, R645). -/
def pathReset (path : Nat) (s : State) : State :=
  let s := closeSession (s.path path).session s
  s.modPath path (fun p => { p with challenge := none, latch := none, held := none, stream := none, segment := none })

/-- The transaction of session `n` is lost to an uncorrectable staging word (R659). -/
def stagingLost (n : Nat) (s : State) : State :=
  let x := s.session n
  let s1 := reportAt 0x3A03 0x0E x.path (pathAux n x.slot) 0 s
  match x.txSt with
  | .opened => s1.modSession n (fun x => { x with txSt := .discarded, txResult := .stagingError, staged := [] })
  | .committing => txLeaves n .discarded .stagingError (s1.modSession n (fun x => { x with staged := [] }))
  | _ => s

/-- The agent stops: its sessions and transactions are lost, and COMMITTING ones do not take effect (R667). -/
def agentStop (kind oid : Nat) (s : State) : State :=
  let s := reportAt 0x4A01 kind oid 0 0 s
  { s with dict := { s.dict with
    stopped := true
    sessions := []
    paths := Tab.mapVals Path.reset (fun _ p => { p with session := 0, challenge := none, held := none, latch := none, stream := none, segment := none }) s.dict.paths } }

/-- What the agent's checks find at an access of a path (R666). -/
def agentCheck (path : Nat) (ev : DictEv) (s : State) : State :=
  if s.dict.stopped then s else
  match ev with
  | .clean => s
  | .corrected => reportAt 0x1A01 0x0E path 0 0 s
  | .keyCopy k => reportAt 0x2A01 0x0F (k % 4) 0 0 s
  | .keyLost k => agentStop 0x0F (k % 4) s
  | .staging n => stagingLost n s
  | .fatal => agentStop 0x0E path s

end Sys2Proof.Machine
end

