-- ==== Sys2Proof/Machine/LadleOps.lean ====
section
/-! DEFINITION. What the ladle cores share: their registers and memories, traps, bank faults and the double fault, leaving a
bank, local sources, and the instruction at a core's program counter (R267-R313). -/

namespace Sys2Proof.Machine

/-! ### Registers and banks -/

/-- Core `c`, and a change to it. -/
def State.core (s : State) (c : Nat) : LcCore := Tab.get LcCore.reset s.cores c
def State.modCore (s : State) (c : Nat) (g : LcCore → LcCore) : State :=
  { s with cores := Tab.modify LcCore.reset s.cores c g }

/-- Bank `b` of a core, and a change to it. -/
def LcCore.bank (k : LcCore) (b : Nat) : Bank := Tab.get Bank.reset k.banks b
def LcCore.modBank (k : LcCore) (b : Nat) (g : Bank → Bank) : LcCore := { k with banks := Tab.modify Bank.reset k.banks b g }

/-- Register `xr` of the current bank; x0 reads 0 (R279). -/
def LcCore.reg (k : LcCore) (r : Nat) : Word := if r = 0 then 0 else Tab.get 0 (k.bank k.cur).x r

/-- Write register `xr` of the current bank. -/
def LcCore.setReg (k : LcCore) (r : Nat) (v : Word) : LcCore :=
  if r = 0 then k else k.modBank k.cur (fun b => { b with x := Tab.set 0 b.x r v })

/-- The stored value of a CSR, and a change to it. -/
def LcCore.csrOf (k : LcCore) (n : Nat) : Word := Tab.get 0 k.csr n
def LcCore.setCsr (k : LcCore) (n : Nat) (v : Word) : LcCore := { k with csr := Tab.set 0 k.csr n v }

/-- mstatus.MIE. -/
def LcCore.mie (k : LcCore) : Bool := (k.csrOf 0x300).getLsbD 3

/-- The thread bound to the current bank, where a thread runs. -/
def LcCore.thread (k : LcCore) : Option Nat := if k.idle || k.cur = 0 then none else (k.bank k.cur).thread

/-- XBTSTATE of a bank: bank 0 is always RESIDENT (R282). -/
def LcCore.bankSt (k : LcCore) (b : Nat) : BankSt := if b = 0 then .resident else (k.bank b).st

/-- Banks 1-31 of a state. -/
def LcCore.banksIn (k : LcCore) (st : BankSt) : List Nat := (List.range 32).filter (fun b => b ≠ 0 && (k.bank b).st = st)

/-- A boundary at which R286 lets the core leave its bank: no instruction under way, MIE = 1, bank 0 not current. -/
def LcCore.boundary (k : LcCore) : Bool := k.stall = .none && k.mie && (k.idle || k.cur ≠ 0)

/-- The core executes instructions now. -/
def State.lcRuns (s : State) (c : Nat) : Bool :=
  let k := s.core c
  s.domOn 86 && c < 8 && (k.st = .running || k.st = .parking) && !k.idle && k.stall = .none

/-- The node of a core's gate. -/
def coreNode (c : Nat) : Nat := 72 + c

/-- Report an error of core `c` with the thread it runs (R321, R685). -/
def reportCore (code c : Nat) (detail : Word) (s : State) : State :=
  let t : Word := match (s.core c).thread with
    | some t => BitVec.ofNat 32 t
    | none => 0xFFFFFFFF
  reportAt code 7 c t (detail.setWidth 64) s

/-! ### Memories (R268) -/

def inLocal (a : Nat) : Bool := decide (a < 0x10000)
def inSram (a : Nat) : Bool := decide (0x01000000 ≤ a) && decide (a < 0x01200000)
def inCupola (a : Nat) : Bool := decide (0x02000000 ≤ a) && decide (a < 0x02001000)
def inQueues (a : Nat) : Bool := decide (0x04000000 ≤ a) && decide (a < 0x04400000)
def inWindow (a : Nat) : Bool := decide (0x40000000 ≤ a) && decide (a < 0x80000000)

/-- A shared SRAM word; one that nothing has written holds 0 (log 6). -/
def State.sramWord (s : State) (i : Nat) : NWord := Tab.get { d := 0, p := false } s.sram i

/-- Write a shared SRAM word: a reservation of another core on it ends (log 8). -/
def State.sramPut (s : State) (c i : Nat) (v : NWord) : State :=
  { s with
    sram := Tab.set { d := 0, p := false } s.sram i v
    cores := Tab.mapVals LcCore.reset (fun n k => if n ≠ c && k.resv = some (0x01000000 + 4 * i) then { k with resv := none } else k) s.cores }

/-- The word that holds byte address `a` of local memory or shared SRAM. -/
def lcWord (s : State) (c a : Nat) : NWord :=
  if inLocal a then { d := Tab.get 0 (s.core c).lmem (a / 4), p := false } else s.sramWord ((a - 0x01000000) / 4)

/-- Store `size` bytes at `a` of local memory or shared SRAM; a part of a word keeps the rest, poison with it. -/
def lcStore (s : State) (c a size : Nat) (v : Word) : State :=
  let w := lcWord s c a
  let d := mergeStore w.d v a size
  if inLocal a then s.modCore c (fun k => { k with lmem := Tab.set 0 k.lmem (a / 4) d })
  else s.sramPut c ((a - 0x01000000) / 4) { d := d, p := w.p && size ≠ 4 }

/-! ### Halting and faults -/

/-- A bank is freed without a spill. -/
def Bank.freed (b : Bank) : Bank := { b with st := .free, thread := none, filling := false }

/-- A double fault, and the halt by policy that equals it (R312, R313, R695): the core stops and leaves its bank with its BPC written (R281), its gate
closes, its path is reset, and its thread banks wait to be spilled; a fill under way is abandoned. -/
def coreHalt (c : Nat) (pc : Word) (s : State) : State :=
  let k := s.core c
  let filling := (List.range 32).filter (fun b => (k.bank b).filling)
  let s := filling.foldl (fun s b => match (k.bank b).thread with
    | some t => s.modThread t (fun x => { x with bank := none })
    | none => s) s
  let s := s.modCore c (fun k =>
    let k := filling.foldl (fun k b => k.modBank b Bank.freed) k
    { (if k.idle then k else k.modBank k.cur (fun b => { b with bpc := k.pc })) with
      st := .halted, dfPc := pc, stall := .none, waiting := none, idle := true, placeDue := true, faultDue := none
      unit' := match k.unit' with
        | .filling _ => .idle
        | u => u
      placing := (k.banksIn .resident ++ k.banksIn .spilling).filterMap (fun b => (k.bank b).thread) })
  let s := s.modCup (fun u => { u with coreHalted := true, sent := Tab.set none u.sent c none })
  pathReset (72 + c) (closePort 11 (1 + c) s)

/-- A double fault (R312). -/
def doubleFault (c : Nat) (pc : Word) (s : State) : State := coreHalt c pc (reportCore 0x4501 c pc s)

/-- Where a trap goes: interrupt `n` of a vectored mtvec has its own vector. -/
def trapVector (k : LcCore) (n : Option Nat) : Word :=
  let v := k.csrOf 0x305
  let base := v &&& 0xFFFFFFFC#32
  match n with
  | some i => if v.getLsbD 0 then base + BitVec.ofNat 32 (4 * i) else base
  | none => base

/-- Enter a trap in the current bank (R307): mepc, mcause and mtval are written, MIE moves to MPIE, XBPROG to XBTPROG. -/
def enterTrap (c : Nat) (cause tval : Word) (vector : Word) (s : State) : State :=
  s.modCore c (fun k =>
    let m := k.csrOf 0x300
    let k := (((k.setCsr 0x341 k.pc).setCsr 0x342 cause).setCsr 0x343 tval).setCsr 0x300 (if m.getLsbD 3 then 0x80 else 0)
    let k := (k.setCsr 0x7C1 (k.bank k.cur).bprog).modBank k.cur (fun b => { b with bprog := 0 })
    { k with pc := vector, stall := .none })

/-- A synchronous exception: a trap, or in bank 0 the double fault (R312). -/
def lcTrap (c : Nat) (cause tval : Word) (s : State) : State :=
  let k := s.core c
  if k.cur = 0 then doubleFault c k.pc s else enterTrap c cause tval (trapVector k none) s

/-- An exception with an error entry of its own, naming the address. -/
def lcFault (c code : Nat) (cause tval : Word) (s : State) : State := lcTrap c cause tval (reportCore code c tval s)

/-- An illegal instruction; what mtval then holds is free. -/
def lcIllegal (c : Nat) (s : State) : State :=
  let (v, s) := s.draw
  lcTrap c 2 (v.setWidth 32) s

/-- A bank fault (R308, R309, R312). -/
def bankFault (c cause : Nat) (thread : Option Nat) (s : State) : State :=
  let k := s.core c
  if k.cur = 0 && !k.idle then doubleFault c k.pc s else
  let w := BitVec.ofNat 32 ((thread.getD 0) * 2 ^ 20 + cause * 2 ^ 8 + k.cur)
  let s := reportCore 0x3505 c k.pc s
  s.modCore c (fun k =>
    let k := if k.idle then k else k.modBank k.cur (fun b => { b with bpc := k.pc })
    let pc := if k.idle then (k.bank k.cur).bpc else k.pc
    { (k.setCsr 0x7C5 w).setCsr 0x7C6 pc with
      cur := 0, pc := k.csrOf 0x7C4, bankFaults := k.bankFaults + 1, lastBfault := w, faultIdle := k.idle, idle := false, stall := .none })

/-! ### The instruction at the program counter -/

/-- What a fetch gives. -/
inductive Fetched where
  | instr (w : Word) (len : Nat)
  | illegal (len : Nat)
  | fault (tval : Nat)
  | corrupt (tval : Nat)
  deriving DecidableEq, Repr

/-- The half word at an address instructions may be fetched from, with its poison. -/
def fetchHalf (s : State) (c a : Nat) : Option (Half × Bool) :=
  if inLocal a || inSram a then
    let w := lcWord s c a
    some ((if a % 4 = 0 then w.d.extractLsb' 0 16 else w.d.extractLsb' 16 16), w.p)
  else none

/-- Fetch at the program counter (R268, R272). -/
def lcFetch (s : State) (c : Nat) : Fetched :=
  let pc := (s.core c).pc.toNat
  match fetchHalf s c pc with
  | none => .fault pc
  | some (h, p) =>
    if p then .corrupt pc
    else if h.toNat % 4 = 3 then
      let pc2 := (pc + 2) % 2 ^ 32
      match fetchHalf s c pc2 with
      | none => .fault pc2
      | some (h2, p2) => if p2 then .corrupt pc2 else .instr (h2 ++ h) 4
    else match expandC h with
      | some w => .instr w 2
      | none => .illegal 2

/-- Instructions that have a row of their own; every other is `plain`. -/
inductive LcKind where
  | plain
  | runnerLoad (a rd size : Nat) (signed : Bool)
  | runnerStore (a size : Nat) (v : Word)
  | push (q : Nat) (v : Word) (last : Bool)
  | popc (q : Nat) (v : Word)
  | rewindq (q : Nat)
  | cupOp (code : Nat)
  | done
  | attn (rd : Nat)
  | fence
  | ldm (rs1 rs2 : Nat)
  | stm (rs1 rs2 : Nat)
  | bret
  | mret
  | xbready (rd : Nat)
  | xbwdata (rd : Nat) (v : Word)
  deriving DecidableEq, Repr

/-- The address of a load or store. -/
def loadAddr (k : LcCore) (w : Word) : Word := k.reg (rvRs1 w) + immI w
def storeAddr (k : LcCore) (w : Word) : Word := k.reg (rvRs1 w) + immS w

/-- The kind of a load. -/
def loadKind (k : LcCore) (w : Word) : LcKind :=
  let a := (loadAddr k w).toNat
  match rvLoadKind (rvF3 w) with
  | none => .plain
  | some (size, signed) =>
    if a % size ≠ 0 then .plain
    else if inWindow a then .runnerLoad a (rvRd w) size signed
    else if a = 0x02000080 && size = 4 then .attn (rvRd w)
    else .plain

/-- The kind of a store. -/
def storeKind (k : LcCore) (w : Word) : LcKind :=
  let a := (storeAddr k w).toNat
  let v := k.reg (rvRs2 w)
  match rvStoreSize (rvF3 w) with
  | none => .plain
  | some size =>
    if a % size ≠ 0 then .plain
    else if inWindow a then .runnerStore a size v
    else if size ≠ 4 then .plain
    else if inQueues a then
      let q := (a - 0x04000000) / 16
      match a % 16 with
      | 0 => .push q v false
      | 4 => .push q v true
      | 8 => .popc q v
      | _ => .rewindq q
    else if a = 0x02000020 && 1 ≤ v.toNat % 16 && v.toNat % 16 ≤ 10 then .cupOp (v.toNat % 16)
    else if a = 0x02000040 then .done
    else .plain

/-- The value a CSR instruction writes, if it writes; `old` is what it read. -/
def csrNew (k : LcCore) (w old : Word) : Option Word :=
  let src := if rvF3 w < 4 then k.reg (rvRs1 w) else BitVec.ofNat 32 (rvRs1 w)
  match rvF3 w % 4 with
  | 1 => some src
  | 2 => if rvRs1 w = 0 then none else some (old ||| src)
  | 3 => if rvRs1 w = 0 then none else some (old &&& ~~~src)
  | _ => none

/-- The bank item XBWSEL names, and its value (R284). -/
def bankItem (k : LcCore) : Word :=
  let sel := k.csrOf 0x7C7
  let b := k.bank (fld sel 12 8)
  match fld sel 5 0 with
  | 0 => b.bpc
  | 32 => b.bprog
  | 33 => b.bwin
  | i => if i < 32 then Tab.get 0 b.x i else 0

/-- The kind of a SYSTEM instruction. -/
def systemKind (k : LcCore) (w : Word) : LcKind :=
  if w = 0x30200073#32 then .mret
  else
    let n := fld w 31 20
    if rvF3 w % 4 = 0 then .plain
    else if n = 0x7C9 then
      match csrNew k w (k.csrOf 0x7C9) with
      | some v => if v.getLsbD 0 then .xbready (rvRd w) else .plain
      | none => .plain
    else if n = 0x7C8 && k.cur = 0 then
      match csrNew k w (bankItem k) with
      | some v => .xbwdata (rvRd w) v
      | none => .plain
    else .plain

/-- The kind of an Xbank instruction (R302). -/
def xbankKind (w : Word) : LcKind :=
  if rvF7 w ≠ 0 || rvRd w ≠ 0 then .plain
  else match rvF3 w with
    | 0 => .ldm (rvRs1 w) (rvRs2 w)
    | 1 => .stm (rvRs1 w) (rvRs2 w)
    | 2 => if rvRs1 w = 0 && rvRs2 w = 0 then .bret else .plain
    | _ => .plain

/-- The kind of an instruction. -/
def kindOf (k : LcCore) (w : Word) : LcKind :=
  match rvOpcode w with
  | 0x03 => loadKind k w
  | 0x23 => storeKind k w
  | 0x0F => if rvF3 w = 0 then .fence else .plain
  | 0x0B => xbankKind w
  | 0x73 => systemKind k w
  | _ => .plain

/-- The kind of the instruction at a core's program counter, and its length. -/
def lcKind (s : State) (c : Nat) : LcKind × Nat :=
  match lcFetch s c with
  | .instr w len => (kindOf (s.core c) w, len)
  | _ => (.plain, 4)

/-! ### Leaving a bank -/

/-- The current thread leaves the core, which becomes idle; the next address is in BPC (R281). -/
def lcLeave (c : Nat) (s : State) : State :=
  s.modCore c (fun k => { k.modBank k.cur (fun b => { b with bpc := k.pc }) with idle := true, stall := .none })

/-- The core on which a thread runs. -/
def runningOn (s : State) (t : Nat) : Option Nat := (List.range 8).find? (fun c => (s.core c).thread = some t)

/-- A thread's bank is freed without a spill, a fill of it is abandoned, and no core waits for it any more (R348, R349). -/
def dropBank (t : Nat) (s : State) : State :=
  let s := match runningOn s t with
    | some c => lcLeave c s
    | none => s
  let s := (List.range 8).foldl (fun s c => if (s.core c).waiting = some t then s.modCore c (fun k => { k with waiting := none }) else s) s
  match (s.thread t).bank with
  | some (c, b) =>
    (s.modCore c (fun k => { k.modBank b Bank.freed with
      unit' := if k.unit' = .filling b || k.unit' = .spilling b then .idle else k.unit' })).modThread t (fun x => { x with bank := none })
  | none => s

/-- The running thread leaves for the head of its priority: preemption or park (R323). -/
def preemptCurrent (c : Nat) (s : State) : State :=
  match (s.core c).thread with
  | some t => toHead t (lcLeave c s)
  | none => s

/-- A fill has met poison (R301): the core enters the bank fault, after the instruction that is stalled has completed (R278). -/
def fillFault (c t : Nat) (s : State) : State :=
  let k := s.core c
  if k.stall = .none || k.cur = 0 then bankFault c 2 (some t) s else s.modCore c (fun k => { k with faultDue := some t })

/-- A boundary of core `c`: a bank fault that waited for it is entered, and a parking core leaves its thread (R316). -/
def settleCore (c : Nat) (s : State) : State :=
  let s := match (s.core c).faultDue with
    | some t => if (s.core c).stall = .none then bankFault c 2 (some t) (s.modCore c (fun k => { k with faultDue := none })) else s
    | none => s
  let k := s.core c
  if k.st = .parking && !k.levelMode && k.boundary then preemptCurrent c s else s

/-- RESULT and RVAL of the current bank (R356). -/
def setResult (c r : Nat) (v : Word) (s : State) : State :=
  s.modCore c (fun k => k.modBank k.cur (fun b => { b with result := r, rval := v }))

/-- A cancelled thread's cancel completes the CANCEL stores that wait for it. -/
def cancelCompletes (t rval : Nat) (s : State) : State :=
  (List.range 8).foldl (fun s c =>
    if (s.core c).stall = .cancel t then
      settleCore c ((setResult c resOk (BitVec.ofNat 32 rval) s).modCore c (fun k => { k with stall := .none, pc := k.pc + BitVec.ofNat 32 (lcKind s c).2, minstret := k.minstret + 1 }))
    else s) s

/-- A thread is cancelled (R348), with the RVAL of R349: the stores and the T_CMD that asked for it complete. -/
def cancelWith (t : Nat) (s : State) : Nat × State :=
  let (rval, s) := cancelThread t (dropBank t s)
  (rval, cancelCompletes t rval (s.modThread t (fun x => { x with tAsked := false, tResult := if x.tAsked then BitVec.ofNat 32 rval else x.tResult })))

/-- A thread is cancelled now. -/
def cancelNow (t : Nat) (s : State) : State := (cancelWith t s).2

/-- A cancel may take effect now: a running thread's at a boundary at which R286 would accept a dispatch (R323), so not while its core is in bank 0. -/
def cancelOpen (s : State) (t : Nat) : Bool :=
  (s.thread t).st ≠ .running || (match runningOn s t with
    | some c => (s.core c).boundary
    | none => false)

/-- Cancels that have waited for a boundary, or for their thread to leave its core, take effect. -/
def settleCancels (s : State) : State :=
  ((s.cup.threads.filter (fun e => e.2.cancelAsked)).map (·.1)).foldl (fun s t => if (s.thread t).cancelAsked && cancelOpen s t then cancelNow t s else s) s

/-- After each instruction of a core: what waited for its boundary. -/
def lcSettle (c : Nat) (s : State) : State := settleCore c (settleCancels s)

/-- An instruction of `len` bytes completes. -/
def lcRetire (c len : Nat) (s : State) : State :=
  s.modCore c (fun k => { k with pc := k.pc + BitVec.ofNat 32 len, minstret := k.minstret + 1 })

/-! ### Local sources (R288, R290) -/

/-- An error log entry is newer than the LOG_SEEN of a path (R687). -/
def logUnseen (s : State) (path : Nat) : Bool :=
  let seen := BitVec.ofNat 32 (s.selector path 0x2400 0x13)
  s.chill.ring.any (fun e => seqAfter e.seq seen)

/-- A source whose condition the model holds is asserted for core `c`. -/
def sourceOn (s : State) (c n : Nat) : Bool :=
  if n = 0 then s.cup.abandoned || s.cup.coreHalted || s.cup.ringStall
  else if n = 1 then logUnseen s (72 + c)
  else if n = 17 then s.chill.bankA.new || s.chill.bankB.new
  else if n = 19 then s.pdoIrq.getLsbD c
  else if 20 ≤ n && n ≤ 27 then trigSource s (n - 20)
  else false

/-- Sources whose condition no chapter defines: their event may come at any time (log 32). -/
def sourceFree (n : Nat) : Bool := (2 ≤ n && n ≤ 16) || n = 18 || n = 28

/-- The level XILVL gives a source. -/
def sourceLevel (k : LcCore) (n : Nat) : Nat := ((k.csrOf (0x7D0 + n / 8)).extractLsb' (4 * (n % 8)) 4).toNat

/-- Source `n` may be accepted by core `c` now and no better one is asserted (R290, R310, R315). -/
def sourceWins (s : State) (c n : Nat) : Bool :=
  let k := s.core c
  let v := sourceLevel k n
  s.domOn 86 && c < 8 && (k.st = .running || k.st = .parking) && k.boundary && !k.idle && n < 29 &&
    (sourceOn s c n || sourceFree n) && k.level < v &&
    (List.range 32).all (fun m => !sourceOn s c m || sourceLevel k m < v || (sourceLevel k m = v && n ≤ m))

/-- Some source whose condition the model holds would be accepted. -/
def sourcePending (s : State) (c : Nat) : Bool := (List.range 32).any (fun n => sourceOn s c n && (s.core c).level < sourceLevel (s.core c) n)

/-- Taking source 19 ends its condition for that core (log 32). -/
def sourceTaken (c n : Nat) (s : State) : State :=
  if n = 19 then { s with pdoIrq := s.pdoIrq &&& ~~~(1#8 <<< c) } else s

/-- What the checks find before an instruction takes effect: an uncorrectable instruction word or register stops it
(R272, R308); otherwise `act` follows. -/
def lcGuard (c : Nat) (ev : LcEv) (act : State → State) (s : State) : State :=
  lcSettle c (match ev with
    | .fetchBad => lcFault c 0x3502 1 (s.core c).pc s
    | .regBad => bankFault c 3 (s.core c).thread s
    | .dataCorrected => act (reportCore 0x1501 c (s.core c).pc s)
    | .regCorrected => act (reportCore 0x1502 c (s.core c).pc s)
    | _ => act s)

end Sys2Proof.Machine
end

