-- ==== Sys2Proof/Machine/LadleExec.lean ====
section
/-! DEFINITION. What an instruction without a row of its own does (R267-R272, R284, R321): RV32IMAC and Zicsr, the accesses
to local memory and shared SRAM, the Cupola and queue registers, and the exceptions. -/

namespace Sys2Proof.Machine

/-- Write a register and go on. -/
def lcWrite (c len rd : Nat) (v : Word) (s : State) : State := lcRetire c len (s.modCore c (fun k => k.setReg rd v))

/-- Go on at an address. -/
def lcJump (c : Nat) (target : Word) (s : State) : State :=
  s.modCore c (fun k => { k with pc := target &&& 0xFFFFFFFE#32, minstret := k.minstret + 1 })

/-- OP-IMM. -/
def opImm (w a : Word) : Option Word :=
  match rvF3 w with
  | 1 => if rvF7 w = 0 then rvAlu 0 1 a (BitVec.ofNat 32 (rvRs2 w)) else none
  | 5 => if rvF7 w = 0 || rvF7 w = 0x20 then rvAlu (rvF7 w) 5 a (BitVec.ofNat 32 (rvRs2 w)) else none
  | f3 => rvAlu 0 f3 a (immI w)

/-- OP. -/
def opReg (w a b : Word) : Option Word := if rvF7 w = 1 then some (rvMul (rvF3 w) a b) else rvAlu (rvF7 w) (rvF3 w) a b

/-! ### Loads and stores -/

/-- What a load of the Cupola interface gives (R356). -/
def cupolaReg (s : State) (c o : Nat) : Word :=
  let k := s.core c
  let b := k.bank k.cur
  if o < 0x18 then Tab.get 0 b.args (o / 4)
  else if o = 0x24 then BitVec.ofNat 32 b.result
  else if o = 0x28 then b.rval
  else if o = 0x44 then
    match k.thread with
    | some t => BitVec.ofNat 32 t
    | none => 0xFFFFFFFF
  else if o = 0x48 then
    match k.thread with
    | some t =>
      match (s.thread t).item with
      | some n =>
        match s.item n with
        | some i => BitVec.ofNat 32 (2 ^ 31 + itemFlow i.header)
        | none => 0
      | none => 0
    | none => 0
  else 0

/-- What a load of the queue interface gives (R273). -/
def queueReg (s : State) (c a : Nat) : Word :=
  if a % 16 = 12 then BitVec.ofNat 32 (s.producer (coreNode c) ((a - 0x04000000) / 16)).credits else 0

/-- A load outside the runner window; `bad` says that its data are uncorrectable. -/
def lcLoad (c len : Nat) (w : Word) (bad : Bool) (s : State) : State :=
  let av := loadAddr (s.core c) w
  let a := av.toNat
  match rvLoadKind (rvF3 w) with
  | none => lcIllegal c s
  | some (size, signed) =>
    if a % size ≠ 0 then lcTrap c 4 av s
    else if inLocal a || inSram a then
      let v := lcWord s c a
      if v.p || bad then lcFault c 0x3501 5 av s else lcWrite c len (rvRd w) (loadValue v.d a size signed) s
    else if inCupola a && size = 4 then lcWrite c len (rvRd w) (cupolaReg s c (a - 0x02000000)) s
    else if inQueues a && size = 4 then lcWrite c len (rvRd w) (queueReg s c a) s
    else lcTrap c 5 av s

/-- A store to a Cupola register other than OP with a known code and DONE. -/
def cupolaPut (c o : Nat) (v : Word) (s : State) : State :=
  if o < 0x18 then s.modCore c (fun k => k.modBank k.cur (fun b => { b with args := Tab.set 0 b.args (o / 4) v }))
  else if o = 0x20 then setResult c (if s.cup.stopped then resOffline else resInvalid) 0 s
  else s

/-- A store outside the runner window that has no row of its own. -/
def lcPut (c len : Nat) (w : Word) (s : State) : State :=
  let k := s.core c
  let av := storeAddr k w
  let a := av.toNat
  let v := k.reg (rvRs2 w)
  match rvStoreSize (rvF3 w) with
  | none => lcIllegal c s
  | some size =>
    if a % size ≠ 0 then lcTrap c 6 av s
    else if inLocal a || inSram a then lcRetire c len (lcStore s c a size v)
    else if inCupola a && size = 4 then lcRetire c len (cupolaPut c (a - 0x02000000) v s)
    else lcTrap c 7 av s

/-- LR, SC and AMO (R270). -/
def lcAmo (c len : Nat) (w : Word) (bad : Bool) (s : State) : State :=
  let k := s.core c
  let av := k.reg (rvRs1 w)
  let a := av.toNat
  let f5 := fld w 31 27
  let r := k.reg (rvRs2 w)
  if rvF3 w ≠ 2 || (f5 = 2 && rvRs2 w ≠ 0) || (f5 ≠ 2 && f5 ≠ 3 && (rvAmo f5 0 0).isNone) then lcIllegal c s
  else if a % 4 ≠ 0 then lcTrap c (if f5 = 2 then 4 else 6) av s
  else if !(inLocal a || inSram a) then lcTrap c 7 av s
  else
    let v := lcWord s c a
    if f5 = 3 then
      let hit : Bool := k.resv = some a
      let s := if hit then lcStore s c a 4 r else s
      lcWrite c len (rvRd w) (if hit then 0 else 1) (s.modCore c (fun k => { k with resv := none }))
    else if v.p || bad then lcFault c 0x3501 (if f5 = 2 then 5 else 7) av s
    else if f5 = 2 then lcWrite c len (rvRd w) v.d (s.modCore c (fun k => { k with resv := some a }))
    else match rvAmo f5 v.d r with
      | some n => lcWrite c len (rvRd w) v.d (lcStore s c a 4 n)
      | none => lcIllegal c s

/-! ### CSRs (R284, R289) -/

/-- The CSRs the core has: machine mode's own, the Xbank set, counters and identification (log 8). -/
def csrExists (n : Nat) : Bool :=
  [0x300, 0x301, 0x304, 0x305, 0x310, 0x320, 0x340, 0x341, 0x342, 0x343, 0x344, 0xB00, 0xB02, 0xB80, 0xB82,
   0xF11, 0xF12, 0xF13, 0xF14, 0xF15].contains n ||
  (0x323 ≤ n && n ≤ 0x33F) || (0xB03 ≤ n && n ≤ 0xB1F) || (0xB83 ≤ n && n ≤ 0xB9F) ||
  (0xFC0 ≤ n && n ≤ 0xFC3) || (0x7C0 ≤ n && n ≤ 0x7C9) || (0x7D0 ≤ n && n ≤ 0x7D3)

/-- CSRs of bank 0 alone. -/
def csrBank0 (n : Nat) : Bool := 0x7C5 ≤ n && n ≤ 0x7C8

/-- Codes of bank states. -/
def bankCode (st : BankSt) : Nat :=
  match st with
  | .free => 0
  | .resident => 1
  | .spilling => 2

/-- XBSTL and XBSTH. -/
def bankStates (k : LcCore) (lo : Nat) : Word :=
  (List.range 16).foldl (fun w i => w ||| BitVec.ofNat 32 (bankCode (k.bankSt (lo + i)) * 4 ^ i)) 0

/-- XBCUR and the low bits of LC_STATUS. -/
def currentWord (k : LcCore) : Word :=
  BitVec.ofNat 32 ((if k.levelMode then 2 ^ 31 else 0) + (if k.idle then 2 ^ 30 else 0) + k.cur * 2 ^ 16 + k.level * 2 ^ 12 +
    k.thread.getD 0)

/-- XIPEND: sources the model knows, a free bit for each source no chapter defines, 0 for those never asserted. -/
def pendingSources (s : State) (c : Nat) (free : Word) : Word :=
  (List.range 29).foldl (fun w n =>
    if sourceOn s c n then w ||| (1#32 <<< n)
    else if sourceFree n then w ||| (free &&& (1#32 <<< n)) else w) 0

/-- What a CSR reads. -/
def csrRead (c n : Nat) (s : State) : Word × State :=
  let k := s.core c
  if n = 0x300 then (k.csrOf n ||| 0x1800#32, s)
  else if n = 0xFC0 then (currentWord k, s)
  else if n = 0xFC1 then (bankStates k 0, s)
  else if n = 0xFC2 then (bankStates k 16, s)
  else if n = 0xFC3 then
    let (v, s) := s.draw
    (pendingSources s c (v.setWidth 32), s)
  else if n = 0x7C0 then ((k.bank k.cur).bprog, s)
  else if n = 0x7C3 then ((k.bank k.cur).bwin, s)
  else if n = 0x7C8 then (bankItem k, s)
  else if n = 0xB00 || n = 0xB80 then
    let (v, s) := s.draw
    (v.setWidth 32, s)
  else if n = 0xB02 then (k.minstret.setWidth 32, s)
  else if n = 0xB82 then ((k.minstret >>> 32).setWidth 32, s)
  else if n = 0xF14 then (BitVec.ofNat 32 c, s)
  else if n = 0x301 || (0xF11 ≤ n && n ≤ 0xF15) then (Config.coreId n, s)
  else (k.csrOf n, s)

/-- Bits of a stored CSR that a write sets; CSRs not named store nothing. -/
def csrMask (n : Nat) : Word :=
  match n with
  | 0x300 => 0x88
  | 0x305 => 0xFFFFFFFD
  | 0x340 => 0xFFFFFFFF
  | 0x341 => 0xFFFFFFFE
  | 0x342 => 0xFFFFFFFF
  | 0x343 => 0xFFFFFFFF
  | 0x7C1 => 0xFFFFFFFE
  | 0x7C2 => 0xFFFFFFFF
  | 0x7C4 => 0x0000FFFE
  | 0x7C5 => 0xFFF00F1F
  | 0x7C6 => 0xFFFFFFFF
  | 0x7C7 => 0x00001F3F
  | 0x7C9 => 0x00000001
  | 0x7D0 => 0xFFFFFFFF
  | 0x7D1 => 0xFFFFFFFF
  | 0x7D2 => 0xFFFFFFFF
  | 0x7D3 => 0xFFFFFFFF
  | _ => 0

/-- Write a CSR. XBPIN bit 0 reads 1 and XBPROG bit 0 reads 0. -/
def csrWrite (c n : Nat) (v : Word) (s : State) : State :=
  s.modCore c (fun k =>
    if n = 0x7C0 then k.modBank k.cur (fun b => { b with bprog := v &&& 0xFFFFFFFE#32 })
    else if n = 0x7C3 then k.modBank k.cur (fun b => { b with bwin := v &&& 0x3FFFF#32 })
    else if n = 0x7C2 then k.setCsr n (v ||| 1)
    else if n = 0xB02 then { k with minstret := (k.minstret.extractLsb' 32 32) ++ v }
    else if n = 0xB82 then { k with minstret := v ++ (k.minstret.extractLsb' 0 32) }
    else k.setCsr n (v &&& csrMask n))

/-- A CSR instruction. -/
def lcCsr (c len : Nat) (w : Word) (s : State) : State :=
  let k := s.core c
  let n := fld w 31 20
  let writes := rvF3 w % 4 = 1 || rvRs1 w ≠ 0
  if !csrExists n || (0xC00 ≤ n && writes) || (csrBank0 n && k.cur ≠ 0) then lcIllegal c s
  else
    let (old, s) := csrRead c n s
    let s1 := lcWrite c len (rvRd w) old s
    match csrNew k w old with
    | some v => csrWrite c n v s1
    | none => s1

/-- A SYSTEM instruction other than MRET. WFI only goes on (log 8). -/
def lcSystem (c len : Nat) (w : Word) (s : State) : State :=
  if rvF3 w = 0 then
    if w = 0x00000073#32 then lcTrap c 11 0 s
    else if w = 0x00100073#32 then
      let (v, s) := s.draw
      lcTrap c 3 (v.setWidth 32) s
    else if w = 0x10500073#32 then lcRetire c len s
    else lcIllegal c s
  else if rvF3 w = 4 then lcIllegal c s
  else lcCsr c len w s

/-- Write a result, or raise the illegal-instruction exception. -/
def lcResult (c len rd : Nat) (v : Option Word) (s : State) : State :=
  match v with
  | some v => lcWrite c len rd v s
  | none => lcIllegal c s

/-- A conditional branch. -/
def lcBranch (c len : Nat) (w : Word) (s : State) : State :=
  let k := s.core c
  match rvBranch (rvF3 w) (k.reg (rvRs1 w)) (k.reg (rvRs2 w)) with
  | some true => lcJump c (k.pc + immB w) s
  | some false => lcRetire c len s
  | none => lcIllegal c s

/-- One plain instruction. -/
def lcPlain (c len : Nat) (w : Word) (bad : Bool) (s : State) : State :=
  let k := s.core c
  let next := k.pc + BitVec.ofNat 32 len
  let a := k.reg (rvRs1 w)
  match rvOpcode w with
  | 0x37 => lcWrite c len (rvRd w) (immU w) s
  | 0x17 => lcWrite c len (rvRd w) (k.pc + immU w) s
  | 0x6F => lcJump c (k.pc + immJ w) (s.modCore c (fun k => k.setReg (rvRd w) next))
  | 0x67 => if rvF3 w = 0 then lcJump c (a + immI w) (s.modCore c (fun k => k.setReg (rvRd w) next)) else lcIllegal c s
  | 0x63 => lcBranch c len w s
  | 0x03 => lcLoad c len w bad s
  | 0x23 => lcPut c len w s
  | 0x13 => lcResult c len (rvRd w) (opImm w a) s
  | 0x33 => lcResult c len (rvRd w) (opReg w a (k.reg (rvRs2 w))) s
  | 0x2F => lcAmo c len w bad s
  | 0x73 => lcSystem c len w s
  | _ => lcIllegal c s

/-- The plain instruction at the program counter, its fetch faults included. -/
def lcExecute (c : Nat) (bad : Bool) (s : State) : State :=
  match lcFetch s c with
  | .instr w len => lcPlain c len w bad s
  | .illegal _ => lcIllegal c s
  | .fault a => lcTrap c 1 (BitVec.ofNat 32 a) s
  | .corrupt a => lcFault c 0x3502 1 (BitVec.ofNat 32 a) s

end Sys2Proof.Machine
end

