-- ==== Sys2Proof/Machine/Ladle.lean ====
section
/-! DEFINITION. The rows of the ladle cores (06_ladle_cores.md): each instruction that reaches beyond its core, traps, banks,
dispatch, the spill unit and firmware loads. A row takes effect when the instruction at the core's program counter is its
own. -/

namespace Sys2Proof.Machine

/-- The instruction of core `c`, if `act` gives it an effect. -/
def lcRow (c : Nat) (ev : LcEv) (act : LcKind → Nat → Option (State → State)) (s : State) : Result :=
  let i := lcKind s c
  match act i.1 i.2 with
  | some f => event (s.lcRuns c) s (lcGuard c ev f s)
  | none => ok s

/-- LC_INSTRUCTION (R267): an instruction that has no row of its own, its exceptions included. -/
def execLcInstruction (c : Nat) (ev : LcEv) (s : State) : Result :=
  lcRow c ev (fun i _ => if i = .plain then some (lcExecute c (ev = .dataBad)) else none) s

/-! ### Queue access (R273-R277) -/

/-- A push store sends one word and uses a credit. -/
def lcPush (c len q : Nat) (v : Word) (last : Bool) (s : State) : State :=
  lcRetire c len (gateSend (coreNode c) q (gatePush (coreNode c) q { d := v, l := last, i := false, p := false } s))

/-- The push store of a given L: it sends its word once the gate holds a credit, and stalls the core until then (R274, R278). -/
def lcPushRow (c : Nat) (last : Bool) (ev : LcEv) (s : State) : Result :=
  match (s.core c).stall with
  | .push q v l len =>
    event (s.domOn 86 && l = last && 0 < (s.producer (coreNode c) q).credits) s
      (lcSettle c (lcPush c len q v l (s.modCore c (fun k => { k with stall := .none }))))
  | _ => lcRow c ev (fun i len => match i with
    | .push q v l =>
      if l = last then
        some (fun s => if 0 < (s.producer (coreNode c) q).credits then lcPush c len q v l s else s.modCore c (fun k => { k with stall := .push q v l len }))
      else none
    | _ => none) s

/-- LC_QUEUE_PUSH (R273, R274). -/
def execLcQueuePush (c : Nat) (ev : LcEv) (s : State) : Result := lcPushRow c false ev s
/-- LC_QUEUE_PUSH_LAST (R273, R274). -/
def execLcQueuePushLast (c : Nat) (ev : LcEv) (s : State) : Result := lcPushRow c true ev s

/-- QPUSH_TIMEOUT (R274): the stalled store faults and sends nothing. -/
def execQpushTimeout (c : Nat) (s : State) : Result :=
  match (s.core c).stall with
  | .push q _ last _ =>
    event (s.domOn 86 && (s.producer (coreNode c) q).credits = 0) s
      (lcSettle c (lcFault c 0x3503 7 (BitVec.ofNat 32 (0x04000000 + 16 * q + if last then 4 else 0)) s))
  | _ => ok s

/-- An instruction hands a request to the gate and waits for the answer under its own number. -/
def lcAsk (c dest : Nat) (b : Body) (stall : Stall) (s : State) : State :=
  let n := (s.core c).ask + 1
  (s.requestBy n (coreNode c) dest 0 0 b).modCore c (fun k => { k with ask := n, stall := stall })

/-- The POP command: its destination is checked (R276); a MAX field above 7 leaves MAX free. -/
def lcPop (c q : Nat) (v : Word) (s : State) : State :=
  let dest := v.toNat % 2 ^ 28
  let m := v.toNat / 2 ^ 28
  if dest % 8 = 0 && (inLocal dest || inSram dest) then
    let (r, s) := if m < 8 then (BitVec.ofNat 64 m, s) else s.draw
    lcAsk c tundishNode (.pop q (r.toNat % 8 + 1)) (.pop q dest) s
  else lcTrap c 7 (BitVec.ofNat 32 (0x04000000 + 16 * q + 8)) s

/-- LC_QUEUE_POP (R276). -/
def execLcQueuePop (c : Nat) (ev : LcEv) (s : State) : Result :=
  lcRow c ev (fun i _ => match i with
    | .popc q v => some (lcPop c q v)
    | _ => none) s

/-- Codes of the status word (R277). -/
def popCode (st : PopStatus) : Nat :=
  match st with
  | .ok => 0
  | .empty => 1
  | .idle => 2
  | .refused => 3
  | .offline => 4

/-- The tag word of a popped word. -/
def popTags (w : QWord) : Word :=
  (if w.p then 8#32 else 0) ||| (if w.i then 4#32 else 0) ||| (if w.l then 2#32 else 0) ||| 1

/-- The response as it is laid out at its destination (R277). -/
def popLayout (st : PopStatus) (ws : List QWord) : List Word :=
  BitVec.ofNat 32 (popCode st * 2 ^ 28 + ws.length) :: 0 :: ws.flatMap (fun w => [w.d, popTags w])

/-- Words from an address of local memory or shared SRAM; what runs past the end of the memory is not written (log 33). -/
def lcStoreWords (c : Nat) : Nat → List Word → State → State
  | _, [], s => s
  | a, w :: ws, s => lcStoreWords c (a + 4) ws (if inLocal a || inSram a then lcStore s c a 4 w else s)

/-- LC_POP_RESPONSE (R277): the response is written and the stalled store completes. -/
def execLcPopResponse (c : Nat) (st : PopStatus) (ws : List QWord) (s : State) : Result :=
  match (s.core c).stall with
  | .pop _ dest =>
    event (s.domOn 86 && ws.length ≤ 8 && s.answered (coreNode c) (s.core c).ask (.popResp st ws)) s
      (let s := s.takeAnswer (coreNode c) (s.core c).ask (.popResp st ws)
       let len := (lcKind s c).2
       let s := s.modCore c (fun k => { k with stall := .none })
       lcSettle c (lcRetire c len (lcStoreWords c dest (popLayout st ws) s)))
  | _ => ok s

/-- LC_QUEUE_REWIND (R273). -/
def execLcQueueRewind (c : Nat) (ev : LcEv) (s : State) : Result :=
  lcRow c ev (fun i len => match i with
    | .rewindq q => some (fun s => lcRetire c len (gateRewind (coreNode c) q s))
    | _ => none) s

/-! ### The runner window (R271) -/

/-- The runner network address of a window address. -/
def runnerAddr (k : LcCore) (a : Nat) : Nat := (k.bank k.cur).bwin.toNat * 2 ^ 30 + (a - 0x40000000)

/-- A read of one word is handed to the gate and the core waits for it. -/
def lcRead (c a rd size : Nat) (signed ldm : Bool) (s : State) : State :=
  lcAsk c unresolved (.rd (runnerAddr (s.core c) a / 4 * 4) 1) (.load a rd size signed ldm) s

/-- A posted write of `size` bytes is handed to the gate. -/
def lcPost (c a size : Nat) (v : Word) (s : State) : State :=
  let be : BitVec 4 := BitVec.ofNat 4 ((2 ^ size - 1) * 2 ^ (a % 4))
  let s := s.request (coreNode c) unresolved 0 0 (.wr (runnerAddr (s.core c) a / 4 * 4) be be [{ d := v <<< (8 * (a % 4)), p := false }])
  s.modCore c (fun k => { k with posted := k.posted + 1 })

/-- LC_RUNNER_LOAD (R271). -/
def execLcRunnerLoad (c : Nat) (ev : LcEv) (s : State) : Result :=
  lcRow c ev (fun i _ => match i with
    | .runnerLoad a rd size signed => some (lcRead c a rd size signed false)
    | _ => none) s

/-- LC_RUNNER_STORE (R271). -/
def execLcRunnerStore (c : Nat) (ev : LcEv) (s : State) : Result :=
  lcRow c ev (fun i len => match i with
    | .runnerStore a size v => some (fun s => lcRetire c len (lcPost c a size v s))
    | _ => none) s

/-- LC_FENCE (R271): no posted write is left unanswered. -/
def execLcFence (c : Nat) (ev : LcEv) (s : State) : Result :=
  lcRow c ev (fun i len => if i = .fence && (s.core c).posted = 0 then some (lcRetire c len) else none) s

/-! ### LDM and STM (R302-R307) -/

/-- The registers of a mask in the order of their transfer (R304). -/
def xferOrder (m : Word) (rs1 rs2 : Nat) : List Nat :=
  let on (r : Nat) : Bool := r ≠ 0 && m.getLsbD r
  (List.range 32).filter (fun r => on r && r ≠ rs1 && r ≠ rs2) ++ (if on rs2 && rs2 ≠ rs1 then [rs2] else []) ++ (if on rs1 then [rs1] else [])

/-- XBPROG loses a register; with the last the instruction completes (R305). -/
def progDone (c r : Nat) (s : State) : State :=
  let s := s.modCore c (fun k => k.modBank k.cur (fun b => { b with bprog := b.bprog &&& ~~~(1#32 <<< r) }))
  if ((s.core c).bank (s.core c).cur).bprog = 0 then lcRetire c 4 s else s

/-- Up to `n` transfers of an LDM; a read through the runner window ends them until its answer comes. `bad`: the transfer
after them meets uncorrectable data. -/
def ldmGo (c base : Nat) (bad : Bool) : Nat → List Nat → State → State
  | _, [], s => s
  | n, r :: rs, s =>
    let a := (base + 4 * r) % 2 ^ 32
    let av := BitVec.ofNat 32 a
    if !(inLocal a || inSram a || inWindow a) then lcTrap c 5 av s
    else match n with
      | 0 => if bad then lcFault c 0x3501 5 av s else s
      | n + 1 =>
        if inWindow a then lcRead c a r 4 false true s
        else
          let w := lcWord s c a
          if w.p then lcFault c 0x3501 5 av s
          else ldmGo c base bad n rs (progDone c r (s.modCore c (fun k => k.setReg r w.d)))

/-- Up to `n` transfers of an STM. -/
def stmGo (c base : Nat) : Nat → List Nat → State → State
  | _, [], s => s
  | n, r :: rs, s =>
    let a := (base + 4 * r) % 2 ^ 32
    if !(inLocal a || inSram a || inWindow a) then lcTrap c 7 (BitVec.ofNat 32 a) s
    else match n with
      | 0 => s
      | n + 1 =>
        let v := (s.core c).reg r
        stmGo c base n rs (progDone c r (if inWindow a then lcPost c a 4 v s else lcStore s c a 4 v))

/-- The base is checked before any transfer (R303); then XBPROG takes the mask, unless it holds one (R305). -/
def multiple (c rs1 rs2 misaligned access : Nat) (go : Nat → List Nat → State → State) (s : State) : State :=
  let k := s.core c
  let base := (k.reg rs1).toNat
  let held := (k.bank k.cur).bprog
  let m := if held = 0 then k.reg rs2 &&& 0xFFFFFFFE#32 else held
  if base % 4 ≠ 0 then lcTrap c (BitVec.ofNat 32 misaligned) (BitVec.ofNat 32 base) s
  else if !(inLocal base || inSram base || inWindow base) then lcTrap c (BitVec.ofNat 32 access) (BitVec.ofNat 32 base) s
  else if m = 0 then lcRetire c 4 s
  else go base (xferOrder m rs1 rs2) (s.modCore c (fun k => k.modBank k.cur (fun b => { b with bprog := m })))

/-- LDM (R303): up to `n` transfers. -/
def execLdm (c n : Nat) (ev : LcEv) (s : State) : Result :=
  lcRow c ev (fun i _ => match i with
    | .ldm rs1 rs2 => some (multiple c rs1 rs2 4 5 (fun base => ldmGo c base (ev = .dataBad) n))
    | _ => none) s

/-- STM (R303): up to `n` transfers. -/
def execStm (c n : Nat) (ev : LcEv) (s : State) : Result :=
  lcRow c ev (fun i _ => match i with
    | .stm rs1 rs2 => some (multiple c rs1 rs2 6 7 (fun base => stmGo c base n))
    | _ => none) s

/-- The answer to a load through the runner window (R271, R272), under its own number: poison is a load access fault. -/
def lcLoadAnswer (c who : Nat) (w : NWord) (s : State) : State :=
  match (s.core c).stall with
  | .load a rd size signed ldm =>
    if (s.core c).ask ≠ who then s else
    let len := (lcKind s c).2
    let s := s.modCore c (fun k => { k with stall := .none })
    lcSettle c
      (if w.p then lcFault c 0x3501 5 (BitVec.ofNat 32 a) s
       else if ldm then progDone c rd (s.modCore c (fun k => k.setReg rd w.d))
       else lcWrite c len rd (loadValue w.d a size signed) s)
  | _ => s

/-- A posted write has been answered. -/
def lcWriteAnswer (c : Nat) (s : State) : State := s.modCore c (fun k => { k with posted := k.posted - 1 })

/-! ### BRET, MRET and the Xbank CSRs with an effect -/

/-- BRET (R293, R311). A bank that the handler's ABANDON has freed is not resumed: the core is idle (log 34). -/
def lcBret (c : Nat) (s : State) : State :=
  let k := s.core c
  if k.cur = 0 then
    s.modCore c (fun k =>
      let k := k.modBank 0 (fun b => { b with bpc := k.pc + 4 })
      let b := fld (k.csrOf 0x7C5) 4 0
      { k with cur := b, pc := k.csrOf 0x7C6, idle := k.faultIdle || k.bankSt b = .free, minstret := k.minstret + 1 })
  else if k.levelMode && k.level ≠ 0 then
    s.modCore c (fun k =>
      let k := k.modBank k.cur (fun b => { b with bpc := k.pc + 4 })
      let l := k.stack.headD 0
      { k with level := l, stack := k.stack.drop 1, cur := l + 1, pc := (k.bank (l + 1)).bpc, minstret := k.minstret + 1 })
  else lcIllegal c s

/-- BRET (R293, R311). -/
def execBret (c : Nat) (ev : LcEv) (s : State) : Result := lcRow c ev (fun i _ => if i = .bret then some (lcBret c) else none) s

/-- MRET (R307): MIE returns from MPIE, XBPROG from XBTPROG. -/
def lcMret (c : Nat) (s : State) : State :=
  s.modCore c (fun k =>
    let k := (k.setCsr 0x300 (if (k.csrOf 0x300).getLsbD 7 then 0x88 else 0x80)).modBank k.cur (fun b => { b with bprog := k.csrOf 0x7C1 })
    { k with pc := k.csrOf 0x341, minstret := k.minstret + 1 })

/-- MRET (R307). -/
def execMret (c : Nat) (ev : LcEv) (s : State) : Result := lcRow c ev (fun i _ => if i = .mret then some (lcMret c) else none) s

/-- Writing 1 to XBREADY (R285): in THREAD mode the boot context ends and bank 1 is FREE. -/
def lcReady (c len rd : Nat) (s : State) : State :=
  let s := lcWrite c len rd ((s.core c).csrOf 0x7C9) s
  s.modCore c (fun k =>
    let k := k.setCsr 0x7C9 1
    if k.levelMode || k.booted then k
    else
      let k : LcCore := { k.modBank 1 (fun b => ({ b with bpc := if k.cur = 1 then k.pc else b.bpc } : Bank).freed) with booted := true }
      if k.cur = 1 then { k with idle := true } else k)

/-- XBREADY_WRITE (R285). -/
def execXbreadyWrite (c : Nat) (ev : LcEv) (s : State) : Result :=
  lcRow c ev (fun i len => match i with
    | .xbready rd => some (lcReady c len rd)
    | _ => none) s

/-- Write the item XBWSEL names (R284). Bit 0 of BPROG reads 0 and BWIN has 18 bits; items above 33 do not exist. -/
def putBankItem (v : Word) (k : LcCore) : LcCore :=
  let sel := k.csrOf 0x7C7
  k.modBank (fld sel 12 8) (fun b => match fld sel 5 0 with
    | 0 => { b with bpc := v }
    | 32 => { b with bprog := v &&& 0xFFFFFFFE#32 }
    | 33 => { b with bwin := v &&& 0x3FFFF#32 }
    | i => if i < 32 then { b with x := Tab.set 0 b.x i v } else b)

/-- XBWDATA_WRITE (R284). -/
def execXbwdataWrite (c : Nat) (ev : LcEv) (s : State) : Result :=
  lcRow c ev (fun i len => match i with
    | .xbwdata rd v => some (fun s => (lcWrite c len rd (bankItem (s.core c)) s).modCore c (putBankItem v))
    | _ => none) s

/-! ### Sources (R290-R292) -/

/-- LC_SOURCE_TRAP (R291): a standard trap in the current bank. -/
def execLcSourceTrap (c src : Nat) (s : State) : Result :=
  event (!(s.core c).levelMode && sourceWins s c src) s
    (sourceTaken c src (enterTrap c (BitVec.ofNat 32 (0x80000000 + 16 + src)) 0 (trapVector (s.core c) (some (16 + src))) s))

/-- LC_LEVEL_ENTRY (R292). -/
def execLcLevelEntry (c src : Nat) (s : State) : Result :=
  event ((s.core c).levelMode && sourceWins s c src) s
    (sourceTaken c src (s.modCore c (fun k =>
      let l := sourceLevel k src
      let k := (k.modBank k.cur (fun b => { b with bpc := k.pc })).modBank (l + 1) (fun b => { b with st := .resident })
      { k with stack := k.level :: k.stack, level := l, cur := l + 1,
               pc := (k.csrOf 0x305 &&& 0xFFFFFFFC#32) + BitVec.ofNat 32 (4 * (16 + src)) })))

/-! ### Dispatch and the spill unit (R286, R296-R301) -/

/-- A thread is sent to, or awaited by, some core. -/
def awaited (s : State) (t : Nat) : Bool :=
  (List.range 8).any (fun c => Tab.get none s.cup.sent c = some t || (s.core c).waiting = some t)

/-- The victim of R298. -/
def spillVictim (s : State) (c : Nat) : Option Nat :=
  let k := s.core c
  let bs := (k.banksIn .resident).filter (fun b => !(k.bank b).filling && !(k.csrOf 0x7C2).getLsbD b && (k.idle || b ≠ k.cur) &&
    (match (k.bank b).thread with
     | some t => !awaited s t
     | none => false))
  match bs with
  | [] => none
  | b :: r => some (r.foldl (fun m b => if (k.bank b).last < (k.bank m).last then b else m) b)

/-- The thread a core is to take up: the accepted dispatch that waits for its bank, else the one sent. -/
def nextThread (s : State) (c : Nat) : Option Nat :=
  match (s.core c).waiting with
  | some t => some t
  | none => Tab.get none s.cup.sent c

/-- Switch to thread `t` in bank `b` (R281, R286, R324, R333): the current thread, if one runs, is preempted. -/
def lcSwitch (c t b : Nat) (s : State) : State :=
  let s := preemptCurrent c s
  let x := s.thread t
  let s := s.modCore c (fun k =>
    let k := k.modBank b (fun y => { y with
      x := x.held.foldl (fun m e => Tab.set 0 m e.1 e.2) y.x
      result := match x.result with
        | some r => r.1
        | none => y.result
      rval := match x.result with
        | some r => r.2
        | none => y.rval
      last := k.clock + 1 })
    { k with cur := b, idle := false, pc := if x.fresh then x.entry else (k.bank b).bpc, clock := k.clock + 1, waiting := none })
  let s := s.modThread t (fun x => { x with st := .running, fresh := false, held := [], operands := 0, result := none, home := c, bank := some (c, b) })
  s.modCup (fun u => { u with dispatches := u.dispatches + 1, sent := Tab.set none u.sent c none })

/-- LC_DISPATCH_ACCEPT (R286, R299): at a boundary the core takes up its dispatch, at once where the thread's bank is RESIDENT
on it; otherwise it waits for the spill unit, and with no bank to be had it enters a bank fault. -/
def execLcDispatchAccept (c : Nat) (s : State) : Result :=
  let k := s.core c
  match nextThread s c with
  | none => ok s
  | some t =>
    event (s.domOn 86 && c < 8 && k.st = .running && !k.levelMode && k.booted && k.boundary && !(sourcePending s c && !k.idle)) s
      (match (s.thread t).bank with
       | some (c', b) =>
         if c' = c then
           (if (k.bank b).st = .resident && !(k.bank b).filling then lcSwitch c t b s else s.modCore c (fun k => { k with waiting := some t }))
         else s.modCore c (fun k => { k with waiting := some t })
       | none =>
         let s := (s.modCore c (fun k => { k with waiting := some t })).modCup (fun u => { u with sent := Tab.set none u.sent c none })
         if (k.banksIn .free).isEmpty && k.unit' = .idle && (spillVictim s c).isNone then bankFault c 1 (some t) s else s)

/-- FREE_TARGET (R318). -/
def freeTarget (s : State) (c : Nat) : Nat := min 4 (s.settingN (0x3400 + c) 2 % 8)

/-- Banks another core's accepted dispatch needs spilled (R283, R300). -/
def wantedElsewhere (s : State) (c b : Nat) : Bool :=
  match ((s.core c).bank b).thread with
  | some t => (List.range 8).any (fun d => d ≠ c && (s.core d).waiting = some t)
  | none => false

/-- The bank the spill unit is to spill now. -/
def spillChoice (s : State) (c : Nat) : Option Nat :=
  let k := s.core c
  let held := (k.banksIn .resident).filter (fun b => ((k.bank b).thread).isSome && !(k.bank b).filling && (k.idle || b ≠ k.cur))
  if k.unit' ≠ .idle || k.levelMode then none
  else if (k.st = .halted && k.placeDue) || k.st = .parking then held.head?
  else if k.st ≠ .running then none
  else match held.find? (wantedElsewhere s c) with
    | some b => some b
    | none =>
      let free := (k.banksIn .free).length
      let fill := match k.waiting with
        | some t => (s.thread t).bank.isNone
        | none => false
      if fill then (if free = 0 then spillVictim s c else none)
      else if free < freeTarget s c && k.booted then spillVictim s c else none

/-- BANK_SPILL (R298, R313, R316): the spill unit starts. -/
def execBankSpill (c : Nat) (s : State) : Result :=
  match spillChoice s c with
  | none => ok s
  | some b => event (s.domOn 86) s (s.modCore c (fun k => { k.modBank b (fun y => { y with st := .spilling }) with unit' := .spilling b }))

/-- Word `i` of a bank as a spill writes it: 0 BPC, 1-31 xk, 32 BPROG, 33 BWIN. -/
def bankWord (b : Bank) (i : Nat) : Word :=
  match i with
  | 0 => b.bpc
  | 32 => b.bprog
  | 33 => b.bwin
  | i => Tab.get 0 b.x i

/-- Where word `i` of a bank lies in shared SRAM (R294), by word. -/
def saveIndex (t i : Nat) : Nat := if i < 32 then 32 * t + i else 0x20000 + 2 * t + (i - 32)

/-- The runner of the spill unit reports an error of core `c` about thread `t` (R321, R685). -/
def reportUnit (code c t : Nat) (detail : DWord) (s : State) : State := reportAt code 7 c (BitVec.ofNat 32 t) detail s

/-- BANK_SPILL_COMPLETE (R296, R301): the save area and status pair are written, `bad` words with poison; each of `corrected` is logged (R321). -/
def execBankSpillComplete (c : Nat) (corrected bad : List Nat) (s : State) : Result :=
  let k := s.core c
  match k.unit' with
  | .spilling b =>
    let y := k.bank b
    match y.thread with
    | some t =>
      let s := (corrected.filter (· < 34)).foldl (fun s _ => reportUnit 0x1502 c t (y.bpc.setWidth 64) s) s
      let s := (List.range 34).foldl (fun s i => s.sramPut 8 (saveIndex t i) { d := bankWord y i, p := bad.contains i }) s
      ok ((s.modCore c (fun k => { k.modBank b Bank.freed with unit' := .idle, spills := k.spills + 1 })).modThread t (fun x => { x with bank := none }))
    | none => ok (s.modCore c (fun k => { k.modBank b Bank.freed with unit' := .idle }))
  | _ => ok s

/-- BANK_FILL (R297, R300): the unit starts the fill an accepted dispatch waits for, once no bank of the device is bound to
the thread. -/
def execBankFill (c : Nat) (s : State) : Result :=
  let k := s.core c
  match k.waiting, (k.banksIn .free).head? with
  | some t, some b =>
    event (s.domOn 86 && k.unit' = .idle && k.st = .running && (s.thread t).bank.isNone) s
      ((s.modCore c (fun k => { k.modBank b (fun y => { y with st := .resident, thread := some t, filling := true }) with unit' := .filling b })).modThread t
        (fun x => { x with bank := some (c, b) }))
  | _, _ => ok s

/-- A bank with the words of a thread's save area. -/
def filledBank (s : State) (t : Nat) (y : Bank) : Bank :=
  let w (i : Nat) : Word := (s.sramWord (saveIndex t i)).d
  { y with
    filling := false, bpc := w 0, bprog := w 32 &&& 0xFFFFFFFE#32, bwin := w 33 &&& 0x3FFFF#32
    x := Tab.ofFn 0 w ((List.range 32).drop 1) }

/-- The address of word `i` of a thread's save area and status pair (R294). -/
def saveAddr (t i : Nat) : DWord := BitVec.ofNat 64 (0x01000000 + 4 * saveIndex t i)

/-- BANK_FILL_COMPLETE (R296, R301): a poisoned or uncorrectable word is a bank fault; of the words read `corrected` are corrected and logged (R321),
and `bad` names those that cannot be. -/
def execBankFillComplete (c : Nat) (corrected bad : List Nat) (s : State) : Result :=
  let k := s.core c
  match k.unit' with
  | .filling b =>
    match (k.bank b).thread with
    | some t =>
      let s := (corrected.filter (· < 34)).foldl (fun s i => reportUnit 0x1501 c t (saveAddr t i) s) s
      match (List.range 34).find? (fun i => (s.sramWord (saveIndex t i)).p || bad.contains i) with
      | some i =>
        let s := s.modThread t (fun x => { x with bank := none })
        let s := s.modCore c (fun k => { k.modBank b Bank.freed with unit' := .idle, waiting := none })
        ok (fillFault c t (reportUnit 0x3504 c t (saveAddr t i) s))
      | none => ok (s.modCore c (fun k => { k.modBank b (filledBank s t) with unit' := .idle, fills := k.fills + 1 }))
    | none => ok (s.modCore c (fun k => { k with unit' := .idle }))
  | _ => ok s

/-! ### Firmware loads and core commands (R314, R315) -/

/-- A slot of the mould store, and an area of it. -/
def State.mould (s : State) (n : Nat) : MouldSlot := Tab.get MouldSlot.reset s.loader.slots n
def MouldSlot.area (m : MouldSlot) (code : Nat) : MouldArea := Tab.get MouldArea.reset m.areas code

/-- The firmware slot of the active slot: A or B. -/
def fwArea (s : State) (slotB : Bool) : MouldArea :=
  if s.loader.actValid then (s.mould s.loader.actSlot).area (if slotB then 2 else 1) else .reset

/-- An image passes the checks of R314. -/
def fwPasses (a : MouldArea) : Bool :=
  let w (i : Nat) : Word := Tab.get 0 a.words i
  let n := (w 2).toNat
  w 0 = 0x46574C43#32 && n % 4 = 0 && n ≤ 65536 && decide ((w 3).toNat < n) &&
    crcOfWords ((List.range (4 + n / 4)).map w) = w (4 + n / 4)

/-- The firmware slot is VALID (R580). -/
def fwValid (s : State) (slotB : Bool) : Bool := (fwArea s slotB).st = .valid

/-- Local memory with the body of an image and zeros behind it. -/
def fwMemory (a : MouldArea) : Tab Word :=
  Tab.ofFn 0 (fun i => Tab.get 0 a.words (4 + i)) (List.range ((Tab.get 0 a.words 2).toNat / 4))

/-- The boot context (R285): bank 1 at the ENTRY of the image loaded, every other bank from 2 FREE, the CSRs at their reset values (log 34). -/
def coreBoot (k : LcCore) : LcCore :=
  let k := ((List.range 32).filter (fun b => 2 ≤ b)).foldl (fun k b => k.modBank b Bank.freed) k
  { k.modBank 1 (fun b => { b.freed with st := .resident }) with
    st := .running, fresh := false, booted := false, idle := false, cur := 1, level := 0,
    stack := [], pc := k.entry, csr := LcCore.reset.csr, resv := none, stall := .none, unit' := .idle, waiting := none, faultDue := none }

/-- Enter LOADING (R315, R645): the core's path is reset. -/
def startLoad (c : Nat) (slotB : Bool) (kind : LoadKind) (s : State) : State :=
  pathReset (72 + c) (s.modCore c (fun k => { k with st := .loading, slotB := slotB, kind := kind, tried := false, idle := true, stall := .none, faultDue := none }))

/-- LC_FW_LOAD_COMPLETE (R314, R315): the image passes, and the load applies BANK_MODE (R318), the other slot is tried, or the core halts. -/
def execLcFwLoadComplete (c : Nat) (s : State) : Result :=
  let k := s.core c
  let a := fwArea s k.slotB
  event (s.domOn 86 && k.st = .loading) s
    (if fwPasses a then
       let s := recoveryEnds 0x2501 7 c true s
       let s := s.modCore c (fun k =>
         let k := { k with lmem := fwMemory a, entry := Tab.get 0 a.words 3, levelMode := (s.settingW (0x3400 + c) 2).getLsbD 31 }
         match k.kind with
         | .start => coreBoot k
         | .reload => { k with st := .parked, fresh := true })
       openPort 11 (1 + c) s
     else if !k.tried && fwValid s (!k.slotB) then
       reportRecovering { code := 0x2501, kind := 7, oid := c, aux := 0xFFFFFFFF, detail := 0 }
         (s.modCore c (fun k => { k with slotB := !k.slotB, tried := true }))
     else
       let s := recoveryEnds 0x2501 7 c false s
       let s := reportCore 0x4502 c 0 (s.modCore c (fun k => { k with st := .halted }))
       pathReset (72 + c) (closePort 11 (1 + c) s))

/-- LC_CMD words of core `c`. -/
def lcCommand (path c : Nat) (act : LcCore → State → Except Word State) (s : State) : Result :=
  dictCommand path (0x3400 + c) 3 2 (fun s => act (s.core c) s) s

/-- LC_CMD_PARK (R315, R316). -/
def execLcCmdPark (path c : Nat) (s : State) : Result :=
  lcCommand path c (fun k s => need (k.st = .running) abortState
    (.ok (lcSettle c ((s.modCore c (fun k => { k with st := .parking, waiting := none })).modCup (fun u => { u with sent := Tab.set none u.sent c none }))))) s

/-- LC_PARK_COMPLETE (R315, R316). -/
def execLcParkComplete (c : Nat) (s : State) : Result :=
  let k := s.core c
  let empty : Bool := (k.banksIn .free).length = 31
  event (s.domOn 86 && k.st = .parking && k.level = 0 && k.stall = .none && (k.idle || k.cur ≠ 0) && (k.levelMode || (empty && k.idle))) s
    (s.modCore c (fun k => { k with st := .parked }))

/-- LC_CMD_JOIN (R315). -/
def execLcCmdJoin (path c : Nat) (s : State) : Result :=
  lcCommand path c (fun k s => need (k.st = .parked || (k.st = .parking && !k.fresh)) abortState
    (.ok (s.modCore c (fun k => if k.fresh then coreBoot k else { k with st := .running })))) s

/-- LC_CMD_RELOAD (R315). -/
def execLcCmdReload (path c : Nat) (slotB : Bool) (s : State) : Result :=
  lcCommand path c (fun k s => need (k.st = .parked && fwValid s slotB) abortState (.ok (startLoad c slotB .reload s))) s

/-- Cupola receives the threads of a halted core (R360): each is READY at the head of its priority, the first bound last so
that it stands first. -/
def placeThreads (c : Nat) (s : State) : State :=
  let ts := (s.core c).placing
  let s := ts.reverse.foldl (fun s t => if (s.thread t).st = .running then toHead t s else s) s
  let s := reportAt 0x2401 7 c 0xFFFFFFFF (BitVec.ofNat 64 ts.length) s
  settleCancels (s.modCore c (fun k => { k with placing := [], placeDue := false }))

/-- Spills of a halted core that have not been made yet, and the placement, before its banks are reset (log 34). -/
def finishHalt (c : Nat) (s : State) : State :=
  let k := s.core c
  if !k.placeDue then s else
  let s := (List.range 32).foldl (fun s b => match (k.bank b).thread with
    | some t =>
      let s := (List.range 34).foldl (fun s i => s.sramPut 8 (saveIndex t i) { d := bankWord (k.bank b) i, p := false }) s
      s.modThread t (fun x => { x with bank := none })
    | none => s) s
  placeThreads c s

/-- LC_CMD_RESTART (R315): the banks are reset and the named slot is loaded. -/
def execLcCmdRestart (path c : Nat) (slotB : Bool) (s : State) : Result :=
  lcCommand path c (fun k s => need (k.st = .halted && fwValid s slotB) abortState
    (.ok (startLoad c slotB .start ((finishHalt c s).modCore c (fun k => { k with banks := [], unit' := .idle }))))) s

/-! ### Entries (R318-R320) -/

/-- Codes of LC_STATUS.STATE. -/
def lcStCode (st : LcSt) : Nat :=
  match st with
  | .off => 0
  | .loading => 1
  | .running => 2
  | .parking => 3
  | .parked => 4
  | .halted => 5

/-- LC_STATUS (R319). -/
def lcStatus (k : LcCore) : Word :=
  BitVec.ofNat 32 (lcStCode k.st * 2 ^ 28 + (if k.slotB then 2 ^ 24 else 0) + (if k.fresh then 2 ^ 23 else 0) + (if k.idle then 2 ^ 22 else 0) +
    (if k.levelMode then 2 ^ 21 else 0) + k.cur * 2 ^ 16 + k.level * 2 ^ 12 + k.thread.getD 0)

/-- FW_x_INFO (R320). -/
def fwInfo (s : State) (slotB : Bool) : DWord :=
  let a := fwArea s slotB
  if a.st = .valid then
    BitVec.ofNat 64 (2 ^ 31 + ((Tab.get 0 a.words 2).toNat / 4 % 2 ^ 15) * 2 ^ 16 + (Tab.get 0 a.words 1).toNat % 2 ^ 16)
  else 0

/-- BANK_COUNT of a core as it stands (R318). -/
def bankCount (k : LcCore) : Word :=
  BitVec.ofNat 32 ((k.banksIn .free).length * 2 ^ 16 + (k.banksIn .spilling).length * 2 ^ 8 + (1 + (k.banksIn .resident).length))

/-- A pour tick latches it for every core (R318). -/
def bankCountTick (s : State) : State :=
  if s.domOn 86 then (List.range 8).foldl (fun s c => s.modCore c (fun k => { k with counts := bankCount k })) s else s

/-- Live entries of cores and firmware slots. -/
def lcReadEntry (s : State) (idx sub : Nat) : Option DWord :=
  if idx = 0x3410 then
    (if sub = 2 then some (fwInfo s false) else if sub = 3 then some (fwInfo s true) else none)
  else if 0x3400 ≤ idx && idx < 0x3408 then
    let k := s.core (idx - 0x3400)
    match sub with
    | 1 => some ((lcStatus k).setWidth 64)
    | 5 => some (k.counts.setWidth 64)
    | 6 => some (k.spills.setWidth 64)
    | 7 => some (k.fills.setWidth 64)
    | 8 => some (k.bankFaults.setWidth 64)
    | 9 => some (k.lastBfault.setWidth 64)
    | 10 => some (k.dfPc.setWidth 64)
    | _ => none
  else none

/-- Reads that clear. -/
def lcReadClear (idx sub : Nat) (s : State) : State :=
  if 0x3400 ≤ idx && idx < 0x3408 then
    s.modCore (idx - 0x3400) (fun k => match sub with
      | 6 => { k with spills := 0 }
      | 7 => { k with fills := 0 }
      | 8 => { k with bankFaults := 0 }
      | _ => k)
  else s

end Sys2Proof.Machine
end

