-- ==== Sys2Proof/Machine/Tundish.lean ====
section
/-! DEFINITION. The tundish (05_tundish_queues.md): pushes, pops, rewinds, credits, flushes, resets and the sweep, deep
spills and refills, and its entries. -/

namespace Sys2Proof.Machine

/-! ### Lenses and counts -/

/-- Queue `q`. -/
def State.queue (s : State) (q : Nat) : Queue := Tab.get Queue.reset s.tun.queues q

/-- Change queue `q`. -/
def State.modQueue (s : State) (q : Nat) (g : Queue → Queue) : State :=
  { s with tun := { s.tun with queues := Tab.modify Queue.reset s.tun.queues q g } }

/-- Change the tundish's own registers. -/
def State.modTun (s : State) (g : Tundish → Tundish) : State := { s with tun := g s.tun }

/-- The tundish runs: the core domain is up and no fatal fault has stopped it (R266). -/
def State.tunRuns (s : State) : Bool := s.domOn 87 && s.loader.released && !s.tun.stopped

/-- Words in a list of cells. -/
def cellWords (cs : List PoolCell) : Nat := cs.foldl (fun n c => n + c.words.length) 0

/-- The cells at the tail of the queue's list. -/
def Queue.tailCells (x : Queue) : List PoolCell := if x.mid.isEmpty then x.front else x.back
def Queue.setTail (x : Queue) (cs : List PoolCell) : Queue :=
  if x.mid.isEmpty then { x with front := cs } else { x with back := cs }

/-- The last `n` words taken off a list of cells given last cell first, with the cells that held nothing else. -/
def trimCells : Nat → List PoolCell → List PoolCell × List Nat
  | _, [] => ([], [])
  | n, c :: cs =>
    if n = 0 then (c :: cs, [])
    else if c.words.length ≤ n then
      let (r, f) := trimCells (n - c.words.length) cs
      (r, c.idx :: f)
    else ({ c with words := c.words.take (c.words.length - n) } :: cs, [])

/-- On-die cells a queue holds, and those of them that are OPEN. -/
def Queue.onDieCells (x : Queue) : Nat := x.front.length + x.back.length
def Queue.openCells (x : Queue) : Nat := (trimCells x.opened x.tailCells.reverse).2.length

/-- Words the queue holds on-die. -/
def Queue.onDieWords (x : Queue) : Nat := cellWords x.front - x.headOfs + cellWords x.back

/-- The words that a deep queue's bound counts as on-die: those that are, and those that the refills of its front are to bring among them, so that
no refill takes CREDIT_OUT past the bound (R204, R219; log 28, DEDUCED). With no block in the middle they are the words on-die. -/
def Queue.boundWords (x : Queue) : Nat :=
  let front := cellWords x.front - x.headOfs
  min (front + 64 * x.mid.length) (max front 184) + cellWords x.back

/-- Credits a deep queue may have outstanding under R219, by the ONDIE_LIMIT it was enabled with (R263). -/
def deepBound (x : Queue) : Nat := 8 * (x.limit - 24) - x.boundWords

/-! ### Cells and blocks -/

/-- Take a cell off the free list. -/
def allocCell (s : State) : Nat × State :=
  match s.tun.freeCells with
  | i :: r => (i, s.modTun (fun t => { t with freeCells := r }))
  | [] => (s.tun.nextCell, s.modTun (fun t => { t with nextCell := t.nextCell + 1 }))

/-- Join cells to the free list. -/
def freeCells (cs : List Nat) (s : State) : State := s.modTun (fun t => { t with freeCells := cs ++ t.freeCells })

/-- Take a block off the free list. -/
def allocBlock (s : State) : Nat × State :=
  match s.tun.freeBlocks with
  | i :: r => (i, s.modTun (fun t => { t with freeBlocks := r }))
  | [] => (s.tun.nextBlock, s.modTun (fun t => { t with nextBlock := t.nextBlock + 1 }))

/-- Addresses of block `b` and of its link entry (R207). -/
def blockAddr (s : State) (b : Nat) : Nat := s.settingN 0x3200 7 + 256 * b
def linkAddr (s : State) (b : Nat) : Nat := s.settingN 0x3200 7 + 256 * s.settingN 0x3200 9 + 32 * b

/-- The null pointer, and the pointer to a deep block (R200). -/
abbrev nullPtr : Word := 0x7FFFFFFF#32
def blockPtr (b : Nat) : Word := BitVec.ofNat 32 (2 ^ 31 + 8 * b)

/-- The eight words of a deep block's link entry (R208). -/
def linkWords (next : Word) (st q gen : Nat) (ws : List QWord) : List NWord :=
  let tag (k : Nat) : Nat := match ws[k]? with
    | some w => (if w.l then 1 else 0) + (if w.i then 2 else 0)
    | none => 0
  let tags (j : Nat) : Nat := (List.range 16).foldr (fun k acc => acc * 4 + tag (16 * j + k)) 0
  [next, BitVec.ofNat 32 (st * 2 ^ 30 + gen % 16 * 2 ^ 26 + q % 2 ^ 18 * 2 ^ 8), BitVec.ofNat 32 (tags 0), BitVec.ofNat 32 (tags 1),
   BitVec.ofNat 32 (tags 2), BitVec.ofNat 32 (tags 3), 0, 0].map (fun d => { d := d, p := false })

/-! ### Catch accesses of the tundish (R18, R394, R402) -/

/-- The marks of its requests inside its gate: those whose answers it does not wait for are 0; the initialisation of the link table, the sweep,
and the lines 0-3 and link entry (4) of queue `q`'s spill and of its refill. -/
abbrev initMark : Nat := 1
abbrev sweepMark : Nat := 2
def deepSpillMark (q : Nat) : Nat := 16 * (q + 1)
def deepRefillMark (q : Nat) : Nat := 16 * (q + 1) + 8

/-- Hand a request to the tundish's gate: deep blocks in TC0, the sweep and the initialisation in TC1, all in ordering class 1. -/
def deepRequest (mark tc : Nat) (b : Body) (s : State) : State := s.requestBy mark tundishNode unresolved 1 tc b

/-- The answer to one of them, once the gate has it. -/
def deepAnswer (s : State) (mark : Nat) : Option Body := ((s.gate tundishNode).answers.find? (fun a => a.who = mark)).map (·.body)

/-- The five requests of a spill or refill have been answered. -/
def deepAnswered (s : State) (mark : Nat) : Bool := (List.range 5).all (fun k => (deepAnswer s (mark + k)).isSome)

/-- The answers of a spill or refill are taken; those still to come are waited for no more. -/
def dropDeep (mark : Nat) (s : State) : State :=
  let mine (w : Nat) : Bool := decide (mark ≤ w) && decide (w < mark + 5)
  s.modGate tundishNode (fun g => { g with
    answers := g.answers.filter (fun a => !mine a.who)
    waiting := g.waiting.map (fun p => if mine p.who then { p with who := 0 } else p)
    outstanding := g.outstanding.map (fun o => if mine o.who then { o with who := 0 } else o) })

/-- No request with a mark is unanswered. -/
def deepDone (s : State) (mark : Nat) : Bool :=
  (s.gate tundishNode).waiting.all (fun p => p.who ≠ mark) && (s.gate tundishNode).outstanding.all (fun o => o.who ≠ mark)

/-- A block returns to FREE: its link entry is written so (R792). -/
def freeBlock (s : State) (b : Nat) : State :=
  (deepRequest 0 0 (.wr (linkAddr s b) 0xF 0xF (linkWords 0 0 0 0 [])) s).modTun (fun t => { t with freeBlocks := b :: t.freeBlocks })

/-! ### Credits -/

/-- The CREDIT messages that carry `n` credits. -/
def creditChunks (n : Nat) : List Nat := List.replicate (n / 65535) 65535 ++ (if n % 65535 = 0 then [] else [n % 65535])

/-- Send credits to the producer; CREDIT_OUT counts them (R228). -/
def sendCredits (q n : Nat) (s : State) : State :=
  let x := s.queue q
  (creditChunks n).foldl (fun s k => s.answer tundishNode x.producer 0 0 (.credit q k))
    (s.modQueue q (fun x => { x with creditOut := x.creditOut + n }))

/-- Grant what a deep queue's bound allows of its withheld credits (R219). -/
def grantWithheld (q : Nat) (s : State) : State :=
  let x := s.queue q
  let n := if x.deep then min x.withheld (deepBound x - x.creditOut) else x.withheld
  if n = 0 then s else sendCredits q n (s.modQueue q (fun x => { x with withheld := x.withheld - n }))

/-- Return credits at once (R226). -/
def returnCredits (q n : Nat) (s : State) : State :=
  grantWithheld q (s.modQueue q (fun x => { x with withheld := x.withheld + n }))

/-- Send every credit that has accrued. -/
def sendAccrued (q : Nat) (s : State) : State :=
  let n := (s.queue q).accrued
  returnCredits q n (s.modQueue q (fun x => { x with accrued := 0 }))

/-- Credits accrue; CR_BATCH of them are sent (R226). -/
def accrueCredits (q n : Nat) (s : State) : State :=
  let s := s.modQueue q (fun x => { x with accrued := x.accrued + n })
  if s.settingN 0x3200 0x11 ≤ (s.queue q).accrued then sendAccrued q s else s

/-- Count words discarded undelivered (R236). -/
def addSlag (n : Nat) (s : State) : State := s.modTun (fun t => { t with slag := t.slag + BitVec.ofNat 64 n })

/-! ### Errors, watches, resets -/

/-- Report an error of the tundish (R265). -/
def reportQueue (code q initiator : Nat) (s : State) : State := reportAt code 4 q (BitVec.ofNat 32 initiator) 0 s

/-- COUNT has passed between 0 and non-zero: the watching gate is told (R244). -/
def tellWatcher (q before : Nat) (s : State) : State :=
  let x := s.queue q
  match x.watcher with
  | some (g, i) =>
    if (before = 0) = (x.count = 0) then s else s.answer tundishNode g 0 0 (.watchState q i (x.count ≠ 0))
  | none => s

/-- The list of a queue emptied: no cell, no word, every pointer null. -/
def Queue.emptied (x : Queue) : Queue :=
  { x with count := 0, opened := 0, front := [], mid := [], back := [], headOfs := 0, moving := none, refilling := false }

/-- Every cell, and every block, of a queue's list. -/
def Queue.allCells (x : Queue) : List Nat := (x.front ++ x.back).map (·.idx)
def Queue.allBlocks (x : Queue) : List Nat :=
  x.mid ++ (match x.moving with
    | some (b, _) => [b]
    | none => [])

/-- What a queue's spill and refill have in flight is waited for no more. -/
def dropMoves (q : Nat) (s : State) : State :=
  let x := s.queue q
  let s := if x.moving.isSome then dropDeep (deepSpillMark q) s else s
  if x.refilling then dropDeep (deepRefillMark q) s else s

/-- The flush of R245, without the credits: the list joins the free lists and its words are slag. -/
def flushList (q : Nat) (s : State) : State :=
  let x := s.queue q
  let s := addSlag (x.count + x.opened) (freeCells x.allCells (x.allBlocks.foldl freeBlock (dropMoves q s)))
  tellWatcher q x.count (s.modQueue q (fun x => { x.emptied with discard := true }))

/-- A reset takes its place in a sweep: the one that starts now, or the next (R252). -/
def enterSweep (r : Reclaim) (s : State) : State :=
  s.modTun (fun t => if t.sweeping.isEmpty then { t with sweeping := [r], sweepAt := 0 } else { t with waiting := t.waiting ++ [r] })

/-- The code of a queue reset: a pointer mismatch in a queue whose recovery from an earlier one has not completed is a contained fault (R28), and 0x3302
is the contained reset of a queue (log 28). -/
def resetCode (code q : Nat) (s : State) : Nat := if code = 0x2301 && s.recovering 4 q then 0x3302 else code

/-- A recovered reset goes on to the sweep that reclaims its cells, if it held any (R689). -/
def resetRecovers (code q : Nat) (held : Bool) (s : State) : Bool := decide (resetCode code q s = 0x2301) && held

/-- Log a queue reset, with the initiator whose message found its cause (R265). -/
def reportReset (code q src : Nat) (held : Bool) (s : State) : State :=
  if resetRecovers code q held s then
    reportRecovering { code := code, kind := 4, oid := q, aux := BitVec.ofNat 32 src, detail := 0 } s
  else reportQueue (resetCode code q s) q src s

/-- A queue reset (R250, R251), or the repair of an empty queue's pointers (R794); `src` is the initiator involved, 0 with none (R265). -/
def queueReset (q code src : Nat) (s : State) : State :=
  let x := s.queue q
  if x.st ≠ .active then (reportQueue code q src s).modQueue q Queue.emptied
  else
    let full := decide (15 ≤ x.resets)
    let held := !x.allCells.isEmpty || !x.allBlocks.isEmpty
    let recovers := resetRecovers code q held s
    let s := addSlag (x.count + x.opened) (dropMoves q s)
    let s := s.modTun (fun t => { t with queueResets := t.queueResets + 1 })
    let s := enterSweep { q := q, cells := x.allCells, blocks := x.allBlocks, credits := x.count + x.opened, recovers := recovers } s
    let s := s.modQueue q (fun x => { x.emptied with
      gen := (x.gen + 1) % 16, resets := x.resets + 1, discard := true, st := if full then .suspended else .active })
    let s := reportReset code q src held s
    let s := if full then reportQueue 0x3306 q src s else s
    tellWatcher q x.count s

/-- The tundish stops (R266): the sprue answers for it. -/
def tundishStop (q src : Nat) (s : State) : State :=
  closePort 10 10 (reportQueue 0x4301 q src (s.modTun (fun t => { t with stopped := true })))

/-- What the checks of a message of initiator `src` found, before the message takes effect. -/
def tundishCheck (q src : Nat) (ev : TunEv) (s : State) : State :=
  match ev with
  | .clean => s
  | .correctedPool => reportQueue 0x1301 q src s
  | .correctedDesc => reportQueue 0x1302 q src s
  | .pointers => queueReset q 0x2301 src s
  | .link => queueReset q 0x3302 src s
  | .fatal => tundishStop q src s

/-! ### Deep queues (R204) -/

/-- The cells that may move next: they follow the front, which keeps 16 cells while the middle is empty (log 28). -/
def Queue.spillCells (x : Queue) : List PoolCell := ((if x.mid.isEmpty then x.front.drop 16 else x.back)).take 8

/-- Eight full, committed cells. -/
def Queue.canSpill (x : Queue) : Bool :=
  let cs := x.spillCells
  cs.length = 8 && cs.all (fun c => c.words.length = 8) && !cs.any (fun c => ((trimCells x.opened x.tailCells.reverse).2).contains c.idx) &&
    (match (trimCells x.opened x.tailCells.reverse).1.reverse.find? (fun c => cs.any (fun d => d.idx = c.idx) && c.words.length < 8) with
     | some _ => false
     | none => true)

/-- Begin the spill of eight cells into block `b`: the words of its four lines and its link entry are written (R204, R792). -/
def startSpill (q : Nat) (x : Queue) (s : State) : State :=
  let (b, s) := allocBlock s
  let ws := x.spillCells.flatMap (·.words)
  let line (k : Nat) : List NWord := ((ws.drop (16 * k)).take 16).map (fun w => { d := w.d, p := w.p })
  let s := s.modQueue q (fun x => { x with moving := some (b, x.spillCells.map (·.idx)) })
  let s := (List.range 4).foldl (fun s k => deepRequest (deepSpillMark q + k) 0 (.wr (blockAddr s b + 64 * k) 0xF 0xF (line k)) s) s
  deepRequest (deepSpillMark q + 4) 0 (.wr (linkAddr s b) 0xF 0xF (linkWords nullPtr 1 q x.gen ws)) s

/-- Begin the refill from the oldest block: its four lines and its link entry are read (R204, R792). -/
def startRefill (q b : Nat) (s : State) : State :=
  let s := s.modQueue q (fun x => { x with refilling := true })
  let s := (List.range 4).foldl (fun s k => deepRequest (deepRefillMark q + k) 0 (.rd (blockAddr s b + 64 * k) 16) s) s
  deepRequest (deepRefillMark q + 4) 0 (.rd (linkAddr s b) 8) s

/-- Start a spill and a refill where the queue's fill calls for them. -/
def deepMoves (q : Nat) (s : State) : State :=
  let x := s.queue q
  if x.st ≠ .active || !x.deep then s else
  let s := if x.limit - 24 < x.onDieCells && x.moving.isNone && x.canSpill then startSpill q x s else s
  match x.mid with
  | b :: _ => if x.front.length < 16 && !x.refilling then startRefill q b s else s
  | [] => s

/-- Abandon a spill in flight: the block returns to FREE. -/
def abandonMove (q : Nat) (s : State) : State :=
  match (s.queue q).moving with
  | some (b, _) => (freeBlock (dropDeep (deepSpillMark q) s) b).modQueue q (fun x => { x with moving := none })
  | none => s

/-- Write NEXT of the last block of the middle, when a further one is linked behind it (R792). -/
def linkBehind (q b : Nat) (s : State) : State :=
  match (s.queue q).mid.getLast? with
  | some m => deepRequest 0 0 (.wr (linkAddr s m) 0xF 0xF [{ d := blockPtr b, p := false }]) s
  | none => s

/-- The block is linked into the middle and its eight on-die cells are freed. -/
def linkBlock (q b : Nat) (cs : List Nat) (s : State) : State :=
  freeCells cs ((linkBehind q b s).modQueue q (fun x =>
    if x.mid.isEmpty then
      { x with moving := none, mid := [b], front := x.front.takeWhile (fun c => !cs.contains c.idx),
               back := (x.front.dropWhile (fun c => !cs.contains c.idx)).filter (fun c => !cs.contains c.idx) }
    else { x with moving := none, mid := x.mid ++ [b], back := x.back.filter (fun c => !cs.contains c.idx) }))

/-- DEEP_SPILL_ANSWER (R204, R792): every write of the spill is answered; any status but OK abandons the move. `ev` is what the checks of the
queue's words find (R249). -/
def execDeepSpillAnswer (q : Nat) (ev : TunEv) (s : State) : Result :=
  match (s.queue q).moving with
  | none => ok s
  | some (b, cs) =>
    let good := (List.range 5).all (fun k => match deepAnswer s (deepSpillMark q + k) with
      | some (.wack .ok _) => true
      | _ => false)
    let s1 := tundishCheck q 0 ev s
    event (s.tunRuns && deepAnswered s (deepSpillMark q)) s
      (if s1.tun.stopped || (s1.queue q).moving.isNone then s1
       else grantWithheld q (deepMoves q
         (if good then linkBlock q b cs (dropDeep (deepSpillMark q) s1) else abandonMove q s1)))

/-- The words of a read of the tundish, with poison where the read was not answered OK (R393). -/
def deepWords (s : State) (mark n : Nat) : List NWord :=
  match deepAnswer s mark with
  | some (.rdata .ok ws) => (ws ++ List.replicate n (⟨0, true⟩ : NWord)).take n
  | _ => List.replicate n ⟨0, true⟩

/-- The words of a deep block as the refill has read them, with the tags of its link entry. -/
def blockWords (s : State) (q : Nat) : List QWord :=
  let link := deepWords s (deepRefillMark q + 4) 8
  let data := (List.range 4).flatMap (fun k => deepWords s (deepRefillMark q + k) 16)
  (data.zipIdx).map (fun e =>
    let t := (link.getD (2 + e.2 / 16) ⟨0, true⟩).d
    { d := e.1.d, l := t.getLsbD (2 * (e.2 % 16)), i := t.getLsbD (2 * (e.2 % 16) + 1), p := e.1.p })

/-- Eight new cells filled with the words of a block. -/
def fillCells (gen : Nat) : Nat → List QWord → State → List PoolCell × State
  | 0, _, s => ([], s)
  | n + 1, ws, s =>
    let (i, s) := allocCell s
    let (cs, s) := fillCells gen n (ws.drop 8) s
    ({ idx := i, gen := gen, words := ws.take 8 } :: cs, s)

/-- The link entry that a refill has read carries no poison and names this queue, its generation and QUEUED. -/
def linkGood (q : Nat) (x : Queue) (link : List NWord) : Bool :=
  let w := (link.getD 1 ⟨0, true⟩).d
  link.all (fun e => !e.p) && (w.extractLsb' 8 18).toNat = q && (w.extractLsb' 26 4).toNat = x.gen && (w.extractLsb' 30 2).toNat = 1

/-- The block that NEXT of a link entry names (R200). -/
def nextBlockOf (link : List NWord) : Nat := (link.getD 0 ⟨0, false⟩).d.toNat % 2 ^ 31 / 8

/-- The words of the oldest block `b` are stored at the end of the front and the block is freed; NEXT names the block that becomes the oldest of a middle
that still holds one (R204, R792). -/
def refillFront (q b : Nat) (rest : List Nat) (s : State) : State :=
  let next := nextBlockOf (deepWords s (deepRefillMark q + 4) 8)
  let (cs, s) := fillCells (s.queue q).gen 8 (blockWords s q) s
  let s := freeBlock (dropDeep (deepRefillMark q) s) b
  s.modQueue q (fun x =>
    if rest.isEmpty then { x with refilling := false, mid := [], front := x.front ++ cs ++ x.back, back := [] }
    else { x with refilling := false, mid := next :: rest.drop 1, front := x.front ++ cs })

/-- DEEP_REFILL_ANSWER (R204, R792): the reads of the oldest block and of its link entry are answered. A link entry that is poisoned, was not
answered OK or does not match the queue resets it (R251). -/
def execDeepRefillAnswer (q : Nat) (ev : TunEv) (s : State) : Result :=
  match (s.queue q).mid with
  | [] => ok s
  | b :: rest =>
    let s1 := tundishCheck q 0 ev s
    event (s.tunRuns && (s.queue q).refilling && deepAnswered s (deepRefillMark q)) s
      (if s1.tun.stopped || !(s1.queue q).refilling then s1
       else if !linkGood q (s.queue q) (deepWords s (deepRefillMark q + 4) 8) then queueReset q 0x3302 0 s1
       else grantWithheld q (deepMoves q (refillFront q b rest s1)))

/-! ### Pushes -/

/-- Rewind the open packet (R235): its cells free, its words slag and their credits returned at once. -/
def rewindOpen (q : Nat) (s : State) : State :=
  let x := s.queue q
  if x.opened = 0 then s else
  let (keep, freed) := trimCells x.opened x.tailCells.reverse
  let y := { x.setTail keep.reverse with opened := 0 }
  returnCredits q x.opened (addSlag x.opened (freeCells freed (s.modQueue q (fun _ => y))))

/-- Append a word to the queue's tail. -/
def storeWord (q : Nat) (w : QWord) (s : State) : State :=
  let x := s.queue q
  match x.tailCells.reverse with
  | c :: r =>
    if c.words.length < 8 then
      s.modQueue q (fun x => { x.setTail (r.reverse ++ [{ c with words := c.words ++ [w] }]) with opened := x.opened + 1 })
    else
      let (i, s) := allocCell s
      s.modQueue q (fun x => { x.setTail (x.tailCells ++ [{ idx := i, gen := x.gen, words := [w] }]) with opened := x.opened + 1 })
  | [] =>
    let (i, s) := allocCell s
    s.modQueue q (fun x => { x.setTail [{ idx := i, gen := x.gen, words := [w] }] with opened := x.opened + 1 })

/-- The packet's last word is stored: its words commit (R231). -/
def commitPacket (q : Nat) (s : State) : State :=
  s.modQueue q (fun x => { x with count := x.count + x.opened, opened := 0 })

/-- The word or packet fails (R234, R237): rewind, whose credits go back in one CREDIT, and discard the failing word, whose credit is coalesced, and
the rest of the packet (R226). -/
def failPacket (q src : Nat) (s : State) : State :=
  let s := accrueCredits q 1 (addSlag 1 (rewindOpen q s))
  reportQueue 0x3304 q src (s.modQueue q (fun x => { x with discard := true }))

/-- A word that has used its credit arrives at an ACTIVE queue. -/
def acceptWord (src q : Nat) (sop : Bool) (w : QWord) (s : State) : State :=
  let s := if sop then (rewindOpen q s).modQueue q (fun x => { x with discard := false }) else s
  let x := s.queue q
  if x.discard || (!sop && x.opened = 0) then accrueCredits q 1 (addSlag 1 s)
  else if w.p || 4096 ≤ x.opened then failPacket q src s
  else
    let s := storeWord q w s
    if w.l then commitPacket q s else s

/-- A word arrives while CREDIT_OUT is 0 (R228). -/
def violation (src q : Nat) (s : State) : State :=
  let s := if s.tun.violLogged then s else reportQueue 0x3303 q src s
  s.modTun (fun t => { t with creditViol := t.creditViol + 1, violLogged := true })

/-- One word of a PUSH (R211, R228). -/
def pushWord (src q : Nat) (sop : Bool) (w : QWord) (s : State) : State :=
  let x := s.queue q
  if x.creditOut = 0 then violation src q s else
  let s := s.modQueue q (fun x => { x with creditOut := x.creditOut - 1 })
  match x.st with
  | .active => acceptWord src q sop w s
  | .suspended => addSlag 1 (s.modQueue q (fun x => { x with sweepHeld := x.sweepHeld + 1 }))
  | _ => addSlag 1 s

/-- The words of a PUSH; each later word counts as sent with SOP = 1 exactly where it follows L = 1 (R233). -/
def pushWords (src q : Nat) : Bool → List QWord → State → State
  | _, [], s => s
  | sop, w :: ws, s => pushWords src q w.l ws (pushWord src q sop w s)

/-- A push that is refused as a whole (R211, R220). -/
def pushRefused (x : Queue) (src : Nat) : Bool := x.st = .disabled || (x.st = .active && x.producer ≠ src)

/-- What the tundish does with a PUSH. -/
def tunPush (src q : Nat) (sop : Bool) (ws : List QWord) (s : State) : State :=
  if pushRefused (s.queue q) src then s.modTun (fun t => { t with protoRefused := t.protoRefused + 1 })
  else
    let before := (s.queue q).count
    grantWithheld q (deepMoves q (tellWatcher q before (pushWords src q sop ws s)))

/-- A flush or pop of a queue begins its cycle, or falls in that of the flush before it: CREDIT_OUT as the cycle began is kept for a push of the same
cycle (R247). -/
def beginTunCycle (q : Nat) (s : State) : State :=
  s.modTun (fun t => { t with cycle := match t.cycle with
    | some (k, n) => if k = q then some (k, n) else some (q, (s.queue q).creditOut)
    | none => some (q, (s.queue q).creditOut) })
def endTunCycle (s : State) : State := s.modTun (fun t => { t with cycle := none })

/-- A push of the cycle in which the queue was last flushed or popped is checked against CREDIT_OUT as it stood at the cycle's start (R247, R248): so
many of its words find a credit, and the others none, whatever the cycle has granted. -/
def pushSameCycle (src q : Nat) (sop : Bool) (ws : List QWord) (s : State) : State :=
  match s.tun.cycle with
  | some (k, n) =>
    if k ≠ q || pushRefused (s.queue q) src then tunPush src q sop ws s
    else (ws.drop n).foldl (fun s _ => violation src q s) (tunPush src q sop (ws.take n) s)
  | none => tunPush src q sop ws s

/-- PUSH (R231-R238): a message of initiator `src` for queue `q`, the oldest of its class at the tundish, is applied. Of its words `corrected` are corrected
as they arrive and `bad` names those that cannot be (R398); `same` says that it falls in the cycle of the queue's last flush or pop. -/
def execPush (src q : Nat) (sop : Bool) (ws : List QWord) (corrected : Nat) (bad : List Nat) (ev : TunEv) (same : Bool) (s : State) : Result :=
  let bad' := bad.filter (fun k => decide (k < ws.length))
  let vs := (ws.zipIdx).map (fun e => { e.1 with p := e.1.p || bad'.contains e.2 })
  let s0 := s.consume tundishNode src 0 (.push q sop ws)
  let s1 := tundishCheck q src ev (dataChecks tundishNode src 0 corrected bad'.length s0)
  event (s.tunRuns && s.atFront tundishNode src 0 (.push q sop ws)) s
    (if s1.tun.stopped then s1 else endTunCycle (if same then pushSameCycle src q sop vs s1 else tunPush src q sop vs s1))

/-- REWIND (R234): the queue's producer abandons its open packet. -/
def execRewind (src q : Nat) (ev : TunEv) (s : State) : Result :=
  let s1 := tundishCheck q src ev (s.consume tundishNode src 0 (.rewind q))
  let x := s1.queue q
  event (s.tunRuns && s.atFront tundishNode src 0 (.rewind q)) s
    (if s1.tun.stopped then s1
     else endTunCycle (if pushRefused x src then s1.modTun (fun t => { t with protoRefused := t.protoRefused + 1 })
       else if x.st = .active then rewindOpen q s1 else s1))

/-! ### Pops -/

/-- Committed words that stand at the head, on-die. -/
def Queue.avail (x : Queue) : Nat := if x.mid.isEmpty then x.count else cellWords x.front - x.headOfs

/-- The next `n` words at the head. -/
def Queue.headWords (x : Queue) (n : Nat) : List QWord := ((x.front.flatMap (·.words)).drop x.headOfs).take n

/-- Take `n` words from the head: the cells whose eight words have all been taken are freed. A cell partly used stays, and the next word
follows in it (R201). A spill whose cells the front has reached is abandoned (R204). -/
def takeWords (q n : Nat) (s : State) : State :=
  let x := s.queue q
  let ofs := x.headOfs + n
  let gone := (x.front.take (ofs / 8)).map (·.idx)
  let reached := ((x.front.take (ofs / 8 + 1)).map (·.idx))
  let s := if (match x.moving with
      | some (_, cs) => reached.any cs.contains
      | none => false) then abandonMove q s else s
  freeCells gone (s.modQueue q (fun x => { x with count := x.count - n, front := x.front.drop (ofs / 8), headOfs := ofs % 8 }))

/-- Mark the words found uncorrectable (R243). -/
def markBad (bad : List Nat) (ws : List QWord) : List QWord :=
  (ws.zipIdx).map (fun e => { e.1 with p := e.1.p || bad.contains e.2 })

/-- What the tundish answers to a POP, and the state after it; `none` where the answer waits for a refill (R242). -/
def tunPop (src q max : Nat) (bad : List Nat) (s : State) : Option (PopStatus × List QWord × State) :=
  let x := s.queue q
  if x.st ≠ .active then some (.empty, [], s)
  else if x.consumer ≠ src then some (.refused, [], s.modTun (fun t => { t with protoRefused := t.protoRefused + 1 }))
  else if x.count = 0 then
    if x.deep then some (.idle, [{ d := x.idleWord, l := x.idleL, i := true, p := false }], s) else some (.empty, [], s)
  else
    let n := min max x.avail
    if n = 0 then none else
    let ws := markBad bad (x.headWords n)
    let s := takeWords q n s
    let s := (ws.filter (·.p)).foldl (fun s _ => reportQueue 0x3301 q src s) s
    let s := tellWatcher q x.count (accrueCredits q n s)
    some (.ok, ws, grantWithheld q (deepMoves q s))

/-- POP (R239-R243): a POP of up to `max` words, the oldest of its source at the tundish, is answered under its tag; one that waits for a refill stays
where it is (R242). `bad` names the pool words found uncorrectable. -/
def execPop (src q max tag : Nat) (bad : List Nat) (ev : TunEv) (s : State) : Result :=
  let s1 := tundishCheck q src ev (beginTunCycle q (s.consume tundishNode src 0 (.pop q max)))
  event (s.tunRuns && s.tagAtFront tundishNode src 0 tag (.pop q max)) s
    (if s1.tun.stopped then s1 else
     match tunPop src q max bad s1 with
     | some (st, ws, s2) => s2.answer tundishNode src 0 tag (.popResp st ws)
     | none => s)

/-- CR_WAIT_EXPIRY (R226): the credits that have waited CR_WAIT are sent. -/
def execCrWaitExpiry (q : Nat) (s : State) : Result :=
  event (s.tunRuns && 0 < (s.queue q).accrued) s (sendAccrued q s)

/-! ### Revocation and watches -/

/-- A record of cells or blocks of queue `q` that await a sweep. -/
def holdsCells (q : Nat) (r : Reclaim) : Bool := r.q = q && (!r.cells.isEmpty || !r.blocks.isEmpty)

/-- The last record of the queue in a list takes its reservation. -/
def holdFor (q onDie deep : Nat) (rs : List Reclaim) : List Reclaim :=
  let keep := (rs.reverse.takeWhile (fun r => !holdsCells q r)).reverse
  match rs.reverse.dropWhile (fun r => !holdsCells q r) with
  | r :: before => before.reverse ++ [{ r with onDie := r.onDie + onDie, deepRes := r.deepRes + deep }] ++ keep
  | [] => rs

/-- The reservation of a queue that leaves REVOKING is released, or, where cells of it await a sweep, held until the last of them has been swept
(R210, R217). -/
def releaseQueue (q : Nat) (s : State) : State :=
  let x := s.queue q
  let t := s.tun
  if !(t.sweeping ++ t.waiting).any (holdsCells q) then s.modQueue q (fun x => { x with onDie := 0, deepRes := 0 })
  else
    let later := t.waiting.any (holdsCells q)
    (s.modTun (fun t => { t with
      sweeping := if later then t.sweeping else holdFor q x.onDie x.deepRes t.sweeping
      waiting := if later then holdFor q x.onDie x.deepRes t.waiting else t.waiting })).modQueue q
        (fun x => { x with onDie := 0, deepRes := 0, oldOnDie := x.oldOnDie + x.onDie, oldDeep := x.oldDeep + x.deepRes })

/-- REVOKE_ACK (R229): CREDIT_OUT becomes 0 and the queue DISABLED. -/
def execRevokeAck (src q n : Nat) (ev : TunEv) (s : State) : Result :=
  let s1 := tundishCheck q src ev (s.consume tundishNode src 0 (.revokeAck q n))
  let x := s.queue q
  event (s.tunRuns && s.atFront tundishNode src 0 (.revokeAck q n)) s
    (if s1.tun.stopped || x.st ≠ .revoking || x.producer ≠ src then s1
     else (releaseQueue q s1).modQueue q (fun x => { x with st := .disabled, creditOut := 0, withheld := 0, accrued := 0, sweepHeld := 0 }))

/-- WATCH_SET (R244): a gate registers or clears watch `i`. A queue holds the index of one watch: of two of one gate that name it the later is told, and
clearing either clears both (log 28, DESIGN CHOICE). -/
def execWatchSet (src q i : Nat) (en : Bool) (s : State) : Result :=
  let s1 := s.consume tundishNode src 0 (.watchSet q i en)
  let x := s.queue q
  let free := match x.watcher with
    | some (g, _) => g = src
    | none => true
  let mine := x.consumer = src && free
  let s2 := if !mine then s1 else s1.modQueue q (fun x => { x with watcher := if en then some (src, i) else none })
  event (s.tunRuns && s.atFront tundishNode src 0 (.watchSet q i en)) s (s2.answer tundishNode src 0 0 (.watchState q i (mine && x.count ≠ 0)))

/-! ### Producers' gates -/

/-- GATE_WATCH_STATE (R98): a flask gate learns whether the queue of watch `ix` is empty. -/
def execGateWatchState (i q ix : Nat) (ne : Bool) (s : State) : Result :=
  event (i < 72 && s.atFront i tundishNode 0 (.watchState q ix ne)) s ((s.consume i tundishNode 0 (.watchState q ix ne)).modFlask (s.nodeFlask i) (fun f =>
    { f with watchNe := Tab.set false f.watchNe ix ne }))

/-- GATE_PUSH_SEND (R258): the words gathered for a queue leave in one PUSH. -/
def execGatePushSend (i q : Nat) (s : State) : Result :=
  event (!(s.producer i q).gather.isEmpty) s (gateSend i q s)

/-! ### Enabling and disabling -/

/-- Initiators that push and pop (R793). -/
def pushesAndPops (n : Nat) : Bool := n ≤ 88 && n ≠ tundishNode

/-- The fields of QCFG that a write sets (R214). -/
def qcfgFields (v : Word) (x : Queue) : Queue :=
  { x with deep := v.getLsbD 30, idleL := v.getLsbD 29, producer := (v.extractLsb' 14 7).toNat, consumer := (v.extractLsb' 7 7).toNat }

/-- Check 6 of a QCFG value (R793). -/
def qcfgBad (v : Word) : Option Word :=
  if pushesAndPops (v.extractLsb' 14 7).toNat && pushesAndPops (v.extractLsb' 7 7).toNat then none else some abortValue

/-- A QCFG value changes none of the fields that R215 fixes while the queue is not DISABLED. -/
def qcfgSame (v : Word) (x : Queue) : Bool :=
  v.getLsbD 30 = x.deep && (v.extractLsb' 14 7).toNat = x.producer && (v.extractLsb' 7 7).toNat = x.consumer

/-- Enabled queues of a producer. -/
def producedBy (s : State) (i : Nat) : Nat :=
  (s.tun.queues.filter (fun e => e.2.st ≠ .disabled && e.2.producer = i)).length

/-- Cells, blocks and deep queues in use (R217, R263). -/
def poolReserved (s : State) : Nat := s.tun.queues.foldl (fun n e => n + e.2.onDie + e.2.oldOnDie) 0
def deepReserved (s : State) : Nat := s.tun.queues.foldl (fun n e => n + e.2.deepRes + e.2.oldDeep) 0
def deepEnabled (s : State) : Nat := (s.tun.queues.filter (fun e => e.2.st ≠ .disabled && e.2.deep)).length

/-- POOL_SIZE (R198). -/
abbrev poolSize : Nat := 524288

/-- The reservation an enable makes (R217). -/
def wantsCells (s : State) (x : Queue) : Nat := if x.deep then s.settingN 0x3200 0x10 else (x.budget + 7) / 8 + 1
def wantsBlocks (x : Queue) : Nat := if x.deep then (x.budget + 63) / 64 + 1 else 0

/-- Abort codes of R206, R217 and R221. -/
abbrev abortProducer : Word := 0x06008301#32
abbrev abortDeepQueues : Word := 0x06008302#32
abbrev abortPool : Word := 0x06008303#32

/-- Why an enable of a DISABLED queue is refused, in the order of R625. -/
def enableRefused (s : State) (x : Queue) : Option Word :=
  if x.budget = 0 then some abortBelow
  else if x.producer ≠ 80 && x.producer ≠ 88 && 256 ≤ producedBy s x.producer then some abortProducer
  else if x.deep && 4096 ≤ deepEnabled s then some abortDeepQueues
  else if poolSize < poolReserved s + wantsCells s x || (x.deep && s.settingN 0x3200 9 < deepReserved s + wantsBlocks x) then
    some abortPool
  else if x.deep && !s.tun.deepReady then some abortState
  else none

/-- The queue leaves DISABLED: its reservation is made and its budget granted (R210, R225). -/
def enableQueue (q : Nat) (x : Queue) (s : State) : State :=
  grantWithheld q (s.modQueue q (fun _ => { x with
    st := .active, limit := s.settingN 0x3200 0x10, onDie := wantsCells s x, deepRes := wantsBlocks x, withheld := x.budget, accrued := 0, sweepHeld := 0,
    creditOut := 0, discard := false }))

/-- EN written 1 (R210, R215). -/
def queueEnable (q : Nat) (v : Word) (s : State) : Except Word State :=
  let x := s.queue q
  if s.tun.stopped then .error abortState else
  match x.st with
  | .disabled =>
    let y := qcfgFields v x
    match enableRefused s y with
    | some code => .error code
    | none => .ok (enableQueue q y s)
  | .revoking => .error abortState
  | _ => need (qcfgSame v x) abortState (.ok (s.modQueue q (fun x => { x with idleL := v.getLsbD 29 })))

/-- Credits of a queue's resets are not returned once every credit is withdrawn (R245). -/
def forgetReclaim (q : Nat) (s : State) : State :=
  let drop (r : Reclaim) : Reclaim := if r.q = q then { r with credits := 0 } else r
  s.modTun (fun t => { t with sweeping := t.sweeping.map drop, waiting := t.waiting.map drop })

/-- Send REVOKE to the producer; the queue is REVOKING. -/
def revokeQueue (q : Nat) (s : State) : State :=
  (forgetReclaim q (s.modQueue q (fun x => { x with st := .revoking, accrued := 0, withheld := 0, sweepHeld := 0 }))).answer
    tundishNode (s.queue q).producer 0 0 (.revoke q)

/-- EN written 0 (R210, R215). -/
def queueDisable (q : Nat) (v : Word) (s : State) : Except Word State :=
  let x := s.queue q
  if s.tun.stopped then .error abortState else
  match x.st with
  | .disabled => .ok (s.modQueue q (qcfgFields v))
  | _ => need (qcfgSame v x) abortState (.ok (
    let s := s.modQueue q (fun x => { x with idleL := v.getLsbD 29 })
    match x.st with
    | .active => revokeQueue q (flushList q s)
    | .suspended => revokeQueue q s
    | _ => s))

/-- The checks of the queue's words come first (R249); one that stops the tundish leaves the write without further effect. -/
def queueChecked (q : Nat) (ev : TunEv) (act : State → Except Word State) (s : State) : Except Word State :=
  if s.tun.stopped then act s
  else
    let s1 := tundishCheck q 0 ev s
    if s1.tun.stopped then .ok s1 else act s1

/-- A write of QCFG. -/
def qcfgApply (q : Nat) (v : Word) (s : State) : Except Word State :=
  if v.getLsbD 31 then queueEnable q v s else queueDisable q v s

/-- The queue a path's QUEUE_SELECT names. -/
def queueSelected (s : State) (path : Nat) : Nat := s.selector path 0x3210 0 % 2 ^ 18

/-- QUEUE_ENABLE (R210): `path` writes QCFG with EN = 1. -/
def execQueueEnable (path : Nat) (v : Word) (ev : TunEv) (s : State) : Result :=
  let v := v ||| 0x80000000#32
  let q := queueSelected s path
  rwtCommand path q 0x3211 1 2 (v.setWidth 64) (qcfgBad v) (queueChecked q ev (queueEnable q v)) s

/-- QUEUE_DISABLE (R210): `path` writes QCFG with EN = 0. -/
def execQueueDisable (path : Nat) (v : Word) (ev : TunEv) (s : State) : Result :=
  let v := v &&& 0x7FFFFFFF#32
  let q := queueSelected s path
  rwtCommand path q 0x3211 1 2 (v.setWidth 64) (qcfgBad v) (queueChecked q ev (queueDisable q v)) s

/-- A write of FLUSH (R212, R245): 1 flushes an ACTIVE queue and returns the credits of its words. -/
def flushQueue (q : Nat) (v : Word) (s : State) : Except Word State :=
  let x := s.queue q
  need (!s.tun.stopped) abortState (.ok
    (if v = 1 && x.st = .active then returnCredits q (x.count + x.opened) (flushList q (beginTunCycle q (endTunCycle s))) else s))

/-- FLUSH (R245). -/
def execFlush (path : Nat) (v : Word) (ev : TunEv) (s : State) : Result :=
  let q := queueSelected s path
  dictCommand path 0x3211 5 1 (queueChecked q ev (flushQueue q v)) s

/-- BUDGET (R212, R215), IDLE_WORD, and the deep region (R209). -/
def budgetApply (q : Nat) (v : Word) (s : State) : Except Word State :=
  need ((s.queue q).st = .disabled) abortState (.ok (s.modQueue q (fun x => { x with budget := v.toNat })))
def idleWordApply (q : Nat) (v : Word) (s : State) : Except Word State :=
  .ok (s.modQueue q (fun x => { x with idleWord := v }))
def deepBaseApply (v : DWord) (s : State) : Except Word State :=
  need (deepEnabled s = 0) abortState (.ok (s.putSetting 0x3200 7 v))
/-- DEEP_BLOCKS is written: every block is FREE as the link table is initialised anew, those that a disabled queue left to a sweep among them. -/
def deepBlocksApply (v : Word) (s : State) : Except Word State :=
  need (deepEnabled s = 0) abortState (.ok ((s.putSetting 0x3200 9 (v.setWidth 64)).modTun (fun t =>
    let swept (r : Reclaim) : Reclaim := { r with blocks := [] }
    { t with deepInit := v ≠ 0, deepReady := false, initAt := 0, freeBlocks := [], nextBlock := 0
             sweeping := t.sweeping.map swept, waiting := t.waiting.map swept })))

/-- Check 6 of DEEP_BLOCKS. -/
def deepBlocksBad (v : Word) : Option Word := if 268435455 < v.toNat then some abortAbove else none

/-- DEEP_BLOCKS_WRITE (R209): the link table's initialisation starts for a non-zero value. -/
def execDeepBlocksWrite (path : Nat) (v : Word) (s : State) : Result :=
  rwtCommand path 0 0x3200 9 2 (v.setWidth 64) (deepBlocksBad v) (deepBlocksApply v) s

/-- Pairs of deep link entries, which share a line. -/
def linkPairs (s : State) : Nat := (s.settingN 0x3200 9 + 1) / 2

/-- Words of pair `k`: the last entry of an odd number stands alone. -/
def pairWords (s : State) (k : Nat) : Nat := if 2 * k + 2 ≤ s.settingN 0x3200 9 then 16 else 8

/-- DEEP_INIT_COMPLETE (R209): every link entry has been written FREE, and the writes are answered. -/
def execDeepInitComplete (s : State) : Result :=
  event (s.tunRuns && s.tun.deepInit && decide (linkPairs s ≤ s.tun.initAt) && deepDone s initMark) s
    (s.modTun (fun t => { t with deepInit := false, deepReady := true }))

/-! ### The sweep (R252, R253) -/

/-- One reset is reclaimed: its cells and blocks are FREE, its credits returned and what was reserved for it released; a SUSPENDED queue is ACTIVE
again. -/
def reclaimOne (s : State) (r : Reclaim) : State :=
  let s := freeCells r.cells (r.blocks.foldl freeBlock s)
  let held := (s.queue r.q).sweepHeld
  let s := s.modQueue r.q (fun x =>
    { x with resets := x.resets - 1, st := if x.st = .suspended then .active else x.st, sweepHeld := 0
             oldOnDie := x.oldOnDie - r.onDie, oldDeep := x.oldDeep - r.deepRes })
  let s := returnCredits r.q (r.credits + held) s
  if r.recovers then recoveryEnds 0x2301 4 r.q true s else s

/-- TUNDISH_SWEEP_COMPLETE (R252): every link entry has been read; the next sweep starts at once for resets that occurred during this one. `ev` is what
the sweep's reads find: in a link entry of queue `q`, or in the sweep's own state (R249, R265). -/
def execTundishSweepComplete (q : Nat) (ev : TunEv) (s : State) : Result :=
  let s1 := tundishCheck q 0 ev s
  event (s.tunRuns && !s.tun.sweeping.isEmpty && decide (linkPairs s ≤ s.tun.sweepAt) && deepDone s sweepMark) s
    (if s1.tun.stopped then s1
     else (s1.tun.sweeping.foldl reclaimOne s1).modTun (fun t => { t with sweeping := t.waiting, waiting := [], sweepAt := 0 }))

/-! ### Entries (R212, R263) -/

/-- HEAD and TAIL. -/
def Queue.headPtr (x : Queue) : Word :=
  match x.front, x.mid with
  | c :: _, _ => BitVec.ofNat 32 c.idx
  | [], b :: _ => blockPtr b
  | [], [] => nullPtr
def Queue.tailPtr (x : Queue) : Word :=
  match x.tailCells.getLast?, x.mid.getLast? with
  | some c, _ => BitVec.ofNat 32 c.idx
  | none, some b => blockPtr b + 7
  | none, none => nullPtr
def Queue.tailOfs (x : Queue) : Nat :=
  match x.tailCells.getLast? with
  | some c => c.words.length % 8
  | none => 0

/-- QCFG as read. -/
def Queue.qcfg (x : Queue) : Word :=
  let st := match x.st with
    | .disabled => 0 | .active => 1 | .revoking => 2 | .suspended => 3
  let b (c : Bool) (n : Nat) : Nat := if c then 2 ^ n else 0
  let (wd, w) := match x.watcher with
    | some (g, _) => (true, g)
    | none => (false, 0)
  BitVec.ofNat 32 (b (x.st = .active || x.st = .suspended) 31 + b x.deep 30 + b x.idleL 29 + b wd 28 + x.gen * 2 ^ 24 + st * 2 ^ 21 +
    x.producer * 2 ^ 14 + x.consumer * 2 ^ 7 + w)

/-- QUEUE_DESC of queue `q` (R212, R216, R264). -/
def queueRead (s : State) (q sub : Nat) : DWord :=
  let x := s.queue q
  match sub with
  | 1 => x.qcfg.setWidth 64
  | 2 => BitVec.ofNat 64 x.budget
  | 3 => BitVec.ofNat 64 x.count
  | 4 => x.idleWord.setWidth 64
  | 6 => BitVec.ofNat 64 x.creditOut
  | 8 => x.headPtr.setWidth 64
  | 9 => x.tailPtr.setWidth 64
  | _ => BitVec.ofNat 64 (x.headOfs * 2 ^ 29 + x.tailOfs * 2 ^ 26 + x.opened * 2 ^ 13)

/-- Cells and blocks by state (R255): what waits for a sweep, what the open packets hold alone, and the rest. -/
def reclaiming (s : State) : Nat := (s.tun.sweeping ++ s.tun.waiting).foldl (fun n r => n + r.cells.length) 0
def deepReclaiming (s : State) : Nat := (s.tun.sweeping ++ s.tun.waiting).foldl (fun n r => n + r.blocks.length) 0
def openCells (s : State) : Nat := s.tun.queues.foldl (fun n e => n + e.2.openCells) 0
def usedCells (s : State) : Nat := s.tun.queues.foldl (fun n e => n + e.2.onDieCells) 0
def deepMoving (s : State) : Nat :=
  s.tun.queues.foldl (fun n e => n + (if e.2.moving.isSome then 1 else 0) + (if e.2.refilling then 1 else 0)) 0
def deepQueued (s : State) : Nat :=
  s.tun.queues.foldl (fun n e => n + (e.2.mid.length - (if e.2.refilling then 1 else 0))) 0

/-- The counters of the pools, by subindex of 0x3200 (R255, R263). -/
def poolCounter (s : State) (sub : Nat) : Nat :=
  match sub with
  | 0x02 => poolSize - usedCells s - reclaiming s
  | 0x03 => usedCells s - openCells s
  | 0x04 => openCells s
  | 0x05 => reclaiming s
  | 0x06 => poolReserved s
  | 0x0A => s.settingN 0x3200 9 - deepQueued s - deepReclaiming s - deepMoving s
  | 0x0B => deepQueued s
  | 0x0C => deepReclaiming s
  | 0x0D => deepMoving s
  | _ => deepReserved s

/-- Their subindices. -/
abbrev poolSubs : List Nat := [0x02, 0x03, 0x04, 0x05, 0x06, 0x0A, 0x0B, 0x0C, 0x0D, 0x0E]

/-- A pool counter as it reads before the first pour tick (R263). -/
def poolDefault (sub : Nat) : DWord := if sub = 2 then BitVec.ofNat 64 poolSize else 0

/-- The pour tick latches the pool counters (R256). -/
def latchPool (s : State) : State :=
  s.modTun (fun t => { t with pool := poolSubs.foldl (fun m sub => Tab.set (poolDefault sub) m sub (BitVec.ofNat 64 (poolCounter s sub))) t.pool })

/-- The next request of the initialisation, and of the sweep, for the link table (R209, R252): one stands in the gate at a time. -/
def linkTableMoves (s : State) : State :=
  let gate := (s.gate tundishNode).waiting
  let s := if s.tun.deepInit && s.tun.initAt < linkPairs s && gate.all (fun p => p.who ≠ initMark) then
      let k := s.tun.initAt
      (deepRequest initMark 1 (.wr (linkAddr s (2 * k)) 0xF 0xF (List.replicate (pairWords s k) { d := 0, p := false })) s).modTun
        (fun t => { t with initAt := t.initAt + 1 })
    else s
  if !s.tun.sweeping.isEmpty && s.tun.sweepAt < linkPairs s && gate.all (fun p => p.who ≠ sweepMark) then
    let k := s.tun.sweepAt
    (deepRequest sweepMark 1 (.rd (linkAddr s (2 * k)) (pairWords s k)) s).modTun (fun t => { t with sweepAt := t.sweepAt + 1 })
  else s

/-- What a pour tick does in the tundish while it runs. -/
def tundishTick (s : State) : State := if s.tunRuns then linkTableMoves (endTunCycle (latchPool s)) else s

/-- The global entries that are not stored. -/
def tunRead (s : State) (sub : Nat) : DWord :=
  let t := s.tun
  if poolSubs.contains sub then Tab.get (poolDefault sub) t.pool sub else
  match sub with
  | 0x01 => BitVec.ofNat 64 ((if t.stopped then 2 ^ 31 else 0) + (if t.deepInit then 2 else 0) + (if t.sweeping.isEmpty then 0 else 1))
  | 0x0F => BitVec.ofNat 64 (deepEnabled s)
  | 0x13 => t.slag
  | 0x15 => t.creditViol.setWidth 64
  | 0x16 => t.protoRefused.setWidth 64
  | 0x17 => t.queueResets.setWidth 64
  | n => s.setting 0x3200 n

/-- A read clears the RC entries (R12); after it the next violation is logged (R228). -/
def tunReadClear (sub : Nat) (t : Tundish) : Tundish :=
  match sub with
  | 0x13 => { t with slag := 0 }
  | 0x15 => { t with creditViol := 0, violLogged := false }
  | 0x16 => { t with protoRefused := 0 }
  | 0x17 => { t with queueResets := 0 }
  | _ => t

end Sys2Proof.Machine
end

