-- ==== Sys2Proof/Machine/Cupola.lean ====
section
/-! DEFINITION. The rows of Cupola (07_cupola_scheduler.md): the operations of a core's OP store, DONE and ATTN, dispatch,
expiries, input rings, completions, and its entries. -/

namespace Sys2Proof.Machine

/-! ### Faults of the tables (R368, R369) -/

/-- The flow of a thread's item, 0 without one. -/
def threadFlow (s : State) (t : Nat) : Nat :=
  match (s.thread t).item with
  | some n => match s.item n with
    | some i => itemFlow i.header
    | none => 0
  | none => 0

/-- A thread leaves whatever it does and becomes FAULTED; a cancel that waited for its boundary waits no more and takes effect (log 35). -/
def faultOut (t : Nat) (s : State) : State :=
  let s := dropBank t s
  let s := s.modCup (fun u => { u with sent := u.sent.filter (fun e => e.2 ≠ some t) })
  settleCancels (faultThread t (s.modThread t (fun x => { x with timeout := 0 })))

/-- An uncorrectable item word: the item is discarded and its service counts as ended. -/
def discardItem (n : Nat) (s : State) : State :=
  match s.item n with
  | none => s
  | some i =>
    let f := itemFlow i.header
    let s := reportAt 0x3401 5 (if i.st = .service then i.thread else 0) 0 (BitVec.ofNat 64 f) s
    if i.st = .service then
      let (g, s) := endService i.thread s
      assignMaybe g s
    else
      let s := s.modCup (fun c => { c with items := Tab.set none c.items n none })
      if i.st = .waiting then s
      else match itemsWhere s (fun j => j.st = .waiting && itemFlow j.header = f) with
        | (m, j) :: _ =>
          assignGroup (itemGroup j.header) (s.modCup (fun c => { c with items := Tab.set none c.items m (some { j with st := .eligible }) }))
        | [] => s

/-- Cupola stops; each pending OP store completes with OFFLINE. -/
def cupolaStopAll (s : State) : State :=
  (List.range 8).foldl (fun s c => match (s.core c).stall with
    | .fdispatch => lcRetire c (lcKind s c).2 (setResult c resOffline 0 (s.modCore c (fun k => { k with stall := .none })))
    | .cancel _ => lcRetire c (lcKind s c).2 (setResult c resOffline 0 (s.modCore c (fun k => { k with stall := .none })))
    | _ => s) (cupolaStop s)

/-- What the checks of an operation find, before it takes effect. -/
def cupCheck (ev : CupEv) (s : State) : State :=
  match ev with
  | .clean => s
  | .corrected => reportAt 0x1401 0 0 0 0 s
  | .item n => discardItem n s
  | .thread t => faultOut t (reportAt 0x3403 5 t (BitVec.ofNat 32 (s.thread t).home) (BitVec.ofNat 64 (threadFlow s t)) s)
  | .slot n =>
    let x := s.slotAt n
    let s := (reportAt 0x3404 6 n (BitVec.ofNat 32 x.waiter) 0 s).setSlot n .reset
    if x.st = .armed || x.st = .filled then
      faultOut x.waiter (s.modThread x.waiter (fun y => { y with tags := y.tags.filter (· ≠ n) }))
    else s
  | .link => cupolaStopAll s

/-! ### Operations of a core (R356-R358) -/

/-- ARGk of the current bank. -/
def LcCore.arg (k : LcCore) (i : Nat) : Word := Tab.get 0 (k.bank k.cur).args i

/-- An operation completes with RESULT and RVAL. -/
def opEnd (c len r : Nat) (rval : Word) (s : State) : State := lcRetire c len (setResult c r rval s)

/-- A store of a core to Cupola, of the kind given: the core's own checks come first (R272, R308), then those of the tables; a stopped Cupola answers
OFFLINE (R369). -/
def cupStore (c : Nat) (kind : LcKind) (lev : LcEv) (ev : CupEv) (act : Nat → State → State) (s : State) : Result :=
  lcRow c lev (fun i len => if i = kind then some (fun s =>
    let s := cupCheck ev s
    if !s.lcRuns c then s else if !s.cupRuns then opEnd c len resOffline 0 s else act len s) else none) s

/-- The OP store of a code at a core's program counter. -/
def opRow (c code : Nat) (lev : LcEv) (ev : CupEv) (act : Nat → State → State) (s : State) : Result := cupStore c (.cupOp code) lev ev act s

/-- POST (R326-R330, R351). -/
def opPost (c len : Nat) (s : State) : State :=
  let k := s.core c
  let (r, s) := cupPost (k.arg 0) ((List.range (fld (k.arg 5) 2 0)).map (fun j => k.arg (1 + j))) s
  opEnd c len r 0 s
def execPost (c : Nat) (lev : LcEv) (ev : CupEv) (s : State) : Result := opRow c 1 lev ev (opPost c) s

/-- SEND (R342, R345, R351). -/
def opSend (c len : Nat) (s : State) : State :=
  let k := s.core c
  if reservedTag (k.arg 0) then opEnd c len resInvalid 0 s else
  let (r, n, s) := cupSend (k.arg 0) (k.arg 1) s
  opEnd c len r (BitVec.ofNat 32 n) s
def execSend (c : Nat) (lev : LcEv) (ev : CupEv) (s : State) : Result := opRow c 2 lev ev (opSend c) s

/-- Operands written into x10-x13 of the running thread (R344). -/
def writeOperands (c : Nat) (ops : List Word) (s : State) : State :=
  s.modCore c (fun k => (List.range 4).foldl (fun k j => k.setReg (10 + j) (ops.getD j 0)) k)

/-- The store completes when the thread runs again: the core goes on behind it and the thread leaves (R324, R358). -/
def opLeave (c len : Nat) (s : State) : State := lcLeave c (lcRetire c len s)

/-- A tick count DELAY or a timeout may carry (R347). -/
abbrev maxTicks : Nat := 16777215

/-- WAIT_MATCH (R323, R343, R344): every tag HELD, and the thread goes on; otherwise it waits. -/
def opWait (c len : Nat) (s : State) : State :=
  let k := s.core c
  let tags := (List.range (fld (k.arg 0) 2 0)).map (fun j => k.arg (1 + j))
  let d := (k.arg 5).toNat
  match k.thread with
  | none => opEnd c len resState 0 s
  | some t =>
    match waitRefused s tags with
    | some r => opEnd c len r 0 (if r = resRefused then s.modCup (fun u => { u with matchRefused := u.matchRefused + 1 }) else s)
    | none =>
      if maxTicks < d then opEnd c len resInvalid 0 s else
      let (s, ns) := armTags t 0 tags s
      if ns.all (fun n => (s.slotAt n).st = .filled) then
        let ops := ns.map (fun n => (s.slotAt n).operand)
        opEnd c len resOk 0 (writeOperands c ops (ns.foldl (fun s n => s.setSlot n .reset) s))
      else
        let s := (opLeave c len s).modThread t (fun x => { x with st := .match', tags := ns })
        if d = 0 then s else enterDelay t d s
def execWaitMatch (c : Nat) (lev : LcEv) (ev : CupEv) (s : State) : Result := opRow c 3 lev ev (opWait c) s

/-- DELAY (R323, R347). -/
def opDelay (c len : Nat) (s : State) : State :=
  let k := s.core c
  let d := (k.arg 0).toNat
  match k.thread with
  | none => opEnd c len resState 0 s
  | some t =>
    if d = 0 || maxTicks < d then opEnd c len resInvalid 0 s
    else enterDelay t d ((opLeave c len s).modThread t (fun x => { x with st := .delay }))
def execDelay (c : Nat) (lev : LcEv) (ev : CupEv) (s : State) : Result := opRow c 4 lev ev (opDelay c) s

/-- YIELD (R323, R336). -/
def opYield (c len : Nat) (s : State) : State :=
  match (s.core c).thread with
  | none => opEnd c len resState 0 s
  | some t => toTail t .ready ((opLeave c len s).modThread t (fun x => { x with result := some (resOk, 0) }))
def execYield (c : Nat) (lev : LcEv) (ev : CupEv) (s : State) : Result := opRow c 5 lev ev (opYield c) s

/-- Cancel thread `t` at once, or ask for it at its boundary (R323); `none` where the state refuses it. -/
def cancelNowOrAsk (t : Nat) (s : State) : Option (Bool × Nat × State) :=
  if (s.thread t).st = .free || (s.thread t).st = .cancelled then none
  else if cancelOpen s t then
    let (rval, s1) := cancelWith t s
    some (true, rval, s1)
  else some (false, 0, s.modThread t (fun x => { x with cancelAsked := true }))

/-- CANCEL (R348, R349): a thread that cancels itself ends, and its store does not complete (R325). -/
def opCancel (c len : Nat) (s : State) : State :=
  let k := s.core c
  let t := fld (k.arg 0) 11 0
  if k.thread = some t then cancelNow t s
  else match cancelNowOrAsk t s with
    | none => opEnd c len resState 0 s
    | some (true, rval, s) => opEnd c len resOk (BitVec.ofNat 32 rval) s
    | some (false, _, s) => s.modCore c (fun k => { k with stall := .cancel t })
def execCancel (c : Nat) (lev : LcEv) (ev : CupEv) (s : State) : Result := opRow c 6 lev ev (opCancel c) s

/-- CREATE (R323). -/
def opCreate (c len : Nat) (s : State) : State :=
  let (r, s) := createThread (fld ((s.core c).arg 0) 11 0) s
  opEnd c len r 0 s
def execCreate (c : Nat) (lev : LcEv) (ev : CupEv) (s : State) : Result := opRow c 7 lev ev (opCreate c) s

/-- The mark of an FDISPATCH of core `c` in gate 80, by the number of the core's request. -/
def whoDispatch (n : Nat) : Nat := 32 + n

/-- FDISPATCH (R99, R358): the dispatch goes to the flask's gate, and the core waits for its result. -/
def opFdispatch (c : Nat) (s : State) : State :=
  let k := s.core c
  let n := k.ask + 1
  let s := s.requestBy (whoDispatch n) cupolaNode (fld (k.arg 0) 21 16) 0 0
    (dispatchBody (fld (k.arg 0) 7 0) (fld (k.arg 1) 31 16) (fld (k.arg 1) 15 0) c)
  s.modCore c (fun k => { k with ask := n, stall := .fdispatch })
def execFdispatch (c : Nat) (lev : LcEv) (ev : CupEv) (s : State) : Result := opRow c 8 lev ev (fun _ => opFdispatch c) s

/-- The result of an FDISPATCH has come. -/
def fdispatchEnds (c who r : Nat) (s : State) : State :=
  if (s.core c).stall = .fdispatch && who = whoDispatch (s.core c).ask then
    lcSettle c (opEnd c (lcKind s c).2 r 0 (s.modCore c (fun k => { k with stall := .none })))
  else s

/-- ABANDON (R323): bank 0 alone; the thread is FAULTED with its item in service. -/
def opAbandon (c len : Nat) (s : State) : State :=
  let k := s.core c
  let t := fld (k.arg 0) 11 0
  if k.cur ≠ 0 then opEnd c len resInvalid 0 s
  else if (s.thread t).st = .ready || (s.thread t).st = .running then
    opEnd c len resOk 0 (faultOut t (reportAt 0x3405 5 t (BitVec.ofNat 32 c) (BitVec.ofNat 64 (threadFlow s t)) s))
  else opEnd c len resState 0 s
def execAbandon (c : Nat) (lev : LcEv) (ev : CupEv) (s : State) : Result := opRow c 9 lev ev (opAbandon c) s

/-- RESTART (R323). -/
def opRestart (c len : Nat) (s : State) : State :=
  let (r, s) := restartThread (fld ((s.core c).arg 0) 11 0) s
  opEnd c len r 0 s
def execRestart (c : Nat) (lev : LcEv) (ev : CupEv) (s : State) : Result := opRow c 10 lev ev (opRestart c) s

/-- DONE (R323, R331, R334, R335): the item's service ends; the thread takes an eligible item of its group that no IDLE thread
takes, or becomes IDLE. Where a cancel of the thread waits or falls in the same cycle, DONE takes no item, and the cancel finds none (R350). -/
def opDone (c : Nat) (same : Bool) (len : Nat) (s : State) : State :=
  match (s.core c).thread with
  | none => opEnd c len resState 0 s
  | some t =>
    if (s.thread t).item.isNone then opEnd c len resState 0 s else
    let (g, s) := endService t s
    let s := assignMaybe g s
    if same || (s.thread t).cancelAsked then toTail t .idle (opLeave c len s) else
    match bestItem (itemsWhere s (fun i => i.st = .eligible && itemGroup i.header = (s.thread t).group)) with
    | some n =>
      match s.item n with
      | some i =>
        let s := s.modCup (fun u => { u with items := Tab.set none u.items n (some { i with st := .service, thread := t }) })
        let s := s.modThread t (fun x => { x with item := some n })
        lcRetire c len (s.modCore c (fun k => (itemRegs i).foldl (fun k e => k.setReg e.1 e.2) k))
      | none => s
    | none => toTail t .idle (opLeave c len s)

/-- DONE (R334): `same` says that a cancel of the thread falls in the same cycle (R350). -/
def execDone (c : Nat) (same : Bool) (lev : LcEv) (ev : CupEv) (s : State) : Result := cupStore c .done lev ev (opDone c same) s

/-- ATTN (R356). -/
def attnWord (s : State) : Word :=
  (if s.cup.abandoned then 4#32 else 0) ||| (if s.cup.coreHalted then 2#32 else 0) ||| (if s.cup.ringStall then 1#32 else 0)

/-- ATTN_READ (R356): the read clears the bits. -/
def execAttnRead (c : Nat) (ev : LcEv) (s : State) : Result :=
  lcRow c ev (fun i len => match i with
    | .attn rd => some (fun s =>
        (lcWrite c len rd (attnWord s) s).modCup (fun u => { u with abandoned := false, coreHalted := false, ringStall := false }))
    | _ => none) s

/-! ### Dispatch (R336-R339) -/

/-- A core is a candidate (R337): RUNNING in THREAD mode. -/
def candidate (s : State) (c : Nat) : Bool :=
  let k := s.core c
  s.domOn 86 && c < 8 && k.st = .running && !k.levelMode

/-- The priority a dispatch must beat on a core: 32 where it is idle; none where a handler or the boot context runs. -/
def corePrio (s : State) (c : Nat) : Option Nat :=
  let k := s.core c
  if k.idle then some 32 else k.thread.map (fun t => s.effPrio (s.thread t))

/-- The core a thread would be sent to, of those not in `used` (R338). -/
def targetCore (s : State) (used : List Nat) (x : Thread) : Option Nat :=
  let free (c : Nat) : Bool :=
    candidate s c && x.affine c && !used.contains c && (Tab.get none s.cup.sent c).isNone &&
      (match corePrio s c with
       | some p => s.effPrio x < p
       | none => false)
  match (List.range 8).filter free with
  | [] => none
  | c :: r => some (r.foldl (fun m c => if (corePrio s m).getD 0 < (corePrio s c).getD 0 then c else m) c)

/-- The most urgent dispatchable thread and its core. -/
def dispatchChoice (s : State) (used : List Nat) : Option (Nat × Nat) :=
  let ts := s.cup.threads.filterMap (fun e =>
    if e.2.st = .ready && !awaited s e.1 then (targetCore s used e.2).map (fun c => (e.1, e.2, c)) else none)
  match ts with
  | [] => none
  | e :: r =>
    let b := r.foldl (fun (m : Nat × Thread × Nat) e =>
      let p := s.effPrio e.2.1
      let q := s.effPrio m.2.1
      if p < q || (p = q && e.2.1.order < m.2.1.order) then e else m) e
    some (b.1, b.2.2)

/-- The dispatches of one cycle. -/
def dispatchCycle : Nat → List Nat → State → State
  | 0, _, s => s
  | n + 1, used, s =>
    match dispatchChoice s used with
    | some (t, c) => dispatchCycle n (c :: used) (s.modCup (fun u => { u with sent := Tab.set none u.sent c (some t) }))
    | none => s

/-- CUPOLA_DISPATCH (R338). -/
def execCupolaDispatch (ev : CupEv) (s : State) : Result :=
  let s1 := cupCheck ev s
  event s.cupRuns s (if s1.cupRuns then dispatchCycle 8 [] s1 else s1)

/-- DISPATCH_WITHDRAW (R339). -/
def execDispatchWithdraw (c : Nat) (s : State) : Result :=
  ok (s.modCup (fun u => { u with sent := Tab.set none u.sent c none }))

/-- DELAY_EXPIRY (R347). -/
def execDelayExpiry (t : Nat) (s : State) : Result :=
  event (s.cupRuns && (s.thread t).st = .delay && expiryTurn s t) s (expireDelay t s)

/-- MATCH_TIMEOUT (R323, R347). -/
def execMatchTimeout (t : Nat) (s : State) : Result :=
  event (s.cupRuns && (s.thread t).st = .match' && expiryTurn s t) s (expireMatch t s)

/-! ### Input rings (R352-R355) -/

/-- RING_n. -/
def ringCfg (s : State) (r : Nat) : Word := s.settingW 0x3301 (r + 1)
def ringQueue (s : State) (r : Nat) : Nat := fld (ringCfg s r) 17 0
def State.ring (s : State) (r : Nat) : Ring := Tab.get Ring.reset s.cup.rings r
def State.modRing (s : State) (r : Nat) (g : Ring → Ring) : State :=
  s.modCup (fun u => { u with rings := Tab.modify Ring.reset u.rings r g })

/-- A packet that is discarded and counted (R354), and one that is malformed (R355). -/
def badPacket (s : State) : State := s.modCup (fun u => { u with badPackets := u.badPackets + 1 })
def malformed (r : Nat) (s : State) : State := reportAt 0x3402 4 (ringQueue s r) 80 0 (badPacket s)

/-- Take a packet: `false` where it must be held. -/
def takePacket (r : Nat) (ws : List QWord) (s : State) : Bool × State :=
  let ds := ws.map (·.d)
  if ws.any (·.p) then (true, malformed r s)
  else match ds with
    | [] => (true, s)
    | h :: rest =>
      if !h.getLsbD 31 then
        if itemGroup h = 63 || 4 < rest.length then (true, malformed r s)
        else
          let (res, s) := cupPost h rest s
          (res ≠ resRefused, s)
      else if h = 0x80000000#32 && rest.length = 2 then
        let tag := rest.getD 0 0
        if reservedTag tag then (true, badPacket s)
        else
          let (res, _, s) := cupSend tag (rest.getD 1 0) s
          (res ≠ resRefused, if res = resDuplicate then badPacket s else s)
      else (true, malformed r s)

/-- Take a packet of ring `r`, or hold it in the staging register with ATTN.RING_STALL (R354). -/
def offerPacket (r : Nat) (ws : List QWord) (s : State) : State :=
  let (taken, s) := takePacket r ws s
  if taken then s.modRing r (fun x => { x with staged := none })
  else (s.modRing r (fun x => { x with staged := some ws })).modCup (fun u => { u with ringStall := true })

/-- The mark of ring `r` in gate 80. -/
def whoRing (r : Nat) : Nat := 1 + r

/-- The ring whose turn it is: the next one enabled whose staging register is free. -/
def ringTurn (s : State) : Option Nat :=
  ((List.range 16).map (fun i => (s.cup.nextRing + i) % 16)).find? (fun r => (ringCfg s r).getLsbD 31 && (s.ring r).staged.isNone)

/-- A POP of a ring is on its way. -/
def ringBusy (s : State) : Bool :=
  (s.gate cupolaNode).waiting.any (fun p => 1 ≤ p.who && p.who ≤ 16) || (s.gate cupolaNode).outstanding.any (fun o => 1 ≤ o.who && o.who ≤ 16)

/-- The next ring in turn. -/
def ringNext (r : Nat) (s : State) : State := s.modCup (fun u => { u with nextRing := (r + 1) % 16 })

/-- An answer to a POP of ring `r`: a word joins its packet, and the last one gives the packet; an answer without a word passes the turn on. -/
def ringAnswer (r : Nat) (st : PopStatus) (ws : List QWord) (s : State) : State :=
  match st, ws with
  | .ok, w :: _ =>
    let p := (s.ring r).partialWords ++ [w]
    if w.l then offerPacket r p (ringNext r (s.modRing r (fun x => { x with partialWords := [] })))
    else s.modRing r (fun x => { x with partialWords := p })
  | _, _ => ringNext r s

/-- An answer to a POP of a ring that gate 80 has delivered. -/
def ringReply (s : State) : Option (Nat × PopStatus × List QWord) :=
  (s.gate cupolaNode).answers.findSome? (fun p => match p.body with
    | .popResp st ws => if 1 ≤ p.who && p.who ≤ 16 then some (p.who - 1, st, ws) else none
    | _ => none)

/-- RING_POP (R259, R353): Cupola pops its rings in round robin, one packet at a time and word by word (log 35): the answer to its POP is taken, or,
with none under way, the ring in turn is popped. -/
def execRingPop (ev : CupEv) (s : State) : Result :=
  let s1 := cupCheck ev s
  event s.cupRuns s
    (if !s1.cupRuns then s1 else
     match ringReply s1 with
     | some (r, st, ws) => ringAnswer r st ws (s1.takeAnswer cupolaNode (whoRing r) (.popResp st ws))
     | none =>
       if ringBusy s1 then s1 else
       match ringTurn s1 with
       | some r => (s1.modCup (fun u => { u with nextRing := r })).requestBy (whoRing r) cupolaNode tundishNode 0 0 (.pop (ringQueue s1 r) 1)
       | none => s1)

/-- RING_RETRY (R354, R362). -/
def execRingRetry (r : Nat) (s : State) : Result :=
  match (s.ring r).staged with
  | some ws => event (s.cupRuns && (ringCfg s r).getLsbD 31) s (offerPacket r ws s)
  | none => ok s

/-- FLASK_COMPLETION (R102, R346): a completion of logical flask `k`, the oldest packet of its gate at Cupola, is a SEND of its device tag; a refused
one is not taken and comes again (R351). -/
def execFlaskCompletion (k ctx token : Nat) (cut : Bool) (ev : CupEv) (s : State) : Result :=
  let b : Body := .internal msgCompletion [BitVec.ofNat 32 token, BitVec.ofNat 32 ctx, if cut then 1 else 0]
  let s1 := cupCheck ev s
  let tag := BitVec.ofNat 32 (0xF0000000 + k % 64 * 2 ^ 16 + token % 2 ^ 16)
  event (s.cupRuns && token % 2 ^ 16 ≠ 0 && s.atFront cupolaNode k 0 b) s
    (if !s1.cupRuns then s1 else
     let (r, _, s2) := cupSend tag (BitVec.ofNat 32 (ctx % 256 + if cut then 256 else 0)) s1
     if r = resRefused then s2 else s2.consume cupolaNode k 0 b)

/-- CUPOLA_HALT_PLACEMENT (R313, R360): every bank of the halted core is spilled, and its threads are placed. -/
def execCupolaHaltPlacement (c : Nat) (ev : CupEv) (s : State) : Result :=
  let k := s.core c
  let bound := (List.range 32).any (fun b => ((k.bank b).thread).isSome)
  let s1 := cupCheck ev s
  event (s.cupRuns && k.placeDue && !bound && k.unit' = .idle) s (if s1.cupRuns then placeThreads c s1 else s1)

/-! ### T_CMD (R363, R364) -/

/-- The thread a path's THREAD_SELECT names. -/
def selThread (s : State) (path : Nat) : Nat := s.selector path 0x3310 0 % 4096

/-- A T_CMD word of the selected thread. -/
def tCommand (path : Nat) (act : Nat → State → Except Word State) (s : State) : Result :=
  dictCommand path 0x3310 4 2 (fun s => need s.cupRuns abortState (act (selThread s path) s)) s

/-- T_RESULT takes a value. -/
def tResult (t : Nat) (v : Word) (s : State) : State := s.modThread t (fun x => { x with tResult := v })

/-- T_CMD_CREATE (R364). -/
def execTCmdCreate (path : Nat) (s : State) : Result :=
  tCommand path (fun t s =>
    let (r, s) := createThread t s
    need (r = resOk) abortState (.ok (tResult t 0 s))) s

/-- T_CMD_CANCEL (R364): a running thread is cancelled at its boundary. -/
def execTCmdCancel (path : Nat) (s : State) : Result :=
  tCommand path (fun t s =>
    match cancelNowOrAsk t s with
    | none => .error abortState
    | some (true, rval, s) => .ok (tResult t (BitVec.ofNat 32 rval) s)
    | some (false, _, s) => .ok (s.modThread t (fun x => { x with tAsked := true }))) s

/-- T_CMD_RESTART (R364). -/
def execTCmdRestart (path : Nat) (s : State) : Result :=
  tCommand path (fun t s =>
    let (r, s) := restartThread t s
    need (r = resOk) abortState (.ok (tResult t 0 s))) s

/-- T_CMD_RELEASE (R323, R364). -/
def execTCmdRelease (path : Nat) (s : State) : Result :=
  tCommand path (fun t s =>
    need ((s.thread t).st = .cancelled) abortState (.ok (tResult t 0 (s.modThread t (fun x => { x with st := .free }))))) s

/-! ### Entries (R361-R367) -/

/-- Codes of T_STATE. -/
def thStCode (st : ThSt) : Nat :=
  match st with
  | .free => 0
  | .idle => 1
  | .ready => 2
  | .running => 3
  | .match' => 4
  | .delay => 5
  | .faulted => 6
  | .cancelled => 7

/-- T_STATE (R365). -/
def tState (s : State) (t : Nat) : Word :=
  let x := s.thread t
  let b := match x.bank with
    | some (_, b) => b * 2 ^ 13 + 2 ^ 12
    | none => 0
  let core := match x.bank with
    | some (c, _) => if x.st = .running then c else x.home
    | none => x.home
  BitVec.ofNat 32 (thStCode x.st * 2 ^ 29 + s.effPrio x * 2 ^ 24 + (if x.item.isSome then 2 ^ 23 else 0) + core * 2 ^ 20 + b)

/-- F_STATE (R366). -/
def fState (s : State) (f : Nat) : Word :=
  let serving := itemsWhere s (fun i => i.st = .service && itemFlow i.header = f)
  let waiting := (itemsWhere s (fun i => i.st = .waiting && itemFlow i.header = f)).length
  match serving with
  | (_, i) :: _ => BitVec.ofNat 32 (2 ^ 31 + i.thread * 2 ^ 19 + waiting)
  | [] => BitVec.ofNat 32 waiting

/-- M_STATE (R367). -/
def mState (s : State) (n : Nat) : Word :=
  let x := s.slotAt n
  let c := match x.st with
    | .free => 0
    | .armed => 1
    | .held => 2
    | .filled => 3
  BitVec.ofNat 32 (c * 2 ^ 30 + x.pos * 2 ^ 28 + x.waiter)

/-- Candidate cores, as bits. -/
def candidateMask (s : State) : Nat := (List.range 8).foldl (fun m c => if candidate s c then m + 2 ^ c else m) 0

/-- Threads no candidate core serves (R340). -/
def stranded (s : State) : Nat :=
  (s.cup.threads.filter (fun e => e.2.st = .ready && !(List.range 8).any (fun c => e.2.affine c && candidate s c))).length

/-- A pour tick latches the counts of items and of match slots (R361). -/
def latchCupola (s : State) : State :=
  let count (st : ItemSt) : DWord := BitVec.ofNat 64 (itemsWhere s (fun i => i.st = st)).length
  s.modCup (fun u => { u with latched :=
    [(3, BitVec.ofNat 64 (itemSlots - u.items.length)), (4, count .waiting), (5, count .eligible), (6, count .service), (7, BitVec.ofNat 64 u.slots.length)] })

/-- Live entries of Cupola, as a path reads them. -/
def cupReadEntry (s : State) (path idx sub : Nat) : Option DWord :=
  let n (v : Nat) : Option DWord := some (BitVec.ofNat 64 v)
  let w (v : Word) : Option DWord := some (v.setWidth 64)
  match idx, sub with
  | 0x3300, 1 => n ((if s.cup.stopped then 2 ^ 31 else 0) + candidateMask s)
  | 0x3300, 3 => some (Tab.get (BitVec.ofNat 64 itemSlots) s.cup.latched 3)
  | 0x3300, 4 => some (Tab.get 0 s.cup.latched 4)
  | 0x3300, 5 => some (Tab.get 0 s.cup.latched 5)
  | 0x3300, 6 => some (Tab.get 0 s.cup.latched 6)
  | 0x3300, 7 => some (Tab.get 0 s.cup.latched 7)
  | 0x3300, 8 => n (stranded s)
  | 0x3300, 9 => w s.cup.postsRefused
  | 0x3300, 10 => w s.cup.matchRefused
  | 0x3300, 11 => w s.cup.dupOperands
  | 0x3300, 12 => w s.cup.discarded
  | 0x3300, 13 => w s.cup.itemsCancelled
  | 0x3300, 14 => w s.cup.badPackets
  | 0x3300, 15 => some s.cup.dispatches
  | 0x3310, 1 => w (tState s (selThread s path))
  | 0x3310, 2 => w (s.thread (selThread s path)).cfg
  | 0x3310, 3 => w (s.thread (selThread s path)).entry
  | 0x3310, 5 => w (s.thread (selThread s path)).tResult
  | 0x3320, 1 => w (fState s (s.selector path 0x3320 0 % 2 ^ 20))
  | 0x3330, 1 => w (mState s (s.selector path 0x3330 0 % 2 ^ 16))
  | 0x3330, 2 => w (s.slotAt (s.selector path 0x3330 0 % 2 ^ 16)).tag
  | 0x3330, 3 => w (s.slotAt (s.selector path 0x3330 0 % 2 ^ 16)).operand
  | _, _ => none

/-- Reads that clear. -/
def cupReadClear (idx sub : Nat) (s : State) : State :=
  if idx ≠ 0x3300 then s else
  s.modCup (fun u => match sub with
    | 9 => { u with postsRefused := 0 }
    | 10 => { u with matchRefused := 0 }
    | 11 => { u with dupOperands := 0 }
    | 12 => { u with discarded := 0 }
    | 13 => { u with itemsCancelled := 0 }
    | 14 => { u with badPackets := 0 }
    | 15 => { u with dispatches := 0 }
    | _ => u)

/-- Writes of T_CFG and T_ENTRY of thread `t` (R364), and of RING_n (R352). -/
def threadApply (t sub : Nat) (v : Word) (s : State) : Except Word State :=
  let x := s.thread t
  let rest := x.st = .free || x.st = .cancelled
  if sub = 2 then
    let v := v &&& 0xFBF0FF00#32
    let same := (v.extractLsb' 27 5 = x.cfg.extractLsb' 27 5) && (v.extractLsb' 20 6 = x.cfg.extractLsb' 20 6)
    need (rest || same) abortState (.ok (s.modThread t (fun x => { x with cfg := v })))
  else need rest abortState (.ok (s.modThread t (fun x => { x with entry := v })))

/-- RING_n: enabling needs a queue whose consumer is Cupola. -/
def ringApply (sub : Nat) (v : Word) (s : State) : Except Word State :=
  let x := s.queue (fld v 17 0)
  need (!v.getLsbD 31 || (x.st = .active && x.consumer = cupolaNode)) abortState
    (.ok (s.putSetting 0x3301 sub ((v &&& 0x8003FFFF#32).setWidth 64)))

end Sys2Proof.Machine
end

