-- ==== Sys2Proof/Machine/Blocks.lean ====
section
/-! DEFINITION. The block coding of a Villet port: 66-bit blocks, the scrambler, striping over the lanes, alignment markers and their BIP-8, and the
control blocks (R478-R482). -/

namespace Sys2Proof.Machine

/-! ### Blocks (R478, R480) -/

/-- Sync headers. -/
abbrev syncData : BitVec 2 := 0b01#2
abbrev syncControl : BitVec 2 := 0b10#2

/-- Byte `k` of a block (R478). -/
def blockByte (b : Block) (k : Nat) : Byte := b.payload.extractLsb' (8 * k) 8

/-- A control block of a type, its other bytes 0. -/
def controlBlock (ty : Byte) : Block := { sync := syncControl, payload := ty.setWidth 64 }

/-- IDLE, START and RETRAIN. -/
def idleBlock : Block := controlBlock 0x1E
def startBlock : Block := controlBlock 0x78
def retrainBlock : Block := controlBlock 0x4B

/-- The alignment marker of logical lane `k` with a BIP-8. -/
def markerBlock (k : Nat) (bip : Byte) : Block :=
  let n := BitVec.ofNat 8 k
  { sync := syncControl, payload := ~~~bip ++ (0xC3#8 ++ (0x5A#8 ++ (0xA5#8 ++ (bip ++ (~~~n ++ (n ++ 0x5C#8)))))) }

/-- What a block is to its receiver. -/
inductive BlockKind where
  | data | idle | start | retrain | marker | coding
  deriving DecidableEq, Repr

/-- The kind of a block: one whose sync header is 0b00 or 0b11, or whose control type is none of the table, is a coding error (R480, R482). -/
def blockKind (b : Block) : BlockKind :=
  if b.sync = syncData then .data
  else if b.sync ≠ syncControl then .coding
  else match (blockByte b 0).toNat with
    | 0x1E => .idle
    | 0x78 => .start
    | 0x4B => .retrain
    | 0x5C => .marker
    | _ => .coding

/-- The data blocks of a frame's words, the last padded with zero bytes (R487). -/
def dataBlocks : List Word → List Block
  | [] => []
  | [a] => [{ sync := syncData, payload := 0#32 ++ a }]
  | a :: b :: ws => { sync := syncData, payload := b ++ a } :: dataBlocks ws

/-- The blocks of a frame (R487). -/
def frameBlocks (ws : List Word) : List Block := startBlock :: dataBlocks ws

/-! ### The scrambler and the BIP-8 (R478, R481) -/

/-- The self-synchronising scrambler x^58 + x^39 + 1 over one payload, after the scrambled payload `prev` of the lane's block before it: each bit is the
sum of its own, the 39th and the 58th scrambled bit before it. -/
def scramble (d prev : DWord) : DWord :=
  let t := d ^^^ prev >>> 25 ^^^ prev >>> 6
  t ^^^ t <<< 39 ^^^ t <<< 58

/-- The receiver's side of it. -/
def descramble (r prev : DWord) : DWord := r ^^^ prev >>> 25 ^^^ r <<< 39 ^^^ prev >>> 6 ^^^ r <<< 58

/-- The parity of a block's 66 bits in the order sent, for each bit position modulo 8: the sync header, as it is written, first, then the payload from
bit 0 (R478, R481; log 38). -/
def blockParity (b : Block) : Byte :=
  let x := (List.range 8).foldl (fun a k => a ^^^ blockByte b k) 0#8
  x.rotateLeft 2 ^^^ (0#6 ++ b.sync.reverse)

/-! ### The lanes (R479) -/

/-- The transmitter of logical lane `k`. -/
def VPort.laneTx (p : VPort) (k : Nat) : LaneTx := Tab.get LaneTx.reset p.tx k

/-- Blocks between two markers: eight for each of 16,384 groups. -/
abbrev groupBlocks : Nat := 131072

/-- The eight markers. -/
def VPort.markers (p : VPort) : List (Nat × Block) := (List.range 8).map (fun k => (k, markerBlock k (p.laneTx k).bip))

/-- One block of the aggregate stream leaves scrambled on its lane; behind the last of 16,384 groups the markers follow, unscrambled. -/
def codeBlock (p : VPort) (b : Block) : VPort × List (Nat × Block) :=
  let k := p.txAt % 8
  let x := p.laneTx k
  let c : Block := { b with payload := scramble b.payload x.scr }
  let q : VPort := { p with txAt := p.txAt + 1, tx := Tab.set LaneTx.reset p.tx k { scr := c.payload, bip := x.bip ^^^ blockParity c } }
  if q.txAt < groupBlocks then (q, [(k, c)])
  else ({ q with txAt := 0, tx := Tab.mapVals LaneTx.reset (fun _ x => { x with bip := 0 }) q.tx }, (k, c) :: q.markers)

/-- A run of blocks. -/
def codeBlocks (p : VPort) : List Block → VPort × List (Nat × Block)
  | [] => (p, [])
  | b :: bs =>
    let (p, l) := codeBlock p b
    let (p, r) := codeBlocks p bs
    (p, l ++ r)

end Sys2Proof.Machine
end

