-- ==== Sys2Proof/Machine/VilletOps.lean ====
section
/-! DEFINITION. Operations of a Villet port's link layer: frames, acknowledgement, credits and the link-layer reset (R487-R507). -/

namespace Sys2Proof.Machine

/-- Port `n`. -/
def State.vport (s : State) (n : Nat) : VPort := Tab.get VPort.reset s.villet.ports n

/-- Change port `n`. -/
def State.modVPort (s : State) (n : Nat) (g : VPort → VPort) : State :=
  { s with villet := { s.villet with ports := Tab.modify VPort.reset s.villet.ports n g } }

/-- The setting of a port. -/
def State.linkSet (s : State) (n sub : Nat) : Nat := s.settingN (0x3500 + 32 * n) sub

/-- The port is one of the six and its domain is powered. -/
def State.portUp (s : State) (n : Nat) : Bool := n < 6 && s.domOn (72 + n)

/-- Report an error that names port `n`. -/
def reportPort (code n : Nat) (detail : Nat) (s : State) : State := reportAt code 0x0B n 0 (BitVec.ofNat 64 detail) s

/-- Credits of a payload (R502). -/
def creditsOf (len : Nat) : Nat := (len + 15) / 16

/-- Moduli of sequence numbers and of credit counts. -/
abbrev seqMod : Nat := 2 ^ 20
abbrev credMod : Nat := 2 ^ 16

/-- LIMIT granted for RES and for CTL (R504, R506). -/
def VPort.grantRes (p : VPort) : Nat := (p.freedRes + 2048 + credMod - p.h0Res) % credMod
def VPort.grantCtl (p : VPort) : Nat := (p.freedCtl + 256 + credMod - p.h0Ctl) % credMod

/-- The words of a frame as the port sends it now (R487-R490, R493). -/
def VPort.frame (p : VPort) (ty vc seq : Nat) (payload : List Word) : List Word :=
  let ws := [BitVec.ofNat 32 (ty * 2 ^ 28 + vc * 2 ^ 26 + seq),
    BitVec.ofNat 32 (payload.length * 2 ^ 22 + (p.expect + seqMod - 1) % seqMod),
    BitVec.ofNat 32 (p.grantRes * 2 ^ 16 + p.grantCtl), p.epoch.setWidth 32] ++ payload
  ws ++ [crcOfWords ws]

/-- Blocks leave on the lanes of port `n` (R479). -/
def sendBlocks (n : Nat) (bs : List Block) (s : State) : State :=
  let r := codeBlocks (s.vport n) bs
  (s.modVPort n (fun _ => r.1)).emit (.villetBlocks n r.2)

/-- A frame leaves: it carries ACK, credits and EPOCH (R493, R500). -/
def sendFrame (n ty vc seq : Nat) (payload : List Word) (s : State) : State :=
  let ws := (s.vport n).frame ty vc seq payload
  (sendBlocks n (frameBlocks ws) (s.emit (.villetTx n ws))).modVPort n (fun p => { p with framesTx := p.framesTx + 1, ackOwed := false })

/-- An ACK frame. -/
def sendAck (n : Nat) (s : State) : State := sendFrame n 2 0 0 [] s

/-- A NAK, unless one is out (R495). -/
def sendNak (n : Nat) (s : State) : State :=
  if (s.vport n).nakOut then s
  else (sendFrame n 3 0 0 [] s).modVPort n (fun p => { p with nakOut := true, naksSent := p.naksSent + 1 })

/-- An INIT of version 1.0 (R490, R491, R510). -/
def sendInit (n : Nat) (s : State) : State := sendFrame n 4 0 0 [(s.vport n).seen.setWidth 32 <<< 16 ||| 0x0100#32] s

/-- Hand a CTL message to the link. -/
def ctlSend (n : Nat) (ws : List Word) (s : State) : State := s.modVPort n (fun p => { p with txCtl := p.txCtl ++ [ws] })

/-- A received header and payload taken apart. -/
structure RxHeader where
  ty : Nat
  vc : Nat
  seq : Nat
  len : Nat
  ack : Nat
  credData : Nat
  credCtl : Nat
  epoch : BitVec 16
  payload : List Word
  /-- The words are complete, uncut and their CRC is right. -/
  crcOk : Bool
  deriving DecidableEq, Repr

/-- Take a frame apart: `cut` says that a control block came before its last byte (R487, R488, R492). -/
def parseFrame (ws : List Word) (cut : Bool) : RxHeader :=
  let w (i : Nat) : Word := ws.getD i 0
  let len := ((w 1).extractLsb' 22 10).toNat
  { ty := ((w 0).extractLsb' 28 4).toNat, vc := ((w 0).extractLsb' 26 2).toNat, seq := ((w 0).extractLsb' 0 20).toNat, len := len,
    ack := ((w 1).extractLsb' 0 20).toNat, credData := ((w 2).extractLsb' 16 16).toNat, credCtl := ((w 2).extractLsb' 0 16).toNat,
    epoch := (w 3).extractLsb' 0 16, payload := (ws.drop 4).take len,
    crcOk := len ≤ 512 && !cut && ws.length = 5 + len && crcOfWords (ws.take (4 + len)) = w (4 + len) }

/-- The header keeps R490, R492 and the VCs that the device receives. -/
def RxHeader.wellFormed (h : RxHeader) : Bool :=
  if h.ty = 1 then 1 ≤ h.len && (h.vc = 1 || h.vc = 2)
  else if h.ty = 2 || h.ty = 3 then h.len = 0 && h.vc = 0 && h.seq = 0
  else h.ty = 4 && h.len = 1 && h.vc = 0 && h.seq = 0

/-- The recoveries of a port whose replay has ended well or not (R689, R690). -/
def endRecs (n : Nat) (good : Bool) (which : Nat × Nat → Bool) (s : State) : State :=
  let ends := (s.vport n).recs.filter which
  (ends.foldl (fun s r => recoveryEnds r.1 0x0B n good s) s).modVPort n (fun p => { p with recs := p.recs.filter (fun r => !which r) })

/-- The oldest unacknowledged SEQ. -/
def VPort.oldest (p : VPort) : Nat :=
  match p.unacked with
  | f :: _ => f.seq
  | [] => p.nextSeq

/-- ACK of a frame: it releases frames, or is ignored and counted (R497). -/
def takeAck (n a : Nat) (s : State) : State :=
  let p := s.vport n
  let d := (a + 1 + seqMod - p.oldest) % seqMod
  if p.unacked.length < d then s.modVPort n (fun p => { p with protoErrors := p.protoErrors + 1 })
  else if d = 0 then s
  else
    let s := s.modVPort n (fun p =>
      let left := p.unacked.drop d
      { p with unacked := left, resend := p.resend.filter (fun q => left.any (fun f => f.seq = q)), rounds := 0 })
    endRecs n true (fun r => !((s.vport n).unacked.any (fun f => f.seq = r.2))) s

/-- The LIMIT held after one is received; `none` where it is ignored and counted (R504). -/
def newLimit (old lim : Nat) : Option Nat :=
  let d := (lim + credMod - old) % credMod
  if d < 2 ^ 15 then some lim else none

/-- ACK and credits of a frame (R497, R504, R797). -/
def takeFields (n : Nat) (h : RxHeader) (s : State) : State :=
  (takeAck n h.ack s).modVPort n (fun p =>
    let p := match newLimit p.limVec h.credData with
      | some l => { p with limVec := l }
      | none => { p with protoErrors := p.protoErrors + 1 }
    match newLimit p.limCtl h.credCtl with
    | some l => { p with limCtl := l }
    | none => { p with protoErrors := p.protoErrors + 1 })

/-- The next EPOCH, never 0 (R508). -/
def nextEpoch (e : BitVec 16) : BitVec 16 := if e + 1 = 0 then 1 else e + 1

/-- The link-layer reset of port `n` (R507, R508); the first after power-up keeps the EPOCH. -/
def linkReset (n : Nat) (s : State) : State :=
  (endRecs n false (fun _ => true) s).modVPort n (fun p =>
    { p with
      unacked := [], resend := [], replayAck := none, roundOldest := none, rounds := 0, txCtl := [], txVec := [], nextSeq := 0
      expect := 0, conCtl := 0, conVec := 0, freedCtl := 0, freedRes := 0, nakOut := false, limCtl := 0, limVec := 0
      h0Ctl := p.heldCtl, h0Res := p.heldRes, partner := 0, ackOwed := false
      epoch := if p.epochKept then p.epoch else nextEpoch p.epoch, epochKept := false })

/-- Leave the present state for another (R514). A port that leaves ACTIVE resends nothing more of its round. -/
def enterLink (n : Nat) (st : LinkSt) (s : State) : State :=
  let s := if (s.vport n).st = .active then endRecs n false (fun _ => true) s else s
  s.modVPort n (fun p => { p with st := st, resend := [], replayAck := none })

/-- Enter RETRAIN; the attempt is counted. -/
def enterRetrain (n : Nat) (s : State) : State :=
  (enterLink n .retrain s).modVPort n (fun p =>
    { p with attempts := p.attempts + 1, retrains := p.retrains + 1, retrained := true, badAt := [] })

/-- ERR_WINDOW in nanoseconds and ERR_LIMIT (R522). -/
def errWindow (v : Nat) : Nat := (v % 2 ^ 15) * (if v / 2 ^ 15 % 2 = 1 then 1000000 else 1000)
def errLimit (v : Nat) : Nat := v / 2 ^ 16

/-- A bad frame in ACTIVE counts toward ERR_LIMIT (R514). -/
def countBad (n : Nat) (s : State) : State :=
  let v := s.linkSet n 7
  let now := s.power.pour
  let s := s.modVPort n (fun p => { p with badAt := now :: p.badAt.filter (fun t => (now - t).toNat * 25 < errWindow v * 4) })
  if errLimit v ≤ (s.vport n).badAt.length then enterRetrain n s else s

/-- A bad frame is discarded, counted, and in ACTIVE answered with a NAK (R492, R495). -/
def badFrame (n : Nat) (h : RxHeader) (s : State) : State :=
  let s := s.modVPort n (fun p =>
    { p with badFrames := p.badFrames + 1, protoErrors := if h.crcOk then p.protoErrors + 1 else p.protoErrors })
  if (s.vport n).st = .active then countBad n (sendNak n s) else s

end Sys2Proof.Machine
end

