-- ==== Sys2Proof/Machine/HeatOps.lean ====
section
/-! DEFINITION. Operations of a port's manager and its heat slots: messages, records and events, the supply of vectors, and the ways a
heat ends (R528-R560, R799-R801). -/

namespace Sys2Proof.Machine

/-! ### Slots and settings -/

/-- Slot `sl` of port `n`. -/
def State.heat (s : State) (n sl : Nat) : Heat := Tab.get Heat.reset s.villet.heats (2 * n + sl)

/-- Change it. -/
def State.modHeat (s : State) (n sl : Nat) (g : Heat → Heat) : State :=
  { s with villet := { s.villet with heats := Tab.modify Heat.reset s.villet.heats (2 * n + sl) g } }

/-- Its index in the dictionary (R561). -/
def heatIdx (n sl : Nat) : Nat := 0x35C0 + 2 * n + sl

/-- Its settings. -/
def State.heatSet (s : State) (n sl sub : Nat) : Nat := s.settingN (heatIdx n sl) sub
def State.heatCfg (s : State) (n sl : Nat) : Word := s.settingW (heatIdx n sl) 3
def State.heatId (s : State) (n sl : Nat) : Nat := ((s.heatCfg n sl).extractLsb' 0 16).toNat
def State.heatTolerant (s : State) (n sl : Nat) : Bool := (s.heatCfg n sl).getLsbD 31
def State.heatWidth (s : State) (n sl : Nat) : Nat := ((s.heatCfg n sl).extractLsb' 24 4).toNat
/-- Words of a vector. -/
def State.heatWords (s : State) (n sl : Nat) : Nat := 2 * (s.heatWidth n sl + 1)
/-- Vector queues (R530); 0 for the reserved code. -/
def State.heatWays (s : State) (n sl : Nat) : Nat :=
  match ((s.heatCfg n sl).extractLsb' 22 2).toNat with
  | 0 => 1
  | 1 => 2
  | 2 => 4
  | _ => 0
def State.heatStart (s : State) (n sl : Nat) : Nat := s.heatSet n sl 4 % 2 ^ 48
def State.heatEnd (s : State) (n sl : Nat) : Nat := s.heatSet n sl 6 % 2 ^ 48
/-- The index at which the supply of vectors ends: END = 0 stands for 2^48 (R536, R800). -/
def State.heatStop (s : State) (n sl : Nat) : Nat := if s.heatEnd n sl = 0 then 2 ^ 48 else s.heatEnd n sl
/-- VEC_Q, RES_Q, PARAM_Q and EVENT_Q by subindex. -/
def State.heatQ (s : State) (n sl sub : Nat) : Nat := s.heatSet n sl sub % 2 ^ 18

/-- The heat is live (R528). -/
def HeatSt.live (h : HeatSt) : Bool := h = .opening || h = .streaming || h = .held || h = .draining

/-- The slot of port `n` that is not IDLE and carries heat `id`, a live one first (R559). -/
def State.slotOf (s : State) (n id : Nat) : Option Nat :=
  match [0, 1].find? (fun sl => (s.heat n sl).st.live && s.heatId n sl = id) with
  | some sl => some sl
  | none => [0, 1].find? (fun sl => (s.heat n sl).st ≠ .idle && s.heatId n sl = id)

/-- The initiator of a port's manager. -/
abbrev managerNode (n : Nat) : Nat := 82 + n

/-- Report an error of a heat slot (R564, R685). -/
def reportHeat (code n sl : Nat) (index : Nat) (s : State) : State :=
  reportAt code 0x0C (n * 256 + sl) (BitVec.ofNat 32 (s.heatId n sl)) (BitVec.ofNat 64 index) s

/-- An error of the front end that R559 counts. -/
def countPartner (n id index : Nat) (s : State) : State :=
  match s.slotOf n id with
  | some sl =>
    let s := if (s.heat n sl).protoLogged then s else reportHeat 0x3808 n sl index s
    s.modHeat n sl (fun h => { h with proto := h.proto + 1, protoLogged := true })
  | none =>
    let s := if (s.vport n).strayLogged then s else reportAt 0x3808 0x0B n (BitVec.ofNat 32 id) 0 s
    s.modVPort n (fun p => { p with strays := p.strays + 1, strayLogged := true })

/-! ### Messages -/

/-- The header word of a message (R532). -/
def msgWord (code body heat : Nat) : Word := BitVec.ofNat 32 (code * 2 ^ 25 + body * 2 ^ 16 + heat)

/-- An index as two body words; `top` stands in bits [31:16] of the second (R533). -/
def indexWords (i top : Nat) : List Word := [BitVec.ofNat 32 i, BitVec.ofNat 32 (i / 2 ^ 32 % 2 ^ 16 + top * 2 ^ 16)]

/-- The index in body words `k` and `k + 1`. -/
def bodyIndex (b : List Word) (k : Nat) : Nat := (b.getD k 0).toNat + (b.getD (k + 1) 0).toNat % 2 ^ 16 * 2 ^ 32

/-- Send a CTL message of a heat. -/
def heatMsg (n sl code : Nat) (body : List Word) (s : State) : State :=
  ctlSend n (msgWord code body.length (s.heatId n sl) :: body) s

/-- Codes of HEAT_STATUS.STATE. -/
def heatCode (h : HeatSt) : Nat :=
  match h with
  | .idle => 0
  | .opening => 1
  | .streaming => 2
  | .held => 3
  | .draining => 4
  | .closed => 5
  | .voided => 6
  | .aborted => 7

/-! ### Records and events (R555-R557, R801) -/

/-- One packet joins what the manager is to push; to a lost queue it is discarded and counted. -/
def pushDue (n sl q : Nat) (poison : Bool) (ws : List Word) (s : State) : State :=
  if (s.heat n sl).lost.contains q then s.modHeat n sl (fun h => { h with badRecords := h.badRecords + 1 })
  else
    let k := ws.length
    s.modVPort n (fun p => { p with backlog := p.backlog ++ ws.zipIdx.map (fun e =>
      { slot := sl, q := q, w := { d := e.1, l := e.2 + 1 = k, i := false, p := poison } }) })

/-- A received message goes to EVENT_Q (R556). -/
def pushEvent (n sl : Nat) (poison : Bool) (ws : List Word) (s : State) : State := pushDue n sl (s.heatQ n sl 0x0D) poison ws s

/-- A STATE event (R533, R556). -/
def stateEvent (n sl : Nat) (s : State) : State :=
  let h := s.heat n sl
  pushEvent n sl false
    ([msgWord 0x7E 3 (s.heatId n sl), BitVec.ofNat 32 (heatCode h.st * 2 ^ 29 + h.cause * 2 ^ 24)] ++ indexWords h.voidIndex 0) s

/-- Push what is due while there are credits; a queue of a slot that is lost takes nothing (R557, R801). -/
def drainDue (n : Nat) : List Due → State → List Due × State
  | [], s => ([], s)
  | d :: ds, s =>
    if (s.heat n d.slot).lost.contains d.q then
      drainDue n ds (if d.w.l then s.modHeat n d.slot (fun h => { h with badRecords := h.badRecords + 1 }) else s)
    else if 0 < (s.producer (managerNode n) d.q).credits then
      let s := gatePush (managerNode n) d.q d.w s
      drainDue n ds s
    else (d :: ds, s)

/-- Send every PUSH gathered (R258, R557). -/
def sendGathered (i : Nat) (s : State) : State :=
  ((s.gate i).prod.map (·.1)).foldl (fun s q => gateSend i q s) s

/-- The manager pushes what it can. -/
def drain (n : Nat) (s : State) : State :=
  let (left, s) := drainDue n (s.vport n).backlog s
  sendGathered (managerNode n) (s.modVPort n (fun p => { p with backlog := left }))

/-- BODY of a message the front end sends, and its VC (R533); `none` for a code that is not one of them. -/
def feMessage (code : Nat) : Option (Nat × (Nat → Bool)) :=
  match code with
  | 0x11 => some (2, fun b => b = 0)
  | 0x12 => some (2, fun b => b = 1)
  | 0x13 => some (2, fun b => b = 2)
  | 0x14 => some (2, fun b => b = 2)
  | 0x15 => some (2, fun b => b = 2)
  | 0x16 => some (2, fun b => b = 3)
  | 0x17 => some (2, fun b => b = 3)
  | 0x30 => some (1, fun b => b % 4 = 0 && b ≤ 508)
  | 0x31 => some (1, fun b => b % 4 = 0 && b ≤ 508)
  | _ => none

/-- Messages only the device sends. -/
def deviceMessage (code : Nat) : Bool := (1 ≤ code && code ≤ 6) || code = 0x20 || code = 0x7E

/-- Fields of a header word. -/
def msgCode (w : Word) : Nat := (w.extractLsb' 25 7).toNat
def msgBody (w : Word) : Nat := (w.extractLsb' 16 9).toNat
def msgHeat (w : Word) : Nat := (w.extractLsb' 0 16).toNat

/-- Change the frame the manager is taking. -/
def modHead (n : Nat) (g : List Word → List Word) (s : State) : State :=
  s.modVPort n (fun p => { p with rx := match p.rx with
    | f :: fs => { f with words := g f.words } :: fs
    | [] => [] })

/-- The manager has taken every message of a frame: its credits are freed (R504, R506). -/
def freeHead (n : Nat) (s : State) : State :=
  s.modVPort n (fun p => match p.rx with
    | f :: fs =>
      if f.vc = 1 then { p with rx := fs, heldRes := p.heldRes - f.credits, freedRes := (p.freedRes + f.credits) % credMod, ackOwed := true }
      else { p with rx := fs, heldCtl := p.heldCtl - f.credits, freedCtl := (p.freedCtl + f.credits) % credMod, ackOwed := true }
    | [] => p)

/-- The checks of R559 on the message at the head: `none` where a valid message waits for its command, otherwise the machine after the
check has answered. -/
def skipHead (n : Nat) (f : RxFrame) (s : State) : Option State :=
  match f.words with
  | [] => none
  | w :: _ =>
    let code := msgCode w
    let reject (s : State) : State := countPartner n (msgHeat w) 0 s
    if (deviceMessage code || (feMessage code).isSome) && msgBody w + 1 ≤ f.words.length then
      if deviceMessage code then some (reject (modHead n (fun ws => ws.drop (msgBody w + 1)) s))
      else match feMessage code with
        | some (vc, good) => if vc = f.vc && good (msgBody w) then none else some (reject (modHead n (fun _ => []) s))
        | none => none
    else some (reject (modHead n (fun _ => []) s))

/-- Go on through the accepted frames up to the next message that waits for its command, or to a stall (R557, R559). -/
def settleRx (n : Nat) : Nat → State → State
  | 0, s => s
  | k + 1, s =>
    let s := drain n s
    match (s.vport n).rx with
    | [] => s
    | f :: _ =>
      if !(s.vport n).backlog.isEmpty then s
      else if f.words.isEmpty then settleRx n k (freeHead n s)
      else match skipHead n f s with
        | some s' => settleRx n k s'
        | none => s

/-- Enough steps to pass everything that waits. -/
def settle (n : Nat) (s : State) : State :=
  settleRx n (((s.vport n).rx.map (fun f => f.words.length + 2)).foldl (· + ·) 1) s

/-! ### How a heat ends (R548, R552) -/

/-- AT_HEAT commits of a heat that leaves its live state fail (R654). -/
def failHeatTx (n sl : Nat) (s : State) : State :=
  (List.range 5).foldl (fun s k =>
    let x := s.session k
    if x.txSt = .committing && x.txWhen = .atHeat && x.txHeat.toNat / 16 % 8 = n && x.txHeat.toNat % 2 = sl then txLeaves k .failed .heatEnded s
    else s) s

/-- A live heat ends in `st` with a CAUSE: VOID_INDEX is taken, the answer to its POP is stale, a STATE event is pushed, and entry into
VOIDED is logged. -/
def endHeat (n sl : Nat) (st : HeatSt) (cause : Nat) (abort : Bool) (s : State) : State :=
  let s := s.modHeat n sl (fun h => { h with st := st, cause := cause, voidIndex := h.applied, cur := [], built := [], voidPend := false })
  let s := s.modVPort n (fun p => { p with popOut := if p.popOut = some sl then some 2 else p.popOut, retry := false })
  let s := if abort then heatMsg n sl 0x06 [BitVec.ofNat 32 cause] s else s
  let s := if st = .voided then reportHeat 0x3806 n sl (s.heat n sl).voidIndex s else s
  drain n (stateEvent n sl (failHeatTx n sl s))

/-- A live heat is voided; any other stays as it is. -/
def voidHeat (n sl cause : Nat) (abort : Bool) (s : State) : State :=
  if (s.heat n sl).st.live then endHeat n sl .voided cause abort s else s

/-- Every live heat of a port is voided (R513). -/
def voidHeats (n cause : Nat) (s : State) : State := voidHeat n 1 cause false (voidHeat n 0 cause false s)

/-! ### The supply of vectors (R536-R539, R799) -/

/-- Vectors that fit a VECTORS message. -/
def vectorsFit (w : Nat) : Nat := 509 / w

/-- Send the VECTORS message being built. -/
def sendBuilt (n sl : Nat) (s : State) : State :=
  let h := s.heat n sl
  if h.built.isEmpty then s else
  let k := h.built.length
  let ws := indexWords (h.nextSend - k) k ++ h.built.flatten
  let s := s.modVPort n (fun p => { p with txVec := p.txVec ++ [msgWord 0x20 ws.length (s.heatId n sl) :: ws] })
  s.modHeat n sl (fun h => { h with built := [] })

/-- The heat enters DRAINING: END = NEXT_SEND and CLOSE follows the last vectors (R548, R800). -/
def beginDrain (n sl : Nat) (pend : Bool) (s : State) : State :=
  let e := (s.heat n sl).nextSend
  let s := s.modHeat n sl (fun h => { h with st := .draining, voidPend := pend, cur := [] })
  let s := s.modVPort n (fun p => { p with popOut := if p.popOut = some sl then some 2 else p.popOut, retry := false })
  let s := s.putSetting (heatIdx n sl) 6 (BitVec.ofNat 64 (e % 2 ^ 48))
  drain n (stateEvent n sl (heatMsg n sl 0x05 (indexWords e 0) (sendBuilt n sl s)))

/-- A malformed packet (R538). -/
def heatMalformed (n sl : Nat) (s : State) : State := beginDrain n sl true (reportHeat 0x3805 n sl (s.heat n sl).nextSend s)

/-- A whole vector takes the next index; a full message is sent, and END may be reached. -/
def takeVector (n sl : Nat) (v : List Word) (s : State) : State :=
  let s := s.modHeat n sl (fun h => { h with cur := [], built := h.built ++ [v], nextSend := h.nextSend + 1 })
  let h := s.heat n sl
  let s := if h.st = .streaming && vectorsFit (s.heatWords n sl) ≤ h.built.length then sendBuilt n sl s else s
  if s.heatStop n sl ≤ h.nextSend then beginDrain n sl false s else s

/-- One word popped from a vector queue (R537, R538). -/
def vectorWord (n sl : Nat) (s : State) (w : QWord) : State :=
  let h := s.heat n sl
  if !(h.st = .streaming || h.st = .held) then s
  else if w.i then (if h.cur.isEmpty then s.modHeat n sl (fun h => { h with idleWords := h.idleWords + 1 }) else heatMalformed n sl s)
  else if w.p then heatMalformed n sl s
  else
    let v := h.cur ++ [w.d]
    if v.length < s.heatWords n sl then (if w.l then heatMalformed n sl s else s.modHeat n sl (fun h => { h with cur := v }))
    else if w.l then takeVector n sl v s
    else heatMalformed n sl s

/-- Send what is built when the queue has nothing more, in STREAMING (R539). -/
def vectorPause (n sl : Nat) (s : State) : State := if (s.heat n sl).st = .streaming then sendBuilt n sl s else s

/-- The answer to a POP of a vector queue. -/
def vectorAnswer (n sl : Nat) (st : PopStatus) (ws : List QWord) (s : State) : State :=
  match st with
  | .ok => ws.foldl (vectorWord n sl) s
  | .idle => vectorPause n sl (ws.foldl (vectorWord n sl) s)
  | .empty => vectorPause n sl s
  | _ => (vectorPause n sl s).modVPort n (fun p => { p with retry := true })

/-- The queue whose turn it is (R530). -/
def turnQueue (s : State) (n sl : Nat) : Nat :=
  s.heatQ n sl 0x0A + ((s.heat n sl).nextSend - s.heatStart n sl) % max 1 (s.heatWays n sl)

/-- A pending AT_HEAT commit holds the vector of index NEXT_SEND (R654). -/
def heatHeld (s : State) (n sl : Nat) : Bool :=
  (List.range 5).any (fun k =>
    let x := s.session k
    x.txSt = .committing && x.txWhen = .atHeat && x.txHeat.toNat / 16 % 8 = n && x.txHeat.toNat % 2 = sl &&
      x.txHeatIndex.toNat % 2 ^ 48 ≤ (s.heat n sl).nextSend)

/-- Send a POP for the words the vector under way still lacks. -/
def sendVectorPop (n sl : Nat) (s : State) : State :=
  let k := min 16 (s.heatWords n sl - (s.heat n sl).cur.length)
  let q := turnQueue s n sl
  (s.modVPort n (fun p => { p with popOut := some sl, retry := false })).request (managerNode n) tundishNode 0 0 (.pop q k)

end Sys2Proof.Machine
end

