-- ==== Sys2Proof/Machine/Villet.lean ====
section
/-! DEFINITION. The Villet link: frames received and sent, replay, INIT, lanes, timers and LINK_CMD (R474-R527, R797, R798). -/

namespace Sys2Proof.Machine

/-! ### Movements of the state machine (R514) -/

/-- Enter INIT from ALIGN or ACTIVE: an INIT is sent (R510). -/
def enterInit (n : Nat) (s : State) : State := sendInit n (enterLink n .init s)

/-- A link-layer reset that ends the heats of the port with a CAUSE (R513, R548). -/
def resetEnding (n cause : Nat) (s : State) : State := voidHeats n cause (linkReset n s)

/-- The stop of a port: DISABLED, its runner port closing, until its domain is powered up again (R514, R527, R695). -/
def portHalt (n : Nat) (s : State) : State :=
  let s := (enterLink n .disabled s).modVPort n (fun p => { p with stopped := true })
  closePort 11 (9 + n) (gateAbandon (managerNode n) (resetEnding n 8 s))

/-- The port stops on a fatal fault. -/
def portStop (n : Nat) (s : State) : State := portHalt n (reportPort 0x4801 n 0 s)

/-- A round of replay begins (R498, R499): the round before it ends, and counts if it made no progress. `a` is the ACK of the NAK, `log` whether
0x2801 may be logged; `ecc` what the replay buffer's check finds. -/
def startRound (n : Nat) (a : Option Nat) (log : Bool) (ecc : Ecc) (s : State) : State :=
  let p := s.vport n
  match p.unacked.getLast? with
  | none => s
  | some last =>
    let stuck := p.roundOldest = some p.oldest
    let rounds := if stuck then p.rounds + 1 else p.rounds
    let s := s.modVPort n (fun p =>
      { p with resend := p.unacked.map (·.seq), replayAck := a, roundOldest := some p.oldest, rounds := rounds, replays := p.replays + 1 })
    let s := if log && !p.replayLogged then
        (reportRecovering { code := 0x2801, kind := 0x0B, oid := n, aux := 0, detail := BitVec.ofNat 64 p.oldest } s).modVPort n (fun p =>
          { p with replayLogged := true, recs := p.recs ++ [(0x2801, last.seq)] })
      else s
    match ecc with
    | .uncorrectable => enterLink n .align (resetEnding n 6 (reportPort 0x3803 n p.oldest s))
    | _ =>
      let s := if ecc = .corrected then reportPort 0x1801 n p.oldest s else s
      if stuck && s.linkSet n 6 ≤ rounds && p.st = .active then enterRetrain n s else s

/-! ### Frames received (R490-R499, R509-R512, R517) -/

/-- A frame reaches port `n`: a bad one is discarded and counted, a good one is acted on. -/
def frameRow (mine : Nat → Bool) (n : Nat) (ws : List Word) (cut : Bool) (act : RxHeader → State → State) (s : State) : Result :=
  let h := parseFrame ws cut
  event (s.portUp n && (s.vport n).st ≠ .disabled && mine h.ty) s
    (if h.crcOk && h.wellFormed then act h s else badFrame n h s)

/-- A good frame other than INIT in ACTIVE: one of another EPOCH moves the port to INIT (R512), any other gives ACK and credits. -/
def inActive (n : Nat) (h : RxHeader) (act : State → State) (s : State) : State :=
  let p := s.vport n
  if p.st ≠ .active then s
  else if h.epoch ≠ p.partner then enterInit n s
  else act (takeFields n h s)

/-- The receiver has room for a frame (R503, R506). -/
def VPort.covers (p : VPort) (vc c : Nat) : Bool := if vc = 1 then p.heldRes + c ≤ 2048 else p.heldCtl + c ≤ 256

/-- A DATA frame in order and covered is accepted and goes to the manager (R494, R496). -/
def acceptFrame (n : Nat) (h : RxHeader) (ecc : Ecc) (s : State) : State :=
  let c := creditsOf h.len
  let s := s.modVPort n (fun p =>
    let p := if h.vc = 1 then { p with heldRes := p.heldRes + c } else { p with heldCtl := p.heldCtl + c }
    { p with expect := (p.expect + 1) % seqMod, nakOut := false, ackOwed := true, framesRx := p.framesRx + 1
             rx := p.rx ++ [{ vc := h.vc, words := h.payload, poison := ecc = .uncorrectable, credits := c }] })
  let s := match ecc with
    | .ok => s
    | .corrected => reportPort 0x1801 n h.seq s
    | .uncorrectable => reportPort 0x3804 n h.seq s
  settle n s

/-- A DATA frame by its SEQ (R494). -/
def dataFrame (n : Nat) (h : RxHeader) (ecc : Ecc) (s : State) : State :=
  let p := s.vport n
  let d := (h.seq + seqMod - p.expect) % seqMod
  if d = 0 then
    if p.covers h.vc (creditsOf h.len) then acceptFrame n h ecc s
    else sendNak n (s.modVPort n (fun p => { p with protoErrors := p.protoErrors + 1 }))
  else if d < 2 ^ 19 then sendNak n s
  else sendAck n (s.modVPort n (fun p => { p with dups := p.dups + 1 }))

/-- DATA_FRAME (R494): a DATA frame, or one whose TYPE is reserved or unreadable. -/
def execDataFrame (n : Nat) (ws : List Word) (cut : Bool) (ecc : Ecc) (s : State) : Result :=
  frameRow (fun ty => !(2 ≤ ty && ty ≤ 4)) n ws cut (fun h s =>
    if (s.vport n).st ≠ .active then s.modVPort n (fun p => { p with outOfState := p.outOfState + 1 })
    else inActive n h (dataFrame n h ecc) s) s

/-- ACK_FRAME (R497). -/
def execAckFrame (n : Nat) (ws : List Word) (cut : Bool) (s : State) : Result :=
  frameRow (fun ty => ty = 2) n ws cut (fun h s => inActive n h (fun s => s) s) s

/-- NAK_FRAME (R498, R499): a repeat of the NAK whose frames are being resent is ignored. -/
def execNakFrame (n : Nat) (ws : List Word) (cut : Bool) (ecc : Ecc) (s : State) : Result :=
  frameRow (fun ty => ty = 3) n ws cut (fun h s => inActive n h (fun s =>
    let s := s.modVPort n (fun p => { p with naksReceived := p.naksReceived + 1 })
    let p := s.vport n
    if !p.resend.isEmpty && p.replayAck = some h.ack then s else startRound n (some h.ack) true ecc s) s) s

/-- INIT completes (R509): as a resume, as the first meeting, or with a partner that has reset. -/
def completeInit (n : Nat) (h : RxHeader) (ecc : Ecc) (s : State) : State :=
  let p := s.vport n
  let active (s : State) : State := enterLink n .active (sendInit n s)
  if h.epoch = p.partner then
    let s := active ((takeFields n h s).modVPort n (fun p => { p with resumed := true, retrained := false }))
    let s := if p.retrained then
        let s := reportRecovering { code := 0x2802, kind := 0x0B, oid := n, aux := 0, detail := BitVec.ofNat 64 (s.vport n).oldest } s
        match (s.vport n).unacked.getLast? with
        | some last => s.modVPort n (fun p => { p with recs := p.recs ++ [(0x2802, last.seq)] })
        | none => recoveryEnds 0x2802 0x0B n true s
      else s
    startRound n none false ecc s
  else if p.partner = 0 then active (s.modVPort n (fun p => { p with partner := h.epoch, resumed := false, retrained := false }))
  else
    (voidHeats n 7 (linkReset n (reportPort 0x3801 n 0 s))).modVPort n (fun p => { p with partner := h.epoch, resumed := false, retrained := false })

/-- An INIT taken in INIT (R509-R511). -/
def takeInit (n : Nat) (h : RxHeader) (ecc : Ecc) (s : State) : State :=
  let s := s.modVPort n (fun p => { p with seen := h.epoch })
  if (h.payload.getD 0 0).extractLsb' 16 16 = (s.vport n).epoch then completeInit n h ecc s else s

/-- INIT_FRAME (R491, R509, R511). -/
def execInitFrame (n : Nat) (ws : List Word) (cut : Bool) (ecc : Ecc) (s : State) : Result :=
  frameRow (fun ty => ty = 4) n ws cut (fun h s =>
    let p := s.vport n
    let w := h.payload.getD 0 0
    if w.extractLsb' 8 8 ≠ (1 : BitVec 8) then s.modVPort n (fun p => { p with protoErrors := p.protoErrors + 1 })
    else if !(p.st = .init || p.st = .active) then s
    else if p.st = .active then
      if h.epoch = p.partner && w.extractLsb' 16 16 = p.epoch then s else takeInit n h ecc (enterInit n s)
    else takeInit n h ecc s) s

/-! ### Lanes (R481-R485) -/

/-- Lane `l` of a port. -/
def VPort.lane (p : VPort) (l : Nat) : Lane := Tab.get Lane.reset p.lanes l

/-- Change it. -/
def modLane (n l : Nat) (g : Lane → Lane) (s : State) : State :=
  s.modVPort n (fun p => { p with lanes := Tab.modify Lane.reset p.lanes l g })

/-- Lanes of the port receive. -/
def lanesOn (s : State) (n l : Nat) : Bool := s.portUp n && l < 8 && (s.vport n).st ≠ .disabled

/-- A lane that loses a lock takes the port out of INIT and ACTIVE (R514). -/
def lockLost (n : Nat) (s : State) : State :=
  if (s.vport n).st = .init || (s.vport n).st = .active then enterRetrain n s else s

/-- LANE_BLOCK_LOCK (R483). -/
def execLaneBlockLock (n l : Nat) (s : State) : Result := event (lanesOn s n l) s (modLane n l (fun x => { x with block := true }) s)

/-- LANE_BLOCK_LOCK_LOSS (R483). -/
def execLaneBlockLockLoss (n l : Nat) (s : State) : Result :=
  event (lanesOn s n l && ((s.vport n).lane l).block) s (lockLost n (modLane n l (fun x => { x with block := false, marker := false }) s))

/-- LANE_MARKER_LOCK (R484): two markers name logical lane `k`. -/
def execLaneMarkerLock (n l k : Nat) (s : State) : Result :=
  event (lanesOn s n l && k < 8 && ((s.vport n).lane l).block) s (modLane n l (fun x => { x with marker := true, logical := k }) s)

/-- LANE_MARKER_LOCK_LOSS (R484). -/
def execLaneMarkerLockLoss (n l : Nat) (s : State) : Result :=
  event (lanesOn s n l && ((s.vport n).lane l).marker) s (lockLost n (modLane n l (fun x => { x with marker := false }) s))

/-- Every lane holds both locks and the logical numbers are distinct (R485). -/
def VPort.aligned (p : VPort) : Bool :=
  (List.range 8).all (fun l => (p.lane l).block && (p.lane l).marker) && ((List.range 8).map (fun l => (p.lane l).logical)).Nodup

/-- LANES_ALIGNED (R485): the skews found, in 1/8 block times and at most 16 blocks, and the equaliser codes. -/
def execLanesAligned (n : Nat) (skews eqs : List Nat) (s : State) : Result :=
  event (s.portUp n && (s.vport n).st = .align && (s.vport n).aligned && skews.all (· ≤ 128)) s
    (enterInit n ((List.range 8).foldl (fun s l => modLane n l (fun x => { x with skew := skews.getD l 0, eq := eqs.getD l 0 % 256 }) s) s))

/-- MARKER_RECEIVED (R480, R481): a marker on physical lane `l`; one whose BIP-8 is not `bip`, the parity of the blocks that the lane has received
since the one before, is counted. -/
def execMarkerReceived (n l : Nat) (b : Block) (bip : Byte) (s : State) : Result :=
  event (lanesOn s n l && b = markerBlock (blockByte b 1).toNat (blockByte b 3) && blockByte b 3 ≠ bip) s (modLane n l (fun x => { x with bip := x.bip + 1 }) s)

/-- CODING_ERROR_BLOCK (R482): a block, descrambled, that the receiver discards and counts: a coding error, or a data block while it is not inside a
frame. -/
def execCodingErrorBlock (n : Nat) (b : Block) (inFrame : Bool) (s : State) : Result :=
  event (lanesOn s n 0 && (blockKind b = .coding || (blockKind b = .data && !inFrame))) s
    (s.modVPort n (fun p => { p with codingErrors := p.codingErrors + 1 }))

/-- RETRAIN_RUN_START (R798): a RETRAIN block that follows, while the lanes are aligned, the block `prev`, which is neither RETRAIN nor MARKER. -/
def execRetrainRunStart (n : Nat) (prev b : Block) (s : State) : Result :=
  event (s.portUp n && ((s.vport n).st = .init || (s.vport n).st = .active) && (s.vport n).aligned && blockKind b = .retrain &&
    blockKind prev ≠ .retrain && blockKind prev ≠ .marker) s (enterRetrain n s)

/-! ### Frames sent (R493, R498, R501-R503) -/

/-- Bytes of the replay buffer in use (R501). -/
def VPort.buffered (p : VPort) : Nat := (p.unacked.map (fun f => 20 + 4 * f.words.length)).foldl (· + ·) 0

/-- A payload may be sent for the first time: its credits are covered and the replay buffer has room. -/
def VPort.maySend (p : VPort) (con lim len : Nat) : Bool :=
  creditsOf len ≤ (lim + credMod - con) % credMod && p.buffered + 20 + 4 * len ≤ 262144

/-- The VC whose head payload goes next, CTL before VEC (R501). -/
def VPort.nextVc (p : VPort) : Option Nat :=
  if p.txCtl.head?.any (fun ws => p.maySend p.conCtl p.limCtl ws.length) then some 2
  else if p.txVec.head?.any (fun ws => p.maySend p.conVec p.limVec ws.length) then some 0
  else none

/-- Resend one frame of a round (R493, R498). -/
def resendOne (n : Nat) (s : State) : State :=
  match (s.vport n).resend with
  | [] => s
  | q :: qs =>
    match (s.vport n).unacked.find? (fun f => f.seq = q) with
    | none => s.modVPort n (fun p => { p with resend := qs })
    | some f => (sendFrame n 1 f.vc f.seq f.words s).modVPort n (fun p => { p with resend := qs, replayed := p.replayed + 1 })

/-- Resend what is left of the round. -/
def resendAll (n : Nat) : Nat → State → State
  | 0, s => s
  | k + 1, s => resendAll n k (resendOne n s)

/-- First transmission of a payload of a VC. -/
def sendFirst (n vc : Nat) (s : State) : State :=
  let p := s.vport n
  let q := if vc = 2 then p.txCtl else p.txVec
  match q with
  | [] => s
  | ws :: rest =>
    let c := creditsOf ws.length
    (sendFrame n 1 vc p.nextSeq ws s).modVPort n (fun p =>
      let p : VPort := { p with nextSeq := (p.nextSeq + 1) % seqMod, unacked := p.unacked ++ [{ seq := p.nextSeq, vc := vc, words := ws }] }
      if vc = 2 then { p with txCtl := rest, conCtl := (p.conCtl + c) % credMod }
      else { p with txVec := rest, conVec := (p.conVec + c) % credMod })

/-- DATA_FRAME_SEND (R501-R503): the frames of a round under way go first. -/
def execDataFrameSend (n : Nat) (s : State) : Result :=
  let p := s.vport n
  match p.nextVc with
  | some vc => event (s.portUp n && p.st = .active) s (sendFirst n vc (resendAll n p.resend.length s))
  | none => ok s

/-- The blocks a port sends while no frame is due: a group of IDLE, or of RETRAIN in that state (R480, R516; log 38). -/
def fillBlocks (st : LinkSt) : List Block := List.replicate 8 (if st = .retrain then retrainBlock else idleBlock)

/-- On a pour tick a port that is replaying resends its next frame, and any other whose transmitters are on fills the time (log 38). -/
def villetTick (s : State) : State :=
  s.villet.ports.foldl (fun s e =>
    if !s.portUp e.1 || e.2.st = .disabled then s
    else if e.2.st = .active && !e.2.resend.isEmpty then resendOne e.1 s
    else sendBlocks e.1 (fillBlocks e.2.st) s) s

/-! ### Timers (R498, R500, R510, R514, R519) -/

/-- ACK_DELAY_EXPIRY (R500). -/
def execAckDelayExpiry (n : Nat) (s : State) : Result :=
  event (s.portUp n && (s.vport n).st = .active && (s.vport n).ackOwed) s (sendAck n s)

/-- REPLAY_TIMEOUT (R498). -/
def execReplayTimeout (n : Nat) (ecc : Ecc) (s : State) : Result :=
  event (s.portUp n && (s.vport n).st = .active && !(s.vport n).unacked.isEmpty) s (startRound n none true ecc s)

/-- KEEPALIVE (R519). -/
def execKeepalive (n : Nat) (s : State) : Result := event (s.portUp n && (s.vport n).st = .active) s (sendAck n s)

/-- DEAD_TIMEOUT (R514). -/
def execDeadTimeout (n : Nat) (s : State) : Result := event (s.portUp n && (s.vport n).st = .active) s (enterRetrain n s)

/-- ALIGN_TIMEOUT (R514). -/
def execAlignTimeout (n : Nat) (s : State) : Result := event (s.portUp n && (s.vport n).st = .align) s (enterRetrain n s)

/-- INIT_TIMEOUT (R514). -/
def execInitTimeout (n : Nat) (s : State) : Result := event (s.portUp n && (s.vport n).st = .init) s (enterRetrain n s)

/-- RETRAIN_HOLD (R514): back to ALIGN, or FAILED with the attempts at RETRAIN_LIMIT. -/
def execRetrainHold (n : Nat) (s : State) : Result :=
  event (s.portUp n && (s.vport n).st = .retrain) s
    (if (s.vport n).attempts < s.linkSet n 0x0D then enterLink n .align s
     else resetEnding n 8 (enterLink n .failed (reportPort 0x3802 n 0 s)))

/-- INIT_INTERVAL (R510). -/
def execInitInterval (n : Nat) (s : State) : Result := event (s.portUp n && (s.vport n).st = .init) s (sendInit n s)

/-- ATTEMPT_COUNTER_RESET (R514). -/
def execAttemptCounterReset (n : Nat) (s : State) : Result :=
  event (s.portUp n && (s.vport n).st = .active) s (s.modVPort n (fun p => { p with attempts := 0 }))

/-! ### LINK_CMD (R514, R515, R524, R527) -/

/-- A heat of the port is live. -/
def anyLive (s : State) (n : Nat) : Bool := (s.heat n 0).st.live || (s.heat n 1).st.live

/-- ENABLE. -/
def linkEnable (n : Nat) (s : State) : Except Word State :=
  let p := s.vport n
  need ((p.st = .disabled && !p.stopped) || p.st = .failed) abortState (.ok (enterLink n .align (resetEnding n 6 s)))

/-- RESET. -/
def linkCmdReset (n : Nat) (force : Bool) (s : State) : Except Word State :=
  need ((s.vport n).st ≠ .disabled && (force || !anyLive s n)) abortState (.ok (enterLink n .align (resetEnding n 6 s)))

/-- DISABLE. -/
def linkDisable (n : Nat) (force : Bool) (s : State) : Except Word State :=
  need ((s.vport n).st ≠ .disabled && (force || !anyLive s n)) abortState (.ok (enterLink n .disabled (resetEnding n 8 s)))

/-- RETRAIN. -/
def linkRetrain (n : Nat) (s : State) : Except Word State :=
  need ((s.vport n).st = .active) abortState (.ok (enterRetrain n s))

/-- LINK_CMD_ENABLE (R514, R527). -/
def execLinkCmdEnable (path n : Nat) (s : State) : Result :=
  dictCommand path (0x3500 + 32 * n) 2 2 (fun s => need (n < 6) abortNoIndex (linkEnable n s)) s

/-- LINK_CMD_DISABLE (R515). -/
def execLinkCmdDisable (path n : Nat) (force : Bool) (s : State) : Result :=
  dictCommand path (0x3500 + 32 * n) 2 2 (fun s => need (n < 6) abortNoIndex (linkDisable n force s)) s

/-- LINK_CMD_RESET (R515). -/
def execLinkCmdReset (path n : Nat) (force : Bool) (s : State) : Result :=
  dictCommand path (0x3500 + 32 * n) 2 2 (fun s => need (n < 6) abortNoIndex (linkCmdReset n force s)) s

/-- LINK_CMD_RETRAIN (R514). -/
def execLinkCmdRetrain (path n : Nat) (s : State) : Result :=
  dictCommand path (0x3500 + 32 * n) 2 2 (fun s => need (n < 6) abortNoIndex (linkRetrain n s)) s

/-- A write of LINK_CMD, taken apart (R524). -/
def linkCmdApply (n : Nat) (v : Word) (s : State) : Except Word State :=
  match (v.extractLsb' 28 4).toNat with
  | 1 => linkEnable n s
  | 2 => linkDisable n (v.getLsbD 0) s
  | 3 => linkCmdReset n (v.getLsbD 0) s
  | 4 => linkRetrain n s
  | _ => .error abortValue

/-- SERDES_REF_LOSS (R526): port `n` stops, and with a shared reference the other port of its pair. -/
def execSerdesRefLoss (n : Nat) (shared : Bool) (s : State) : Result :=
  let stop (n : Nat) (s : State) : State := if s.portUp n && !(s.vport n).stopped then portStop n s else s
  event (n < 6) s (if shared then stop (2 * (n / 2) + 1) (stop (2 * (n / 2)) s) else stop n s)

/-! ### Power and release (R508, R514) -/

/-- The domain of port `n` has been powered up: everything is at reset and the EPOCH is drawn, and so is what the
scramblers start from (log 38). -/
def portPowerUp (n : Nat) (s : State) : State :=
  let e := Config.epoch s.fresh
  let tx := Tab.ofFn LaneTx.reset (fun k => { scr := Config.free (s.fresh + 1 + k), bip := 0 }) (List.range 8)
  let s := { s with fresh := s.fresh + 9 }
  let s := s.modVPort n (fun _ => { VPort.reset with epoch := if e = 0 then 1 else e, epochKept := true, tx := tx })
  [0, 1].foldl (fun s sl => s.modHeat n sl (fun _ => .reset)) s

/-- Release with AUTO_ENABLE = 1 (R514, R527). -/
def autoEnable (n : Nat) (s : State) : State :=
  if s.portUp n && (s.settingW (0x3500 + 32 * n) 3).getLsbD 31 then
    match linkEnable n s with
    | .ok s' => s'
    | .error _ => s
  else s

/-! ### Entries (R522-R525) -/

/-- Codes of LINK_STATUS.STATE. -/
def linkCode (l : LinkSt) : Nat :=
  match l with
  | .disabled => 0
  | .align => 1
  | .init => 2
  | .active => 3
  | .retrain => 4
  | .failed => 5

/-- LINK_STATUS. -/
def linkStatus (p : VPort) : Nat :=
  let b (c : Bool) (k : Nat) : Nat := if c then 2 ^ k else 0
  linkCode p.st * 2 ^ 29 + b p.nakOut 20 + b (!p.resend.isEmpty) 19 + b p.resumed 18 + min p.attempts 255 * 256 +
    (List.range 8).foldl (fun n k => n + b ((List.range 8).any (fun l => (p.lane l).block && (p.lane l).marker && (p.lane l).logical = k)) k) 0

/-- LANE_STATUS. -/
def laneStatus (x : Lane) : Nat :=
  (if x.block then 2 ^ 31 else 0) + (if x.marker then 2 ^ 30 else 0) + (if x.marker then x.logical else 0) * 2 ^ 27 +
    (if x.marker then x.skew % 256 else 0) * 256 + x.eq

/-- The lane a path has selected. -/
def selLane (s : State) (path n : Nat) : Nat := s.selector path (0x3501 + 32 * n) 1 % 8

/-- Live entries of port `n`: block `i` of its three, subindex `sub`. -/
def linkRead (s : State) (path n i sub : Nat) : Option DWord :=
  let p := s.vport n
  let v (x : Nat) : Option DWord := some (BitVec.ofNat 64 x)
  let w (x : Word) : Option DWord := some (x.setWidth 64)
  match i, sub with
  | 0, 0x01 => v (linkStatus p)
  | 0, 0x0E => v (p.epoch.toNat * 2 ^ 16 + p.partner.toNat)
  | 0, 0x0F => v (p.expect * 2 ^ 32 + p.nextSeq)
  | 0, 0x11 => v (p.unacked.length % 4096 * 2 ^ 20 + p.oldest)
  | 0, 0x12 => v (p.limVec * 2 ^ 48 + p.conVec * 2 ^ 32 + p.limCtl * 2 ^ 16 + p.conCtl)
  | 0, 0x14 => v (p.grantRes * 2 ^ 48 + p.heldRes * 2 ^ 32 + p.grantCtl * 2 ^ 16 + p.heldCtl)
  | 1, 0x02 => v (laneStatus (p.lane (selLane s path n)))
  | 1, 0x04 => w (p.lane (selLane s path n)).bip
  | 2, 0x01 => some p.framesTx
  | 2, 0x03 => some p.framesRx
  | 2, 0x05 => w p.badFrames
  | 2, 0x06 => w p.naksSent
  | 2, 0x07 => w p.naksReceived
  | 2, 0x08 => w p.replays
  | 2, 0x09 => w p.replayed
  | 2, 0x0A => w p.dups
  | 2, 0x0B => w p.protoErrors
  | 2, 0x0C => w p.codingErrors
  | 2, 0x0D => w p.retrains
  | 2, 0x0E => w p.outOfState
  | 2, 0x0F => w p.strays
  | _, _ => none

/-- Reads that clear. -/
def linkReadClear (path n i sub : Nat) (s : State) : State :=
  if i = 1 && sub = 4 then modLane n (selLane s path n) (fun x => { x with bip := 0 }) s
  else if i = 2 then s.modVPort n (fun p => match sub with
    | 0x01 => { p with framesTx := 0 }
    | 0x03 => { p with framesRx := 0 }
    | 0x05 => { p with badFrames := 0 }
    | 0x06 => { p with naksSent := 0 }
    | 0x07 => { p with naksReceived := 0 }
    | 0x08 => { p with replays := 0, replayLogged := false }
    | 0x09 => { p with replayed := 0 }
    | 0x0A => { p with dups := 0 }
    | 0x0B => { p with protoErrors := 0 }
    | 0x0C => { p with codingErrors := 0 }
    | 0x0D => { p with retrains := 0 }
    | 0x0E => { p with outOfState := 0 }
    | 0x0F => { p with strays := 0, strayLogged := false }
    | _ => p)
  else s

end Sys2Proof.Machine
end

