-- ==== Sys2Proof/Machine/HostOps.lean ====
section
/-! DEFINITION. What the host attachments share (15_host_interfaces.md): MSI-X vectors and the events that send them, the CoE error
register and Emergency messages, and the settings of the DMA engines. -/

namespace Sys2Proof.Machine

/-- Change the endpoint and the slave. -/
def State.modPcie (s : State) (g : Pcie → Pcie) : State := { s with pcie := g s.pcie }
def State.modEcat (s : State) (g : Ecat → Ecat) : State := { s with ecat := g s.ecat }

/-- DMA engine `e`. -/
def State.dma (s : State) (e : Nat) : Dma := Tab.get Dma.reset s.pcie.engines e
def State.modDma (s : State) (e : Nat) (g : Dma → Dma) : State :=
  s.modPcie (fun p => { p with engines := Tab.modify Dma.reset p.engines e g })

/-- The node of the endpoint. -/
abbrev hostNode : Nat := 88

/-- The marks of what the endpoint sends: the host's BAR2 accesses, its POPs of BAR4, and engine `e`. -/
abbrev whoHost : Nat := 100
abbrev whoBar4 : Nat := 101
def whoDma (e : Nat) : Nat := 1 + e

/-! ### MSI-X (R714, R715) -/

/-- A vector may be sent now. -/
def msixOpen (p : Pcie) (v : Nat) : Bool := p.msixOn && !p.msixMask && !(Tab.get MsixVec.reset p.vectors v).masked

/-- A vector is due: it is sent, or its pending bit is set (R714). -/
def msixSend (v : Nat) (s : State) : State :=
  let x := Tab.get MsixVec.reset s.pcie.vectors v
  if s.pcie.linkUp && msixOpen s.pcie v then s.emit (.msix x.addr x.data)
  else s.modPcie (fun p => { p with pendingBits := Tab.set false p.pendingBits v true })

/-- An event sends the vector its entry names, if it is enabled. -/
def eventVector (sub : Nat) (s : State) : State :=
  let c := s.settingW 0x2600 sub
  if c.getLsbD 31 then msixSend (c.extractLsb' 0 11).toNat s else s

/-- EVT_LOG: the log has gained an entry after LOG_SEEN of path 88. -/
def evtLog (seq : Word) (s : State) : State :=
  if seqAfter seq (BitVec.ofNat 32 (s.selector hostNode 0x2400 0x13)) then eventVector 3 s else s

/-- EVT_CHILL: NEW of a bank has passed from 0 to 1. -/
def evtChill (s : State) : State := eventVector 4 s

/-! ### The error register and Emergency messages (R638, R720) -/

/-- A domain, or a block of it, has stopped on a fatal fault. -/
def fatalStopped (s : State) : Bool :=
  s.flasks.any (fun e => e.2.role = .stopped) || s.tun.stopped || s.cup.stopped || s.net.routers.any (fun e => e.2.stopped) ||
    s.cores.any (fun e => e.2.st = .halted) || s.catch'.chans.any (fun e => e.2.fault) || s.villet.ports.any (fun e => e.2.stopped) ||
    s.dict.stopped

/-- Errors not yet acknowledged (R686). -/
def logUnack (s : State) : Nat := s.chill.unackSeq.length + s.chill.unackLost.length

/-- The error register (0x1001:00). -/
def errorRegister (s : State) : Nat := (if fatalStopped s then 128 else 0) + (if logUnack s = 0 then 0 else 1)

/-- The mailbox runs in every state but INIT (R722). -/
def mailRuns (s : State) : Bool := s.ecat.al ≠ .init

/-- Send the oldest waiting Emergency, if mailbox in is free. -/
def sendMail (s : State) : State :=
  match s.ecat.mails with
  | m :: rest => if mailRuns s && !s.ecat.mailFull then (s.modEcat (fun e => { e with mailFull := true, mails := rest })).emit (.emergency m) else s
  | [] => s

/-- An Emergency for a log entry of class 3 or 4: at most 16 wait (R720). -/
def emergency (code : BitVec 16) (seq : Word) (s : State) : State :=
  let m : Emergency := { reg := BitVec.ofNat 8 (errorRegister s), code := code, seq := seq.setWidth 24 }
  if mailRuns s && !s.ecat.mailFull && s.ecat.mails.isEmpty then (s.modEcat (fun e => { e with mailFull := true })).emit (.emergency m)
  else if s.ecat.mails.length < 16 then s.modEcat (fun e => { e with mails := e.mails ++ [m] })
  else s.modEcat (fun e => { e with emcyLost := e.emcyLost + 1 })

/-! ### DMA engines (R708, R713) -/

/-- The submission and completion queues of an engine. -/
def dmaSq (s : State) (e : Nat) : Nat := (s.settingOf e 0x2610 1).toNat % 2 ^ 18
def dmaCq (s : State) (e : Nat) : Nat := (s.settingOf e 0x2610 2).toNat % 2 ^ 18

/-- EN written 0: the descriptor in progress ends ABORTED and nothing further is asked for (R713). -/
def dmaStop (e : Nat) (s : State) : State :=
  let d := s.dma e
  if !d.en then s else
  let s := s.modDma e (fun d => { d with en := false, finished := d.finished || d.desc.isSome, status := if d.desc.isSome then .aborted else d.status })
  s.modGate hostNode (fun g => { g with waiting := g.waiting.filter (fun p => p.who ≠ whoDma e) })

/-- Both queues of an engine are bound to the endpoint (R708). -/
def dmaBound (s : State) (sq cq : Nat) : Bool := (s.queue sq).consumer = hostNode && (s.queue cq).producer = hostNode

/-- DMA_CFG of engine `e` with EN = 1. -/
def dmaEnable (e q : Nat) (s : State) : Except Word State :=
  if (s.dma e).en then need (q = dmaSq s e) abortState (.ok s)
  else need (dmaBound s q (dmaCq s e)) abortState
    (.ok ((s.putSettingOf e 0x2610 1 (BitVec.ofNat 64 q)).modDma e (fun d => { d with en := true })))

/-- DMA_CFG with EN = 0: the queue changes only where EN was 0. -/
def dmaDisable (e q : Nat) (s : State) : Except Word State :=
  if (s.dma e).en then need (q = dmaSq s e) abortState (.ok (dmaStop e s))
  else .ok (s.putSettingOf e 0x2610 1 (BitVec.ofNat 64 q))

/-- Writes of DMA_CFG and DMA_CQ. -/
def dmaApply (e sub : Nat) (v : Word) (s : State) : Except Word State :=
  let q := v.toNat % 2 ^ 18
  if sub = 1 then (if v.getLsbD 31 then dmaEnable e q s else dmaDisable e q s)
  else need (!(s.dma e).en) abortState (.ok (s.putSettingOf e 0x2610 2 (BitVec.ofNat 64 q)))

/-- The engine DMA_SELECT of a path names. -/
def dmaSelected (s : State) (path : Nat) : Nat := s.selector path 0x2610 0 % 64

/-- Codes of STATUS. -/
def DmaStatus.code (st : DmaStatus) : Nat :=
  match st with
  | .ok => 0
  | .poison => 1
  | .error => 2
  | .malformed => 3
  | .aborted => 4
  | .oversize => 5

/-- PCIE_STATUS (R716). -/
def pcieStatus (p : Pcie) : Nat :=
  (if p.linkUp then 2 ^ 31 + p.rate % 8 * 2 ^ 24 + p.width % 32 * 2 ^ 16 else 0) + (if p.busMaster then 1 else 0)

/-- Live entries of the endpoint. -/
def pcieRead (s : State) (path idx sub : Nat) : Option DWord :=
  let e := dmaSelected s path
  let v (x : Nat) : Option DWord := some (BitVec.ofNat 64 x)
  match idx, sub with
  | 0x2600, 1 => v (pcieStatus s.pcie)
  | 0x2600, 5 => some (s.pcie.wrDrops.setWidth 64)
  | 0x2600, 6 => some (s.pcie.rdAborts.setWidth 64)
  | 0x2610, 1 => v ((if (s.dma e).en then 2 ^ 31 else 0) + dmaSq s e)
  | 0x2610, 2 => v (dmaCq s e)
  | 0x2610, 3 => v ((if (s.dma e).desc.isSome then 2 ^ 31 else 0) + (s.dma e).last.code * 2 ^ 28)
  | 0x2610, 4 => some ((s.dma e).done.setWidth 64)
  | _, _ => none

/-- Reads that clear. -/
def pcieReadClear (path idx sub : Nat) (s : State) : State :=
  match idx, sub with
  | 0x2600, 5 => s.modPcie (fun p => { p with wrDrops := 0 })
  | 0x2600, 6 => s.modPcie (fun p => { p with rdAborts := 0 })
  | 0x2610, 4 => s.modDma (dmaSelected s path) (fun d => { d with done := 0 })
  | _, _ => s

/-- Hot reset, function-level reset, link down or a reset of the endpoint's domain (R713, R645). -/
def pcieReset (s : State) : State :=
  let s := (List.range 64).foldl (fun s e => dmaStop e s) s
  pathReset hostNode (s.modPcie (fun p => { p with vectors := [], pendingBits := [], msixOn := false, msixMask := false, busMaster := false }))

end Sys2Proof.Machine
end

