-- ==== Sys2Proof/Machine/CatchOps.lean ====
section
/-! DEFINITION. Requests at a catch channel: line operations, folds, the scheduler, refresh and answers (R417-R446). A line is
numbered channel × 2^33 + line index, so that word k of it is word 16 × line + k of the stored contents. -/

namespace Sys2Proof.Machine

/-- Report an error of channel `n` with a catch address (R473). -/
def reportChan (code n addr : Nat) (s : State) : State := reportAt code 0x0A n 0 (BitVec.ofNat 64 addr) s

/-! ### Where a line lies -/

/-- Base and size of a map window in bytes. -/
def winBase (s : State) (w : Nat) : Nat := ((s.settingW (0x3180 + w) 1).extractLsb' 0 12).toNat * 2 ^ 30
def winSize (s : State) (w : Nat) : Nat := ((s.settingW (0x3180 + w) 1).extractLsb' 13 13).toNat * 2 ^ 30

/-- Address `a` lies in window `w`, enabled or not. -/
def inWin (s : State) (w a : Nat) : Bool := decide (winBase s w ≤ a) && decide (a < winBase s w + winSize s w)

/-- Channel and local address as a line number. -/
def lineId (p : Nat × Nat) : Nat := p.1 * 2 ^ 33 + p.2 / 64

/-- The line of a catch address: through the enabled window that covers it, else through the window that did (R431). -/
def lineOf (s : State) (a : Nat) : Nat :=
  match windowOf s a with
  | some w => lineId (mapIn s w a)
  | none =>
    match (List.range 16).find? (fun w => inWin s w a) with
    | some w => lineId (mapIn s w a)
    | none => 0

/-- The line of an address of a request that channel `n` has received: through a window, the enabled one first, that gives this channel, which is where
the gate sent it (R431). Of a request whose lines lie in units of several channels the spec says nothing: those of other channels are taken through the
map as it stands (log 36). -/
def lineAt (s : State) (n a : Nat) : Nat :=
  let here (w : Nat) : Bool := inWin s w a && decide ((mapIn s w a).1 = n)
  match (List.range 16).find? (fun w => here w && windowCovers s w a) with
  | some w => lineId (mapIn s w a)
  | none => match (List.range 16).find? here with
    | some w => lineId (mapIn s w a)
    | none => lineOf s a

/-- The line of the evacuation's destination for an address of its source (R458, R460). -/
def evacLine (s : State) (a : Nat) : Nat :=
  let c := s.catch'
  lineId (mapIn s c.evacDst (winBase s c.evacDst + (a - winBase s c.evacSrc)))

/-- The sixteen words of a line, and a write of them. -/
def readLine (s : State) (line : Nat) : List NWord := s.dramRead (16 * line) 16
def writeLine (line : Nat) (ws : List NWord) (s : State) : State := s.dramWrite (16 * line) ws

/-- A write or fold of a source line goes to the destination as well once it has been copied (R460). -/
def writeBoth (addr line : Nat) (ws : List NWord) (s : State) : State :=
  let c := s.catch'
  let s1 := writeLine line ws s
  if c.evac = .switch && inWin s c.evacSrc addr then writeLine (evacLine s addr) ws s1 else s1

/-! ### Geometry (R432, R468) -/

/-- CH_CFG of channel `n`. -/
def chCfg (s : State) (n : Nat) : Word := s.settingW (0x3100 + 0x10 * n) 2

/-- Bits of the column line, and of capacity in lines. -/
def colBits (c : Word) : Nat := if c.getLsbD 28 then 6 else 7
def cidBits (c : Word) : Nat := c.toNat / 2 ^ 26 % 4
def csBits (c : Word) : Nat := c.toNat / 2 ^ 24 % 4
def rowBits (c : Word) : Nat := 16 + c.toNat / 2 ^ 22 % 4
def capacityGiB (c : Word) : Nat := 2 ^ (6 + colBits c + cidBits c + csBits c + rowBits c) * 64 / 2 ^ 30

/-- Subchannel, and the refresh group (chip select × 16 + chip ID × 4 + bank), of a line index (R432, R444). -/
def lineSub (line : Nat) : Nat := line % 2
def refGroup (c : Word) (line : Nat) : Nat :=
  let l := line % 2 ^ 33
  let bank := l / 16 % 4
  let cid := l / 2 ^ (6 + colBits c) % 2 ^ cidBits c
  let cs := l / 2 ^ (6 + colBits c + cidBits c) % 2 ^ csBits c
  cs * 16 + cid * 4 + bank

/-- The bank of a line: refresh group and bank group. -/
def lineBank (c : Word) (line : Nat) : Nat := refGroup c line * 8 + line % 2 ^ 33 / 2 % 8

/-! ### Receiving requests (R435, R436, R438-R443) -/

/-- The lines a run of words touches, lowest first. -/
def linesOf (addr count : Nat) : List Nat :=
  if count = 0 then [] else (List.range ((addr % 64 + 4 * count + 63) / 64)).map (fun j => addr / 64 * 64 + 64 * j)

/-- Words of a run, by position, that lie in the line at `la`: position and word number. -/
def posIn (addr count la : Nat) : List (Nat × Nat) :=
  ((List.range count).filter (fun p => (addr + 4 * p) / 64 * 64 = la)).map (fun p => (p, (addr + 4 * p) % 64 / 4))

/-- An operation belongs to the read queue; the combining buffer's entries that have not issued belong to neither. -/
def LineOp.isRead (o : LineOp) : Bool :=
  match o.kind with
  | .read _ => true
  | _ => false
def LineOp.isWrite (o : LineOp) : Bool :=
  match o.kind with
  | .write _ => true
  | .fold _ _ issued => issued
  | .scrub _ => true
  | .read _ => false
def LineOp.isFold (o : LineOp) : Bool :=
  match o.kind with
  | .fold _ _ _ => true
  | _ => false

/-- Room for operations in a queue of 64 lines per subchannel. -/
def queueRoom (c : Channel) (write : Bool) (lines : List Nat) : Bool :=
  [0, 1].all (fun sub =>
    (c.ops.filter (fun o => lineSub o.line = sub && (if write then o.isWrite else o.isRead))).length + (lines.filter (fun l => lineSub l = sub)).length ≤ 64)

/-- An operation arrives behind a fold entry on its line: the entry issues (R443). A write or fold drops a write-back of its
line (R426). -/
def arriveBehind (line : Nat) (write : Bool) (ops : List LineOp) : List LineOp :=
  (ops.filter (fun o => !(write && o.line = line && (match o.kind with
    | .scrub _ => true
    | _ => false)))).map (fun o => if o.line = line then (match o.kind with
      | .fold code ws _ => { o with kind := .fold code ws true }
      | _ => o) else o)

/-- A request joins a channel with the line operations it needs. -/
def addRequest (n : Nat) (pkt : Packet) (write : Bool) (ops : List LineOp) (s : State) : State :=
  s.modChan n (fun c =>
    let behind := ops.foldl (fun os o => arriveBehind o.line write os) c.ops
    { c with
      ops := behind ++ ops.map (fun o => { o with reqs := [c.nextReq] })
      reqs := c.reqs ++ [{ id := c.nextReq, pkt := pkt, left := ops.length, words := [], rejected := false }]
      nextReq := c.nextReq + 1 })

/-- RD (R31, R436): channel `n` receives a read, the oldest packet of its source and class there. -/
def execRd (n : Nat) (pkt : Packet) (s : State) : Result :=
  match pkt.body with
  | .rd addr count =>
    let ops := (linesOf addr count).map (fun la => { addr := la, line := lineAt s n la, kind := .read (posIn addr count la), reqs := [] : LineOp })
    event (s.chanServes n && s.packetAt (96 + n) pkt && queueRoom (s.chan n) false (ops.map (·.line))) s
      (addRequest n pkt false ops (s.consume (96 + n) pkt.src pkt.oclass pkt.body))
  | _ => ok s

/-- Byte enables of word `p` of a WR of `count` words (R377). -/
def wordEnables (first last : BitVec 4) (count p : Nat) : BitVec 4 :=
  if count = 1 then first &&& last else if p = 0 then first else if p + 1 = count then last else 0xF

/-- The checks of a request's data words at channel `n` (R398): `corrected` counts the words it corrects, `bad` names those it cannot, which are
written with poison (R31). -/
def requestChecks (n : Nat) (pkt : Packet) (count corrected : Nat) (bad : List Nat) (s : State) : State :=
  dataChecks (96 + n) pkt.src (packetAddr pkt.body) corrected (bad.filter (fun k => decide (k < count))).length s

/-- WR (R31, R398, R436): channel `n` receives a write. -/
def execWr (n : Nat) (pkt : Packet) (corrected : Nat) (bad : List Nat) (s : State) : Result :=
  match poisonBody bad pkt.body with
  | .wr addr first last ws =>
    let count := ws.length
    let item (la : Nat) : Tab (BitVec 4 × NWord) := (posIn addr count la).foldl (fun t e =>
      Tab.set (0, { d := 0, p := false }) t e.2 (wordEnables first last count e.1, ws.getD e.1 { d := 0, p := false })) []
    let ops := (linesOf addr count).map (fun la => { addr := la, line := lineAt s n la, kind := .write (item la), reqs := [] : LineOp })
    event (s.chanServes n && s.packetAt (96 + n) pkt && queueRoom (s.chan n) true (ops.map (·.line))) s
      (addRequest n pkt true ops (requestChecks n pkt count corrected bad (s.consume (96 + n) pkt.src pkt.oclass pkt.body)))
  | _ => ok s

/-- Bytes, and halves, of a word combined by a function. -/
def mapBytes (g : Nat → Nat → Nat) (a b : Word) : Word :=
  (List.range 4).foldl (fun w k => w ||| (BitVec.ofNat 32 (g ((a.extractLsb' (8 * k) 8).toNat) ((b.extractLsb' (8 * k) 8).toNat)) <<< (8 * k))) 0
def mapHalves (g : Nat → Nat → Nat) (a b : Word) : Word :=
  (List.range 2).foldl (fun w k => w ||| (BitVec.ofNat 32 (g ((a.extractLsb' (16 * k) 16).toNat) ((b.extractLsb' (16 * k) 16).toNat)) <<< (16 * k))) 0

/-- The result of a fold on a line word; of INCS8 the operand holds counts (R438, R442). -/
def foldResult (code : Nat) (w op : Word) : Word :=
  match code with
  | 1 => w ||| op
  | 2 => w &&& ~~~op
  | 3 => mapHalves (fun a b => min (a + b) 0xFFFF) w op
  | 4 => if w.ult op then op else w
  | _ => mapBytes (fun a b => min (a + b) 0xFF) w op

/-- The operand an entry first holds, and how a further one joins it (R442). -/
def foldStart (code : Nat) (op : NWord) : NWord :=
  if code = 5 then { op with d := mapBytes (fun a _ => if a = 0 then 0 else 1) op.d 0 } else op
def foldJoin (code : Nat) (a b : NWord) : NWord :=
  { d := match code with
      | 1 => a.d ||| b.d
      | 2 => a.d ||| b.d
      | 3 => mapHalves (fun x y => min (x + y) 0xFFFF) a.d b.d
      | 4 => if a.d.ult b.d then b.d else a.d
      | _ => mapBytes (fun x y => min (x + y) 0xFF) a.d b.d
    p := a.p || b.p }

/-- Join the operands of a fold to those an entry holds. -/
def joinWords (code : Nat) (t : Tab (Option NWord)) (at' : Nat) : List NWord → Tab (Option NWord)
  | [] => t
  | w :: ws =>
    let v := foldStart code w
    let t := match Tab.get none t at' with
      | some u => Tab.set none t at' (some (foldJoin code u v))
      | none => Tab.set none t at' (some v)
    joinWords code t (at' + 1) ws

/-- The FOLD writes nothing (R439). -/
def foldBad (addr code : Nat) (ws : List NWord) : Bool :=
  code = 0 || 5 < code || ws.isEmpty || 16 < ws.length || 16 < addr % 64 / 4 + ws.length

/-- The youngest operation on a line is an entry of the same operation that has not issued. -/
def joinable (ops : List LineOp) (line code : Nat) : Bool :=
  match (ops.filter (fun o => o.line = line)).getLast? with
  | some o => (match o.kind with
    | .fold c _ issued => c = code && !issued
    | _ => false)
  | none => false

/-- Join the youngest operation on a line. -/
def joinYoungest (line id at' : Nat) (ws : List NWord) : List LineOp → List LineOp
  | [] => []
  | o :: os =>
    if o.line = line && !os.any (fun p => p.line = line) then
      (match o.kind with
       | .fold c t i => { o with kind := .fold c (joinWords c t at' ws) i, reqs := o.reqs ++ [id] }
       | _ => o) :: os
    else o :: joinYoungest line id at' ws os

/-- FOLD (R31, R398, R438-R443): channel `n` receives a fold; with all 512 entries occupied it waits. -/
def execFold (n : Nat) (pkt : Packet) (corrected : Nat) (bad : List Nat) (s : State) : Result :=
  match poisonBody bad pkt.body with
  | .fold addr code ws =>
    let c := s.chan n
    let la := addr / 64 * 64
    let line := lineAt s n la
    let at' := addr % 64 / 4
    let here := s.chanServes n && s.packetAt (96 + n) pkt
    let s1 := requestChecks n pkt ws.length corrected bad (s.consume (96 + n) pkt.src pkt.oclass pkt.body)
    if foldBad addr code ws then
      event here s ((reportChan 0x3702 n addr s1).modChan n (fun c => { c with
        reqs := c.reqs ++ [{ id := c.nextReq, pkt := pkt, left := 0, words := [], rejected := true }], nextReq := c.nextReq + 1 }))
    else if joinable c.ops line code then
      event here s (s1.modChan n (fun c => { c with
        ops := joinYoungest line c.nextReq at' ws c.ops
        reqs := c.reqs ++ [{ id := c.nextReq, pkt := pkt, left := 1, words := [], rejected := false }]
        nextReq := c.nextReq + 1, folds := c.folds + 1 }))
    else
      event (here && (c.ops.filter LineOp.isFold).length < 512) s
        ((addRequest n pkt true [{ addr := la, line := line, kind := .fold code (joinWords code [] at' ws) false, reqs := [] }] s1).modChan n
          (fun c => { c with folds := c.folds + 1 }))
  | _ => ok s

/-- The first entry on a line that has not issued, issued. -/
def issueEntry (line : Nat) : List LineOp → List LineOp
  | [] => []
  | o :: os => match o.kind with
    | .fold code ws false => if o.line = line then { o with kind := .fold code ws true } :: os else o :: issueEntry line os
    | _ => o :: issueEntry line os

/-- FOLD_ENTRY_ISSUE (R443). -/
def execFoldEntryIssue (n line : Nat) (s : State) : Result :=
  event (s.chanServes n) s (s.modChan n (fun c => { c with ops := issueEntry line c.ops }))

/-! ### The scheduler (R433-R437, R440, R422-R426) -/

/-- What the check of a line's words finds: words corrected, with their lane, and words that fail. -/
abbrev LineErrs := List (Nat × Option Nat)

/-- Count and log the words of the line at catch address `addr` that a read corrects or finds to fail (R423, R424). -/
def logErrs (n sub addr : Nat) (ws : List NWord) (errs : LineErrs) (s : State) : State :=
  errs.foldl (fun s e =>
    if (ws.getD e.1 { d := 0, p := false }).p then s else
    match e.2 with
    | none => (reportChan 0x3701 n (addr + 4 * e.1) s).modChan n (fun c => { c with ue := c.ue + 1 })
    | some lane => (reportChan 0x1701 n (addr + 4 * e.1) s).modChan n (fun c => { c with
        ce := c.ce + 1
        lanesA := if sub = 0 then c.lanesA ||| (1#64 <<< lane) else c.lanesA
        lanesB := if sub = 1 then c.lanesB ||| (1#64 <<< lane) else c.lanesB })) s

/-- Count and log what a read of a line finds (R423, R424). -/
def countErrs (n : Nat) (o : LineOp) (ws : List NWord) (errs : LineErrs) (s : State) : State :=
  (logErrs n (lineSub o.line) o.addr ws errs s).modChan n (fun c =>
    { c with poisonReads := c.poisonReads + BitVec.ofNat 32 (ws.filter (·.p)).length })

/-- The words a read delivers: those that fail are poisoned. -/
def checkedWords (ws : List NWord) (errs : LineErrs) : List NWord :=
  ws.zipIdx.map (fun e => { e.1 with p := e.1.p || errs.any (fun x => x.1 = e.2 && x.2.isNone) })

/-- A read that corrected a word queues its write-back (R426). -/
def queueScrub (n : Nat) (o : LineOp) (ws : List NWord) (errs : LineErrs) (s : State) : State :=
  let pending := (s.chan n).ops.any (fun p => p.line = o.line && !p.isRead)
  if (s.settingW 0x3192 2).getLsbD 0 && errs.any (fun e => e.2.isSome) && !pending then
    let bad := (List.range 16).filter (fun k => (ws.getD k { d := 0, p := false }).p)
    s.modChan n (fun c => { c with ops := c.ops ++ [{ addr := o.addr, line := o.line, kind := .scrub bad, reqs := [] }] })
  else s

/-- A word of a line after a write of some of its bytes. -/
def mergedWord (old : NWord) (e : BitVec 4 × NWord) : NWord :=
  if e.1 = 0xF then e.2
  else if e.1 = 0 then old
  else
    let m : Word := (List.range 4).foldl (fun m k => if e.1.getLsbD k then m ||| (0xFF#32 <<< (8 * k)) else m) 0
    { d := (old.d &&& ~~~m) ||| (e.2.d &&& m), p := old.p || e.2.p }

/-- Words that go to positions of a request. -/
def deliverWords (at' : List (Nat × Nat)) (ws : List NWord) (r : CatchReq) : CatchReq :=
  { r with words := at'.foldl (fun t e => Tab.set none t e.1 (some (ws.getD e.2 { d := 0, p := true }))) r.words }

/-- The requests of an operation have one line less to wait for. -/
def lineDone (n : Nat) (ids : List Nat) (g : CatchReq → CatchReq) (s : State) : State :=
  s.modChan n (fun c => { c with reqs := c.reqs.map (fun r => if ids.contains r.id then { g r with left := r.left - 1 } else r) })

/-- An operation is performed (R421-R426, R436, R440). `bad` are operand words of a fold found uncorrectable (error 0x3703). -/
def performOp (n : Nat) (o : LineOp) (errs : LineErrs) (bad : List Nat) (s : State) : State :=
  let stored := readLine s o.line
  let seen := checkedWords stored errs
  match o.kind with
  | .read at' => lineDone n o.reqs (deliverWords at' seen) (queueScrub n o seen errs (countErrs n o stored errs s))
  | .scrub poisoned =>
    writeLine o.line (stored.zipIdx.map (fun e => { e.1 with p := e.1.p || poisoned.contains e.2 })) s
  | .write ws =>
    let full := (List.range 16).all (fun k => (Tab.get (0, { d := 0, p := false }) ws k).1 = 0xF)
    let s := if full then s else (countErrs n o stored errs s).modChan n (fun c => { c with rmw := c.rmw + 1 })
    let new := (if full then stored else seen).zipIdx.map (fun e => mergedWord e.1 (Tab.get (0, { d := 0, p := false }) ws e.2))
    lineDone n o.reqs id (writeBoth o.addr o.line new s)
  | .fold code ws _ =>
    let s := countErrs n o stored errs s
    let s := (bad.filter (fun k => (Tab.get none ws k).isSome)).foldl (fun s k => reportChan 0x3703 n (o.addr + 4 * k) s) s
    let new := seen.zipIdx.map (fun e => match Tab.get none ws e.2 with
      | some v => if e.1.p || v.p || bad.contains e.2 then { e.1 with p := true } else { d := foldResult code e.1.d v.d, p := false }
      | none => e.1)
    (lineDone n o.reqs id (writeBoth o.addr o.line new s)).modChan n (fun c => { c with foldLines := c.foldLines + 1 })

/-- Refresh obligations of a group, and whether one is urgent (R445). -/
def refPostpone (s : State) (n : Nat) : Nat := max 1 (min 8 (s.settingN (0x3100 + 0x10 * n) 5 % 16))
def refUrgent (s : State) (n g : Nat) : Bool := refPostpone s n ≤ Tab.get 0 (s.chan n).refresh g

/-- The operations a subchannel could issue now, oldest first: no earlier one stands on the line, and the bank accepts an
activate (`busy` lists the banks whose timing does not allow it). -/
def issuable (s : State) (n sub : Nat) (busy : List Nat) : List LineOp :=
  let c := s.chan n
  let cfg := chCfg s n
  (c.ops.foldl (fun (acc : List Nat × List LineOp) o =>
    (o.line :: acc.1,
      if !acc.1.contains o.line && (o.isRead || o.isWrite) && lineSub o.line = sub && !busy.contains (lineBank cfg o.line) &&
        !refUrgent s n (refGroup cfg o.line) then acc.2 ++ [o] else acc.2)) ([], [])).2

/-- Writes are chosen from WQ_HIGH lines until WQ_LOW (R435). -/
def nextWriting (s : State) (n sub : Nat) : Bool :=
  let c := s.chan n
  let held := (c.ops.filter (fun o => lineSub o.line = sub && o.isWrite)).length
  if c.writing.getLsbD sub then s.settingN 0x3192 4 < held else s.settingN 0x3192 3 ≤ held

/-- The operation the scheduler chooses. -/
def chosenOp (s : State) (n sub : Nat) (busy : List Nat) : Option LineOp :=
  let os := issuable s n sub busy
  let first := if nextWriting s n sub then os.find? LineOp.isWrite else os.find? LineOp.isRead
  match first with
  | some o => some o
  | none => os.head?

/-- LINE_ACCESS_ISSUE (R433-R437): the subchannel's choice is performed. -/
def execLineAccessIssue (n sub : Nat) (busy : List Nat) (errs : LineErrs) (bad : List Nat) (corr : Bool) (s : State) : Result :=
  match chosenOp s n sub busy with
  | none => ok s
  | some o =>
    event (s.chanServes n) s
      (let w := nextWriting s n sub
       let s := if corr then reportChan 0x1702 n o.addr s else s
       let s := s.modChan n (fun c => { c with
         ops := c.ops.erase o
         writing := if w then c.writing ||| (1#2 <<< sub) else c.writing &&& ~~~(1#2 <<< sub) })
       performOp n o errs bad s)

/-- The first request that may be answered: all its lines are done and no earlier one of its initiator and class waits (R391). -/
def answerable (g : CatchReq → Bool) : List CatchReq → List (Nat × Nat) → Option CatchReq
  | [], _ => none
  | r :: rs, seen =>
    if r.left = 0 && g r && !seen.contains (r.pkt.src, r.pkt.oclass) then some r
    else answerable g rs ((r.pkt.src, r.pkt.oclass) :: seen)

/-- A request is a RD. -/
def CatchReq.isRd (r : CatchReq) : Bool :=
  match r.pkt.body with
  | .rd _ _ => true
  | _ => false

/-- The answer leaves. -/
def answerReq (n : Nat) (r : CatchReq) (b : Body) (s : State) : State :=
  (s.modChan n (fun c => { c with reqs := c.reqs.filter (fun x => x.id ≠ r.id) })).answer (96 + n) r.pkt.src r.pkt.oclass r.pkt.tag b

/-- The words a RD asked for, in order. -/
def rdWords (r : CatchReq) : List NWord :=
  match r.pkt.body with
  | .rd _ count => (List.range count).map (fun p => (Tab.get none r.words p).getD { d := 0, p := true })
  | _ => []

/-- RDATA_SEND (R437). -/
def execRdataSend (n : Nat) (s : State) : Result :=
  match answerable CatchReq.isRd (s.chan n).reqs [] with
  | some r => event (s.chanServes n) s (answerReq n r (.rdata .ok (rdWords r)) s)
  | none => ok s

/-- WACK_SEND (R437, R439). -/
def execWackSend (n : Nat) (s : State) : Result :=
  match answerable (fun r => !r.isRd) (s.chan n).reqs [] with
  | some r => event (s.chanServes n) s (answerReq n r (.wack .ok r.rejected) s)
  | none => ok s

/-! ### Refresh (R444-R446) -/

/-- REFRESH_OBLIGATION (R444, R445): a group that the geometry has owes one more; at REF_POSTPONE it is urgent. -/
def execRefreshObligation (n cs cid bank : Nat) (s : State) : Result :=
  let g := cs * 16 + cid * 4 + bank
  let k := Tab.get 0 (s.chan n).refresh g + 1
  let cfg := chCfg s n
  event (s.chanServes n && decide (cs < 2 ^ csBits cfg) && decide (cid < 2 ^ cidBits cfg) && decide (bank < 4) && !refUrgent s n g) s
    (s.modChan n (fun c => { c with
      refresh := Tab.set 0 c.refresh g k, refUrgent := if refPostpone s n ≤ k then c.refUrgent + 1 else c.refUrgent }))

/-- REFSB_ISSUE (R445): an owed refresh is issued when no operation is queued for its banks, or when it is urgent. -/
def execRefsbIssue (n cs cid bank : Nat) (s : State) : Result :=
  let g := cs * 16 + cid * 4 + bank
  let c := s.chan n
  let queued := c.ops.any (fun o => (o.isRead || o.isWrite) && refGroup (chCfg s n) o.line = g)
  event (s.chanServes n && Tab.get 0 c.refresh g ≠ 0 && (!queued || refUrgent s n g)) s
    (s.modChan n (fun c => { c with refresh := Tab.modify 0 c.refresh g (fun k => k - 1) }))

end Sys2Proof.Machine
end

