-- ==== Sys2Proof/Machine/Runner.lean ====
section
/-! DEFINITION. The routers of the runner network (R370-R372, R380-R388, R395-R399, R404-R413): routes, hops, ports and the
change of a routing table. -/

namespace Sys2Proof.Machine

/-! ### Routes (R370, R371, R383) -/

/-- The default table of a router: 0-7 row runners, 8 and 9 trunks, 10 the sprue; 15 is no route. -/
def routeDefault (r id : Nat) : Nat :=
  let row := if id < 64 then id / 8 else id - 64
  if r < 8 then (if id < 72 && row = r then (if id < 64 then id % 8 else 8) else 9)
  else if r < 10 then (if id < 72 && row / 4 = r - 8 then row % 4 else 4)
  else if id < 72 then row / 4
  else if id ≤ 80 then 11
  else if id = 81 then 10
  else if id ≤ 87 then 13
  else if id = 88 then 12
  else if id = 89 then 14
  else if id = 90 then 15
  else if 96 ≤ id && id < 104 then 2 + (id - 96)
  else noRoute
where
  /-- No route; 15 is a port of the sprue only where the table of R370 puts one there. -/
  noRoute : Nat := 255

/-- The live and the staged entry of a node ID. -/
def liveRoute (s : State) (r id : Nat) : Nat := Tab.get (routeDefault r id) (s.router r).route id
def stagedRoute (s : State) (r id : Nat) : Nat := Tab.get (routeDefault r id) (s.router r).stage id

/-- The look-ahead port of a node ID at router `r` (R381); the concentrators, 11 and 12, route by node ID, port 15 being the
sprue. -/
def lookAhead (s : State) (r id : Nat) : Nat :=
  if r = 11 then (if 72 ≤ id && id ≤ 79 then id - 71 else if id = 80 then 0 else 15)
  else if r = 12 then (if 82 ≤ id && id ≤ 87 then id - 82 else 15)
  else liveRoute s r id

/-- Where a router's port leads: another router with the input taken there, or an endpoint. -/
inductive PortTo where
  | router (x inp : Nat)
  | node
  | nowhere
  deriving DecidableEq, Repr

/-- The links of R370. -/
def portTo (r n : Nat) : PortTo :=
  if r < 8 then (if n < 9 then .node else if n = 9 then .router (8 + r / 4) (r % 4) else .nowhere)
  else if r < 10 then (if n < 4 then .router (4 * (r - 8) + n) 9 else if n = 4 then .router 10 (r - 8) else .nowhere)
  else if r = 10 then
    (if n < 2 then .router (8 + n) 4 else if n < 11 then .node else if n = 11 then .router 11 15 else if n = 13 then .router 12 15
     else if n < 16 then .node else .nowhere)
  else if n = 15 then .router 10 (if r = 11 then 11 else 13)
  else .node

/-- The dictionary's number of a router's port: the concentrators share index 11 (R413). -/
def portKey (r n : Nat) : Nat × Nat := if r = 12 then (11, 9 + n) else (r, n)

/-! ### Packets -/

/-- The answer the network gives in an endpoint's place (R378, R379, R399, R404). -/
def networkAnswer (st : NetStatus) (b : Body) : Body :=
  match b with
  | .rd _ _ => .rdata st []
  | .wr _ _ _ _ => .wack st false
  | .fold _ _ _ => .wack st false
  | .pop _ _ => .popResp .offline []
  | .internal code _ => if code = 0x12 then .nack st else .crsp st 0
  | _ => .nack st

/-- A response packet that router `r` makes for the source of a request; it waits there for its output. -/
def replyAt (s : State) (r inp : Nat) (p : Packet) (b : Body) : Flight :=
  { at' := r, inp := inp, place := .own, here := flitCount b,
    pkt := { dest := p.src, src := p.dest, oclass := p.oclass, tag := p.tag, tc := 0, la := lookAhead s r p.src, who := 0, body := b } }

/-- Put a flight behind those of the network. -/
def State.addFlight (s : State) (f : Flight) : State := { s with net := { s.net with wire := s.net.wire ++ [f] } }

/-- Take a packet out of the network with all its flits. -/
def State.dropFlight (s : State) (f : Flight) : State := { s with net := s.net.drop f }

/-- AUX of an error that names a router (R685). -/
def routerAux (p : Packet) : Word := BitVec.ofNat 32 (p.src % 128 * 128 + p.dest % 128)

/-- Report an error of router `r` about a packet. -/
def reportRouter (code r : Nat) (p : Packet) (s : State) : State :=
  reportAt code 8 (min r 11) (routerAux p) (BitVec.ofNat 64 (packetAddr p.body)) s

/-- The router answers a request in the endpoint's place; OFFLINE_ANSWERS counts it. -/
def routerAnswers (r inp : Nat) (st : NetStatus) (p : Packet) (s : State) : State :=
  (s.addFlight (replyAt s r inp p (networkAnswer st p.body))).modRouter (min r 11) (fun x => { x with offlineAnswers := x.offlineAnswers + 1 })

/-- A response for a closed port is discarded (R405). -/
def closedDrop (r : Nat) (s : State) : State := s.modRouter (min r 11) (fun x => { x with closedDrops := x.closedDrops + 1 })

/-! ### Hops (R381, R382, R394-R399, R405, R408) -/

/-- A packet meets a port that does not forward it. -/
def portRefuses (r inp : Nat) (p : Packet) (s : State) : State :=
  if isRequest p.body then routerAnswers r inp .offline p s else closedDrop r s

/-- What becomes of a header that leaves a router: it enters a link, or it is answered or discarded there. -/
inductive HopTo where
  | link (x inp : Nat)
  | refused
  | noroute
  deriving DecidableEq, Repr

/-- Where a header at router `r` goes (R381, R399, R404, R405, R408). -/
def hopTo (s : State) (f : Flight) : HopTo :=
  let r := f.at'
  let n := lookAhead s r f.pkt.dest
  match portTo r n with
  | .nowhere => .noroute
  | .router x inp => if (s.router (min x 11)).stopped then .refused else .link x inp
  | .node =>
    let k := portKey r n
    match s.port k.1 k.2 with
    | .opened => .link 13 (s.portNode k.1 k.2)
    | .closing => if isRequest f.pkt.body then .refused else .link 13 (s.portNode k.1 k.2)
    | _ => .refused

/-- The input of a router that takes an output channel next: round robin, after the one that had it last (R386). -/
def turnOf (x : Router) (n vc inp : Nat) : Nat := (inp + 512 - (Tab.get 255 x.lastIn (2 * n + vc) + 1)) % 256

/-- A header with its look-ahead port leaves router `r` (R381). -/
def forward (f : Flight) (s : State) : State :=
  let r := f.at'
  let p := f.pkt
  let n := lookAhead s r p.dest
  match hopTo s f with
  | .noroute =>
    let s1 := reportRouter 0x3603 r p (s.dropFlight f)
    if isRequest p.body then routerAnswers r f.inp .noroute p s1 else s1
  | .refused => portRefuses r f.inp p (s.dropFlight f)
  | .link x inp =>
    let s1 := s.modRouter (min r 11) (fun y => { y with lastIn := Tab.set 255 y.lastIn ((if r = 12 then 32 else 0) + 2 * n + channelOf p.body) f.inp })
    { s1 with net := enterHop f x inp (if x = 13 then p else { p with la := lookAhead s x p.dest }) s1.net }

/-- The hop waits: the next router holds its look-ahead for an APPLY (R409), or the flask's deliveries are held in a freeze
(R129). -/
def hopHeld (s : State) (f : Flight) : Bool :=
  let n := lookAhead s f.at' f.pkt.dest
  match portTo f.at' n with
  | .router x _ => (s.router (min x 11)).applyPending && x < 11
  | .node => f.at' < 8 && s.frozen (9 * f.at' + n)
  | .nowhere => false

/-- The header is at the head of its input and its output can take it. -/
def hopReady (s : State) (f : Flight) : Bool :=
  oldestHere s.net f && !hopHeld s f && (match hopTo s f with
    | .link x inp => canEnter s.net f x inp
    | _ => true)

/-- The header wins its output channel (R386): a response goes before a request, and among inputs of one virtual channel round robin decides. -/
def hopWins (s : State) (f : Flight) : Bool :=
  let out (g : Flight) : Nat := lookAhead s g.at' g.pkt.dest
  let rivals := s.net.wire.filter (fun g => g ≠ f && g.at' = f.at' && (g.place = .buffer || g.place = .own) && out g = out f && hopReady s g)
  let vc := channelOf f.pkt.body
  let turn (g : Flight) : Nat := turnOf (s.router (min f.at' 11)) ((if f.at' = 12 then 16 else 0) + out f) vc g.inp
  rivals.all (fun g => if channelOf g.pkt.body = vc then turn f ≤ turn g else vc = 1)

/-- The router stops (R408, R416): what is inside it is lost. -/
def routerStop (r : Nat) (p : Packet) (s : State) : State :=
  let s := (reportRouter 0x4601 r p s).modRouter (min r 11) (fun x => { x with stopped := true })
  let inside (f : Flight) : Bool := (f.at' = r && f.place ≠ .source) || f.tail.any (fun e => e.1 < 2 ^ 16 && e.1 / 512 = r)
  { s with net := (s.net.wire.filter inside).foldl RunnerState.drop s.net }

/-- RUNNER_HOP (R381, R384-R387): the header of the k-th packet in flight moves on, from its source or out of a bridge into the next input
buffer, or from the router it stands at to its output. `ev` is what a router's check of the header finds. -/
def execRunnerHop (k : Nat) (ev : HopEv) (s : State) : Result :=
  match s.net.wire[k]? with
  | none => ok s
  | some f =>
    let r := f.at'
    let up := s.domOn 87 && !(r < 13 && (s.router (min r 11)).stopped)
    match f.place with
    | .source => event (up && ev = .clean && oldestHere s.net f && canEnter s.net f r f.inp) s { s with net := enterHop f r f.inp f.pkt s.net }
    | .bridge => event (up && ev = .clean && oldestHere s.net f) s { s with net := leaveBridge f s.net }
    | _ =>
      match ev with
      | .clean => event (r < 13 && up && hopReady s f && hopWins s f) s (forward f s)
      | .corrected => event (r < 13 && up && hopReady s f && hopWins s f) s
          (forward f ((reportRouter 0x1601 r f.pkt s).modRouter (min r 11) (fun x => { x with hdrCorrected := x.hdrCorrected + 1 })))
      | .drop src tag => event (r < 13 && up && oldestHere s.net f) s
          (let s2 := (reportRouter 0x3601 r f.pkt (s.dropFlight f)).modRouter (min r 11) (fun x => { x with hdrDropped := x.hdrDropped + 1 })
           if src then s2.addFlight (replyAt s2 r f.inp f.pkt (.headerNotice (if tag then f.pkt.tag else 255))) else s2)
      | .fatal => event (r < 13 && up && oldestHere s.net f) s (routerStop r f.pkt s)

/-! ### Ports (R404-R407) -/

/-- The endpoint behind a port has stopped. -/
def endpointStopped (s : State) (r n : Nat) : Bool :=
  if r < 8 then (s.flask (9 * r + n)).role = .stopped
  else if r = 10 then n = 10 && s.tun.stopped
  else if r = 11 then
    (if n = 0 then s.cup.stopped else if n < 9 then (Tab.get LcCore.reset s.cores (n - 1)).st = .halted else false)
  else false

/-- Requests delivered to a node and not yet taken. -/
def pendingAt (s : State) (node : Nat) : List Flight :=
  s.net.wire.filter (fun f => f.at' = 13 && f.inp = node && isRequest f.pkt.body)

/-- The port of a stopped endpoint answers OFFLINE what the endpoint received and has not answered (R406). -/
def answerPending (r n node : Nat) (s : State) : State :=
  let fs := pendingAt s node
  let s := fs.foldl State.dropFlight s
  fs.foldl (fun s f => routerAnswers (if r = 11 && 9 ≤ n then 12 else r) (nodeInput node) .offline f.pkt s) s

/-- Packets of a node's own link, in either direction: in its bridge, on their way in, or still at the gate (R404). -/
def linkEmpty (s : State) (node : Nat) : Bool :=
  s.net.wire.all (fun f =>
    let own := f.pkt.src = node && (f.place = .source || (f.at' = entryRouter node && f.inp = nodeInput node && f.place = .bridge) ||
      f.tail.any (fun e => 2 ^ 17 ≤ e.1))
    !own && !(f.at' = 13 && f.inp = node && (f.place = .bridge || !f.tail.isEmpty)))

/-- A stopping flask gate still has a REWIND, or the words before one, to send (R406). -/
def rewindsWait (s : State) (node : Nat) : Bool :=
  node < 72 && (s.gate node).waiting.any (fun p => match p.body with
    | .rewind _ => true
    | .push _ _ _ => true
    | _ => false)

/-- PORT_DRAINED (R404, R406): the gate has nothing outstanding, every request is answered, no flit is in the link or its bridge, and a
stopping flask gate has sent its REWINDs. -/
def execPortDrained (r n : Nat) (s : State) : Result :=
  let node := s.portNode r n
  let stopped := endpointStopped s r n
  event (s.port r n = .closing && (s.gate node).outstanding.isEmpty && !rewindsWait s node && linkEmpty s node &&
      (stopped || (pendingAt s node).isEmpty)) s
    ((if stopped then answerPending r n node s else s).setPort r n .closed)

/-- CLOSE_TIMEOUT (R404): logged once for each close. -/
def execCloseTimeout (r n : Nat) (s : State) : Result :=
  event (s.port r n = .closing && !(s.router r).closeLogged.contains n) s
    ((reportAt 0x3605 8 r 0 0 s).modRouter r (fun x => { x with closeLogged := n :: x.closeLogged }))

/-- PORT_CREDITS_EXCHANGED (R404). -/
def execPortCreditsExchanged (r n : Nat) (s : State) : Result := event (s.port r n = .opening) s (s.setPort r n .opened)

/-! ### Changing a routing table (R409-R412) -/

/-- RTR_CMD_APPLY (R409, R411). -/
def execRtrCmdApply (path r : Nat) (s : State) : Result :=
  dictCommand path (0x3000 + r) 2 3 (fun s => need (r < 11 && !(s.router r).applyPending && !(r < 8 && s.recasting r)) abortState
    (.ok (s.modRouter r (fun x => { x with applyPending := true })))) s

/-- ROUTE_TABLE_SWITCH (R19, R409, R410): on a pour tick on which no header holds a look-ahead port of the old table. -/
def execRouteTableSwitch (r : Nat) (s : State) : Result :=
  event ((s.router r).applyPending && s.tickFree && !s.net.wire.any (fun f => f.at' = r && (f.place = .buffer || f.place = .own))) s
    (s.modRouter r (fun x => { x with applyPending := false, route := x.stage }))

/-- RTR_CMD_DISCARD (R412). -/
def execRtrCmdDiscard (path r : Nat) (s : State) : Result :=
  dictCommand path (0x3000 + r) 2 3 (fun s => need (r < 11 && !(s.router r).applyPending) abortState
    (.ok (s.modRouter r (fun x => { x with stage := x.route })))) s

/-- Set an entry of the live and the staged table together, as a recast does (R411). -/
def setRoute (r id port : Nat) (s : State) : State :=
  s.modRouter r (fun x => { x with route := Tab.set (routeDefault r id) x.route id port, stage := Tab.set (routeDefault r id) x.stage id port })

/-! ### Entries (R413) -/

/-- Eight entries of a table as a word. -/
def routeWord (g : Nat → Nat) (j : Nat) : DWord := BitVec.ofNat 64 ((List.range 8).foldl (fun n i => n + g (8 * j + i) % 16 * 16 ^ i) 0)

/-- Codes of PORT_n. -/
def portCode (p : PortSt) : Nat :=
  match p with
  | .opened => 0
  | .closing => 1
  | .closed => 2
  | .opening => 3

/-- Live entries of router `r` and of the network. -/
def routerRead (s : State) (idx sub : Nat) : Option DWord :=
  let x := s.router (idx - 0x3000)
  let r := idx - 0x3000
  let w (v : Word) : Option DWord := some (v.setWidth 64)
  if idx = 0x3010 then
    match sub with
    | 1 => some (BitVec.ofNat 64 ((List.range 11).foldl (fun n r => if (s.router r).stopped then n + 2 ^ r else n) 0))
    | 4 => w s.net.dataCorrected
    | 5 => w s.net.dataPoisoned
    | 6 => w s.net.lostCount
    | 7 => w s.net.lateAnswers
    | _ => none
  else if 0x3000 ≤ idx && r ≤ 11 then
    match sub with
    | 1 => some (BitVec.ofNat 64 ((if x.stopped then 2 ^ 31 else 0) + (if x.applyPending then 2 ^ 30 else 0) +
        (List.range 16).foldl (fun n p => if s.port r p = .opened then n else n + 2 ^ p) 0))
    | 3 => w x.hdrCorrected
    | 4 => w x.hdrDropped
    | 5 => w x.offlineAnswers
    | 6 => w x.closedDrops
    | _ =>
      if 0x10 ≤ sub && sub < 0x20 && r < 11 then some (routeWord (liveRoute s r) (sub - 0x10))
      else if 0x20 ≤ sub && sub < 0x30 && r < 11 then some (routeWord (stagedRoute s r) (sub - 0x20))
      else if 0x30 ≤ sub && sub < 0x40 then some (BitVec.ofNat 64 (portCode (s.port r (sub - 0x30))))
      else none
  else none

/-- Reads that clear. -/
def routerReadClear (idx sub : Nat) (s : State) : State :=
  if idx = 0x3010 then
    { s with net := match sub with
      | 4 => { s.net with dataCorrected := 0 }
      | 5 => { s.net with dataPoisoned := 0 }
      | 6 => { s.net with lostCount := 0 }
      | 7 => { s.net with lateAnswers := 0 }
      | _ => s.net }
  else s.modRouter (idx - 0x3000) (fun x => match sub with
    | 3 => { x with hdrCorrected := 0 }
    | 4 => { x with hdrDropped := 0 }
    | 5 => { x with offlineAnswers := 0 }
    | 6 => { x with closedDrops := 0 }
    | _ => x)

/-- A write of STAGE_j of router `r`; the value 0xF of the sprue's table means management's port only for its own node
(R370, R380, log 37). -/
def stageApply (r j : Nat) (v : Word) (s : State) : State :=
  s.modRouter r (fun x => { x with stage := (List.range 8).foldl (fun t i =>
    let id := 8 * j + i
    let n := (v.extractLsb' (4 * i) 4).toNat
    let n := if n = 15 && !(r = 10 && id = 90) then 255 else n
    Tab.set (routeDefault r id) t id n) x.stage })

/-- Live entries of the statistics window and the regulators of initiator `i` (R414, R415). -/
def gateRead (g : Gate) (sub : Nat) : Option DWord :=
  match sub with
  | 1 => some g.reqCount
  | 3 => some g.byteCount
  | 5 => some (g.latMin.setWidth 64)
  | 6 => some (g.latMax.setWidth 64)
  | _ => if 8 ≤ sub && sub < 16 then some ((Tab.get 0 g.hist (sub - 8)).setWidth 64) else none

/-- Reads that clear. -/
def gateReadClear (i sub : Nat) (s : State) : State :=
  s.modGate i (fun g => match sub with
    | 1 => { g with reqCount := 0 }
    | 3 => { g with byteCount := 0 }
    | 5 => { g with latMin := 0xFFFFFFFF#32 }
    | 6 => { g with latMax := 0 }
    | _ => if 8 ≤ sub && sub < 16 then { g with hist := Tab.set 0 g.hist (sub - 8) 0 } else g)

end Sys2Proof.Machine
end

