-- ==== Sys2Proof/Machine/Catch.lean ====
section
/-! DEFINITION. Channel states, training, evacuation, zeroing and the map (R418-R419, R429-R431, R447-R473, R795), and the
entries of the catch controller. -/

namespace Sys2Proof.Machine

/-- The index of channel `n`'s first page of entries. -/
def chIdx (n : Nat) : Nat := 0x3100 + 0x10 * n

/-! ### Windows and channels -/

/-- The channels a window names. -/
def winChannels (s : State) (w : Nat) : List Nat :=
  let ways := 2 ^ ((s.settingW (0x3180 + w) 1).extractLsb' 27 2).toNat
  (List.range ways).map (fun j => (s.settingW (0x3180 + w) 2).toNat / 2 ^ (3 * j) % 8)

/-- A window is enabled. -/
def winEnabled (s : State) (w : Nat) : Bool := (s.settingW (0x3180 + w) 1).getLsbD 31

/-- Some enabled window names channel `n`. -/
def chanMapped (s : State) (n : Nat) : Bool := (List.range 16).any (fun w => winEnabled s w && (winChannels s w).contains n)

/-- The evacuation is under way, and uses channel `n`. -/
def State.evacuating (s : State) : Bool := s.catch'.evac = .copy || s.catch'.evac = .switch
def evacUses (s : State) (n : Nat) : Bool :=
  s.evacuating && ((winChannels s s.catch'.evacSrc).contains n || (winChannels s s.catch'.evacDst).contains n)

/-- The lines of the zeroing's range, lowest first. -/
def zeroLinesOf (s : State) : List Nat := (List.range (s.catch'.zeroLen / 64)).map (fun i => s.catch'.zeroBase + 64 * i)

/-- The zeroing is under way and holds lines of channel `n`. -/
def zeroUses (s : State) (n : Nat) : Bool := s.catch'.zeroBusy && (zeroLinesOf s).any (fun a => lineOf s a / 2 ^ 33 = n)

/-! ### Zeroing (R463, R795) -/

/-- A line of zeros. -/
def zeroLine : List NWord := List.replicate 16 { d := 0, p := false }

/-- Write zeros to the lines of a list whose channel serves and still has lines allowed to it; the second part counts them. -/
def zeroWalk : List Nat → Tab Nat → State → Nat × State
  | [], _, s => (0, s)
  | a :: as, left, s =>
    let line := lineOf s a
    let k := Tab.get 0 left (line / 2 ^ 33)
    if k = 0 || !s.chanServes (line / 2 ^ 33) then zeroWalk as left s
    else
      let (n, s) := zeroWalk as (Tab.set 0 left (line / 2 ^ 33) (k - 1)) (writeBoth a line zeroLine s)
      (n + 1, s)

/-- How many lines of each channel had issued when a zeroing ended early is left open: free values (log 1). -/
def drawCounts (bound : Nat) : Nat → State → Tab Nat × State
  | 0, s => ([], s)
  | n + 1, s =>
    let (t, s) := drawCounts bound n s
    let (v, s) := s.draw
    (Tab.set 0 t n (v.toNat % (bound + 1)), s)

/-- The zeroing ends early (R795): CANCELLED or INTERRUPTED. -/
def zeroEnds (cancelled : Bool) (s : State) : State :=
  if !s.catch'.zeroBusy then s else
  let lines := zeroLinesOf s
  let (left, s) := drawCounts lines.length 8 s
  let (n, s) := zeroWalk lines left s
  s.modCatch (fun c => { c with zeroBusy := false, zeroCancelled := cancelled, zeroInterrupted := !cancelled, zeroLines := n })

/-- ZERO_CMD_START (R463). -/
def zeroStart (s : State) : Except Word State :=
  let base := s.settingN 0x3191 1
  let len := s.settingN 0x3191 3
  let s1 := s.modCatch (fun c => { c with
    zeroBusy := true, zeroCancelled := false, zeroInterrupted := false, zeroBase := base, zeroLen := len, zeroLines := 0 })
  need (!s.catch'.zeroBusy && (zeroLinesOf s1).all (fun a => (windowOf s a).isSome)) abortState (.ok s1)
def execZeroCmdStart (path : Nat) (s : State) : Result := dictCommand path 0x3191 5 2 zeroStart s

/-- ZERO_CMD_CANCEL (R626, R795). -/
def zeroCancel (s : State) : Except Word State := need s.catch'.zeroBusy abortState (.ok (zeroEnds true s))
def execZeroCmdCancel (path : Nat) (s : State) : Result := dictCommand path 0x3191 5 2 zeroCancel s

/-- ZERO_COMPLETE (R463): every line of the range is zero. -/
def execZeroComplete (s : State) : Result :=
  let lines := zeroLinesOf s
  let all : Tab Nat := (List.range 8).map (fun n => (n, lines.length + 1))
  event s.catch'.zeroBusy s
    (let (n, s) := zeroWalk lines all s
     s.modCatch (fun c => { c with zeroBusy := false, zeroLines := n }))

/-! ### Evacuation (R458-R462) -/

/-- A word number of the contents lies in the placement of window `w`: the offset within the window, where it does. -/
def offsetIn (s : State) (w word : Nat) : Option Nat :=
  let c := s.settingW (0x3180 + w) 1
  let ch := word / 2 ^ 37
  let loc := word % 2 ^ 37 * 4
  let g := granShift (c.extractLsb' 29 2).toNat
  let wl := (c.extractLsb' 27 2).toNat
  let lbase := (s.settingN (0x3180 + w) 3 % 1024) * 2 ^ 30
  let way := (winChannels s w).findIdx (· = ch)
  if way < 2 ^ wl && lbase ≤ loc && loc < lbase + winSize s w / 2 ^ wl then
    let r := loc - lbase
    some (((r / 2 ^ g) * 2 ^ wl + way) * 2 ^ g + r % 2 ^ g)
  else none

/-- The contents without the words a window's placement holds: they are undefined. -/
def clearPlacement (w : Nat) (s : State) : State := { s with dram := s.dram.filter (fun e => (offsetIn s w e.1).isNone) }

/-- What the checks of the copy's reads find: words of the source window by their number in it, with the lane of a corrected error, or without one for a
word that fails. They are counted and logged at the channels they lie on, and words stored poisoned are counted there (R423, R424). -/
def copyErrs (src : Nat) (errs : LineErrs) (s : State) : State :=
  let s := errs.foldl (fun s e =>
    let a := winBase s src + 4 * e.1
    let p := mapIn s src a
    logErrs p.1 (lineSub (lineId p)) (a - a % 64) (readLine s (lineId p)) [(a % 64 / 4, e.2)] s) s
  s.dram.foldl (fun s e => match offsetIn s src e.1, e.2 with
    | some _, some v => if v.p then s.modChan (e.1 / 2 ^ 37) (fun c => { c with poisonReads := c.poisonReads + 1 }) else s
    | _, _ => s) s

/-- Copy what is written of the source window to the destination's placement (R459), poisoned where it is or fails its check; the rest stays undefined
(log 7). -/
def evacCopy (errs : LineErrs) (s : State) : State :=
  let src := s.catch'.evacSrc
  let dst := s.catch'.evacDst
  let bad (o : Nat) : Bool := errs.any (fun e => e.1 = o / 4 && e.2.isNone)
  let words := s.dram.filterMap (fun e => match offsetIn s src e.1, e.2 with
    | some o, some v => some (o, ({ v with p := v.p || bad o } : NWord))
    | _, _ => none)
  let lost := (errs.filter (fun e => e.2.isNone && !words.any (fun w => w.1 / 4 = e.1))).map (fun e => (4 * e.1, (⟨0, true⟩ : NWord)))
  let s1 := clearPlacement dst (copyErrs src errs s)
  let s2 := (words ++ lost).foldl (fun (s : State) (e : Nat × NWord) =>
    let p := mapIn s dst (winBase s dst + e.1)
    s.dramPut (dramKey p.1 p.2) e.2) s1
  s2.modCatch (fun c => { c with evacPoisoned := BitVec.ofNat 32 ((words ++ lost).filter (fun e => e.2.p)).length })

/-- The evacuation ends ABORTED before the switch (R462). -/
def evacAbort (result : Nat) (s : State) : State :=
  if !s.evacuating then s
  else (clearPlacement s.catch'.evacDst s).modCatch (fun c => { c with evac := .aborted, evacResult := result })

/-- Placements of two windows overlap on a channel. -/
def localOverlap (s : State) (w v : Nat) : Bool :=
  let lo (x : Nat) : Nat := s.settingN (0x3180 + x) 3 % 1024
  let size (x : Nat) : Nat := ((s.settingW (0x3180 + x) 1).extractLsb' 13 13).toNat / 2 ^ ((s.settingW (0x3180 + x) 1).extractLsb' 27 2).toNat
  (winChannels s w).any (fun c => (winChannels s v).contains c) && lo w < lo v + size v && lo v < lo w + size w

/-- The placement tests of R429 for window `w`, against the enabled windows of a list. -/
def placementFits (s : State) (w : Nat) (others : List Nat) : Bool :=
  let c := s.settingW (0x3180 + w) 1
  let ways := 2 ^ (c.extractLsb' 27 2).toNat
  let size := (c.extractLsb' 13 13).toNat
  let chs := winChannels s w
  let lo := s.settingN (0x3180 + w) 3 % 1024
  size % ways = 0 && chs.eraseDups.length = ways && chs.all (fun n => lo + size / ways ≤ capacityGiB (chCfg s n)) &&
    others.all (fun v => !localOverlap s w v)

/-- The enabled windows but for those of a list. -/
def enabledBut (s : State) (out : List Nat) : List Nat := (List.range 16).filter (fun w => winEnabled s w && !out.contains w)

/-- EVAC_CMD_START (R458). -/
def evacStart (src dst : Nat) (s : State) : Except Word State :=
  need (src < 16 && dst < 16 && src ≠ dst && winEnabled s src && !winEnabled s dst && winSize s src = winSize s dst &&
      placementFits s dst (enabledBut s [src]) && (winChannels s dst).all (fun n => (s.chan n).st = .online) && !s.evacuating) abortState
    (.ok (s.modCatch (fun c => { c with
      evac := .copy, evacResult := 0, evacSrc := src, evacDst := dst, evacPoisoned := 0, evacMiB := 0 })))
def execEvacCmdStart (path src dst : Nat) (s : State) : Result := dictCommand path 0x3190 1 2 (evacStart src dst) s

/-- EVAC_CMD_CANCEL (R462, R626). -/
def evacCancel (s : State) : Except Word State := need s.evacuating abortState (.ok (evacAbort 1 s))
def execEvacCmdCancel (path : Nat) (s : State) : Result := dictCommand path 0x3190 1 2 evacCancel s

/-- EVAC_COPY_COMPLETE (R459, R461): `errs` are what the checks of its reads found. -/
def execEvacCopyComplete (errs : LineErrs) (s : State) : Result :=
  event (s.catch'.evac = .copy) s ((evacCopy errs s).modCatch (fun c => { c with
    evac := .switch, evacMiB := BitVec.ofNat 32 (winSize s c.evacSrc / 2 ^ 20) }))

/-- A request of the window is held at the gates, from the end of the copy to the switch (R461). -/
def windowHeld (s : State) (a : Nat) : Bool := s.catch'.evac = .switch && inWin s s.catch'.evacSrc a

/-- The address of a request to memory. -/
def bodyAddr (b : Body) : Option Nat :=
  match b with
  | .rd a _ => some a
  | .wr a _ _ _ => some a
  | .fold a _ _ => some a
  | _ => none

/-- Some gate has an unanswered request to the window. -/
def windowBusy (s : State) (w : Nat) : Bool :=
  s.net.gates.any (fun g => g.2.outstanding.any (fun o => match bodyAddr o.body with
    | some a => inWin s w a
    | none => false))

/-- EVAC_SWITCH (R461): on a pour tick, the source window takes the destination's placement. -/
def execEvacSwitch (s : State) : Result :=
  let src := s.catch'.evacSrc
  let dst := s.catch'.evacDst
  let c := s.settingW (0x3180 + src) 1
  let d := s.settingW (0x3180 + dst) 1
  event (s.catch'.evac = .switch && !windowBusy s src && s.power.pllLocked) s
    ((((s.putSetting (0x3180 + src) 1 (((c &&& 0x87FFFFFF#32) ||| (d &&& 0x78000000#32)).setWidth 64)).putSetting (0x3180 + src) 2
        (s.setting (0x3180 + dst) 2)).putSetting (0x3180 + src) 3 (s.setting (0x3180 + dst) 3)).modCatch
      (fun c => { c with evac := .done }))

/-! ### Channel commands (R447-R457) -/

/-- A channel leaves ONLINE: a zeroing of its lines is interrupted and an evacuation to it aborts. -/
def chanLeaves (n : Nat) (s : State) : State :=
  let s := if zeroUses s n then zeroEnds false s else s
  if s.evacuating && (winChannels s s.catch'.evacDst).contains n then evacAbort 2 s else s

/-- Entries an injection run issues: up to INJ_LEN, or to the first of a reserved KIND (`true`). -/
def injEntries (s : State) (n : Nat) : List DWord × Bool :=
  let es := (List.range (min 64 (s.settingN (chIdx n + 2) 4 % 128))).map (fun i => Tab.get 0 (s.chan n).inj i)
  let good (e : DWord) : Bool := let k := (e.extractLsb' 56 4).toNat; decide (1 ≤ k) && decide (k ≤ 5)
  (es.takeWhile good, !es.all good)

/-- The entries that capture. -/
def captureEntries (es : List DWord) : List DWord := es.filter (fun e => (e.extractLsb' 56 4).toNat = 4)

/-- Put beats in a capture slot. -/
def putBeats (slot sub : Nat) (bs : List DWord) (t : Tab DWord) : Tab DWord :=
  Tab.setList 0 t (slot * 32 + sub * 16) ((List.range 16).map (fun b => bs.getD b 0 &&& 0xFFFFFFFFFF#64))

/-- Captures of a run into the next slots. -/
def storeCaptures : List DWord → List (List DWord × List DWord) → Channel → Channel
  | [], _, c => c
  | e :: es, caps, c =>
    let cap := caps.headD ([], [])
    let t := if e.getLsbD 62 then putBeats c.capNext 0 cap.1 c.capture else c.capture
    let t := if e.getLsbD 63 then putBeats c.capNext 1 cap.2 t else t
    storeCaptures es (caps.drop 1) { c with capture := t, capNext := (c.capNext + 1) % 16 }

/-- What the DRAM answers to `k` capturing entries where no command names it: free values (log 1). -/
def drawCaptures (k : Nat) (s : State) : List (List DWord × List DWord) × State :=
  ((List.range k).map (fun i =>
      ((List.range 16).map (fun b => Config.free (s.fresh + 32 * i + b)), (List.range 16).map (fun b => Config.free (s.fresh + 32 * i + 16 + b)))),
    { s with fresh := s.fresh + 32 * k })

/-- The injection program runs on its own as a channel comes ONLINE (R447, R455). -/
def runProgram (n : Nat) (s : State) : State :=
  let (es, bad) := injEntries s n
  let (caps, s) := drawCaptures (captureEntries es).length s
  s.modChan n (fun c => { storeCaptures (captureEntries es) caps c with result := if bad then 1 else 0 })

/-- Enter ONLINE (R447): the injection program runs, no refresh is owed and the sprue port opens. -/
def chanOnline (n : Nat) (s : State) : State :=
  linkFresh (96 + n) (((runProgram n s).modChan n (fun c => { c with st := .online, waiting := .none, refresh := [], held := false })).setPort 10 (2 + n) .opening)

/-- Enter GATHERING: the contents are not preserved (R449). -/
def chanGather (n : Nat) (s : State) : State :=
  { s.modChan n (fun c => { c with st := .gathering, waiting := .none, staged := c.live }) with dram := s.dram.filter (fun e => e.1 / 2 ^ 37 ≠ n) }

/-- Proceed, or wait for the PHY PLL (R419). -/
def whenLocked (n : Nat) (w : ChWait) (go : Nat → State → State) (s : State) : State :=
  if (s.chan n).locked && s.domOn (78 + n) then go n s else s.modChan n (fun c => { c with waiting := w })

/-- PHY_PLL_LOCK (R419). -/
def execPhyPllLock (n : Nat) (s : State) : Result :=
  event (n < 8 && s.domOn (78 + n)) s
    (let s := s.modChan n (fun c => { c with locked := true })
     match (s.chan n).waiting with
     | .online => chanOnline n s
     | .gather => chanGather n s
     | .none => s)

/-- CH_CFG accepts a value (R418, R429, R468): the abort, if it is refused. -/
def chCfgBad (v : Word) : Option Word :=
  if v.toNat / 2 ^ 30 = 3 then some 0x06008703
  else if cidBits v = 3 || csBits v = 3 then some abortAbove
  else if v.toNat / 2 ^ 22 % 4 = 3 then some abortValue
  else if 512 < capacityGiB v then some 0x06008703
  else if v.getLsbD 29 && v.toNat / 2 ^ 30 ≠ 0 then some 0x06008703
  else none

/-- CH_CFG is written (R448): a change of speed relocks the PHY, and one of speed or geometry clears DLY_VALID. -/
def chCfgApply (n : Nat) (v : Word) (s : State) : Except Word State :=
  let c := s.chan n
  let v := v &&& (entryMask (chIdx n) 2).setWidth 32
  let old := chCfg s n
  match chCfgBad v with
  | some code => .error code
  | none =>
    need ((c.st = .offline || c.st = .failedTrain) && c.waiting = .none) abortState
      (.ok ((s.putSetting (chIdx n) 2 (v.setWidth 64)).modChan n (fun c => { c with
        locked := c.locked && v.toNat / 2 ^ 30 = old.toNat / 2 ^ 30
        dlyValid := c.dlyValid && v = old })))

/-- CH_CFG_WRITE (R448). -/
def execChCfgWrite (path n : Nat) (v : Word) (s : State) : Result := dictCommand path (chIdx n) 2 2 (chCfgApply n v) s

/-- A CH_CMD word of channel `n`; none is taken while one waits (R419). -/
def chCommand (path n : Nat) (act : Channel → State → Except Word State) (s : State) : Result :=
  dictCommand path (chIdx n) 3 2 (fun s => need (n < 8 && (s.chan n).waiting = .none) abortState (act (s.chan n) s)) s

/-- CH_CMD_ONLINE (R447). -/
def execChCmdOnline (path n : Nat) (s : State) : Result :=
  chCommand path n (fun c s => need (c.st = .offline && c.dlyValid && !c.fault && !c.held) abortState (.ok (whenLocked n .online chanOnline s))) s

/-- CH_CMD_OFFLINE (R447). -/
def execChCmdOffline (path n : Nat) (s : State) : Result :=
  chCommand path n (fun c s => need (c.st = .online && !chanMapped s n && !evacUses s n && !zeroUses s n) abortState
    (.ok (s.modChan n (fun c => { c with st := .draining })))) s

/-- CHANNEL_DRAIN_COMPLETE (R447). -/
def execChannelDrainComplete (n : Nat) (s : State) : Result :=
  let c := s.chan n
  event (c.st = .draining && c.reqs.isEmpty && c.ops.isEmpty && (pendingAt s (96 + n)).isEmpty) s
    ((s.modChan n (fun c => { c with st := .offline, refresh := [] })).setPort 10 (2 + n) .closed)

/-- CH_CMD_GATHER (R447). -/
def execChCmdGather (path n : Nat) (s : State) : Result :=
  chCommand path n (fun c s => need ((c.st = .offline || c.st = .failedTrain) && !c.held) abortState
    (.ok (whenLocked n .gather chanGather s))) s

/-- CH_CMD_RUN_INJ (R455). -/
def execChCmdRunInj (path n : Nat) (s : State) : Result :=
  chCommand path n (fun c s => need (c.st = .gathering && c.run = .none) abortState
    (.ok (s.modChan n (fun c => { c with run := .inj, result := 0 })))) s

/-- CH_CMD_SWEEP (R456). -/
def execChCmdSweep (path n : Nat) (s : State) : Result :=
  chCommand path n (fun c s => need (c.st = .gathering && c.run = .none) abortState
    (.ok (s.modChan n (fun c => { c with run := .sweep, result := 0, passA := [], passB := [], errs := [] })))) s

/-- A run ends with what the DRAM answered to the capturing entries it issued, on A and on B. -/
def endInj (n : Nat) (caps : List (List DWord × List DWord)) (result : Nat) (s : State) : State :=
  let es := (captureEntries (injEntries s n).1).take caps.length
  s.modChan n (fun c => { storeCaptures es caps c with run := .none, result := result })

/-- INJ_RUN_COMPLETE (R455): `caps` are the captures, one for each capturing entry; one that is missing reads 0. -/
def execInjRunComplete (n : Nat) (caps : List (List DWord × List DWord)) (s : State) : Result :=
  let (es, bad) := injEntries s n
  let all := (List.range (captureEntries es).length).map (fun i => caps.getD i ([], []))
  event ((s.chan n).run = .inj) s (endInj n all (if bad then 1 else 0) s)

/-- Lanes of a capture that differ from the pattern in some beat, and how many lane-beats differ. -/
def diffLanes (pattern : Tab DWord) (sub : Nat) (bs : List DWord) : DWord :=
  (List.range 16).foldl (fun m b => m ||| ((bs.getD b 0 ^^^ Tab.get 0 pattern (sub * 16 + b)) &&& 0xFFFFFFFFFF#64)) 0
def diffCount (pattern : Tab DWord) (sub : Nat) (bs : List DWord) : Nat :=
  (List.range 16).foldl (fun k b =>
    let x := bs.getD b 0 ^^^ Tab.get 0 pattern (sub * 16 + b)
    k + ((List.range 40).filter (fun i => x.getLsbD i)).length) 0

/-- One point of a sweep: its captures, each with the entry that made it. -/
def sweepPoint (p : Nat) (es : List (DWord × List DWord × List DWord)) (c : Channel) : Channel :=
  let all : DWord := 0xFFFFFFFFFF
  let fold (sub bit : Nat) (pick : List DWord × List DWord → List DWord) : DWord × Nat :=
    es.foldl (fun acc e => if e.1.getLsbD bit then (acc.1 ||| diffLanes c.pattern sub (pick e.2), acc.2 + diffCount c.pattern sub (pick e.2)) else acc)
      (0, 0)
  let a := fold 0 62 (·.1)
  let b := fold 1 63 (·.2)
  { c with
    passA := Tab.set 0 c.passA p (all &&& ~~~a.1), passB := Tab.set 0 c.passB p (all &&& ~~~b.1)
    errs := Tab.set 0 c.errs p (BitVec.ofNat 32 (a.2 + b.2)) }

/-- The entries of a point's captures, one program after another. -/
def pairCaptures (es : List DWord) (reps : Nat) (caps : List (List DWord × List DWord)) : List (DWord × List DWord × List DWord) :=
  List.zip ((List.replicate reps es).flatten) caps

/-- The points of a sweep whose codes are in range. -/
def sweepPoints (s : State) (n : Nat) : List Nat :=
  let cfg := s.settingW (chIdx n + 3) 1
  let start := s.settingW (chIdx n + 3) 2
  (List.range ((cfg.extractLsb' 16 9).toNat + 1)).filter (fun p =>
    decide ((start.extractLsb' 0 16).toNat + p * (cfg.extractLsb' 8 8).toNat ≤ 0xFFFF))

/-- A sweep's points with the captures of each, every program run storing its own (R455, R456). -/
def sweepRun (s : State) (n : Nat) (points : List Nat) (caps : List (List (List DWord × List DWord))) (c : Channel) : Channel :=
  let es := captureEntries (injEntries s n).1
  let reps := ((s.settingW (chIdx n + 3) 2).extractLsb' 16 16).toNat
  points.foldl (fun c p =>
    let pairs := pairCaptures es reps (caps.getD p [])
    storeCaptures (pairs.map (·.1)) (pairs.map (·.2)) (sweepPoint p pairs c)) c

/-- TRAIN_SWEEP_COMPLETE (R456): `caps` are the captures of each point. A code above 0xFFFF ends the sweep with RANGE, a reserved KIND in its first
program with BAD_ENTRY. -/
def execTrainSweepComplete (n : Nat) (caps : List (List (List DWord × List DWord))) (s : State) : Result :=
  let (es, bad) := injEntries s n
  let points := sweepPoints s n
  let count := ((s.settingW (chIdx n + 3) 1).extractLsb' 16 9).toNat + 1
  event ((s.chan n).run = .sweep) s
    (s.modChan n (fun c =>
      let c := if bad then storeCaptures (captureEntries es) (caps.getD 0 []) c else sweepRun s n points caps c
      { c with run := .none, result := if bad then 1 else if points.length < count then 2 else 0 }))

/-- CH_CMD_ABORT_RUN (R457): `caps` are the captures made by the entry boundary at which the run or sweep ends, by point for a sweep. The staged codes that a
sweep has changed are restored. -/
def execChCmdAbortRun (path n : Nat) (caps : List (List (List DWord × List DWord))) (s : State) : Result :=
  chCommand path n (fun c s => need (c.st = .gathering && c.run ≠ .none) abortState
    (.ok (if c.run = .inj then endInj n (caps.headD []) 3 s
      else s.modChan n (fun c => { sweepRun s n ((sweepPoints s n).take caps.length) caps c with run := .none, result := 3 })))) s

/-- CH_CMD_END_GATHER_ACCEPT (R447, R452). -/
def execChCmdEndGatherAccept (path n : Nat) (s : State) : Result :=
  chCommand path n (fun c s => need (c.st = .gathering && c.run = .none) abortState
    (.ok (s.modChan n (fun c => { c with st := .offline, live := c.staged, staged := [], dlyValid := true, fault := false })))) s

/-- CH_CMD_END_GATHER_FAIL (R447). -/
def execChCmdEndGatherFail (path n : Nat) (s : State) : Result :=
  chCommand path n (fun c s => need (c.st = .gathering && c.run = .none) abortState
    (.ok (s.modChan n (fun c => { c with st := .failedTrain, staged := [] })))) s

/-! ### The delay area (R453, R465, R580) -/

/-- Keys of the delay codes, rising: kind, chip select, subchannel and lane. -/
def dlyKeys : List Nat := List.range (6 * 512)

/-- The content of a delay area, in the model's own order (log 36): CH_CFG, REF_CFG, TIMING, INJ_LEN, the injection program
and the delay codes. -/
def delayContent (s : State) (n : Nat) : List Word :=
  let c := s.chan n
  [2, 5, 6, 7, 8, 9, 10].map (fun sub => s.settingW (chIdx n) sub) ++ [s.settingW (chIdx n + 2) 4] ++
    (List.range 64).flatMap (fun i => let e := Tab.get 0 c.inj i; [e.setWidth 32, (e >>> 32).setWidth 32]) ++
    (List.range 1536).map (fun j => (Tab.get 0 c.live (2 * j + 1)) ++ (Tab.get 0 c.live (2 * j)))

/-- A block with its header (R580). -/
def blockWithHeader (ws : List Word) : List Word := [0x4B4C4250#32, BitVec.ofNat 32 (4 * ws.length), crcOfWords ws, 0] ++ ws

/-- A block's content, where its magic and CRC match. -/
def blockContent (a : Tab Word) (limit : Nat) : Option (List Word) :=
  let w (i : Nat) : Word := Tab.get 0 a i
  let n := (w 1).toNat / 4
  let ws := (List.range n).map (fun i => w (4 + i))
  if w 0 = 0x4B4C4250#32 && (w 1).toNat % 4 = 0 && n + 4 ≤ limit && crcOfWords ws = w 2 then some ws else none

/-- A channel takes the delays and the program of a delay area, without the reserved bits of its entries (R10). -/
def takeDelays (n : Nat) (ws : List Word) (s : State) : State :=
  let g (i : Nat) : Word := ws.getD i 0
  let s := ([2, 5, 6, 7, 8, 9, 10].zipIdx).foldl (fun s e => s.putSetting (chIdx n) e.1 ((g e.2).setWidth 64 &&& entryMask (chIdx n) e.1)) s
  let s := s.putSetting (chIdx n + 2) 4 ((g 7).setWidth 64 &&& entryMask (chIdx n + 2) 4)
  s.modChan n (fun c => { c with
    inj := Tab.ofFn 0 (fun i => (g (9 + 2 * i) ++ g (8 + 2 * i) : DWord) &&& entryMask (chIdx n + 2) 2) (List.range 64)
    live := Tab.ofFn 0 (fun k => if k % 2 = 0 then (g (136 + k / 2)).setWidth 16 else (g (136 + k / 2) >>> 16).setWidth 16) dlyKeys
    dlyValid := true })

/-- The delay area of channel `n` in the active slot. -/
def delayArea (s : State) (n : Nat) : MouldArea :=
  if s.loader.actValid then Tab.get MouldArea.reset (Tab.get MouldSlot.reset s.loader.slots s.loader.actSlot).areas (8 + n) else .reset

/-- Change an area of a slot. -/
def State.modArea (s : State) (slot code : Nat) (g : MouldArea → MouldArea) : State :=
  { s with loader := { s.loader with slots := Tab.modify MouldSlot.reset s.loader.slots slot (fun m =>
      { m with areas := Tab.modify MouldArea.reset m.areas code g }) } }

/-- A write session of a slot begins (R584): it counts in MS_WEAR. -/
def wearSlot (slot : Nat) (s : State) : State :=
  { s with loader := { s.loader with slots := Tab.modify MouldSlot.reset s.loader.slots slot (fun m => { m with wear := m.wear + 1 }) } }

/-- MS_WEAR at its limit. -/
def wornOut (s : State) (slot : Nat) : Bool := 1000000000 ≤ (Tab.get MouldSlot.reset s.loader.slots slot).wear.toNat

/-- CH_CMD_SAVE_DELAYS (R453, R584, R586). -/
def execChCmdSaveDelays (path n : Nat) (s : State) : Result :=
  chCommand path n (fun c s =>
    need (c.dlyValid && s.loader.actValid && s.loader.session.isNone && s.loader.saving.isNone) abortState
      (need (!wornOut s s.loader.actSlot) 0x06008901#32
        (.ok (let s := wearSlot s.loader.actSlot (s.modArea s.loader.actSlot (8 + n) (fun a => { a with st := .writing }))
              { s with loader := { s.loader with saving := some n } })))) s

/-- SAVE_DELAYS_COMPLETE (R453). -/
def execSaveDelaysComplete (n : Nat) (s : State) : Result :=
  event (s.loader.saving = some n) s
    (let ws := blockWithHeader (delayContent s n)
     let s := s.modArea s.loader.actSlot (8 + n) (fun a => { st := .valid, words := Tab.setList 0 a.words 0 ws })
     { s with loader := { s.loader with saving := none } })

/-! ### Faults (R447, R472, R473) -/

/-- Every request a channel has not performed is answered OFFLINE; those that are done are answered as they are. -/
def answerOffline (n : Nat) (s : State) : State :=
  let rs := (s.chan n).reqs
  let s := rs.foldl (fun s r =>
    let b : Body :=
      if r.left = 0 then (if r.isRd then .rdata .ok (rdWords r) else .wack .ok r.rejected)
      else if r.isRd then .rdata .offline [] else .wack .offline false
    s.answer (96 + n) r.pkt.src r.pkt.oclass r.pkt.tag b) s
  s.modChan n (fun c => { c with reqs := [], ops := [] })

/-- The stop of a channel: a fatal fault or one by policy (R447, R695). What stands at its port is answered OFFLINE too (R27, R406). -/
def chanStop (n : Nat) (s : State) : State :=
  let s := chanLeaves n (if evacUses s n then evacAbort 3 s else s)
  match (s.chan n).st with
  | .gathering => s.modChan n (fun c => { c with
      st := .offline, fault := true, staged := [], waiting := .none, result := if c.run = .none then c.result else 3, run := .none })
  | _ => ((answerPending 10 (2 + n) (96 + n) (answerOffline n s)).modChan n (fun c => { c with st := .offline, fault := true, refresh := [], waiting := .none })).setPort 10 (2 + n) .closed

/-- Error 0x4701. -/
def chanFatal (n : Nat) (s : State) : State := chanStop n (reportChan 0x4701 n 0 s)

/-- One millisecond in pour ticks of 6.25 ns. -/
abbrev ticksPerMs : Nat := 160000

/-- CATCH_ALERT (R472, R473): the commands are reissued with the same data; more than ALERT_LIMIT alerts within 1 ms are
fatal. -/
def execCatchAlert (n : Nat) (s : State) : Result :=
  event (n < 8 && s.domOn 87) s
    (let now := s.power.pour
     let recent := ((s.chan n).alerts ++ [now]).filter (fun t => now.toNat < t.toNat + ticksPerMs)
     let s := (reportChan 0x2701 n 0 s).modChan n (fun c => { c with alerts := recent })
     if s.settingN 0x3192 7 < recent.length then chanFatal n s else s)

/-- PHY_CLOCK_LOSS (R473). -/
def execPhyClockLoss (n : Nat) (s : State) : Result :=
  event (n < 8 && s.domOn (78 + n)) s (chanFatal n (s.modChan n (fun c => { c with locked := false })))

/-! ### The map (R427-R431) -/

/-- MAP_CFG takes a value (R429-R431). -/
def mapCfgApply (w : Nat) (v : Word) (s : State) : Except Word State :=
  let v := v &&& (entryMask (0x3180 + w) 1).setWidth 32
  let old := s.settingW (0x3180 + w) 1
  let size := (v.extractLsb' 13 13).toNat
  let s1 := s.putSetting (0x3180 + w) 1 (v.setWidth 64)
  if size = 0 then .error abortBelow
  else if 4096 < size then .error abortAbove
  else if (v.extractLsb' 29 2).toNat = 3 then .error abortValue
  else if old.getLsbD 31 && (v &&& 0x7FFFFFFF#32) ≠ (old &&& 0x7FFFFFFF#32) then .error abortState
  else if old.getLsbD 31 && !v.getLsbD 31 then
    let hit := s.catch'.zeroBusy && (zeroLinesOf s).any (inWin s w)
    .ok ((if hit then zeroEnds false s else s).putSetting (0x3180 + w) 1 (v.setWidth 64))
  else if v.getLsbD 31 && !old.getLsbD 31 then
    let others := enabledBut s [w]
    need ((v.extractLsb' 0 12).toNat + size ≤ 4096 && placementFits s1 w others &&
        others.all (fun x => winBase s1 x + winSize s1 x ≤ winBase s1 w || winBase s1 w + winSize s1 w ≤ winBase s1 x)) 0x06008701#32
      (need ((winChannels s1 w).all (fun n => (s.chan n).st = .online)) abortState (.ok s1))
  else .ok s1

/-- MAP_CHAN and MAP_LOCAL take a value. -/
def mapApply (w sub : Nat) (v : Word) (s : State) : Except Word State :=
  let v := v &&& (entryMask (0x3180 + w) sub).setWidth 32
  if sub = 3 && 511 < v.toNat then .error abortAbove
  else need (!winEnabled s w || v = s.settingW (0x3180 + w) sub) abortState (.ok (s.putSetting (0x3180 + w) sub (v.setWidth 64)))

/-- Check a staged value as it is written: the tests of single fields (R429, R651). -/
def mapCfgBad (v : Word) : Option Word :=
  let size := (v.extractLsb' 13 13).toNat
  if size = 0 then some abortBelow else if 4096 < size then some abortAbove
  else if (v.extractLsb' 29 2).toNat = 3 then some abortValue else none

/-- MAP_ENABLE (R429): a write of MAP_CFG with EN = 1. -/
def execMapEnable (path w : Nat) (v : Word) (s : State) : Result :=
  rwtCommand path 0 (0x3180 + w) 1 2 ((v ||| 0x80000000#32).setWidth 64) (mapCfgBad v) (mapCfgApply w (v ||| 0x80000000#32)) s

/-- MAP_DISABLE (R431): the window's MAP_CFG is written with EN = 0. -/
def execMapDisable (path w : Nat) (s : State) : Result :=
  let v := s.settingW (0x3180 + w) 1 &&& 0x7FFFFFFF#32
  rwtCommand path 0 (0x3180 + w) 1 2 (v.setWidth 64) (mapCfgBad v) (mapCfgApply w v) s

/-! ### Entries (R466-R471) -/

/-- Codes of CH_STATUS.STATE. -/
def chStCode (st : ChSt) : Nat :=
  match st with
  | .online => 0
  | .draining => 1
  | .offline => 2
  | .gathering => 3
  | .failedTrain => 4

/-- CH_STATUS (R467). -/
def chStatus (s : State) (n : Nat) : Word :=
  let c := s.chan n
  let busy : Bool := c.run ≠ .none || c.st = .draining || c.waiting ≠ .none
  BitVec.ofNat 32 (chStCode c.st * 2 ^ 29 + (if c.fault then 2 ^ 28 else 0) + (if c.held then 2 ^ 27 else 0) + (if c.dlyValid then 2 ^ 26 else 0) +
    (if busy then 2 ^ 25 else 0) + (chCfg s n).toNat / 2 ^ 30 * 2 ^ 23)

/-- The key of a delay code that DLY_SELECT names, and whether it names the staged set. -/
def dlySel (w : Nat) : Nat × Bool :=
  (((w / 2 ^ 24 % 8 * 4 + w / 2 ^ 20 % 4) * 2 + w / 2 ^ 16 % 2) * 64 + w % 64, decide (2 ^ 31 ≤ w))

/-- EVAC_STATUS and ZERO_STATUS. -/
def evacStatus (c : CatchState) : Word :=
  let st := match c.evac with
    | .idle => 0
    | .copy => 1
    | .switch => 2
    | .done => 3
    | .aborted => 4
  BitVec.ofNat 32 (st * 2 ^ 28 + c.evacResult * 2 ^ 16 + c.evacDst * 2 ^ 8 + c.evacSrc)
def zeroStatus (c : CatchState) : Word :=
  BitVec.ofNat 32 ((if c.zeroBusy then 2 ^ 31 else 0) + (if c.zeroCancelled then 2 ^ 30 else 0) + (if c.zeroInterrupted then 2 ^ 29 else 0) +
    c.zeroLines * 64 / 2 ^ 30)

/-- Live entries of channel `n`, page `i`, as a path reads them. -/
def chanRead (s : State) (path n i sub : Nat) : Option DWord :=
  let c := s.chan n
  let w (v : Word) : Option DWord := some (v.setWidth 64)
  let sel (j : Nat) : Nat := s.selector path (chIdx n + i) j
  match i, sub with
  | 0, 1 => w (chStatus s n)
  | 0, 4 => some (BitVec.ofNat 64 ((if c.run ≠ .none || c.waiting ≠ .none then 2 ^ 31 else 0) + c.result))
  | 0, 0x0B => w c.ce
  | 0, 0x0C => w c.ue
  | 0, 0x0D => w c.poisonReads
  | 0, 0x0E => w c.rmw
  | 0, 0x0F => w c.folds
  | 0, 0x10 => w c.foldLines
  | 0, 0x11 => w c.refUrgent
  | 0, 0x12 => some c.lanesA
  | 0, 0x14 => some c.lanesB
  | 1, 2 =>
    let k := dlySel (sel 1)
    some ((Tab.get 0 (if k.2 then c.staged else c.live) k.1).setWidth 64)
  | 1, 3 => some (BitVec.ofNat 64 ((if s.loader.released && (delayArea s n).st = .valid then 2 else 0) + (if c.dlyValid then 1 else 0)))
  | 2, 2 => some (Tab.get 0 c.inj (sel 1 % 64))
  | 2, 6 => some (Tab.get 0 c.pattern (sel 5 % 32))
  | 2, 9 => some (Tab.get 0 c.capture (sel 8 / 2 ^ 8 % 16 * 32 + sel 8 % 2 * 16 + sel 8 / 2 ^ 4 % 16))
  | 3, 4 => some (Tab.get 0 c.passA (sel 3 % 512))
  | 3, 6 => some (Tab.get 0 c.passB (sel 3 % 512))
  | 3, 8 => w (Tab.get 0 c.errs (sel 3 % 512))
  | _, _ => none

/-- Live entries of the controller. -/
def catchReadEntry (s : State) (path idx sub : Nat) : Option DWord :=
  let c := s.catch'
  if 0x3100 ≤ idx && idx < 0x3180 then
    (if idx % 16 < 4 then chanRead s path ((idx - 0x3100) / 16) (idx % 16) sub else none)
  else match idx, sub with
    | 0x3190, 2 => some ((evacStatus c).setWidth 64)
    | 0x3190, 3 => some (c.evacMiB.setWidth 64)
    | 0x3190, 4 => some (c.evacPoisoned.setWidth 64)
    | 0x3191, 6 => some ((zeroStatus c).setWidth 64)
    | _, _ => none

/-- Reads that clear. -/
def catchReadClear (idx sub : Nat) (s : State) : State :=
  if 0x3100 ≤ idx && idx < 0x3180 && idx % 16 = 0 then
    s.modChan ((idx - 0x3100) / 16) (fun c => match sub with
      | 0x0B => { c with ce := 0 }
      | 0x0C => { c with ue := 0 }
      | 0x0D => { c with poisonReads := 0 }
      | 0x0E => { c with rmw := 0 }
      | 0x0F => { c with folds := 0 }
      | 0x10 => { c with foldLines := 0 }
      | 0x11 => { c with refUrgent := 0 }
      | _ => c)
  else s

/-- Writes of a channel's entries by a path (R448, R452, R454, R466). -/
def chanApply (path n i sub : Nat) (v : DWord) (s : State) : Except Word State :=
  let c := s.chan n
  let idle : Bool := (c.st = .offline || c.st = .failedTrain) && c.waiting = .none
  let inj : Bool := c.st = .offline || c.st = .failedTrain || c.st = .gathering
  let sel (j : Nat) : Nat := s.selector path (chIdx n + i) j
  match i, sub with
  | 0, 2 => chCfgApply n (v.setWidth 32) s
  | 0, 0x12 => .ok (s.modChan n (fun c => { c with lanesA := c.lanesA &&& ~~~v }))
  | 0, 0x14 => .ok (s.modChan n (fun c => { c with lanesB := c.lanesB &&& ~~~v }))
  | 1, 2 =>
    let k := dlySel (sel 1)
    need (c.st = .gathering && k.2) abortState (.ok (s.modChan n (fun c => { c with staged := Tab.set 0 c.staged k.1 (v.setWidth 16) })))
  | 2, 2 => need inj abortState (.ok (s.modChan n (fun c => { c with inj := Tab.set 0 c.inj (sel 1 % 64) (v &&& entryMask (chIdx n + 2) 2) })))
  | 2, 4 => if 64 < v.toNat then .error abortAbove else need inj abortState (.ok (s.putSetting (chIdx n + 2) 4 v))
  | 2, 6 => .ok (s.modChan n (fun c => { c with pattern := Tab.set 0 c.pattern (sel 5 % 32) (v &&& 0xFFFFFFFFFF#64) }))
  | 0, _ => if 6 ≤ sub && sub ≤ 10 then need idle abortState (.ok (s.putSetting (chIdx n) sub v)) else .ok (s.putSetting (chIdx n) sub v)
  | _, _ => .ok (s.putSetting (chIdx n + i) sub v)

/-- Writes of the controller's global entries (R463, R471). -/
def catchApply (idx sub : Nat) (v : DWord) (s : State) : Except Word State :=
  match idx, sub with
  | 0x3191, 1 => need (v.toNat % 64 = 0) abortValue (.ok (s.putSetting idx sub v))
  | 0x3191, 3 => need (v.toNat % 64 = 0) abortValue (.ok (s.putSetting idx sub v))
  | 0x3192, 3 => need (s.settingN 0x3192 4 < v.toNat) abortBelow (.ok (s.putSetting idx sub v))
  | 0x3192, 4 => need (v.toNat < s.settingN 0x3192 3) abortAbove (.ok (s.putSetting idx sub v))
  | _, _ => .ok (s.putSetting idx sub v)

end Sys2Proof.Machine
end

