-- ==== Sys2Proof/Machine/PowerOps.lean ====
section
/-! DEFINITION. Power domains as start-up uses them: their supplies, the start of a ramp, and PWR_DEFAULT of the slot that is being loaded
(R751, R755, R758, R770). -/

namespace Sys2Proof.Machine

/-- Change the clock and power state. -/
def State.modPower (s : State) (g : PowerState → PowerState) : State := { s with power := g s.power }

/-- The supplies of a domain are good (R751). -/
def supplied (s : State) (d : Nat) : Bool := s.power.good1 && (!(72 ≤ d && d < 86) || s.power.good2)

/-- A domain enters RAMPING: its switch waits for the in-rush slot (R755). -/
def rampDomain (d : Nat) (s : State) : State := s.modDom d (fun x => { x with st := .ramping, granted := false })

/-- A domain that is OFF or FAILED starts to ramp, if its supplies are good. -/
def powerUp (d : Nat) (s : State) : State :=
  if supplied s d && ((s.dom d).st = .off || (s.dom d).st = .failed) then rampDomain d s else s

/-- The domains that a mask names, in ascending number. -/
def namedDomains (m : BitVec 88) : List Nat := (List.range 87).filter (fun d => m.getLsbD d)

/-- Start-up powers up the domains it wants that have yet to ramp. -/
def powerWanted (s : State) : State := (namedDomains s.power.wanted).foldl (fun s d => powerUp d s) s

/-! ### The settings block (R580, R581) -/

/-- The entry records of a frame: index, subindex and value; padding is left out (R575). -/
def entryRecords : Nat → List Word → List (Nat × Nat × Word)
  | 0, _ => []
  | k + 1, ws =>
    let a := ws.getD 0 0
    let rest := entryRecords k (ws.drop 2)
    if a = 0 then rest else (a.toNat / 256 % 65536, a.toNat % 256, ws.getD 1 0) :: rest

/-- The records of a slot's settings block. -/
def settingsRecords (s : State) (n : Nat) : List (Nat × Nat × Word) :=
  let a := Tab.get MouldArea.reset (Tab.get MouldSlot.reset s.loader.slots n).areas 3
  if a.st = .valid then
    match blockContent a.words 16384 with
    | some ws => entryRecords (ws.length / 2) ws
    | none => []
  else []

/-- The value the last record of a list gives an entry, 0 where none does. -/
def recordValue (rs : List (Nat × Nat × Word)) (idx sub : Nat) : Word :=
  match (rs.filter (fun r => r.1 = idx && r.2.1 = sub)).getLast? with
  | some r => r.2.2
  | none => 0

/-- The slots that BOOT_ORDER names (R617). -/
def bootSlots (w : Word) : List Nat :=
  (((List.range 8).map (fun k => w.toNat / 16 ^ k % 16)).takeWhile (fun n => n ≠ 15)).filter (fun n => n < 4)

/-- BOOT_ORDER: what a valid copy of the boot record holds, 0xFFFF_FF10 without one (R588). -/
def bootOrder (l : Loader) : Word := (l.bootCopies.1.orElse (fun _ => l.bootCopies.2)).getD 0xFFFFFF10#32

/-- The slot that is active after a full image from the loader's present source (R581). -/
def slotToBe (s : State) : Option Nat :=
  if s.loader.source = 0 then some s.loader.slot
  else (bootSlots (bootOrder s.loader)).find? (fun n => (Tab.get MouldArea.reset (Tab.get MouldSlot.reset s.loader.slots n).areas 3).st = .valid)

/-- PWR_DEFAULT as start-up finds it (R770, log 41): all ones where no slot is active. -/
def pwrDefault (s : State) : BitVec 88 :=
  match slotToBe s with
  | none => BitVec.ofNat 88 (2 ^ 87 - 1)
  | some n =>
    let rs := settingsRecords s n
    (recordValue rs 0x2111 4 &&& 0x7FFFFF#32).setWidth 24 ++ recordValue rs 0x2111 3 ++ recordValue rs 0x2111 2

/-- The header of a full image has passed: the gated domains of PWR_DEFAULT power up (R758). -/
def startDomains (s : State) : State := powerWanted (s.modPower (fun p => { p with wanted := pwrDefault s }))

/-- Every domain that start-up wants is ON or FAILED (R758). -/
def domainsReady (s : State) : Bool := (namedDomains s.power.wanted).all (fun d => (s.dom d).st = .on || (s.dom d).st = .failed)

end Sys2Proof.Machine
end

