-- ==== Sys2Proof/Machine/Recast.lean ====
section
/-! DEFINITION. Recasts: the move of a logical flask to another physical flask of its row (R127-R134, R141, R612, R697). -/

namespace Sys2Proof.Machine

/-- An OPEN transaction holds staged writes to the entries of physical flask `p` (R128, R611). -/
def State.stagedTo (s : State) (p : Nat) : Bool :=
  s.dict.sessions.any (fun e => e.2.txSt = .opened && e.2.staged.any (fun w => w.idx = 0x4000 + p || w.idx = 0x4100 + p))

/-- What START needs beyond a SPARE_IDLE target in the row of the logical flask: R128 and R612. -/
def recastAllowed (s : State) (k target : Nat) : Bool :=
  let p := s.physOf k
  (s.flask p).role = .active && !s.recasting (k / 8) && !s.stagedTo p && !s.stagedTo target && !s.inRegion p && !s.inRegion target

/-- The target of a recast of logical flask `k` (R127). -/
def recastTarget (s : State) (k target : Nat) : Bool := target / 9 = k / 8 && target < 72 && (s.flask target).role = .spareIdle

/-- A recast enters PRECOPY. -/
def startRecast (k target : Nat) (byPolicy : Bool) (s : State) : State :=
  let p := s.physOf k
  let s := s.modRecast (k / 8) (fun _ =>
    { st := .precopy, result := 0, logical := k, source := p, target := target, byPolicy := byPolicy, dirty := [] })
  let s := (s.modFlask p (fun f => { f with role := .recastSource })).modFlask target (fun f => { f with role := .recastTarget, logical := k })
  { s with recastRow := k / 8 }

/-- RECAST_CMD START. -/
def recastStart (k target : Nat) (s : State) : Except Word State :=
  need (k < 64 && recastTarget s k target && recastAllowed s k target) abortState (.ok (startRecast k target false s))

/-- RECAST_CMD CANCEL: in PRECOPY and DRAIN. -/
def recastCancel (k : Nat) (s : State) : Except Word State :=
  let r := s.recast (k / 8)
  need (k < 64 && (r.st = .precopy || r.st = .drain) && r.logical = k) abortState (.ok (abortRecast (k / 8) 2 s))

/-- RECAST_CMD RELEASE: the flask has retired and its domain has been powered up again since. -/
def recastRelease (p : Nat) (s : State) : Except Word State :=
  let f := s.flask p
  need (p < 72 && f.role = .retired && f.repowered) abortState
    (.ok (s.modFlask p (fun f => { f with role := .spareIdle, repowered := false })))

/-- RECAST_CMD_START (R127, R128). -/
def execRecastCmdStart (path k target : Nat) (s : State) : Result := dictCommand path 0x4200 0x41 2 (recastStart k target) s

/-- RECAST_CMD_CANCEL (R129, R131). -/
def execRecastCmdCancel (path k : Nat) (s : State) : Result := dictCommand path 0x4200 0x41 2 (recastCancel k) s

/-- RECAST_CMD_RELEASE (R141). -/
def execRecastCmdRelease (path p : Nat) (s : State) : Result := dictCommand path 0x4200 0x41 2 (recastRelease p) s

/-- A write of RECAST_CMD, taken apart. -/
def recastCmdApply (v : Word) (s : State) : Except Word State :=
  let k := (v.extractLsb' 8 6).toNat
  let p := (v.extractLsb' 0 7).toNat
  match (v.extractLsb' 28 4).toNat with
  | 1 => recastStart k p s
  | 2 => recastCancel k s
  | 3 => recastRelease p s
  | _ => .error abortValue

/-- RECAST_PRECOPY_COMPLETE (R129): with at most 512 words dirty the drain begins, otherwise they are copied again. -/
def execRecastPrecopyComplete (y : Nat) (s : State) : Result :=
  let r := s.recast y
  event (r.st = .precopy) s
    (s.modRecast y (fun r => if r.dirty.length ≤ 512 then { r with st := .drain } else { r with dirty := [] }))

/-- No QPOP of the flask waits for its answer. -/
def noPops (f : Flask) : Bool := (List.range 16).all (fun n => (f.slot n).ctx.pops.all (fun e => e.2.all (fun x => x ≠ .waiting)))

/-- No narrow write is in its second cycle (R80). -/
def noNarrow (f : Flask) : Bool := f.wb.isEmpty && f.cyc.narrow.isEmpty

/-- No QPUSH cell of the flask is inside a packet (R129). -/
def noOpenPush (s : State) (p : Nat) : Bool :=
  (s.gate (s.flaskNode p)).prod.all (fun e => !leavesOpen e.2.midPacket e.2.gather)

/-- The flask is quiet but for its packets: R613's conditions, which the drain of a recast shares. -/
def flaskQuiet (s : State) (p : Nat) : Bool :=
  let f := s.flask p
  noPops f && noNarrow f && f.engOp = .idle && f.eng.isEmpty && acceptablePoint (s.cru p)

/-- A flask comes to be held still at the edge of a cycle: its own cycle ends, and the words that its neighbours have on their way into it cross first,
so that none in flight is lost (R34). -/
def holdFlask (p : Nat) (s : State) : State := closeCycle p (crossInto p s)

/-- RECAST_FREEZE (R34, R129): at a pour tick at which the source, its present cycle ended, meets the conditions of the drain. -/
def execRecastFreeze (y : Nat) (s : State) : Result :=
  let r := s.recast y
  let s1 := holdFlask r.source s
  event (r.st = .drain && s.power.pllLocked && flaskQuiet s1 r.source && noOpenPush s1 r.source) s (s1.modRecast y (fun r => { r with st := .freeze }))

/-- The target of a recast takes what its source holds; the counters of its own entries stay. -/
def Flask.recastFrom (t f : Flask) : Flask :=
  { f with role := .active, idleCycles := t.idleCycles, switches := t.switches, fills := t.fills, spills := t.spills,
           irqBlocked := t.irqBlocked, repowered := t.repowered }

/-- The same of its crucible. -/
def Cru.recastFrom (t c : Cru) : Cru := { c with cycles := t.cycles, stalls := t.stalls }

/-- The settings of index `a` become those of index `b`. -/
def copySettings (a b : Nat) (s : State) : State :=
  (List.range 256).foldl (fun s sub => s.putSetting b sub (s.setting a sub)) s

/-- The switch of a recast: map, boundary switch, routes and initiator ID (R129, R372). -/
def switchRecast (r : Recast) (s : State) : State :=
  let f := s.flask r.source
  let c := s.cru r.source
  let s := (s.modFlask r.target (fun t => t.recastFrom f)).modCru r.target (fun t => t.recastFrom c)
  let s := s.modFlask r.source (fun f => { f with role := .retired, repowered := false, cur := 16, nxt := 16, cyc := .reset })
  let s := s.modCru r.source (fun c => { c with st := .stopped })
  let s := copySettings (0x4100 + r.source) (0x4100 + r.target) (copySettings (0x4000 + r.source) (0x4000 + r.target) s)
  let s := { s with lmap := Tab.set (lmapDefault r.logical) s.lmap r.logical r.target, recastCount := s.recastCount + 1 }
  let y := r.logical / 8
  setRoute y (64 + y) (r.source % 9) (setRoute y r.logical (r.target % 9) s)

/-- RECAST_DONE (R19, R129, R133, R134): on a pour tick; a chill that falls on it is taken first, from the source. -/
def execRecastDone (y : Nat) (s : State) : Result :=
  let r := s.recast y
  event (r.st = .freeze && s.tickFree) s
    (let s1 := (switchRecast r s).modRecast y (fun r => { r with st := .done, dirty := [] })
     if r.byPolicy then reportAt 0x2110 2 r.logical (BitVec.ofNat 32 (r.source * 256 + r.target)) 0 s1 else s1)

/-- RECAST_TIMEOUT (R129): the drain has lasted too long. -/
def execRecastTimeout (y : Nat) (s : State) : Result := event ((s.recast y).st = .drain) s (abortRecast y 1 s)

/-- RECAST_TARGET_FAULT (R129). -/
def execRecastTargetFault (y : Nat) (s : State) : Result := event (s.recasting y) s (abortRecast y 3 s)

/-- The count of physical flask `p` has reached RECAST_CE_LIMIT (R697). -/
def policyRecast (p : Nat) (s : State) : State :=
  match s.logicalOf p with
  | none => s
  | some k =>
    match ((List.range 9).map (fun x => 9 * (p / 9) + x)).find? (fun t => (s.flask t).role = .spareIdle) with
    | none => policyFails p 1 s
    | some t => if recastAllowed s k t then startRecast k t true s else policyFails p 2 s

/-- Codes of RECAST_STATUS. -/
def recastCode (r : RecastSt) : Nat :=
  match r with
  | .idle => 0
  | .precopy => 1
  | .drain => 2
  | .freeze => 3
  | .done => 4
  | .aborted => 5

/-- Live entries of the recast map (R141). -/
def recastRead (s : State) (sub : Nat) : Option DWord :=
  if 1 ≤ sub && sub ≤ 0x40 then some (BitVec.ofNat 64 (s.physOf (sub - 1)))
  else if sub = 0x42 then
    let r := s.recast s.recastRow
    some (BitVec.ofNat 64 (recastCode r.st * 2 ^ 28 + r.result.toNat * 2 ^ 16 + r.logical * 2 ^ 8 + r.target))
  else if sub = 0x44 then some (s.recastCount.setWidth 64)
  else none

end Sys2Proof.Machine
end

