-- ==== Sys2Proof/Machine/Loader.lean ====
section
/-! DEFINITION. The loader up to the release of an image: records and their checks, the slave configuration port, LD_CMD, and write sessions
of the mould store (R565-R613, R617-R620). -/

namespace Sys2Proof.Machine

/-- Change the loader. -/
def State.modLoader (s : State) (g : Loader → Loader) : State := { s with loader := g s.loader }

/-! ### Which entries an image may name (R575) -/

/-- Entries whose Default column reads "image", and the upper half of the 64-bit one. -/
def imageEntry (idx sub : Nat) : Bool :=
  (0x4000 ≤ idx && idx < 0x4048 && (sub = 2 || sub = 3 || sub = 4 || (0x20 ≤ sub && sub < 0x30))) ||
  (0x4100 ≤ idx && idx < 0x4148 && (sub = 2 || sub = 3)) ||
  (0x3500 ≤ idx && idx < 0x35C0 && sub = 3 && idx % 32 ≤ 1) ||
  (0x2500 ≤ idx && idx < 0x2540 && sub = 1) ||
  (0x2580 ≤ idx && idx < 0x258A && sub = 1) || (0x2590 ≤ idx && idx < 0x259C && sub = 1) ||
  (idx = 0x25A0 && 1 ≤ sub && sub ≤ 16)

/-- Entries whose reset value is "M" and that a settings block may name (R580). -/
def settingsEntry (idx sub : Nat) : Bool :=
  (idx = 0x3410 && sub = 1) || (0x3180 ≤ idx && idx < 0x3190 && 1 ≤ sub && sub ≤ 3) ||
  (0x3100 ≤ idx && idx < 0x3180 &&
    ((idx % 16 = 0 && (sub = 2 || (5 ≤ sub && sub ≤ 0x0A))) || (idx % 16 = 2 && (sub = 2 || sub = 3 || sub = 4)))) ||
  (idx = 0x2600 && sub = 2) || (idx = 0x2111 && (sub = 2 || sub = 3 || sub = 4))

/-- The flask an entry belongs to. -/
def entryFlask (idx : Nat) : Option Nat :=
  if 0x4000 ≤ idx && idx < 0x4048 then some (idx - 0x4000) else if 0x4100 ≤ idx && idx < 0x4148 then some (idx - 0x4100) else none

/-! ### Frames (R567, R571-R573) -/

/-- Target of a frame address: a flask, 0x7F for device entries. -/
def faTarget (fa : Nat) : Nat := fa / 2 ^ 17
def faSpace (fa : Nat) : Nat := fa / 2 ^ 14 % 8
def faContext (fa : Nat) : Nat := fa / 64 % 256

/-- A frame address fits a row of R571. -/
def faValid (fa : Nat) : Bool :=
  if faTarget fa = 0x7F then true
  else faTarget fa < 72 &&
    (match faSpace fa with
     | 0 => fa % 64 ≤ 4 || (8 ≤ fa % 64 && fa % 64 ≤ 23)
     | 1 => fa / 64 % 256 = 0
     | 2 => fa / 512 % 32 = 0 && fa / 128 % 4 ≠ 3
     | 3 => fa / 4 % 4096 = 0 && fa % 4 ≠ 3
     | _ => false)

/-- A frame 4 of a context carries its record header with VALID and the context's own ID (R572). -/
def headerFits (fa : Nat) (ws : List Word) : Bool :=
  let w := ws.getD 8 0
  !(faTarget fa < 72 && faSpace fa = 0 && fa % 64 = 4) || (w.getLsbD 31 && w.toNat % 256 = faContext fa)

/-- The error of an entry record, if it has one (R575, R594, R599). -/
def entryError (isPartial : Bool) (region : BitVec 72) (r : Nat × Nat × Word) : Option Nat :=
  let outside := isPartial && !(match entryFlask r.1 with
    | some p => region.getLsbD p
    | none => false)
  if !imageEntry r.1 r.2.1 then some 0x3909 else if outside then some 0x3905 else none

/-- The check of a frame record of 34 words against the frames before it (R594); `bad` says that its source delivered a bad word (R600). -/
def frameError (isPartial : Bool) (region : BitVec 72) (last : Option Nat) (bad : Bool) (ws : List Word) : Option Nat :=
  let fa := (ws.getD 0 0).toNat % 2 ^ 24
  let data := (ws.drop 1).take 32
  if bad || ws.length ≠ 34 || crcOfWords (ws.take 33) ≠ ws.getD 33 0 then some 0x3903
  else if !(faValid fa && headerFits fa data) then some 0x3904
  else if last.any (fun l => fa ≤ l) then some 0x3906
  else if isPartial && faTarget fa ≠ 0x7F && !region.getLsbD (faTarget fa) then some 0x3905
  else if faTarget fa = 0x7F then (entryRecords 16 data).findSome? (entryError isPartial region)
  else none

/-! ### The header (R566, R593, R611) -/

/-- KIND of a header. -/
def hdrKind (ws : List Word) : Nat := ((ws.getD 2 0).extractLsb' 28 4).toNat
/-- REGION of a header. -/
def hdrRegion (ws : List Word) : BitVec 72 := (ws.getD 6 0).extractLsb' 0 8 ++ ws.getD 5 0 ++ ws.getD 4 0

/-- A flask may be in the region of a partial image (R611). -/
def regionFits (s : State) (p : Nat) : Bool :=
  let r := (s.flask p).role
  s.domOn p && (r = .active || r = .stopped || r = .spareIdle) && !s.stagedTo p

/-- The checks of a header that do not look at the device's state. -/
def headerShape (bad : Bool) (ws : List Word) : Option Nat :=
  if bad || ws.length ≠ 16 || ws.getD 0 0 ≠ 0x4C524142#32 || crcOfWords (ws.take 15) ≠ ws.getD 15 0 then some 0x3901
  else if (ws.getD 2 0).extractLsb' 8 8 ≠ (1 : BitVec 8) then some 0x3901
  else if ws.getD 1 0 ≠ 0x00004096#32 then some 0x3902
  else if !(hdrKind ws = 1 || hdrKind ws = 2) then some 0x390A
  else none

/-- FRAME_COUNT and REGION of a header. -/
def headerCounts (eligible : Nat → Bool) (ws : List Word) : Option Nat :=
  let n := (ws.getD 3 0).toNat
  let g := hdrRegion ws
  if n = 0 || 57825 < n then some 0x3901
  else if hdrKind ws = 1 then (if g = BitVec.allOnes 72 then none else some 0x3901)
  else if g ≠ 0 && (List.range 72).all (fun p => !g.getLsbD p || eligible p) then none
  else some 0x3905

/-- The check of a header (R590, R593). -/
def headerError (s : State) (bad : Bool) (ws : List Word) : Option Nat :=
  match headerShape bad ws with
  | some e => some e
  | none => if (hdrKind ws = 1) = s.loader.released then some 0x390A else headerCounts (regionFits s) ws

/-! ### Sources -/

/-- The gate by which the loader reads an image in catch memory (R604). -/
abbrev loaderNode : Nat := 89

/-- Where the record due begins in the image, and its length, in words (R565). -/
def recordPlace (l : Loader) : Nat × Nat :=
  if l.st ≠ .receiving then (0, 16) else (16 + 34 * l.frames, if l.frames = l.frameCount then 4 else 34)

/-- The reads that fetch `n` words from a catch address: one for each line they touch. -/
def fetchReads (a n : Nat) : List (Nat × Nat) :=
  (linesOf a n).map (fun la => let lo := max a la; (lo, min ((la + 64 - lo) / 4) ((a + 4 * n - lo) / 4)))

/-- The reads of the record due. -/
def recordReads (s : State) : List (Nat × Nat) :=
  let (base, n) := recordPlace s.loader
  fetchReads (s.settingN 0x2200 3 + 4 * base) n

/-- What the loader has asked for is waited for no more. -/
def dropFetch (s : State) : State :=
  s.modGate loaderNode (fun g => { g with
    answers := []
    waiting := g.waiting.map (fun p => { p with who := 0 })
    outstanding := g.outstanding.map (fun o => { o with who := 0 }) })

/-- A load from catch memory asks for its next record (R604). -/
def fetchRecord (s : State) : State :=
  if s.loader.source ≠ 2 then s
  else (recordReads s).zipIdx.foldl (fun s e => s.requestBy (e.2 + 1) loaderNode unresolved 0 0 (.rd e.1.1 e.1.2)) (dropFetch s)

/-- The answer to the `k`-th read of the record. -/
def fetched (s : State) (k : Nat) : Option Body := ((s.gate loaderNode).answers.find? (fun a => a.who = k + 1)).map (·.body)

/-- Every read of the record has been answered. -/
def recordFetched (s : State) : Bool := (List.range (recordReads s).length).all (fun k => (fetched s k).isSome)

/-- The words of the record as they were answered; poison where a read was not answered OK (R393). -/
def fetchedWords (s : State) : List NWord :=
  (recordReads s).zipIdx.flatMap (fun e => match fetched s e.2 with
    | some (.rdata .ok ws) => ws
    | _ => List.replicate e.1.2 ⟨0, true⟩)

/-- The next record as its source delivers it: from the mould slot, from catch memory, or what came on the SCP. -/
def nextRecord (s : State) : List Word × Bool :=
  match s.loader.source with
  | 0 =>
    let (base, n) := recordPlace s.loader
    ((List.range n).map (fun i => Tab.get 0 ((s.mould s.loader.slot).area 0).words (base + i)), false)
  | 1 => (s.loader.scpRec, false)
  | _ => ((fetchedWords s).map (·.d), (fetchedWords s).any (·.p))

/-- Report an error of the loader (R620, R685). -/
def reportLoader (code record fa : Nat) (s : State) : State :=
  reportAt code 0x0D s.loader.source (BitVec.ofNat 32 record) (BitVec.ofNat 64 fa) s

/-- A corrected word of the mould store or of staging (0x1901). -/
def noteEcc (ecc : Ecc) (s : State) : State := if ecc = .corrected then reportLoader 0x1901 0 0 s else s

/-- An image region that start-up tries: VALID and a full image (R588). -/
def bootable (s : State) (n : Nat) : Bool :=
  let a := (s.mould n).area 0
  n < 4 && a.st = .valid && ((Tab.get 0 a.words 2).extractLsb' 28 4).toNat = 1

/-- Every skipped boot slot's recovery is complete: a slot has loaded, or start-up moves on to the SCP (R689). -/
def bootRecovered (s : State) : State :=
  s.chill.ongoing.foldl (fun s r => if r.code = 0x2902 then recoveryEnds 0x2902 0x0D 0 true s else s) s

/-- Start-up goes on to its next source (R588): the next bootable slot, the SCP under 0b00, or 0x4901 under 0b10. -/
def bootNext (s : State) : State :=
  match s.loader.toTry.dropWhile (fun n => !bootable s n) with
  | n :: rest => s.modLoader (fun l => { l with source := 0, slot := n, armed := true, toTry := rest, booting := true })
  | [] =>
    let s := s.modLoader (fun l => { l with toTry := [], booting := false, armed := false })
    if s.power.bootSel = 2 then reportLoader 0x4901 0 0 s else bootRecovered s

/-- A load ends without effect (R591, R592): LD_ERROR names the record, and start-up tries its next source. `own` says that the code is logged
for a boot slot too. -/
def endLoad (code record fa : Nat) (own : Bool) (s : State) : State :=
  let boot := s.loader.booting
  let s := if boot && !own then reportRecovering { code := 0x2902, kind := 0x0D, oid := 0, aux := BitVec.ofNat 32 record, detail := BitVec.ofNat 64 fa } s
    else reportLoader code record fa s
  let s := recoveryEnds 0x2901 0x0D 1 false (if s.loader.source = 2 then dropFetch s else s)
  let s := s.modLoader (fun l =>
    { l with
      st := .idle, armed := false, staged := [], error := BitVec.ofNat 32 (code * 2 ^ 16 + record), retries := 0
      last := if l.source = 1 then .rejected else l.last })
  if boot then bootNext s else s

/-- A record has been checked: the SCP is ready again. -/
def recordDone (s : State) : State := s.modLoader (fun l => { l with scpBusy := false, scpRec := [] })

/-- A source delivers the next record: an SCP transaction, a slot being read, or catch memory with every read answered. -/
def recordReady (s : State) : Bool :=
  s.power.released && (if s.loader.source = 1 then s.loader.scpBusy
    else (s.loader.armed || s.loader.st = .receiving) && (s.loader.source ≠ 2 || recordFetched s))

/-- A header has passed: RECEIVING begins (R591), and a full image starts the gated domains it wants (R758). -/
def headerPasses (ws : List Word) (s : State) : State :=
  let s := s.modLoader (fun l =>
    { l with
      st := .receiving, armed := false, isPartial := hdrKind ws = 2, region := hdrRegion ws, frameCount := (ws.getD 3 0).toNat
      version := ws.getD 7 0, crc := ws.foldl crc32Word crcInit, staged := [], frames := 0, retries := 0, retryLogged := false
      last := if l.source = 1 then .ok else l.last })
  fetchRecord (if hdrKind ws = 2 then s else startDomains s)

/-- HEADER_RECORD (R593): `ecc` is what the SECDED checks of the source find. -/
def execHeaderRecord (ecc : Ecc) (s : State) : Result :=
  let (ws, p) := nextRecord s
  event (s.loader.st = .idle && recordReady s && s.domOn 87) s
    (let s := recordDone (noteEcc ecc s)
     match headerError s (p || ecc = .uncorrectable) ws with
     | some e => endLoad e 0 0 false s
     | none => headerPasses ws s)

/-- A record on the SCP that is an END record: every frame is in, or it begins with MAGIC_END. -/
def scpEnd (l : Loader) : Bool := l.frames = l.frameCount || (l.scpRec.length = 4 && l.scpRec.getD 0 0 = 0x444E4542#32)

/-- The record due is the END record (R595). -/
def endDue (l : Loader) : Bool := if l.source = 1 then scpEnd l else l.frames = l.frameCount

/-- The frame staged last. -/
def lastStaged (l : Loader) : Option Nat := l.staged.getLast?.map (·.1)

/-- A frame record on the SCP failed: it is asked for again, at most three times (R609). -/
def scpRetry (fa : Nat) (s : State) : State :=
  let n := s.loader.frames + 1
  if 3 ≤ s.loader.retries then endLoad 0x3903 n fa false s
  else
    let s := if s.loader.retryLogged then s
      else reportRecovering { code := 0x2901, kind := 0x0D, oid := 1, aux := BitVec.ofNat 32 n, detail := BitVec.ofNat 64 fa } s
    s.modLoader (fun l => { l with retries := l.retries + 1, retryLogged := true, scpRetries := l.scpRetries + 1, last := .retry })

/-- FRAME_RECORD (R594, R609). -/
def execFrameRecord (ecc : Ecc) (s : State) : Result :=
  let l := s.loader
  let (ws, p) := nextRecord s
  let fa := (ws.getD 0 0).toNat % 2 ^ 24
  event (l.st = .receiving && recordReady s && !endDue l && s.domOn 87) s
    (let s := recordDone (noteEcc ecc s)
     match frameError l.isPartial l.region (lastStaged l) (p || ecc = .uncorrectable) ws with
     | some e => if e = 0x3903 && l.source = 1 then scpRetry fa s else endLoad e (l.frames + 1) fa false s
     | none =>
       let s := recoveryEnds 0x2901 0x0D 1 true s
       fetchRecord (s.modLoader (fun l =>
        { l with
          staged := l.staged ++ [(fa, (ws.drop 1).take 32)], frames := l.frames + 1, crc := ws.foldl crc32Word l.crc, retries := 0
          last := if l.source = 1 then .ok else l.last })))

/-- The data words staged for a frame address. -/
def framed (fs : List (Nat × List Word)) (fa : Nat) : Option (List Word) := (fs.find? (fun f => f.1 = fa)).map (·.2)

/-- The frame address of flask `p`: space and the rest. -/
def faOf (p space rest : Nat) : Nat := p * 2 ^ 17 + space * 2 ^ 14 + rest

/-- The contexts that an image defines for flask `p` (R572), rising. -/
def definedBy (fs : List (Nat × List Word)) (p : Nat) : List Nat :=
  fs.filterMap (fun f => if faTarget f.1 = p && faSpace f.1 = 0 && f.1 % 64 = 4 then some (faContext f.1) else none)

/-- Slot assignments of flask `p`: RES, PIN and CTX_ID by slot (R573). -/
def slotWords (fs : List (Nat × List Word)) (p : Nat) : List Word :=
  match framed fs (faOf p 3 0) with
  | some ws => (ws.drop 4).take 16
  | none => []

/-- The slot assignments of flask `p` are sound (R574). -/
def slotsSound (fs : List (Nat × List Word)) (p : Nat) : Bool :=
  let ids := (slotWords fs p).filterMap (fun w => if w.getLsbD 31 then some (w.toNat % 256) else none)
  ids.all (fun x => (definedBy fs p).contains x) && ids.Nodup

/-- END_RECORD (R574, R595). -/
def execEndRecord (ecc : Ecc) (s : State) : Result :=
  let l := s.loader
  let (ws, p) := nextRecord s
  let n := l.frameCount
  let good := !p && ecc ≠ .uncorrectable && ws.length = 4 && l.frames = n && ws.getD 0 0 = 0x444E4542#32 && (ws.getD 1 0).toNat = n &&
    ws.getD 2 0 = crcFinal l.crc
  event (l.st = .receiving && recordReady s && endDue l && s.domOn 87) s
    (let s := recordDone (noteEcc ecc s)
     if !good then endLoad 0x3908 (n + 1) 0 false s
     else if !(List.range 72).all (slotsSound l.staged) then endLoad 0x3904 (n + 1) 0 false s
     else s.modLoader (fun l => { l with st := if l.isPartial then .quiescing else .placing, last := if l.source = 1 then .ok else l.last }))

/-- LOADER_SOURCE_EXHAUSTED (R591). -/
def execLoaderSourceExhausted (s : State) : Result :=
  event (s.loader.st = .receiving && s.loader.source ≠ 1) s (endLoad 0x3907 (s.loader.frames + 1) 0 false s)

/-! ### Quiescing (R613, R614) -/

/-- Every region flask is quiet; a stopped one is at once. -/
def regionQuiet (s : State) : Bool :=
  (List.range 72).all (fun p => !s.loader.region.getLsbD p || (s.flask p).role = .stopped || flaskQuiet s p)

/-- Every enabled queue that a region gate produces for is disabled (R614). -/
def disableProduced (s : State) : State :=
  let nodes := ((List.range 72).filter (fun p => s.loader.region.getLsbD p)).map s.flaskNode
  (s.tun.queues.map (·.1)).foldl (fun s q =>
    let x := s.queue q
    if !nodes.contains x.producer then s
    else match x.st with
      | .active => revokeQueue q (flushList q s)
      | .suspended => revokeQueue q s
      | _ => s) s

/-- The region's flasks come to be held still at the edge of a cycle (R614). -/
def holdRegion (s : State) : State := ((List.range 72).filter (fun p => s.loader.region.getLsbD p)).foldl (fun s p => holdFlask p s) s

/-- LOADER_QUIESCED (R613, R614). -/
def execLoaderQuiesced (s : State) : Result :=
  let s1 := holdRegion s
  event (s.loader.st = .quiescing && s.power.pllLocked && regionQuiet s1) s ((disableProduced s1).modLoader (fun l => { l with st := .placing }))

/-- LD_DRAIN_TIMEOUT (R591). -/
def execLdDrainTimeout (s : State) : Result :=
  event (s.loader.st = .quiescing) s (endLoad 0x390B (s.loader.frameCount + 1) 0 false s)

/-! ### LD_CMD (R604) -/

/-- A load from a named source begins. -/
def armLoad (source slot : Nat) (s : State) : State := s.modLoader (fun l => { l with source := source, slot := slot, armed := true, booting := false })

/-- LOAD_SLOT (R586). -/
def ldLoadSlot (n : Nat) (s : State) : Except Word State :=
  need (s.loader.st = .idle && !s.loader.armed && !s.loader.scpBusy && ((s.mould (n % 4)).area 0).st = .valid) abortState (.ok (armLoad 0 (n % 4) s))

/-- LOAD_CATCH. -/
def ldLoadCatch (s : State) : Except Word State :=
  need (s.loader.st = .idle && !s.loader.armed && !s.loader.scpBusy) abortState (.ok (fetchRecord (armLoad 2 0 s)))

/-- ABANDON. -/
def abandonable (s : State) : Bool := s.loader.st = .receiving || s.loader.st = .quiescing
def ldAbandon (s : State) : Except Word State :=
  need (abandonable s) abortState (.ok (endLoad 0x3907 (s.loader.frames + 1) 0 true s))

/-- LD_CMD_LOAD_SLOT (R604). -/
def execLdCmdLoadSlot (path n : Nat) (s : State) : Result := dictCommand path 0x2200 2 2 (ldLoadSlot n) s
/-- LD_CMD_LOAD_CATCH (R604). -/
def execLdCmdLoadCatch (path : Nat) (s : State) : Result := dictCommand path 0x2200 2 2 ldLoadCatch s
/-- LD_CMD_ABANDON (R604). -/
def execLdCmdAbandon (path : Nat) (s : State) : Result := dictCommand path 0x2200 2 2 ldAbandon s

/-- A write of LD_CMD, taken apart (R617). -/
def ldCmdApply (v : Word) (s : State) : Except Word State :=
  match (v.extractLsb' 28 4).toNat with
  | 1 => ldLoadSlot (v.toNat % 4) s
  | 2 => ldLoadCatch s
  | 3 => ldAbandon s
  | _ => .error abortValue

/-! ### The slave configuration port (R605-R610) -/

/-- Codes of LD_STATUS.STATE and of LAST. -/
def ldCode (l : LdSt) : Nat :=
  match l with
  | .idle => 0
  | .receiving => 1
  | .quiescing => 2
  | .placing => 3
  | .releasing => 4
  | .records => 5
def scpLastCode (l : ScpLast) : Nat :=
  match l with
  | .ok => 0
  | .retry => 1
  | .rejected => 2
  | .busy => 3
  | .overrun => 4

/-- The loader takes no record of the SCP now: another source holds it, or the image is past END. -/
def scpElsewhere (l : Loader) : Bool := l.armed || !(l.st = .idle || (l.st = .receiving && l.source = 1))

/-- SCP_RECORD (R606, R608): the words of one record. -/
def execScpRecord (ws : List Word) (s : State) : Result :=
  event s.power.released s
    (s.modLoader (fun l =>
      if l.scpBusy then { l with last := .overrun }
      else if scpElsewhere l then { l with last := .busy }
      else { l with source := 1, scpBusy := true, scpRec := ws }))

/-- SCP_STATUS (R607). -/
def execScpStatus (s : State) : Result :=
  let l := s.loader
  event s.power.released s (s.emit (.scp (BitVec.ofNat 32
    (ldCode l.st * 2 ^ 29 + (if l.released then 2 ^ 28 else 0) + scpLastCode l.last * 2 ^ 24 + l.retries * 2 ^ 20 + l.frames % 2 ^ 16))))

/-- SCP_ABANDON (R606): accepted where LD_CMD ABANDON is, otherwise nothing happens. -/
def execScpAbandon (s : State) : Result :=
  event (s.power.released && abandonable s) s (endLoad 0x3907 (s.loader.frames + 1) 0 true s)

/-- SCP_ERROR (R606). -/
def execScpError (s : State) : Result := event s.power.released s (s.emit (.scp s.loader.error))

/-- SCP_TIMEOUT (R610). -/
def execScpTimeout (s : State) : Result :=
  event (s.loader.st = .receiving && s.loader.source = 1 && !s.loader.scpBusy) s (endLoad 0x3907 (s.loader.frames + 1) 0 false s)

/-! ### The mould store (R579-R586, R619) -/

/-- Bytes of an area; 0 for a code that names none (R579). -/
def areaSize (code : Nat) : Nat :=
  if code = 0 then 0x780000 else if code = 1 || code = 2 then 0x20000 else if code = 3 then 0x10000
  else if 8 ≤ code && code < 16 then 0x4000 else 0

/-- Change an area of a slot. -/
def modMould (n : Nat) (g : MouldSlot → MouldSlot) (s : State) : State :=
  s.modLoader (fun l => { l with slots := Tab.modify MouldSlot.reset l.slots n g })
def modMouldArea (n code : Nat) (g : MouldArea → MouldArea) (s : State) : State :=
  modMould n (fun m => { m with areas := Tab.modify MouldArea.reset m.areas code g }) s

/-- A load is reading slot `n`. -/
def slotRead (s : State) (n : Nat) : Bool := s.loader.source = 0 && s.loader.slot = n && (s.loader.armed || s.loader.st = .receiving)

/-- MS_CMD OPEN (R584-R586). -/
def msOpen (n code : Nat) (s : State) : Except Word State :=
  need (areaSize code ≠ 0) abortValue (need (!wornOut s n) 0x06008901#32
    (need (s.loader.session.isNone && s.loader.saving.isNone && !slotRead s n) abortState
      (.ok ((modMouldArea n code (fun a => { a with st := .writing }) (modMould n (fun m => { m with wear := m.wear + 1, sel := code }) s)).modLoader
        (fun l => { l with session := some { slot := n, area := code, high := 0 } })))))

/-- Words of bytes, the last padded with zeros. -/
def wordsOfBytes : Nat → List Byte → List Word
  | 0, _ => []
  | k + 1, bs => (bs.getD 3 0 ++ bs.getD 2 0 ++ bs.getD 1 0 ++ bs.getD 0 0) :: wordsOfBytes k (bs.drop 4)

/-- A write of MS_DATA (R585). -/
def msData (n : Nat) (bs : List Byte) (s : State) : Except Word State :=
  match s.loader.session with
  | none => .error abortState
  | some e =>
    let o := (s.mould n).offset
    need (bs.length % 4 = 0) abortLength (need (e.slot = n && o + bs.length ≤ areaSize e.area && e.high ≤ o) abortState
      (.ok ((modMould n (fun m => { m with offset := o + bs.length })
        (modMouldArea n e.area (fun a => { a with words := Tab.setList 0 a.words (o / 4) (wordsOfBytes (bs.length / 4) bs) }) s)).modLoader
          (fun l => { l with session := some { e with high := o + bs.length } }))))

/-- A block of a delay area or of the settings, of `size` bytes, is valid: its magic and its CRC match (R580). -/
def blockValid (size : Nat) (a : MouldArea) : Bool :=
  let w (i : Nat) : Word := Tab.get 0 a.words i
  let n := (w 1).toNat
  w 0 = 0x4B4C4250#32 && n % 4 = 0 && n + 16 ≤ size && w 2 = crcOfWords ((List.range (n / 4)).map (fun i => w (4 + i)))

/-- Check the frames of a stored image from frame `i` on: the FADDR before them and the running CRC (R594, R595). -/
def storedFrames (rd : Nat → Word) (isPartial : Bool) (region : BitVec 72) : Nat → Nat → Option Nat → Word → List (Nat × List Word) → Option (Word × List (Nat × List Word))
  | 0, _, _, crc, acc => some (crc, acc.reverse)
  | k + 1, i, last, crc, acc =>
    let ws := (List.range 34).map (fun j => rd (16 + 34 * i + j))
    let fa := (ws.getD 0 0).toNat % 2 ^ 24
    match frameError isPartial region last false ws with
    | some _ => none
    | none => storedFrames rd isPartial region k (i + 1) (some fa) (ws.foldl crc32Word crc) ((fa, (ws.drop 1).take 32) :: acc)

/-- A stored image passes every check that does not look at the device's state (R585, log 40). -/
def storedImage (rd : Nat → Word) : Bool :=
  let ws := (List.range 16).map rd
  if (headerShape false ws).isSome || (headerCounts (fun _ => true) ws).isSome then false
  else
    let n := (rd 3).toNat
    let e := 16 + 34 * n
    match storedFrames rd (hdrKind ws = 2) (hdrRegion ws) n 0 none (ws.foldl crc32Word crcInit) [] with
    | none => false
    | some (crc, fs) => rd e = 0x444E4542#32 && rd (e + 1) = rd 3 && rd (e + 2) = crcFinal crc && (List.range 72).all (slotsSound fs)

/-- The check that CLOSE makes of an area (R580, R585). -/
def areaPasses (code : Nat) (a : MouldArea) : Bool :=
  if code = 0 then storedImage (fun i => Tab.get 0 a.words i)
  else if code = 1 || code = 2 then fwPasses a
  else blockValid (areaSize code) a

/-- MS_CMD CLOSE; `damaged` says that a word of the area fails its SECDED check (R600). -/
def msClose (n : Nat) (damaged : Bool) (s : State) : Except Word State :=
  match s.loader.session with
  | none => .error abortState
  | some e => need (e.slot = n) abortState
      (.ok ((modMouldArea n e.area (fun a => { a with st := if !damaged && areaPasses e.area a then .valid else .invalid }) s).modLoader
        (fun l => { l with session := none })))

/-- MS_CMD CANCEL. -/
def msCancel (n : Nat) (s : State) : Except Word State :=
  match s.loader.session with
  | none => .error abortState
  | some e => need (e.slot = n) abortState
      (.ok ((modMouldArea n e.area (fun a => { a with st := .invalid }) s).modLoader (fun l => { l with session := none })))

/-- A command of mould slot `n`. -/
def msCommand (path n sub : Nat) (act : State → Except Word State) (s : State) : Result :=
  dictCommand path (0x2210 + n) sub 2 (fun s => need (n < 4) abortNoIndex (act s)) s

/-- MS_CMD_OPEN (R585). -/
def execMsCmdOpen (path n code : Nat) (s : State) : Result := msCommand path n 4 (msOpen n code) s
/-- MS_DATA_WRITE (R585). -/
def execMsDataWrite (path n : Nat) (bs : List Byte) (s : State) : Result := msCommand path n 6 (msData n bs) s
/-- MS_CMD_CLOSE (R585). -/
def execMsCmdClose (path n : Nat) (damaged : Bool) (s : State) : Result := msCommand path n 4 (msClose n damaged) s
/-- MS_CMD_CANCEL (R585). -/
def execMsCmdCancel (path n : Nat) (s : State) : Result := msCommand path n 4 (msCancel n) s

/-- A write of MS_CMD, taken apart (R619). -/
def msCmdApply (n : Nat) (v : Word) (s : State) : Except Word State :=
  match (v.extractLsb' 28 4).toNat with
  | 1 => msOpen n (v.toNat % 16) s
  | 2 => msClose n false s
  | 3 => msCancel n s
  | _ => .error abortValue

/-- A write of MS_OFFSET (R585, R802). -/
def msOffset (n : Nat) (v : Word) (s : State) : Except Word State :=
  need (v.toNat % 4 = 0) abortValue
    (need (!(s.loader.session.any (fun e => e.slot = n && v.toNat < e.high))) abortState (.ok (modMould n (fun m => { m with offset := v.toNat }) s)))

/-- A write of BOOT_ORDER rewrites both copies (R617). -/
def bootOrderApply (v : Word) (s : State) : State := s.modLoader (fun l => { l with bootCopies := (some v, some v), bootWear := l.bootWear + 1 })

/-- BOOT_ORDER_WRITE (R617). -/
def execBootOrderWrite (path : Nat) (v : Word) (s : State) : Result := dictCommand path 0x2200 0x0A 2 (fun s => .ok (bootOrderApply v s)) s

/-! ### Entries (R617-R619) -/

/-- LD_STATUS. -/
def ldStatus (l : Loader) : Nat :=
  let b (c : Bool) (k : Nat) : Nat := if c then 2 ^ k else 0
  ldCode l.st * 2 ^ 29 + l.source * 2 ^ 27 + b l.released 26 + b l.isPartial 25 + b l.actValid 24 + l.actSlot * 2 ^ 22 + l.frames % 2 ^ 16

/-- MS_INFO. -/
def msInfo (m : MouldSlot) : Nat :=
  let b (c : Nat) (k : Nat) : Nat := if (m.area c).st = .valid then 2 ^ k else 0
  let a := m.area 0
  let img := match a.st with
    | .invalid => 0
    | .valid => 1
    | .writing => 2
  let kind := if a.st = .valid then ((Tab.get 0 a.words 2).extractLsb' 28 4).toNat % 4 else 0
  img * 2 ^ 30 + kind * 2 ^ 28 + b 1 27 + b 2 26 + b 3 25 + (List.range 8).foldl (fun n k => n + b (8 + k) (16 + k)) 0

/-- Live entries of the loader and of mould slot `idx - 0x2210`. -/
def loaderRead (s : State) (idx sub : Nat) : Option DWord :=
  let l := s.loader
  let v (x : Nat) : Option DWord := some (BitVec.ofNat 64 x)
  let w (x : Word) : Option DWord := some (x.setWidth 64)
  if idx = 0x2200 then
    match sub with
    | 0x01 => v (ldStatus l)
    | 0x05 => w l.error
    | 0x06 => w l.releases
    | 0x09 => w l.scpRetries
    | 0x0A => w (bootOrder l)
    | 0x0B => w l.bootWear
    | _ => none
  else
    let m := s.mould (idx - 0x2210)
    match sub with
    | 0x01 => v (msInfo m)
    | 0x02 => w (if (m.area 0).st = .valid then Tab.get 0 (m.area 0).words 7 else 0)
    | 0x03 => w m.wear
    | 0x05 => v m.offset
    | _ => none

/-- Reads that clear. -/
def loaderReadClear (idx sub : Nat) (s : State) : State :=
  if idx = 0x2200 && sub = 9 then s.modLoader (fun l => { l with scpRetries := 0 }) else s

/-- MS_RDATA: words from MS_OFFSET of the area that MS_CMD OPEN named last; refused while it is WRITING (R619). -/
def msRead (s : State) (n : Nat) : Except Word (List Word) :=
  let m := s.mould n
  let a := m.area m.sel
  need (a.st ≠ .writing) abortState (.ok ((List.range ((areaSize m.sel - m.offset) / 4)).map (fun i => Tab.get 0 a.words (m.offset / 4 + i))))

end Sys2Proof.Machine
end

