-- ==== Sys2Proof/Machine/Power.lean ====
section
/-! DEFINITION. Clocks, supplies, power domains, resets, Hold and heat (R747-R772), and the trigger inputs that wake the device (R739). -/

namespace Sys2Proof.Machine

/-- Report an error that names a domain (R772). -/
def reportDomain (code d : Nat) (s : State) : State := reportAt code 0x11 d 0 0 s

/-- Every router port toward a domain takes a state. -/
def setDomainPorts (d : Nat) (st : PortSt) (s : State) : State := (domainPorts d).foldl (fun s p => s.setPort p.1 p.2 st) s

/-! ### What a block loses with its power (R755, R757) -/

/-- A flask: RETIRED and STOPPED are remembered (R757). -/
def flaskOff (p : Nat) (s : State) : State :=
  let s := s.modFlask p (fun f => { Flask.reset with role := if f.role = .retired || f.role = .stopped then f.role else .off, logical := f.logical })
  ((s.modCru p (fun _ => .reset)).clearSettings (0x4000 + p) (0x4000 + p)).clearSettings (0x4100 + p) (0x4100 + p)

/-- A Villet port with its manager and heats. -/
def portOff (n : Nat) (s : State) : State :=
  let s := { s with villet := { ports := Tab.set VPort.reset s.villet.ports n .reset, heats := Tab.clearRange s.villet.heats (2 * n) (2 * n + 2) } }
  (s.clearSettings (0x3500 + 32 * n) (0x3500 + 32 * n + 31)).clearSettings (0x35C0 + 2 * n) (0x35C0 + 2 * n + 1)

/-- A catch PHY: its channel is OFFLINE and its delays are gone. -/
def phyOff (n : Nat) (s : State) : State :=
  s.modChan n (fun c => { c with
    st := .offline, locked := false, live := [], staged := [], dlyValid := false, waiting := .none, run := .none, ops := [], reqs := [], refresh := [] })

/-- The ladle cluster: cores, local memories and shared SRAM. -/
def ladleOff (s : State) : State := { (s.clearSettings 0x3400 0x340F) with cores := [], sram := [], pdoIrq := 0 }

/-- Recoveries of blocks outside management do not complete any more (R690, log 41). -/
def dropRecoveries (s : State) : State :=
  s.chill.ongoing.foldl (fun s r =>
    if r.code / 256 % 16 = 9 || r.code / 256 % 16 = 10 then s
    else recoveryEnds r.code (r.obj.toNat / 2 ^ 24) (r.obj.toNat % 2 ^ 24) false s) s

/-- The loader without a load (R592); the mould store stays as it is. -/
def loaderIdle (s : State) : State :=
  let s := match s.loader.saving with
    | some n => s.modArea s.loader.actSlot (8 + n) (fun a => { a with st := .invalid })
    | none => s
  s.modLoader (fun l => { l with
    st := .idle, armed := false, booting := false, toTry := [], staged := [], retries := 0, retryLogged := false, scpBusy := false, scpRec := []
    last := .ok, saving := none })

/-- The core domain. HELD and the state before Hold outlast it (R765, R766). -/
def coreOff (s : State) : State :=
  let s := dropRecoveries (pcieReset s)
  let s := loaderIdle ((s.clearSettings 0x3000 0x4FFF).clearSettings 0x2600 0x26FF)
  let s := s.modLoader (fun l => { l with released := false })
  { s with
    net := .reset, tun := .reset, cup := .reset, recasts := [], recastRow := 0, recastCount := 0, lmap := []
    catch' := { CatchState.reset with
      chans := Tab.mapVals Channel.reset (fun _ c => { Channel.reset with held := c.held, wasOnline := c.wasOnline }) s.catch'.chans }
    pcie := { Pcie.reset with perstHigh := s.pcie.perstHigh, bar2Log2 := s.pcie.bar2Log2 } }

/-- The block of a domain loses its power. -/
def blockOff (d : Nat) (s : State) : State :=
  if d < 72 then flaskOff d s
  else if d < 78 then portOff (d - 72) s
  else if d < 86 then phyOff (d - 78) s
  else if d = 86 then ladleOff s
  else coreOff s

/-- The power of a domain is switched off (R755): outputs are clamped, contents are lost. -/
def switchOff (d : Nat) (s : State) : State :=
  setDomainPorts d .closed (blockOff d (s.modDom d (fun x => { x with st := .off, granted := false, holdRet := false })))

/-! ### Channels before their power goes (R761, R464, R769) -/

/-- The queued work of a channel is performed, in order of arrival. -/
def drainOps (n : Nat) (s : State) : State :=
  (s.chan n).ops.foldl (fun s o => performOp n o [] [] s) (s.modChan n (fun c => { c with ops := [] }))

/-- A channel that serves requests. -/
def chanActive (s : State) (n : Nat) : Bool := (s.chan n).st = .online || (s.chan n).st = .draining

/-- Drain a channel as for OFFLINE: requests are answered, those not performed OFFLINE. -/
def drainChannel (n : Nat) (s : State) : State :=
  if !chanActive s n then s else
  ((answerOffline n (chanLeaves n (drainOps n s))).modChan n (fun c => { c with st := .offline, refresh := [], waiting := .none })).setPort 10 (2 + n) .closed

/-- The chip select of a line, and the ones Hold retains (R464). -/
def lineCs (s : State) (key : Nat) : Nat := refGroup (chCfg s (key / 2 ^ 37)) (key / 16) / 16
def retains (s : State) (n cs : Nat) : Bool := (s.settingW 0x3192 5).getLsbD (4 * n + cs)
def retainsAny (s : State) (n : Nat) : Bool := (List.range 4).any (retains s n)

/-- The contents of chip selects that are not retained are lost. -/
def forgetUnretained (s : State) : State := { s with dram := s.dram.filter (fun e => retains s (e.1 / 2 ^ 37) (lineCs s e.1)) }

/-! ### The core reset (R760, R761) -/

/-- Every live heat is voided. -/
def voidAllHeats (cause : Nat) (s : State) : State := (List.range 6).foldl (fun s n => voidHeats n cause s) s

/-- Every domain but management loses its power. -/
def allOff (s : State) : State :=
  let s := coreOff (ladleOff s)
  { s.modPower (fun p => { p with doms := Tab.mapVals Dom.reset (fun _ x => { x with st := .off, granted := false, holdRet := false }) p.doms, wanted := 0 }) with
    flasks := [], crus := [], villet := .reset }

/-- The core domain starts to ramp, where the PLL is locked. -/
def startCore (s : State) : State := if s.power.pllLocked then powerUp 87 s else s

/-- The core reset; channels of `undrained` have not drained within 1 ms. -/
def coreReset (cause : Nat) (undrained : List Nat) (s : State) : State :=
  let s := voidAllHeats 8 s
  let s := (List.range 8).foldl (fun s n => if chanActive s n && !undrained.contains n then drainOps n s else s) s
  let s := (allOff s).modPower (fun p => { p with coreCause := BitVec.ofNat 4 cause, coreResets := p.coreResets + 1 })
  let s := if s.power.hold = .running then s else s.modPower (fun p => { p with hold := .exiting, dimmPwren := 0xFF, dimmWait := true })
  startCore s

/-- RST_CMD_CORE (R760, R761). -/
def execRstCmdCore (path : Nat) (undrained : List Nat) (s : State) : Result :=
  dictCommand path 0x2120 1 2 (fun s => .ok (coreReset 1 undrained s)) s

/-! ### The management reset (R760, R762) -/

/-- Key slots keep their keys; what was written for the next SET is gone. -/
def keysKept (ks : Tab KeySlot) : Tab KeySlot := Tab.mapVals KeySlot.reset (fun _ k => { k with data := [] }) ks

/-- The entries of the management functions return to their defaults; policies, clocks and pins keep theirs. -/
def mgmtSettings (s : State) : State :=
  (((s.clearSettings 0x1000 0x20FF).clearSettings 0x2200 0x23FF).clearSettings 0x2400 0x240F).clearSettings 0x6000 0x6FFF

/-- The management reset. -/
def mgmtReset (cause : Nat) (s : State) : State :=
  let s := match s.loader.session with
    | some e => s.modArea e.slot e.area (fun a => { a with st := .invalid })
    | none => s
  let s := (loaderIdle (mgmtSettings s)).modLoader (fun l => { l with session := none, error := 0, releases := 0, scpRetries := 0, frames := 0 })
  let s := s.modPower (fun p => { p with mgmtCause := BitVec.ofNat 4 cause, mgmtResets := p.mgmtResets + 1 })
  { s with
    dict := { DictState.reset with keys := keysKept s.dict.keys, settings := s.dict.settings }
    chill := .reset, ecat := { Ecat.reset with sii := s.ecat.sii, links := s.ecat.links }
    dcRunning := false, dcTime := 0, dcQuarter := 0 }

/-- RST_CMD_MGMT (R762). -/
def execRstCmdMgmt (path : Nat) (s : State) : Result := dictCommand path 0x2120 1 2 (fun s => .ok (mgmtReset 1 s)) s

/-- MGMT_AUTO_RESET (R760): 1 ms after the agent has stopped. -/
def execMgmtAutoReset (s : State) : Result := event s.dict.stopped s (mgmtReset 2 s)

/-- A write of RST_CMD, taken apart. -/
def rstCmdApply (v : Word) (s : State) : Except Word State :=
  match (v.extractLsb' 28 4).toNat with
  | 1 => .ok (coreReset 1 [] s)
  | 2 => .ok (mgmtReset 1 s)
  | _ => .error abortValue

/-! ### The power-on reset, supplies and the PLL (R747-R752) -/

/-- The power-on reset: the whole device; what is non-volatile stays, and so do the pins that come from outside (log 41). -/
def powerOnReset (s : State) : State :=
  { State.reset with
    power := { PowerState.reset with good1 := s.power.good1, good2 := s.power.good2 }
    dict := { DictState.reset with keys := keysKept s.dict.keys }
    loader := { Loader.reset with bootCopies := s.loader.bootCopies, bootWear := s.loader.bootWear, slots := s.loader.slots }
    pins := { PinState.reset with banks := s.pins.banks }
    pcie := { Pcie.reset with perstHigh := s.pcie.perstHigh }
    ecat := { Ecat.reset with sii := s.ecat.sii, links := s.ecat.links }
    out := s.out, fresh := s.fresh, pending := s.pending }

/-- POWER_ON_RESET_RELEASE (R587, R751, R779): PWRGOOD[0] has been high for 1 ms; BOOT_SEL, SCP_MODE and KEYLOCK_N are as the pins stand. -/
def execPowerOnResetRelease (bootSel : BitVec 2) (scpMode keylockN : Bool) (s : State) : Result :=
  event (!s.power.released) s
    (s.modPower (fun p => { p with released := true, good0 := true, bootSel := bootSel, scpMode := scpMode, keylockN := keylockN, dimmPwren := 0xFF }))

/-- PLL_LOCK (R747, R749, R758): start-up goes on, or after a loss of lock a core reset follows. -/
def execPllLock (undrained : List Nat) (s : State) : Result :=
  let p := s.power
  let s1 := s.modPower (fun p => { p with pllLocked := true, backupOsc := false })
  event (p.released && !p.pllLocked) s (if p.backupOsc then coreReset 2 undrained s1 else startCore s1)

/-- PLL_LOCK_LOSS (R749). -/
def execPllLockLoss (s : State) : Result :=
  event s.power.pllLocked s
    ((reportDomain 0x4C01 88 s).modPower (fun p => { p with pllLocked := false, backupOsc := true, pllLosses := p.pllLosses + 1 }))

/-- PWRGOOD_RISE (R751): PWRGOOD[1] or PWRGOOD[2]. -/
def execPwrgoodRise (k : Nat) (s : State) : Result :=
  let s1 := s.modPower (fun p => if k = 1 then { p with good1 := true } else { p with good2 := true })
  let waiting : Bool := s.power.released && s.power.hold ≠ .held && s.power.hold ≠ .entering
  event (k = 1 || k = 2) s (if waiting then powerWanted (startCore s1) else s1)

/-- A port or PHY domain loses VDDQ_DDR or the SerDes rails (R752). -/
def railLost (s : State) (d : Nat) : State :=
  let st := (s.dom d).st
  if st = .off || st = .failed then s
  else if st = .on then switchOff d (if d < 78 then portStop (d - 72) s else chanFatal (d - 78) s)
  else switchOff d s

/-- PWRGOOD_FALL (R752): PWRGOOD[1] or [2] while running; [0] is the power-on reset (R760). -/
def execPwrgoodFall (k : Nat) (undrained : List Nat) (s : State) : Result :=
  match k with
  | 0 => ok (powerOnReset s)
  | 1 =>
    let s1 := s.modPower (fun p => { p with good1 := false })
    event s.power.good1 s (if s.power.released then coreReset 3 undrained (reportDomain 0x4C03 87 s1) else s1)
  | 2 =>
    let s1 := s.modPower (fun p => { p with good2 := false })
    event s.power.good2 s (if s.power.released then ((List.range 14).map (fun i => 72 + i)).foldl railLost (reportDomain 0x4C03 72 s1) else s1)
  | _ => ok s

/-! ### Domains (R753-R757) -/

/-- The block of a domain is at rest (R754). -/
def atRest (s : State) (d : Nat) : Bool :=
  if d < 72 then
    let r := (s.flask d).role
    r = .off || r = .spareIdle || r = .retired || r = .stopped
  else if d < 78 then (s.vport (d - 72)).st = .disabled
  else if d < 86 then ((s.chan (d - 78)).st = .offline || (s.chan (d - 78)).st = .failedTrain) && !(s.chan (d - 78)).held
  else
    (List.range 8).all (fun c => let st := (s.core c).st; st = .parked || st = .halted || st = .off) &&
      s.cup.threads.all (fun t => t.2.st = .free || t.2.st = .cancelled)

/-- PWR_CMD ON. -/
def pwrOn (d : Nat) (s : State) : Except Word State :=
  if 86 < d then .error abortAbove
  else need (s.power.hold = .running && supplied s d && ((s.dom d).st = .off || (s.dom d).st = .failed)) abortState (.ok (rampDomain d s))

/-- A domain begins to close: every port toward it becomes CLOSING (R755). -/
def closeDomain (d : Nat) (s : State) : State :=
  (domainPorts d).foldl (fun s p => closePort p.1 p.2 s) (s.modDom d (fun x => { x with st := .closing }))

/-- PWR_CMD OFF. -/
def pwrOff (d : Nat) (s : State) : Except Word State :=
  if 86 < d then .error abortAbove
  else need (s.power.hold = .running && (s.dom d).st = .on && atRest s d) abortState (.ok (closeDomain d s))

/-- PWR_CMD_ON (R754, R755). -/
def execPwrCmdOn (path d : Nat) (s : State) : Result := dictCommand path 0x2111 1 2 (pwrOn d) s
/-- PWR_CMD_OFF (R754, R755). -/
def execPwrCmdOff (path d : Nat) (s : State) : Result := dictCommand path 0x2111 1 2 (pwrOff d) s

/-- A write of PWR_CMD, taken apart. -/
def pwrCmdApply (v : Word) (s : State) : Except Word State :=
  match (v.extractLsb' 28 4).toNat with
  | 1 => pwrOn (v.toNat % 128) s
  | 2 => pwrOff (v.toNat % 128) s
  | _ => .error abortValue

/-- 5 µs in pour ticks of 6.25 ns. -/
abbrev inrushTicks : Nat := 800

/-- No other switch has closed in the last 5 µs (R756). -/
def slotFree (s : State) : Bool :=
  match s.power.lastGrant with
  | none => true
  | some t => inrushTicks ≤ (s.power.pour - t).toNat

/-- Start-up switches in ascending number (R758). -/
def inOrder (s : State) (d : Nat) : Bool :=
  s.loader.released || (List.range d).all (fun e => !((s.dom e).st = .ramping && !(s.dom e).granted))

/-- DOMAIN_SWITCH_GRANT (R756). -/
def execDomainSwitchGrant (d : Nat) (s : State) : Result :=
  event ((s.dom d).st = .ramping && !(s.dom d).granted && slotFree s && inOrder s d) s
    ((s.modDom d (fun x => { x with granted := true })).modPower (fun p => { p with lastGrant := some p.pour }))

/-- The loader takes its source (R587, R588, R758). -/
def takeSource (s : State) : State :=
  if s.power.bootSel.getLsbD 0 then s else bootNext (s.modLoader (fun l => { l with toTry := bootSlots (bootOrder l) }))

/-- The block of a domain starts from reset (R757). Runner ports of ladle cores open when they have loaded (log 41). -/
def blockOn (d : Nat) (s : State) : State :=
  let opened (s : State) : State := (domainPorts d).foldl (fun s p => openPort p.1 p.2 s) s
  if d < 72 then
    opened (s.modFlask d (fun f => if f.role = .retired || f.role = .stopped then { f with repowered := true } else { f with role := .spareIdle }))
  else if d < 78 then opened (portPowerUp (d - 72) s)
  else if d < 86 then s
  else if d = 86 then
    if s.loader.released then (List.range 8).foldl (fun s c => pathReset (72 + c) (s.modCore c (fun k => { k with st := .halted }))) s else s
  else
    let s := (List.range 87).foldl (fun s e => if (s.dom e).st = .on then s else setDomainPorts e .closed s) s
    takeSource ((List.range 8).foldl (fun s n => s.setPort 10 (2 + n) .closed) s)

/-- DOMAIN_SETTLED (R755): within 20 µs. -/
def execDomainSettled (d : Nat) (s : State) : Result :=
  event ((s.dom d).st = .ramping && (s.dom d).granted) s
    (blockOn d (s.modDom d (fun x => { x with
      st := .on, granted := false, powerUps := if x.powerUps = BitVec.allOnes 16 then x.powerUps else x.powerUps + 1 })))

/-- DOMAIN_RAMP_TIMEOUT (R755). -/
def execDomainRampTimeout (d : Nat) (s : State) : Result :=
  event ((s.dom d).st = .ramping && (s.dom d).granted) s
    (reportDomain 0x3C01 d ((s.modDom d (fun x => { x with st := .failed, granted := false })).modPower (fun p => { p with rampFails := p.rampFails + 1 })))

/-- Every port toward a domain is CLOSED; the core goes last (R765). -/
def closedDown (s : State) (d : Nat) : Bool :=
  if d = 87 then (List.range 87).all (fun e => let x := s.dom e; x.st = .off || x.st = .failed || x.holdRet)
  else (domainPorts d).all (fun p => s.port p.1 p.2 = .closed)

/-- DOMAIN_POWER_OFF (R755, R765): with the core domain Hold is reached. -/
def execDomainPowerOff (d : Nat) (s : State) : Result :=
  let s1 := switchOff d s
  event ((s.dom d).st = .closing && closedDown s d) s (if d = 87 then s1.modPower (fun p => { p with hold := .held }) else s1)

/-! ### Hold (R764-R766, R769) -/

/-- Hold may be entered (R764). -/
def holdAllowed (s : State) : Bool :=
  s.power.hold = .running &&
    (List.range 6).all (fun n => !anyLive s n && (s.dom (72 + n)).st ≠ .closing && (s.dom (72 + n)).st ≠ .ramping) &&
    s.dict.sessions.all (fun e => e.2.txSt ≠ .committing) &&
    s.loader.st = .idle && !s.evacuating && !s.catch'.zeroBusy && (List.range 8).all (fun y => !s.recasting y) &&
    (List.range 8).all (fun n => (s.chan n).st ≠ .gathering && (s.chan n).st ≠ .draining)

/-- HELD becomes 1, and what the channel returns to is kept (R447). -/
def holdChannel (s : State) (n : Nat) : State :=
  let was : Bool := (s.chan n).st = .online
  (drainChannel n s).modChan n (fun c => { c with held := true, wasOnline := was })

/-- DIMM_PWREN in Hold (R464). -/
def holdPwren (s : State) : BitVec 8 := (List.range 8).foldl (fun m n => if retainsAny s n then m ||| BitVec.ofNat 8 (2 ^ n) else m) 0

/-- The PHY of a channel with retained chip selects stays at retention power (R765); every other domain but management closes. -/
def holdDomain (s : State) (d : Nat) : State :=
  if (s.dom d).st ≠ .on then s.modDom d (fun x => if x.st = .ramping then { x with st := .off, granted := false } else x)
  else if 78 ≤ d && d < 86 && retainsAny s (d - 78) then (s.modDom d (fun x => { x with holdRet := true })).modChan (d - 78) (fun c => { c with locked := false })
  else closeDomain d s

/-- Hold entry (R765). -/
def holdEnter (s : State) : Except Word State :=
  need (holdAllowed s) abortState
    (.ok (let s := (List.range 6).foldl (fun s n => enterLink n .disabled (linkReset n s)) s
          let s := forgetUnretained ((List.range 8).foldl holdChannel s)
          let s := s.modPower (fun p => { p with hold := .entering, holdEmergency := false, dimmPwren := holdPwren s })
          (List.range 88).foldl holdDomain s))

/-- HOLD_CMD_ENTER (R764, R765). -/
def execHoldCmdEnter (path : Nat) (s : State) : Result := dictCommand path 0x2130 1 2 holdEnter s

/-- Hold is left (R465, R766): the core domain powers up. -/
def holdLeave (s : State) : State :=
  let s := s.modPower (fun p => { p with
    hold := .exiting, dimmPwren := 0xFF, dimmWait := true, doms := Tab.mapVals Dom.reset (fun _ x => { x with holdRet := false }) p.doms })
  startCore s

/-- HOLD_CMD EXIT; refused while the device is hot (R769). -/
def holdExit (s : State) : Except Word State :=
  need (s.power.hold = .held && s.power.thermHot.toInt < 16 * (s.settingN 0x2140 3 : Int)) abortState (.ok (holdLeave s))

/-- HOLD_CMD_EXIT (R766). -/
def execHoldCmdExit (path : Nat) (s : State) : Result := dictCommand path 0x2130 1 2 holdExit s

/-- A write of HOLD_CMD, taken apart. -/
def holdCmdApply (v : Word) (s : State) : Except Word State :=
  match (v.extractLsb' 28 4).toNat with
  | 1 => holdEnter s
  | 2 => holdExit s
  | _ => .error abortValue

/-- The channels that Hold held return to their states before it, once the image is released and DIMM_PWR_WAIT has passed (R447, R465,
R766). -/
def returnChannels (s : State) : State :=
  if !s.loader.released || s.power.dimmWait then s
  else (List.range 8).foldl (fun s n =>
    let c := s.chan n
    if !c.held then s
    else
      let s := s.modChan n (fun c => { c with held := false })
      if c.wasOnline && c.dlyValid then whenLocked n .online chanOnline s else s) s

/-- The live delays and the injection program of a channel come from the active slot (R447, R465). -/
def loadDelays (s : State) (n : Nat) : State :=
  let a := delayArea s n
  if a.st = .valid then
    match blockContent a.words 4096 with
    | some ws => takeDelays n ws s
    | none => s
  else s

/-- DIMM_PWR_WAIT_EXPIRY (R465). -/
def execDimmPwrWaitExpiry (s : State) : Result :=
  event s.power.dimmWait s
    (let s := s.modPower (fun p => { p with dimmWait := false })
     returnChannels (if s.domOn 87 then (List.range 8).foldl (fun s n => if (s.chan n).held then loadDelays s n else s) s else s))

/-- The emergency Hold (R769): queued work is discarded and everything but management loses its power at once. -/
def emergencyHold (s : State) : State :=
  let s := voidAllHeats 8 s
  let s := forgetUnretained s
  let retained := (List.range 8).filter (fun n => retainsAny s n && (s.dom (78 + n)).st = .on)
  let pwren := holdPwren s
  let s := (List.range 8).foldl (fun s n => s.modChan n (fun c => { c with held := true, wasOnline := decide (c.st = .online) })) s
  let s := (allOff s).modPower (fun p => { p with hold := .held, holdEmergency := true, dimmPwren := pwren })
  retained.foldl (fun s n => s.modDom (78 + n) (fun x => { x with st := .on, holdRet := true })) s

/-! ### Heat (R767, R768) -/

/-- Hold or not, a sample of 125 °C makes an emergency while the device runs. -/
def tooHot (s : State) (t : BitVec 16) : Bool := decide (16 * 125 ≤ t.toInt) && s.power.hold ≠ .held

/-- THERM_SAMPLE (R767-R769): `t` is the hottest reading in sixteenths of a degree. -/
def execThermSample (t : BitVec 16) (s : State) : Result :=
  let lim : Int := 16 * (s.settingN 0x2140 3 : Int)
  let was := s.power.throttling
  let now : Bool := if was then decide (lim - 80 < t.toInt) else decide (lim ≤ t.toInt)
  let s1 := s.modPower (fun p => { p with
    thermHot := t, tjPeak := if p.tjPeak.toInt < t.toInt then t else p.tjPeak, throttling := now
    throttleTime := if was then p.throttleTime + 10 else p.throttleTime })
  let s2 := if now && !was then reportDomain 0x1C02 88 s1 else s1
  event s.power.released s (if tooHot s t then emergencyHold (reportDomain 0x4C02 88 s2) else s2)

/-! ### Trigger inputs (R670, R739, R766) -/

/-- TRIGGER_EDGE (R739): the sample of trigger `k` at a pour tick differs from the one before. -/
def execTriggerEdge (k : Nat) (level : Bool) (s : State) : Result :=
  let chill := s.settingW 0x2300 3
  let wake := s.settingW 0x2130 3
  let fits (line : Nat) (falling : Bool) : Bool := line = k && level = !falling
  let s1 := s.modPins (fun p => { p with trigSample := if level then p.trigSample ||| BitVec.ofNat 8 (2 ^ k) else p.trigSample &&& ~~~(BitVec.ofNat 8 (2 ^ k)) })
  let s2 := if chill.getLsbD 31 && fits (chill.extractLsb' 28 3).toNat (chill.getLsbD 27) then chillDue 2 s1 else s1
  event (k < 8 && s.power.pllLocked && s.owns (14 + k) && !(periphCfg s (14 + k)).getLsbD 29 && s.pins.trigSample.getLsbD k ≠ level) s
    (if wake.getLsbD 31 && fits (wake.extractLsb' 28 3).toNat (wake.getLsbD 27) && s.power.hold = .held then holdLeave s2 else s2)

/-! ### Entries (R770, R771) -/

/-- Codes of DOM_STATUS.STATE and HOLD_STATUS.STATE. -/
def domCode (st : DomSt) : Nat :=
  match st with
  | .off => 0
  | .closing => 1
  | .ramping => 2
  | .on => 3
  | .failed => 4
def holdCode (h : HoldSt) : Nat :=
  match h with
  | .running => 0
  | .entering => 1
  | .held => 2
  | .exiting => 3

/-- DOM_STATUS of domain `d` (R771); management is ON. -/
def domStatus (s : State) (d : Nat) : Nat :=
  let x := s.dom d
  (if d = 88 then 3 else domCode x.st) * 2 ^ 29 + (if x.holdRet then 2 ^ 28 else 0) + x.powerUps.toNat

/-- Live entries. PWR_DEFAULT reads all ones with no active slot. -/
def powerRead (s : State) (idx sub : Nat) : Option DWord :=
  let p := s.power
  let v (x : Nat) : Option DWord := some (BitVec.ofNat 64 x)
  let b (c : Bool) (k : Nat) : Nat := if c then 2 ^ k else 0
  match idx, sub with
  | 0x2100, 1 => v (b p.pllLocked 31 + b p.backupOsc 30)
  | 0x2100, 2 => some p.pour
  | 0x2100, 4 => some (p.pllLosses.setWidth 64)
  | 0x2111, 2 => if s.loader.actValid then none else some (BitVec.allOnes 64)
  | 0x2111, 4 => if s.loader.actValid then none else v 0xFFFFFFFF
  | 0x2111, 5 => some (p.rampFails.setWidth 64)
  | 0x2120, 2 => v (p.coreCause.toNat * 16 + p.mgmtCause.toNat)
  | 0x2120, 3 => v (p.coreResets.toNat * 2 ^ 16 + p.mgmtResets.toNat)
  | 0x2130, 2 => v (holdCode p.hold * 2 ^ 29 + b p.holdEmergency 28)
  | 0x2140, 1 => some (p.thermHot.setWidth 64)
  | 0x2140, 2 => some (p.tjPeak.setWidth 64)
  | 0x2140, 5 => some (p.throttleTime.setWidth 64)
  | _, _ => if idx = 0x2110 && 1 ≤ sub && sub ≤ 89 then v (domStatus s (sub - 1)) else none

/-- Reads that clear. -/
def powerReadClear (idx sub : Nat) (s : State) : State :=
  s.modPower (fun p => match idx, sub with
    | 0x2111, 5 => { p with rampFails := 0 }
    | 0x2140, 2 => { p with tjPeak := 0 }
    | 0x2140, 5 => { p with throttleTime := 0 }
    | _, _ => p)

end Sys2Proof.Machine
end

