-- ==== Sys2Proof/Machine/DictEntries.lean ====
section
/-! DEFINITION. The checks of a dictionary access and the stored form of each value: access codes, levels, reserved bits, ranges and
codes (R12, R13, R625, R802). -/

namespace Sys2Proof.Machine

/-! ### Checks 1 to 4 of R625 -/

/-- An entry's row; subindex 0 of an index is a read-only byte unless the table defines it (R624). -/
def entryRow (idx sub : Nat) : Option EntryRow :=
  match findEntry idx sub with
  | some r => some r
  | none => if sub = 0 && indexExists idx then
      some { idx := idx, step := 1, n := 1, sub := 0, subs := 1, bits := 8, signed := false, acc := .ro, level := 0, dflt := highestSub idx }
    else none

/-- The access code allows a write, or a read (R12). -/
def Acc.writes (a : Acc) : Bool := a = .rw || a = .wo || a = .rwt || a = .w1c
def Acc.reads (a : Acc) : Bool := a ≠ .wo

/-- Key slot `k` of the store. -/
def State.key (s : State) (k : Nat) : KeySlot := Tab.get KeySlot.reset s.dict.keys k
def State.modKey (s : State) (k : Nat) (g : KeySlot → KeySlot) : State :=
  { s with dict := { s.dict with keys := Tab.modify KeySlot.reset s.dict.keys k g } }

/-- Some slot holds a Factory key (R647). -/
def factoryKey (s : State) : Bool := (List.range 4).any (fun k => (s.key k).provisioned && (s.key k).level = 3)

/-- The key slot entries (R663). -/
def keyEntry (idx : Nat) : Bool := 0x2020 ≤ idx && idx < 0x2024

/-- The level an access needs: the row's, but the key slot entries of a device without a Factory key may be written at Observer level
while KEYLOCK_N is high (R647). -/
def entryLevel (s : State) (r : EntryRow) (idx : Nat) (write : Bool) : Nat :=
  if keyEntry idx && write then (if s.power.keylockN && !factoryKey s then 0 else 3) else r.level

/-- Checks 1 to 4 of R625 of an access, after what every access meets: the abort of the first that fails, or the entry's row. -/
def entryCheck (s : State) (path idx sub : Nat) (write : Bool) : Except Word EntryRow :=
  if s.dict.stopped then .error abortStopped
  else if !pathOk path then .error abortLevel
  else match entryRow idx sub with
    | none => .error (if indexExists idx then abortNoSub else abortNoIndex)
    | some r =>
      if write && !r.acc.writes then .error abortWriteRo
      else if !write && !r.acc.reads then .error abortReadWo
      else if s.level path < entryLevel s r idx write then .error abortLevel
      else .ok r

/-! ### Check 6 (R625, R802) -/

/-- A range of one field: indices `idx` to `last` in steps, a subindex, the field's lowest bit and width, and its bounds. -/
structure RangeRow where
  idx : Nat
  last : Nat
  step : Nat
  sub : Nat
  at' : Nat
  width : Nat
  lo : Nat
  hi : Nat
  deriving DecidableEq, Repr

/-- The ranges the chapters state for one entry each. -/
def rangeRows0 : List RangeRow := [
  ⟨0x4200, 0x4200, 1, 0x43, 0, 32, 1, 100000⟩,  -- RECAST_TIMEOUT
  ⟨0x3200, 0x3200, 1, 0x09, 0, 32, 0, 268435455⟩,  -- DEEP_BLOCKS
  ⟨0x3200, 0x3200, 1, 0x10, 0, 32, 640, 65536⟩,  -- ONDIE_LIMIT
  ⟨0x3200, 0x3200, 1, 0x11, 0, 32, 1, 256⟩,  -- CR_BATCH
  ⟨0x3200, 0x3200, 1, 0x12, 0, 32, 1, 4096⟩,  -- CR_WAIT
  ⟨0x3211, 0x3211, 1, 0x02, 0, 32, 1, 4294967295⟩,  -- BUDGET
  ⟨0x3400, 0x3407, 1, 0x04, 0, 32, 1, 16777215⟩,  -- QPUSH_TIMEOUT
  ⟨0x3300, 0x3300, 1, 0x02, 0, 32, 1, 10000⟩,  -- TICK
  ⟨0x3010, 0x3010, 1, 0x02, 0, 32, 1, 1000000⟩,  -- RSP_TIMEOUT
  ⟨0x3010, 0x3010, 1, 0x03, 0, 32, 1, 1000000⟩,  -- CLOSE_TIMEOUT
  ⟨0x3040, 0x3040, 1, 0x00, 0, 7, 0, 95⟩,  -- STAT_SELECT
  ⟨0x3080, 0x30DF, 1, 0x02, 0, 32, 256, 16777215⟩,  -- BURST
  ⟨0x3080, 0x30DF, 1, 0x06, 0, 32, 256, 16777215⟩,
  ⟨0x3080, 0x30DF, 1, 0x0A, 0, 32, 256, 16777215⟩,
  ⟨0x3080, 0x30DF, 1, 0x0E, 0, 32, 256, 16777215⟩,
  ⟨0x3180, 0x318F, 1, 0x03, 0, 32, 0, 511⟩,  -- MAP_LOCAL
  ⟨0x3192, 0x3192, 1, 0x01, 0, 32, 0, 1023⟩,  -- FOLD_HOLD
  ⟨0x3192, 0x3192, 1, 0x03, 0, 32, 2, 64⟩,  -- WQ_HIGH
  ⟨0x3192, 0x3192, 1, 0x06, 0, 32, 1, 1000000⟩,  -- DIMM_PWR_WAIT
  ⟨0x3192, 0x3192, 1, 0x07, 0, 32, 1, 255⟩  -- ALERT_LIMIT
  ]

/-- Ranges of the channels, the ports and the heat slots. -/
def rangeRows1 : List RangeRow := [
  ⟨0x3102, 0x3172, 16, 0x04, 0, 7, 0, 64⟩,  -- INJ_LEN
  ⟨0x3103, 0x3173, 16, 0x01, 8, 8, 1, 255⟩,  -- SWEEP_CFG step
  ⟨0x3103, 0x3173, 16, 0x02, 16, 16, 1, 65535⟩,  -- SWEEP_START repetitions
  ⟨0x3500, 0x35A0, 32, 0x04, 0, 32, 50, 10000⟩,  -- ACK_DELAY
  ⟨0x3500, 0x35A0, 32, 0x05, 0, 32, 1000, 1000000⟩,  -- REPLAY_TIMEOUT
  ⟨0x3500, 0x35A0, 32, 0x06, 0, 32, 1, 255⟩,  -- REPLAY_LIMIT
  ⟨0x3500, 0x35A0, 32, 0x07, 16, 16, 1, 65535⟩,  -- ERR_LIMIT
  ⟨0x3500, 0x35A0, 32, 0x08, 0, 32, 10, 100000⟩,  -- DEAD_TIMEOUT
  ⟨0x3500, 0x35A0, 32, 0x09, 0, 32, 1, 1000⟩,  -- KEEPALIVE
  ⟨0x3500, 0x35A0, 32, 0x0A, 0, 32, 100, 1000000⟩,  -- ALIGN_TIMEOUT
  ⟨0x3500, 0x35A0, 32, 0x0B, 0, 32, 10, 1000000⟩,  -- INIT_TIMEOUT
  ⟨0x3500, 0x35A0, 32, 0x0C, 0, 32, 1, 1000⟩,  -- RETRAIN_HOLD
  ⟨0x3500, 0x35A0, 32, 0x0D, 0, 32, 1, 255⟩,  -- RETRAIN_LIMIT
  ⟨0x35C0, 0x35CB, 1, 0x44, 0, 32, 1, 1000000⟩,  -- OPEN_TIMEOUT
  ⟨0x35C0, 0x35CB, 1, 0x45, 0, 32, 10, 1000000⟩,  -- APPLIED_TIMEOUT
  ⟨0x35C0, 0x35CB, 1, 0x46, 0, 32, 100, 10000000⟩  -- DRAIN_TIMEOUT
  ]

/-- Ranges of the management entries. -/
def rangeRows2 : List RangeRow := [
  ⟨0x2200, 0x2200, 1, 0x07, 0, 32, 10, 1000000⟩,  -- SCP_TIMEOUT
  ⟨0x2200, 0x2200, 1, 0x08, 0, 32, 1, 100000⟩,  -- LD_DRAIN_TIMEOUT
  ⟨0x2018, 0x2018, 1, 0x01, 0, 32, 1, 3600⟩,  -- SESS_IDLE_TIMEOUT
  ⟨0x2018, 0x2018, 1, 0x02, 0, 32, 10, 60000⟩,  -- CHAL_TIMEOUT
  ⟨0x2030, 0x2030, 1, 0x05, 4, 3, 0, 5⟩,  -- TX_HEAT port
  ⟨0x2411, 0x2411, 1, 0x01, 0, 32, 1, 65535⟩,  -- RECAST_CE_LIMIT
  ⟨0x2411, 0x2411, 1, 0x02, 0, 32, 1, 60000⟩,  -- RECAST_CE_WINDOW
  ⟨0x2600, 0x2600, 1, 0x02, 0, 6, 30, 42⟩,  -- PCIE_CFG
  ⟨0x2140, 0x2140, 1, 0x03, 0, 32, 85, 115⟩,  -- TJ_THROTTLE
  ⟨0x2140, 0x2140, 1, 0x04, 0, 32, 1, 7⟩  -- THR_SKIP
  ]

/-- All stated ranges. -/
def rangeRows : List RangeRow := rangeRows0 ++ rangeRows1 ++ rangeRows2

/-- The test of one range. -/
def RangeRow.bad (r : RangeRow) (idx sub : Nat) (v : Nat) : Option Word :=
  if r.idx ≤ idx && idx ≤ r.last && (idx - r.idx) % r.step = 0 && r.sub = sub then
    let f := v / 2 ^ r.at' % 2 ^ r.width
    if r.hi < f then some abortAbove else if f < r.lo then some abortBelow else none
  else none

/-- A PDO mapping word names an entry that may be mapped: index, subindex and bits (R638; the layout is PRESUMED from CoE, log 43). -/
def mapsPdo (rx : Bool) (v : Nat) : Bool :=
  let idx := v / 2 ^ 16 % 2 ^ 16
  let sub := v / 2 ^ 8 % 256
  v = 0 || (0x6000 ≤ idx && idx ≤ 0x6FFF && (match findEntry idx sub with
    | some r => r.bits = v % 256 && (!rx || r.acc.writes)
    | none => false))

/-- Codes, alignments and ranges that are not one row. -/
def valueOddity (idx sub : Nat) (v : Nat) : Option Word :=
  if 0x4000 ≤ idx && idx < 0x4048 then (if sub = 3 && v % 2 ^ 21 ≠ 0 then some abortValue else none)
  else if 0x3100 ≤ idx && idx < 0x3180 then
    (match idx % 16, sub with
     | 0, 2 => chCfgBad (BitVec.ofNat 32 v)
     | 1, 1 => if 6 ≤ v / 2 ^ 24 % 8 then some abortValue else none
     | 3, 1 => if 6 ≤ v / 2 ^ 29 then some abortValue else none
     | _, _ => none)
  else if 0x3500 ≤ idx && idx < 0x35C0 && idx % 32 = 0 && sub = 7 then
    (let w := v % 2 ^ 15
     if v / 2 ^ 15 % 2 = 1 then (if w = 0 then some abortBelow else if 1000 < w then some abortAbove else none)
     else if w = 0 then some abortBelow else none)
  else if 0x3180 ≤ idx && idx < 0x3190 && sub = 1 then mapCfgBad (BitVec.ofNat 32 v)
  else if 0x2210 ≤ idx && idx < 0x2214 && sub = 5 then (if v % 4 ≠ 0 then some abortValue else none)
  else if 0x2598 ≤ idx && idx < 0x259C && sub = 1 then (if v / 2 ^ 28 % 4 = 0 then some abortValue else none)
  else if idx = 0x25A0 && 1 ≤ sub && sub ≤ 16 then (if v % 2 ^ 16 = 0 then some abortBelow else none)
  else if 0x1600 ≤ idx && idx < 0x1608 then (if sub = 0 then (if 64 < v then some abortAbove else none) else if mapsPdo true v then none else some abortValue)
  else if 0x1A00 ≤ idx && idx < 0x1A08 then (if sub = 0 then (if 64 < v then some abortAbove else none) else if mapsPdo false v then none else some abortValue)
  else if idx = 0x1C12 || idx = 0x1C13 then
    (if sub = 0 then (if 8 < v then some abortAbove else none)
     else
      let b := if idx = 0x1C12 then 0x1600 else 0x1A00
      if v = 0 || (b ≤ v && v < b + 8) then none else some abortValue)
  else if idx = 0x1C32 || idx = 0x1C33 then (if 2 < v then some abortValue else none)
  else match idx, sub with
    | 0x3200, 7 => if v % 2 ^ 21 ≠ 0 then some abortValue else none
    | 0x3191, 1 => if v % 64 ≠ 0 then some abortValue else none
    | 0x3191, 3 => if v % 64 ≠ 0 then some abortValue else none
    | 0x2200, 3 => if v % 64 ≠ 0 then some abortValue else none
    | 0x3211, 1 => qcfgBad (BitVec.ofNat 32 v)
    | 0x2304, _ => if 4 < v / 2 ^ 28 then some abortValue else none
    | 0x2303, 0 => if v / 2 ^ 29 % 4 = 3 then some abortValue else none
    | _, _ => none

/-- Check 6 of a value written to an entry of `bits` bits: the bits above the type, then the ranges, codes and alignments of its
fields. A range that names another entry is tested as the write applies. -/
def valueBad (idx sub bits : Nat) (v : DWord) : Option Word :=
  if 2 ^ bits ≤ v.toNat then some abortAbove
  else match rangeRows.findSome? (fun r => r.bad idx sub v.toNat) with
    | some code => some code
    | none => valueOddity idx sub v.toNat

end Sys2Proof.Machine
end

