-- ==== Sys2Proof/Machine/Heats.lean ====
section
/-! DEFINITION. Heats: HEAT_CMD, the front end's messages, records, the supply of vectors and the timers (R528-R564, R799-R801). -/

namespace Sys2Proof.Machine

/-! ### HEAT_CMD (R548, R549) -/

/-- A slot changes state and tells EVENT_Q (R556). -/
def enterHeat (n sl : Nat) (st : HeatSt) (s : State) : State :=
  drain n (stateEvent n sl (s.modHeat n sl (fun h => { h with st := st })))

/-- A queue is enabled with the manager as consumer, and deep (R529). -/
def vecQueueOk (s : State) (n q : Nat) : Bool :=
  let x := s.queue q
  (x.st = .active || x.st = .suspended) && x.consumer = managerNode n && x.deep

/-- A queue is enabled with the manager as producer. -/
def outQueueOk (s : State) (n q : Nat) : Bool :=
  let x := s.queue q
  (x.st = .active || x.st = .suspended) && x.producer = managerNode n

/-- The cases that refuse OPEN with 0x0600_8801 do not hold (R531, R549). -/
def openFits (s : State) (n sl : Nat) : Bool :=
  let id := s.heatId n sl
  let w := s.heatWays n sl
  let v := s.heatQ n sl 0x0A
  id ≠ 0 && !((s.heat n (1 - sl)).st ≠ .idle && s.heatId n (1 - sl) = id) && w ≠ 0 && v + w ≤ 262144 &&
    (List.range w).all (fun i => vecQueueOk s n (v + i)) && [0x0B, 0x0C, 0x0D].all (fun k => outQueueOk s n (s.heatQ n sl k)) &&
    (s.heatEnd n sl = 0 || s.heatStart n sl < s.heatEnd n sl)

/-- Body of OPEN (R533). -/
def openBody (s : State) (n sl : Nat) : List Word :=
  let top := (if s.heatTolerant n sl then 2 ^ 15 else 0) + s.heatWidth n sl
  let map := s.setting (heatIdx n sl) 8
  indexWords (s.heatStart n sl) top ++ [map.setWidth 32, (map >>> 32).setWidth 32] ++
    (List.range (s.heatWords n sl)).map (fun i => s.settingW (heatIdx n sl) (0x20 + i))

/-- Abort of an OPEN that does not fit (R549). -/
abbrev abortHeat : Word := 0x06008801#32

/-- HEAT_CMD OPEN. -/
def heatOpen (n sl : Nat) (s : State) : Except Word State :=
  need (openFits s n sl) abortHeat (need (!anyLive s n && (s.vport n).st = .active) abortState (.ok
    (let st := s.heatStart n sl
     let s := s.modHeat n sl (fun h =>
      { Heat.reset with
        st := .opening, nextSend := st, applied := st, restart := st, voidIndex := h.voidIndex, protoLogged := h.protoLogged })
     drain n (stateEvent n sl (heatMsg n sl 0x01 (openBody s n sl) s)))))

/-- HEAT_CMD HOLD. -/
def heatHold (n sl : Nat) (s : State) : Except Word State :=
  need ((s.heat n sl).st = .streaming) abortState (.ok
    (enterHeat n sl .held (heatMsg n sl 0x02 (indexWords (s.heat n sl).nextSend 0) (sendBuilt n sl s))))

/-- HEAT_CMD RESUME. -/
def heatResume (n sl : Nat) (s : State) : Except Word State :=
  need ((s.heat n sl).st = .held) abortState (.ok (enterHeat n sl .streaming (heatMsg n sl 0x03 [] s)))

/-- HEAT_CMD MARK. -/
def heatMark (n sl : Nat) (s : State) : Except Word State :=
  let h := s.heat n sl
  let m := s.heatSet n sl 0x0E
  need ((h.st = .streaming || h.st = .held) && h.lastMark ≤ m && s.heatStart n sl ≤ m && m < s.heatStop n sl && h.marks.length < 16) abortState
    (.ok ((heatMsg n sl 0x04 (indexWords m 0) s).modHeat n sl (fun h => { h with marks := h.marks ++ [m], lastMark := m })))

/-- HEAT_CMD CLOSE. -/
def heatClose (n sl : Nat) (s : State) : Except Word State :=
  let h := s.heat n sl
  need (h.st = .streaming || h.st = .held) abortState (.ok (beginDrain n sl false s))

/-- HEAT_CMD ABORT. -/
def heatAbort (n sl : Nat) (s : State) : Except Word State :=
  need (s.heat n sl).st.live abortState (.ok (endHeat n sl .aborted 2 true s))

/-- HEAT_CMD CLEAR. -/
def heatClear (n sl : Nat) (s : State) : Except Word State :=
  let h := s.heat n sl
  need (h.st = .closed || h.st = .voided || h.st = .aborted) abortState (.ok (enterHeat n sl .idle s))

/-- A command of slot `sl` of port `n`. -/
def heatCmd (path n sl : Nat) (act : State → Except Word State) (s : State) : Result :=
  dictCommand path (heatIdx n sl) 2 2 (fun s => need (n < 6 && sl < 2) abortNoIndex (act s)) s

/-- HEAT_CMD_OPEN (R549). -/
def execHeatCmdOpen (path n sl : Nat) (s : State) : Result := heatCmd path n sl (heatOpen n sl) s
/-- HEAT_CMD_HOLD (R548). -/
def execHeatCmdHold (path n sl : Nat) (s : State) : Result := heatCmd path n sl (heatHold n sl) s
/-- HEAT_CMD_RESUME (R548). -/
def execHeatCmdResume (path n sl : Nat) (s : State) : Result := heatCmd path n sl (heatResume n sl) s
/-- HEAT_CMD_MARK (R549). -/
def execHeatCmdMark (path n sl : Nat) (s : State) : Result := heatCmd path n sl (heatMark n sl) s
/-- HEAT_CMD_CLOSE (R548). -/
def execHeatCmdClose (path n sl : Nat) (s : State) : Result := heatCmd path n sl (heatClose n sl) s
/-- HEAT_CMD_ABORT (R548). -/
def execHeatCmdAbort (path n sl : Nat) (s : State) : Result := heatCmd path n sl (heatAbort n sl) s
/-- HEAT_CMD_CLEAR (R548). -/
def execHeatCmdClear (path n sl : Nat) (s : State) : Result := heatCmd path n sl (heatClear n sl) s

/-- A write of HEAT_CMD, taken apart (R561). -/
def heatCmdApply (n sl : Nat) (v : Word) (s : State) : Except Word State :=
  match (v.extractLsb' 28 4).toNat with
  | 1 => heatOpen n sl s
  | 2 => heatHold n sl s
  | 3 => heatResume n sl s
  | 4 => heatMark n sl s
  | 5 => heatClose n sl s
  | 6 => heatAbort n sl s
  | 7 => heatClear n sl s
  | _ => .error abortValue

/-! ### Messages of the front end (R551, R554-R559) -/

/-- A received message of a heat: its slot, body, whole words and poison. -/
structure HeatMsg where
  sl : Nat
  id : Nat
  body : List Word
  whole : List Word
  poison : Bool
  deriving DecidableEq, Repr

/-- The manager takes the message at the head of its frames if it has code `code`: of a live heat it acts on it; of an ended one it is
counted, except VOID (R558); of no heat it is stray (R559). -/
def takeMessage (n code : Nat) (act : HeatMsg → State → State) (s : State) : Result :=
  match (s.vport n).rx with
  | f :: _ =>
    match f.words with
    | w :: rest =>
      let k := msgBody w
      let s1 := modHead n (fun ws => ws.drop (k + 1)) s
      event (s.portUp n && msgCode w = code && (s.vport n).backlog.isEmpty) s
        (settle n (match s.slotOf n (msgHeat w) with
          | none => countPartner n (msgHeat w) 0 s1
          | some sl =>
            let m : HeatMsg := { sl := sl, id := msgHeat w, body := rest.take k, whole := w :: rest.take k, poison := f.poison }
            if (s.heat n sl).st.live then act m s1
            else if code = 0x16 then s1.modHeat n sl (fun h => { h with feFinal := BitVec.ofNat 64 (bodyIndex m.body 0) })
            else countPartner n m.id 0 s1))
    | [] => ok s
  | [] => ok s

/-- The message goes to EVENT_Q. -/
def HeatMsg.event (m : HeatMsg) (n : Nat) (s : State) : State := pushEvent n m.sl m.poison m.whole s

/-- The heat is voided by what the front end sent (R559): the message is an event, and ABORT follows. -/
def partnerVoids (n : Nat) (m : HeatMsg) (cause : Nat) (s : State) : State := voidHeat n m.sl cause true (m.event n s)

/-- An index of the front end raises APPLIED where it lies above it and not above NEXT_SEND (R551). -/
def raiseApplied (n sl a : Nat) (s : State) : State :=
  s.modHeat n sl (fun h => if h.applied < a && a ≤ h.nextSend then { h with applied := a } else h)

/-- OPEN_ACK (R548). -/
def execOpenAck (n : Nat) (s : State) : Result :=
  takeMessage n 0x11 (fun m s =>
    if (s.heat n m.sl).st = .opening then enterHeat n m.sl .streaming (m.event n s) else countPartner n m.id 0 s) s

/-- OPEN_NAK (R548). -/
def execOpenNak (n : Nat) (s : State) : Result :=
  takeMessage n 0x12 (fun m s =>
    if (s.heat n m.sl).st = .opening then
      let s := (m.event n s).modHeat n m.sl (fun h => { h with reason := (m.body.getD 0 0).toNat % 256 })
      endHeat n m.sl .aborted 3 false (reportHeat 0x3807 n m.sl 0 s)
    else countPartner n m.id 0 s) s

/-- APPLIED (R551, R559). -/
def execApplied (n : Nat) (s : State) : Result :=
  takeMessage n 0x13 (fun m s =>
    let h := s.heat n m.sl
    let a := bodyIndex m.body 0
    if h.nextSend < a then voidHeat n m.sl 12 true s
    else if a < h.applied then countPartner n m.id a s
    else raiseApplied n m.sl a s) s

/-- MARK_DONE (R551, R554, R559). -/
def execMarkDone (n : Nat) (s : State) : Result :=
  takeMessage n 0x14 (fun m s =>
    let h := s.heat n m.sl
    let i := bodyIndex m.body 0
    if h.marks.head? ≠ some i then countPartner n m.id i s
    else if h.nextSend < i then partnerVoids n m 12 s
    else drain n (m.event n ((raiseApplied n m.sl i s).modHeat n m.sl (fun h => { h with marks := h.marks.drop 1, restart := i })))) s

/-- CLOSED (R548, R551, R559). -/
def execClosed (n : Nat) (s : State) : Result :=
  takeMessage n 0x15 (fun m s =>
    let h := s.heat n m.sl
    let u := bodyIndex m.body 0
    if h.nextSend < u then partnerVoids n m 12 s
    else
      let s := raiseApplied n m.sl u (if u < h.applied then countPartner n m.id u s else s)
      if h.st = .draining && u = s.heatEnd n m.sl then
        let s := (m.event n s).modHeat n m.sl (fun h => { h with applied := u })
        if h.voidPend then endHeat n m.sl .voided 11 false s else endHeat n m.sl .closed 1 false s
      else partnerVoids n m 14 s) s

/-- VOID (R548, R551, R558, R559). -/
def execVoid (n : Nat) (s : State) : Result :=
  takeMessage n 0x16 (fun m s =>
    let h := s.heat n m.sl
    let u := bodyIndex m.body 0
    let s := s.modHeat n m.sl (fun h => { h with reason := (m.body.getD 2 0).toNat % 256 })
    if h.nextSend < u then partnerVoids n m 12 s
    else
      let s := raiseApplied n m.sl u (if u < h.applied then countPartner n m.id u s else s)
      endHeat n m.sl .voided 5 false (m.event n s)) s

/-- GAP (R559). -/
def execGap (n : Nat) (s : State) : Result :=
  takeMessage n 0x17 (fun m s =>
    let g := bodyIndex m.body 0
    if !s.heatTolerant n m.sl then partnerVoids n m 13 s
    else if (s.heat n m.sl).nextSend < g then countPartner n m.id g s
    else drain n (m.event n (s.modHeat n m.sl (fun h =>
      { h with gapVectors := h.gapVectors + (m.body.getD 2 0).setWidth 64, gapEvents := h.gapEvents + 1 })))) s

/-- One record of a FAIL (`par` false) or PARAM message (R555). -/
def takeRecord (n id : Nat) (poison par : Bool) (s : State) (r : List Word) : State :=
  match s.slotOf n id with
  | none => countPartner n id 0 s
  | some sl =>
    let h := s.heat n sl
    let i := bodyIndex r 0
    let site := (r.getD 1 0).toNat / 2 ^ 16 % 64
    if s.heatStart n sl ≤ i && i < h.nextSend && (s.setting (heatIdx n sl) 8).getLsbD site then
      let q := s.heatQ n sl (if par then 0x0C else 0x0B)
      let s := if h.lost.contains q then s
        else s.modHeat n sl (fun h => if par then { h with paramRecords := h.paramRecords + 1 } else { h with failRecords := h.failRecords + 1 })
      pushDue n sl q poison r s
    else s.modHeat n sl (fun h => { h with badRecords := h.badRecords + 1 })

/-- Records of four words. -/
def records : Nat → List Word → List (List Word)
  | 0, _ => []
  | k + 1, ws => ws.take 4 :: records k (ws.drop 4)

/-- The manager takes a message of records; one without records that names no heat is stray as a message. -/
def takeRecords (n code : Nat) (s : State) : Result :=
  match (s.vport n).rx with
  | f :: _ =>
    match f.words with
    | w :: rest =>
      let k := msgBody w
      let s1 := modHead n (fun ws => ws.drop (k + 1)) s
      event (s.portUp n && msgCode w = code && (s.vport n).backlog.isEmpty) s
        (settle n (if k = 0 && (s.slotOf n (msgHeat w)).isNone then countPartner n (msgHeat w) 0 s1
         else (records (k / 4) rest).foldl (takeRecord n (msgHeat w) f.poison (code = 0x31)) s1))
    | [] => ok s
  | [] => ok s

/-- FAIL (R555). -/
def execFail (n : Nat) (s : State) : Result := takeRecords n 0x30 s

/-- PARAM (R555). -/
def execParam (n : Nat) (s : State) : Result := takeRecords n 0x31 s

/-! ### The supply of vectors (R530, R536-R539, R799) -/

/-- The slot of port `n` that is STREAMING. -/
def streamingSlot (s : State) (n : Nat) : Option Nat := [0, 1].find? (fun sl => (s.heat n sl).st = .streaming)

/-- The manager may pop: no POP is out, vectors are left, and no AT_HEAT commit holds the next one. -/
def mayPop (s : State) (n sl : Nat) : Bool :=
  s.portUp n && (s.vport n).popOut.isNone && (s.heat n sl).nextSend < s.heatStop n sl && !heatHeld s n sl

/-- VECTOR_POP (R536). -/
def execVectorPop (n : Nat) (s : State) : Result :=
  match streamingSlot s n with
  | some sl => event (mayPop s n sl && !(s.vport n).retry) s (sendVectorPop n sl s)
  | none => ok s

/-- VECTOR_POP_RETRY (R799). -/
def execVectorPopRetry (n : Nat) (s : State) : Result :=
  match streamingSlot s n with
  | some sl => event (mayPop s n sl && (s.vport n).retry) s (sendVectorPop n sl s)
  | none => ok s

/-- The first POP answer that waits at a gate. -/
def popAnswer (g : Gate) : Option (PopStatus × List QWord) :=
  g.answers.findSome? (fun p => match p.body with
    | .popResp st ws => some (st, ws)
    | _ => none)

/-- VECTOR_POP_RESPONSE (R537-R539, R799). An answer for a heat that no longer takes it is dropped; one that would bring the vector an AT_HEAT
commit holds waits (R654). -/
def execVectorPopResponse (n : Nat) (s : State) : Result :=
  match (s.vport n).popOut, popAnswer (s.gate (managerNode n)) with
  | some sl, some (st, ws) =>
    let s1 := (s.modGate (managerNode n) (fun g => { g with answers := g.answers.eraseP (fun p => p.body = .popResp st ws) })).modVPort n
      (fun p => { p with popOut := none })
    event (s.portUp n && (2 ≤ sl || !heatHeld s n sl)) s (if 2 ≤ sl then s1 else vectorAnswer n sl st ws s1)
  | _, _ => ok s

/-! ### Timers (R550) -/

/-- The timers of a heat count: the port is ACTIVE and the manager is not stalled. -/
def timersRun (s : State) (n : Nat) : Bool := s.portUp n && (s.vport n).st = .active && (s.vport n).backlog.isEmpty

/-- OPEN_TIMEOUT (R548). -/
def execOpenTimeout (n sl : Nat) (s : State) : Result :=
  event (sl < 2 && timersRun s n && (s.heat n sl).st = .opening) s (endHeat n sl .aborted 4 true (reportHeat 0x3807 n sl 0 s))

/-- APPLIED_TIMEOUT (R548). -/
def execAppliedTimeout (n sl : Nat) (s : State) : Result :=
  let h := s.heat n sl
  event (sl < 2 && timersRun s n && (h.st = .streaming || h.st = .held || h.st = .draining) && h.applied < h.nextSend) s (voidHeat n sl 9 true s)

/-- DRAIN_TIMEOUT (R548). -/
def execDrainTimeout (n sl : Nat) (s : State) : Result :=
  event (sl < 2 && timersRun s n && (s.heat n sl).st = .draining) s (voidHeat n sl 10 true s)

/-! ### Credits and revocation at a producer's gate (R223, R229, R557, R801) -/

/-- The queue is enabled again with the manager as producer: it is no longer lost (R801). -/
def regain (n sl q : Nat) (s : State) : State := s.modHeat n sl (fun h => { h with lost := h.lost.filter (· ≠ q) })

/-- GATE_CREDIT (R223): gate `i` sinks a CREDIT of `n` for queue `q`, the oldest packet of the tundish there. The PCIe endpoint holds it for the host
(R261); a port manager goes on with what is due (R557). -/
def execGateCredit (i q n : Nat) (s : State) : Result :=
  let s1 := (s.consume i tundishNode 0 (.credit q n)).modProducer i q (fun p =>
    if i = 88 then { p with granted := p.granted + n } else { p with credits := p.credits + n })
  event (s.atFront i tundishNode 0 (.credit q n)) s
    (if 82 ≤ i && i < 88 then settle (i - 82) (regain (i - 82) 1 q (regain (i - 82) 0 q s1)) else s1)

/-- A record or event queue of a slot that is not IDLE is lost (R801). -/
def loseQueue (n q : Nat) (s : State) (sl : Nat) : State :=
  let h := s.heat n sl
  if h.st ≠ .idle && [0x0B, 0x0C, 0x0D].any (fun k => s.heatQ n sl k = q) then
    voidHeat n sl 15 true (s.modHeat n sl (fun h => { h with lost := q :: h.lost.filter (· ≠ q) }))
  else s

/-- GATE_REVOKE (R229, R801): gate `i` sends what it gathered for queue `q`, drops its credits and acknowledges them. -/
def execGateRevoke (i q : Nat) (s : State) : Result :=
  let s1 := gateSend i q (s.consume i tundishNode 0 (.revoke q))
  let p := s1.producer i q
  let s2 := s1.modProducer i q (fun p => { p with credits := 0, granted := 0, midPacket := false })
  let s3 := s2.request i tundishNode 0 (gateClass s2 i q) (.revokeAck q (p.credits + p.granted))
  event (s.atFront i tundishNode 0 (.revoke q)) s
    (if 82 ≤ i && i < 88 then settle (i - 82) ([0, 1].foldl (loseQueue (i - 82) q) s3) else s3)

/-! ### Entries (R561-R563) -/

/-- HEAT_STATUS. -/
def heatStatus (h : Heat) : Nat :=
  heatCode h.st * 2 ^ 29 + h.cause * 2 ^ 24 + h.reason * 2 ^ 16 + (if h.voidPend then 2 ^ 15 else 0)

/-- Live entries of a slot. -/
def heatRead (s : State) (n sl sub : Nat) : Option DWord :=
  let h := s.heat n sl
  let v (x : Nat) : Option DWord := some (BitVec.ofNat 64 x)
  let w (x : Word) : Option DWord := some (x.setWidth 64)
  match sub with
  | 0x01 => v (heatStatus h)
  | 0x10 => v h.nextSend
  | 0x12 => v h.applied
  | 0x14 => v h.voidIndex
  | 0x16 => v h.lastMark
  | 0x18 => v h.restart
  | 0x1A => some h.feFinal
  | 0x1C => some h.gapVectors
  | 0x1E => w h.gapEvents
  | 0x1F => w h.idleWords
  | 0x40 => w h.failRecords
  | 0x41 => w h.paramRecords
  | 0x42 => w h.badRecords
  | 0x43 => w h.proto
  | _ => none

/-- Reads that clear. -/
def heatReadClear (n sl sub : Nat) (s : State) : State :=
  s.modHeat n sl (fun h => match sub with
    | 0x1C => { h with gapVectors := 0 }
    | 0x1E => { h with gapEvents := 0 }
    | 0x1F => { h with idleWords := 0 }
    | 0x40 => { h with failRecords := 0 }
    | 0x41 => { h with paramRecords := 0 }
    | 0x42 => { h with badRecords := 0 }
    | 0x43 => { h with proto := 0, protoLogged := false }
    | _ => h)

/-- A write of a stored entry of a slot (R561): in a live state only MARK_AT, the timers, and END within its bound. -/
def heatApply (n sl sub : Nat) (v : DWord) (s : State) : Except Word State :=
  let live := (s.heat n sl).st.live
  let locked := sub = 3 || sub = 4 || sub = 8 || (0x0A ≤ sub && sub ≤ 0x0D) || (0x20 ≤ sub && sub ≤ 0x3F)
  let endBad := sub = 6 && v.toNat % 2 ^ 48 ≠ 0 && v.toNat % 2 ^ 48 < (s.heat n sl).nextSend
  need (!(live && (locked || endBad))) abortState (.ok (s.putSetting (heatIdx n sl) sub v))

end Sys2Proof.Machine
end

