-- ==== Sys2Proof/Machine/Log.lean ====
section
/-! DEFINITION. The error log, its policies and recovery records, and the commands of the chill banks (R668-R703), up to the taking of a
chill. -/

namespace Sys2Proof.Machine

/-- Change log and chill. -/
def State.modChill (s : State) (g : ChillState → ChillState) : State := { s with chill := g s.chill }

/-! ### Policies (R694-R697) -/

/-- Every error code the chapters define. -/
def errorCodes : List Nat :=
  [0x1101, 0x1102, 0x1103, 0x1201, 0x1202, 0x1301, 0x1302, 0x1401, 0x1501, 0x1502, 0x1601, 0x1602, 0x1701, 0x1702, 0x1801, 0x1901, 0x1A01,
   0x1A02, 0x1B01, 0x1C01, 0x1C02, 0x2110, 0x2301, 0x2401, 0x2501, 0x2701, 0x2801, 0x2802, 0x2901, 0x2902, 0x2A01, 0x2B01] ++
  [0x3110, 0x3111, 0x3112, 0x3201, 0x3202, 0x3203, 0x3204, 0x3301, 0x3302, 0x3303, 0x3304, 0x3306, 0x3401, 0x3402, 0x3403, 0x3404, 0x3405,
   0x3501, 0x3502, 0x3503, 0x3504, 0x3505, 0x3601, 0x3602, 0x3603, 0x3604, 0x3605, 0x3701, 0x3702, 0x3703] ++
  [0x3801, 0x3802, 0x3803, 0x3804, 0x3805, 0x3806, 0x3807, 0x3808, 0x3901, 0x3902, 0x3903, 0x3904, 0x3905, 0x3906, 0x3907, 0x3908, 0x3909,
   0x390A, 0x390B, 0x390C, 0x390D, 0x3A01, 0x3A02, 0x3A03, 0x3A04, 0x3B01, 0x3B02, 0x3C01] ++
  [0x4103, 0x4104, 0x4105, 0x4106, 0x4301, 0x4401, 0x4501, 0x4502, 0x4601, 0x4701, 0x4801, 0x4901, 0x4A01, 0x4C01, 0x4C02, 0x4C03]

/-- ACTION of a POLICY word. -/
def polAction (v : Word) : Nat := v.toNat % 16

/-- A POLICY value is one that R694 documents for the code. -/
def policyFits (code : Nat) (v : Word) : Bool :=
  errorCodes.contains code &&
    (polAction v = 0 || (polAction v = 1 && [0x1, 0x2, 0x5, 0x7, 0x8].contains (code / 256 % 16)) ||
      (polAction v = 2 && [0x1101, 0x1102, 0x1201, 0x1202].contains code)) &&
    (!v.getLsbD 30 || code / 4096 = 1)

/-- The policy of a code. -/
def State.policy (s : State) (code : Nat) : Word := (s.settingOf code 0x2410 1).setWidth 32

/-- ESCALATE: the object's domain stops (R695). -/
def escalate (e : ErrRep) (s : State) : State :=
  if e.kind = 1 || e.kind = 3 then (if (s.flask e.oid).live || (s.flask e.oid).role = .spareIdle || (s.flask e.oid).role = .recastTarget then flaskHalt e.oid s else s)
  else if e.kind = 2 then (if (s.flask (s.physOf e.oid)).live then flaskHalt (s.physOf e.oid) s else s)
  else if e.kind = 7 then (if (s.core e.oid).st = .halted then s else coreHalt e.oid (s.core e.oid).pc s)
  else if e.kind = 0x0A then (if (s.chan e.oid).fault then s else chanStop e.oid s)
  else if e.kind = 0x0B then (if (s.vport e.oid).stopped then s else portHalt e.oid s)
  else if e.kind = 0x0C then (if (s.vport (e.oid / 256)).stopped then s else portHalt (e.oid / 256) s)
  else s

/-- RECAST: the error counts against its physical flask, and the limit starts a recast (R697). -/
def countForRecast (e : ErrRep) (s : State) : State :=
  let n := Tab.get 0 s.chill.ceCount e.oid + 1
  let s := s.modChill (fun c => { c with ceCount := Tab.set 0 c.ceCount e.oid n })
  if n = s.settingN 0x2411 1 then policyRecast e.oid s else s

/-- The policy of an error acts, beyond its default action. -/
def policyActs (e : ErrRep) (s : State) : State :=
  match polAction (s.policy e.code) with
  | 1 => escalate e s
  | 2 => countForRecast e s
  | _ => s

/-! ### Entries (R681-R691) -/

/-- The SEQ after another, 0 left out. -/
def nextSeq (q : Word) : Word := if q + 1 = 0 then 1 else q + 1

/-- The record slot a new record takes: the lowest FREE one, else the DONE or FAILED one opened earliest (R691). -/
def recSlotFor (c : ChillState) : Option Nat :=
  let at' (n : Nat) : RecSlot := Tab.get RecSlot.reset c.recs n
  match (List.range 32).find? (fun n => (at' n).st = .free) with
  | some n => some n
  | none =>
    (List.range 32).foldl (fun best n =>
      if (at' n).st = .active then best
      else match best with
        | none => some n
        | some m => if (at' n).opened < (at' m).opened then some n else some m) none

/-- Open the record of a class 2 entry; a recovery that is complete already is DONE at once (R689, R691). The REC field comes with it. -/
def openRecord (e : ErrRep) (seq : Word) (s : State) : Nat × State :=
  let obj := objWord e.kind e.oid
  let st : RecSt := if e.failed then .failed else if s.chill.ongoing.any (fun r => r.serial = e.recovery) then .active else .done
  match recSlotFor s.chill with
  | some n => (n + 1, s.modChill (fun c =>
      { c with
        recs := Tab.set RecSlot.reset c.recs n { st := st, code := BitVec.ofNat 16 e.code, seq := seq, obj := obj, opened := c.opened, serial := e.recovery }
        opened := c.opened + 1 }))
  | none => (0, s.modChill (fun c => { c with recOverflow := c.recOverflow + 1 }))

/-- An error of class 1 repeats the newest entry (R683). -/
def repeatsNewest (e : ErrRep) (s : State) : Bool :=
  match s.chill.ring with
  | x :: _ => e.code / 4096 = 1 && x.code.toNat = e.code && objWord x.kind.toNat x.oid.toNat = objWord e.kind e.oid && x.aux = e.aux && x.repeats ≠ 255
  | [] => false

/-- CHILL_CFG selects errors of a class (R670, R700). -/
def chillOnClass (s : State) (cls : Nat) : Bool :=
  let c := s.settingW 0x2300 3
  c.getLsbD 24 && min ((c.extractLsb' 22 2).toNat) 2 + 2 ≤ cls

/-- Write the entry of an error (R681, R684) and what follows it: its record, the chill it triggers, the vector, its place among the
unacknowledged and the Emergency. -/
def writeEntry (e : ErrRep) (s : State) : State :=
  let cls := e.code / 4096
  let seq := s.chill.head
  let (rec', s) := if cls = 2 then openRecord e seq s else (0, s)
  let x : LogEntry :=
    { code := BitVec.ofNat 16 e.code, dcValid := s.dcRunning, esc := polAction (s.policy e.code) = 1, rec' := BitVec.ofNat 6 rec', repeats := 0,
      seq := seq, time := s.now, kind := BitVec.ofNat 8 e.kind, oid := BitVec.ofNat 24 e.oid, aux := e.aux, detail := e.detail, damaged := false }
  let s := s.modChill (fun c =>
    { c with head := nextSeq seq, ring := (x :: c.ring).take 256, unackSeq := if 3 ≤ cls then c.unackSeq ++ [seq] else c.unackSeq })
  let s := if chillOnClass s cls || (s.policy e.code).getLsbD 31 then (chillDue 5 s).modChill (fun c => { c with dueSeq := seq }) else s
  let s := evtLog seq s
  if 3 ≤ cls then emergency (BitVec.ofNat 16 e.code) seq s else s

/-- The policies of the errors that the full intake did not take act all the same (R695, R697; log 50). -/
def lostPolicies (s : State) : State := s.chill.unlogged.foldl (fun s e => policyActs e s) (s.modChill (fun c => { c with unlogged := [] }))

/-- LOG_ENTRY_WRITE (R680-R691, R694-R697): the oldest error of the intake. -/
def execLogEntryWrite (s : State) : Result :=
  match s.chill.intake with
  | [] => ok s
  | e :: rest =>
    let s := lostPolicies (s.modChill (fun c => { c with intake := rest, settled := rest.length }))
    let s := if e.code / 4096 = 1 && (s.policy e.code).getLsbD 30 then s
      else if repeatsNewest e s then s.modChill (fun c => { c with ring := match c.ring with
        | x :: xs => { x with repeats := x.repeats + 1 } :: xs
        | [] => [] })
      else writeEntry e s
    ok (policyActs e s)

/-- RECAST_CE_WINDOW_EXPIRY (R697). -/
def execRecastCeWindowExpiry (s : State) : Result := ok (s.modChill (fun c => { c with ceCount := [], ceLogged := [] }))

/-- A write of LOG_ACK (R686). -/
def logAck (v : Word) (s : State) : Except Word State :=
  need (!seqAfter v (s.chill.head - 1)) abortAbove (.ok (s.modChill (fun c =>
    { c with unackSeq := c.unackSeq.filter (fun q => seqAfter q v), unackLost := c.unackLost.filter (fun q => seqAfter q v) })))

/-- LOG_ACK (R686). -/
def execLogAck (path : Nat) (v : Word) (s : State) : Result := dictCommand path 0x2400 0x0C 1 (logAck v) s

/-! ### Chill commands (R670-R673) -/

/-- A bank, and a change to it: `true` for B. -/
def State.bank (s : State) (b : Bool) : ChillBank := if b then s.chill.bankB else s.chill.bankA
def State.modBank (s : State) (b : Bool) (g : ChillBank → ChillBank) : State :=
  s.modChill (fun c => if b then { c with bankB := g c.bankB } else { c with bankA := g c.bankA })

/-- The bounds of a DC time that a command names: from 10 µs to 1,000 s after the present time (R653, R671). -/
def dcTimeFits (s : State) (t : DWord) (k : Except Word State) : Except Word State :=
  if !s.dcRunning then .error abortState
  else if t.toNat < s.dcTime.toNat + 10000 then .error abortBelow
  else if s.dcTime.toNat + 1000000000000 < t.toNat then .error abortAbove
  else k

/-- The commands of CHILL_CMD. -/
def chillFire (s : State) : Except Word State := .ok (chillDue 0 s)
def chillFireAt (s : State) : Except Word State :=
  dcTimeFits s (s.setting 0x2300 4) (.ok (s.modChill (fun c => { c with fireAt := true, fireTime := s.setting 0x2300 4 })))
def chillRelease (b : Bool) (s : State) : Except Word State :=
  need (s.bank b).held abortState (.ok (s.modBank b (fun x => { x with held := false, new := false })))
def chillCancelAt (s : State) : Except Word State := need s.chill.fireAt abortState (.ok (s.modChill (fun c => { c with fireAt := false })))

/-- CHILL_CMD_FIRE (R670). -/
def execChillCmdFire (path : Nat) (s : State) : Result := dictCommand path 0x2300 2 1 chillFire s
/-- CHILL_CMD_FIRE_AT (R671). -/
def execChillCmdFireAt (path : Nat) (s : State) : Result := dictCommand path 0x2300 2 1 chillFireAt s
/-- CHILL_CMD_RELEASE (R673). -/
def execChillCmdRelease (path : Nat) (b : Bool) (s : State) : Result := dictCommand path 0x2300 2 1 (chillRelease b) s
/-- CHILL_CMD_CANCEL_AT (R626, R671). -/
def execChillCmdCancelAt (path : Nat) (s : State) : Result := dictCommand path 0x2300 2 1 chillCancelAt s

/-- A write of CHILL_CMD, taken apart. -/
def chillCmdApply (v : Word) (s : State) : Except Word State :=
  match (v.extractLsb' 28 4).toNat with
  | 1 => chillFire s
  | 2 => chillFireAt s
  | 3 => chillRelease (v.getLsbD 0) s
  | 4 => chillCancelAt s
  | _ => .error abortValue

/-! ### Entries (R699-R702) -/

/-- The words of an entry (R684); of a damaged one only SEQ is left (R703). -/
def LogEntry.word (x : LogEntry) (k : Nat) : Word :=
  if x.damaged && k ≠ 1 then 0 else
  let b (c : Bool) (n : Nat) : Nat := if c then 2 ^ n else 0
  match k with
  | 0 => BitVec.ofNat 32 (x.code.toNat * 2 ^ 16 + b x.dcValid 15 + b x.esc 14 + x.rec'.toNat * 2 ^ 8 + x.repeats.toNat)
  | 1 => x.seq
  | 2 => x.time.setWidth 32
  | 3 => (x.time >>> 32).setWidth 32
  | 4 => objWord x.kind.toNat x.oid.toNat
  | 5 => x.aux
  | 6 => x.detail.setWidth 32
  | _ => (x.detail >>> 32).setWidth 32

/-- The entry a path's LOG_SELECT names. -/
def logSelected (s : State) (path : Nat) : Option LogEntry :=
  s.chill.ring.find? (fun x => x.seq = BitVec.ofNat 32 (s.selector path 0x2400 3))

/-- CHILL_STATUS and BANK_INFO. -/
def chillStatus (c : ChillState) : Nat :=
  let b (c : Bool) (n : Nat) : Nat := if c then 2 ^ n else 0
  b c.bankA.held 31 + b c.bankB.held 30 + b c.lastB 29 + b c.fireAt 28
def bankInfo (x : ChillBank) : Nat :=
  let b (c : Bool) (n : Nat) : Nat := if c then 2 ^ n else 0
  b x.held 31 + b x.new 30 + b x.damaged 29 + b x.dcValid 28 + x.cause.toNat

/-- REC_STATUS of a slot. -/
def recStatus (r : RecSlot) : Nat :=
  (match r.st with
   | .free => 0
   | .active => 1
   | .done => 2
   | .failed => 3) * 2 ^ 30 + r.code.toNat

/-- The record slot a path's REC_SELECT names. -/
def recSelected (s : State) (path : Nat) : RecSlot := Tab.get RecSlot.reset s.chill.recs (s.selector path 0x2420 0 % 32)

/-- An entry belongs to the chill set (R669). -/
def chillEntry (idx sub : Nat) : Bool :=
  ((0x2100 ≤ idx && idx < 0x2300) || (0x2400 ≤ idx && idx ≤ 0x4200)) &&
    (match findEntry idx sub with
     | some r => (r.acc = .ro || r.acc = .rc || r.acc = .st) && r.bits ≠ 0 && !windowed idx sub
     | none => false)
where
  /-- Data of a window, or an entry that reads relative to the path. -/
  windowed (idx sub : Nat) : Bool :=
    idx = 0x3211 || (idx = 0x3310 && sub ≠ 0) || idx = 0x3320 || idx = 0x3330 || idx = 0x3040 || idx = 0x2610 || idx = 0x2410 || idx = 0x2420 ||
    (idx = 0x2400 && 4 ≤ sub && sub ≤ 0x0B) || (0x4000 ≤ idx && idx < 0x4048 && sub = 0x31) || (0x4100 ≤ idx && idx < 0x4148 && sub = 6) ||
    (0x3100 ≤ idx && idx < 0x3180 && 1 ≤ idx % 16 && idx % 16 ≤ 3 && !(idx % 16 = 1 && sub = 3)) ||
    (0x3500 ≤ idx && idx < 0x35C0 && idx % 32 = 1)

/-- The crucible registers of the chill set: E0-E3, both parts of A0-A3, and ST. -/
def chillReg (r : Nat) : Bool := (0x1C ≤ r && r ≤ 0x27) || r = 0x2A

/-- CHILL_WIN_DATA as a path reads it (R677). -/
def chillWindow (s : State) (path : Nat) : Except Word DWord :=
  let w := s.selector path 0x2303 0
  let x := s.bank (decide (2 ^ 31 ≤ w))
  let space := w / 2 ^ 29 % 4
  let inSet := if space = 0 then chillEntry (w / 256 % 65536) (w % 256)
    else if space = 1 then w / 256 % 128 < 72 && chillReg (w % 64) else space = 2
  if !inSet then .error 0x06008A07#32
  else if !x.held then .error abortState
  else if x.damaged then .error abortDamaged
  else if space = 0 then .ok (Tab.get 0 x.entries (w % 2 ^ 24))
  else if space = 1 then .ok (Tab.get 0 x.cru (w / 256 % 128 * 64 + w % 64))
  else .ok (Tab.get 0 x.list (w % 64))

/-- Live entries of log, chill and records. -/
def logRead (s : State) (path idx sub : Nat) : Option DWord :=
  let c := s.chill
  let v (x : Nat) : Option DWord := some (BitVec.ofNat 64 x)
  let w (x : Word) : Option DWord := some (x.setWidth 64)
  match idx with
  | 0x2300 => if sub = 1 then v (chillStatus c) else if sub = 6 then w c.missed else if sub = 7 then w c.count else none
  | 0x2301 => bankEntry c.bankA sub
  | 0x2302 => bankEntry c.bankB sub
  | 0x2400 =>
    if sub = 1 then w c.head
    else if sub = 2 then w ((c.ring.getLast?.map (·.seq)).getD c.head)
    else if 4 ≤ sub && sub ≤ 0x0B then w ((logSelected s path).map (fun x => x.word (sub - 4)) |>.getD 0)
    else if sub = 0x0D then v (logUnack s)
    else if sub = 0x0E then w c.lost
    else if sub = 0x0F then w c.class1
    else if sub = 0x10 then w c.class2
    else if sub = 0x11 then w c.class3
    else if sub = 0x12 then w c.class4
    else none
  | 0x2420 =>
    if sub = 1 then v (recStatus (recSelected s path))
    else if sub = 2 then w (recSelected s path).seq
    else if sub = 3 then w (recSelected s path).obj
    else if sub = 4 then v c.ongoing.length
    else if sub = 5 then w c.recOverflow
    else none
  | _ => none
where
  bankEntry (x : ChillBank) (sub : Nat) : Option DWord :=
    if sub = 1 then some (BitVec.ofNat 64 (bankInfo x)) else if sub = 2 then some (x.seq.setWidth 64) else if sub = 3 then some x.time
    else if sub = 5 then some (x.errSeq.setWidth 64) else none

/-- Reads that clear. -/
def logReadClear (idx sub : Nat) (s : State) : State :=
  s.modChill (fun c => match idx, sub with
    | 0x2300, 6 => { c with missed := 0 }
    | 0x2400, 0x0E => { c with lost := 0 }
    | 0x2400, 0x0F => { c with class1 := 0 }
    | 0x2400, 0x10 => { c with class2 := 0 }
    | 0x2400, 0x11 => { c with class3 := 0 }
    | 0x2400, 0x12 => { c with class4 := 0 }
    | 0x2420, 5 => { c with recOverflow := 0 }
    | _, _ => c)

/-- Writes of entries that are not plain settings: BANK_INFO clears NEW. -/
def bankInfoApply (b : Bool) (v : Word) (s : State) : State := if v.getLsbD 30 then s.modBank b (fun x => { x with new := false }) else s

end Sys2Proof.Machine
end

