-- ==== Sys2Proof/Machine/Sess.lean ====
section
/-! DEFINITION. Sessions, key slots and the commands of transactions (R639-R659). -/

namespace Sys2Proof.Machine

/-! ### Challenges and proofs (R641-R644) -/

/-- Fresh words of a challenge. -/
def drawWords : Nat → State → List Word × State
  | 0, s => ([], s)
  | n + 1, s =>
    let w := Config.random s.fresh
    let (ws, s) := drawWords n { s with fresh := s.fresh + 1 }
    (w :: ws, s)

/-- Key slot and level of a REQUEST word. -/
def reqSlot (v : Word) : Nat := (v.extractLsb' 8 2).toNat
def reqLevel (v : Word) : Nat := (v.extractLsb' 0 2).toNat

/-- A key slot can open a session. -/
def keyUsable (s : State) (k : Nat) : Bool := (s.key k).provisioned && !(s.key k).locked

/-- All four session contexts are open (R640). -/
def sessionsFull (s : State) : Bool := [1, 2, 3, 4].all (fun n => (s.session n).isOpen)

/-- REQUEST's checks and effect (R643). -/
def sessRequest (path : Nat) (v : Word) (s : State) : Except Word State :=
  let k := reqSlot v
  if reqLevel v = 0 then .error abortBelow
  else if !keyUsable s k then .error 0x06008A02#32
  else if (s.key k).level < reqLevel v then .error 0x06008A03#32
  else if sessionsFull s then .error 0x06008A04#32
  else need ((s.path path).session = 0) abortState
    (let (ws, s) := drawWords 8 s
     .ok (s.modPath path (fun p => { p with challenge := some { words := ws, request := v }, challengeAt := s.power.pour })))

/-- SESS_REQ_REQUEST (R641): `path` writes SESS_REQ with CMD = REQUEST. -/
def execSessReqRequest (path : Nat) (v : Word) (s : State) : Result :=
  let v := (v &&& 0x0FFFFFFF#32) ||| 0x10000000#32
  dictCommand path 0x2010 1 0 (sessRequest path v) s

/-- The message of R642. -/
def sessMessage (path : Nat) (c : Challenge) : List Byte :=
  (c.words ++ [c.request, BitVec.ofNat 32 path]).flatMap leBytes

/-- SESS_RESP_0-7 as bytes. -/
def respBytes (p : Path) : List Byte := ((List.range 8).map (fun k => Tab.get 0 p.resp k)).flatMap leBytes

/-- The response of a path matches its challenge under the key of the challenge's slot. -/
def proves (s : State) (path : Nat) (c : Challenge) : Bool :=
  let k := s.key (reqSlot c.request)
  k.provisioned && respBytes (s.path path) = hmacSha256 (k.key.flatMap leBytes) (sessMessage path c)

/-- 1 ms and 1 s in pour ticks of 6.25 ns. -/
abbrev msTicks : Nat := 160000
abbrev secTicks : Nat := 160000000

/-- More than CHAL_TIMEOUT of pour ticks has passed since the REQUEST. -/
def challengeLate (s : State) (path : Nat) : Bool :=
  s.settingN 0x2018 2 * msTicks < (s.power.pour - (s.path path).challengeAt).toNat

/-- A failed proof is counted (R644): the fourth in a row locks the slot out, and the first since AUTH_FAILS was read is logged. -/
def countFailure (path k : Nat) (s : State) : State :=
  let s := s.modKey k (fun x => if 4 ≤ x.failRun + 1 then { x with locked := true, failRun := 0 } else { x with failRun := x.failRun + 1 })
  let s1 := { s with dict := { s.dict with authFails := s.dict.authFails + 1, authLogged := true } }
  if s.dict.authLogged then s1 else reportAt 0x3A01 0x0E path (pathAux 0 k) 0 s1

/-- The context a new session takes: the lowest that is closed and has no transaction COMMITTING, else the lowest that is closed (log 43). -/
def freeSession (s : State) : Option Nat :=
  match [1, 2, 3, 4].find? (fun n => !(s.session n).isOpen && (s.session n).txSt ≠ .committing) with
  | some n => some n
  | none => [1, 2, 3, 4].find? (fun n => !(s.session n).isOpen)

/-- A session opens for a path in context `n`; a transaction still COMMITTING there stays. -/
def openSession (path n : Nat) (c : Challenge) (s : State) : State :=
  let k := reqSlot c.request
  ((s.modSession n (fun x =>
    let x := if x.txSt = .committing then x else Session.reset
    { x with isOpen := true, path := path, slot := k, level := reqLevel c.request })).modPath path (fun p => { p with session := n })).modKey k
      (fun x => { x with failRun := 0 })

/-- PROVE (R643): the first case that applies decides; `late` says that more than CHAL_TIMEOUT has passed. The second component is the
abort of a refusal. -/
def prove (path : Nat) (late : Bool) (s : State) : State × Option Word :=
  match (s.path path).challenge with
  | none => (s, some abortState)
  | some c =>
    let void := s.modPath path (fun p => { p with challenge := none })
    let k := reqSlot c.request
    if (s.key k).locked then (void, some 0x06008A02#32)
    else if late || challengeLate s path || !proves s path c then (countFailure path k void, some 0x06008A05#32)
    else match (if sessionsFull s then none else freeSession s) with
      | none => (void, some 0x06008A04#32)
      | some n => (openSession path n c void, none)

/-- SESS_REQ_PROVE (R643): a refused PROVE keeps the effects its case names. -/
def execSessReqProve (path : Nat) (late : Bool) (ev : DictEv) (s0 : State) : Result :=
  if !s0.reaches path then ok s0 else
  let s := agentCheck path ev (touch path s0)
  match s.gateCheck path 0x2010 1 0 with
  | some code => ok (refuse path 0x2010 1 code s)
  | none =>
    if s.committing path then ok (refuse path 0x2010 1 abortState s) else
    match prove path late s with
    | (s1, some code) => ok (refuse path 0x2010 1 code s1)
    | (s1, none) => ok (accept path 0x2010 1 s1)

/-- SESS_REQ_CLOSE (R645). -/
def execSessReqClose (path : Nat) (s : State) : Result :=
  dictCommand path 0x2010 1 0 (fun s => need ((s.path path).session ≠ 0) abortState (.ok (closeSession (s.path path).session s))) s

/-- SESS_CMD_CLOSE (R645): a Factory session closes session `n`. -/
def execSessCmdClose (path n : Nat) (s : State) : Result :=
  dictCommand path (0x2010 + n) 3 3 (fun s => need (s.session n).isOpen abortState (.ok (closeSession n s))) s

/-- SESS_IDLE_TIMEOUT (R645): no access of the session's path has arrived for SESS_IDLE_TIMEOUT (log 9). -/
def execSessIdleTimeout (n : Nat) (s : State) : Result :=
  event (1 ≤ n && n ≤ 4 && (s.session n).isOpen && !s.dict.stopped) s (closeSession n s)

/-- KEY_LOCKOUT_END (R644): the 1 s lockout of a slot is over. -/
def execKeyLockoutEnd (k : Nat) (s : State) : Result :=
  event (k < 4 && (s.key k).locked) s (s.modKey k (fun x => { x with locked := false }))

/-! ### Key slots (R646-R648) -/

/-- Sessions opened with a slot close when it is rewritten or cleared (R645). -/
def closeByKey (k : Nat) (s : State) : State :=
  [1, 2, 3, 4].foldl (fun s n => if (s.session n).isOpen && (s.session n).slot = k then closeSession n s else s) s

/-- The level of a write of slot `k`'s entries (R647). -/
def keyLevel (s : State) : Nat := if s.power.keylockN && !factoryKey s then 0 else 3

/-- KEYLOCK_N is read continuously (R778): an access finds it as the pin stands. -/
def withKeylock (keylockN : Bool) (s : State) : State := s.modPower (fun p => { p with keylockN := keylockN })

/-- KEY_CMD SET: all eight KEY_DATA words have been written. -/
def keySet (k level : Nat) (s : State) : Except Word State :=
  let d := (s.key k).data
  let ws := (List.range 8).map (fun j => (Tab.get none d j).getD 0)
  if level = 0 then .error abortBelow
  else need s.power.keylockN abortKeyLock (need ((List.range 8).all (fun j => (Tab.get none d j).isSome)) abortState
    (.ok (closeByKey k (s.modKey k (fun x => { x with provisioned := true, level := level, key := ws, data := [], wear := x.wear + 1 })))))

/-- KEY_CMD CLEAR. -/
def keyClear (k : Nat) (s : State) : Except Word State :=
  need s.power.keylockN abortKeyLock
    (.ok (closeByKey k (s.modKey k (fun x => { x with provisioned := false, level := 0, key := [], data := [], wear := x.wear + 1 }))))

/-- KEY_DATA_j. -/
def keyData (k j : Nat) (v : Word) (s : State) : Except Word State :=
  need s.power.keylockN abortKeyLock (.ok (s.modKey k (fun x => { x with data := Tab.set none x.data j (some v) })))

/-- KEY_CMD_SET (R648). -/
def execKeyCmdSet (path k level : Nat) (keylockN : Bool) (s : State) : Result :=
  let s := withKeylock keylockN s
  dictCommand path (0x2020 + k) 0x0A (keyLevel s) (keySet k (level % 4)) s

/-- KEY_CMD_CLEAR (R648). -/
def execKeyCmdClear (path k : Nat) (keylockN : Bool) (s : State) : Result :=
  let s := withKeylock keylockN s
  dictCommand path (0x2020 + k) 0x0A (keyLevel s) (keyClear k) s

/-! ### Transactions (R649-R657) -/

/-- The session of a path. -/
def State.ownSession (s : State) (path : Nat) : Session := s.session (s.path path).session
def State.modOwnSession (s : State) (path : Nat) (g : Session → Session) : State := s.modSession (s.path path).session g

/-- BEGIN (R649, R665). -/
def txBegin (path : Nat) (s : State) : Except Word State :=
  let st := (s.ownSession path).txSt
  need (st ≠ .opened && st ≠ .committing) abortState
    (.ok (s.modOwnSession path (fun x => { x with txSt := .opened, txResult := .none, staged := [], failAt := 0, failCode := 0 })))

/-- WHEN as coded in TX_CMD. -/
def txWhenOf (w : Nat) : Option TxWhen :=
  match w with
  | 0 => some .next
  | 1 => some .atDc
  | 2 => some .atHeat
  | _ => none

/-- The port and slot that a TX_HEAT word names. -/
def txPort (w : Word) : Nat := (w.extractLsb' 4 3).toNat
def txSlot (w : Word) : Nat := (w.extractLsb' 0 1).toNat

/-- AT_HEAT fits the named slot (R653). -/
def heatFits (s : State) (x : Session) : Bool :=
  let h := s.heat (txPort x.txHeat) (txSlot x.txHeat)
  let e := s.settingN (heatIdx (txPort x.txHeat) (txSlot x.txHeat)) 6 % 2 ^ 48
  (h.st = .streaming || h.st = .held) && h.nextSend ≤ x.txHeatIndex.toNat && (e = 0 || x.txHeatIndex.toNat < e)

/-- COMMIT's checks and effect (R652, R653). -/
def txCommit (path w : Nat) (s : State) : Except Word State :=
  let x := s.ownSession path
  match txWhenOf w with
  | none => .error abortValue
  | some .next => go .next s
  | some .atDc => dcTimeFits s x.txAt (go .atDc s)
  | some .atHeat => need (heatFits s x) abortState (go .atHeat s)
where
  go (w : TxWhen) (s : State) : Except Word State :=
    need ((s.ownSession path).txSt = .opened) abortState
      (.ok (s.modOwnSession path (fun x => { x with txSt := .committing, txWhen := w })))

/-- TX_CMD_BEGIN (R649). -/
def execTxCmdBegin (path : Nat) (s : State) : Result := dictCommand path 0x2030 1 1 (txBegin path) s

/-- TX_CMD_COMMIT (R652). -/
def execTxCmdCommit (path w : Nat) (s : State) : Result := dictCommand path 0x2030 1 1 (txCommit path w) s

/-- ROLLBACK's effect: the staged writes are discarded (R657). -/
def txRollback (path : Nat) (s : State) : Except Word State :=
  let n := (s.path path).session
  let clean := s.modSession n (fun x => { x with staged := [] })
  match (s.session n).txSt with
  | .opened => .ok (clean.modSession n (fun x => { x with txSt := .rolledBack, txResult := .rollback }))
  | .committing => .ok (txLeaves n .rolledBack .rollback clean)
  | _ => .error abortState

/-- TX_CMD_ROLLBACK (R657): alone of a session's writes it is accepted while the transaction is COMMITTING. -/
def execTxCmdRollback (path : Nat) (s0 : State) : Result :=
  if !s0.reaches path then ok s0 else
  let s := touch path s0
  match s.gateCheck path 0x2030 1 1 with
  | some code => ok (refuse path 0x2030 1 code s)
  | none => match txRollback path s with
    | .error code => ok (refuse path 0x2030 1 code s)
    | .ok s1 => ok (accept path 0x2030 1 s1)

end Sys2Proof.Machine
end

