-- ==== Sys2Proof/Machine/DictApply.lean ====
section
/-! DEFINITION. What a write of an entry does once its value has passed check 6: the object its window names (R629), the checks of its own
rules (checks 7 to 9 of R625), and its effect. The same operation serves direct writes, staged writes at their commit tick, and records. -/

namespace Sys2Proof.Machine

/-- The object a window's selector names for a path, 0 for an entry of its own (R629). -/
def windowObj (s : State) (path idx : Nat) : Nat :=
  if idx = 0x3211 then queueSelected s path
  else if idx = 0x3310 then selThread s path
  else if idx = 0x2410 then s.selector path 0x2410 0 % 2 ^ 16
  else if idx = 0x2610 then dmaSelected s path
  else if 0x3500 ≤ idx && idx < 0x35C0 && idx % 32 = 1 then selLane s path ((idx - 0x3500) / 32)
  else 0

/-- The entries held once for each path: selectors and LOG_SEEN (R629, R687). -/
def perPathEntry (idx sub : Nat) : Bool :=
  (sub = 0 && (idx = 0x3210 || idx = 0x3310 || idx = 0x3320 || idx = 0x3330 || idx = 0x3040 || idx = 0x2610 || idx = 0x2410 || idx = 0x2420 ||
      idx = 0x2303)) ||
    (idx = 0x2400 && (sub = 3 || sub = 0x13)) || (0x4000 ≤ idx && idx < 0x4048 && sub = 0x30) || (0x4100 ≤ idx && idx < 0x4148 && sub = 5) ||
    (0x3500 ≤ idx && idx < 0x35C0 && idx % 32 = 1 && sub = 1) ||
    (0x3100 ≤ idx && idx < 0x3180 && ((idx % 16 = 1 && sub = 1) || (idx % 16 = 2 && (sub = 1 || sub = 5 || sub = 8)) || (idx % 16 = 3 && sub = 3)))

/-- The flask that an index belongs to, for the writes that a recast or a partial load refuses (R132, R612). -/
def flaskOfIndex (idx : Nat) : Option Nat :=
  if 0x4000 ≤ idx && idx < 0x4048 then some (idx - 0x4000)
  else if 0x4100 ≤ idx && idx < 0x4148 then some (idx - 0x4100)
  else none

/-- Writes of a flask's stored entries: SEQ_CFG leaving dispatch cuts the FIFO (R103); a watch register moves its watch (R98, R244). -/
def flaskApply (p sub : Nat) (v : DWord) (s : State) : State :=
  let old := s.settingW (0x4000 + p) sub
  let new := v.setWidth 32
  let s1 := s.putSetting (0x4000 + p) sub v
  if sub = 2 then (if seqBase old = 2 && seqBase new ≠ 2 then cutFifo p s1 else s1)
  else if 7 ≤ sub && sub ≤ 10 then
    let i := sub - 7
    let q (w : Word) : Nat := w.toNat % 2 ^ 18
    let node := s.flaskNode p
    let s2 := if old.getLsbD 31 then s1.request node tundishNode 0 0 (.watchSet (q old) i false) else s1
    let s3 := s2.modFlask p (fun f => { f with watchNe := Tab.set false f.watchNe i false })
    if new.getLsbD 31 then s3.request node tundishNode 0 0 (.watchSet (q new) i true) else s3
  else s1

/-- CTX_CMD, taken apart (R140). -/
def ctxCmdApply (p : Nat) (v : Word) (s : State) : Except Word State :=
  let n := (v.extractLsb' 0 4).toNat
  match (v.extractLsb' 28 4).toNat with
  | 1 => ctxCmdFill p (v.extractLsb' 16 8).toNat n s
  | 2 => ctxCmdSpill p n s
  | 3 => ctxCmdPin p n true s
  | 4 => ctxCmdPin p n false s
  | 5 => ctxCmdEvict p n s
  | _ => .error abortValue

/-- CRU_CMD, taken apart (R194). -/
def cruCmdApply (p : Nat) (v : Word) (s : State) : Except Word State :=
  match (v.extractLsb' 28 4).toNat with
  | 1 => cruCmdRun p (v.getLsbD 16) (v.extractLsb' 0 12).toNat s
  | 2 => cruCmdHalt p s
  | 3 => cruCmdStep p .clean s
  | 4 => cruCmdClearPorts p s
  | _ => .error abortValue

/-- The transaction entries of the path's session (R664). -/
def txEntryApply (path sub : Nat) (v : DWord) (s : State) : State :=
  s.modOwnSession path (fun x => match sub with
    | 3 => { x with txAt := v }
    | 5 => { x with txHeat := v.setWidth 32 }
    | 6 => { x with txHeatIndex := v }
    | _ => x)

/-- Writes of the management entries. -/
def mgmtApply (path obj idx sub : Nat) (v : DWord) (s : State) : Except Word State :=
  let w : Word := v.setWidth 32
  let store : Except Word State := .ok (s.putSetting idx sub v)
  if idx < 0x2000 then need (s.ecat.al = .preop) abortState store
  else if 0x2210 ≤ idx && idx < 0x2214 then
    (if sub = 4 then msCmdApply (idx - 0x2210) w s else msOffset (idx - 0x2210) w s)
  else if keyEntry idx then keyData (idx - 0x2020) (sub - 2) w s
  else match idx, sub with
    | 0x2010, _ => .ok (s.modPath path (fun p => { p with resp := Tab.set 0 p.resp (sub - 0x0A) w }))
    | 0x2030, _ => .ok (txEntryApply path sub v s)
    | 0x2111, 1 => pwrCmdApply w s
    | 0x2120, 1 => rstCmdApply w s
    | 0x2130, 1 => holdCmdApply w s
    | 0x2200, 2 => ldCmdApply w s
    | 0x2200, 0x0A => .ok (bootOrderApply w s)
    | 0x2300, 2 => chillCmdApply w s
    | 0x2301, 1 => .ok (bankInfoApply false w s)
    | 0x2302, 1 => .ok (bankInfoApply true w s)
    | 0x2400, 0x0C => logAck w s
    | 0x2410, 1 => need (policyFits obj w) abortValue (.ok (s.putSettingOf obj idx sub v))
    | 0x2610, _ => dmaApply obj sub w s
    | _, _ => if 0x2500 ≤ idx && idx < 0x2600 then pinApply idx sub v s else store

/-- A regulator's entry: a bucket keeps its level, capped at a new BURST (R400, R415). -/
def regulatorApply (i sub : Nat) (v : DWord) (s : State) : State :=
  let old := s.settingN (0x3080 + i) sub
  let new := v.toNat
  let s := s.putSetting (0x3080 + i) sub v
  if sub % 4 = 2 then
    s.modGate i (fun g => { g with spent := Tab.modify 0 g.spent (sub / 4) (fun d => new * 1600 - min (old * 1600 - d) (new * 1600)) })
  else s

/-- Writes of the entries of the core: network, catch, tundish, Cupola, ladle cores, ports. -/
def coreApply (path obj idx sub : Nat) (v : DWord) (s : State) : Except Word State :=
  let w : Word := v.setWidth 32
  let store : Except Word State := .ok (s.putSetting idx sub v)
  if 0x3100 ≤ idx && idx < 0x3180 then chanApply path ((idx - 0x3100) / 16) (idx % 16) sub v s
  else if 0x3180 ≤ idx && idx < 0x3190 then (if sub = 1 then mapCfgApply (idx - 0x3180) w s else mapApply (idx - 0x3180) sub w s)
  else if 0x3500 ≤ idx && idx < 0x35C0 then
    (if idx % 32 = 0 && sub = 2 then linkCmdApply ((idx - 0x3500) / 32) w s
     else if idx % 32 = 1 then .ok (s.putSettingOf obj idx sub v) else store)
  else if 0x35C0 ≤ idx && idx < 0x35CC then
    (let n := (idx - 0x35C0) / 2
     let sl := idx % 2
     if sub = 2 then heatCmdApply n sl w s else heatApply n sl sub v s)
  else if 0x3080 ≤ idx && idx < 0x30E0 then .ok (regulatorApply (idx - 0x3080) sub v s)
  else if 0x3000 ≤ idx && idx < 0x300C then need (idx < 0x300B) abortState (.ok (stageApply (idx - 0x3000) (sub - 0x20) w s))
  else match idx, sub with
    | 0x3211, 1 => qcfgApply obj w s
    | 0x3211, 2 => budgetApply obj w s
    | 0x3211, 4 => idleWordApply obj w s
    | 0x3211, 5 => flushQueue obj w s
    | 0x3200, 7 => deepBaseApply v s
    | 0x3200, 9 => deepBlocksApply w s
    | 0x3310, _ => threadApply obj sub w s
    | 0x3301, _ => ringApply sub w s
    | 0x3191, _ => catchApply idx sub v s
    | 0x3192, _ => catchApply idx sub v s
    | _, _ => store

/-- Writes of the entries of flasks, crucibles and the recast map. -/
def fabricApply (path idx sub : Nat) (v : DWord) (s : State) : Except Word State :=
  let w : Word := v.setWidth 32
  let store : Except Word State := .ok (s.putSetting idx sub v)
  if idx = 0x4200 then (if sub = 0x41 then recastCmdApply w s else store)
  else if idx < 0x4100 then
    (let p := idx - 0x4000
     if sub = 5 then ctxCmdApply p w s else if sub = 0x33 then ctxStatusClr path p w s else .ok (flaskApply p sub v s))
  else
    (let p := idx - 0x4100
     match sub with
     | 4 => cruCmdApply p w s
     | 7 => cruWinWrite path p w s
     | 8 => cruStickyClear p w s
     | _ => store)

/-- The effect of a write on object `obj`, after check 6; `v` has its reserved bits dropped. -/
def applyEntry (path obj idx sub : Nat) (v : DWord) (s : State) : Except Word State :=
  need ((flaskOfIndex idx).all (fun p => !recastHolds s p)) abortState
    (if perPathEntry idx sub then .ok (s.putSelector path idx sub v)
     else if idx < 0x3000 then mgmtApply path obj idx sub v s
     else if idx < 0x4000 then coreApply path obj idx sub v s
     else if idx < 0x6000 then fabricApply path idx sub v s
     else .ok (s.putSetting idx sub v))

/-- Check 7 of a staged write: the entry-specific checks that depend on the value and its object alone (R650, R694). -/
def staticBad (obj idx sub : Nat) (v : DWord) : Option Word :=
  if idx = 0x2410 && sub = 1 && !policyFits obj (v.setWidth 32) then some abortValue
  else if idx = 0x2410 && sub = 0 && !errorCodes.contains (v.toNat % 2 ^ 16) then some abortValue else none

/-! ### The commit tick (R652-R656) -/

/-- The check and effect of a staged write at the tick: the block is powered, then as any write. -/
def applyStaged (path : Nat) (w : Staged) (s : State) : Except Word State :=
  match applyEntry path w.obj w.idx w.sub w.value s with
  | .error code => .error code
  | .ok s' => need (s.entryUp w.idx) abortState (.ok s')

/-- All the writes of a transaction in order, or the first that fails with its abort (R655). -/
def applyAll (path : Nat) : List Staged → State → Except (Staged × Word) State
  | [], s => .ok s
  | w :: ws, s => match applyStaged path w s with
    | .error code => .error (w, code)
    | .ok s' => applyAll path ws s'

/-- The transaction of session `n` is due at this tick (R652). -/
def txDue (s : State) (n : Nat) : Bool :=
  let x := s.session n
  x.txSt = .committing && (match x.txWhen with
    | .next => true
    | .atDc => s.dcRunning && decide (x.txAt.toNat ≤ s.dcTime.toNat)
    | .atHeat => decide ((s.heat (txPort x.txHeat) (txSlot x.txHeat)).nextSend = x.txHeatIndex.toNat))

/-- The transaction of session `n` meets its tick: all of it applies, or none. -/
def txTick (n : Nat) (s : State) : State :=
  let x := s.session n
  let stamp (s : State) : State := s.modSession n (fun x => { x with staged := [], tickDc := s.dcRunning, appliedTick := s.now })
  match applyAll x.path x.staged s with
  | .ok s' => txLeaves n .committed .ok (stamp s')
  | .error (w, code) =>
    (txLeaves n .failed .check (stamp s)).modSession n (fun x =>
      { x with failAt := BitVec.ofNat 32 (w.idx * 256 + w.sub), failCode := code })

/-- TX_COMMIT_TICK (R655, R656): the transactions due at a tick, in ascending session number; a word of staging found uncorrectable first
discards its transaction (R659). -/
def execTxCommitTick (ev : DictEv) (s : State) : Result :=
  let s1 := agentCheck 0 ev s
  event (s.tickFree && !s.dict.stopped && [1, 2, 3, 4].any (fun n => txDue s n)) s
    ([1, 2, 3, 4].foldl (fun s n => if txDue s n then txTick n s else s) s1)

end Sys2Proof.Machine
end

