-- ==== Sys2Proof/Machine/DictRead.lean ====
section
/-! DEFINITION. What each entry of the dictionary reads as, and what its read clears (R12, R132, R621-R638, R660-R665). -/

namespace Sys2Proof.Machine

/-! ### Flasks and crucibles (R137-R141, R189-R192) -/

/-- Code of ROLE (R137). -/
def roleCode (r : Role) : Nat :=
  match r with
  | .off => 0
  | .active => 1
  | .spareIdle => 2
  | .recastSource => 3
  | .recastTarget => 4
  | .retired => 5
  | .stopped => 6

/-- FLASK_STATUS (R137): RUN_SLOT and NO_SLOT are those of the flask's most recent cycle, in which none runs while it is held still; those of a
recast target are the source's, its ROLE is its own (R132, log 44). -/
def flaskStatus (s : State) (p : Nat) : Nat :=
  let f := s.flask p
  let y := (s.flask (s.readFlaskOf p)).cyc
  let run := (s.flask (s.readFlaskOf p)).cur
  if !s.domOn p then 0 else
  roleCode f.role * 2 ^ 28 + (if f.role = .active || f.role = .recastSource || f.role = .recastTarget then f.logical * 2 ^ 16 else 0) +
    (if y.on then run % 16 * 2 ^ 12 else 1)

/-- CTX_CMD_STATUS. -/
def ctxCmdStatus (f : Flask) : Nat := (if f.engOp = .idle && f.eng.isEmpty then 0 else 2 ^ 31) + f.cmdResult.toNat

/-- SLOT_n (R139). -/
def slotWord (x : Slot) : Nat :=
  let b (c : Bool) (k : Nat) : Nat := if c then 2 ^ k else 0
  x.ctxId * 2 ^ 24 + (match x.st with
    | .empty => 0
    | .resident => 1
    | .filling => 2
    | .spilling => 3) * 2 ^ 18 + b x.pin 17 + b x.dirty 16 + b x.faulted 15

/-- CRU_STATUS (R192). -/
def cruStatus (c : Cru) : Nat :=
  (match c.st with
   | .halted => 0
   | .running => 1
   | .error => 2
   | .stopped => 3) * 2 ^ 30 + c.cause.toNat * 2 ^ 26 + (if c.stall then 2 ^ 25 else 0) + c.pc % 4096

/-- CRU_STICKY: the bits of ST that it clears, and HLIM_HIT (R148, R189). -/
def cruSticky (c : Cru) : Word :=
  ((c.status >>> 20) &&& 0xF#32) ||| ((c.status >>> 12) &&& 0xF0#32) ||| ((c.status >>> 7) &&& 0x100#32) ||| (if c.hlimHit then 0x200#32 else 0)

/-- The index whose entries a read of `idx` gives: while a recast is under way the target's entries, its windows' selectors among them, read as
the source's (R132). -/
def readIndex (s : State) (idx : Nat) : Nat :=
  if 0x4000 ≤ idx && idx < 0x4048 then 0x4000 + s.readFlaskOf (idx - 0x4000)
  else if 0x4100 ≤ idx && idx < 0x4148 then 0x4100 + s.readFlaskOf (idx - 0x4100)
  else idx

/-- The present status bits of the context a path's window selects, in its slot or in its record: what a read of CTX_STATUS_CLR gives (R12, R135). -/
def ctxStatusRead (s : State) (path p : Nat) : DWord := (s.windowWord p (winCtx s path p) 139 &&& statusBits).setWidth 64

/-- Live entries of flask `p` and its crucible, and of the recast map. -/
def fabricRead (s : State) (path idx sub : Nat) : Option DWord :=
  let v (x : Nat) : Option DWord := some (BitVec.ofNat 64 x)
  let w (x : Word) : Option DWord := some (x.setWidth 64)
  if idx = 0x4200 then recastRead s sub
  else if idx < 0x4100 then
    let p := s.readFlaskOf (idx - 0x4000)
    let f := s.flask p
    match sub with
    | 1 => v (flaskStatus s (idx - 0x4000))
    | 6 => v (ctxCmdStatus f)
    | 0x31 => some (ctxWinData s path (idx - 0x4000))
    | 0x33 => some (ctxStatusRead s path p)
    | 0x38 => some f.idleCycles
    | 0x3A => w f.switches
    | 0x3B => w f.fills
    | 0x3C => w f.spills
    | 0x3D => w f.irqBlocked
    | _ => if 0x10 ≤ sub && sub < 0x20 then v (slotWord (f.slot (sub - 0x10)))
      else if sub = 0x30 then none else some (s.setting (0x4000 + p) sub)
  else
    let p := s.readFlaskOf (idx - 0x4100)
    let c := s.cru p
    match sub with
    | 1 => v (cruStatus c)
    | 8 => w (cruSticky c)
    | 9 => some c.cycles
    | 0x0B => w c.stalls
    | 5 => none
    | _ => some (s.setting (0x4100 + p) sub)

/-- Reads of flasks and crucibles that clear. -/
def fabricReadClear (idx sub : Nat) (s : State) : State :=
  if idx < 0x4100 then
    s.modFlask (s.readFlaskOf (idx - 0x4000)) (fun f => match sub with
      | 0x38 => { f with idleCycles := 0 }
      | 0x3A => { f with switches := 0 }
      | 0x3B => { f with fills := 0 }
      | 0x3C => { f with spills := 0 }
      | 0x3D => { f with irqBlocked := 0 }
      | _ => f)
  else if idx < 0x4200 then
    s.modCru (s.readFlaskOf (idx - 0x4100)) (fun c => match sub with
      | 9 => { c with cycles := 0 }
      | 0x0B => { c with stalls := 0 }
      | _ => c)
  else s

/-! ### The agent's own entries (R637, R660-R665) -/

/-- TX_STATUS (R665). -/
def txStatus (x : Session) : Nat :=
  txStCode x.txSt * 2 ^ 29 + txResultCode x.txResult * 2 ^ 24 + (if x.tickDc then 2 ^ 23 else 0) + x.staged.length % 2048

/-- PATH_SESSION (R637). -/
def pathSession (s : State) (path : Nat) : Nat :=
  let n := (s.path path).session
  if n = 0 then 0 else 2 ^ 31 + n * 2 ^ 16 + (s.session n).slot * 2 ^ 8 + (s.session n).level

/-- SESS_STATE and SESS_IDLE of session `n` (R662). -/
def sessState (x : Session) : Nat := if x.isOpen then 2 ^ 31 + x.path % 128 * 2 ^ 16 + x.slot * 2 ^ 8 + x.level else 0
def sessIdle (s : State) (n : Nat) : Nat :=
  if (s.session n).isOpen then (s.power.pour - (s.path (s.session n).path).lastAccess).toNat / msTicks else 0

/-- KEY_INFO (R663). -/
def keyInfo (k : KeySlot) : Nat :=
  (if k.provisioned then 2 ^ 31 else 0) + (if k.locked then 2 ^ 30 else 0) + k.level * 2 ^ 8 + k.failRun % 256

/-- Entries of the agent, and the standard CoE objects (R638). -/
def agentRead (s : State) (path idx sub : Nat) : Option DWord :=
  let v (x : Nat) : Option DWord := some (BitVec.ofNat 64 x)
  let w (x : Word) : Option DWord := some (x.setWidth 64)
  let x := s.ownSession path
  match idx, sub with
  | 0x1001, 0 => v (errorRegister s)
  | 0x1018, 1 => v 0x0A7D
  | 0x1018, 2 => v 0x4096
  | 0x1018, 3 => w Config.siliconRev
  | 0x1018, 4 => some (Config.serial &&& 0xFFFFFFFF)
  | 0x2000, 2 => w Config.siliconRev
  | 0x2000, 3 => some Config.serial
  | 0x2001, 1 => w (s.path path).abort
  | 0x2001, 2 => w (s.path path).abortAt
  | 0x2001, 3 => w (s.path path).refused
  | 0x2001, 4 => v path
  | 0x2001, 5 => v (pathSession s path)
  | 0x2018, 3 => w s.dict.authFails
  | 0x2030, 2 => v (txStatus x)
  | 0x2030, 3 => some x.txAt
  | 0x2030, 5 => w x.txHeat
  | 0x2030, 6 => some x.txHeatIndex
  | 0x2030, 8 => w x.failAt
  | 0x2030, 9 => w x.failCode
  | 0x2030, 0x0A => some x.appliedTick
  | 0x2030, 0x0C => w s.dict.txLast
  | _, _ =>
    if idx = 0x2010 then w (match (s.path path).challenge with
      | some c => c.words.getD (sub - 2) 0
      | none => 0)
    else if 0x2011 ≤ idx && idx ≤ 0x2014 then v (if sub = 1 then sessState (s.session (idx - 0x2010)) else sessIdle s (idx - 0x2010))
    else if keyEntry idx then (if sub = 1 then v (keyInfo (s.key (idx - 0x2020))) else w (s.key (idx - 0x2020)).wear)
    else if idx = 0x1C00 then v (match sub with
      | 1 => 1
      | 2 => 2
      | 3 => 3
      | 4 => 4
      | _ => 0)
    else none

/-- Reads of the agent's entries that clear. -/
def agentReadClear (path idx sub : Nat) (s : State) : State :=
  match idx, sub with
  | 0x2001, 1 => s.modPath path (fun p => { p with abort := 0 })
  | 0x2001, 2 => s.modPath path (fun p => { p with abortAt := 0 })
  | 0x2001, 3 => s.modPath path (fun p => { p with refused := 0 })
  | 0x2018, 3 => { s with dict := { s.dict with authFails := 0, authLogged := false } }
  | _, _ => s

/-! ### Any entry -/

/-- THROTTLED_c of initiator `i` (R415). -/
def throttledRead (s : State) (i sub : Nat) : Option DWord :=
  if sub % 4 = 3 then some ((Tab.get 0 (s.gate i).throttled (sub / 4)).setWidth 64) else none

/-- The initiator that a path's STAT_SELECT names. -/
def selStat (s : State) (path : Nat) : Nat := s.selector path 0x3040 0 % 128

/-- Live entries of the core's blocks. -/
def coreRead (s : State) (path idx sub : Nat) : Option DWord :=
  if idx < 0x3011 then routerRead s idx sub
  else if idx = 0x3040 then (if sub = 0 then none else gateRead (s.gate (selStat s path)) sub)
  else if 0x3080 ≤ idx && idx < 0x30E0 then throttledRead s (idx - 0x3080) sub
  else if 0x3100 ≤ idx && idx < 0x3200 then catchReadEntry s path idx sub
  else if idx = 0x3200 then (if sub = 7 || sub = 9 || (0x10 ≤ sub && sub ≤ 0x12) then none else some (tunRead s sub))
  else if idx = 0x3211 then some (queueRead s (queueSelected s path) sub)
  else if 0x3300 ≤ idx && idx < 0x3400 then cupReadEntry s path idx sub
  else if 0x3400 ≤ idx && idx < 0x3500 then lcReadEntry s idx sub
  else if 0x3500 ≤ idx && idx < 0x35C0 then
    (let n := (idx - 0x3500) / 32
     let i := idx % 32
     if i = 1 && sub = 3 then some (s.settingOf (selLane s path n) idx 3) else linkRead s path n i sub)
  else if 0x35C0 ≤ idx && idx < 0x35CC then heatRead s ((idx - 0x35C0) / 2) (idx % 2) sub
  else none

/-- Live entries of the management blocks. -/
def mgmtRead (s : State) (path idx sub : Nat) : Option DWord :=
  if idx < 0x2100 then agentRead s path idx sub
  else if idx < 0x2200 then powerRead s idx sub
  else if idx < 0x2300 then loaderRead s idx sub
  else if idx = 0x2410 then (if sub = 1 then some (s.settingOf (windowObj s path 0x2410) 0x2410 1) else none)
  else if idx < 0x2500 then logRead s path idx sub
  else if idx < 0x2600 then pinRead s idx sub
  else if idx < 0x3000 then pcieRead s path idx sub
  else none

/-- Process data inputs (R724). -/
def pdoRead (s : State) (idx sub : Nat) : Option DWord :=
  if idx = 0x6800 && sub = 0x11 then some (BitVec.ofNat 64 (errorRegister s))
  else if idx = 0x6800 && sub = 0x12 then some (s.chill.head.setWidth 64)
  else none

/-- The value an entry of at most 64 bits reads as for a path: a live value, the path's own, or what is stored; subindex 0 of an index gives
its highest subindex (R624). -/
def readEntry (s : State) (path idx sub : Nat) : DWord :=
  if sub = 0 && (findEntry idx 0).isNone then BitVec.ofNat 64 (highestSub idx)
  else if perPathEntry idx sub then BitVec.ofNat 64 (s.selector path (readIndex s idx) sub)
  else
    let live := if idx < 0x3000 then mgmtRead s path idx sub
      else if idx < 0x4000 then coreRead s path idx sub
      else if idx < 0x6000 then fabricRead s path idx sub
      else pdoRead s idx sub
    match live with
    | some v => v
    | none => s.setting idx sub

/-- A read of an RC entry clears it (R12). -/
def readClears (path idx sub : Nat) (s : State) : State :=
  if idx < 0x2100 then agentReadClear path idx sub s
  else if idx < 0x2200 then powerReadClear idx sub s
  else if idx < 0x2300 then loaderReadClear idx sub s
  else if idx < 0x2500 then logReadClear idx sub s
  else if idx < 0x2600 then pinReadClear idx sub s
  else if idx < 0x3000 then pcieReadClear path idx sub s
  else if idx < 0x3011 then routerReadClear idx sub s
  else if idx = 0x3040 then gateReadClear (selStat s path) sub s
  else if 0x3080 ≤ idx && idx < 0x30E0 then s.modGate (idx - 0x3080) (fun g => { g with throttled := Tab.set 0 g.throttled (sub / 4) 0 })
  else if 0x3100 ≤ idx && idx < 0x3200 then catchReadClear idx sub s
  else if idx = 0x3200 then s.modTun (tunReadClear sub)
  else if 0x3300 ≤ idx && idx < 0x3400 then cupReadClear idx sub s
  else if 0x3400 ≤ idx && idx < 0x3500 then lcReadClear idx sub s
  else if 0x3500 ≤ idx && idx < 0x35C0 then linkReadClear path ((idx - 0x3500) / 32) (idx % 32) sub s
  else if 0x35C0 ≤ idx && idx < 0x35CC then heatReadClear ((idx - 0x35C0) / 2) (idx % 2) sub s
  else if 0x4000 ≤ idx && idx < 0x4200 then fabricReadClear idx sub s
  else s

/-- A word of the log, of a bank or of a record that a read needs is found bad (R703): corrected, or the object is marked. -/
def logSpoiled (path idx sub : Nat) (ecc : Ecc) (s : State) : State :=
  let inLog : Bool := idx = 0x2400 && 4 ≤ sub && sub ≤ 0x0B
  let inBank : Bool := idx = 0x2303 && sub = 1 && (s.bank (decide (2 ^ 31 ≤ s.selector path 0x2303 0))).held
  let inRec : Bool := idx = 0x2420 && 1 ≤ sub && sub ≤ 3
  if !(inLog || inBank || inRec) then s else
  match ecc with
  | .ok => s
  | .corrected => reportAt 0x1A02 0 0 0 0 s
  | .uncorrectable =>
    let s := reportAt 0x3A04 0 0 0 0 s
    if inLog then
      let q : Word := BitVec.ofNat 32 (s.selector path 0x2400 3)
      s.modChill (fun c => { c with ring := c.ring.map (fun x => if x.seq = q then { x with damaged := true } else x) })
    else if inBank then s.modBank (decide (2 ^ 31 ≤ s.selector path 0x2303 0)) (fun x => { x with damaged := true })
    else s.modChill (fun c => { c with recs := Tab.modify RecSlot.reset c.recs (s.selector path 0x2420 0 % 32) (fun r => { r with st := .failed }) })

/-- A read of an entry of at most 64 bits: its value, and the state after it (R12, R677). -/
def readValue (path idx sub : Nat) (ecc : Ecc) (s : State) : Except Word (DWord × State) :=
  if 0x4100 ≤ idx && idx < 0x4148 && sub = 6 then cruWinAny path (idx - 0x4100) ecc s
  else if idx = 0x2303 && sub = 1 then
    (match chillWindow s path with
     | .error code => .error code
     | .ok v => .ok (v, s))
  else .ok (readEntry s path idx sub, match findEntry idx sub with
      | some r => if r.acc = .rc then readClears path idx sub s else s
      | none => s)

/-! ### Strings and DOMAINs -/

/-- The bytes of ASCII characters. -/
def ascii (cs : List Nat) : List Byte := cs.map (BitVec.ofNat 8)

/-- Eight hexadecimal digits (log 44). -/
def hexDigits (w : Word) : List Byte :=
  (List.range 8).map (fun i =>
    let d := (w >>> (28 - 4 * i)).toNat % 16
    BitVec.ofNat 8 (if d < 10 then 48 + d else 55 + d))

/-- Entries that are strings or DOMAINs (R635). -/
def isString (r : EntryRow) : Bool := r.bits = 0

/-- The bytes that a read of a string or DOMAIN finds, with the state after it; a path on a bus moves four of them (R635). -/
def readString (path idx sub : Nat) (s : State) : Except Word (List Byte × State) :=
  if idx = 0x1008 then .ok (ascii [82, 89, 45, 52, 48, 57, 54], s)
  else if idx = 0x1009 then .ok (Config.hardwareVersion, s)
  else if idx = 0x100A then .ok (match s.loader.fullVersion with
    | none => ascii [110, 111, 110, 101]
    | some v => hexDigits v, s)
  else if idx = 0x2000 then .ok (ascii [82, 89, 45, 52, 48, 57, 54, 45, 70, 53, 53], s)
  else if 0x2210 ≤ idx && idx < 0x2214 then
    (match msRead s (idx - 0x2210) with
     | .error code => .error code
     | .ok ws => .ok (ws.flatMap leBytes, s))
  else if 0x2588 ≤ idx && idx < 0x258A then .ok (uartRead path (idx - 0x2588) s)
  else if 0x2580 ≤ idx && idx < 0x2588 && sub = 4 then .ok ((s.periph (idx - 0x2580)).rx, s)
  else .ok ([], s)

/-- Entries whose own rules place their bytes: the mould store's through MS_OFFSET, and the FIFOs of a UART (R585, R635, R744). -/
def placesBytes (idx : Nat) : Bool := (0x2210 ≤ idx && idx < 0x2214) || (0x2588 ≤ idx && idx < 0x258A)

end Sys2Proof.Machine
end

