-- ==== Sys2Proof/Machine/Dict.lean ====
section
/-! DEFINITION. The accesses themselves: writes and reads over the mirror and the runner window, SDO transfers, and the SDO information
services (R621-R638). -/

namespace Sys2Proof.Machine

/-! ### Writes -/

/-- The commands of the dictionary that have a meaning of their own, by the command code of the word written; any other code is undefined
and refused (R802). -/
def ownCommand (path idx sub : Nat) (v : Word) : Option (State → Result) :=
  let c := v.toNat / 2 ^ 28
  let bad (level : Nat) : Option (State → Result) := some (dictCommand path idx sub level (fun _ => .error abortValue))
  if idx = 0x2010 && sub = 1 then
    (match c with
     | 1 => some (execSessReqRequest path v)
     | 2 => some (execSessReqProve path false .clean)
     | 3 => some (execSessReqClose path)
     | _ => bad 0)
  else if 0x2011 ≤ idx && idx ≤ 0x2014 && sub = 3 then (if c = 3 then some (execSessCmdClose path (idx - 0x2010)) else bad 3)
  else if keyEntry idx && sub = 0x0A then
    (match c with
     | 1 => some (fun s => execKeyCmdSet path (idx - 0x2020) (v.toNat % 4) s.power.keylockN s)
     | 2 => some (fun s => execKeyCmdClear path (idx - 0x2020) s.power.keylockN s)
     | _ => some (fun s => dictCommand path idx sub (keyLevel s) (fun _ => .error abortValue) s))
  else if idx = 0x2030 && sub = 1 then
    (match c with
     | 1 => some (execTxCmdBegin path)
     | 2 => some (execTxCmdCommit path (v.toNat / 2 ^ 26 % 4))
     | 3 => some (execTxCmdRollback path)
     | _ => bad 1)
  else if 0x2580 ≤ idx && idx < 0x2584 && sub = 3 then
    (if c = 1 then some (execI2cXfer path (idx - 0x2580) (v.toNat / 2 ^ 16 % 128) (v.toNat / 2 ^ 8 % 256) (v.toNat % 256)) else bad 1)
  else if 0x2584 ≤ idx && idx < 0x2588 && sub = 3 then (if c = 1 then some (execSpiXfer path (idx - 0x2584) (v.toNat % 512)) else bad 1)
  else if 0x3000 ≤ idx && idx < 0x300C && sub = 2 then
    (match c with
     | 1 => some (execRtrCmdApply path (idx - 0x3000))
     | 2 => some (execRtrCmdDiscard path (idx - 0x3000))
     | _ => bad 3)
  else if 0x3100 ≤ idx && idx < 0x3180 && idx % 16 = 0 && sub = 3 then
    (let n := (idx - 0x3100) / 16
     match c with
     | 1 => some (execChCmdOnline path n)
     | 2 => some (execChCmdOffline path n)
     | 3 => some (execChCmdGather path n)
     | 4 => some (execChCmdRunInj path n)
     | 5 => some (execChCmdSweep path n)
     | 6 => some (if v.getLsbD 0 then execChCmdEndGatherFail path n else execChCmdEndGatherAccept path n)
     | 7 => some (execChCmdSaveDelays path n)
     | 8 => some (execChCmdAbortRun path n [])
     | _ => bad 2)
  else if idx = 0x3190 && sub = 1 then
    (match c with
     | 1 => some (execEvacCmdStart path (v.toNat % 16) (v.toNat / 2 ^ 8 % 16))
     | 2 => some (execEvacCmdCancel path)
     | _ => bad 2)
  else if idx = 0x3191 && sub = 5 then
    (match c with
     | 1 => some (execZeroCmdStart path)
     | 2 => some (execZeroCmdCancel path)
     | _ => bad 2)
  else if idx = 0x3310 && sub = 4 then
    (match c with
     | 1 => some (execTCmdCreate path)
     | 2 => some (execTCmdCancel path)
     | 3 => some (execTCmdRestart path)
     | 4 => some (execTCmdRelease path)
     | _ => bad 2)
  else if 0x3400 ≤ idx && idx < 0x3408 && sub = 3 then
    (let n := idx - 0x3400
     match c with
     | 1 => some (execLcCmdPark path n)
     | 2 => some (execLcCmdJoin path n)
     | 3 => some (execLcCmdReload path n (v.getLsbD 0))
     | 4 => some (execLcCmdRestart path n (v.getLsbD 0))
     | _ => bad 2)
  else none

/-- A staged write joins the session's transaction (R650, R651). -/
def stageWrite (path obj idx sub : Nat) (v : DWord) (s : State) : State :=
  let n := (s.path path).session
  if 1024 ≤ (s.session n).staged.length then refuse path idx sub abortStaged s
  else accept path idx sub (s.modSession n (fun x => { x with staged := x.staged ++ [{ obj := obj, idx := idx, sub := sub, value := v }] }))

/-- A write of a value to an entry, with checks 5 to 9 (R625): staged in an open transaction if the entry is transactable, applied otherwise. -/
def writeChecked (path idx sub : Nat) (r : EntryRow) (v : DWord) (s : State) : State :=
  match valueBad idx sub r.bits v with
  | some code => refuse path idx sub code s
  | none =>
    let v := v &&& entryMask idx sub
    let obj := windowObj s path idx
    match staticBad obj idx sub v with
    | some code => refuse path idx sub code s
    | none =>
      if keyEntry idx && !s.power.keylockN then refuse path idx sub abortKeyLock s
      else if r.acc = .rwt && s.staging path && !s.bootBars path idx then stageWrite path obj idx sub v s
      else match applyEntry path obj idx sub v s with
        | .error code => refuse path idx sub code s
        | .ok s' => if s.fits path idx then accept path idx sub s' else refuse path idx sub abortState s

/-- A write of a whole value by a path. -/
def putEntry (path idx sub : Nat) (v : DWord) (s0 : State) : Result :=
  match ownCommand path idx sub (v.setWidth 32) with
  | some f => f s0
  | none =>
    let s := touch path s0
    match entryCheck s path idx sub true with
    | .error code => ok (refuse path idx sub code s)
    | .ok r => ok (writeChecked path idx sub r v s)

/-- The transmit buffer of an I2C or SPI instance takes bytes from `off` on (R635, R744). -/
def bufferWrite (path idx off : Nat) (bs : List Byte) (s : State) : Result :=
  dictCommand path idx 4 1 (fun s => need (off + bs.length ≤ 256) abortLength
    (.ok ((s.modPeriph (idx - 0x2580) (fun p => { p with tx := p.tx.take off ++ bs })).modPath path (fun p =>
      { p with stream := some (entryKey 0 idx 4, off + bs.length) })))) s

/-- Bytes written to a DOMAIN entry, `off` into it where its slot is streamed. -/
def writeBytes (path idx sub off : Nat) (bs : List Byte) (s : State) : Result :=
  if 0x2580 ≤ idx && idx < 0x2588 && sub = 4 then bufferWrite path idx off bs s
  else if 0x2588 ≤ idx && idx < 0x258A && sub = 3 then execUartTx path (idx - 0x2588) bs s
  else if 0x2210 ≤ idx && idx < 0x2214 && sub = 6 then execMsDataWrite path (idx - 0x2210) bs s
  else putEntry path idx sub 0 s

/-- The byte at which the next access of a path to a streamed slot begins (R635). -/
def streamAt (s : State) (path key : Nat) : Nat :=
  match (s.path path).stream with
  | some (k, off) => if k = key then off else 0
  | none => 0

/-- What an answer leaves: the state after it. -/
def after (r : Result) (s : State) : State :=
  match r with
  | .next t => t
  | _ => s

/-- The entry whose upper half a slot holds (R15). -/
def upperOf (idx sub : Nat) : Option EntryRow :=
  if sub = 0 || (findEntry idx sub).isSome then none
  else match findEntry idx (sub - 1) with
    | some r => if r.bits = 64 then some r else none
    | none => none

/-- A 32-bit write of one slot of the mirror or the runner window (R634, R635). -/
def writeSlot (path idx sub : Nat) (v : Word) (s : State) : State :=
  match upperOf idx sub with
  | some _ =>
    let key := entryKey 0 idx (sub - 1)
    (match (s.path path).held with
     | some (k, lo) =>
       if k = key then after (putEntry path idx (sub - 1) (v ++ lo) (s.modPath path (fun p => { p with held := none }))) s
       else halfRefused s
     | none => halfRefused s)
  | none => match findEntry idx sub with
    | none => after (putEntry path idx sub (v.setWidth 64) s) s
    | some r =>
      if isString r then after (writeBytes path idx sub (streamAt s path (entryKey 0 idx sub)) (leBytes v) s) s
      else if r.bits = 64 then
        (let s := touch path s
         if s.dict.stopped then refuse path idx sub abortStopped s
         else (netWack path idx sub s).modPath path (fun p => { p with held := some (entryKey 0 idx sub, v) }))
      else after (putEntry path idx sub (v.setWidth 64) s) s
where
  /-- A write of the upper slot that follows no held lower half of its entry. -/
  halfRefused (s : State) : State :=
    let s := touch path s
    match entryCheck s path idx (sub - 1) true with
    | .error code => refuse path idx (sub - 1) code s
    | .ok _ => refuse path idx (sub - 1) abortLength s

/-- The slot after one: the mirror runs on through the indices. -/
def nextSlot (idx sub : Nat) : Nat × Nat := if sub = 255 then (idx + 1, 0) else (idx, sub + 1)

/-- A request of two doublewords covers a whole 64-bit entry (R634). -/
def wholeEntry (path idx sub : Nat) (wide : Bool) : Bool :=
  wide && path = 88 && (match findEntry idx sub with
    | some r => r.bits = 64
    | none => false)

/-- A write (R625, R634): a path writes a slot, or with `wide` two doublewords at once; KEYLOCK_N stands as given, and the agent's own
words as `ev` says. Over the mailbox it is a whole value. -/
def agentWriteSlot (path idx sub : Nat) (wide : Bool) (v : DWord) (keylockN : Bool) (ev : DictEv) (s0 : State) : Result :=
  if !s0.reaches path then ok s0 else
  let s := agentCheck path ev (withKeylock keylockN s0)
  if path = coePath || wholeEntry path idx sub wide then putEntry path idx sub v s
  else
    let s1 := writeSlot path idx sub (v.setWidth 32) s
    if wide && path = 88 then
      let (i, j) := nextSlot idx sub
      ok (writeSlot path i j ((v >>> 32).setWidth 32) s1)
    else ok s1

/-! ### Reads over the mirror and the runner window (R634-R636) -/

/-- Four bytes of a string from `off`; bytes beyond its length read 0. -/
def fourBytes (bs : List Byte) (off : Nat) : DWord := BitVec.ofNat 64 (bytesValue ((bs.drop off).take 4))

/-- A read of one slot: its answer, and the state after it. `old` is the path as it stood before the access. -/
def readSlot (path idx sub : Nat) (whole : Bool) (ecc : Ecc) (s0 : State) : State :=
  let old := s0.path path
  let s := touchRead path s0
  let up := (upperOf idx sub).isSome
  let sub' := if up then sub - 1 else sub
  match entryCheck s path idx sub' false with
  | .error code => refuseRead path idx sub' code s
  | .ok r =>
    if !s.entryReads idx sub' then refuseRead path idx sub' abortState s
    else if isString r then
      (let key := entryKey 0 idx sub
       let off := if placesBytes idx then 0 else match old.stream with
         | some (k, n) => if k = key then n else 0
         | none => 0
       match readString path idx sub s with
       | .error code => refuseRead path idx sub code s
       | .ok (bs, s1) => (busAnswer path idx sub (fourBytes bs off) s1).modPath path (fun p => { p with stream := some (key, off + 4) }))
    else
      let s := logSpoiled path idx sub' ecc s
      match readValue path idx sub' ecc s with
      | .error code => refuseRead path idx sub' code s
      | .ok (v, s1) =>
        if up then
          let hi := match old.latch with
            | some (k, w) => if k = entryKey 0 idx sub' then w else (v >>> 32).setWidth 32
            | none => (v >>> 32).setWidth 32
          busAnswer path idx sub (hi.setWidth 64) s
        else if r.bits = 64 && !whole then
          (busAnswer path idx sub ((v.setWidth 32).setWidth 64) s1).modPath path (fun p =>
            { p with latch := some (entryKey 0 idx sub, (v >>> 32).setWidth 32) })
        else if r.signed then busAnswer path idx sub ((((v.setWidth 16).signExtend 32).setWidth 64)) s1
        else busAnswer path idx sub v s1

/-- A read over the mirror or the window (R634-R636): the host or a ladle core reads a slot, or the host two doublewords at once. -/
def agentReadSlot (path idx sub : Nat) (wide : Bool) (ecc : Ecc) (ev : DictEv) (s0 : State) : Result :=
  if !s0.reaches path || path = coePath then ok s0 else
  let s := agentCheck path ev s0
  if wholeEntry path idx sub wide then ok (readSlot path idx sub true ecc s)
  else
    let s1 := readSlot path idx sub false ecc s
    if wide && path = 88 then
      let (i, j) := nextSlot idx sub
      ok (readSlot path i j false ecc s1)
    else ok s1

/-! ### SDO transfers (R631-R633) -/

/-- Aborts of R631 and R632. -/
abbrev abortUnsupported : Word := 0x06010000#32
abbrev abortSpecifier : Word := 0x05040001#32
abbrev abortTimedOut : Word := 0x05040000#32

/-- The abort a request's form earns. -/
def formBad (f : SdoForm) : Option Word :=
  match f with
  | .normal => none
  | .complete => some abortUnsupported
  | .block => some abortUnsupported
  | .unknown => some abortSpecifier

/-- The bytes of an entry's type. -/
def typeBytes (r : EntryRow) : Nat := (r.bits + 7) / 8

/-- A whole SDO download: its length must match the type (check 5). -/
def sdoWrite (idx sub : Nat) (bs : List Byte) (s0 : State) : Result :=
  let s := touch coePath s0
  match entryCheck s coePath idx sub true with
  | .error code => ok (refuse coePath idx sub code s)
  | .ok r =>
    if isString r then writeBytes coePath idx sub 0 bs s0
    else if bs.length ≠ typeBytes r then ok (refuse coePath idx sub abortLength s)
    else putEntry coePath idx sub (BitVec.ofNat 64 (bytesValue bs)) s0

/-- A segmented transfer under way, or none. -/
def State.putSegment (s : State) (g : Option Segment) : State := s.modPath coePath (fun p => { p with segment := g })

/-- SDO_DOWNLOAD (R633): a download of an entry; with `more`, the first bytes of a segmented one, which takes effect at its last segment. -/
def execSdoDownload (idx sub : Nat) (bs : List Byte) (more : Bool) (form : SdoForm) (keylockN : Bool) (ev : DictEv) (s0 : State) : Result :=
  if !s0.reaches coePath then ok s0 else
  let s := (agentCheck coePath ev (withKeylock keylockN s0)).putSegment none
  match (if s.dict.stopped then some abortStopped else formBad form) with
  | some code => ok (refuse coePath idx sub code (touch coePath s))
  | none =>
    if more then
      let s1 := touch coePath s
      match entryCheck s1 coePath idx sub true with
      | .error code => ok (refuse coePath idx sub code s1)
      | .ok _ => ok (s1.putSegment (some { download := true, idx := idx, sub := sub, bytes := bs }))
    else sdoWrite idx sub bs s

/-- The data of an upload go out, as much as the mailbox has room for; the rest waits for segments. -/
def sendUpload (idx sub room : Nat) (bs : List Byte) (s : State) : State :=
  if bs.length ≤ room then (s.putSegment none).emit (.sdoData idx sub bs)
  else (s.putSegment (some { download := false, idx := idx, sub := sub, bytes := bs.drop room })).emit (.sdoData idx sub (bs.take room))

/-- SDO_UPLOAD (R631): a read of a whole entry. -/
def execSdoUpload (idx sub room : Nat) (form : SdoForm) (ecc : Ecc) (ev : DictEv) (s0 : State) : Result :=
  if !s0.reaches coePath then ok s0 else
  let s := touchRead coePath ((agentCheck coePath ev s0).putSegment none)
  match (if s.dict.stopped then some abortStopped else formBad form) with
  | some code => ok (refuse coePath idx sub code s)
  | none => match entryCheck s coePath idx sub false with
    | .error code => ok (refuse coePath idx sub code s)
    | .ok r =>
      if !s.entryReads idx sub || s.bootBars coePath idx then ok (refuse coePath idx sub abortState s)
      else if isString r then
        (match readString coePath idx sub s with
         | .error code => ok (refuse coePath idx sub code s)
         | .ok (bs, s1) => ok (sendUpload idx sub room bs s1))
      else
        let s := logSpoiled coePath idx sub ecc s
        match readValue coePath idx sub ecc s with
        | .error code => ok (refuse coePath idx sub code s)
        | .ok (v, s1) => ok (sendUpload idx sub room (valueBytes (typeBytes r) v) s1)

/-- SDO_SEGMENT (R632): the next segment of the transfer under way; a download is applied with its last one. -/
def execSdoSegment (bs : List Byte) (last : Bool) (room : Nat) (keylockN : Bool) (s0 : State) : Result :=
  if !s0.reaches coePath then ok s0 else
  let s := withKeylock keylockN s0
  match (s.path coePath).segment with
  | none => ok (refuse coePath 0 0 (if s.dict.stopped then abortStopped else abortSpecifier) (touch coePath s))
  | some g =>
    if !g.download then ok (sendUpload g.idx g.sub room g.bytes (touch coePath s))
    else if last then sdoWrite g.idx g.sub (g.bytes ++ bs) (s.putSegment none)
    else ok ((touch coePath s).putSegment (some { g with bytes := g.bytes ++ bs }))

/-- SDO_SEGMENT_TIMEOUT (R632): the next segment has not arrived within 100 ms. -/
def execSdoSegmentTimeout (s : State) : Result :=
  match (s.path coePath).segment with
  | none => ok s
  | some g => ok ((s.putSegment none).emit (.sdoAbort g.idx g.sub abortTimedOut))

/-! ### SDO information (R631) -/

/-- The code of an entry's data type (PRESUMED, CiA 301; log 44). -/
def typeCode (idx : Nat) (r : EntryRow) : Nat :=
  match r.bits, r.signed with
  | 0, _ => if idx < 0x2100 then 9 else 15
  | 8, _ => 5
  | 16, true => 3
  | 16, false => 6
  | 64, _ => 0x1B
  | _, _ => 7

/-- The access flags of an entry: readable, writable, and mappable into an RxPDO or a TxPDO (PRESUMED; log 44). -/
def accessFlags (idx : Nat) (r : EntryRow) : Nat :=
  (if r.acc.reads then 7 else 0) + (if r.acc.writes then 0x38 else 0) +
    (if 0x6000 ≤ idx && idx < 0x7000 then (if r.acc.writes then 0x40 else 0) + 0x80 else 0)

/-- An information request of the mailbox: refused by a stopped agent, and in BOOT beyond 0x2000 to 0x22FF. -/
def infoRequest (idx sub : Nat) (act : State → Result) (s0 : State) : Result :=
  if !s0.reaches coePath then ok s0 else
  let s := touchRead coePath s0
  if s.dict.stopped then ok (refuse coePath idx sub abortStopped s)
  else if s.bootBars coePath idx then ok (refuse coePath idx sub abortState s)
  else act s

/-- GET_OD_LIST (R631): every index that exists. -/
def execGetOdList (s : State) : Result :=
  infoRequest 0x2000 0 (fun s => ok (s.emit (.odList ((List.range 0x7000).filter indexExists)))) s

/-- GET_OBJECT_DESCRIPTION (R631): type, highest subindex, and whether the object is a variable or a record. -/
def execGetObjectDescription (idx : Nat) (s : State) : Result :=
  infoRequest idx 0 (fun s =>
    if !indexExists idx then ok (refuse coePath idx 0 abortNoIndex s)
    else
      let code := match findEntry idx 0 with
        | some r => typeCode idx r
        | none => 0
      ok (s.emit (.sdoInfo idx 0 [code, highestSub idx, if highestSub idx = 0 then 7 else 9]))) s

/-- GET_ENTRY_DESCRIPTION (R631): type, width in bits, access flags and level. -/
def execGetEntryDescription (idx sub : Nat) (s : State) : Result :=
  infoRequest idx sub (fun s =>
    match entryRow idx sub with
    | none => ok (refuse coePath idx sub (if indexExists idx then abortNoSub else abortNoIndex) s)
    | some r => ok (s.emit (.sdoInfo idx sub [typeCode idx r, r.bits, accessFlags idx r, r.level]))) s

end Sys2Proof.Machine
end

