-- ==== Sys2Proof/Machine/Ecat.lean ====
section
/-! DEFINITION. The EtherCAT slave: its state machine, mailbox, process data and distributed clock (R638, R670, R717-R724). -/

namespace Sys2Proof.Machine

/-! ### Process data (R638, R724) -/

/-- The entries a list of mapping objects maps, in order: index, subindex and bits. `assign` is 0x1C12 or 0x1C13. -/
def mappedEntries (s : State) (assign : Nat) : List (Nat × Nat × Nat) :=
  ((List.range 8).take (s.settingN assign 0)).flatMap (fun i =>
    let obj := s.settingN assign (i + 1)
    if obj = 0 then []
    else ((List.range 64).take (s.settingN obj 0)).filterMap (fun j =>
      let w := s.settingN obj (j + 1)
      if w = 0 then none else some (w / 2 ^ 16, w / 2 ^ 8 % 256, w % 256)))

/-- The length in bytes of what is mapped. -/
def mappedLength (s : State) (assign : Nat) : Nat := (mappedEntries s assign).foldl (fun n e => n + e.2.2 / 8) 0

/-- The mapped PDO_OUT entries take their bytes, as one access of path 0x7E, which writes nothing else (R639, R724). -/
def pdoWrite : List (Nat × Nat × Nat) → List Byte → State → State
  | [], _, s => s
  | (idx, sub, bits) :: es, bs, s =>
    let s := if idx = 0x6000 then s.putSetting idx sub (BitVec.ofNat 64 (bytesValue (bs.take (bits / 8)))) else s
    pdoWrite es (bs.drop (bits / 8)) s

/-- The mapped entries as they read now. -/
def pdoSample (s : State) : List Byte :=
  (mappedEntries s 0x1C13).flatMap (fun e => valueBytes (e.2.2 / 8) (readEntry s pdoPath e.1 e.2.1))

/-- Start of SyncManager `m`'s buffer. -/
def smBase (s : State) (m : Nat) : Nat := Tab.get 0 s.ecat.smStart m

/-- The input buffer is filled. -/
def fillInputs (s : State) : State :=
  let bs := pdoSample s
  s.modEcat (fun e => { e with ram := Tab.setList 0 e.ram (smBase s 3) bs })

/-- The output buffer as it was received last. -/
def outputBytes (s : State) : List Byte := Tab.getList 0 s.ecat.ram (smBase s 2) (mappedLength s 0x1C12)

/-- Process data runs: inputs in SAFEOP and OP, outputs applied in OP. -/
def pdoRuns (s : State) : Bool := s.ecat.al = .safeop || s.ecat.al = .op

/-- An RxPDO exchange (R722, R724): SyncManager 2 has taken a buffer. In SAFEOP the outputs are valid and wait for OP; a stopped agent applies
none (R667). -/
def rxpdoOutputs (bs : List Byte) (s : State) : State :=
  let s1 := { s.modEcat (fun e => { e with outputsValid := true, ram := Tab.setList 0 e.ram (smBase s 2) bs }) with pdoIrq := BitVec.allOnes 8 }
  if !(pdoRuns s && bs.length = mappedLength s 0x1C12) then s
  else if s.ecat.al = .op && !s.dict.stopped then pdoWrite (mappedEntries s 0x1C12) bs s1 else s1

/-- TXPDO_SAMPLE (R724). -/
def execTxpdoSample (s : State) : Result := event (pdoRuns s) s ((fillInputs s).emit (.txPdo (pdoSample s)))

/-! ### The state machine (R722) -/

/-- The slave reports its state and status code. -/
def alReport (s : State) : State := s.emit (.alStatus s.ecat.al s.ecat.alStatus)

/-- A request that is accepted clears the status code (log 13). -/
def alGo (st : AlSt) (s : State) : State := alReport (s.modEcat (fun e => { e with al := st, alStatus := 0 }))

/-- A refusal with the code the table gives. -/
def alRefuse (code : BitVec 16) (s : State) : State := alReport (s.modEcat (fun e => { e with alStatus := code }))

/-- A refusal for which the table gives no code: the code is free (log 1). -/
def alRefuseFree (s : State) : State :=
  let (v, s) := s.draw
  alRefuse (v.setWidth 16) s

/-- A SyncManager's buffer lies inside the RAM (R718). -/
def smInside (start len : Nat) : Bool := 0x1000 ≤ start && 0 < len && start + len ≤ 0x5000

/-- SyncManagers `m` and `m + 1` as the master has set them. -/
def setSms (m : Nat) (a b : Nat × Nat) (s : State) : State :=
  s.modEcat (fun e => { e with smStart := Tab.set 0 (Tab.set 0 e.smStart m a.1) (m + 1) b.1, smLen := Tab.set 0 (Tab.set 0 e.smLen m a.2) (m + 1) b.2 })

/-- INIT (R645, R722): the mailbox is emptied and the CoE path is reset. -/
def alInit (s : State) : State :=
  alGo .init (pathReset coePath (s.modEcat (fun e => { e with mailFull := false, mails := [], outputsValid := false })))

/-- AL_REQUEST_INIT (R722). -/
def execAlRequestInit (s : State) : Result := event s.power.released s (if s.ecat.al = .init then alReport s else alInit s)

/-- AL_REQUEST_PREOP (R722), with the start and length of SyncManagers 0 and 1. -/
def execAlRequestPreop (start0 len0 start1 len1 : Nat) (s : State) : Result :=
  event s.power.released s
    (match s.ecat.al with
     | .init => if smInside start0 len0 && smInside start1 len1 then alGo .preop (setSms 0 (start0, len0) (start1, len1) s) else alRefuseFree s
     | .preop => alReport s
     | .safeop => alGo .preop (s.modEcat (fun e => { e with outputsValid := false }))
     | .op => alGo .preop (s.modEcat (fun e => { e with outputsValid := false }))
     | .boot => alRefuseFree s)

/-- AL_REQUEST_SAFEOP (R722), with the start and length of SyncManagers 2 and 3: 0x001D where outputs do not fit, 0x001E where inputs do not. -/
def execAlRequestSafeop (start2 len2 start3 len3 : Nat) (s : State) : Result :=
  event s.power.released s
    (match s.ecat.al with
     | .preop =>
       if len2 ≠ mappedLength s 0x1C12 then alRefuse 0x001D#16 s
       else if len3 ≠ mappedLength s 0x1C13 then alRefuse 0x001E#16 s
       else alGo .safeop (fillInputs (setSms 2 (start2, len2) (start3, len3) s))
     | .safeop => alReport s
     | _ => alRefuseFree s)

/-- AL_REQUEST_OP (R722): the outputs received are applied. -/
def execAlRequestOp (s : State) : Result :=
  event s.power.released s
    (match s.ecat.al with
     | .safeop => if s.ecat.outputsValid then alGo .op (pdoWrite (mappedEntries s 0x1C12) (outputBytes s) s) else alRefuseFree s
     | .op => alReport s
     | _ => alRefuseFree s)

/-- AL_REQUEST_BOOT (R722): only while the device is unconfigured. -/
def execAlRequestBoot (s : State) : Result :=
  event s.power.released s
    (match s.ecat.al with
     | .init => if s.loader.released then alRefuse 0x0011#16 s else alGo .boot s
     | .boot => alReport s
     | _ => alRefuseFree s)

/-- SM2_WATCHDOG (R722): 100 ms without an exchange; PDO_OUT keeps its values. -/
def execSm2Watchdog (s : State) : Result :=
  event (s.ecat.al = .op) s (alReport (s.modEcat (fun e => { e with al := .safeop, alStatus := 0x001B#16, outputsValid := false })))

/-! ### Mailbox, link and clock (R717, R719-R721) -/

/-- MAILBOX_UNSUPPORTED (R719): a mailbox of another type than CoE, whose type is 3. -/
def execMailboxUnsupported (type : Nat) (s : State) : Result := event (mailRuns s && type ≠ 3) s (s.emit (.mailboxError 0x0002#16))

/-- MAILBOX_IN_READ (R720): mailbox in is free, and a waiting Emergency is sent. -/
def execMailboxInRead (s : State) : Result :=
  event (mailRuns s && s.ecat.mailFull) s (sendMail (s.modEcat (fun e => { e with mailFull := false })))

/-- ECAT_LINK_CHANGE (R717): port `k` gains or loses link; without it frames loop back. -/
def execEcatLinkChange (k : Nat) (up : Bool) (s : State) : Result :=
  event (k < 2 && s.power.released) s
    (s.modEcat (fun e => { e with links := if up then e.links ||| BitVec.ofNat 2 (2 ^ k) else e.links &&& ~~~(BitVec.ofNat 2 (2 ^ k)) }))

/-- DC_OFFSET_WRITE (R721): the first write starts the distributed clock; `t` is the system time that the offset gives. -/
def execDcOffsetWrite (t : DWord) (s : State) : Result := event s.power.released s { s with dcRunning := true, dcTime := t, dcQuarter := 0 }

/-- SYNC1_EVENT (R670). -/
def execSync1Event (s : State) : Result :=
  event (s.dcRunning && (s.settingW 0x2300 3).getLsbD 26) s (chillDue 3 s)

end Sys2Proof.Machine
end

