-- ==== Sys2Proof/Machine/Access.lean ====
section
/-! DEFINITION. The order of the accesses that reach the dictionary agent in one cycle of CLK_MGT (R725). -/

namespace Sys2Proof.Machine

/-- The path of an access (R627). -/
def accessPath (a : Access) : Nat :=
  match a with
  | .write path .. => path
  | .read path .. => path
  | .outputs _ => pdoPath

/-- An access takes its place among those of its cycle: ascending path ID, and arrival within a path (R628, R725). -/
def insertAccess (a : Access) : List Access → List Access
  | [] => [a]
  | b :: rest => if accessPath a < accessPath b then a :: b :: rest else b :: insertAccess a rest

/-- The agent applies one access. -/
def applyAccess (s : State) (a : Access) : State :=
  match a with
  | .write path idx sub wide v keylockN ev => after (agentWriteSlot path idx sub wide v keylockN ev s) s
  | .read path idx sub wide ecc ev => after (agentReadSlot path idx sub wide ecc ev s) s
  | .outputs bs => rxpdoOutputs bs s

/-- The accesses gathered for the present cycle, and what they become with another. -/
def State.setArriving (s : State) (l : List Access) : State := { s with dict := { s.dict with arriving := l } }

/-- An access reaches the agent. With `more`, another access that follows it in the queue reaches the agent in the same cycle, and it waits for that
one; the last access of a cycle has them all applied in ascending path ID (R725). -/
def reachAgent (a : Access) (more : Bool) (s : State) : Result :=
  let l := insertAccess a s.dict.arriving
  if more then ok (s.setArriving l) else ok (l.foldl applyAccess (s.setArriving []))

/-- DICT_WRITE (R625, R634, R725). -/
def execDictWrite (path idx sub : Nat) (wide : Bool) (v : DWord) (keylockN : Bool) (ev : DictEv) (more : Bool) (s : State) : Result :=
  reachAgent (.write path idx sub wide v keylockN ev) more s

/-- MIRROR_READ (R634-R636, R725). -/
def execMirrorRead (path idx sub : Nat) (wide : Bool) (ecc : Ecc) (ev : DictEv) (more : Bool) (s : State) : Result :=
  reachAgent (.read path idx sub wide ecc ev) more s

/-- RXPDO_EXCHANGE (R722, R724, R725). -/
def execRxpdoExchange (bs : List Byte) (more : Bool) (s : State) : Result := reachAgent (.outputs bs) more s

end Sys2Proof.Machine
end

