-- ==== Sys2Proof/Machine/Chill.lean ====
section
/-! DEFINITION. The chill: the snapshot of the whole device on one pour tick (R668-R676). -/

namespace Sys2Proof.Machine

/-- The entries of the chill set with their values (R669): 0 where the block is off or held in reset. Keys are [23:8] index, [7:0]
subindex. -/
def chillEntries (s : State) : Tab DWord :=
  entryRows.foldl (fun t r =>
    (List.range r.n).foldl (fun t i =>
      (List.range r.subs).foldl (fun t j =>
        let idx := r.idx + r.step * i
        let sub := r.sub + j
        if chillEntry idx sub && s.entryUp idx then Tab.set 0 t (idx * 256 + sub) (readEntry s 0 idx sub) else t) t) t) []

/-- The crucible registers of the chill set. -/
def chillCru (s : State) : Tab DWord :=
  Tab.ofFn 0 (fun k =>
    if chillReg (k % 64) && s.entryUp (0x4100 + k / 64) then ((s.cru (k / 64)).read (k % 64)).setWidth 64 else 0) (List.range (72 * 64))

/-- The chill list. -/
def chillItem (s : State) (i : Nat) : DWord :=
  let w := s.settingN 0x2304 (i + 1)
  let n := w % 2 ^ 20
  if !s.entryUp 0x3200 then 0 else
  match w / 2 ^ 28 with
  | 1 => queueRead s (n % 2 ^ 18) 3
  | 2 => (tState s (n % 4096)).setWidth 64
  | 3 => (fState s n).setWidth 64
  | 4 => (mState s (n % 2 ^ 16)).setWidth 64
  | _ => 0
def chillItems (s : State) : Tab DWord := Tab.ofFn 0 (chillItem s) (List.range 64)

/-- The bank a chill writes, `true` for B; none where it is dropped (R673). -/
def chillBank (s : State) : Option Bool :=
  let c := s.chill
  match c.bankA.held, c.bankB.held with
  | false, false => some (!c.lastB)
  | false, true => some false
  | true, false => some true
  | true, true => if (s.settingW 0x2300 3).getLsbD 21 then some (!c.lastB) else none

/-- What a chill records (R674). -/
def snapshot (s : State) : ChillBank :=
  let cause := chillCauses s
  { held := true, new := true, damaged := false, dcValid := s.dcRunning, cause := cause, seq := s.chill.count + 1, time := s.now
    errSeq := if cause.getLsbD 5 then s.chill.dueSeq else 0
    entries := chillEntries s, cru := chillCru s, list := chillItems s }

/-- The bank is written: EVT_CHILL if its NEW rises (R715), and the pulse of TRIG_OUT (R676). -/
def takeChill (b : Bool) (s : State) : State :=
  let was := (s.bank b).new
  let x := snapshot s
  let s := (s.modBank b (fun _ => x)).modChill (fun c => { c with lastB := b, count := c.count + 1 })
  let s := if was then s else evtChill s
  let cfg := s.settingW 0x2300 3
  if cfg.getLsbD 20 then fireTrigger (cfg.extractLsb' 17 3).toNat s else s

/-- The chill that is due is taken into a bank, or dropped and counted. -/
def chillTaken (s : State) : State :=
  let fire := fireAtDue s
  let s := match chillBank s with
    | some b => takeChill b s
    | none => s.modChill (fun c => { c with missed := c.missed + 1 })
  s.modChill (fun c => { c with due := 0, dueSeq := 0, fireAt := c.fireAt && !fire })

/-- CHILL_TAKE (R668, R672, R673): the chill of a triggered pour tick. -/
def execChillTake (s : State) : Result := event (s.power.pllLocked && chillCauses s ≠ 0) s (chillTaken s)

end Sys2Proof.Machine
end

