-- ==== Sys2Proof/Machine/Dma.lean ====
section
/-! DEFINITION. The PCI Express endpoint: BAR2 and BAR4 accesses, the DMA engines, MSI-X, the link and its resets (R260-R262, R704-R716). -/

namespace Sys2Proof.Machine

/-- The endpoint exchanges packets with the host: its link is up and its domain runs. -/
def State.hostUp (s : State) : Bool := s.pcie.linkUp && s.domOn 87

/-- Accesses beyond the mirror work: a full image has been released (R706). -/
def State.hostOpen (s : State) : Bool := s.hostUp && s.loader.released

/-- Put something on the link, if it is up. -/
def State.toHost (s : State) (o : Out) : State := if s.pcie.linkUp then s.emit o else s

/-- What a host read returns that the device does not serve: all ones (R706). -/
def hostOnes (n : Nat) (s : State) : State := s.emit (.hostCpl (List.replicate n 0xFFFFFFFF#32) false false)

/-- Hand a request of the endpoint to its gate, with the mark of what sent it. -/
def hostRequest (who dest tc : Nat) (b : Body) (s : State) : State :=
  s.modGate hostNode (fun g => { g with waiting := g.waiting ++ [{ mkPacket hostNode dest 0 tc b with who := who }] })

/-! ### BAR2 (R705-R707) -/

/-- BAR2_LOG2 in force; 0, before any value has been loaded, acts as the least, 30 (log 46). -/
def barLog2 (s : State) : Nat := if s.pcie.bar2Log2 < 30 then 30 else s.pcie.bar2Log2

/-- An access of `n` words at offset `a` lies in BAR2. -/
def inBar2 (s : State) (a n : Nat) : Bool := a % 4 = 0 && 1 ≤ n && n ≤ 64 && a + 4 * n ≤ 2 ^ barLog2 s

/-- BAR2_READ (R707): the catch read is handed to the gate in TC0; its answer completes the host's read. -/
def execBar2Read (a n : Nat) (s : State) : Result :=
  event (s.hostUp && inBar2 s a n) s
    (if s.loader.released then hostRequest whoHost unresolved 0 (.rd a n) s else hostOnes n s)

/-- BAR2_WRITE (R707): words with EP = 1 are written poisoned. -/
def execBar2Write (a : Nat) (first last : BitVec 4) (ws : List Word) (ep : Bool) (s : State) : Result :=
  event (s.hostUp && inBar2 s a ws.length) s
    (if s.loader.released then hostRequest whoHost unresolved 0 (.wr a first last (ws.map (fun w => { d := w, p := ep }))) s else s)

/-! ### BAR4 (R260-R262) -/

/-- Queue numbers of BAR4. -/
def bar4Queue (q : Nat) : Bool := q < 2 ^ 18

/-- Push one word with SOP under R232; the tundish refuses a push for a queue that does not name the endpoint (R220, R261). -/
def bar4Push (q : Nat) (v : Word) (l : Bool) (s : State) : State :=
  gateSend hostNode q (gatePush hostNode q { d := v, l := l, i := false, p := false } s)

/-- BAR4_PUSH (R260). -/
def execBar4Push (q : Nat) (v : Word) (s : State) : Result := event (s.hostOpen && bar4Queue q) s (bar4Push q v false s)
/-- BAR4_PUSH_LAST (R260). -/
def execBar4PushLast (q : Nat) (v : Word) (s : State) : Result := event (s.hostOpen && bar4Queue q) s (bar4Push q v true s)

/-- An offset of a queue's page that a row of its own serves. -/
def bar4Own (ofs : Nat) : Bool := ofs % 4 ≠ 0 || 64 ≤ ofs || ofs = 0 || ofs = 4 || ofs = 0x18 || ofs = 0x1C

/-- BAR4_PUSH_ABANDON (R260): a write at 0x08 of the queue's page sends REWIND, its value ignored; at an offset that the page does not list it is
ignored. -/
def execBar4PushAbandon (q ofs : Nat) (s : State) : Result :=
  event (s.hostOpen && bar4Queue q && !bar4Own ofs) s (if ofs = 8 then gateRewind hostNode q s else s)

/-- BAR4_CREDIT_TAKE (R260): a 32-bit read of the queue's page. At 0x10 the credits granted since the last read are handed over, at 0x20 it gives
COUNT, at an offset that the page does not list 0. -/
def execBar4CreditTake (q ofs : Nat) (s : State) : Result :=
  let n := (s.producer hostNode q).granted
  event (s.hostUp && bar4Queue q && !bar4Own ofs) s
    (if !s.loader.released then hostOnes 1 s
     else if ofs = 0x10 then
       (s.modProducer hostNode q (fun p => { p with granted := 0, credits := p.credits + n })).emit (.hostCpl [BitVec.ofNat 32 n] false false)
     else s.emit (.hostCpl [if ofs = 0x20 then BitVec.ofNat 32 (s.queue q).count else 0] false false))

/-- The two words of a POP read. -/
def bar4Words (ws : List QWord) : List Word :=
  match ws with
  | w :: _ => [w.d, BitVec.ofNat 32 (1 + (if w.l then 2 else 0) + (if w.i then 4 else 0) + (if w.p then 8 else 0))]
  | [] => [0, 0]

/-- A read that the network answers with another status than OK (R707). -/
def hostAborts (s : State) : State := (s.toHost (.hostCpl [] false true)).modPcie (fun p => { p with rdAborts := p.rdAborts + 1 })

/-- BAR4_POP (R260, R261): the endpoint sends a POP of one word in TC2 (R402, R707); its answer completes the host's read. -/
def execBar4Pop (q : Nat) (s : State) : Result :=
  event (s.hostUp && bar4Queue q) s
    (if s.loader.released then hostRequest whoBar4 tundishNode 2 (.pop q 1) s else hostOnes 2 s)

/-- The answer to the POP of a BAR4 read: one word, or V = 0 from a queue that was EMPTY or does not name the endpoint (R260, R261); without the
tundish the read aborts (R707). -/
def bar4Answer (st : PopStatus) (ws : List QWord) (s : State) : State :=
  match st with
  | .ok => s.toHost (.hostCpl (bar4Words ws) false false)
  | .idle => s.toHost (.hostCpl (bar4Words ws) false false)
  | .empty => s.toHost (.hostCpl [0, 0] false false)
  | .refused => s.toHost (.hostCpl [0, 0] false false)
  | .offline => hostAborts s

/-! ### DMA engines (R708-R713) -/

/-- The words of an engine's descriptor, as far as they have been popped; the ninth and later ones only count. -/
def keepWords (ws : List (Word × Bool)) (w : QWord) : List (Word × Bool) := if ws.length < 9 then ws ++ [(w.d, w.p)] else ws

/-- An engine sends a POP of one word in its traffic class (R222, R259, R402; log 46). -/
def dmaPop (e q : Nat) (s : State) : State := hostRequest (whoDma e) tundishNode 1 (.pop q 1) s

/-- OP of a descriptor, if it is not reserved. -/
def dmaOp (n : Nat) : Option DmaOp :=
  match n with
  | 1 => some .h2c
  | 2 => some .c2h
  | 3 => some .q2h
  | _ => none

/-- LEN fits the table (R709). -/
def dmaLenFits (n : Nat) : Bool := n % 4 = 0 && 4 ≤ n && n ≤ 16777216

/-- A descriptor of its words, and whether it is MALFORMED (R711). -/
def dmaDescOf (ws : List (Word × Bool)) : DmaDesc × Bool :=
  let w (i : Nat) : Word := (ws.getD i (0, false)).1
  let op := dmaOp (w 0 >>> 28).toNat
  let d : DmaDesc :=
    { op := op.getD .h2c, len := (w 1).toNat, host := (w 3 ++ w 2 : DWord).toNat, dev := (w 5 ++ w 4 : DWord).toNat
      vector := (w 6).toNat % 2048, irq := (w 6).getLsbD 31, cookie := w 7 }
  (d, ws.length ≠ 8 || ws.any (·.2) || op.isNone || !dmaLenFits d.len)

/-- The bytes of the next piece: no more than the catch line holds. -/
def dmaPiece (d : Dma) (x : DmaDesc) : Nat :=
  let a := (x.dev / 4 * 4 + d.moved) % 2 ^ 42
  min (x.len - d.moved) (64 - a % 64)

/-- Catch and host address of the next piece. -/
def dmaDev (d : Dma) (x : DmaDesc) : Nat := (x.dev / 4 * 4 + d.moved) % 2 ^ 42
def dmaHost (d : Dma) (x : DmaDesc) : Nat := (x.host + d.moved) % 2 ^ 64

/-- The engine ends its descriptor with a status; a POISON it has met gives way to it, an ERROR does not. -/
def dmaFinish (e : Nat) (st : DmaStatus) (s : State) : State :=
  s.modDma e (fun d => { d with finished := true, status := if st = .ok then d.status else st })

/-- A poisoned word sets POISON and the transfer goes on. -/
def dmaPoison (e : Nat) (p : Bool) (s : State) : State :=
  s.modDma e (fun d => { d with status := if p && d.status = .ok then .poison else d.status })

/-- One word of a Q2H descriptor goes to the host. -/
def q2hWord (e : Nat) (x : DmaDesc) (w : QWord) (s : State) : State :=
  let a := dmaHost (s.dma e) x
  dmaPoison e w.p ((s.toHost (.hostWrite a [w.d] w.p)).modDma e (fun d => { d with moved := d.moved + 4 }))

/-- Ask for the next piece of a descriptor, or wait for answers only. -/
def dmaNext (e : Nat) (x : DmaDesc) (s : State) : State :=
  let d := s.dma e
  if d.finished then s
  else if x.len ≤ d.moved then dmaFinish e .ok s
  else match x.op with
    | .h2c => s.emit (.hostRead e (dmaHost d x) (dmaPiece d x))
    | .c2h => hostRequest (whoDma e) unresolved 1 (.rd (dmaDev d x) (dmaPiece d x / 4)) s
    | .q2h => dmaPop e (x.dev % 2 ^ 18) s

/-- Nothing that an engine sent is unanswered. -/
def dmaQuiet (s : State) (e : Nat) : Bool :=
  let g := s.gate hostNode
  g.waiting.all (fun p => p.who ≠ whoDma e) && g.outstanding.all (fun o => o.who ≠ whoDma e)

/-- An idle engine that is enabled and may take a descriptor (R706, R710). -/
def dmaIdle (s : State) (e : Nat) : Bool := e < 64 && s.hostOpen && (s.dma e).en && (s.dma e).desc.isNone && dmaQuiet s e

/-- DMA_DESCRIPTOR_POP (R709, R710): the engine asks its submission queue for the next word of its next descriptor. -/
def execDmaDescriptorPop (e : Nat) (s : State) : Result := event (dmaIdle s e) s (dmaPop e (dmaSq s e) s)

/-- The last word of a descriptor packet has come: the engine starts to move its data. A MALFORMED one moves nothing (R711), and one whose last
word was on its way as EN was written 0 ends ABORTED (R713, log 46). -/
def dmaStart (e : Nat) (s : State) : State :=
  let d := s.dma e
  let (x, malformed) := dmaDescOf d.words
  let s := s.modDma e (fun d => { d with
    words := [], desc := some x, moved := 0, finished := malformed || !d.en, status := if malformed then .malformed else if d.en then .ok else .aborted })
  dmaNext e x s

/-- A word of a descriptor packet, and the POP of the next. -/
def dmaWord (e : Nat) (w : QWord) (s : State) : State :=
  let s := s.modDma e (fun d => { d with words := keepWords d.words w })
  if w.l then dmaStart e s else if (s.dma e).en then dmaPop e (dmaSq s e) s else s

/-- A word of a Q2H descriptor's queue: the packet's last word ends the descriptor, and so does LEN (R712). -/
def q2hAnswer (e : Nat) (x : DmaDesc) (w : QWord) (s : State) : State :=
  let s := q2hWord e x w s
  if (s.dma e).finished then s
  else if w.l then dmaFinish e .ok s
  else if x.len ≤ (s.dma e).moved then dmaFinish e .oversize s
  else dmaPop e (x.dev % 2 ^ 18) s

/-- A POP of an engine is answered. EMPTY, IDLE and, for a descriptor, another status bring no word: the engine pops again later. -/
def dmaPopAnswer (e : Nat) (st : PopStatus) (ws : List QWord) (s : State) : State :=
  match st, ws, (s.dma e).desc with
  | .ok, w :: _, none => dmaWord e w s
  | .ok, w :: _, some x => q2hAnswer e x w s
  | .refused, _, some _ => if (s.dma e).finished then s else dmaFinish e .error s
  | .offline, _, some _ => if (s.dma e).finished then s else dmaFinish e .error s
  | _, _, _ => s

/-- Words of a host read completion on their way to the catch. -/
def h2cWrite (e : Nat) (x : DmaDesc) (ws : List Word) (ep : Bool) (s : State) : State :=
  let a := dmaDev (s.dma e) x
  let s := hostRequest (whoDma e) unresolved 1 (.wr a 0xF 0xF (ws.map (fun w => { d := w, p := ep }))) s
  dmaNext e x (dmaPoison e ep (s.modDma e (fun d => { d with moved := d.moved + 4 * ws.length })))

/-- DMA_HOST_READ_COMPLETION (R712): the words the host returns for the piece asked for; `bad` is a UR or CA status. -/
def execDmaHostReadCompletion (e : Nat) (ws : List Word) (ep bad : Bool) (s : State) : Result :=
  let d := s.dma e
  match d.desc with
  | some x =>
    event (s.hostUp && !d.finished && x.op = .h2c && (bad || 4 * ws.length = dmaPiece d x)) s
      (if bad then dmaFinish e .error s else h2cWrite e x ws ep s)
  | none => ok s

/-- DMA_Q2H_REPOP (R712): 1 µs after the queue answered EMPTY or IDLE. -/
def execDmaQ2hRepop (e : Nat) (s : State) : Result :=
  let d := s.dma e
  match d.desc with
  | some x => event (s.hostOpen && d.en && !d.finished && x.op = .q2h && dmaQuiet s e) s (dmaPop e (x.dev % 2 ^ 18) s)
  | none => ok s

/-- A catch read of a C2H descriptor has been answered: the line goes to the host (R712). -/
def c2hAnswer (e : Nat) (st : NetStatus) (ws : List NWord) (s : State) : State :=
  match (s.dma e).desc with
  | some x =>
    if x.op ≠ .c2h then s
    else if st ≠ .ok then (if (s.dma e).finished then s else dmaFinish e .error s)
    else
      let p := ws.any (·.p)
      let s := s.toHost (.hostWrite (dmaHost (s.dma e) x) (ws.map (·.d)) p)
      dmaNext e x (dmaPoison e p (s.modDma e (fun d => { d with moved := d.moved + 4 * ws.length })))
  | none => s

/-- An answer of the network reaches what sent the request (R707, R712). A catch write of a descriptor answered with another status than OK
ends it with ERROR (log 46). -/
def hostAnswer (who : Nat) (b : Body) (s : State) : State :=
  match b with
  | .rdata st ws =>
    if who = whoHost then
      (if st = .ok then s.toHost (.hostCpl (ws.map (·.d)) (ws.any (·.p)) false) else hostAborts s)
    else if 1 ≤ who && who ≤ 64 then c2hAnswer (who - 1) st ws s else s
  | .wack st _ =>
    if st = .ok then s
    else if who = whoHost then s.modPcie (fun p => { p with wrDrops := p.wrDrops + 1 })
    else if 1 ≤ who && who ≤ 64 && (s.dma (who - 1)).status ≠ .aborted then dmaFinish (who - 1) .error s else s
  | .popResp st ws =>
    if who = whoBar4 then bar4Answer st ws s
    else if 1 ≤ who && who ≤ 64 then dmaPopAnswer (who - 1) st ws s else s
  | _ => s

/-- The completion packet (R710). -/
def dmaCompletion (e : Nat) (d : Dma) (x : DmaDesc) : List QWord :=
  let w (v : Word) (l : Bool) : QWord := { d := v, l := l, i := false, p := false }
  [w (BitVec.ofNat 32 (d.status.code * 2 ^ 28)) false, w (BitVec.ofNat 32 d.moved) false, w x.cookie false, w (BitVec.ofNat 32 e) true]

/-- DMA_DESCRIPTOR_COMPLETE (R710, R713): every catch write is answered, and the completion queue has granted four credits. -/
def execDmaDescriptorComplete (e : Nat) (s : State) : Result :=
  let d := s.dma e
  let q := dmaCq s e
  match d.desc with
  | some x =>
    event (e < 64 && s.domOn 87 && d.finished && dmaQuiet s e && 4 ≤ (s.producer hostNode q).granted) s
      (let s := s.modProducer hostNode q (fun p => { p with granted := p.granted - 4, credits := p.credits + 4 })
       let s := gateSend hostNode q ((dmaCompletion e d x).foldl (fun s w => gatePush hostNode q w s) s)
       let s := s.modDma e (fun d => { d with desc := none, moved := 0, finished := false, status := .ok, last := d.status, done := d.done + 1 })
       if x.irq && d.status ≠ .aborted then msixSend x.vector s else s)
  | none => ok s

/-- A write of DMA_CFG for engine `e` (R629, R708, R713). -/
def dmaCommand (path e sub : Nat) (v : Word) (s : State) : Result :=
  rwtCommand path e 0x2610 sub 2 (v.setWidth 64) none (dmaApply e sub v) s

/-- DMA_ENABLE (R708): EN of DMA_CFG is written 1 for the engine the path has selected. -/
def execDmaEnable (path q : Nat) (s : State) : Result :=
  dmaCommand path (dmaSelected s path) 1 (0x80000000#32 + BitVec.ofNat 32 (q % 2 ^ 18)) s
/-- DMA_DISABLE (R713). -/
def execDmaDisable (path q : Nat) (s : State) : Result := dmaCommand path (dmaSelected s path) 1 (BitVec.ofNat 32 (q % 2 ^ 18)) s

/-! ### MSI-X, the link and its resets (R704, R706, R713, R714) -/

/-- Send every vector that is pending and can be sent. -/
def msixDrain (s : State) : State :=
  (Tab.keys id s.pcie.pendingBits).foldl (fun s v =>
    if msixOpen s.pcie v then msixSend v (s.modPcie (fun p => { p with pendingBits := Tab.set false p.pendingBits v false })) else s) s

/-- MSIX_UNMASK (R714): the host writes entry `v` of the table and the function's enable and mask. A vector that is no longer masked or disabled is
sent if its pending bit is set. -/
def execMsixUnmask (v : Nat) (addr : DWord) (data : Word) (masked on mask : Bool) (s : State) : Result :=
  event (s.hostOpen && v < 2048) s (msixDrain (s.modPcie (fun p => { p with
    vectors := Tab.set .reset p.vectors v { addr := addr, data := data, masked := masked }, msixOn := on, msixMask := mask })))

/-- PCIE_PERST_RELEASE (R706, R716): the endpoint leaves reset with the BAR2_LOG2 that PCIE_CFG holds, and trains its link. -/
def execPciePerstRelease (s : State) : Result :=
  event (s.domOn 87 && !s.pcie.perstHigh) s (s.modPcie (fun p => { p with perstHigh := true, bar2Log2 := s.settingN 0x2600 2 % 64 }))

/-- PCIE_LINK_UP (R704, R716): the link has trained to a rate and width; the host has enabled bus mastering and MSI-X, or not. -/
def execPcieLinkUp (rate width : Nat) (busMaster msixOn : Bool) (s : State) : Result :=
  event (s.pcie.perstHigh && s.domOn 87 && 1 ≤ rate && rate ≤ 5 && 1 ≤ width && width ≤ 16) s
    (s.modPcie (fun p => { p with linkUp := true, rate := rate, width := width, busMaster := busMaster, msixOn := msixOn }))

/-- PCIE_RESET (R713): a hot reset or a link down (`down`), a function-level reset, or PERST_N low (`perst`). -/
def execPcieReset (down perst : Bool) (s : State) : Result :=
  let s1 := pcieReset s
  event (s.pcie.perstHigh && s.domOn 87) s
    (if perst then s1.modPcie (fun p => { p with perstHigh := false, linkUp := false, rate := 0, width := 0 })
     else if down then s1.modPcie (fun p => { p with linkUp := false, rate := 0, width := 0 })
     else s1)

end Sys2Proof.Machine
end

