-- ==== Sys2Proof/Machine/Gates.lean ====
section
/-! DEFINITION. The gates of the initiators: injection under the regulators, tags, answers, lost transactions and the statistics (R373, R389-R393,
R397, R398, R400-R403). -/

namespace Sys2Proof.Machine

/-! ### Injection (R373, R389, R400, R401) -/

/-- The node that a request goes to: named by its sender, or resolved from its address; none is NOROUTE (R373, R431). -/
def resolveDest (s : State) (p : Packet) : Option Nat :=
  if p.dest ≠ unresolved then some p.dest
  else match bodyAddr p.body with
    | some a =>
      if a < 2 ^ 42 then (catchMap s a).map (fun c => 96 + c.1)
      else if dictWindow ≤ a && a < dictWindow + 2 ^ 25 then some 90 else none
    | none => none

/-- Bytes that a request is charged (R400). -/
def chargeOf (b : Body) : Nat :=
  match b with
  | .rd _ n => 4 * n
  | .wr _ _ _ ws => 4 * ws.length
  | .fold _ _ ws => 4 * ws.length
  | .push _ _ ws => 4 * ws.length
  | _ => 0

/-- RATE and BURST of a traffic class. -/
def rateOf (s : State) (i tc : Nat) : Nat := s.settingN (0x3080 + i) (1 + 4 * tc)
def burstOf (s : State) (i tc : Nat) : Nat := s.settingN (0x3080 + i) (2 + 4 * tc)

/-- The bucket's level is at least the charge, or the bucket is disabled. -/
def bucketAllows (s : State) (i tc : Nat) (b : Body) : Bool :=
  rateOf s i tc = 0 || Tab.get 0 (s.gate i).spent tc + chargeOf b * 1600 ≤ burstOf s i tc * 1600

/-- The lowest tag that is free; 255 stands in a notice for an unreadable tag and is not used. -/
def freeTag (g : Gate) : Option Nat :=
  (List.range 255).find? (fun t => g.outstanding.all (fun o => o.tag ≠ t) && !g.quarantine.contains t)

/-- The request waits at the gates for the switch of an evacuation (R461). -/
def requestHeld (s : State) (b : Body) : Bool :=
  match bodyAddr b with
  | some a => windowHeld s a
  | none => false

/-- Gates whose blocks collect their answers until they have all of them: the context engines, the tundish's deep moves, marked from 16 on, and the
loader. -/
def keptAnswer (i who : Nat) : Bool := i < 72 || (i = tundishNode && 16 ≤ who) || i = 89

/-- What the requester gets (R393): the answer is handed to the block behind the gate, or done with at once. -/
def deliverAnswer (i who : Nat) (request answer : Body) (s : State) : State :=
  let keep (s : State) : State := s.modGate i (fun g => { g with answers := g.answers ++ [{ mkPacket i i 0 0 answer with who := who }] })
  match answer with
  | .popResp _ _ => if i = hostNode then hostAnswer who answer s else keep s
  | .rdata st ws =>
    if keptAnswer i who then keep s else
    if 72 ≤ i && i < 80 then
      let w := ws.headD { d := 0, p := true }
      lcLoadAnswer (i - 72) who (if st = .ok then w else { w with p := true }) s
    else if i = hostNode then hostAnswer who answer s else s
  | .wack _ _ => if keptAnswer i who then keep s else if 72 ≤ i && i < 80 then lcWriteAnswer (i - 72) s else if i = hostNode then hostAnswer who answer s else s
  | .crsp st r =>
    match request with
    | .internal _ args =>
      if i = cupolaNode then
        let c := (args.getD 3 0).toNat
        match st with
        | .ok => fdispatchEnds c who r s
        | .offline => fdispatchEnds c who resOffline s
        | _ => let (v, s) := s.draw; fdispatchEnds c who (v.toNat % 8) s
      else s
    | _ => s
  | _ => s

/-- A request leaves the gate with its tag, its charge and its look-ahead port. -/
def injectPacket (i tc dest : Nat) (p : Packet) (s : State) : State :=
  let tag := if isCall p.body then (freeTag (s.gate i)).getD 0 else 0
  let n := chargeOf p.body
  let s := s.modGate i (fun g =>
    { g with
      outstanding := if isCall p.body then g.outstanding ++ [{ tag := tag, who := p.who, dest := dest, addr := packetAddr p.body, body := p.body }] else g.outstanding
      lastTc := tc
      spent := if rateOf s i tc = 0 then g.spent else Tab.modify 0 g.spent tc (fun d => d + n * 1600)
      reqCount := g.reqCount + 1
      byteCount := g.byteCount + BitVec.ofNat 64 n })
  let r := entryRouter i
  let pkt := { p with dest := dest, tag := tag, la := lookAhead s r dest }
  s.modNet (enterHop (sourceFlight i pkt) r (nodeInput i) pkt)

/-- A CLOSING gate injects no new request, but a stopping flask gate sends its REWINDs, and what it gathered before them (R404, R406). -/
def stoppingSend (s : State) (i : Nat) (b : Body) : Bool :=
  i < 72 && (s.flask (s.nodeFlask i)).role = .stopped && s.port (s.nodePort i).1 (s.nodePort i).2 = .closing && (match b with
    | .rewind _ => true
    | .push _ _ _ => true
    | _ => false)

/-- The oldest request of a class could leave the gate now. -/
def classAllows (s : State) (i tc : Nat) : Bool :=
  match (s.gate i).waiting.find? (fun p => p.tc = tc) with
  | some p => (resolveDest s p).isSome && !requestHeld s p.body && (!isCall p.body || (freeTag (s.gate i)).isSome) && bucketAllows s i tc p.body
  | none => false

/-- The class is next in the round robin of those whose buckets allow injection (R401). -/
def classWins (s : State) (i tc : Nat) : Bool :=
  let turn (c : Nat) : Nat := (c + 7 - (s.gate i).lastTc) % 4
  [0, 1, 2, 3].all (fun c => c = tc || !classAllows s i c || turn tc < turn c)

/-- GATE_INJECT (R385, R400, R401): the oldest request of a class is injected once a tag, its bucket and a hop credit allow. One to an address without a target is
completed by the gate itself (R373). -/
def execGateInject (i tc : Nat) (s : State) : Result :=
  let g := s.gate i
  let port := s.nodePort i
  match g.waiting.find? (fun p => p.tc = tc) with
  | none => ok s
  | some p =>
    let s1 := s.modGate i (fun g => { g with waiting := g.waiting.erase p })
    event (s.domOn 87 && (s.port port.1 port.2 = .opened || stoppingSend s i p.body) && !requestHeld s p.body) s
      (match resolveDest s p with
       | none => if isCall p.body then deliverAnswer i p.who p.body (networkAnswer .noroute p.body) s1 else s1
       | some dest =>
         let f := sourceFlight i { p with dest := dest }
         if (!isCall p.body || (freeTag g).isSome) && bucketAllows s i tc p.body && classWins s i tc && canEnter s.net f (entryRouter i) (nodeInput i) then
           injectPacket i tc dest p s1
         else s)

/-! ### Answers (R389-R393, R398, R403) -/

/-- The histogram bin of a latency in cycles (R403). -/
def latencyBin (n : Nat) : Nat :=
  if n < 16 then 0 else if 1024 ≤ n then 7 else ((List.range 6).find? (fun k => n < 2 ^ (k + 5))).getD 5 + 1

/-- A latency is counted. -/
def countLatency (i lat : Nat) (s : State) : State :=
  let v : Word := BitVec.ofNat 32 lat
  s.modGate i (fun g =>
    { g with
      latMin := if v.ult g.latMin then v else g.latMin
      latMax := if g.latMax.ult v then v else g.latMax
      hist := Tab.modify 0 g.hist (latencyBin lat) (fun n => n + 1) })

/-- The words of an answer. -/
def answerLength (b : Body) : Nat :=
  match b with
  | .rdata _ ws => ws.length
  | .popResp _ ws => ws.length
  | _ => 0

/-- An answer that completes a transaction. -/
def isAnswer (b : Body) : Bool :=
  match b with
  | .rdata _ _ => true
  | .wack _ _ => true
  | .popResp _ _ => true
  | .crsp _ _ => true
  | _ => false

/-- GATE_ANSWER (R389, R390, R392): the packet, the oldest answer of its source and class at gate `i`, completes its transaction; `corrected`
counts the words the endpoint corrects, `bad` names those it cannot, `lat` is the latency in CLK_NOC cycles. An answer for a tag already completed
is late; it frees the tag. -/
def execGateAnswer (i : Nat) (pkt : Packet) (corrected : Nat) (bad : List Nat) (lat : Nat) (s : State) : Result :=
  let g := s.gate i
  match s.net.front i pkt.src pkt.oclass 1 with
  | none => ok s
  | some f =>
    let s1 := s.dropFlight f
    let bad' := bad.filter (fun k => decide (k < answerLength pkt.body))
    event (s.domOn 87 && f.pkt = pkt && (isAnswer pkt.body || pkt.body = .nack .offline || pkt.body = .nack .noroute)) s
      (if !isAnswer pkt.body then s1
       else match g.outstanding.find? (fun o => o.tag = pkt.tag) with
         | none =>
           (s1.modGate i (fun g => { g with quarantine := g.quarantine.erase pkt.tag })).modNet (fun n => { n with lateAnswers := n.lateAnswers + 1 })
         | some o =>
           let s2 := dataChecks i o.dest o.addr corrected bad'.length (s1.modGate i (fun g => { g with outstanding := g.outstanding.erase o }))
           deliverAnswer i o.who o.body (poisonBody bad' pkt.body) (countLatency i lat s2))

/-! ### Lost transactions (R392, R393, R397) -/

/-- A transaction is completed LOST; its tag waits (R392, log 37). -/
def loseOne (i : Nat) (s : State) (o : Outstanding) : State :=
  let s := s.modGate i (fun g => { g with outstanding := g.outstanding.erase o, quarantine := g.quarantine ++ [o.tag] })
  let s := s.modNet (fun n => { n with lostCount := n.lostCount + 1 })
  deliverAnswer i o.who o.body (networkAnswer .lost o.body) s

/-- GATE_DROP_NOTICE (R397): a notice names a transaction, or, without a tag, completes all that are outstanding. -/
def execGateDropNotice (i tag : Nat) (s : State) : Result :=
  let g := s.gate i
  let lost := if tag = 255 then g.outstanding else g.outstanding.filter (fun o => o.tag = tag)
  match s.net.wire.find? (fun f => flightArrived f && f.inp = i && f.pkt.body = .headerNotice tag) with
  | some f => event (s.domOn 87) s (lost.foldl (loseOne i) (s.dropFlight f))
  | none => ok s

/-- RSP_TIMEOUT (R392): the transaction with the tag has not been answered in time. -/
def execRspTimeout (i tag : Nat) (s : State) : Result :=
  match (s.gate i).outstanding.find? (fun o => o.tag = tag) with
  | some o => event (s.domOn 87) s (loseOne i (reportGate 0x3604 i o.dest o.addr s) o)
  | none => ok s

/-- TAG_QUARANTINE_END (R392): 4 × RSP_TIMEOUT has passed. -/
def execTagQuarantineEnd (i tag : Nat) (s : State) : Result :=
  event ((s.gate i).quarantine.contains tag) s (s.modGate i (fun g => { g with quarantine := g.quarantine.erase tag }))

/-! ### What a pour tick does to the regulators (R400, R403) -/

/-- A class whose oldest request waits on its bucket. -/
def classThrottled (s : State) (i tc : Nat) : Bool :=
  match (s.gate i).waiting.find? (fun p => p.tc = tc) with
  | some p => !bucketAllows s i tc p.body
  | none => false

/-- Ten CLK_NOC cycles of one bucket. -/
def bucketTick (i : Nat) (s : State) (tc : Nat) : State :=
  let s := if classThrottled s i tc then s.modGate i (fun g => { g with throttled := Tab.modify 0 g.throttled tc (fun n => n + 10) }) else s
  s.modGate i (fun g => { g with spent := Tab.modify 0 g.spent tc (fun d => d - 10 * rateOf s i tc) })

/-- The regulators of every gate, for one pour tick. -/
def regulatorTick (s : State) : State :=
  (s.net.gates.map (·.1)).foldl (fun s i => [0, 1, 2, 3].foldl (bucketTick i) s) s

end Sys2Proof.Machine
end

