-- ==== Sys2Proof/Machine/Release.lean ====
section
/-! DEFINITION. Placing and releasing an image: the flasks, the entries and the "M" fields it sets, boundary credits, what begins at a
release, and the backing records (R571-R582, R591, R601-R603, R615, R616). -/

namespace Sys2Proof.Machine

/-! ### What an image gives a flask (R571-R573, R577) -/

/-- Word `w` of the frames of flask `p` in a space, from frame `base` on; 0 where the image gives none. -/
def imageWord (fs : List (Nat × List Word)) (p space base w : Nat) : Word :=
  match framed fs (faOf p space (base + w / 32)) with
  | some ws => ws.getD (w % 32) 0
  | none => 0

/-- Word `o` of the record of context `x` as the loader uses it: bytes 0x0000-0x022B and 0x0400-0x0BFF. -/
def imageRecord (fs : List (Nat × List Word)) (p x o : Nat) : Word :=
  if o < 139 || (256 ≤ o && o < 768) then imageWord fs p 0 (64 * x) o else 0

/-- The context an image defines: registered words with V = 0, buffers empty (R119), its cells checked (R58). -/
def imageContext (fs : List (Nat × List Word)) (p x : Nat) : Ctx := checkCells (ctxFrom (imageRecord fs p x))

/-- Slot `n` of a flask at release; without RES it is EMPTY. -/
def imageSlot (fs : List (Nat × List Word)) (p n : Nat) : Slot :=
  let w := (slotWords fs p).getD n 0
  let x := w.toNat % 256
  if w.getLsbD 31 then { Slot.reset with st := .resident, ctxId := x, pin := w.getLsbD 30, ctx := imageContext fs p x }
  else { Slot.reset with pin := w.getLsbD 30 }

/-- A flask takes its image: slots, S registers and block memories; its sequencer starts afresh. -/
def imageFlask (fs : List (Nat × List Word)) (p : Nat) (f : Flask) : Flask :=
  { f with
    slots := Tab.ofFn Slot.reset (imageSlot fs p) (List.range 16)
    s := Tab.ofFn 0 (imageWord fs p 3 0) (List.range 4)
    bm0 := Tab.ofFn 0 (imageWord fs p 1 0) (List.range 1024)
    bm1 := Tab.ofFn 0 (imageWord fs p 1 32) (List.range 1024)
    scrub := [], wb := [], reads := [], lastRan := [], cur := 16, nxt := 16, prev := 16, runLen := 0, cyc := .reset, eng := [], engOp := .idle
    credits := []
    defined := definedBy fs p }

/-- A crucible takes its image: memories, registers (R146); it is HALTED until something starts it. Its stream FIFOs and counters stay. -/
def imageCru (fs : List (Nat × List Word)) (p : Nat) (c : Cru) : Cru :=
  let fresh : Cru :=
    { Cru.reset with
      pm := Tab.ofFn 0 (imageWord fs p 2 0) (List.range 4096)
      x := Tab.ofFn 0 (imageWord fs p 2 128) (List.range 4096)
      y := Tab.ofFn 0 (imageWord fs p 2 256) (List.range 4096)
      si := c.si, so := c.so, cycles := c.cycles, stalls := c.stalls }
  (List.range 46).foldl (fun c n => c.write n (if n < 32 then imageWord fs p 3 1 n else imageWord fs p 3 2 (n - 32))) fresh

/-- A flask and its crucible take the image. -/
def placeFlask (fs : List (Nat × List Word)) (p : Nat) (s : State) : State :=
  (s.modFlask p (imageFlask fs p)).modCru p (imageCru fs p)

/-- The pairs of every resident context of a flask are checked (R111). -/
def checkFlaskPairs (img : Nat → Nat → Option Ctx) (s : State) (p : Nat) : State :=
  (List.range 16).foldl (fun s n => if ((s.flask p).slot n).st = .resident then checkPairs img p n s else s) s

/-- The contexts that a release brings into force, by flask and ID. -/
def imageContexts (fs : List (Nat × List Word)) (ps : List Nat) (p x : Nat) : Option Ctx :=
  if ps.contains p && (definedBy fs p).contains x then some (imageContext fs p x) else none

/-- The context whose record a release writes: a side that the pair check disabled stays so (R111). -/
def releasedContext (s : State) (p x : Nat) : Ctx :=
  let c := imageContext s.loader.staged p x
  { c with srcEn := s.loader.srcOff.foldl (fun b e => if e.1 = p && e.2.1 = x then clearSide b e.2.2 else b) c.srcEn }

/-- The engines of the loaded flasks hand the writes of the backing records to their gates, in ascending context ID (R18, R119, R602). -/
def writeRecords (ps : List Nat) (s : State) : State :=
  ps.foldl (fun s p => ((definedBy s.loader.staged p).mergeSort (· ≤ ·)).foldl (fun s x =>
    writeRecord (releaseMark x) p x (releasedContext s p x) (dropAnswers p (releaseMark x) s)) s) s

/-! ### Boundary credits (R615) -/

/-- The flasks that a release acts on: those of a partial image's region, or every powered flask. -/
def loadedFlasks (s : State) : List Nat :=
  (List.range 72).filter (fun p => if s.loader.isPartial then s.loader.region.getLsbD p else s.domOn p)

/-- Words that context `x` of flask `q` holds in the input buffer of a lane, resident or in its record. -/
def laneHeld (s : State) (q x sl : Nat) : Nat := min 4 (byteOf (s.windowWord q x (1344 + sl / 4)) (sl % 4))

/-- The credits of context `x` of flask `p` on a side and lane toward flask `q`: 4 minus what the receiving context holds. A region flask
holds nothing at release; a context of the region that is not resident is as the image defines it. -/
def lanesCredit (s : State) (fs : List (Nat × List Word)) (inR : Nat → Bool) (p x side lane q : Nat) : Nat :=
  let word (o : Nat) : Word := if inR p then imageRecord fs p x o else s.windowWord p x o
  if (word 136).getLsbD (8 + side) && !inR q then 4 - laneHeld s q (byteOf (word 137) side) (8 * facing side + lane) else 4

/-- Counters of one flask on every lane into or out of the region. -/
def resetCredits (fs : List (Nat × List Word)) (inR : Nat → Bool) (s : State) (p : Nat) : State :=
  match s.logicalOf p with
  | none => s
  | some k =>
    let keys := (s.flask p).defined.flatMap (fun x => (List.range 4).flatMap (fun side => (List.range 8).map (fun lane => (x, side, lane))))
    keys.foldl (fun s (x, side, lane) =>
      match neighbour k side with
      | none => s
      | some j =>
        let q := s.physOf j
        if inR p || inR q then
          let v := lanesCredit s fs inR p x side lane q
          s.modFlask p (fun f => { f with credits := Tab.set 4 f.credits (creditKey x (8 * side + lane)) v })
        else s) s

/-! ### Entry records and "M" fields (R575-R577, R582) -/

/-- An entry that is 64 bits wide. -/
def wideEntry (idx sub : Nat) : Bool :=
  match findEntry idx sub with
  | some r => r.bits = 64
  | none => false

/-- The entry and the value that a record makes: it is a half of a 64-bit entry, the upper one at the next subindex, or a whole one. -/
def recordWrite (s : State) (idx sub : Nat) (v : Word) : Nat × DWord :=
  if 0 < sub && wideEntry idx (sub - 1) then (sub - 1, v ++ (s.setting idx (sub - 1)).setWidth 32)
  else if wideEntry idx sub then (sub, ((s.setting idx sub >>> 32).setWidth 32 : Word) ++ v)
  else (sub, v.setWidth 64)

/-- Apply one record as a committed write: check 6, then the entry's own effect. The hold of R612 is the loader's own. -/
def applyRecord (idx sub : Nat) (v : Word) (s : State) : Option State :=
  let (sub, v) := recordWrite s idx sub v
  let bits := if wideEntry idx sub then 64 else 32
  if (valueBad idx sub bits v).isSome then none
  else
    let v := v &&& entryMask idx sub
    match (if idx < 0x3000 then mgmtApply 0 0 idx sub v s else if idx < 0x4000 then coreApply 0 0 idx sub v s else fabricApply 0 idx sub v s) with
    | .ok s' => some s'
    | .error _ => none

/-- The records of an image in frame and record order (R576). -/
def imageRecords (fs : List (Nat × List Word)) : List (Nat × Nat × Word) :=
  (fs.filter (fun f => faTarget f.1 = 0x7F)).flatMap (fun f => entryRecords 16 f.2)

/-- All the records as the writes of one transaction: one that fails leaves every entry at 0 (R576, R655). Records of blocks without power
have no target. -/
def applyRecords : List (Nat × Nat × Word) → State → Option State
  | [], s => some s
  | r :: rs, s =>
    if !s.domOn (domainOf r.1) then applyRecords rs s
    else match applyRecord r.1 r.2.1 r.2.2 s with
      | some s' => applyRecords rs s'
      | none => none

/-- Drop the stored values of the entries that `g` names: they read 0. -/
def dropSettings (g : Nat → Nat → Bool) (s : State) : State :=
  { s with dict := { s.dict with settings := s.dict.settings.filter (fun e => !g (e.1 / 256 % 65536) (e.1 % 256)) } }

/-- Image-default entries that a release sets: all of them, or those of region flasks. -/
def releasedEntry (s : State) (idx sub : Nat) : Bool :=
  imageEntry idx sub && (!s.loader.isPartial || (entryFlask idx).any (fun p => s.loader.region.getLsbD p))

/-- The image-default entries take the image's values, 0 where it gives none; a flask whose BASE leaves dispatch cuts its FIFO (R103). -/
def releaseEntries (s : State) : State :=
  let was := (List.range 72).filter (fun p => seqBase (s.seqCfg p) = 2)
  let s := dropSettings (releasedEntry s) s
  let s := (applyRecords (imageRecords s.loader.staged) s).getD s
  was.foldl (fun s p => if seqBase (s.seqCfg p) = 2 then s else cutFifo p s) s

/-- One record of the settings block sets its field, without reserved bits (R10). A record of INJ_ENTRY names no entry of the injection program: it
gives entry 0 (log 40, DESIGN CHOICE), which the delay area's program replaces where the area is valid. -/
def loadSetting (s : State) (r : Nat × Nat × Word) : State :=
  let w := recordWrite s r.1 r.2.1 r.2.2
  let v := w.2 &&& entryMask r.1 w.1
  let s := s.putSetting r.1 w.1 v
  if 0x3100 ≤ r.1 && r.1 < 0x3180 && r.1 % 16 = 2 && w.1 = 2 then
    s.modChan ((r.1 - 0x3100) / 16) (fun c => { c with inj := Tab.set 0 c.inj 0 v })
  else s

/-- The "M" fields are loaded from the active slot's settings block (R581, R582); without an active slot they stay. -/
def loadSettings (s : State) : State :=
  match slotToBe s with
  | none => s
  | some n => ((settingsRecords s n).filter (fun r => settingsEntry r.1 r.2.1)).foldl loadSetting (dropSettings settingsEntry s)

/-! ### Release (R601, R615, R616) -/

/-- Crucibles with AUTORUN run from ENTRY (R189). -/
def autorun (s : State) (p : Nat) : State :=
  let w := s.settingW (0x4100 + p) 3
  if w.getLsbD 31 then s.modCru p (fun c => { startAt (w.toNat % 4096) c with st := .running }) else s

/-- Roles at the release of a full image: columns 0-7 become ACTIVE, powered flasks of column 8 SPARE_IDLE. -/
def fullRole (p : Nat) (f : Flask) : Flask :=
  if p % 9 < 8 then { f with role := .active, logical := 8 * (p / 9) + p % 9 } else { f with role := .spareIdle, logical := 0 }

/-- A stopped region flask becomes ACTIVE, and its gate port opens. -/
def partialRole (s : State) (p : Nat) : State :=
  if (s.flask p).role = .stopped then openPort (p / 9) (p % 9) (s.modFlask p (fun f => { f with role := .active })) else s

/-- A catch channel begins (R447): with valid delays it goes ONLINE; a channel that Hold held returns to its state before it instead. -/
def releaseChannel (s : State) (n : Nat) : State :=
  if (s.chan n).held then (if s.power.dimmWait then s else loadDelays s n)
  else if (delayArea s n).st = .valid && s.domOn (78 + n) then whenLocked n .online chanOnline (loadDelays s n)
  else s

/-- Ladle cores load FW_DEFAULT's slot (R315). -/
def releaseCore (s : State) (c : Nat) : State :=
  if s.domOn 86 && (s.core c).st = .off then startLoad c ((s.settingW 0x3410 1).getLsbD 0) .start s else s

/-- What the release of a full image begins beside its flasks. -/
def releaseDevice (s : State) : State :=
  let old := s
  let slot := slotToBe s
  let s := loadSettings s
  let s := s.modLoader (fun l => { l with released := true, actValid := slot.isSome, actSlot := slot.getD 0, fullVersion := some l.version })
  { s with lmap := [], pins := { s.pins with configured := true }
           power := { s.power with wanted := 0, hold := if s.power.hold = .exiting then .running else s.power.hold, holdEmergency := false } }
  |> releaseEntries |> (fun s => holdLevels (settlePins old s))

/-- Channels, cores and ports begin after the entries are in. -/
def releaseBlocks (s : State) : State :=
  let s := returnChannels ((List.range 8).foldl releaseChannel s)
  (List.range 6).foldl (fun s n => autoEnable n s) ((List.range 8).foldl releaseCore s)

/-- IMAGE_RELEASE (R601, R615): on one pour tick every target starts from its new configuration. -/
def execImageRelease (s : State) : Result :=
  let fs := s.loader.staged
  let ps := loadedFlasks s
  let place (s : State) : State := ps.foldl (fun s p => placeFlask fs p s) s
  let finish (s : State) : State :=
    let s := ps.foldl (checkFlaskPairs (imageContexts fs ps)) (s.modLoader (fun l => { l with srcOff := [] }))
    writeRecords ps ((ps.foldl autorun s).modLoader (fun l => { l with st := .records }))
  event (s.loader.st = .releasing && s.tickFree && s.domOn 87) s
    (if s.loader.isPartial then
       finish ((List.range 72).foldl (resetCredits fs (fun p => s.loader.region.getLsbD p)) (releaseEntries (ps.foldl partialRole (place s))))
     else
       let s1 := ps.foldl (fun s p => s.modFlask p (fullRole p)) (place s)
       let s2 := releaseBlocks (releaseDevice s1)
       finish (if s.loader.booting then bootRecovered (s2.modLoader (fun l => { l with booting := false, toTry := [] })) else s2))

/-! ### Before and after (R591, R602, R603) -/

/-- LOADER_PLACED (R591, R603): every staged frame has been written. An uncorrectable staging word fails a full load, and stops every flask of
a partial one. -/
def execLoaderPlaced (ecc : Ecc) (s : State) : Result :=
  let l := s.loader
  let stopAll (s : State) : State := ((List.range 72).filter (fun p => l.region.getLsbD p)).foldl (fun s p => flaskHalt p s) s
  event (l.st = .placing && s.domOn 87 && (l.isPartial || domainsReady s)) s
    (if ecc = .uncorrectable then endLoad 0x390D (l.frames + 1) 0 l.isPartial (if l.isPartial then stopAll s else s)
     else (noteEcc ecc s).modLoader (fun l => { l with st := .releasing }))

/-- A record whose writes were not all answered OK leaves its context FAULTED (R602). -/
def recordOf (p : Nat) (s : State) (x : Nat) : State :=
  let good := (List.range 128).all (fun k => engAnswer s p (releaseMark x k) = some (.wack .ok false))
  let s1 := dropAnswers p (releaseMark x) s
  if good then s1
  else
    let s2 := match (s1.flask p).residentSlot x with
      | some n => s1.modFlask p (fun f => f.modSlot n (fun y => { y with faulted := true }))
      | none => s1
    reportLoader 0x390C 0 (faOf p 0 (64 * x)) s2

/-- LOADER_RECORDS_COMPLETE (R119, R602): every write of the records of the loaded flasks has been answered. -/
def execLoaderRecordsComplete (s : State) : Result :=
  let fs := s.loader.staged
  let ps := loadedFlasks s
  event (s.loader.st = .records && s.domOn 87 && ps.all (fun p => (definedBy fs p).all (fun x => allAnswered s p (releaseMark x)))) s
    ((ps.foldl (fun s p => (definedBy fs p).foldl (recordOf p) s) s).modLoader (fun l =>
      { l with st := .idle, staged := [], srcOff := [], releases := l.releases + 1 }))

end Sys2Proof.Machine
end

