-- ==== Sys2Proof/Machine/Dispatch.lean ====
section
/-! DEFINITION. The meaning of every command, one arm each. -/

namespace Sys2Proof.Machine

def exec (i : Instr) (s : State) : Host.Outcome State Fault Refusal :=
  match i with
  | .cellPass p c ev => Sys2Proof.Machine.execCellPass p c ev s
  | .cellAdd p c ev => Sys2Proof.Machine.execCellAdd p c ev s
  | .cellSub p c ev => Sys2Proof.Machine.execCellSub p c ev s
  | .cellAnd p c ev => Sys2Proof.Machine.execCellAnd p c ev s
  | .cellOr p c ev => Sys2Proof.Machine.execCellOr p c ev s
  | .cellXor p c ev => Sys2Proof.Machine.execCellXor p c ev s
  | .cellAndn p c ev => Sys2Proof.Machine.execCellAndn p c ev s
  | .cellShl p c ev => Sys2Proof.Machine.execCellShl p c ev s
  | .cellShr p c ev => Sys2Proof.Machine.execCellShr p c ev s
  | .cellSar p c ev => Sys2Proof.Machine.execCellSar p c ev s
  | .cellRol p c ev => Sys2Proof.Machine.execCellRol p c ev s
  | .cellRor p c ev => Sys2Proof.Machine.execCellRor p c ev s
  | .cellExtu p c ev => Sys2Proof.Machine.execCellExtu p c ev s
  | .cellExts p c ev => Sys2Proof.Machine.execCellExts p c ev s
  | .cellIns p c ev => Sys2Proof.Machine.execCellIns p c ev s
  | .cellPopc p c ev => Sys2Proof.Machine.execCellPopc p c ev s
  | .cellClz p c ev => Sys2Proof.Machine.execCellClz p c ev s
  | .cellMinu p c ev => Sys2Proof.Machine.execCellMinu p c ev s
  | .cellMaxu p c ev => Sys2Proof.Machine.execCellMaxu p c ev s
  | .cellMins p c ev => Sys2Proof.Machine.execCellMins p c ev s
  | .cellMaxs p c ev => Sys2Proof.Machine.execCellMaxs p c ev s
  | .cellCmpeq p c ev => Sys2Proof.Machine.execCellCmpeq p c ev s
  | .cellCmpne p c ev => Sys2Proof.Machine.execCellCmpne p c ev s
  | .cellCmpltu p c ev => Sys2Proof.Machine.execCellCmpltu p c ev s
  | .cellCmplts p c ev => Sys2Proof.Machine.execCellCmplts p c ev s
  | .cellCmpleu p c ev => Sys2Proof.Machine.execCellCmpleu p c ev s
  | .cellCmples p c ev => Sys2Proof.Machine.execCellCmples p c ev s
  | .cellSel p c ev => Sys2Proof.Machine.execCellSel p c ev s
  | .cellLfsr p c ev => Sys2Proof.Machine.execCellLfsr p c ev s
  | .cellCrc8 p c ev => Sys2Proof.Machine.execCellCrc8 p c ev s
  | .cellPar p c ev => Sys2Proof.Machine.execCellPar p c ev s
  | .cellQpush p c ev => Sys2Proof.Machine.execCellQpush p c ev s
  | .cellQpop p c ev => Sys2Proof.Machine.execCellQpop p c ev s
  | .qpopResult p n c st w parity => Sys2Proof.Machine.execQpopResult p n c st w parity s
  | .bmPortRead p n lo hi parity => Sys2Proof.Machine.execBmPortRead p n lo hi parity s
  | .bmPortWrite p n ecc parity => Sys2Proof.Machine.execBmPortWrite p n ecc parity s
  | .bmScrubWriteback p m => Sys2Proof.Machine.execBmScrubWriteback p m s
  | .sequencerChoice p ev => Sys2Proof.Machine.execSequencerChoice p ev s
  | .flaskDispatchMsg p ctx run token core tag => Sys2Proof.Machine.execFlaskDispatchMsg p ctx run token core tag s
  | .dispatchEntryRetire p => Sys2Proof.Machine.execDispatchEntryRetire p s
  | .boundaryCross p sl parity => Sys2Proof.Machine.execBoundaryCross p sl parity s
  | .ctxSpill p => Sys2Proof.Machine.execCtxSpill p s
  | .ctxSpillComplete p => Sys2Proof.Machine.execCtxSpillComplete p s
  | .ctxFill p => Sys2Proof.Machine.execCtxFill p s
  | .ctxFillComplete p => Sys2Proof.Machine.execCtxFillComplete p s
  | .ctxCmdFill path p x n => Sys2Proof.Machine.execCtxCmdFill path p x n s
  | .ctxCmdSpill path p n => Sys2Proof.Machine.execCtxCmdSpill path p n s
  | .ctxCmdPin path p n => Sys2Proof.Machine.execCtxCmdPin path p n s
  | .ctxCmdUnpin path p n => Sys2Proof.Machine.execCtxCmdUnpin path p n s
  | .ctxCmdEvict path p n => Sys2Proof.Machine.execCtxCmdEvict path p n s
  | .ctxStatusClr path p w => Sys2Proof.Machine.execCtxStatusClr path p w s
  | .ctxWinDataRead path p => Sys2Proof.Machine.execCtxWinDataRead path p s
  | .recastCmdStart path k target => Sys2Proof.Machine.execRecastCmdStart path k target s
  | .recastCmdCancel path k => Sys2Proof.Machine.execRecastCmdCancel path k s
  | .recastCmdRelease path p => Sys2Proof.Machine.execRecastCmdRelease path p s
  | .recastPrecopyComplete y => Sys2Proof.Machine.execRecastPrecopyComplete y s
  | .recastFreeze y => Sys2Proof.Machine.execRecastFreeze y s
  | .recastDone y => Sys2Proof.Machine.execRecastDone y s
  | .recastTimeout y => Sys2Proof.Machine.execRecastTimeout y s
  | .recastTargetFault y => Sys2Proof.Machine.execRecastTargetFault y s
  | .cruNop p ev => Sys2Proof.Machine.execCruNop p ev s
  | .cruHalt p ev => Sys2Proof.Machine.execCruHalt p ev s
  | .cruB p ev => Sys2Proof.Machine.execCruB p ev s
  | .cruCall p ev => Sys2Proof.Machine.execCruCall p ev s
  | .cruRet p ev => Sys2Proof.Machine.execCruRet p ev s
  | .cruReti p ev => Sys2Proof.Machine.execCruReti p ev s
  | .cruRep p ev => Sys2Proof.Machine.execCruRep p ev s
  | .cruBrep p ev => Sys2Proof.Machine.execCruBrep p ev s
  | .cruEi p ev => Sys2Proof.Machine.execCruEi p ev s
  | .cruDi p ev => Sys2Proof.Machine.execCruDi p ev s
  | .cruMov p ev => Sys2Proof.Machine.execCruMov p ev s
  | .cruLoad p ev => Sys2Proof.Machine.execCruLoad p ev s
  | .cruStore p ev => Sys2Proof.Machine.execCruStore p ev s
  | .cruModp p ev => Sys2Proof.Machine.execCruModp p ev s
  | .cruAdd p ev => Sys2Proof.Machine.execCruAdd p ev s
  | .cruSub p ev => Sys2Proof.Machine.execCruSub p ev s
  | .cruAnd p ev => Sys2Proof.Machine.execCruAnd p ev s
  | .cruOr p ev => Sys2Proof.Machine.execCruOr p ev s
  | .cruXor p ev => Sys2Proof.Machine.execCruXor p ev s
  | .cruAndn p ev => Sys2Proof.Machine.execCruAndn p ev s
  | .cruShl p ev => Sys2Proof.Machine.execCruShl p ev s
  | .cruShr p ev => Sys2Proof.Machine.execCruShr p ev s
  | .cruSar p ev => Sys2Proof.Machine.execCruSar p ev s
  | .cruCmp p ev => Sys2Proof.Machine.execCruCmp p ev s
  | .cruMpy p ev => Sys2Proof.Machine.execCruMpy p ev s
  | .cruMac p ev => Sys2Proof.Machine.execCruMac p ev s
  | .cruMsu p ev => Sys2Proof.Machine.execCruMsu p ev s
  | .cruMacs p ev => Sys2Proof.Machine.execCruMacs p ev s
  | .cruCmpy p ev => Sys2Proof.Machine.execCruCmpy p ev s
  | .cruCmac p ev => Sys2Proof.Machine.execCruCmac p ev s
  | .cruCmsu p ev => Sys2Proof.Machine.execCruCmsu p ev s
  | .cruCmacj p ev => Sys2Proof.Machine.execCruCmacj p ev s
  | .cruClr p ev => Sys2Proof.Machine.execCruClr p ev s
  | .cruExt32 p ev => Sys2Proof.Machine.execCruExt32 p ev s
  | .cruExt16 p ev => Sys2Proof.Machine.execCruExt16 p ev s
  | .cruSin p ev => Sys2Proof.Machine.execCruSin p ev s
  | .cruSout p ev => Sys2Proof.Machine.execCruSout p ev s
  | .cruInterruptAccept p => Sys2Proof.Machine.execCruInterruptAccept p s
  | .cruHoldoffLimit p => Sys2Proof.Machine.execCruHoldoffLimit p s
  | .cruScrubWriteback p => Sys2Proof.Machine.execCruScrubWriteback p s
  | .cruCmdRun path p useEntry entry => Sys2Proof.Machine.execCruCmdRun path p useEntry entry s
  | .cruCmdHalt path p => Sys2Proof.Machine.execCruCmdHalt path p s
  | .cruHaltPoint p => Sys2Proof.Machine.execCruHaltPoint p s
  | .cruCmdStep path p ev => Sys2Proof.Machine.execCruCmdStep path p ev s
  | .cruCmdClearPorts path p => Sys2Proof.Machine.execCruCmdClearPorts path p s
  | .cruWinWrite path p v => Sys2Proof.Machine.execCruWinWrite path p v s
  | .cruWinDataRead path p late ecc => Sys2Proof.Machine.execCruWinDataRead path p late ecc s
  | .cruStickyClear path p w => Sys2Proof.Machine.execCruStickyClear path p w s
  | .push src q sop ws corrected bad ev same => Sys2Proof.Machine.execPush src q sop ws corrected bad ev same s
  | .rewind src q ev => Sys2Proof.Machine.execRewind src q ev s
  | .pop src q max tag bad ev => Sys2Proof.Machine.execPop src q max tag bad ev s
  | .crWaitExpiry q => Sys2Proof.Machine.execCrWaitExpiry q s
  | .revokeAck src q n ev => Sys2Proof.Machine.execRevokeAck src q n ev s
  | .watchSet src q n en => Sys2Proof.Machine.execWatchSet src q n en s
  | .gateCredit gi q n => Sys2Proof.Machine.execGateCredit gi q n s
  | .gateRevoke gi q => Sys2Proof.Machine.execGateRevoke gi q s
  | .gateWatchState gi q ix ne => Sys2Proof.Machine.execGateWatchState gi q ix ne s
  | .gatePushSend gi q => Sys2Proof.Machine.execGatePushSend gi q s
  | .deepSpillAnswer q ev => Sys2Proof.Machine.execDeepSpillAnswer q ev s
  | .deepRefillAnswer q ev => Sys2Proof.Machine.execDeepRefillAnswer q ev s
  | .deepBlocksWrite path v => Sys2Proof.Machine.execDeepBlocksWrite path v s
  | .deepInitComplete => Sys2Proof.Machine.execDeepInitComplete s
  | .queueEnable path v ev => Sys2Proof.Machine.execQueueEnable path v ev s
  | .queueDisable path v ev => Sys2Proof.Machine.execQueueDisable path v ev s
  | .flush path v ev => Sys2Proof.Machine.execFlush path v ev s
  | .tundishSweepComplete q ev => Sys2Proof.Machine.execTundishSweepComplete q ev s
  | .bar4Push q v => Sys2Proof.Machine.execBar4Push q v s
  | .bar4PushLast q v => Sys2Proof.Machine.execBar4PushLast q v s
  | .bar4PushAbandon q ofs => Sys2Proof.Machine.execBar4PushAbandon q ofs s
  | .bar4CreditTake q ofs => Sys2Proof.Machine.execBar4CreditTake q ofs s
  | .bar4Pop q => Sys2Proof.Machine.execBar4Pop q s
  | .lcQueuePush c ev => Sys2Proof.Machine.execLcQueuePush c ev s
  | .lcQueuePushLast c ev => Sys2Proof.Machine.execLcQueuePushLast c ev s
  | .qpushTimeout c => Sys2Proof.Machine.execQpushTimeout c s
  | .lcQueuePop c ev => Sys2Proof.Machine.execLcQueuePop c ev s
  | .lcPopResponse c st ws => Sys2Proof.Machine.execLcPopResponse c st ws s
  | .lcQueueRewind c ev => Sys2Proof.Machine.execLcQueueRewind c ev s
  | .lcInstruction c ev => Sys2Proof.Machine.execLcInstruction c ev s
  | .lcRunnerLoad c ev => Sys2Proof.Machine.execLcRunnerLoad c ev s
  | .lcRunnerStore c ev => Sys2Proof.Machine.execLcRunnerStore c ev s
  | .lcFence c ev => Sys2Proof.Machine.execLcFence c ev s
  | .ldm c n ev => Sys2Proof.Machine.execLdm c n ev s
  | .stm c n ev => Sys2Proof.Machine.execStm c n ev s
  | .bret c ev => Sys2Proof.Machine.execBret c ev s
  | .mret c ev => Sys2Proof.Machine.execMret c ev s
  | .lcDispatchAccept c => Sys2Proof.Machine.execLcDispatchAccept c s
  | .lcSourceTrap c src => Sys2Proof.Machine.execLcSourceTrap c src s
  | .lcLevelEntry c src => Sys2Proof.Machine.execLcLevelEntry c src s
  | .xbreadyWrite c ev => Sys2Proof.Machine.execXbreadyWrite c ev s
  | .xbwdataWrite c ev => Sys2Proof.Machine.execXbwdataWrite c ev s
  | .bankSpill c => Sys2Proof.Machine.execBankSpill c s
  | .bankSpillComplete c corrected bad => Sys2Proof.Machine.execBankSpillComplete c corrected bad s
  | .bankFill c => Sys2Proof.Machine.execBankFill c s
  | .bankFillComplete c corrected bad => Sys2Proof.Machine.execBankFillComplete c corrected bad s
  | .lcFwLoadComplete c => Sys2Proof.Machine.execLcFwLoadComplete c s
  | .lcCmdPark path c => Sys2Proof.Machine.execLcCmdPark path c s
  | .lcParkComplete c => Sys2Proof.Machine.execLcParkComplete c s
  | .lcCmdJoin path c => Sys2Proof.Machine.execLcCmdJoin path c s
  | .lcCmdReload path c slotB => Sys2Proof.Machine.execLcCmdReload path c slotB s
  | .lcCmdRestart path c slotB => Sys2Proof.Machine.execLcCmdRestart path c slotB s
  | .post c lev ev => Sys2Proof.Machine.execPost c lev ev s
  | .send c lev ev => Sys2Proof.Machine.execSend c lev ev s
  | .waitMatch c lev ev => Sys2Proof.Machine.execWaitMatch c lev ev s
  | .delay c lev ev => Sys2Proof.Machine.execDelay c lev ev s
  | .yield c lev ev => Sys2Proof.Machine.execYield c lev ev s
  | .cancel c lev ev => Sys2Proof.Machine.execCancel c lev ev s
  | .create c lev ev => Sys2Proof.Machine.execCreate c lev ev s
  | .fdispatch c lev ev => Sys2Proof.Machine.execFdispatch c lev ev s
  | .abandon c lev ev => Sys2Proof.Machine.execAbandon c lev ev s
  | .restart c lev ev => Sys2Proof.Machine.execRestart c lev ev s
  | .done c same lev ev => Sys2Proof.Machine.execDone c same lev ev s
  | .attnRead c ev => Sys2Proof.Machine.execAttnRead c ev s
  | .cupolaDispatch ev => Sys2Proof.Machine.execCupolaDispatch ev s
  | .dispatchWithdraw c => Sys2Proof.Machine.execDispatchWithdraw c s
  | .delayExpiry t => Sys2Proof.Machine.execDelayExpiry t s
  | .matchTimeout t => Sys2Proof.Machine.execMatchTimeout t s
  | .ringPop ev => Sys2Proof.Machine.execRingPop ev s
  | .ringRetry r => Sys2Proof.Machine.execRingRetry r s
  | .flaskCompletion k ctx token cut ev => Sys2Proof.Machine.execFlaskCompletion k ctx token cut ev s
  | .cupolaHaltPlacement c ev => Sys2Proof.Machine.execCupolaHaltPlacement c ev s
  | .tCmdCreate path => Sys2Proof.Machine.execTCmdCreate path s
  | .tCmdCancel path => Sys2Proof.Machine.execTCmdCancel path s
  | .tCmdRestart path => Sys2Proof.Machine.execTCmdRestart path s
  | .tCmdRelease path => Sys2Proof.Machine.execTCmdRelease path s
  | .gateInject gi tc => Sys2Proof.Machine.execGateInject gi tc s
  | .runnerHop k ev => Sys2Proof.Machine.execRunnerHop k ev s
  | .gateAnswer gi pkt corrected bad lat => Sys2Proof.Machine.execGateAnswer gi pkt corrected bad lat s
  | .gateDropNotice gi tag => Sys2Proof.Machine.execGateDropNotice gi tag s
  | .rspTimeout gi tag => Sys2Proof.Machine.execRspTimeout gi tag s
  | .tagQuarantineEnd gi tag => Sys2Proof.Machine.execTagQuarantineEnd gi tag s
  | .portDrained r n => Sys2Proof.Machine.execPortDrained r n s
  | .closeTimeout r n => Sys2Proof.Machine.execCloseTimeout r n s
  | .portCreditsExchanged r n => Sys2Proof.Machine.execPortCreditsExchanged r n s
  | .rtrCmdApply path r => Sys2Proof.Machine.execRtrCmdApply path r s
  | .routeTableSwitch r => Sys2Proof.Machine.execRouteTableSwitch r s
  | .rtrCmdDiscard path r => Sys2Proof.Machine.execRtrCmdDiscard path r s
  | .rd n pkt => Sys2Proof.Machine.execRd n pkt s
  | .wr n pkt corrected bad => Sys2Proof.Machine.execWr n pkt corrected bad s
  | .fold n pkt corrected bad => Sys2Proof.Machine.execFold n pkt corrected bad s
  | .foldEntryIssue n line => Sys2Proof.Machine.execFoldEntryIssue n line s
  | .lineAccessIssue n sub busy errs bad corr => Sys2Proof.Machine.execLineAccessIssue n sub busy errs bad corr s
  | .rdataSend n => Sys2Proof.Machine.execRdataSend n s
  | .wackSend n => Sys2Proof.Machine.execWackSend n s
  | .refreshObligation n cs cid bank => Sys2Proof.Machine.execRefreshObligation n cs cid bank s
  | .refsbIssue n cs cid bank => Sys2Proof.Machine.execRefsbIssue n cs cid bank s
  | .phyPllLock n => Sys2Proof.Machine.execPhyPllLock n s
  | .chCfgWrite path n v => Sys2Proof.Machine.execChCfgWrite path n v s
  | .chCmdOnline path n => Sys2Proof.Machine.execChCmdOnline path n s
  | .chCmdOffline path n => Sys2Proof.Machine.execChCmdOffline path n s
  | .channelDrainComplete n => Sys2Proof.Machine.execChannelDrainComplete n s
  | .chCmdGather path n => Sys2Proof.Machine.execChCmdGather path n s
  | .chCmdRunInj path n => Sys2Proof.Machine.execChCmdRunInj path n s
  | .injRunComplete n caps => Sys2Proof.Machine.execInjRunComplete n caps s
  | .chCmdSweep path n => Sys2Proof.Machine.execChCmdSweep path n s
  | .trainSweepComplete n caps => Sys2Proof.Machine.execTrainSweepComplete n caps s
  | .chCmdAbortRun path n caps => Sys2Proof.Machine.execChCmdAbortRun path n caps s
  | .chCmdEndGatherAccept path n => Sys2Proof.Machine.execChCmdEndGatherAccept path n s
  | .chCmdEndGatherFail path n => Sys2Proof.Machine.execChCmdEndGatherFail path n s
  | .chCmdSaveDelays path n => Sys2Proof.Machine.execChCmdSaveDelays path n s
  | .saveDelaysComplete n => Sys2Proof.Machine.execSaveDelaysComplete n s
  | .catchAlert n => Sys2Proof.Machine.execCatchAlert n s
  | .phyClockLoss n => Sys2Proof.Machine.execPhyClockLoss n s
  | .evacCmdStart path src dst => Sys2Proof.Machine.execEvacCmdStart path src dst s
  | .evacCmdCancel path => Sys2Proof.Machine.execEvacCmdCancel path s
  | .evacCopyComplete errs => Sys2Proof.Machine.execEvacCopyComplete errs s
  | .evacSwitch => Sys2Proof.Machine.execEvacSwitch s
  | .zeroCmdStart path => Sys2Proof.Machine.execZeroCmdStart path s
  | .zeroCmdCancel path => Sys2Proof.Machine.execZeroCmdCancel path s
  | .zeroComplete => Sys2Proof.Machine.execZeroComplete s
  | .mapEnable path w v => Sys2Proof.Machine.execMapEnable path w v s
  | .mapDisable path w => Sys2Proof.Machine.execMapDisable path w s
  | .dataFrame n ws cut ecc => Sys2Proof.Machine.execDataFrame n ws cut ecc s
  | .ackFrame n ws cut => Sys2Proof.Machine.execAckFrame n ws cut s
  | .nakFrame n ws cut ecc => Sys2Proof.Machine.execNakFrame n ws cut ecc s
  | .initFrame n ws cut ecc => Sys2Proof.Machine.execInitFrame n ws cut ecc s
  | .retrainRunStart n prev b => Sys2Proof.Machine.execRetrainRunStart n prev b s
  | .laneBlockLock n l => Sys2Proof.Machine.execLaneBlockLock n l s
  | .laneBlockLockLoss n l => Sys2Proof.Machine.execLaneBlockLockLoss n l s
  | .laneMarkerLock n l k => Sys2Proof.Machine.execLaneMarkerLock n l k s
  | .laneMarkerLockLoss n l => Sys2Proof.Machine.execLaneMarkerLockLoss n l s
  | .lanesAligned n skews eqs => Sys2Proof.Machine.execLanesAligned n skews eqs s
  | .dataFrameSend n => Sys2Proof.Machine.execDataFrameSend n s
  | .ackDelayExpiry n => Sys2Proof.Machine.execAckDelayExpiry n s
  | .replayTimeout n ecc => Sys2Proof.Machine.execReplayTimeout n ecc s
  | .keepalive n => Sys2Proof.Machine.execKeepalive n s
  | .deadTimeout n => Sys2Proof.Machine.execDeadTimeout n s
  | .alignTimeout n => Sys2Proof.Machine.execAlignTimeout n s
  | .initTimeout n => Sys2Proof.Machine.execInitTimeout n s
  | .retrainHold n => Sys2Proof.Machine.execRetrainHold n s
  | .initInterval n => Sys2Proof.Machine.execInitInterval n s
  | .attemptCounterReset n => Sys2Proof.Machine.execAttemptCounterReset n s
  | .linkCmdEnable path n => Sys2Proof.Machine.execLinkCmdEnable path n s
  | .linkCmdDisable path n force => Sys2Proof.Machine.execLinkCmdDisable path n force s
  | .linkCmdReset path n force => Sys2Proof.Machine.execLinkCmdReset path n force s
  | .linkCmdRetrain path n => Sys2Proof.Machine.execLinkCmdRetrain path n s
  | .serdesRefLoss n shared => Sys2Proof.Machine.execSerdesRefLoss n shared s
  | .heatCmdOpen path n sl => Sys2Proof.Machine.execHeatCmdOpen path n sl s
  | .heatCmdHold path n sl => Sys2Proof.Machine.execHeatCmdHold path n sl s
  | .heatCmdResume path n sl => Sys2Proof.Machine.execHeatCmdResume path n sl s
  | .heatCmdMark path n sl => Sys2Proof.Machine.execHeatCmdMark path n sl s
  | .heatCmdClose path n sl => Sys2Proof.Machine.execHeatCmdClose path n sl s
  | .heatCmdAbort path n sl => Sys2Proof.Machine.execHeatCmdAbort path n sl s
  | .heatCmdClear path n sl => Sys2Proof.Machine.execHeatCmdClear path n sl s
  | .openAck n => Sys2Proof.Machine.execOpenAck n s
  | .openNak n => Sys2Proof.Machine.execOpenNak n s
  | .applied n => Sys2Proof.Machine.execApplied n s
  | .markDone n => Sys2Proof.Machine.execMarkDone n s
  | .closed n => Sys2Proof.Machine.execClosed n s
  | .void n => Sys2Proof.Machine.execVoid n s
  | .gap n => Sys2Proof.Machine.execGap n s
  | .fail n => Sys2Proof.Machine.execFail n s
  | .param n => Sys2Proof.Machine.execParam n s
  | .vectorPop n => Sys2Proof.Machine.execVectorPop n s
  | .vectorPopResponse n => Sys2Proof.Machine.execVectorPopResponse n s
  | .vectorPopRetry n => Sys2Proof.Machine.execVectorPopRetry n s
  | .openTimeout n sl => Sys2Proof.Machine.execOpenTimeout n sl s
  | .appliedTimeout n sl => Sys2Proof.Machine.execAppliedTimeout n sl s
  | .drainTimeout n sl => Sys2Proof.Machine.execDrainTimeout n sl s
  | .headerRecord ecc => Sys2Proof.Machine.execHeaderRecord ecc s
  | .frameRecord ecc => Sys2Proof.Machine.execFrameRecord ecc s
  | .endRecord ecc => Sys2Proof.Machine.execEndRecord ecc s
  | .loaderSourceExhausted => Sys2Proof.Machine.execLoaderSourceExhausted s
  | .loaderQuiesced => Sys2Proof.Machine.execLoaderQuiesced s
  | .ldDrainTimeout => Sys2Proof.Machine.execLdDrainTimeout s
  | .loaderPlaced ecc => Sys2Proof.Machine.execLoaderPlaced ecc s
  | .imageRelease => Sys2Proof.Machine.execImageRelease s
  | .loaderRecordsComplete => Sys2Proof.Machine.execLoaderRecordsComplete s
  | .ldCmdLoadSlot path n => Sys2Proof.Machine.execLdCmdLoadSlot path n s
  | .ldCmdLoadCatch path => Sys2Proof.Machine.execLdCmdLoadCatch path s
  | .ldCmdAbandon path => Sys2Proof.Machine.execLdCmdAbandon path s
  | .scpRecord ws => Sys2Proof.Machine.execScpRecord ws s
  | .scpStatus => Sys2Proof.Machine.execScpStatus s
  | .scpAbandon => Sys2Proof.Machine.execScpAbandon s
  | .scpError => Sys2Proof.Machine.execScpError s
  | .scpTimeout => Sys2Proof.Machine.execScpTimeout s
  | .msCmdOpen path n code => Sys2Proof.Machine.execMsCmdOpen path n code s
  | .msDataWrite path n bs => Sys2Proof.Machine.execMsDataWrite path n bs s
  | .msCmdClose path n damaged => Sys2Proof.Machine.execMsCmdClose path n damaged s
  | .msCmdCancel path n => Sys2Proof.Machine.execMsCmdCancel path n s
  | .bootOrderWrite path v => Sys2Proof.Machine.execBootOrderWrite path v s
  | .sdoDownload idx sub bs more form keylockN ev => Sys2Proof.Machine.execSdoDownload idx sub bs more form keylockN ev s
  | .sdoUpload idx sub room form ecc ev => Sys2Proof.Machine.execSdoUpload idx sub room form ecc ev s
  | .sdoSegment bs last room keylockN => Sys2Proof.Machine.execSdoSegment bs last room keylockN s
  | .sdoSegmentTimeout => Sys2Proof.Machine.execSdoSegmentTimeout s
  | .getOdList => Sys2Proof.Machine.execGetOdList s
  | .getObjectDescription idx => Sys2Proof.Machine.execGetObjectDescription idx s
  | .getEntryDescription idx sub => Sys2Proof.Machine.execGetEntryDescription idx sub s
  | .dictWrite path idx sub wide v keylockN ev more => Sys2Proof.Machine.execDictWrite path idx sub wide v keylockN ev more s
  | .sessReqRequest path v => Sys2Proof.Machine.execSessReqRequest path v s
  | .sessReqProve path late ev => Sys2Proof.Machine.execSessReqProve path late ev s
  | .sessReqClose path => Sys2Proof.Machine.execSessReqClose path s
  | .sessCmdClose path n => Sys2Proof.Machine.execSessCmdClose path n s
  | .sessIdleTimeout n => Sys2Proof.Machine.execSessIdleTimeout n s
  | .keyLockoutEnd k => Sys2Proof.Machine.execKeyLockoutEnd k s
  | .keyCmdSet path k level keylockN => Sys2Proof.Machine.execKeyCmdSet path k level keylockN s
  | .keyCmdClear path k keylockN => Sys2Proof.Machine.execKeyCmdClear path k keylockN s
  | .txCmdBegin path => Sys2Proof.Machine.execTxCmdBegin path s
  | .txCmdCommit path w => Sys2Proof.Machine.execTxCmdCommit path w s
  | .txCmdRollback path => Sys2Proof.Machine.execTxCmdRollback path s
  | .txCommitTick ev => Sys2Proof.Machine.execTxCommitTick ev s
  | .chillCmdFire path => Sys2Proof.Machine.execChillCmdFire path s
  | .chillCmdFireAt path => Sys2Proof.Machine.execChillCmdFireAt path s
  | .chillCmdRelease path b => Sys2Proof.Machine.execChillCmdRelease path b s
  | .chillCmdCancelAt path => Sys2Proof.Machine.execChillCmdCancelAt path s
  | .chillTake => Sys2Proof.Machine.execChillTake s
  | .logEntryWrite => Sys2Proof.Machine.execLogEntryWrite s
  | .recastCeWindowExpiry => Sys2Proof.Machine.execRecastCeWindowExpiry s
  | .logAck path v => Sys2Proof.Machine.execLogAck path v s
  | .pciePerstRelease => Sys2Proof.Machine.execPciePerstRelease s
  | .pcieReset down perst => Sys2Proof.Machine.execPcieReset down perst s
  | .bar2Read a n => Sys2Proof.Machine.execBar2Read a n s
  | .bar2Write a first last ws ep => Sys2Proof.Machine.execBar2Write a first last ws ep s
  | .dmaEnable path q => Sys2Proof.Machine.execDmaEnable path q s
  | .dmaDisable path q => Sys2Proof.Machine.execDmaDisable path q s
  | .dmaDescriptorPop e => Sys2Proof.Machine.execDmaDescriptorPop e s
  | .dmaHostReadCompletion e ws ep bad => Sys2Proof.Machine.execDmaHostReadCompletion e ws ep bad s
  | .dmaQ2hRepop e => Sys2Proof.Machine.execDmaQ2hRepop e s
  | .dmaDescriptorComplete e => Sys2Proof.Machine.execDmaDescriptorComplete e s
  | .msixUnmask v addr data masked on mask => Sys2Proof.Machine.execMsixUnmask v addr data masked on mask s
  | .alRequestInit => Sys2Proof.Machine.execAlRequestInit s
  | .alRequestPreop start0 len0 start1 len1 => Sys2Proof.Machine.execAlRequestPreop start0 len0 start1 len1 s
  | .alRequestSafeop start2 len2 start3 len3 => Sys2Proof.Machine.execAlRequestSafeop start2 len2 start3 len3 s
  | .alRequestOp => Sys2Proof.Machine.execAlRequestOp s
  | .alRequestBoot => Sys2Proof.Machine.execAlRequestBoot s
  | .sm2Watchdog => Sys2Proof.Machine.execSm2Watchdog s
  | .mailboxUnsupported type => Sys2Proof.Machine.execMailboxUnsupported type s
  | .rxpdoExchange bs more => Sys2Proof.Machine.execRxpdoExchange bs more s
  | .txpdoSample => Sys2Proof.Machine.execTxpdoSample s
  | .dcOffsetWrite t => Sys2Proof.Machine.execDcOffsetWrite t s
  | .sync1Event => Sys2Proof.Machine.execSync1Event s
  | .ecatLinkChange k up => Sys2Proof.Machine.execEcatLinkChange k up s
  | .bankSupplyChange b supply => Sys2Proof.Machine.execBankSupplyChange b supply s
  | .bankSettle b => Sys2Proof.Machine.execBankSettle b s
  | .pinInputChange n drive => Sys2Proof.Machine.execPinInputChange n drive s
  | .triggerEdge k level => Sys2Proof.Machine.execTriggerEdge k level s
  | .captureEdge n rising => Sys2Proof.Machine.execCaptureEdge n rising s
  | .i2cXfer path n addr wr rd => Sys2Proof.Machine.execI2cXfer path n addr wr rd s
  | .i2cTransferDone n result rx => Sys2Proof.Machine.execI2cTransferDone n result rx s
  | .i2cStuck n => Sys2Proof.Machine.execI2cStuck n s
  | .spiXfer path n k => Sys2Proof.Machine.execSpiXfer path n k s
  | .spiTransferDone n rx => Sys2Proof.Machine.execSpiTransferDone n rx s
  | .uartTx path n bytes => Sys2Proof.Machine.execUartTx path n bytes s
  | .uartRx path n => Sys2Proof.Machine.execUartRx path n s
  | .uartRxByte n b => Sys2Proof.Machine.execUartRxByte n b s
  | .trigFire path k v => Sys2Proof.Machine.execTrigFire path k v s
  | .stbFire path v => Sys2Proof.Machine.execStbFire path v s
  | .strobeEnd j => Sys2Proof.Machine.execStrobeEnd j s
  | .powerOnResetRelease bootSel scpMode keylockN => Sys2Proof.Machine.execPowerOnResetRelease bootSel scpMode keylockN s
  | .pllLock undrained => Sys2Proof.Machine.execPllLock undrained s
  | .pllLockLoss => Sys2Proof.Machine.execPllLockLoss s
  | .pwrgoodFall k undrained => Sys2Proof.Machine.execPwrgoodFall k undrained s
  | .pwrCmdOn path d => Sys2Proof.Machine.execPwrCmdOn path d s
  | .pwrCmdOff path d => Sys2Proof.Machine.execPwrCmdOff path d s
  | .domainSwitchGrant d => Sys2Proof.Machine.execDomainSwitchGrant d s
  | .domainSettled d => Sys2Proof.Machine.execDomainSettled d s
  | .domainRampTimeout d => Sys2Proof.Machine.execDomainRampTimeout d s
  | .domainPowerOff d => Sys2Proof.Machine.execDomainPowerOff d s
  | .rstCmdCore path undrained => Sys2Proof.Machine.execRstCmdCore path undrained s
  | .rstCmdMgmt path => Sys2Proof.Machine.execRstCmdMgmt path s
  | .mgmtAutoReset => Sys2Proof.Machine.execMgmtAutoReset s
  | .holdCmdEnter path => Sys2Proof.Machine.execHoldCmdEnter path s
  | .holdCmdExit path => Sys2Proof.Machine.execHoldCmdExit path s
  | .dimmPwrWaitExpiry => Sys2Proof.Machine.execDimmPwrWaitExpiry s
  | .thermSample t => Sys2Proof.Machine.execThermSample t s
  | .markerReceived n l b bip => Sys2Proof.Machine.execMarkerReceived n l b bip s
  | .codingErrorBlock n b inFrame => Sys2Proof.Machine.execCodingErrorBlock n b inFrame s
  | .mirrorRead path idx sub wide ecc ev more => Sys2Proof.Machine.execMirrorRead path idx sub wide ecc ev more s
  | .pcieLinkUp rate width busMaster msixOn => Sys2Proof.Machine.execPcieLinkUp rate width busMaster msixOn s
  | .pwrgoodRise k => Sys2Proof.Machine.execPwrgoodRise k s
  | .mailboxInRead => Sys2Proof.Machine.execMailboxInRead s

end Sys2Proof.Machine
end

