-- ==== Sys2Proof/Machine/Tick.lean ====
section
/-! DEFINITION. What a pour tick does by itself. -/

namespace Sys2Proof.Machine

/-- What the blocks of the core domain do in a pour tick: buckets fill (R400), flits follow their headers (R386), the tundish moves deep words and latches
its pool counters (R256), Cupola counts its tick (R347) and latches its own (R361), and the ladle cores theirs (R318). -/
def coreTick (s : State) : State :=
  if !s.domOn 87 then s else
  bankCountTick (latchCupola (cupolaTick (tundishTick ((regulatorTick s).modNet followAll))))

/-- The signal of probe channel `c` (R738), `half` being CLK_MGT divided by 2: an S register bit of a logical flask, a heat slot live, a port ACTIVE,
LOG_UNACK not 0, a channel ONLINE, or a constant. -/
def probeSignal (s : State) (c : Nat) : Bool :=
  let v := s.settingN (0x25B0 + c) 1
  match v / 2 ^ 28 with
  | 1 => true
  | 2 => s.pins.half
  | 3 => (Tab.get 0 (s.flask (s.physOf (v / 2 ^ 8 % 64))).s (v / 2 ^ 5 % 4)).getLsbD (v % 32)
  | 4 => (s.heat (v / 2 ^ 4 % 8) (v % 2)).st.live
  | 5 => (s.vport (v % 8)).st = .active
  | 6 => logUnack s ≠ 0
  | 7 => (s.chan (v % 8)).st = .online
  | _ => false

/-- The probe channels are sampled (R738). -/
def sampleProbes (s : State) : State :=
  let s := keepDriven s (s.modPins (fun p => { p with half := !p.half }))
  s.modPins (fun p => { p with probe := (List.range 16).foldl (fun b c => if probeSignal s c then b ||| (1#16 <<< c) else b) 0 })

/-- A pour tick of 6.25 ns with no command waiting (log 3): a chill that is due takes the state at its start (R668), POUR_COUNT and the distributed
clock advance (R748, R721), the core's blocks do their part, a pin's changeover ends (R733), the probe channels are sampled (R738) and a replaying port resends its next frame (R498). -/
def pourTick (s : State) : State :=
  let s := if s.power.pllLocked && chillCauses s ≠ 0 then chillTaken s else s
  villetTick (sampleProbes (endSwitching (coreTick (s.tick.modChill (fun c => { c with settled := c.intake.length })))))

end Sys2Proof.Machine
end

