-- ==== Sys2Proof/Machine/Step.lean ====
section
/-! DEFINITION. One step: the command that has waited longest, or a pour tick where none waits. -/

namespace Sys2Proof.Machine

/-- Take the command at the front of the queue and run it with the queue's rest; with none waiting a pour tick passes. -/
def step (s : State) : Host.Outcome State Fault Refusal :=
  match s.pending with
  | [] => .next (pourTick s)
  | c :: rest => exec c { s with pending := rest }

/-- A state with the command that a word spells at the front of its queue. The table gives no row any bits, so no word spells one (log 49). -/
def State.withFetchWord (s : State) (nbits w : Nat) : State :=
  match decodeTableWord nbits w with
  | some c => { s with pending := c :: s.pending }
  | none => s

end Sys2Proof.Machine
end

