-- ==== Sys2Proof/Safety.lean ====
section
/-! DEFINITION. The terms in which claims are made: a command that completes, a dictionary command that the agent admits, what an answer of
the agent may change, and the invariant of every step. -/

namespace Sys2Proof.Machine

/-- The command completes: it answers a next state, of which `P` holds. -/
def Answers (c : Instr) (s : State) (P : State → Prop) : Prop := ∃ t, exec c s = .next t ∧ P t

/-- An access of `path` to an entry reaches the dictionary agent and passes what every write meets before its own checks: checks 1, 2 and 4
of R625, and the block's power, the session's commit and BOOT of check 9 (R657, R722, R765). -/
abbrev Admitted (s : State) (path idx sub level : Nat) : Prop :=
  s.reaches path = true ∧ s.gateCheck path idx sub level = none ∧ s.fits path idx = true

/-- The same for a read: the block has power and BOOT lets the index through (R722, R765). -/
abbrev Readable (s : State) (path idx sub level : Nat) : Prop :=
  s.reaches path = true ∧ s.gateCheck path idx sub level = none ∧ s.entryReads idx sub = true ∧ s.bootBars path idx = false

/-- Of the agent and the network nothing changes but the records of the paths, the packets in flight and their hop credits: the access was answered. -/
def OnlyAnswered (s t : State) : Prop :=
  t.dict = { s.dict with paths := t.dict.paths } ∧ t.net = { s.net with wire := t.net.wire, credits := t.net.credits }

/-- The canonical form of what the machine holds sparsely: catch memory, the ladle SRAM, flasks, crucibles, ladle cores, recasts and power domains. -/
def State.canonical (s : State) : Bool :=
  Tab.wf none s.dram && Tab.wf { d := 0, p := false } s.sram && Tab.wf Flask.reset s.flasks && Tab.wf Cru.reset s.crus &&
    Tab.wf LcCore.reset s.cores && Tab.wf Recast.reset s.recasts && Tab.wf Dom.reset s.power.doms

/-- The invariant of every step: the canonical form, the log's bounds of 64 errors at intake and 256 entries (R680, R681), and the 16 Emergency messages that may wait (R720). -/
abbrev Inv (s : State) : Prop :=
  s.canonical = true ∧ s.chill.intake.length ≤ 64 ∧ s.chill.ring.length ≤ 256 ∧ s.ecat.mails.length ≤ 16

/-- How many errors of a code and object the intake holds. -/
def reportsOf (s : State) (code kind oid : Nat) : Nat := s.chill.intake.countP (fun e => e.code = code && e.kind = kind && e.oid = oid)

/-- An error of a code and object has been reported to the intake, where it has room (R680). -/
def Reports (s t : State) (code kind oid : Nat) : Prop :=
  s.chill.intake.length < 64 → reportsOf s code kind oid < reportsOf t code kind oid

/-- A flask has stopped with its crucible on an error that was reported (R63). -/
def FlaskStopped (s t : State) (p code : Nat) : Prop :=
  (t.flask p).role = .stopped ∧ (t.cru p).st = .stopped ∧ (t.flask p).cur = 16 ∧ Reports s t code 1 p

/-- The operations of a fabric cell by the code of the configuration word that names them (R45). -/
def fabricOps : List (Nat × (Nat → Nat → FabEv → Instr)) := [
  (0x01, .cellPass), (0x02, .cellAdd), (0x03, .cellSub), (0x04, .cellAnd), (0x05, .cellOr), (0x06, .cellXor), (0x07, .cellAndn),
  (0x08, .cellShl), (0x09, .cellShr), (0x0A, .cellSar), (0x0B, .cellRol), (0x0C, .cellRor), (0x0D, .cellExtu), (0x0E, .cellExts),
  (0x0F, .cellIns), (0x10, .cellPopc), (0x11, .cellClz), (0x12, .cellMinu), (0x13, .cellMaxu), (0x14, .cellMins), (0x15, .cellMaxs),
  (0x16, .cellCmpeq), (0x17, .cellCmpne), (0x18, .cellCmpltu), (0x19, .cellCmplts), (0x1A, .cellCmpleu), (0x1B, .cellCmples),
  (0x1C, .cellSel), (0x1D, .cellLfsr), (0x1E, .cellCrc8), (0x1F, .cellPar), (0x20, .cellQpush), (0x21, .cellQpop)
]

end Sys2Proof.Machine
end

