-- ==== Sys2Proof/Certificates/Slice0/Obligations.lean ====
section
/-! DEFINITION. The statements for the provers, by chapter of the spec. Each docstring names the rules a statement follows; what is the
model's own choice it says, with the entry of the log. -/

open Sys2Proof Sys2Proof.Machine

/-! ### Cells, block memories, lanes and the sequencer -/

namespace Sys2Proof.Machine

/-- The running context of physical flask `p`. -/
def State.runCtx (s : State) (p : Nat) : Ctx := ((s.flask p).slot (s.flask p).cur).ctx

/-- Cell `c` of flask `p` fires the operation `opc` in the present cycle, and is not passing an idle item (R40, R43). -/
abbrev CellFires (s : State) (p c opc : Nat) : Prop :=
  cellCanFire s p c = true ∧ cfgOpc ((s.flask p).cyc.ctx.cell c) = opc ∧ idlePasses (s.flask p).cyc c = false

/-- The flags of cell `c` at the start of the cycle. -/
def State.cellFlags (s : State) (p c : Nat) : CellFlags := Tab.get CellFlags.reset (s.flask p).cyc.ctx.flags c

/-- Y with the tags of the selected operand stands in the output register of cell `c`, its flags are `fl`, and Y is in the K and S registers that its
word names (R41, R42, R45); of the machine outside the flasks nothing changed but the model's count of free values. -/
def CellWrote (s t : State) (p c : Nat) (y : Word) (fl : CellFlags) : Prop :=
  let f := s.flask p
  let w := f.cyc.ctx.cell c
  Tab.get TWord.empty (t.runCtx p).out c = mkTWord y (resultTags f.cyc c).1 (resultTags f.cyc c).2 ∧
  Tab.get CellFlags.reset (t.runCtx p).flags c = fl ∧
  (cfgKwe w = true → Tab.get 0 (t.runCtx p).k (8 * c + cfgKdst w) = y) ∧
  (cfgSwe w = true → Tab.get 0 f.cyc.sBy (cfgSdst w) = 0 → Tab.get 0 (t.flask p).s (cfgSdst w) = y) ∧
  t = { s with flasks := t.flasks, fresh := t.fresh }

/-- Flags with Z and N of a result. -/
def withZN (fl : CellFlags) (y : Word) : CellFlags := { fl with z := decide (y.toNat = 0), n := decide (2 ^ 31 ≤ y.toNat) }

/-- The carry in that CIN_SEL selects (R57): the base for ADD is 0 and for SUB 1; 0b10 is the carry out of the west neighbour. -/
def carryOf (s : State) (p c base : Nat) : Nat :=
  match cfgCin ((s.flask p).cyc.ctx.cell c) with
  | 0 => base
  | 1 => 1 - base
  | 2 => if c % 8 = 0 then 0 else (carryOut (s.flask p).cyc (c / 8) (s.freeBit p) (c % 8 - 1)).toNat
  | _ => (s.cellFlags p c).c.toNat

/-- A signed 32-bit sum does not fit. -/
def sumOverflows (v : Int) : Bool := decide (v < -2 ^ 31 ∨ 2 ^ 31 ≤ v)

end Sys2Proof.Machine

/-- R45, R54, R57: ADD and SUB write the low 32 bits of A + B + cin and of A + NOT B + cin, C is the carry out of bit 31, OV signed overflow. R45: the logic operations, SEL
and the compares; a compare writes all ones or zero and F. Commands it says complete: cellPass, cellAdd, cellSub, cellAnd, cellOr, cellXor, cellAndn, cellCmpeq,
cellCmpne, cellCmpltu, cellCmplts, cellCmpleu, cellCmples, cellSel. -/
def Obligations.CellArithmeticAndLogicResult : Prop :=
  (∀ (s : State) (p c : Nat),
    let a := operandA (s.flask p).cyc c
    let b := operandB (s.flask p).cyc c
    let fl := s.cellFlags p c
    (CellFires s p c 0x02 → Answers (.cellAdd p c .clean) s (fun t =>
      let k := carryOf s p c 0
      let y := BitVec.ofNat 32 (a.toNat + b.toNat + k)
      CellWrote s t p c y (withZN { fl with c := decide (2 ^ 32 ≤ a.toNat + b.toNat + k), ov := sumOverflows (a.toInt + b.toInt + k) } y))) ∧
    (CellFires s p c 0x03 → Answers (.cellSub p c .clean) s (fun t =>
      let k := carryOf s p c 1
      let nb := 2 ^ 32 - 1 - b.toNat
      let y := BitVec.ofNat 32 (a.toNat + nb + k)
      CellWrote s t p c y (withZN { fl with c := decide (2 ^ 32 ≤ a.toNat + nb + k), ov := sumOverflows (a.toInt - b.toInt - 1 + k) } y)))) ∧
  (∀ (s : State) (p c : Nat),
    let a := operandA (s.flask p).cyc c
    let b := operandB (s.flask p).cyc c
    let fl := s.cellFlags p c
    let logic (op : Instr) (y : Word) : Prop := Answers op s (fun t => CellWrote s t p c y (withZN fl y))
    let cmp (op : Instr) (h : Bool) : Prop := Answers op s (fun t =>
      CellWrote s t p c (if h then 0xFFFFFFFF#32 else 0#32) { fl with f := h, z := !h, n := h })
    (CellFires s p c 0x01 → logic (.cellPass p c .clean) a) ∧
    (CellFires s p c 0x04 → logic (.cellAnd p c .clean) (a &&& b)) ∧
    (CellFires s p c 0x05 → logic (.cellOr p c .clean) (a ||| b)) ∧
    (CellFires s p c 0x06 → logic (.cellXor p c .clean) (a ^^^ b)) ∧
    (CellFires s p c 0x07 → logic (.cellAndn p c .clean) (a &&& ~~~b)) ∧
    (CellFires s p c 0x1C → logic (.cellSel p c .clean) (if fl.f then a else b)) ∧
    (CellFires s p c 0x16 → cmp (.cellCmpeq p c .clean) (decide (a.toNat = b.toNat))) ∧
    (CellFires s p c 0x17 → cmp (.cellCmpne p c .clean) (decide (a.toNat ≠ b.toNat))) ∧
    (CellFires s p c 0x18 → cmp (.cellCmpltu p c .clean) (decide (a.toNat < b.toNat))) ∧
    (CellFires s p c 0x19 → cmp (.cellCmplts p c .clean) (decide (a.toInt < b.toInt))) ∧
    (CellFires s p c 0x1A → cmp (.cellCmpleu p c .clean) (decide (a.toNat ≤ b.toNat))) ∧
    (CellFires s p c 0x1B → cmp (.cellCmples p c .clean) (decide (a.toInt ≤ b.toInt))))

/-- R45, R46: shifts, rotates, fields, counts, minima and maxima, over the numbers their operands stand for. A field that passes bit 31 is cut there. Which of two equal
operands a minimum chose is not stated, so F is then free (log 19). Commands it says complete: cellShl, cellShr, cellSar, cellRol, cellRor, cellExtu, cellExts, cellIns,
cellPopc, cellClz, cellMinu, cellMaxu, cellMins, cellMaxs. -/
def Obligations.CellShiftFieldAndMinimumResult : Prop :=
  ∀ (s : State) (p c : Nat),
    let y := (s.flask p).cyc
    let a := operandA y c
    let b := operandB y c
    let fl := s.cellFlags p c
    let n := b.toNat % 32
    let imm := (cfgImm (y.ctx.cell c)).toNat
    let pos := imm % 32
    let wid := min (imm / 32 % 32 + 1) (32 - pos)
    let fld := a.toNat / 2 ^ pos % 2 ^ wid
    let done (op : Instr) (r : Word) (g : CellFlags) : Prop := Answers op s (fun t => CellWrote s t p c r (withZN g r))
    let pick (op : Instr) (chooseA : Bool) : Prop :=
      (a ≠ b → done op (if chooseA then a else b) { fl with f := chooseA }) ∧ (a = b → ∃ f, done op a { fl with f := f })
    (CellFires s p c 0x08 → done (.cellShl p c .clean) (BitVec.ofNat 32 (a.toNat * 2 ^ n)) { fl with c := decide (a.toNat * 2 ^ n / 2 ^ 32 % 2 = 1) }) ∧
    (CellFires s p c 0x09 → done (.cellShr p c .clean) (BitVec.ofNat 32 (a.toNat / 2 ^ n)) { fl with c := decide (2 * a.toNat / 2 ^ n % 2 = 1) }) ∧
    (CellFires s p c 0x0A → done (.cellSar p c .clean) (BitVec.ofInt 32 (a.toInt / 2 ^ n)) { fl with c := decide (2 * a.toNat / 2 ^ n % 2 = 1) }) ∧
    (CellFires s p c 0x0B → done (.cellRol p c .clean) (BitVec.ofNat 32 (a.toNat * 2 ^ n + a.toNat / 2 ^ (32 - n)))
      { fl with c := decide ((a.toNat * 2 ^ n + a.toNat / 2 ^ (32 - n)) % 2 = 1) }) ∧
    (CellFires s p c 0x0C → done (.cellRor p c .clean) (BitVec.ofNat 32 (a.toNat / 2 ^ n + a.toNat * 2 ^ (32 - n)))
      { fl with c := decide (2 ^ 31 ≤ (a.toNat / 2 ^ n + a.toNat * 2 ^ (32 - n)) % 2 ^ 32) }) ∧
    (CellFires s p c 0x0D → done (.cellExtu p c .clean) (BitVec.ofNat 32 fld) fl) ∧
    (CellFires s p c 0x0E → done (.cellExts p c .clean)
      (BitVec.ofInt 32 (if 2 ^ (wid - 1) ≤ fld then (fld : Int) - 2 ^ wid else fld)) fl) ∧
    (CellFires s p c 0x0F → done (.cellIns p c .clean)
      (BitVec.ofNat 32 (b.toNat % 2 ^ pos + a.toNat % 2 ^ wid * 2 ^ pos + b.toNat / 2 ^ (pos + wid) * 2 ^ (pos + wid))) fl) ∧
    (CellFires s p c 0x12 → pick (.cellMinu p c .clean) (decide (a.toNat < b.toNat))) ∧
    (CellFires s p c 0x13 → pick (.cellMaxu p c .clean) (decide (b.toNat < a.toNat))) ∧
    (CellFires s p c 0x14 → pick (.cellMins p c .clean) (decide (a.toInt < b.toInt))) ∧
    (CellFires s p c 0x15 → pick (.cellMaxs p c .clean) (decide (b.toInt < a.toInt))) ∧
    (CellFires s p c 0x10 → Answers (.cellPopc p c .clean) s (fun t =>
      let m := ((List.range 32).filter (fun i => a.getLsbD i)).length
      CellWrote s t p c (BitVec.ofNat 32 m) { fl with z := decide (m = 0) })) ∧
    (CellFires s p c 0x11 → Answers (.cellClz p c .clean) s (fun t =>
      let m := if a.toNat = 0 then 32 else 31 - Nat.log2 a.toNat
      CellWrote s t p c (BitVec.ofNat 32 m) { fl with z := decide (m = 0) }))

/-- R47-R49: CRC8 is eight steps of reflected CRC-32C over A XOR B[7:0]; PAR puts the parity of A AND K[KM] below B shifted left; LFSR shifts A right and XORs the tap mask
K7 when A[0] is 1. Commands it says complete: cellLfsr, cellCrc8, cellPar. -/
def Obligations.CellCrcParityAndLfsrResult : Prop :=
  ∀ (s : State) (p c : Nat),
    let y := (s.flask p).cyc
    let a := operandA y c
    let b := operandB y c
    let fl := s.cellFlags p c
    let kreg (n : Nat) : Word := Tab.get 0 y.ctx.k (8 * c + n)
    let done (op : Instr) (r : Word) (g : CellFlags) : Prop := Answers op s (fun t => CellWrote s t p c r (withZN g r))
    let crcStep (v : Word) : Word := if v.toNat % 2 = 1 then (v >>> 1) ^^^ 0x82F63B78#32 else v >>> 1
    let par := ((List.range 32).filter (fun i => (a &&& kreg (cfgKm (y.ctx.cell c))).getLsbD i)).length % 2
    (CellFires s p c 0x1E → done (.cellCrc8 p c .clean) (crcStep^[8] (a ^^^ BitVec.ofNat 32 (b.toNat % 256))) fl) ∧
    (CellFires s p c 0x1F → done (.cellPar p c .clean) (BitVec.ofNat 32 (2 * b.toNat + par)) { fl with c := decide (par = 1) }) ∧
    (CellFires s p c 0x1D → done (.cellLfsr p c .clean) ((a >>> 1) ^^^ (if a.toNat % 2 = 1 then kreg 7 else 0#32))
      { fl with c := decide (a.toNat % 2 = 1) })

namespace Sys2Proof.Machine

/-- The gate has the answer to a pop of cell `c` of the context in slot `n`: the word where the queue gave one, and no word otherwise. -/
abbrev PopAnswered (s : State) (p n c : Nat) (st : PopStatus) (w : QWord) : Prop :=
  s.answered (s.flaskNode p) (popMark ((s.flask p).slot n).ctxId c) (.popResp st (if st = .ok || st = .idle then [w] else [])) = true

end Sys2Proof.Machine

/-- R51, R52, R258: QPUSH uses one credit of the gate and hands A with its tags to queue B[17:0], where the sixteenth word gathered sends a PUSH; QPOP adds a pop that waits
and asks the tundish for one word. An answered pop reaches the output register with F = 1, an empty answer writes F = 0 alone. Commands it says complete: cellQpush,
cellQpop, qpopResult. -/
def Obligations.CellQueueOperations : Prop :=
  (∀ (s : State) (p c : Nat), CellFires s p c 0x20 → Answers (.cellQpush p c .clean) s (fun t =>
    let y := (s.flask p).cyc
    let g := s.flaskNode p
    let q := (operandB y c).toNat % 2 ^ 18
    let r := cellRegA y.ctx c
    let x := s.producer g q
    let ws : List QWord := x.gather ++ [{ d := operandA y c, l := r ≠ 255 && (regWord y r).l, i := r ≠ 255 && (regWord y r).i, p := false }]
    (ws.length < 16 → t.producer g q = { x with credits := x.credits - 1, gather := ws } ∧ (t.gate g).waiting = (s.gate g).waiting) ∧
    (16 ≤ ws.length → (t.producer g q).credits = x.credits - 1 ∧ (t.producer g q).gather = ws.drop 16 ∧
      (t.gate g).waiting = (s.gate g).waiting ++ [mkPacket g 81 0 (gateClass s g q) (.push q (!x.midPacket) (ws.take 16))]) ∧
    Tab.get CellFlags.reset (t.runCtx p).flags c = Tab.get CellFlags.reset (s.runCtx p).flags c ∧
    t = { s with flasks := t.flasks, net := t.net })) ∧
  (∀ (s : State) (p c : Nat), CellFires s p c 0x21 → Answers (.cellQpop p c .clean) s (fun t =>
    let g := s.flaskNode p
    Tab.get [] (t.runCtx p).pops c = Tab.get [] (s.runCtx p).pops c ++ [.waiting] ∧
    (t.gate g).waiting = (s.gate g).waiting ++
      [{ mkPacket g 81 0 0 (.pop ((operandB (s.flask p).cyc c).toNat % 2 ^ 18) 1) with who := popMark ((s.flask p).slot (s.flask p).cur).ctxId c }] ∧
    t = { s with flasks := t.flasks, net := t.net })) ∧
  (∀ (s : State) (p n c m : Nat) (st : PopStatus) (w : QWord), s.flaskLive p = true →
    Tab.get [] ((s.flask p).slot n).ctx.pops c = List.replicate (m + 1) .waiting →
    (Tab.get TWord.empty ((s.flask p).slot n).ctx.out c).v = false → w.p = false → PopAnswered s p n c st w →
    Answers (.qpopResult p n c st w false) s (fun t =>
      let x := ((t.flask p).slot n).ctx
      let x0 := ((s.flask p).slot n).ctx
      let fl := Tab.get CellFlags.reset x0.flags c
      Tab.get [] x.pops c = List.replicate m .waiting ∧
      (st = .ok ∨ st = .idle → Tab.get TWord.empty x.out c = mkTWord w.d w.l w.i ∧ Tab.get CellFlags.reset x.flags c = { fl with f := true }) ∧
      (st ≠ .ok ∧ st ≠ .idle → x.out = x0.out ∧ Tab.get CellFlags.reset x.flags c = { fl with f := false }) ∧
      t = { s with flasks := t.flasks, net := t.net }))

/-- R63, R86, R87: a parity error at a cell's register, and an uncorrectable K or S register that it reads, log their error and stop the flask with its crucible; a
corrected one is logged and the operation goes on; a poisoned pop stops the flask. The firing of a cell touches its own flask's running context, S registers and cycle,
the boundary credits of the neighbours whose words it takes, and, for a queue operation, its gate: no other flask, slot, flag or K register, no block memory, no
crucible and no catch memory. -/
def Obligations.CellFaultsAndFrame : Prop :=
  ((∀ (s : State) (p c : Nat) (e : Nat × (Nat → Nat → FabEv → Instr)), e ∈ fabricOps → CellFires s p c e.1 →
    Answers (e.2 p c .parity) s (fun t => FlaskStopped s t p 0x4103) ∧
    (readsBank (s.flask p).cyc.ctx c = true → Answers (e.2 p c .uncorrectable) s (fun t => FlaskStopped s t p 0x4106)) ∧
    (readsBank (s.flask p).cyc.ctx c = true →
      exec (e.2 p c .corrected) s = exec (e.2 p c .clean) (reportAt 0x1102 1 p (flaskAux s p) (BitVec.ofNat 64 c) s)) ∧
    (readsBank (s.flask p).cyc.ctx c = false → exec (e.2 p c .uncorrectable) s = exec (e.2 p c .clean) s)) ∧
  (∀ (s : State) (p n c : Nat) (w : QWord), s.flaskLive p = true → .waiting ∈ Tab.get [] ((s.flask p).slot n).ctx.pops c → w.p = true →
    PopAnswered s p n c .ok w → Answers (.qpopResult p n c .ok w false) s (fun t => FlaskStopped s t p 0x4104))) ∧
  (∀ (s t : State) (p c : Nat) (e : Nat × (Nat → Nat → FabEv → Instr)), e ∈ fabricOps → exec (e.2 p c .clean) s = .next t →
    t = { s with flasks := t.flasks, net := t.net, fresh := t.fresh } ∧
    t.net = { s.net with gates := t.net.gates } ∧
    (∀ i, i ≠ s.flaskNode p → t.gate i = s.gate i) ∧
    (∀ q, q ≠ p → t.flask q = { s.flask q with credits := (t.flask q).credits }) ∧
    t.flask p = { s.flask p with slots := (t.flask p).slots, s := (t.flask p).s, cyc := (t.flask p).cyc, credits := (t.flask p).credits } ∧
    (∀ n, n ≠ (s.flask p).cur → (t.flask p).slot n = (s.flask p).slot n) ∧
    (∀ d, d ≠ c → Tab.get CellFlags.reset (t.runCtx p).flags d = Tab.get CellFlags.reset (s.runCtx p).flags d) ∧
    (∀ j, j ≠ 8 * c + cfgKdst ((s.flask p).cyc.ctx.cell c) → Tab.get 0 (t.runCtx p).k j = Tab.get 0 (s.runCtx p).k j) ∧
    (∀ j, j ≠ cfgSdst ((s.flask p).cyc.ctx.cell c) → Tab.get 0 (t.flask p).s j = Tab.get 0 (s.flask p).s j))

namespace Sys2Proof.Machine

/-- Block memory `m` of flask `p` seen as one string of bits: `w` bits at field number `a` (R77). -/
def bmField (t : Tab Word) (w a : Nat) : Nat := (Tab.get 0 t (a * w / 32 % 1024)).toNat / 2 ^ (a * w % 32) % 2 ^ w

/-- The field width of an aspect (R74): 32, 16, 8 or 4 bits; a ganged access is two words of 32. -/
def aspectWidth (asp : Nat) : Nat := if asp = 1 then 16 else if asp = 2 then 8 else if asp = 3 then 4 else 32

end Sys2Proof.Machine

/-- R77, R79-R82, R84: a read puts the field its address names, as the memory stood at the cycle's start, on its way to the read-data register; a write puts its data into
that field and leaves every other word; a ganged port moves two words. A narrow write keeps the port for another cycle. A corrected word waits from the next cycle on
for its scrub, which is made in a cycle without a write to the memory and ends the wait. Commands it says complete: bmPortRead, bmPortWrite, bmScrubWriteback. -/
def Obligations.BlockMemoryPorts : Prop :=
  ∀ (s : State) (p n : Nat),
    let y := (s.flask p).cyc
    let h := portHalf y.ctx n
    let a := regWord y (128 + portAddrSel h)
    let d := regWord y (128 + portWdSel h)
    let asp := portAspect h
    let w := aspectWidth asp
    let mem (f : Flask) : Tab Word := if n / 2 = 0 then f.bm0 else f.bm1
    let mem0 := if n / 2 = 0 then y.bm0 else y.bm1
    (portCanFire s p n = true → portWrites y n = false → Answers (.bmPortRead p n .ok .ok false) s (fun t =>
      (asp ≤ 3 → Tab.get TWord.empty (t.runCtx p).bmPipe n = mkTWord (BitVec.ofNat 32 (bmField mem0 w a.d.toNat)) a.l false) ∧
      (ganged y.ctx n = true → asp = 4 →
        Tab.get TWord.empty (t.runCtx p).bmPipe n = mkTWord (Tab.get 0 mem0 (2 * (a.d.toNat % 512))) a.l false ∧
        Tab.get TWord.empty (t.runCtx p).bmPipe (n + 1) = mkTWord (Tab.get 0 mem0 (2 * (a.d.toNat % 512) + 1)) a.l false) ∧
      mem (t.flask p) = mem (s.flask p) ∧ t = { s with flasks := t.flasks })) ∧
    (portCanFire s p n = true → portWrites y n = true → y.writes = [] → asp ≤ 3 → Answers (.bmPortWrite p n .ok false) s (fun t =>
      (∀ f, f * w < 32768 → bmField (mem (t.flask p)) w f = if f = a.d.toNat % (32768 / w) then d.d.toNat % 2 ^ w else bmField mem0 w f) ∧
      (Tab.get TWord.empty (t.runCtx p).bmWd n).v = (decide (w < 32) || (Tab.get TWord.empty (s.runCtx p).bmWd n).v) ∧
      t = { s with flasks := t.flasks, recasts := t.recasts })) ∧
    (portCanFire s p n = true → portWrites y n = true → y.writes = [] → ganged y.ctx n = true → asp = 4 → Answers (.bmPortWrite p n .ok false) s (fun t =>
      let wo := 2 * (a.d.toNat % 512)
      ∀ f, Tab.get 0 (mem (t.flask p)) f =
        if f = wo then d.d else if f = wo + 1 then (regWord y (128 + portWdSel (portHalf y.ctx (n + 1)))).d else Tab.get 0 mem0 f)) ∧
    (portCanFire s p n = true → portWrites y n = false → Answers (.bmPortRead p n .corrected .ok false) s (fun t =>
      Reports s t 0x1101 1 p ∧ (t.flask p).cyc.corrected = (n / 2 * 1024 + portWord y n) :: y.corrected)) ∧
    (portCanFire s p n = true → portWrites y n = false → Answers (.bmPortRead p n .uncorrectable .ok false) s (fun t => FlaskStopped s t p 0x4105)) ∧
    (portCanFire s p n = true → portWrites y n = false → Answers (.bmPortRead p n .ok .ok true) s (fun t => FlaskStopped s t p 0x4103)) ∧
    (∀ m, m < 2 → (∃ x ∈ (s.flask p).scrub, x / 1024 = m) → bmWritten s p m = false → Answers (.bmScrubWriteback p m) s (fun t =>
      t.flask p = { s.flask p with scrub := (s.flask p).scrub.filter (fun x => x / 1024 ≠ m) } ∧ t = { s with flasks := t.flasks }))

/-- R92-R94, R104: at the end of a CLK_FAB cycle the slot chosen in it runs, unless throttling withholds the cycle; the counters count; and the next slot is 15 for a true
urgent condition that it can serve, and otherwise a runnable slot or none. A flask that is held still counts an idle cycle and keeps its choice. R99, R100, R102, R358:
a dispatch is answered OK and queued while BASE is dispatch and fewer than eight wait, REFUSED when eight wait, STATE otherwise; the head entry that has run its cycles
leaves the FIFO, and its completion goes to Cupola when its TOKEN is not 0. R110-R114: a word that crosses a lane joins the facing input buffer of the destination
context and uses one of the sender's credits. That a crossing takes no time of its own is the model's choice (log 20). Commands it says complete: sequencerChoice,
flaskDispatchMsg, dispatchEntryRetire, boundaryCross. -/
def Obligations.SequencerDispatchAndCrossings : Prop :=
  ((∀ (s : State) (p : Nat), s.flaskLive p = true → s.heldStill p = false → Answers (.sequencerChoice p .clean) s (fun t =>
    let f := s.flask p
    let g := t.flask p
    g.cur = (if throttled s p then 16 else f.nxt) ∧ g.prev = f.cur ∧ g.cycles = f.cycles + 1 ∧
    g.switches = (if g.cur = f.cur then f.switches else f.switches + 1) ∧ g.idleCycles = (if g.cur = 16 then f.idleCycles + 1 else f.idleCycles) ∧
    (urgentTrue t p = true → g.runnable 15 = true → g.nxt = 15) ∧
    (urgentTrue t p = true → g.runnable 15 = false → g.irqBlocked = f.irqBlocked + 1) ∧
    (g.nxt = 16 ∨ g.runnable g.nxt = true))) ∧
  (∀ (s : State) (p : Nat), s.flaskLive p = true → s.heldStill p = true → Answers (.sequencerChoice p .clean) s (fun t =>
    let f := s.flask p
    let g := t.flask p
    g.cur = f.cur ∧ g.nxt = f.nxt ∧ g.cycles = f.cycles + 1 ∧ g.idleCycles = f.idleCycles + 1 ∧ t.running p = false ∧ t = { s with flasks := t.flasks }))) ∧
  ((∀ (s : State) (p ctx run token core tag : Nat), s.flaskLive p = true → s.frozen p = false →
    s.tagAtFront (s.flaskNode p) 80 0 tag (dispatchBody ctx run token core) = true → Answers (.flaskDispatchMsg p ctx run token core tag) s (fun t =>
    let f := s.flask p
    let answered (r : Nat) : Prop := ∃ x ∈ t.net.wire, x.pkt.src = s.flaskNode p ∧ x.pkt.dest = 80 ∧ x.pkt.tag = tag ∧ x.pkt.body = .crsp .ok r
    (seqBase (s.seqCfg p) ≠ 2 → answered 2 ∧ (t.flask p).fifo = f.fifo) ∧
    (seqBase (s.seqCfg p) = 2 → 8 ≤ f.fifo.length → answered 1 ∧ (t.flask p).fifo = f.fifo) ∧
    (seqBase (s.seqCfg p) = 2 → f.fifo.length < 8 → answered 0 ∧ (t.flask p).fifo.length = f.fifo.length + 1 ∧
      ∃ d ∈ (t.flask p).fifo.getLast?, d.ctxId = ctx % 256 ∧ d.runCycles = run % 65536 ∧ d.token = token % 65536 ∧ d.ran = 0) ∧
    t = { s with flasks := t.flasks, net := t.net })) ∧
  (∀ (s : State) (p : Nat) (d : DispEntry) (rest : List DispEntry), s.flaskLive p = true → (s.flask p).fifo = d :: rest →
    (d.runCycles ≠ 0 ∧ d.runCycles ≤ d.ran) ∨ (d.runCycles = 0 ∧ rest ≠ []) → Answers (.dispatchEntryRetire p) s (fun t =>
      let g := s.flaskNode p
      (t.flask p).fifo = rest ∧
      (d.token = 0 → t.net = s.net) ∧
      (d.token ≠ 0 → (t.gate g).waiting = (s.gate g).waiting ++
        [mkPacket g 80 0 0 (.internal msgCompletion [BitVec.ofNat 32 d.token, BitVec.ofNat 32 d.ctxId, 0])]) ∧
      t = { s with flasks := t.flasks, net := t.net }))) ∧
  (∀ (s : State) (p sl k n : Nat), laneCanCross s p sl = true → neighbour (s.flask p).logical (sl / 8) = some k →
    (s.flask (s.physOf k)).residentSlot (byteOf (s.flask p).cyc.ctx.dest (sl / 8)) = some n →
    Answers (.boundaryCross p sl false) s (fun t =>
      let q := s.physOf k
      let there := 8 * ((sl / 8 + 2) % 4) + sl % 8
      let key := 32 * ((s.flask p).slot (s.flask p).cur).ctxId + sl
      Tab.get [] ((t.flask q).slot n).ctx.inbuf there = Tab.get [] ((s.flask q).slot n).ctx.inbuf there ++ [regWord (s.flask p).cyc (laneCell sl)] ∧
      Tab.get 4 (t.flask p).credits key = Tab.get 4 (s.flask p).credits key - 1 ∧ 0 < Tab.get 4 (s.flask p).credits key ∧
      t = { s with flasks := t.flasks }))

/-- R18, R120-R126, R578: the context engine. A spill of a quiet slot with something to write hands the 128 writes of its record to the gate and leaves it SPILLING, one of
a clean slot leaves it EMPTY at once; once every write is answered the slot is EMPTY. A fill hands over the 128 reads and makes its slot FILLING; once they are answered
it is RESIDENT, FAULTED where a word was poisoned or names another context. A fill of a context that the image does not define, or for which no slot is free, is
refused. Words that are due into the flask cross first. Which request counts among the four, and what RESULT shows, is the model's choice (log 23). Commands it says
complete: ctxSpill, ctxSpillComplete, ctxFill, ctxFillComplete. -/
def Obligations.ContextEngineMoves : Prop :=
  (∀ (s : State) (p n : Nat), spillWanted (s.flask p) = some n → s.flaskLive p = true → (s.flask p).engOp = .idle → s.recording p = false →
    slotQuiet (s.flask p) n = true → Answers (.ctxSpill p) s (fun t =>
      let f := (crossInto p s).flask p
      let g := s.flaskNode p
      let id := (f.slot n).ctxId
      (needsWrite f n = true → ((t.flask p).slot n).st = .spilling ∧ (t.flask p).engOp = .spilling n ∧ ((t.flask p).slot n).ctx = (f.slot n).ctx ∧
        ∀ k < 128, { mkPacket g 127 1 1 (.wr (s.recordBase p id + 64 * k) 0xF 0xF (recordLine (f.slot n).ctx id k)) with who := spillMark k } ∈ (t.gate g).waiting) ∧
      (needsWrite f n = false → ((t.flask p).slot n).st = .empty ∧ (t.flask p).engOp = .idle ∧ (t.flask p).eng = (s.flask p).eng.drop 1) ∧
      t = { s with flasks := t.flasks, net := t.net })) ∧
  (∀ (s : State) (p n : Nat), (s.flask p).engOp = .spilling n → s.flaskLive p = true → allAnswered s p spillMark = true → Answers (.ctxSpillComplete p) s (fun t =>
    ((t.flask p).slot n).st = .empty ∧ (t.flask p).engOp = .idle ∧ (t.flask p).spills = (s.flask p).spills + 1 ∧
    (∀ m, m ≠ n → (t.flask p).slot m = (s.flask p).slot m) ∧ t = { s with flasks := t.flasks, net := t.net })) ∧
  (∀ (s : State) (p x n : Nat), (s.flask p).eng.head? = some (.fill x n) → s.flaskLive p = true → (s.flask p).engOp = .idle → s.recording p = false → n < 16 →
    (s.flask p).defined.contains x = true → (s.flask p).slotOf x = none → ((s.flask p).slot n).st = .empty → Answers (.ctxFill p) s (fun t =>
      let g := s.flaskNode p
      ((t.flask p).slot n).st = .filling ∧ ((t.flask p).slot n).ctxId = x ∧ (t.flask p).engOp = .filling n ∧
      (∀ k < 128, { mkPacket g 127 1 1 (.rd (s.recordBase p x + 64 * k) 16) with who := fillMark k } ∈ (t.gate g).waiting) ∧
      t = { s with flasks := t.flasks, net := t.net })) ∧
  (∀ (s : State) (p x n : Nat), (s.flask p).eng.head? = some (.fill x n) → s.flaskLive p = true → (s.flask p).engOp = .idle → s.recording p = false →
    ((s.flask p).defined.contains x = false ∨ n = 16 ∧ (s.flask p).slotOf x = none ∧ fillTarget (crossInto p s) p = none) → Answers (.ctxFill p) s (fun t =>
      (t.flask p).cmdResult = 3 ∧ (t.flask p).eng = (s.flask p).eng.drop 1)) ∧
  (∀ (s : State) (p n : Nat), (s.flask p).engOp = .filling n → s.flaskLive p = true → allAnswered s p fillMark = true → Answers (.ctxFillComplete p) s (fun t =>
    let id := ((s.flask p).slot n).ctxId
    let poisoned := (List.range 2048).any (fun o => (filledWord s p o).p)
    let other := decide ((filledWord s p 136).d.toNat % 256 ≠ id)
    ((t.flask p).slot n).st = .resident ∧ ((t.flask p).slot n).faulted = (poisoned || other) ∧ (t.flask p).fills = (s.flask p).fills + 1 ∧
    (t.flask p).cmdResult = (if poisoned then 1 else if other then 2 else 0) ∧ (poisoned = true → Reports s t 0x3110 1 p) ∧
    (poisoned = false → other = true → Reports s t 0x3111 1 p)))

/-- R140, R90, R105: CTX_CMD places its request with the context engine, or RESULT 3 (REFUSED) when four wait; PIN and UNPIN write the slot's PIN. R70, R135, R136: a write
of CTX_STATUS_CLR clears the CONTENTION and COLLIDE bits it names in the selected context where it is resident; a read of CTX_WIN_DATA over the mailbox answers the 8
bytes the window selects and changes no context. RESULT 3 where four wait is the model's reading of two rules, and that the one in service counts among them its choice
(log 23). Commands it says complete: ctxCmdFill, ctxCmdSpill, ctxCmdPin, ctxCmdUnpin, ctxCmdEvict, ctxStatusClr, ctxWinDataRead. -/
def Obligations.ContextCommandsAndWindow : Prop :=
  ((∀ (s : State) (path p x n : Nat), Admitted s path (0x4000 + p) 5 2 → recastHolds s p = false → s.flaskLive p = true → slotFits s p n = true → (s.flask p).defined.contains x = true →
    ¬(n = 15 ∧ seqIrqEn (s.seqCfg p) = true) → ((s.flask p).slotOf x = none ∨ (s.flask p).slotOf x = some n) → Answers (.ctxCmdFill path p x n) s (fun t =>
      ((s.flask p).eng.length < 4 → (t.flask p).eng = (s.flask p).eng ++ [.fill x n] ∧ (t.flask p).cmdResult = 0) ∧
      (4 ≤ (s.flask p).eng.length → (t.flask p).eng = (s.flask p).eng ∧ (t.flask p).cmdResult = 3) ∧
      OnlyAnswered s t ∧ t = { s with flasks := t.flasks, dict := t.dict, net := t.net, out := t.out })) ∧
  (∀ (s : State) (path p n : Nat), Admitted s path (0x4000 + p) 5 2 → recastHolds s p = false → s.flaskLive p = true → slotFits s p n = true →
    ((s.flask p).slot n).st = .resident → (s.flask p).eng.length < 4 →
      Answers (.ctxCmdSpill path p n) s (fun t => (t.flask p).eng = (s.flask p).eng ++ [.spill n] ∧ (t.flask p).cmdResult = 0 ∧
        OnlyAnswered s t ∧ t = { s with flasks := t.flasks, dict := t.dict, net := t.net, out := t.out }) ∧
      Answers (.ctxCmdEvict path p n) s (fun t => (t.flask p).eng = (s.flask p).eng ++ [.evict n] ∧ (t.flask p).cmdResult = 0 ∧
        OnlyAnswered s t ∧ t = { s with flasks := t.flasks, dict := t.dict, net := t.net, out := t.out })) ∧
  (∀ (s : State) (path p n : Nat), Admitted s path (0x4000 + p) 5 2 → recastHolds s p = false → s.flaskLive p = true → n < 16 →
    Answers (.ctxCmdPin path p n) s (fun t => (t.flask p).slot n = { (s.flask p).slot n with pin := true } ∧
      (∀ m, m ≠ n → (t.flask p).slot m = (s.flask p).slot m) ∧
      OnlyAnswered s t ∧ t = { s with flasks := t.flasks, dict := t.dict, net := t.net, out := t.out }) ∧
    Answers (.ctxCmdUnpin path p n) s (fun t => (t.flask p).slot n = { (s.flask p).slot n with pin := false } ∧
      (∀ m, m ≠ n → (t.flask p).slot m = (s.flask p).slot m) ∧
      OnlyAnswered s t ∧ t = { s with flasks := t.flasks, dict := t.dict, net := t.net, out := t.out }))) ∧
  ((∀ (s : State) (path p n : Nat) (w : Word), Admitted s path (0x4000 + p) 0x33 1 → recastHolds s p = false →
    (s.flask p).residentSlot (winCtx s path p) = some n → Answers (.ctxStatusClr path p w) s (fun t =>
      ((t.flask p).slot n).ctx = { ((s.flask p).slot n).ctx with status := ((s.flask p).slot n).ctx.status &&& ~~~(w &&& 0x19#32) } ∧
      (∀ m, m ≠ n → (t.flask p).slot m = (s.flask p).slot m) ∧
      OnlyAnswered s t ∧ t = { s with flasks := t.flasks, dict := t.dict, net := t.net, out := t.out })) ∧
  (∀ (s : State) (p : Nat), Readable s 0x7F (0x4000 + p) 0x31 1 → (s.path 0x7F).held = none → Answers (.ctxWinDataRead 0x7F p) s (fun t =>
    t.out = s.out ++ [.sdoData (0x4000 + p) 0x31 (valueBytes 8 (ctxWinData s 0x7F p))] ∧
    OnlyAnswered s t ∧ t = { s with dict := t.dict, net := t.net, out := t.out })) ∧
  (∀ (s : State) (path p : Nat), path ≠ 0x7F → Readable s path (0x4000 + p) 0x31 1 → (s.path path).held = none → Answers (.ctxWinDataRead path p) s (fun t =>
    t.out = s.out ++ [.busRead path (ctxWinData s path p)] ∧ OnlyAnswered s t ∧ t = { s with dict := t.dict, net := t.net, out := t.out })))

/-- R127-R129, R131, R134, R141: a recast begins in PRECOPY with its two flasks in their roles, drains when at most 512 words are dirty, freezes, its cycle ended, when the
source is quiet on a pour tick, and switches the map to the target, which takes the source's contexts; a timeout, a fault of the target or CANCEL aborts it and returns
the roles; RELEASE returns a retired flask to SPARE_IDLE. Commands it says complete: recastCmdStart, recastCmdCancel, recastCmdRelease, recastPrecopyComplete,
recastFreeze, recastDone, recastTimeout, recastTargetFault. -/
def Obligations.RecastMovesFlask : Prop :=
  (∀ (s : State) (path k q : Nat), Admitted s path 0x4200 0x41 2 → k < 64 → recastTarget s k q = true → recastAllowed s k q = true → Answers (.recastCmdStart path k q) s (fun t =>
      let r := t.recast (k / 8)
      r.st = .precopy ∧ r.source = s.physOf k ∧ r.target = q ∧ r.logical = k ∧ r.dirty = [] ∧
      t.flask (s.physOf k) = { s.flask (s.physOf k) with role := .recastSource } ∧
      t.flask q = { s.flask q with role := .recastTarget, logical := k } ∧ t.lmap = s.lmap ∧ OnlyAnswered s t)) ∧
  (∀ (s : State) (path k : Nat), Admitted s path 0x4200 0x41 2 → k < 64 → ((s.recast (k / 8)).st = .precopy ∨ (s.recast (k / 8)).st = .drain) →
    (s.recast (k / 8)).logical = k → Answers (.recastCmdCancel path k) s (fun t =>
      (t.recast (k / 8)).st = .aborted ∧ (t.recast (k / 8)).result = 2 ∧ t.lmap = s.lmap ∧ OnlyAnswered s t)) ∧
  (∀ (s : State) (path p : Nat), Admitted s path 0x4200 0x41 2 → p < 72 → (s.flask p).role = .retired → (s.flask p).repowered = true →
    Answers (.recastCmdRelease path p) s (fun t => t.flask p = { s.flask p with role := .spareIdle, repowered := false } ∧ OnlyAnswered s t ∧
      t = { s with flasks := t.flasks, dict := t.dict, net := t.net, out := t.out })) ∧
  (∀ (s : State) (y : Nat), (s.recast y).st = .precopy → Answers (.recastPrecopyComplete y) s (fun t =>
    ((s.recast y).dirty.length ≤ 512 → t.recast y = { s.recast y with st := .drain }) ∧
    (512 < (s.recast y).dirty.length → t.recast y = { s.recast y with dirty := [] }) ∧ t = { s with recasts := t.recasts })) ∧
  (∀ (s : State) (y : Nat), (s.recast y).st = .drain → s.power.pllLocked = true →
    let h := holdFlask (s.recast y).source s
    flaskQuiet h (s.recast y).source = true → noOpenPush h (s.recast y).source = true →
    Answers (.recastFreeze y) s (fun t => t.recast y = { h.recast y with st := .freeze } ∧ t = { h with recasts := t.recasts })) ∧
  (∀ (s : State) (y : Nat), (s.recast y).st = .freeze → s.tickFree = true → (s.recast y).source ≠ (s.recast y).target → Answers (.recastDone y) s (fun t =>
    let r := s.recast y
    (t.recast y).st = .done ∧ t.physOf r.logical = r.target ∧ (t.flask r.target).role = .active ∧ (t.flask r.target).slots = (s.flask r.source).slots ∧
    (t.flask r.target).bm0 = (s.flask r.source).bm0 ∧ (t.flask r.target).s = (s.flask r.source).s ∧ (t.flask r.source).role = .retired ∧
    t.recastCount = s.recastCount + 1 ∧ (r.byPolicy = true → Reports s t 0x2110 2 r.logical))) ∧
  (∀ (s : State) (y : Nat), (s.recast y).st = .drain → Answers (.recastTimeout y) s (fun t => (t.recast y).st = .aborted ∧ (t.recast y).result = 1 ∧ t.lmap = s.lmap)) ∧
  (∀ (s : State) (y : Nat), s.recasting y = true → Answers (.recastTargetFault y) s (fun t =>
    (t.recast y).st = .aborted ∧ (t.recast y).result = 3 ∧ t.lmap = s.lmap ∧
    ((s.recast y).source ≠ (s.recast y).target → (s.flask (s.recast y).source).role = .recastSource → (t.flask (s.recast y).source).role = .active)))

/-! ### Crucibles -/

namespace Sys2Proof.Machine

/-- The instruction word at PC. -/
def Cru.word (c : Cru) : Word := Tab.get 0 c.pm c.pc

/-- Crucible `p` issues the operation `op` in this cycle, which is legal where it stands and does not stall (R156, R163, R181, R188). -/
abbrev CruOpIssues (s : State) (p : Nat) (op : CruOp) : Prop :=
  cruIssues s p = true ∧ cruOp (stM1024 (s.cru p).status) (s.cru p).word = some op ∧ cruFault (s.cru p) op (s.cru p).word = none ∧
    streamStalls (s.cru p) op (s.cru p).word = false

/-- No branch, REP or block repeat is under way. -/
abbrev CruStraight (c : Cru) : Prop := c.delay = 0 ∧ c.repLeft = 0 ∧ c.reps = []

/-- The instruction's cycle changed its own crucible, and may have marked words for a recast; nothing else of the machine. -/
def CruOnly (s t : State) (p : Nat) : Prop :=
  (∀ q, q ≠ p → t.cru q = s.cru q) ∧ t = { s with crus := t.crus, recasts := t.recasts, fresh := t.fresh }

end Sys2Proof.Machine

/-- R153, R157-R159, R162, R165, R181, R184, R192: with nothing under way NOP, EI and DI go to the next address; a taken B, CALL, RET and RETI leave two delay slots before
their target, CALL pushing the address after them; REP and BREP with a count of at least 1 open their repeat; HALT leaves RUNNING with CAUSE 1. R153, R157-R159, R165:
the instruction in the first delay slot goes to the second, the one in the second to the target, and after a RETI to IRA with ST restored from IST, in which the sticky
bits also stay as they were and the tags stay (R147, R148; log 25); a repeated instruction stays at its address until its count is run; the last address of a body with
iterations left goes back to its first. Commands it says complete: cruNop, cruHalt, cruB, cruCall, cruRet, cruReti, cruRep, cruBrep, cruEi, cruDi. -/
def Obligations.CrucibleControlFlowAndRepeats : Prop :=
  (∀ (s : State) (p : Nat), CruStraight (s.cru p) → (s.cru p).pc < 4093 →
    let c := s.cru p
    let w := c.word
    let tgt := (w.extractLsb' 0 12).toNat
    let cond := condHolds c (w.extractLsb' 20 4).toNat
    let count := if w.getLsbD 22 then (c.d (w.extractLsb' 10 3).toNat).toNat % 65536 else (w.extractLsb' 10 12).toNat
    (CruOpIssues s p .nop → Answers (.cruNop p .clean) s (fun t => (t.cru p).pc = c.pc + 1 ∧ (t.cru p).regs = (land c).regs ∧ (t.cru p).status = c.status ∧
      (t.cru p).acc = c.acc ∧ (t.cru p).x = c.x ∧ (t.cru p).y = c.y ∧ CruOnly s t p)) ∧
    (CruOpIssues s p .ei → Answers (.cruEi p .clean) s (fun t => (t.cru p).pc = c.pc + 1 ∧ (t.cru p).status = c.status ||| 0x02000000#32 ∧ CruOnly s t p)) ∧
    (CruOpIssues s p .di → Answers (.cruDi p .clean) s (fun t => (t.cru p).pc = c.pc + 1 ∧ (t.cru p).status = c.status &&& 0xFDFFFFFF#32 ∧ CruOnly s t p)) ∧
    (CruOpIssues s p .halt → Answers (.cruHalt p .clean) s (fun t => (t.cru p).st = .halted ∧ (t.cru p).cause = 1 ∧ (t.cru p).pc = c.pc + 1 ∧ CruOnly s t p)) ∧
    (CruOpIssues s p .b → Answers (.cruB p .clean) s (fun t => (t.cru p).pc = c.pc + 1 ∧
      (cond = true → (t.cru p).delay = 2 ∧ (t.cru p).target = tgt) ∧ (cond = false → (t.cru p).delay = 0) ∧ CruOnly s t p)) ∧
    (CruOpIssues s p .call → Answers (.cruCall p .clean) s (fun t => (t.cru p).pc = c.pc + 1 ∧
      (cond = true → (t.cru p).delay = 2 ∧ (t.cru p).target = tgt ∧ (t.cru p).ret = (c.pc + 3) :: c.ret) ∧
      (cond = false → (t.cru p).delay = 0 ∧ (t.cru p).ret = c.ret) ∧ CruOnly s t p)) ∧
    (CruOpIssues s p .ret → Answers (.cruRet p .clean) s (fun t => (t.cru p).pc = c.pc + 1 ∧ (t.cru p).delay = 2 ∧ c.ret = (t.cru p).target :: (t.cru p).ret ∧
      CruOnly s t p)) ∧
    (CruOpIssues s p .reti → Answers (.cruReti p .clean) s (fun t => (t.cru p).pc = c.pc + 1 ∧ (t.cru p).delay = 2 ∧ (t.cru p).reti = true ∧
      (t.cru p).status = c.status ∧ CruOnly s t p)) ∧
    (CruOpIssues s p .rep → Answers (.cruRep p .clean) s (fun t =>
      (count ≠ 0 → (t.cru p).pc = c.pc + 1 ∧ (t.cru p).repLeft = count) ∧ (count = 0 → (t.cru p).pc = c.pc + 2 ∧ (t.cru p).repLeft = 0) ∧ CruOnly s t p)) ∧
    (CruOpIssues s p .brep → Answers (.cruBrep p .clean) s (fun t => let last := c.pc + 1 + (w.extractLsb' 0 8).toNat
      (count ≠ 0 → (t.cru p).pc = c.pc + 1 ∧ (t.cru p).reps = [{ first := c.pc + 1, last := last, left := count, int := w.getLsbD 23 }]) ∧
      (count = 0 → (t.cru p).pc = (last + 1) % 4096 ∧ (t.cru p).reps = []) ∧ CruOnly s t p))) ∧
  (∀ (s : State) (p : Nat), CruOpIssues s p .nop → (s.cru p).late = [] → Answers (.cruNop p .clean) s (fun t =>
    let c := s.cru p
    let d := t.cru p
    (1 < c.repLeft → d.pc = c.pc ∧ d.repLeft = c.repLeft - 1 ∧ d.delay = c.delay) ∧
    (c.repLeft ≤ 1 → c.delay = 2 → d.pc = (c.pc + 1) % 4096 ∧ d.delay = 1) ∧
    (c.repLeft ≤ 1 → c.delay = 1 → c.reti = false → (c.returns = false ∨ (c.reps = [] ∧ c.target < 4096)) →
      d.pc = c.target ∧ d.delay = 0 ∧ d.status = c.status) ∧
    (c.repLeft ≤ 1 → c.delay = 1 → c.reti = true → d.pc = (c.reg 0x2C).toNat ∧ d.reti = false ∧
      ∀ b, b < 32 → d.status.getLsbD b = (if b = 12 ∨ b = 24 then false else if b = 13 ∨ b = 14 then c.status.getLsbD b
        else (c.reg 0x2D).getLsbD b || (15 ≤ b && b < 24 && c.status.getLsbD b))) ∧
    (∀ l ls, c.repLeft ≤ 1 → c.delay = 0 → c.kept = 0 → c.reps = l :: ls → l.last = c.pc → 1 < l.left →
      d.pc = l.first ∧ d.reps = { l with left := l.left - 1 } :: ls ∧ d.cycles = c.cycles + (if 16 < l.last - l.first + 1 then 3 else 1))))

/-- R147, R181: the ALU operations write D and the flags of ST, over the numbers their operands stand for; CMP writes no D. IMM8 is taken as signed, C of SUB and CMP as no
borrow and the shift amount as B[4:0] (log 25); C and V of the logic operations and V of the shifts are left free. Commands it says complete: cruAdd, cruSub, cruAnd,
cruOr, cruXor, cruAndn, cruShl, cruShr, cruSar, cruCmp. -/
def Obligations.CrucibleAluResult : Prop :=
  ∀ (s : State) (p : Nat),
    let c := s.cru p
    let w := c.word
    let a := c.d (w.extractLsb' 18 3).toNat
    let b := if w.getLsbD 14 then BitVec.ofInt 32 (w.extractLsb' 6 8).toInt else c.d (w.extractLsb' 15 3).toNat
    let n := b.toNat % 32
    let dd := (w.extractLsb' 21 3).toNat
    let restored := c.reti = true ∧ c.delay = 1 ∧ c.repLeft ≤ 1
    let wrote (t : State) (y : Word) : Prop := (t.cru p).d dd = y ∧
      (¬restored → (t.cru p).status.getLsbD 8 = decide (y.toNat = 0) ∧ (t.cru p).status.getLsbD 9 = decide (2 ^ 31 ≤ y.toNat)) ∧ CruOnly s t p
    let cv (t : State) (cy : Bool) (v : Int) : Prop :=
      ¬restored → (t.cru p).status.getLsbD 10 = cy ∧ (t.cru p).status.getLsbD 11 = sumOverflows v
    let cOf (t : State) (cy : Bool) : Prop := ¬restored → (t.cru p).status.getLsbD 10 = cy
    (CruOpIssues s p .add → Answers (.cruAdd p .clean) s (fun t => wrote t (BitVec.ofNat 32 (a.toNat + b.toNat)) ∧
      cv t (decide (2 ^ 32 ≤ a.toNat + b.toNat)) (a.toInt + b.toInt))) ∧
    (CruOpIssues s p .sub → Answers (.cruSub p .clean) s (fun t => wrote t (a - b) ∧ cv t (decide (b.toNat ≤ a.toNat)) (a.toInt - b.toInt))) ∧
    (CruOpIssues s p .cmp → Answers (.cruCmp p .clean) s (fun t => (t.cru p).regs = (land c).regs ∧ cv t (decide (b.toNat ≤ a.toNat)) (a.toInt - b.toInt) ∧
      (¬restored → (t.cru p).status.getLsbD 8 = decide (a = b)) ∧ CruOnly s t p)) ∧
    (CruOpIssues s p .and → Answers (.cruAnd p .clean) s (fun t => wrote t (a &&& b))) ∧
    (CruOpIssues s p .or → Answers (.cruOr p .clean) s (fun t => wrote t (a ||| b))) ∧
    (CruOpIssues s p .xor → Answers (.cruXor p .clean) s (fun t => wrote t (a ^^^ b))) ∧
    (CruOpIssues s p .andn → Answers (.cruAndn p .clean) s (fun t => wrote t (a &&& ~~~b))) ∧
    (CruOpIssues s p .shl → Answers (.cruShl p .clean) s (fun t => wrote t (BitVec.ofNat 32 (a.toNat * 2 ^ n)) ∧ cOf t (decide (a.toNat * 2 ^ n / 2 ^ 32 % 2 = 1)))) ∧
    (CruOpIssues s p .shr → Answers (.cruShr p .clean) s (fun t => wrote t (BitVec.ofNat 32 (a.toNat / 2 ^ n)) ∧ cOf t (decide (2 * a.toNat / 2 ^ n % 2 = 1)))) ∧
    (CruOpIssues s p .sar → Answers (.cruSar p .clean) s (fun t => wrote t (BitVec.ofInt 32 (a.toInt / 2 ^ n)) ∧ cOf t (decide (2 * a.toNat / 2 ^ n % 2 = 1))))

/-- R169-R175, R178, R179: the MAC lanes over exact numbers. MPY and CMPY set an accumulator to the product and clear its epoch. In wrap mode MAC, MSU, MACS and the complex
forms add to or take from the exact value of the lane (epoch × 2^40 plus accumulator) for as long as the epoch does not wrap. CLR clears the lanes it names. Commands it
says complete: cruMpy, cruMac, cruMsu, cruMacs, cruCmpy, cruCmac, cruCmsu, cruCmacj, cruClr. -/
def Obligations.CrucibleMacLanes : Prop :=
  ∀ (s : State) (p k : Nat), k < 4 →
    let c := s.cru p
    let w := c.word
    let sign := (w.extractLsb' 23 2).toNat
    let num (un : Bool) (h : BitVec 16) : Int := if un then (h.toNat : Int) else h.toInt
    let prod (u v : BitVec 16) : Int := (if stFrac c.status && sign = 0 then 2 else 1) * (num (sign = 1) u * num (sign ≠ 0) v)
    let pairOf (r : Nat) : BitVec 16 := c.half (2 * r + k / 2) (k % 2 = 1)
    let pair := prod (pairOf (w.extractLsb' 21 2).toNat) (pairOf (w.extractLsb' 19 2).toNat)
    let tap := prod (c.win.extractLsb' (16 * k) 16) (c.half (w.extractLsb' 20 3).toNat (w.getLsbD 19))
    let full (u v : BitVec 16) : Int := min (2 * (u.toInt * v.toInt)) (2 ^ 31 - 1)
    let ca := (w.extractLsb' 20 3).toNat
    let cb := (w.extractLsb' 16 3).toNat
    let re (g : Int) : Int := full (c.half ca false) (c.half cb false) - g * full (c.half ca true) (c.half cb true)
    let im (g : Int) : Int := g * full (c.half ca false) (c.half cb true) + full (c.half ca true) (c.half cb false)
    let mine := (if w.getLsbD 15 then 2 else 0) = k / 2 * 2
    let cplx (g : Int) : Int := if k % 2 = 0 then re g else im g
    let set (t : State) (v : Int) : Prop := ((t.cru p).a k).toInt = v.bmod (2 ^ 40) ∧ (t.cru p).e k = 0
    let added (t : State) (v : Int) : Prop := stSat c.status k = false → -2 ^ 15 < (c.e k).toInt → (c.e k).toInt < 2 ^ 15 - 1 →
      (t.cru p).laneValue k = c.laneValue k + v
    let still (t : State) : Prop := (t.cru p).a k = c.a k ∧ (t.cru p).e k = c.e k
    (CruOpIssues s p .mpy → Answers (.cruMpy p .clean) s (fun t => (if w.getLsbD (15 + k) then set t pair else still t) ∧ CruOnly s t p)) ∧
    (CruOpIssues s p .mac → Answers (.cruMac p .clean) s (fun t => (if w.getLsbD (15 + k) then added t pair else still t) ∧ CruOnly s t p)) ∧
    (CruOpIssues s p .msu → Answers (.cruMsu p .clean) s (fun t => (if w.getLsbD (15 + k) then added t (-pair) else still t) ∧ CruOnly s t p)) ∧
    (CruOpIssues s p .macs → Answers (.cruMacs p .clean) s (fun t => added t tap ∧
      (t.cru p).win = c.win.extractLsb' 0 48 ++ c.half (w.extractLsb' 16 3).toNat (w.getLsbD 15) ∧ CruOnly s t p)) ∧
    (CruOpIssues s p .cmpy → Answers (.cruCmpy p .clean) s (fun t => (if mine then set t (cplx 1) else still t) ∧ CruOnly s t p)) ∧
    (CruOpIssues s p .cmac → Answers (.cruCmac p .clean) s (fun t => (if mine then added t (cplx 1) else still t) ∧ CruOnly s t p)) ∧
    (CruOpIssues s p .cmsu → Answers (.cruCmsu p .clean) s (fun t => (if mine then added t (-cplx 1) else still t) ∧ CruOnly s t p)) ∧
    (CruOpIssues s p .cmacj → Answers (.cruCmacj p .clean) s (fun t => (if mine then added t (cplx (-1)) else still t) ∧ CruOnly s t p)) ∧
    (CruOpIssues s p .clr → Answers (.cruClr p .clean) s (fun t => (if w.getLsbD k then (t.cru p).laneValue k = 0 else still t) ∧ CruOnly s t p))

/-- R149-R155, R181: MOV writes the register its number names at the end of its cycle; a load's word lands in D at the end of the next one; a store puts D where the pointer
points; each of load, store and MODP steps its pointer, in linear mode modulo 4,096 and in a circular buffer modulo its length. R175-R177: EXT32 and EXT16 give D, or
the half they name, the lane's exact value shifted right, rounded to the nearest and a tie to even, and clamped to the width; it lands at the end of the next cycle.
Commands it says complete: cruMov, cruLoad, cruStore, cruModp, cruExt32, cruExt16. -/
def Obligations.CrucibleMovesAndExtraction : Prop :=
  (∀ (s : State) (p : Nat),
    let c := s.cru p
    let w := c.word
    let q := (w.extractLsb' 21 3).toNat
    let d := (w.extractLsb' 24 3).toNat
    let ad := (c.addrReg (8 + q)).toNat % 4096
    let m := c.addrReg (0x14 + q)
    let memOf (k : Cru) : Tab Word := if q < 4 then k.x else k.y
    let stepped (t : State) : Prop := ∀ st : Int, namedStep c w q = some st → (∀ e ∈ c.shadow, e.1 ≠ 8 + q) →
      ((m.extractLsb' 30 2).toNat = 0 → ((t.cru p).reg (8 + q)).toNat = ((ad + st) % 4096).toNat) ∧
      (let len := (m.extractLsb' 12 13).toNat
       let base := (m.extractLsb' 0 12).toNat
       (m.extractLsb' 30 2).toNat = 1 → 0 < len → len ≤ 4096 → base ≤ ad → ad < base + len →
        ((t.cru p).reg (8 + q)).toNat = (base + ((ad - base + st) % len).toNat) % 4096)
    (CruOpIssues s p .mov → Answers (.cruMov p .clean) s (fun t =>
      let n := (w.extractLsb' 22 6).toNat
      let v := if w.getLsbD 21 then BitVec.ofInt 32 (w.extractLsb' 0 16).toInt else c.read (w.extractLsb' 15 6).toNat
      (n < 8 → (t.cru p).d n = v) ∧ (8 ≤ n → n < 16 → ((t.cru p).reg n).toNat = v.toNat % 4096) ∧
      (32 ≤ n → n < 36 → ((t.cru p).a (n - 32)).toNat % 2 ^ 32 = v.toNat) ∧ CruOnly s t p)) ∧
    (CruOpIssues s p .load → Answers (.cruLoad p .clean) s (fun t => (land (t.cru p)).d d = Tab.get 0 (memOf c) ad ∧ stepped t ∧
      (t.cru p).x = c.x ∧ (t.cru p).y = c.y ∧ CruOnly s t p)) ∧
    (CruOpIssues s p .store → Answers (.cruStore p .clean) s (fun t => (∀ a, Tab.get 0 (memOf (t.cru p)) a = if a = ad then c.d d else Tab.get 0 (memOf c) a) ∧
      (if q < 4 then (t.cru p).y = c.y else (t.cru p).x = c.x) ∧ stepped t ∧ CruOnly s t p)) ∧
    (CruOpIssues s p .modp → Answers (.cruModp p .clean) s (fun t => stepped t ∧ (t.cru p).x = c.x ∧ (t.cru p).y = c.y ∧ CruOnly s t p))) ∧
  (∀ (s : State) (p : Nat),
    let c := s.cru p
    let w := c.word
    let v := c.laneValue (w.extractLsb' 22 2).toNat
    let unit' : Int := 2 ^ (w.extractLsb' 13 5).toNat
    let d := (w.extractLsb' 19 3).toNat
    let nearest (q : Int) : Prop := 2 * |v - q * unit'| ≤ unit' ∧ (2 * |v - q * unit'| = unit' → q % 2 = 0)
    (CruOpIssues s p .ext32 → Answers (.cruExt32 p .clean) s (fun t => CruOnly s t p ∧
      ∃ q, nearest q ∧ ((land (t.cru p)).d d).toInt = max (-2 ^ 31) (min (2 ^ 31 - 1) q))) ∧
    (CruOpIssues s p .ext16 → Answers (.cruExt16 p .clean) s (fun t => CruOnly s t p ∧
      ∃ q, nearest q ∧ ((land (t.cru p)).half d (w.getLsbD 18)).toInt = max (-2 ^ 15) (min (2 ^ 15 - 1) q) ∧
        (land (t.cru p)).half d (!w.getLsbD 18) = (land c).half d (!w.getLsbD 18))))

/-- R185, R186, R188: SIN takes the head of its input FIFO, with its tags to LTAG and ITAG; SOUT appends D to its output FIFO with the tags it names. With no word, or with
no room, the cycle is a stall and the instruction has not executed. R156, R181, R195: an illegal word or place enters ERROR with CAUSE 3 and 0x3202, a stack or level
exceeded with CAUSE 4 and 0x3203, an uncorrectable instruction word with CAUSE 5 and 0x3204; the instruction does not execute. R163-R168, R194, R195: an accepted
interrupt saves PC and ST in IRA and IST, clears IE, sets IIP and goes to its handler; the hold-off limit logs 0x3201 and sets HLIM_HIT; a halt that was asked for stops
the crucible at an acceptable point with CAUSE 2; a scrub forgets the oldest corrected word. Commands it says complete: cruNop, cruHalt, cruRet, cruSin, cruSout,
cruInterruptAccept, cruHoldoffLimit, cruScrubWriteback, cruHaltPoint. -/
def Obligations.CrucibleStreamsErrorsAndEvents : Prop :=
  (∀ (s : State) (p : Nat),
    let c := s.cru p
    let w := c.word
    let k := (w.extractLsb' 25 2).toNat
    let d := (w.extractLsb' 22 3).toNat
    let op := cruOp (stM1024 c.status) w
    (∀ x rest, CruOpIssues s p .sin → CruStraight c → Tab.get [] c.si k = x :: rest → Answers (.cruSin p .clean) s (fun t =>
      Tab.get [] (t.cru p).si k = rest ∧ (land (t.cru p)).d d = x.d ∧ (t.cru p).status.getLsbD 14 = x.l ∧ (t.cru p).status.getLsbD 13 = x.i ∧
      (t.cru p).so = c.so ∧ CruOnly s t p)) ∧
    (CruOpIssues s p .sout → Answers (.cruSout p .clean) s (fun t =>
      Tab.get [] (t.cru p).so k = Tab.get [] c.so k ++ [mkTWord (c.d d) (w.getLsbD 21) (w.getLsbD 20)] ∧ (t.cru p).si = c.si ∧ CruOnly s t p)) ∧
    (cruIssues s p = true → op = some .sin → Tab.get [] c.si k = [] → Answers (.cruSin p .clean) s (fun t =>
      (t.cru p).pc = c.pc ∧ (t.cru p).stall = true ∧ (t.cru p).stalls = c.stalls + 1 ∧ CruOnly s t p)) ∧
    (cruIssues s p = true → op = some .sout → 4 ≤ (Tab.get [] c.so k).length → Answers (.cruSout p .clean) s (fun t =>
      (t.cru p).pc = c.pc ∧ (t.cru p).stall = true ∧ (t.cru p).stalls = c.stalls + 1 ∧ (t.cru p).so = c.so ∧ CruOnly s t p))) ∧
  (∀ (s : State) (p : Nat), cruIssues s p = true →
    let c := s.cru p
    let failed (t : State) (code : Nat) (cause : BitVec 4) : Prop := (t.cru p).st = .error ∧ (t.cru p).cause = cause ∧ (t.cru p).pc = c.pc ∧
      (t.cru p).regs = (land c).regs ∧ Reports s t code 3 p ∧ t = { s with crus := t.crus, chill := t.chill }
    (cruOp (stM1024 c.status) c.word = none → Answers (.cruNop p .clean) s (fun t => failed t 0x3202 3)) ∧
    (cruOp (stM1024 c.status) c.word = some .ret → cruFault c .ret c.word = some 4 → Answers (.cruRet p .clean) s (fun t => failed t 0x3203 4)) ∧
    (cruOp (stM1024 c.status) c.word = some .halt → c.delay ≠ 0 → Answers (.cruHalt p .clean) s (fun t => failed t 0x3202 3)) ∧
    (cruOp (stM1024 c.status) c.word = some .nop → Answers (.cruNop p (.uncorrectable 0)) s (fun t => failed t 0x3204 5))) ∧
  ((∀ (s : State) (p n : Nat), s.flaskLive p = true → s.heldStill p = false → (s.cru p).st = .running → interruptReady (s.cru p) = true →
    enabledSource (s.cru p) = some n → Answers (.cruInterruptAccept p) s (fun t =>
      (t.cru p).pc = 16 + 4 * n ∧ (t.cru p).reg 0x2C = BitVec.ofNat 32 (s.cru p).pc ∧ (t.cru p).reg 0x2D = (s.cru p).status ∧
      (t.cru p).status = ((s.cru p).status &&& 0xFDFFFFFF#32) ||| 0x01000000#32 ∧ (t.cru p).holdoff = 0 ∧ t = { s with crus := t.crus })) ∧
  (∀ (s : State) (p : Nat), (s.cru p).st = .running → (s.cru p).hlim ≠ 0 → (s.cru p).hlim ≤ (s.cru p).holdoff → (s.cru p).holdLogged = false →
    Answers (.cruHoldoffLimit p) s (fun t => (t.cru p).hlimHit = true ∧ (t.cru p).st = .running ∧ Reports s t 0x3201 3 p ∧ t = { s with crus := t.crus, chill := t.chill })) ∧
  (∀ (s : State) (p : Nat), (s.cru p).st = .running → (s.cru p).haltAsked = true → acceptablePoint (s.cru p) = true → Answers (.cruHaltPoint p) s (fun t =>
    (t.cru p).st = .halted ∧ (t.cru p).cause = 2 ∧ (t.cru p).haltAsked = false ∧ (t.cru p).pc = (s.cru p).pc ∧ t = { s with crus := t.crus })) ∧
  (∀ (s : State) (p a : Nat) (rest : List Nat), (s.cru p).scrub = a :: rest → Answers (.cruScrubWriteback p) s (fun t =>
    t.cru p = { s.cru p with scrub := rest } ∧ t = { s with crus := t.crus })))

/-- R132, R189-R191, R194: CRU_CMD and the window. RUN starts a crucible at rest at PC or ENTRY, HALT asks a running one to halt, STEP runs one instruction of a halted one,
CLEAR_PORTS empties the stream FIFOs; CRU_WIN_WRITE writes the selected word of one at rest; CRU_WIN_DATA reads it; CRU_STICKY clears the bits it names. Commands it
says complete: cruCmdRun, cruCmdHalt, cruCmdStep, cruCmdClearPorts, cruWinWrite, cruWinDataRead, cruStickyClear. -/
def Obligations.CrucibleCommands : Prop :=
  ∀ (s : State) (path p : Nat), recastHolds s p = false →
    let c := s.cru p
    let rest (t : State) : Prop := (∀ q, q ≠ p → t.cru q = s.cru q) ∧ OnlyAnswered s t ∧
      t = { s with crus := t.crus, dict := t.dict, net := t.net, out := t.out }
    (Admitted s path (0x4100 + p) 4 2 → c.st = .halted ∨ c.st = .error →
      (∀ entry, Answers (.cruCmdRun path p true entry) s (fun t => (t.cru p).st = .running ∧ (t.cru p).pc = entry % 4096 ∧ rest t)) ∧
      (∀ entry, Answers (.cruCmdRun path p false entry) s (fun t => (t.cru p).st = .running ∧ (t.cru p).pc = c.pc ∧ rest t)) ∧
      Answers (.cruCmdClearPorts path p) s (fun t => t.cru p = { c with si := [], so := [] } ∧ rest t)) ∧
    (Admitted s path (0x4100 + p) 4 2 → c.st = .running → Answers (.cruCmdHalt path p) s (fun t => t.cru p = { c with haltAsked := true } ∧ rest t)) ∧
    (Admitted s path (0x4100 + p) 4 2 → c.st = .halted → cruOp (stM1024 c.status) c.word = some .nop → CruStraight c →
      Answers (.cruCmdStep path p .clean) s (fun t => (t.cru p).st = .halted ∧ (t.cru p).cause = 6 ∧ (t.cru p).pc = (c.pc + 1) % 4096 ∧
        (t.cru p).cycles = c.cycles + 1 ∧ OnlyAnswered s t)) ∧
    (∀ v, Admitted s path (0x4100 + p) 7 2 → c.st = .halted ∨ c.st = .error →
      cruSelects (cruSelected s path p).1 (cruSelected s path p).2 = true → Answers (.cruWinWrite path p v) s (fun t =>
      let sp := (cruSelected s path p).1
      let a := (cruSelected s path p).2
      (sp = 0 → Tab.get 0 (t.cru p).pm a = v ∧ (t.cru p).x = c.x) ∧ (sp = 1 → Tab.get 0 (t.cru p).x a = v ∧ (t.cru p).pm = c.pm) ∧
      (sp = 2 → Tab.get 0 (t.cru p).y a = v ∧ (t.cru p).pm = c.pm) ∧ (sp = 3 → a < 8 → (t.cru p).d a = v ∧ (t.cru p).pm = c.pm) ∧
      (∀ q, q ≠ p → t.cru q = s.cru q))) ∧
    (Readable s 0x7F (0x4100 + p) 6 1 → (s.path 0x7F).held = none → s.recasting (p / 9) = false → (cruSelected s 0x7F p).1 < 3 →
      Answers (.cruWinDataRead 0x7F p false .ok) s (fun t =>
        t.out = s.out ++ [.sdoData (0x4100 + p) 6 (valueBytes 4 ((cruWinRead c (cruSelected s 0x7F p).1 (cruSelected s 0x7F p).2).setWidth 64))] ∧
        t = { s with dict := t.dict, out := t.out, net := t.net })) ∧
    (∀ w, Admitted s path (0x4100 + p) 8 1 → Answers (.cruStickyClear path p w) s (fun t =>
      (∀ b, b < 32 → (t.cru p).status.getLsbD b = (c.status.getLsbD b &&
        !((20 ≤ b && b < 24 && w.getLsbD (b - 20)) || (16 ≤ b && b < 20 && w.getLsbD (b - 12)) || (b = 15 && w.getLsbD 8)))) ∧
      (t.cru p).hlimHit = (c.hlimHit && !w.getLsbD 9) ∧ (t.cru p).pc = c.pc ∧ rest t))

/-! ### The tundish -/

namespace Sys2Proof.Machine

/-- The words of a queue's cells in order, those of HEAD_OFS that have been taken included; with no block in the middle every cell is in the front. -/
def Queue.stored (x : Queue) : List QWord := x.front.flatMap (·.words)

/-- A message of the tundish changed the tundish, the packets in flight with their hop credits, and the log alone. -/
def TundishOnly (s t : State) : Prop :=
  t = { s with tun := t.tun, net := t.net, chill := t.chill } ∧ t.net = { s.net with wire := t.net.wire, credits := t.net.credits }

/-- The tundish's answer: last of the packets it waits at its node to enter the network, for `dest`, under `tag`. -/
def TundishAnswers (t : State) (dest tag : Nat) (b : Body) : Prop :=
  t.net.wire.getLast? = some (sourceFlight 81 { mkPacket 81 dest 0 0 b with tag := tag })

/-- A PUSH of words for queue `q` stands first of its source at the tundish. -/
abbrev PushFirst (s : State) (src q : Nat) (sop : Bool) (ws : List QWord) : Prop := s.atFront 81 src 0 (.push q sop ws) = true

/-- Every write of a spill was answered OK. -/
def SpillGood (s : State) (q : Nat) : Prop := ∀ k ∈ List.range 5, ∃ c ∈ [false, true], deepAnswer s (deepSpillMark q + k) = some (.wack .ok c)

end Sys2Proof.Machine

/-- R211, R228, R231-R237, R247, R248: a whole packet pushed by the producer of an ACTIVE shallow queue uses one credit a word, joins the queue behind its words and
commits; a poisoned word fails the packet with 0x3304; a word without credit is a violation; a DISABLED queue, or another producer, refuses the message; a SUSPENDED
queue discards its words. A push in the cycle in which the queue was popped or flushed finds the credits of the cycle's start (R247, R248). R234, R235: REWIND from the
producer of an ACTIVE queue takes the open packet's words off the queue and counts them as slag; the committed words stay. Commands it says complete: push, rewind. -/
def Obligations.PushAndRewindPackets : Prop :=
  (∀ (s : State) (src q : Nat) (ws : List QWord), s.tunRuns = true → ws ≠ [] →
    let x := s.queue q
    let whole := (∀ w ∈ ws.dropLast, w.l = false) ∧ (∀ w ∈ ws.getLast?, w.l = true)
    (x.st = .active → x.producer = src → x.deep = false → x.mid = [] → x.opened = 0 → ws.length ≤ x.creditOut → ws.length ≤ 4096 → whole →
      (∀ w ∈ ws, w.p = false) → PushFirst s src q true ws → Answers (.push src q true ws 0 [] .clean false) s (fun t =>
        (t.queue q).stored = x.stored ++ ws ∧ (t.queue q).count = x.count + ws.length ∧ (t.queue q).opened = 0 ∧
        (t.queue q).creditOut = x.creditOut - ws.length + x.withheld ∧ (t.queue q).discard = false ∧
        (∀ j, j ≠ q → t.queue j = s.queue j) ∧ TundishOnly s t)) ∧
    (∀ w, ws = [w] → x.st = .active → x.producer = src → x.deep = false → x.mid = [] → x.opened = 0 → 0 < x.creditOut → w.p = true →
      PushFirst s src q true ws → Answers (.push src q true ws 0 [] .clean false) s (fun t =>
        (t.queue q).stored = x.stored ∧ (t.queue q).count = x.count ∧ (t.queue q).discard = true ∧ t.tun.slag = s.tun.slag + 1 ∧
        Reports s t 0x3304 4 q ∧ TundishOnly s t)) ∧
    (x.st = .disabled ∨ (x.st = .active ∧ x.producer ≠ src) → ∀ sop, PushFirst s src q sop ws → Answers (.push src q sop ws 0 [] .clean false) s (fun t =>
      t.tun = { s.tun with protoRefused := s.tun.protoRefused + 1, cycle := none } ∧ TundishOnly s t)) ∧
    (∀ w, ws = [w] → x.st = .active → x.producer = src → x.deep = false → x.creditOut = 0 → x.withheld = 0 → ∀ sop, PushFirst s src q sop ws →
      Answers (.push src q sop ws 0 [] .clean false) s (fun t =>
      (t.queue q).stored = x.stored ∧ (t.queue q).count = x.count ∧ t.tun.creditViol = s.tun.creditViol + 1 ∧
      (s.tun.violLogged = false → Reports s t 0x3303 4 q) ∧ TundishOnly s t)) ∧
    (∀ w, ws = [w] → x.st = .suspended → x.deep = false → 0 < x.creditOut → ∀ sop, PushFirst s src q sop ws →
      Answers (.push src q sop ws 0 [] .clean false) s (fun t =>
      (t.queue q).stored = x.stored ∧ (t.queue q).sweepHeld = x.sweepHeld + 1 ∧ t.tun.slag = s.tun.slag + 1 ∧ TundishOnly s t)) ∧
    (∀ w, ws = [w] → x.st = .active → x.producer = src → x.deep = false → s.tun.cycle = some (q, 0) → ∀ sop, PushFirst s src q sop ws →
      Answers (.push src q sop ws 0 [] .clean true) s (fun t =>
      (t.queue q).stored = x.stored ∧ (t.queue q).count = x.count ∧ t.tun.creditViol = s.tun.creditViol + 1 ∧ t.tun.cycle = none ∧ TundishOnly s t))) ∧
  (∀ (s : State) (src q : Nat), s.tunRuns = true → (s.queue q).st = .active → (s.queue q).producer = src → (s.queue q).mid = [] →
    s.atFront 81 src 0 (.rewind q) = true → Answers (.rewind src q .clean) s (fun t =>
      let x := s.queue q
      (t.queue q).stored = x.stored.take (x.stored.length - x.opened) ∧ (t.queue q).opened = 0 ∧ (t.queue q).count = x.count ∧
      t.tun.slag = s.tun.slag + BitVec.ofNat 64 x.opened ∧ (∀ j, j ≠ q → t.queue j = s.queue j) ∧ TundishOnly s t))

/-- R239-R243: a POP by the consumer of an ACTIVE queue is answered with the next committed words, at most MAX; an empty shallow queue answers EMPTY, an empty deep one its
idle item; a queue that is not ACTIVE answers EMPTY, and another initiator is REFUSED. Commands it says complete: pop. -/
def Obligations.PopAnswersHeadWords : Prop :=
  ∀ (s : State) (src q max tag : Nat), s.tunRuns = true → s.tagAtFront 81 src 0 tag (.pop q max) = true →
    let x := s.queue q
    (x.st = .active → x.consumer = src → x.deep = false → x.mid = [] → x.moving = none → 0 < max → 0 < x.count → (∀ w ∈ x.stored, w.p = false) →
      Answers (.pop src q max tag [] .clean) s (fun t =>
        let n := min max x.count
        (t.queue q).count = x.count - n ∧ (t.queue q).headOfs = (x.headOfs + n) % 8 ∧ (t.queue q).front = x.front.drop ((x.headOfs + n) / 8) ∧
        TundishAnswers t src tag (.popResp .ok ((x.stored.drop x.headOfs).take n)) ∧
        (∀ j, j ≠ q → t.queue j = s.queue j) ∧ TundishOnly s t)) ∧
    (x.st = .active → x.consumer = src → x.count = 0 → Answers (.pop src q max tag [] .clean) s (fun t =>
      t.tun = { s.tun with cycle := t.tun.cycle } ∧ TundishOnly s t ∧
        TundishAnswers t src tag (if x.deep then .popResp .idle [{ d := x.idleWord, l := x.idleL, i := true, p := false }] else .popResp .empty []))) ∧
    (x.st ≠ .active → Answers (.pop src q max tag [] .clean) s (fun t =>
      t.tun = { s.tun with cycle := t.tun.cycle } ∧ TundishOnly s t ∧ TundishAnswers t src tag (.popResp .empty []))) ∧
    (x.st = .active → x.consumer ≠ src → Answers (.pop src q max tag [] .clean) s (fun t =>
      t.tun = { s.tun with protoRefused := s.tun.protoRefused + 1, cycle := t.tun.cycle } ∧ TundishOnly s t ∧ TundishAnswers t src tag (.popResp .refused [])))

/-- R204, R208, R209, R792: when the writes of a spill are answered OK its block joins the middle of the queue and its cells are free; another status abandons the move; a
refill whose link entry is good puts the block's words behind the front, and NEXT names the block that becomes the oldest; one whose link entry is bad resets the queue
with 0x3302. DEEP_BLOCKS starts the link table's initialisation, and its completion makes the deep region ready. R226, R229, R244, R249-R253, R265, R266: accrued
credits are sent when CR_WAIT has passed; a REVOKE_ACK disables the queue with no credit outstanding; a WATCH_SET of the consumer is registered and answered; duplicate
pointers that disagree reset the queue with 0x2301, and an uncorrectable free-list word stops the tundish with 0x4301; a completed sweep frees what it reclaims and
starts the next. How many cells the front keeps is the model's choice (log 28). Commands it says complete: push, pop, crWaitExpiry, revokeAck, watchSet,
deepSpillAnswer, deepRefillAnswer, deepBlocksWrite, deepInitComplete, tundishSweepComplete. -/
def Obligations.DeepQueuesCreditsAndSweeps : Prop :=
  ((∀ (s : State) (q b : Nat) (cs : List Nat), s.tunRuns = true → (s.queue q).moving = some (b, cs) → deepAnswered s (deepSpillMark q) = true →
    (¬SpillGood s q → Answers (.deepSpillAnswer q .clean) s (fun t => (t.queue q).front = (s.queue q).front ∧ (t.queue q).mid = (s.queue q).mid ∧
      (t.queue q).count = (s.queue q).count ∧ ((s.queue q).st ≠ .active → (t.queue q).moving = none ∧ t.tun.freeBlocks = b :: s.tun.freeBlocks))) ∧
    (SpillGood s q → (s.queue q).mid ≠ [] → Answers (.deepSpillAnswer q .clean) s (fun t => (t.queue q).mid = (s.queue q).mid ++ [b] ∧
      (t.queue q).back = (s.queue q).back.filter (fun c => !cs.contains c.idx) ∧ (t.queue q).front = (s.queue q).front ∧
      (t.queue q).count = (s.queue q).count))) ∧
  (∀ (s : State) (q b : Nat) (rest : List Nat), s.tunRuns = true → (s.queue q).mid = b :: rest → (s.queue q).refilling = true →
    deepAnswered s (deepRefillMark q) = true →
    let link := deepWords s (deepRefillMark q + 4) 8
    (linkGood q (s.queue q) link = true → Answers (.deepRefillAnswer q .clean) s (fun t => (t.queue q).count = (s.queue q).count ∧
      (rest ≠ [] → (t.queue q).mid = nextBlockOf link :: rest.drop 1 ∧ (t.queue q).stored = (s.queue q).stored ++ blockWords s q) ∧
      (rest = [] → (t.queue q).mid = [] ∧ (t.queue q).stored = (s.queue q).stored ++ blockWords s q ++ (s.queue q).back.flatMap (·.words)))) ∧
    (linkGood q (s.queue q) link = false → Answers (.deepRefillAnswer q .clean) s (fun t => (t.queue q).count = 0 ∧ (t.queue q).mid = [] ∧
      Reports s t 0x3302 4 q))) ∧
  (∀ (s : State) (path : Nat) (v : Word), Admitted s path 0x3200 9 2 → s.staging path = false → v.toNat ≤ 268435455 → deepEnabled s = 0 →
    Answers (.deepBlocksWrite path v) s (fun t => t.settingN 0x3200 9 = v.toNat ∧ t.tun.deepInit = decide (v ≠ 0) ∧ t.tun.deepReady = false ∧
      t.tun.queues = s.tun.queues)) ∧
  (∀ (s : State), s.tunRuns = true → s.tun.deepInit = true → linkPairs s ≤ s.tun.initAt → deepDone s initMark = true → Answers .deepInitComplete s (fun t =>
    t = { s with tun := { s.tun with deepInit := false, deepReady := true } }))) ∧
  ((∀ (s : State) (q : Nat), s.tunRuns = true → 0 < (s.queue q).accrued → (s.queue q).deep = false → Answers (.crWaitExpiry q) s (fun t =>
    (t.queue q).accrued = 0 ∧ (t.queue q).withheld = 0 ∧ (t.queue q).creditOut = (s.queue q).creditOut + (s.queue q).withheld + (s.queue q).accrued ∧
    (∀ j, j ≠ q → t.queue j = s.queue j) ∧ TundishOnly s t)) ∧
  (∀ (s : State) (src q n : Nat), s.tunRuns = true → (s.queue q).st = .revoking → (s.queue q).producer = src →
    s.atFront 81 src 0 (.revokeAck q n) = true → Answers (.revokeAck src q n .clean) s (fun t =>
    (t.queue q).st = .disabled ∧ (t.queue q).creditOut = 0 ∧ (t.queue q).onDie = 0 ∧ (t.queue q).stored = (s.queue q).stored ∧
    (∀ j, j ≠ q → t.queue j = s.queue j) ∧ TundishOnly s t)) ∧
  (∀ (s : State) (src q i : Nat) (en : Bool), s.tunRuns = true → (s.queue q).consumer = src → (∀ g ∈ (s.queue q).watcher, g.1 = src) →
    s.atFront 81 src 0 (.watchSet q i en) = true → Answers (.watchSet src q i en) s (fun t => (t.queue q).watcher = (if en then some (src, i) else none) ∧ (t.queue q).count = (s.queue q).count ∧
      TundishAnswers t src 0 (.watchState q i (decide ((s.queue q).count ≠ 0))) ∧ TundishOnly s t)) ∧
  (∀ (s : State) (src q max tag : Nat), s.tunRuns = true → (s.queue q).st = .active → (s.queue q).resets < 15 → (s.queue q).deep = false →
    s.recovering 4 q = false → s.tagAtFront 81 src 0 tag (.pop q max) = true → Answers (.pop src q max tag [] .pointers) s (fun t =>
      (t.queue q).count = 0 ∧ (t.queue q).opened = 0 ∧ (t.queue q).front = [] ∧ (t.queue q).gen = ((s.queue q).gen + 1) % 16 ∧
      (t.queue q).resets = (s.queue q).resets + 1 ∧ t.tun.queueResets = s.tun.queueResets + 1 ∧
      t.tun.slag = s.tun.slag + BitVec.ofNat 64 ((s.queue q).count + (s.queue q).opened) ∧ Reports s t 0x2301 4 q)) ∧
  (∀ (s : State) (src q : Nat) (sop : Bool) (ws : List QWord), s.tunRuns = true → PushFirst s src q sop ws → Answers (.push src q sop ws 0 [] .fatal false) s (fun t =>
    t.tun = { s.tun with stopped := true } ∧ Reports s t 0x4301 4 q ∧ t.tunRuns = false)) ∧
  (∀ (s : State) (q : Nat), s.tunRuns = true → s.tun.sweeping ≠ [] → linkPairs s ≤ s.tun.sweepAt → deepDone s sweepMark = true →
    Answers (.tundishSweepComplete q .clean) s (fun t =>
    t.tun.sweeping = s.tun.waiting ∧ t.tun.waiting = [] ∧
    (∀ r, s.tun.sweeping = [r] → (t.queue r.q).resets = (s.queue r.q).resets - 1 ∧ (t.queue r.q).sweepHeld = 0 ∧
      ((s.queue r.q).st = .suspended → (t.queue r.q).st = .active) ∧ (r.blocks = [] → t.tun.freeCells = r.cells ++ s.tun.freeCells)))))

/-- R210, R215-R217, R225, R245: EN written 1 to a DISABLED queue reserves its cells and grants its BUDGET; EN written 0 to an ACTIVE one flushes it and makes it REVOKING;
FLUSH empties an ACTIVE queue and returns its credits; the words of both are slag. A second enable that would change the producer is refused with 0x0800_0022. Commands
it says complete: queueEnable, queueDisable, flush. -/
def Obligations.QueueEnableDisableFlush : Prop :=
  (∀ (s : State) (path : Nat) (v : Word), Admitted s path 0x3211 1 2 → s.staging path = false → s.tun.stopped = false →
    let w := v ||| 0x80000000#32
    let q := queueSelected s path
    let x := s.queue q
    qcfgBad w = none → x.st = .disabled → w.getLsbD 30 = false → enableRefused s (qcfgFields w x) = none → Answers (.queueEnable path v .clean) s (fun t =>
      (t.queue q).st = .active ∧ (t.queue q).producer = (w.extractLsb' 14 7).toNat ∧ (t.queue q).consumer = (w.extractLsb' 7 7).toNat ∧
      (t.queue q).creditOut = x.budget ∧ (t.queue q).onDie = (x.budget + 7) / 8 + 1 ∧ (∀ j, j ≠ q → t.queue j = s.queue j))) ∧
  (∀ (s : State) (path : Nat) (v : Word), Admitted s path 0x3211 1 2 → s.staging path = false → s.tun.stopped = false →
    let w := v &&& 0x7FFFFFFF#32
    let q := queueSelected s path
    let x := s.queue q
    qcfgBad w = none → x.st = .active → qcfgSame w x = true → Answers (.queueDisable path v .clean) s (fun t =>
      (t.queue q).st = .revoking ∧ (t.queue q).count = 0 ∧ (t.queue q).opened = 0 ∧ (t.queue q).stored = [] ∧
      t.tun.slag = s.tun.slag + BitVec.ofNat 64 (x.count + x.opened) ∧ (∀ j, j ≠ q → t.queue j = s.queue j) ∧
      sourceFlight 81 (mkPacket 81 x.producer 0 0 (.revoke q)) ∈ t.net.wire)) ∧
  (∀ (s : State) (path : Nat), Admitted s path 0x3211 5 1 → s.tun.stopped = false → (s.queue (queueSelected s path)).st = .active →
    (s.queue (queueSelected s path)).deep = false → Answers (.flush path 1 .clean) s (fun t =>
      let q := queueSelected s path
      let x := s.queue q
      (t.queue q).count = 0 ∧ (t.queue q).opened = 0 ∧ (t.queue q).stored = [] ∧ (t.queue q).st = .active ∧ (t.queue q).discard = true ∧
      (t.queue q).creditOut = x.creditOut + x.withheld + x.count + x.opened ∧
      t.tun.slag = s.tun.slag + BitVec.ofNat 64 (x.count + x.opened) ∧ (∀ j, j ≠ q → t.queue j = s.queue j)))

/-! ### The runner network and its gates -/

namespace Sys2Proof.Machine

/-- Packet `f` has moved: of the packets in flight its header alone stands elsewhere, at the input `inp` of `x`, and the machine outside the network is as it was. -/
def PacketMoved (s t : State) (f : Flight) (x inp : Nat) (pkt : Packet) (place : Place) : Prop :=
  (∃ g, t.net.wire = s.net.wire.erase f ++ [g] ∧ g.at' = x ∧ g.inp = inp ∧ g.pkt = pkt ∧ g.place = place ∧ 1 ≤ g.here) ∧
  t = { s with net := { s.net with routers := t.net.routers, wire := t.net.wire, credits := t.net.credits } }

/-- The router at which a header stands has answered `b` to the source of its packet, which has left the network. -/
def PacketAnswered (s t : State) (f : Flight) (b : Body) : Prop :=
  ∃ g, t.net.wire = s.net.wire.erase f ++ [g] ∧ g.at' = f.at' ∧ g.pkt.dest = f.pkt.src ∧ g.pkt.src = f.pkt.dest ∧ g.pkt.tag = f.pkt.tag ∧ g.pkt.body = b

end Sys2Proof.Machine

/-- R98, R223, R229, R258: a CREDIT adds to the gate's credits for its queue; a REVOKE takes them all and is acknowledged, behind what was gathered; gathered words leave in
one PUSH of at most 16, with SOP for the first word of a packet; a flask gate keeps what it is told of a watched queue. Commands it says complete: gateCredit,
gateRevoke, gateWatchState, gatePushSend. -/
def Obligations.ProducerGates : Prop :=
  (∀ (s : State) (i q n : Nat), s.atFront i 81 0 (.credit q n) = true → Answers (.gateCredit i q n) s (fun t =>
    (i < 82 ∨ 88 < i → t.producer i q = { s.producer i q with credits := (s.producer i q).credits + n } ∧ t = { s with net := t.net }) ∧
    (i = 88 → t.producer i q = { s.producer i q with granted := (s.producer i q).granted + n } ∧ t = { s with net := t.net }))) ∧
  (∀ (s : State) (i q : Nat), i < 82 ∨ 88 ≤ i → s.atFront i 81 0 (.revoke q) = true → Answers (.gateRevoke i q) s (fun t =>
    let p := s.producer i q
    (t.producer i q).credits = 0 ∧ (t.producer i q).granted = 0 ∧ (t.producer i q).midPacket = false ∧
    (t.gate i).waiting = (s.gate i).waiting ++
      (if p.gather = [] then [] else [mkPacket i 81 0 (gateClass s i q) (.push q (!p.midPacket) (p.gather.take 16))]) ++
      [mkPacket i 81 0 (gateClass s i q) (.revokeAck q (p.credits + p.granted))] ∧
    (∀ j, j ≠ i → t.gate j = s.gate j) ∧ t = { s with net := t.net })) ∧
  (∀ (s : State) (i q ix : Nat) (ne : Bool), i < 72 → s.atFront i 81 0 (.watchState q ix ne) = true → Answers (.gateWatchState i q ix ne) s (fun t =>
    Tab.get false (t.flask (s.nodeFlask i)).watchNe ix = ne ∧ (∀ p, p ≠ s.nodeFlask i → t.flask p = s.flask p) ∧ t = { s with flasks := t.flasks, net := t.net })) ∧
  (∀ (s : State) (i q : Nat), (s.producer i q).gather ≠ [] → Answers (.gatePushSend i q) s (fun t =>
    let p := s.producer i q
    (t.producer i q).gather = p.gather.drop 16 ∧ (t.producer i q).credits = p.credits ∧
    (t.gate i).waiting = (s.gate i).waiting ++ [mkPacket i 81 0 (gateClass s i q) (.push q (!p.midPacket) (p.gather.take 16))] ∧
    (t.producer i q).midPacket = leavesOpen p.midPacket (p.gather.take 16) ∧ (∀ j, j ≠ i → t.gate j = s.gate j) ∧ t = { s with net := t.net }))

/-- R373, R385, R389, R400, R401: the oldest request of a class leaves its gate once a tag, the bucket, the round robin and a hop credit allow: its header enters the link
to its node's router with the lowest free tag, it is kept as outstanding when it is answered, and is charged 4 bytes a word. A request to an address without a target is
completed at once with NOROUTE and enters no network. R389, R390, R392, R397: an answer completes the transaction of its tag and stands for the block that asked; an
answer without one counts as late and frees a tag in quarantine; RSP_TIMEOUT and a header notice complete LOST and put the tag into quarantine, which ends with its
time. The quarantine after a header notice is a reading (log 37). Commands it says complete: gateInject, gateAnswer, gateDropNotice, rspTimeout, tagQuarantineEnd. -/
def Obligations.GateRequestsAndAnswers : Prop :=
  (∀ (s : State) (i tc : Nat) (p : Packet), (s.gate i).waiting.find? (fun x => x.tc = tc) = some p → s.domOn 87 = true →
    s.port (s.nodePort i).1 (s.nodePort i).2 = .opened → requestHeld s p.body = false →
    let g := s.gate i
    (∀ dest, resolveDest s p = some dest → isRequest p.body = true → (∀ f ∈ s.net.wire, f.place = .source → isRequest f.pkt.body = false) →
      (isCall p.body = true → (freeTag g).isSome = true) → bucketAllows s i tc p.body = true → classWins s i tc = true →
      canEnter s.net (sourceFlight i { p with dest := dest }) (entryRouter i) (nodeInput i) = true → Answers (.gateInject i tc) s (fun t =>
      let h := t.gate i
      h.waiting = g.waiting.erase p ∧ h.reqCount = g.reqCount + 1 ∧ h.byteCount = g.byteCount + BitVec.ofNat 64 (chargeOf p.body) ∧ h.lastTc = tc ∧
      (∃ f, t.net.wire = s.net.wire ++ [f] ∧ f.at' = entryRouter i ∧ f.inp = nodeInput i ∧ 1 ≤ f.here ∧ f.pkt.dest = dest ∧ f.pkt.src = p.src ∧ f.pkt.body = p.body ∧
        (isCall p.body = true → freeTag g = some f.pkt.tag ∧
          h.outstanding = g.outstanding ++ [{ tag := f.pkt.tag, who := p.who, dest := dest, addr := packetAddr p.body, body := p.body }]) ∧
        (isCall p.body = false → h.outstanding = g.outstanding)) ∧
      (rateOf s i tc ≠ 0 → Tab.get 0 h.spent tc = Tab.get 0 g.spent tc + chargeOf p.body * 1600) ∧
      (∀ j, j ≠ i → t.gate j = s.gate j) ∧ t = { s with net := t.net } ∧ t.net.routers = s.net.routers)) ∧
    (i < 72 → resolveDest s p = none → isCall p.body = false →
      Answers (.gateInject i tc) s (fun t => (t.gate i).waiting = g.waiting.erase p ∧ t.net.wire = s.net.wire ∧ t = { s with net := t.net })) ∧
    (∀ a n, i < 72 → resolveDest s p = none → p.body = .rd a n → Answers (.gateInject i tc) s (fun t =>
      (t.gate i).waiting = g.waiting.erase p ∧ (t.gate i).answers = g.answers ++ [{ mkPacket i i 0 0 (.rdata .noroute []) with who := p.who }] ∧
      (t.gate i).outstanding = g.outstanding ∧ t.net.wire = s.net.wire ∧ t = { s with net := t.net }))) ∧
  ((∀ (s : State) (i : Nat) (pkt : Packet) (lat : Nat) (o : Outstanding), i < 72 → s.domOn 87 = true → isAnswer pkt.body = true → s.packetAt i pkt = true →
    (s.gate i).outstanding.find? (fun x => x.tag = pkt.tag) = some o → Answers (.gateAnswer i pkt 0 [] lat) s (fun t =>
      (t.gate i).outstanding = (s.gate i).outstanding.erase o ∧ (t.gate i).quarantine = (s.gate i).quarantine ∧
      Tab.get 0 (t.gate i).hist (latencyBin lat) = Tab.get 0 (s.gate i).hist (latencyBin lat) + 1 ∧
      ((∀ st r, pkt.body ≠ .crsp st r) → (t.gate i).answers = (s.gate i).answers ++ [{ mkPacket i i 0 0 pkt.body with who := o.who }]) ∧
      (∀ j, j ≠ i → t.gate j = s.gate j) ∧ t = { s with net := t.net })) ∧
  (∀ (s : State) (i : Nat) (pkt : Packet) (lat : Nat), s.domOn 87 = true → isAnswer pkt.body = true → s.packetAt i pkt = true →
    (s.gate i).outstanding.find? (fun x => x.tag = pkt.tag) = none →
    Answers (.gateAnswer i pkt 0 [] lat) s (fun t => t.net.lateAnswers = s.net.lateAnswers + 1 ∧
      (t.gate i).quarantine = (s.gate i).quarantine.erase pkt.tag ∧ (t.gate i).outstanding = (s.gate i).outstanding ∧ t = { s with net := t.net })) ∧
  (∀ (s : State) (i tag : Nat) (o : Outstanding), i < 72 → s.domOn 87 = true → (s.gate i).outstanding.find? (fun x => x.tag = tag) = some o →
    Answers (.rspTimeout i tag) s (fun t => (t.gate i).outstanding = (s.gate i).outstanding.erase o ∧
      (t.gate i).quarantine = (s.gate i).quarantine ++ [o.tag] ∧ t.net.lostCount = s.net.lostCount + 1 ∧ Reports s t 0x3604 9 i)) ∧
  (∀ (s : State) (i tag : Nat), tag ∈ (s.gate i).quarantine → Answers (.tagQuarantineEnd i tag) s (fun t =>
    (t.gate i).quarantine = (s.gate i).quarantine.erase tag ∧ (t.gate i).outstanding = (s.gate i).outstanding ∧ (∀ j, j ≠ i → t.gate j = s.gate j) ∧
    t = { s with net := t.net })) ∧
  (∀ (s : State) (i tag : Nat) (o : Outstanding), i < 72 → s.domOn 87 = true → tag ≠ 255 →
    (∃ f ∈ s.net.wire, flightArrived f = true ∧ f.inp = i ∧ f.pkt.body = .headerNotice tag) →
    (s.gate i).outstanding.filter (fun x => x.tag = tag) = [o] → Answers (.gateDropNotice i tag) s (fun t =>
      (t.gate i).outstanding = (s.gate i).outstanding.erase o ∧ (t.gate i).quarantine = (s.gate i).quarantine ++ [tag] ∧
      t.net.lostCount = s.net.lostCount + 1 ∧ t.chill = s.chill)))

/-- R381, R385-R387, R395, R397, R399, R404, R405, R408: a header leaves its source for the link of its node, a bridge for the buffer of its link, and a router by its
route, to the next router's input or to its endpoint through an OPEN port; between routers it uses a hop credit of the link it enters and gives back that of the buffer
it leaves. For a CLOSED port the router answers a request OFFLINE and discards a response. A corrected header is logged and counts, an uncorrectable one is dropped with
a notice to its source, and a fatal fault stops the router with 0x4601 and loses what is inside. R404, R406, R407, R409-R412: a CLOSING port whose gate has nothing
outstanding, with nothing in its link, becomes CLOSED; a slow close is logged once with 0x3605; an OPENING port that has exchanged its credits is OPEN; APPLY waits for
a pour tick on which no header holds a look-ahead of the router, and then the staged table is live; DISCARD makes the staged table the live one. How far flits follow
their header within one command is the model's choice (log 37). Commands it says complete: runnerHop, portDrained, closeTimeout, portCreditsExchanged, rtrCmdApply,
routeTableSwitch, rtrCmdDiscard. -/
def Obligations.RoutersPortsAndTables : Prop :=
  (∀ (s : State) (k : Nat) (f : Flight), s.net.wire[k]? = some f → f.at' < 13 → s.domOn 87 = true → (s.router (min f.at' 11)).stopped = false →
    let r := f.at'
    let n := lookAhead s r f.pkt.dest
    let vc := channelOf f.pkt.body
    let key := if r = 12 then (11, 9 + n) else (r, n)
    let bridgeOf (x inp : Nat) : Place := if linkBridged (linkKey x inp vc) then .bridge else .buffer
    (f.place = .source → oldestHere s.net f = true → canEnter s.net f r f.inp = true → Answers (.runnerHop k .clean) s (fun t =>
      PacketMoved s t f r f.inp f.pkt (bridgeOf r f.inp))) ∧
    (f.place = .bridge → oldestHere s.net f = true → Answers (.runnerHop k .clean) s (fun t => PacketMoved s t f r f.inp f.pkt .buffer)) ∧
    (f.place = .buffer ∨ f.place = .own →
      (hopReady s f = true → hopWins s f = true →
        (∀ x inp, portTo r n = .router x inp → (s.router (min x 11)).stopped = false → Answers (.runnerHop k .clean) s (fun t =>
          PacketMoved s t f x inp { f.pkt with la := lookAhead s x f.pkt.dest } (bridgeOf x inp) ∧
          (f.place = .buffer → f.here = 1 → f.tail = [] → f.inp < 256 → linkKey x inp vc ≠ linkKey r f.inp vc →
            t.net.hopCredits (linkKey x inp vc) = s.net.hopCredits (linkKey x inp vc) - 1 ∧
            t.net.hopCredits (linkKey r f.inp vc) = s.net.hopCredits (linkKey r f.inp vc) + 1))) ∧
        (portTo r n = .node → s.port key.1 key.2 = .opened → Answers (.runnerHop k .clean) s (fun t =>
          PacketMoved s t f 13 (s.portNode key.1 key.2) f.pkt (bridgeOf 13 (s.portNode key.1 key.2)))) ∧
        (portTo r n = .node → s.port key.1 key.2 = .closed → isRequest f.pkt.body = true → Answers (.runnerHop k .clean) s (fun t =>
          PacketAnswered s t f (networkAnswer .offline f.pkt.body) ∧
          (t.router (min r 11)).offlineAnswers = (s.router (min r 11)).offlineAnswers + 1 ∧ t = { s with net := t.net })) ∧
        (portTo r n = .node → s.port key.1 key.2 = .closed → isRequest f.pkt.body = false → Answers (.runnerHop k .clean) s (fun t =>
          t.net.wire = s.net.wire.erase f ∧ (t.router (min r 11)).closedDrops = (s.router (min r 11)).closedDrops + 1 ∧ t = { s with net := t.net })) ∧
        Answers (.runnerHop k .corrected) s (fun t => (t.router (min r 11)).hdrCorrected = (s.router (min r 11)).hdrCorrected + 1 ∧
          Reports s t 0x1601 8 (min r 11) ∧ t = { s with net := t.net, chill := t.chill })) ∧
      (∀ tag, oldestHere s.net f = true → Answers (.runnerHop k (.drop true tag)) s (fun t =>
        PacketAnswered s t f (.headerNotice (if tag then f.pkt.tag else 255)) ∧ (t.router (min r 11)).hdrDropped = (s.router (min r 11)).hdrDropped + 1 ∧
        Reports s t 0x3601 8 (min r 11) ∧ t = { s with net := t.net, chill := t.chill })) ∧
      (oldestHere s.net f = true → Answers (.runnerHop k .fatal) s (fun t => (t.router (min r 11)).stopped = true ∧
        (∀ g ∈ t.net.wire, g.at' = r → g.place = .source) ∧ Reports s t 0x4601 8 (min r 11) ∧ t = { s with net := t.net, chill := t.chill })))) ∧
  ((∀ (s : State) (r n : Nat), s.port r n = .closing → (s.gate (s.portNode r n)).outstanding = [] → endpointStopped s r n = false → pendingAt s (s.portNode r n) = [] →
    rewindsWait s (s.portNode r n) = false → linkEmpty s (s.portNode r n) = true → Answers (.portDrained r n) s (fun t => t.port r n = .closed ∧ (∀ m, m ≠ n → t.port r m = s.port r m) ∧ (∀ q, q ≠ r → t.router q = s.router q) ∧
      t.net.wire = s.net.wire ∧ t = { s with net := t.net })) ∧
  (∀ (s : State) (r n : Nat), s.port r n = .closing → n ∉ (s.router r).closeLogged → Answers (.closeTimeout r n) s (fun t =>
    n ∈ (t.router r).closeLogged ∧ t.port r n = .closing ∧ Reports s t 0x3605 8 r ∧ t = { s with net := t.net, chill := t.chill })) ∧
  (∀ (s : State) (r n : Nat), s.port r n = .opening → Answers (.portCreditsExchanged r n) s (fun t =>
    t.port r n = .opened ∧ (∀ m, m ≠ n → t.port r m = s.port r m) ∧ (∀ q, q ≠ r → t.router q = s.router q) ∧ t = { s with net := t.net })) ∧
  (∀ (s : State) (path r : Nat), Admitted s path (0x3000 + r) 2 3 → r < 11 → (s.router r).applyPending = false → (r < 8 → s.recasting r = false) →
    Answers (.rtrCmdApply path r) s (fun t => t.router r = { s.router r with applyPending := true } ∧ (∀ q, q ≠ r → t.router q = s.router q))) ∧
  (∀ (s : State) (r : Nat), (s.router r).applyPending = true → s.tickFree = true →
    (∀ f ∈ s.net.wire, f.at' = r → f.place ≠ .buffer ∧ f.place ≠ .own) → Answers (.routeTableSwitch r) s (fun t =>
    t.router r = { s.router r with applyPending := false, route := (s.router r).stage } ∧ (∀ id, liveRoute t r id = stagedRoute s r id) ∧ t = { s with net := t.net })) ∧
  (∀ (s : State) (path r : Nat), Admitted s path (0x3000 + r) 2 3 → r < 11 → (s.router r).applyPending = false →
    Answers (.rtrCmdDiscard path r) s (fun t => t.router r = { s.router r with stage := (s.router r).route } ∧ (∀ q, q ≠ r → t.router q = s.router q))))

/-! ### The ladle cores -/

namespace Sys2Proof.Machine

/-- Nothing waits for the boundary after an instruction of core `c`: no cancel (R323), no bank fault of a fill (R278), and no PARK that makes its thread leave
(R316). -/
abbrev LcQuiet (s : State) (c : Nat) : Prop :=
  (∀ e ∈ s.cup.threads, e.2.cancelAsked = false) ∧ (s.core c).faultDue = none ∧ ((s.core c).st = .running ∨ (s.core c).levelMode = true)

/-- Core `c` executes, the instruction at its program counter is of kind `i` and `len` bytes long, and nothing waits for the boundary after it. -/
abbrev LcAt (s : State) (c : Nat) (i : LcKind) (len : Nat) : Prop := s.lcRuns c = true ∧ lcKind s c = (i, len) ∧ LcQuiet s c

/-- No other core changed. -/
def OtherCores (s t : State) (c : Nat) : Prop := ∀ d, d ≠ c → t.core d = s.core d

/-- The core goes on behind an instruction of `len` bytes, `k` being the core that the instruction leaves otherwise. -/
def LcWent (s t : State) (c len : Nat) (k : LcCore) : Prop :=
  t.core c = { k with pc := (s.core c).pc + BitVec.ofNat 32 len, minstret := (s.core c).minstret + 1 } ∧ OtherCores s t c

/-- A trap was taken in the current bank (R307): its registers but the trap's own stand. -/
def Trapped (s t : State) (c : Nat) (cause tval vector : Word) : Prop :=
  let k := s.core c
  let h := t.core c
  h.csrOf 0x341 = k.pc ∧ h.csrOf 0x342 = cause ∧ h.csrOf 0x343 = tval ∧ h.csrOf 0x300 = (if k.mie then 0x80#32 else 0#32) ∧
  h.csrOf 0x7C1 = (k.bank k.cur).bprog ∧ (h.bank h.cur).bprog = 0 ∧ h.pc = vector ∧ h.cur = k.cur ∧ h.idle = k.idle ∧ h.minstret = k.minstret ∧
  (∀ r, h.reg r = k.reg r) ∧ h.lmem = k.lmem ∧ OtherCores s t c

/-- The base of mtvec. -/
def LcCore.trapBase (k : LcCore) : Word := k.csrOf 0x305 &&& 0xFFFFFFFC#32

/-- The gate of core `c` holds one more request, under the mark `who`, and no other gate changed. -/
def LcAsked (s t : State) (c who dest : Nat) (b : Body) : Prop :=
  (t.gate (72 + c)).waiting = (s.gate (72 + c)).waiting ++ [{ mkPacket (72 + c) dest 0 0 b with who := who }] ∧ (∀ i, i ≠ 72 + c → t.gate i = s.gate i)

/-- The whole of `n` bytes at `a` lies in local memory, or in shared SRAM (R268). -/
def inOneMemory (a n : Nat) : Prop := a + n ≤ 0x10000 ∨ (0x01000000 ≤ a ∧ a + n ≤ 0x01200000)

/-- Word `j` of a pop response (R277): the status word, 0, then each word with its tags. -/
def popWord (st : PopStatus) (ws : List QWord) (j : Nat) : Nat :=
  let w := ws.getD (j / 2 - 1) { d := 0, l := false, i := false, p := false }
  if j = 0 then popCode st * 2 ^ 28 + ws.length else if j = 1 then 0
  else if j % 2 = 0 then w.d.toNat else 1 + 2 * w.l.toNat + 4 * w.i.toNat + 8 * w.p.toNat

end Sys2Proof.Machine

/-- R267-R272 with the base architecture of log 8: what the instructions without a row of their own do, a few of each sort; a load of a poisoned word and an access outside
the memories trap. Commands it says complete: lcInstruction. -/
def Obligations.LadlePlainInstructions : Prop :=
  ∀ (s : State) (c len : Nat) (w : Word), s.lcRuns c = true → lcFetch s c = .instr w len → LcQuiet s c →
    let k := s.core c
    let a := k.reg (rvRs1 w)
    let b := k.reg (rvRs2 w)
    let alone (t : State) : Prop := t = { s with cores := t.cores }
    let wrote (v : Word) : Prop := Answers (.lcInstruction c .clean) s (fun t => LcWent s t c len (k.setReg (rvRd w) v) ∧ alone t)
    (rvOpcode w = 0x37 → wrote (immU w)) ∧
    (rvOpcode w = 0x17 → wrote (k.pc + immU w)) ∧
    (rvOpcode w = 0x13 → rvF3 w = 0 → wrote (a + immI w)) ∧
    (rvOpcode w = 0x33 → rvF3 w = 0 → rvF7 w = 0 → wrote (a + b)) ∧
    (rvOpcode w = 0x33 → rvF3 w = 0 → rvF7 w = 0x20 → wrote (a - b)) ∧
    (rvOpcode w = 0x33 → rvF3 w = 0 → rvF7 w = 1 → wrote (a * b)) ∧
    (rvOpcode w = 0x33 → rvF3 w = 5 → rvF7 w = 1 → wrote (if b.toNat = 0 then 0xFFFFFFFF#32 else BitVec.ofNat 32 (a.toNat / b.toNat))) ∧
    (rvOpcode w = 0x63 → rvF3 w = 0 → Answers (.lcInstruction c .clean) s (fun t =>
      t.core c = { k with pc := if a = b then (k.pc + immB w) &&& 0xFFFFFFFE#32 else k.pc + BitVec.ofNat 32 len, minstret := k.minstret + 1 } ∧
      OtherCores s t c ∧ alone t)) ∧
    (rvOpcode w = 0x03 → rvF3 w = 2 → (a + immI w).toNat % 4 = 0 → inOneMemory (a + immI w).toNat 4 →
      ((lcWord s c (a + immI w).toNat).p = false → wrote (lcWord s c (a + immI w).toNat).d) ∧
      ((lcWord s c (a + immI w).toNat).p = true → k.cur ≠ 0 → Answers (.lcInstruction c .clean) s (fun t =>
        Trapped s t c 5 (a + immI w) k.trapBase ∧ Reports s t 0x3501 7 c))) ∧
    (rvOpcode w = 0x23 → rvF3 w = 2 → (a + immS w).toNat % 4 = 0 → (a + immS w).toNat + 4 ≤ 0x10000 → Answers (.lcInstruction c .clean) s (fun t =>
      LcWent s t c len { k with lmem := (t.core c).lmem } ∧
      (∀ j, Tab.get 0 (t.core c).lmem j = if j = (a + immS w).toNat / 4 then b else Tab.get 0 k.lmem j) ∧ alone t)) ∧
    (w = 0x00000073#32 → k.cur ≠ 0 → Answers (.lcInstruction c .clean) s (fun t => Trapped s t c 11 0 k.trapBase ∧ alone t)) ∧
    (rvOpcode w = 0x03 → rvF3 w = 2 → (a + immI w).toNat % 4 ≠ 0 → k.cur ≠ 0 → Answers (.lcInstruction c .clean) s (fun t =>
      Trapped s t c 4 (a + immI w) k.trapBase ∧ alone t)) ∧
    (k.cur ≠ 0 → kindOf k w = .plain → Answers (.lcInstruction c .fetchBad) s (fun t =>
      Trapped s t c 1 k.pc k.trapBase ∧ Reports s t 0x3502 7 c))

/-- R271, R273-R278: the queue interface and the runner window. A push store sends one word for one credit; without one the core stalls until a credit has come, and a store
that timed out traps; a POP command waits for its response, which is laid out at its destination; REWIND is sent; a load through the window waits for its answer, a
store is posted, and a fence waits until none is. R302-R306: LDM and STM over local memory move every register of the mask, each at the base plus four times its number,
and complete when BPROG is empty; an instruction that made no transfer yet holds its mask in BPROG. A base that is no multiple of 4 traps before any transfer. Commands
it says complete: lcQueuePush, lcQueuePushLast, qpushTimeout, lcQueuePop, lcPopResponse, lcQueueRewind, lcRunnerLoad, lcRunnerStore, lcFence, ldm, stm. -/
def Obligations.LadleQueuesWindowAndMultiples : Prop :=
  ((∀ (s : State) (c q len : Nat) (v : Word) (l : Bool),
    let op : Instr := if l then .lcQueuePushLast c .clean else .lcQueuePush c .clean
    let p := s.producer (72 + c) q
    let sends : Prop := Answers op s (fun t =>
      t.producer (72 + c) q = { p with credits := p.credits - 1, midPacket := !l } ∧
      LcAsked s t c 0 81 (.push q (!p.midPacket) [{ d := v, l := l, i := false, p := false }]) ∧ LcWent s t c len { s.core c with stall := .none } ∧
      t = { s with cores := t.cores, net := t.net })
    (LcAt s c (.push q v l) len → 0 < p.credits → p.gather = [] → sends) ∧
    (LcAt s c (.push q v l) len → p.credits = 0 → Answers op s (fun t =>
      t.core c = { s.core c with stall := .push q v l len } ∧ OtherCores s t c ∧ t = { s with cores := t.cores })) ∧
    (s.domOn 86 = true → (s.core c).stall = .push q v l len → LcQuiet s c → 0 < p.credits → p.gather = [] → sends) ∧
    (s.domOn 86 = true → (s.core c).stall = .push q v l len → LcQuiet s c → p.credits = 0 → (s.core c).cur ≠ 0 → Answers (.qpushTimeout c) s (fun t =>
      Trapped s t c 7 (BitVec.ofNat 32 (0x04000000 + 16 * q + if l then 4 else 0)) (s.core c).trapBase ∧ (t.core c).stall = .none ∧
      Reports s t 0x3503 7 c ∧ t.net = s.net))) ∧
  (∀ (s : State) (c q len : Nat) (v : Word), LcAt s c (.popc q v) len →
    let dest := v.toNat % 2 ^ 28
    (dest % 8 = 0 → inOneMemory dest 8 → Answers (.lcQueuePop c .clean) s (fun t =>
      (∃ n, 1 ≤ n ∧ n ≤ 8 ∧ (v.toNat / 2 ^ 28 < 8 → n = v.toNat / 2 ^ 28 + 1) ∧ LcAsked s t c ((s.core c).ask + 1) 81 (.pop q n)) ∧
      t.core c = { s.core c with stall := .pop q dest, ask := (s.core c).ask + 1 } ∧ OtherCores s t c ∧
      t = { s with cores := t.cores, net := t.net, fresh := t.fresh })) ∧
    (dest % 8 ≠ 0 → (s.core c).cur ≠ 0 → Answers (.lcQueuePop c .clean) s (fun t =>
      Trapped s t c 7 (BitVec.ofNat 32 (0x04000000 + 16 * q + 8)) (s.core c).trapBase ∧ t = { s with cores := t.cores }))) ∧
  (∀ (s : State) (c q dest : Nat) (st : PopStatus) (ws : List QWord), s.domOn 86 = true → (s.core c).stall = .pop q dest → ws.length ≤ 8 → dest % 8 = 0 →
    inOneMemory dest (8 + 8 * ws.length) → LcQuiet s c → s.answered (72 + c) (s.core c).ask (.popResp st ws) = true →
    Answers (.lcPopResponse c st ws) s (fun t =>
      (∀ j, j < 2 + 2 * ws.length → lcWord t c (dest + 4 * j) = { d := BitVec.ofNat 32 (popWord st ws j), p := false }) ∧
      (∀ a, a < 0x10000 ∨ (0x01000000 ≤ a ∧ a < 0x01200000) → (a < dest ∨ dest + 8 + 8 * ws.length ≤ a) → lcWord t c a = lcWord s c a) ∧
      t.core c = { s.core c with lmem := (t.core c).lmem, stall := .none, pc := (s.core c).pc + BitVec.ofNat 32 (lcKind s c).2, minstret := (s.core c).minstret + 1 } ∧
      t = { s with cores := t.cores, sram := t.sram, net := t.net })) ∧
  (∀ (s : State) (c q len : Nat), LcAt s c (.rewindq q) len → Answers (.lcQueueRewind c .clean) s (fun t =>
    (t.producer (72 + c) q) = { s.producer (72 + c) q with midPacket := false } ∧ LcAsked s t c 0 81 (.rewind q) ∧ LcWent s t c len (s.core c) ∧
    t = { s with cores := t.cores, net := t.net })) ∧
  (∀ (s : State) (c a rd size len : Nat) (g : Bool), LcAt s c (.runnerLoad a rd size g) len → Answers (.lcRunnerLoad c .clean) s (fun t =>
    let k := s.core c
    LcAsked s t c (k.ask + 1) 127 (.rd ((k.bank k.cur).bwin.toNat * 2 ^ 30 + (a - 0x40000000) - a % 4) 1) ∧
    t.core c = { k with stall := .load a rd size g false, ask := k.ask + 1 } ∧ OtherCores s t c ∧ t = { s with cores := t.cores, net := t.net })) ∧
  (∀ (s : State) (c a size len : Nat) (v : Word), LcAt s c (.runnerStore a size v) len → Answers (.lcRunnerStore c .clean) s (fun t =>
    let k := s.core c
    let be : BitVec 4 := BitVec.ofNat 4 (((2 ^ size - 1) * 2 ^ (a % 4)))
    LcAsked s t c 0 127 (.wr ((k.bank k.cur).bwin.toNat * 2 ^ 30 + (a - 0x40000000) - a % 4) be be [{ d := v <<< (8 * (a % 4)), p := false }]) ∧
    LcWent s t c len { k with posted := k.posted + 1 } ∧ t = { s with cores := t.cores, net := t.net })) ∧
  (∀ (s : State) (c len : Nat), LcAt s c .fence len →
    ((s.core c).posted = 0 → Answers (.lcFence c .clean) s (fun t => LcWent s t c len (s.core c) ∧ t = { s with cores := t.cores })) ∧
    ((s.core c).posted ≠ 0 → exec (.lcFence c .clean) s = .next s))) ∧
  (∀ (s : State) (c rs1 rs2 : Nat),
    let k := s.core c
    let base := (k.reg rs1).toNat
    let m := k.reg rs2
    let alone (t : State) : Prop := t = { s with cores := t.cores }
    (LcAt s c (.ldm rs1 rs2) 4 → (k.bank k.cur).bprog = 0 → base % 4 = 0 → base + 128 ≤ 0x10000 → Answers (.ldm c 32 .clean) s (fun t =>
      (∀ r, 1 ≤ r → r < 32 → (t.core c).reg r = if m.getLsbD r then Tab.get 0 k.lmem ((base + 4 * r) / 4) else k.reg r) ∧
      ((t.core c).bank k.cur).bprog = 0 ∧ (t.core c).pc = k.pc + 4 ∧ (t.core c).minstret = k.minstret + 1 ∧ (t.core c).lmem = k.lmem ∧
      (∀ b, b ≠ k.cur → (t.core c).bank b = k.bank b) ∧ OtherCores s t c ∧ alone t)) ∧
    (LcAt s c (.stm rs1 rs2) 4 → (k.bank k.cur).bprog = 0 → base % 4 = 0 → base + 128 ≤ 0x10000 → Answers (.stm c 32 .clean) s (fun t =>
      (∀ j, Tab.get 0 (t.core c).lmem j =
        if base / 4 < j ∧ j < base / 4 + 32 ∧ m.getLsbD (j - base / 4) then k.reg (j - base / 4) else Tab.get 0 k.lmem j) ∧
      (∀ r, (t.core c).reg r = k.reg r) ∧ ((t.core c).bank k.cur).bprog = 0 ∧ (t.core c).pc = k.pc + 4 ∧ (t.core c).minstret = k.minstret + 1 ∧
      (∀ b, b ≠ k.cur → (t.core c).bank b = k.bank b) ∧ OtherCores s t c ∧ alone t)) ∧
    (LcAt s c (.ldm rs1 rs2) 4 → (k.bank k.cur).bprog = 0 → base % 4 = 0 → base + 128 ≤ 0x10000 → m &&& 0xFFFFFFFE#32 ≠ 0 → Answers (.ldm c 0 .clean) s (fun t =>
      ((t.core c).bank k.cur).bprog = m &&& 0xFFFFFFFE#32 ∧ (t.core c).pc = k.pc ∧ (∀ r, (t.core c).reg r = k.reg r) ∧ OtherCores s t c)) ∧
    (LcAt s c (.ldm rs1 rs2) 4 → base % 4 ≠ 0 → k.cur ≠ 0 → ∀ n, Answers (.ldm c n .clean) s (fun t => Trapped s t c 4 (k.reg rs1) k.trapBase ∧ alone t)) ∧
    (LcAt s c (.stm rs1 rs2) 4 → base % 4 ≠ 0 → k.cur ≠ 0 → ∀ n, Answers (.stm c n .clean) s (fun t => Trapped s t c 6 (k.reg rs1) k.trapBase ∧ alone t)))

/-- R284, R285, R290-R293, R307, R311: the returns, XBREADY and XBWDATA, and the two ways a local source is taken. R286, R294-R301, R308: a dispatch accepted by an idle
core whose bank holds the thread resumes it at its entry or its BPC; one without a bank waits for the spill unit. A spill writes the bank's save area and status pair,
and the thread's bank is gone; a fill reads them back, and a poisoned word of them is a bank fault. Commands it says complete: bret, mret, lcDispatchAccept,
lcSourceTrap, lcLevelEntry, xbreadyWrite, xbwdataWrite, bankSpill, bankSpillComplete, bankFill, bankFillComplete. -/
def Obligations.LadleReturnsSourcesAndBanks : Prop :=
  ((∀ (s : State) (c len : Nat), LcAt s c .bret len →
    let k := s.core c
    (k.cur = 0 → Answers (.bret c .clean) s (fun t =>
      let h := t.core c
      h.cur = (k.csrOf 0x7C5).toNat % 32 ∧ h.pc = k.csrOf 0x7C6 ∧ h.minstret = k.minstret + 1 ∧ (h.bank 0) = { k.bank 0 with bpc := k.pc + 4 } ∧
      (∀ b, b ≠ 0 → h.bank b = k.bank b) ∧ h.csr = k.csr ∧ h.idle = (k.faultIdle || decide (k.bankSt ((k.csrOf 0x7C5).toNat % 32) = .free)) ∧
      OtherCores s t c ∧ t = { s with cores := t.cores })) ∧
    (k.cur ≠ 0 → k.levelMode = true → k.level ≠ 0 → k.stack.headD 0 + 1 ≠ k.cur → Answers (.bret c .clean) s (fun t =>
      let h := t.core c
      h.level = k.stack.headD 0 ∧ h.stack = k.stack.tail ∧ h.cur = k.stack.headD 0 + 1 ∧ h.pc = (k.bank (k.stack.headD 0 + 1)).bpc ∧
      h.bank k.cur = { k.bank k.cur with bpc := k.pc + 4 } ∧ OtherCores s t c ∧ t = { s with cores := t.cores })) ∧
    (k.cur ≠ 0 → (k.levelMode = false ∨ k.level = 0) → Answers (.bret c .clean) s (fun t => ∃ v, Trapped s t c 2 v k.trapBase))) ∧
  (∀ (s : State) (c len : Nat), LcAt s c .mret len → Answers (.mret c .clean) s (fun t =>
    let k := s.core c
    let h := t.core c
    h.pc = k.csrOf 0x341 ∧ h.csrOf 0x300 = (if (k.csrOf 0x300).getLsbD 7 then 0x88#32 else 0x80#32) ∧ (h.bank k.cur).bprog = k.csrOf 0x7C1 ∧ h.cur = k.cur ∧
    h.minstret = k.minstret + 1 ∧ (∀ r, h.reg r = k.reg r) ∧ OtherCores s t c ∧ t = { s with cores := t.cores })) ∧
  (∀ (s : State) (c len rd : Nat), LcAt s c (.xbready rd) len → Answers (.xbreadyWrite c .clean) s (fun t =>
    let k := s.core c
    let h := t.core c
    h.csrOf 0x7C9 = 1 ∧ h.pc = k.pc + BitVec.ofNat 32 len ∧ OtherCores s t c ∧ t = { s with cores := t.cores } ∧
    (k.levelMode = true ∨ k.booted = true → (∀ r, r < 32 → h.reg r = if r = rd ∧ rd ≠ 0 then k.csrOf 0x7C9 else k.reg r) ∧ h.idle = k.idle) ∧
    (k.levelMode = false → k.booted = false → h.booted = true ∧ (h.bank 1).st = .free ∧ (h.bank 1).thread = none ∧ h.idle = decide (k.cur = 1)))) ∧
  (∀ (s : State) (c len rd : Nat) (v : Word), LcAt s c (.xbwdata rd v) len → Answers (.xbwdataWrite c .clean) s (fun t =>
    let k := s.core c
    let h := t.core c
    let b := (k.csrOf 0x7C7).toNat / 256 % 32
    let i := (k.csrOf 0x7C7).toNat % 64
    (i = 0 → (h.bank b).bpc = v) ∧ (1 ≤ i → i < 32 → Tab.get 0 (h.bank b).x i = v) ∧ (i = 32 → (h.bank b).bprog = v &&& 0xFFFFFFFE#32) ∧
    (i = 33 → (h.bank b).bwin = v &&& 0x3FFFF#32) ∧ (∀ j, j ≠ b → j ≠ k.cur → h.bank j = k.bank j) ∧ h.pc = k.pc + BitVec.ofNat 32 len ∧
    (rd ≠ 0 → b ≠ k.cur → h.reg rd = bankItem k) ∧ OtherCores s t c ∧ t = { s with cores := t.cores })) ∧
  (∀ (s : State) (c src : Nat), (s.core c).levelMode = false → sourceWins s c src = true → Answers (.lcSourceTrap c src) s (fun t =>
    let k := s.core c
    Trapped s t c (BitVec.ofNat 32 (0x80000000 + 16 + src)) 0 (if (k.csrOf 0x305).getLsbD 0 then k.trapBase + BitVec.ofNat 32 (4 * (16 + src)) else k.trapBase) ∧
    t = { s with cores := t.cores, pdoIrq := t.pdoIrq } ∧ (src ≠ 19 → t.pdoIrq = s.pdoIrq) ∧ (src = 19 → t.pdoIrq.getLsbD c = false))) ∧
  (∀ (s : State) (c src : Nat), (s.core c).levelMode = true → sourceWins s c src = true → sourceLevel (s.core c) src + 1 ≠ (s.core c).cur →
    Answers (.lcLevelEntry c src) s (fun t =>
      let k := s.core c
      let h := t.core c
      h.level = sourceLevel k src ∧ h.stack = k.level :: k.stack ∧ h.cur = sourceLevel k src + 1 ∧ h.bank k.cur = { k.bank k.cur with bpc := k.pc } ∧
      h.bank (sourceLevel k src + 1) = { k.bank (sourceLevel k src + 1) with st := .resident } ∧
      h.pc = k.trapBase + BitVec.ofNat 32 (4 * (16 + src)) ∧ h.csr = k.csr ∧ OtherCores s t c ∧ t = { s with cores := t.cores, pdoIrq := t.pdoIrq }))) ∧
  ((∀ (s : State) (c u b : Nat), nextThread s c = some u → s.domOn 86 = true → c < 8 → (s.core c).st = .running → (s.core c).levelMode = false →
    (s.core c).booted = true → (s.core c).idle = true → (s.core c).boundary = true →
    ((s.thread u).bank = some (c, b) → ((s.core c).bank b).st = .resident → ((s.core c).bank b).filling = false → Answers (.lcDispatchAccept c) s (fun t =>
      let k := s.core c
      let h := t.core c
      let x := s.thread u
      h.cur = b ∧ h.idle = false ∧ h.waiting = none ∧ h.pc = (if x.fresh then x.entry else (k.bank b).bpc) ∧
      (x.held = [] → (h.bank b).x = (k.bank b).x) ∧
      (t.thread u).st = .running ∧ (t.thread u).fresh = false ∧ (t.thread u).held = [] ∧ (t.thread u).bank = some (c, b) ∧ (t.thread u).home = c ∧
      (∀ v, v ≠ u → t.thread v = s.thread v) ∧ t.cup.dispatches = s.cup.dispatches + 1 ∧ (∀ j, j ≠ b → h.bank j = k.bank j) ∧ OtherCores s t c ∧
      t = { s with cores := t.cores, cup := t.cup })) ∧
    ((s.thread u).bank = none → (s.core c).banksIn .free ≠ [] → Answers (.lcDispatchAccept c) s (fun t =>
      t.core c = { s.core c with waiting := some u } ∧ Tab.get none t.cup.sent c = none ∧ OtherCores s t c ∧ (∀ v, t.thread v = s.thread v) ∧
      t = { s with cores := t.cores, cup := t.cup }))) ∧
  (∀ (s : State) (c b : Nat), s.domOn 86 = true → (s.core c).st ≠ .parking → spillChoice s c = some b → Answers (.bankSpill c) s (fun t =>
    (t.core c).unit' = .spilling b ∧ (t.core c).bank b = { (s.core c).bank b with st := .spilling } ∧ (∀ j, j ≠ b → (t.core c).bank j = (s.core c).bank j) ∧
    OtherCores s t c ∧ t = { s with cores := t.cores })) ∧
  (∀ (s : State) (c b u : Nat) (bad : List Nat), (s.core c).unit' = .spilling b → ((s.core c).bank b).thread = some u → u < 4096 →
    Answers (.bankSpillComplete c [] bad) s (fun t =>
      let y := (s.core c).bank b
      t.sramWord (32 * u) = { d := y.bpc, p := bad.contains 0 } ∧
      (∀ i, 1 ≤ i → i < 32 → t.sramWord (32 * u + i) = { d := Tab.get 0 y.x i, p := bad.contains i }) ∧
      t.sramWord (0x20000 + 2 * u) = { d := y.bprog, p := bad.contains 32 } ∧ t.sramWord (0x20001 + 2 * u) = { d := y.bwin, p := bad.contains 33 } ∧
      (∀ j, (j < 32 * u ∨ 32 * u + 32 ≤ j) → j ≠ 0x20000 + 2 * u → j ≠ 0x20001 + 2 * u → t.sramWord j = s.sramWord j) ∧
      (t.core c).unit' = .idle ∧ ((t.core c).bank b).st = .free ∧ (t.core c).spills = (s.core c).spills + 1 ∧ t.thread u = { s.thread u with bank := none } ∧
      (∀ v, v ≠ u → t.thread v = s.thread v) ∧ t = { s with cores := t.cores, sram := t.sram, cup := t.cup })) ∧
  (∀ (s : State) (c u b : Nat) (r : List Nat), s.domOn 86 = true → (s.core c).unit' = .idle → (s.core c).st = .running → (s.core c).waiting = some u →
    (s.core c).banksIn .free = b :: r → (s.thread u).bank = none → Answers (.bankFill c) s (fun t =>
      (t.core c).unit' = .filling b ∧ (t.core c).bank b = { (s.core c).bank b with st := .resident, thread := some u, filling := true } ∧
      t.thread u = { s.thread u with bank := some (c, b) } ∧ OtherCores s t c ∧ t = { s with cores := t.cores, cup := t.cup })) ∧
  (∀ (s : State) (c b u : Nat), (s.core c).unit' = .filling b → ((s.core c).bank b).thread = some u →
    let w (i : Nat) : NWord := s.sramWord (if i < 32 then 32 * u + i else 0x20000 + 2 * u + (i - 32))
    ((∀ i, i < 34 → (w i).p = false) → Answers (.bankFillComplete c [] []) s (fun t =>
      let y := (t.core c).bank b
      y.bpc = (w 0).d ∧ (∀ i, 1 ≤ i → i < 32 → Tab.get 0 y.x i = (w i).d) ∧ y.bprog = (w 32).d &&& 0xFFFFFFFE#32 ∧ y.bwin = (w 33).d &&& 0x3FFFF#32 ∧
      y.filling = false ∧ y.thread = some u ∧ (t.core c).unit' = .idle ∧ (t.core c).fills = (s.core c).fills + 1 ∧
      (∀ j, j ≠ b → (t.core c).bank j = (s.core c).bank j) ∧ OtherCores s t c ∧ t = { s with cores := t.cores })) ∧
    ((∃ i, i < 34 ∧ (w i).p = true) → (s.core c).idle = true → (s.core c).stall = .none → Answers (.bankFillComplete c [] []) s (fun t =>
      let h := t.core c
      h.cur = 0 ∧ h.idle = false ∧ h.pc = (s.core c).csrOf 0x7C4 ∧ h.bankFaults = (s.core c).bankFaults + 1 ∧
      h.csrOf 0x7C5 = BitVec.ofNat 32 (u * 2 ^ 20 + 2 * 2 ^ 8 + (s.core c).cur) ∧ (b ≠ 0 → (h.bank b).st = .free) ∧ (t.thread u).bank = none ∧
      Reports s t 0x3504 7 c))))

/-- R314-R316: a firmware image that passes its checks fills local memory and boots the core in bank 1, or leaves a reloaded core PARKED; one that fails makes way for the
other slot, or halts the core with 0x4502. LC_CMD moves a core between its states; a thread that runs leaves a core told to park at its next boundary. Commands it says
complete: lcFwLoadComplete, lcCmdPark, lcParkComplete, lcCmdJoin, lcCmdReload, lcCmdRestart. -/
def Obligations.LadleLoadsAndCommands : Prop :=
  (∀ (s : State) (c : Nat), s.domOn 86 = true → (s.core c).st = .loading → c < 8 →
    let k := s.core c
    let a := fwArea s k.slotB
    (fwPasses a = true → k.kind = .start → Answers (.lcFwLoadComplete c) s (fun t =>
      let h := t.core c
      h.st = .running ∧ h.pc = Tab.get 0 a.words 3 ∧ h.cur = 1 ∧ h.idle = false ∧ h.booted = false ∧ h.level = 0 ∧ (h.bank 1).st = .resident ∧
      (∀ b, 2 ≤ b → b < 32 → (h.bank b).st = .free) ∧
      (∀ j, Tab.get 0 h.lmem j = if j < (Tab.get 0 a.words 2).toNat / 4 then Tab.get 0 a.words (4 + j) else 0) ∧ OtherCores s t c)) ∧
    (fwPasses a = true → k.kind = .reload → Answers (.lcFwLoadComplete c) s (fun t => (t.core c).st = .parked ∧ (t.core c).fresh = true ∧
      (t.core c).entry = Tab.get 0 a.words 3 ∧ (t.core c).levelMode = (s.settingW (0x3400 + c) 2).getLsbD 31 ∧ OtherCores s t c)) ∧
    (fwPasses a = false → k.tried = false → fwValid s (!k.slotB) = true → Answers (.lcFwLoadComplete c) s (fun t =>
      t.core c = { k with slotB := !k.slotB, tried := true } ∧ Reports s t 0x2501 7 c ∧ OtherCores s t c)) ∧
    (fwPasses a = false → (k.tried = true ∨ fwValid s (!k.slotB) = false) → s.chill.intake.length + 2 ≤ 64 → Answers (.lcFwLoadComplete c) s (fun t =>
      t.core c = { k with st := .halted } ∧ (∃ e ∈ t.chill.intake, e.code = 0x4502 ∧ e.oid = c) ∧ t.port 11 (1 + c) ≠ .opened))) ∧
  (∀ (s : State) (path c : Nat), Admitted s path (0x3400 + c) 3 2 → c < 8 →
    ((s.core c).st = .running → LcQuiet s c →
      ((s.core c).idle = true ∨ (s.core c).levelMode = true → Answers (.lcCmdPark path c) s (fun t =>
        t.core c = { s.core c with st := .parking, waiting := none } ∧ Tab.get none t.cup.sent c = none ∧ OnlyAnswered s t)) ∧
      (∀ u, (s.core c).levelMode = false → (s.core c).boundary = true → (s.core c).thread = some u → Answers (.lcCmdPark path c) s (fun t =>
        (t.core c).st = .parking ∧ (t.core c).idle = true ∧ ((t.core c).bank (s.core c).cur).bpc = (s.core c).pc ∧ (t.thread u).st = .ready ∧ OnlyAnswered s t))) ∧
    ((s.core c).st = .parked → (s.core c).fresh = false → Answers (.lcCmdJoin path c) s (fun t => t.core c = { s.core c with st := .running } ∧ OnlyAnswered s t)) ∧
    ((s.core c).st = .parked → (s.core c).fresh = true → Answers (.lcCmdJoin path c) s (fun t =>
      (t.core c).st = .running ∧ (t.core c).cur = 1 ∧ (t.core c).pc = (s.core c).entry ∧ OnlyAnswered s t)) ∧
    (∀ b, (s.core c).st = .parked → fwValid s b = true → Answers (.lcCmdReload path c b) s (fun t =>
      (t.core c).st = .loading ∧ (t.core c).slotB = b ∧ (t.core c).kind = .reload)) ∧
    (∀ b, (s.core c).st = .halted → fwValid s b = true → Answers (.lcCmdRestart path c b) s (fun t =>
      (t.core c).st = .loading ∧ (t.core c).slotB = b ∧ (t.core c).kind = .start ∧ (t.core c).banks = [] ∧ (t.core c).placeDue = false))) ∧
  (∀ (s : State) (c : Nat), s.domOn 86 = true → (s.core c).st = .parking → (s.core c).level = 0 → (s.core c).stall = .none → (s.core c).idle = true →
    (s.core c).banksIn .free = (List.range 32).drop 1 → Answers (.lcParkComplete c) s (fun t =>
      t.core c = { s.core c with st := .parked } ∧ OtherCores s t c ∧ t = { s with cores := t.cores }))

/-! ### PCI Express, BAR2, BAR4, DMA and MSI-X -/

namespace Sys2Proof.Machine

/-- Gate `i` holds one more request, and no other gate changed. -/
def GateAsked (s t : State) (i : Nat) (p : Packet) : Prop :=
  (t.gate i).waiting = (s.gate i).waiting ++ [p] ∧ (∀ j, j ≠ i → t.gate j = s.gate j)

/-- A packet of body `b` stands at the endpoint's gate, first of its source, as the answer to what the gate sent under the mark `who`. -/
abbrev HostAnswered (s : State) (pkt : Packet) (who : Nat) (b : Body) : Prop :=
  s.domOn 87 = true ∧ s.pcie.linkUp = true ∧ s.packetAt 88 pkt = true ∧ pkt.body = b ∧
  ((s.gate 88).outstanding.find? (fun o => o.tag = pkt.tag)).map (·.who) = some who

end Sys2Proof.Machine

/-- R222, R259, R708-R713: an engine is enabled on a submission queue bound to the endpoint and pops a descriptor of eight words one by one; its H2C transfer asks the host
for its first piece and a reserved OP ends MALFORMED; host data are written into the catch, and a bad completion ends the descriptor with ERROR; a Q2H descriptor moves
queue words to the host until L; the completion packet has four words; a disable ends the descriptor ABORTED. That a POP asks for one word, and that catch memory moves
line by line, is the model's choice (log 46). Commands it says complete: gateAnswer, dmaEnable, dmaDisable, dmaDescriptorPop, dmaHostReadCompletion, dmaQ2hRepop,
dmaDescriptorComplete. -/
def Obligations.DmaEngines : Prop :=
  (∀ (s : State) (path q : Nat), Admitted s path 0x2610 1 2 → s.staging path = false → q < 2 ^ 18 →
    let e := dmaSelected s path
    ((s.dma e).en = false → (s.queue q).consumer = 88 → (s.queue (dmaCq s e)).producer = 88 → Answers (.dmaEnable path q) s (fun t =>
      t.dma e = { s.dma e with en := true } ∧ dmaSq t e = q ∧ dmaCq t e = dmaCq s e ∧ (∀ i, i ≠ e → t.dma i = s.dma i))) ∧
    ((s.dma e).en = true → dmaSq s e = q → Answers (.dmaDisable path q) s (fun t =>
      (t.dma e).en = false ∧ (t.dma e).desc = (s.dma e).desc ∧ (t.dma e).moved = (s.dma e).moved ∧
      ((s.dma e).desc.isSome = true → (t.dma e).finished = true ∧ (t.dma e).status = .aborted) ∧ (∀ i, i ≠ e → t.dma i = s.dma i)))) ∧
  (∀ (s : State) (e : Nat), dmaIdle s e = true → Answers (.dmaDescriptorPop e) s (fun t =>
    GateAsked s t 88 { mkPacket 88 81 0 1 (.pop (dmaSq s e) 1) with who := 1 + e } ∧ t = { s with net := t.net })) ∧
  (∀ (s : State) (e lat : Nat) (pkt : Packet) (w : QWord), e < 64 → HostAnswered s pkt (1 + e) (.popResp .ok [w]) → (s.dma e).desc = none → (s.dma e).en = true →
    w.l = false → (s.dma e).words.length < 9 → Answers (.gateAnswer 88 pkt 0 [] lat) s (fun t =>
      t.dma e = { s.dma e with words := (s.dma e).words ++ [(w.d, w.p)] } ∧
      (t.gate 88).waiting = (s.gate 88).waiting ++ [{ mkPacket 88 81 0 1 (.pop (dmaSq s e) 1) with who := 1 + e }] ∧ t.out = s.out ∧ (∀ i, i ≠ e → t.dma i = s.dma i))) ∧
  (∀ (s : State) (e lat : Nat) (pkt : Packet) (w : Nat → Word) (i : Bool), e < 64 → HostAnswered s pkt (1 + e) (.popResp .ok [{ d := w 7, l := true, i := i, p := false }]) →
    (s.dma e).desc = none → (s.dma e).en = true → (s.dma e).words = (List.range 7).map (fun i => (w i, false)) →
    let x : DmaDesc :=
      { op := .h2c, len := (w 1).toNat, host := (w 3).toNat * 2 ^ 32 + (w 2).toNat, dev := (w 5).toNat * 2 ^ 32 + (w 4).toNat
        vector := (w 6).toNat % 2048, irq := (w 6).getLsbD 31, cookie := w 7 }
    ((w 0).toNat / 2 ^ 28 = 1 → x.len % 4 = 0 → 4 ≤ x.len → x.len ≤ 16777216 → Answers (.gateAnswer 88 pkt 0 [] lat) s (fun t =>
      (t.dma e).desc = some x ∧ (t.dma e).words = [] ∧ (t.dma e).moved = 0 ∧ (t.dma e).finished = false ∧ (t.dma e).status = .ok ∧
      t.out = s.out ++ [.hostRead e (x.host % 2 ^ 64) (min x.len (64 - x.dev / 4 * 4 % 64))])) ∧
    ((w 0).toNat / 2 ^ 28 = 0 → Answers (.gateAnswer 88 pkt 0 [] lat) s (fun t =>
      (t.dma e).desc = some x ∧ (t.dma e).finished = true ∧ (t.dma e).status = .malformed ∧ t.out = s.out))) ∧
  (∀ (s : State) (e : Nat) (x : DmaDesc) (ws : List Word) (ep : Bool), s.hostUp = true → (s.dma e).desc = some x → x.op = .h2c →
    (s.dma e).finished = false →
    (4 * ws.length = dmaPiece (s.dma e) x → Answers (.dmaHostReadCompletion e ws ep false) s (fun t =>
      GateAsked s t 88 { mkPacket 88 127 0 1 (.wr ((x.dev / 4 * 4 + (s.dma e).moved) % 2 ^ 42) 0xF 0xF (ws.map (fun w => { d := w, p := ep }))) with who := 1 + e } ∧
      (t.dma e).moved = (s.dma e).moved + 4 * ws.length ∧ (t.dma e).desc = some x ∧
      (x.len ≤ (s.dma e).moved + 4 * ws.length → (t.dma e).finished = true ∧ t.out = s.out) ∧
      (ep = true → (s.dma e).status = .ok → (t.dma e).status = .poison) ∧ (∀ i, i ≠ e → t.dma i = s.dma i))) ∧
    Answers (.dmaHostReadCompletion e ws ep true) s (fun t => (t.dma e) = { s.dma e with finished := true, status := .error } ∧ t = { s with pcie := t.pcie })) ∧
  (∀ (s : State) (e : Nat) (x : DmaDesc), s.hostOpen = true → (s.dma e).en = true → (s.dma e).desc = some x → x.op = .q2h → (s.dma e).finished = false →
    dmaQuiet s e = true → Answers (.dmaQ2hRepop e) s (fun t =>
      GateAsked s t 88 { mkPacket 88 81 0 1 (.pop (x.dev % 2 ^ 18) 1) with who := 1 + e } ∧ t = { s with net := t.net })) ∧
  (∀ (s : State) (e lat : Nat) (pkt : Packet) (x : DmaDesc) (w : QWord), e < 64 → HostAnswered s pkt (1 + e) (.popResp .ok [w]) → (s.dma e).desc = some x →
    (s.dma e).finished = false → w.p = false → Answers (.gateAnswer 88 pkt 0 [] lat) s (fun t =>
      t.out = s.out ++ [.hostWrite ((x.host + (s.dma e).moved) % 2 ^ 64) [w.d] false] ∧ (t.dma e).moved = (s.dma e).moved + 4 ∧
      (w.l = true → (t.dma e).finished = true ∧ (t.dma e).status = (s.dma e).status) ∧
      (w.l = false → x.len ≤ (s.dma e).moved + 4 → (t.dma e).finished = true ∧ (t.dma e).status = .oversize) ∧
      (w.l = false → (s.dma e).moved + 4 < x.len → t.dma e = { s.dma e with moved := (s.dma e).moved + 4 } ∧
        (t.gate 88).waiting = (s.gate 88).waiting ++ [{ mkPacket 88 81 0 1 (.pop (x.dev % 2 ^ 18) 1) with who := 1 + e }]) ∧
      (∀ i, i ≠ e → t.dma i = s.dma i))) ∧
  (∀ (s : State) (e : Nat) (x : DmaDesc), (s.dma e).desc = some x → (s.dma e).finished = true → e < 64 → s.domOn 87 = true → dmaQuiet s e = true →
    let q := dmaCq s e
    4 ≤ (s.producer 88 q).granted → (s.producer 88 q).gather = [] → Answers (.dmaDescriptorComplete e) s (fun t =>
      let w (v : Word) (l : Bool) : QWord := { d := v, l := l, i := false, p := false }
      GateAsked s t 88 (mkPacket 88 81 0 1 (.push q (!(s.producer 88 q).midPacket) [w (BitVec.ofNat 32 ((s.dma e).status.code * 2 ^ 28)) false,
        w (BitVec.ofNat 32 (s.dma e).moved) false, w x.cookie false, w (BitVec.ofNat 32 e) true])) ∧
      (t.producer 88 q).granted = (s.producer 88 q).granted - 4 ∧ (t.producer 88 q).credits = (s.producer 88 q).credits ∧
      (t.dma e).desc = none ∧ (t.dma e).last = (s.dma e).status ∧ (t.dma e).done = (s.dma e).done + 1 ∧ (∀ i, i ≠ e → t.dma i = s.dma i)))

/-- R260-R262, R705-R707: a BAR2 access becomes a catch request of the endpoint's gate, and returns all ones while no image is released; a BAR4 push is sent with one credit
and an abandon sends REWIND; a credit read hands over what was granted, COUNT reads the queue's words, and an offset without a meaning reads 0 and ignores writes; a POP
read asks the queue for one word, and the answer completes the host's read with V and the tags, with V = 0, or as an abort. R704, R706, R713, R714, R716: PERST_N
released takes BAR2_LOG2 from its entry; a trained link has its rate and width; a reset of the link ends it, masks every vector and ends what the engines do; a vector
that is unmasked with its pending bit set is sent and its bit clears. That settings of configuration space come as operands is the model's choice (log 46). Commands it
says complete: bar4Push, bar4PushLast, bar4PushAbandon, bar4CreditTake, bar4Pop, gateAnswer, pciePerstRelease, pcieReset, bar2Read, bar2Write, msixUnmask, pcieLinkUp. -/
def Obligations.HostWindowsLinkAndVectors : Prop :=
  ((∀ (s : State) (a n : Nat), s.hostUp = true → a % 4 = 0 → 1 ≤ n → n ≤ 64 → a + 4 * n ≤ 2 ^ barLog2 s → Answers (.bar2Read a n) s (fun t =>
    (s.loader.released = true → GateAsked s t 88 { mkPacket 88 127 0 0 (.rd a n) with who := 100 } ∧ t = { s with net := t.net }) ∧
    (s.loader.released = false → t = { s with out := s.out ++ [.hostCpl (List.replicate n 0xFFFFFFFF#32) false false] }))) ∧
  (∀ (s : State) (a : Nat) (f l : BitVec 4) (ws : List Word) (ep : Bool), s.hostUp = true → a % 4 = 0 → ws ≠ [] → ws.length ≤ 64 →
    a + 4 * ws.length ≤ 2 ^ barLog2 s → Answers (.bar2Write a f l ws ep) s (fun t =>
      (s.loader.released = true → GateAsked s t 88 { mkPacket 88 127 0 0 (.wr a f l (ws.map (fun w => { d := w, p := ep }))) with who := 100 } ∧
        t = { s with net := t.net }) ∧
      (s.loader.released = false → t = s))) ∧
  (∀ (s : State) (q : Nat) (v : Word) (l : Bool), s.hostOpen = true → q < 2 ^ 18 →
    ((s.producer 88 q).gather = [] → Answers (if l then .bar4PushLast q v else .bar4Push q v) s (fun t =>
      let p := s.producer 88 q
      t.producer 88 q = { p with credits := p.credits - 1, midPacket := !l } ∧
      GateAsked s t 88 (mkPacket 88 81 0 (gateClass s 88 q) (.push q (!p.midPacket) [{ d := v, l := l, i := false, p := false }])) ∧ t = { s with net := t.net })) ∧
    Answers (.bar4PushAbandon q 8) s (fun t =>
      t.producer 88 q = { s.producer 88 q with midPacket := false } ∧ GateAsked s t 88 (mkPacket 88 81 0 (gateClass s 88 q) (.rewind q)) ∧ t = { s with net := t.net }) ∧
    (∀ ofs, bar4Own ofs = false → ofs ≠ 8 → exec (.bar4PushAbandon q ofs) s = .next s)) ∧
  (∀ (s : State) (q : Nat), s.hostOpen = true → q < 2 ^ 18 →
    Answers (.bar4CreditTake q 0x10) s (fun t =>
      let p := s.producer 88 q
      t.producer 88 q = { p with granted := 0, credits := p.credits + p.granted } ∧ t.out = s.out ++ [.hostCpl [BitVec.ofNat 32 p.granted] false false] ∧
      (∀ i, i ≠ 88 → t.gate i = s.gate i) ∧ t = { s with net := t.net, out := t.out }) ∧
    Answers (.bar4CreditTake q 0x20) s (fun t => t = { s with out := s.out ++ [.hostCpl [BitVec.ofNat 32 (s.queue q).count] false false] }) ∧
    (∀ ofs, bar4Own ofs = false → ofs ≠ 0x10 → ofs ≠ 0x20 → Answers (.bar4CreditTake q ofs) s (fun t => t = { s with out := s.out ++ [.hostCpl [0] false false] })) ∧
    Answers (.bar4Pop q) s (fun t => GateAsked s t 88 { mkPacket 88 81 0 2 (.pop q 1) with who := 101 } ∧ t = { s with net := t.net })) ∧
  (∀ (s : State) (pkt : Packet) (st : PopStatus) (ws : List QWord) (lat : Nat), HostAnswered s pkt 101 (.popResp st ws) →
    Answers (.gateAnswer 88 pkt 0 [] lat) s (fun t =>
      (∀ w, st = .ok → ws = [w] → t.out = s.out ++ [.hostCpl [w.d, BitVec.ofNat 32 (1 + 2 * w.l.toNat + 4 * w.i.toNat + 8 * w.p.toNat)] false false]) ∧
      (st = .empty ∨ st = .refused → t.out = s.out ++ [.hostCpl [0, 0] false false]) ∧
      (st = .offline → t.out = s.out ++ [.hostCpl [] false true] ∧ t.pcie.rdAborts = s.pcie.rdAborts + 1) ∧
      (st ≠ .offline → t.pcie = s.pcie) ∧ t = { s with net := t.net, out := t.out, pcie := t.pcie }))) ∧
  ((∀ (s : State), s.domOn 87 = true → s.pcie.perstHigh = false → Answers .pciePerstRelease s (fun t =>
    t = { s with pcie := { s.pcie with perstHigh := true, bar2Log2 := s.settingN 0x2600 2 % 64 } })) ∧
  (∀ (s : State) (r w : Nat) (bm on : Bool), s.domOn 87 = true → s.pcie.perstHigh = true → 1 ≤ r → r ≤ 5 → 1 ≤ w → w ≤ 16 → Answers (.pcieLinkUp r w bm on) s (fun t =>
    t = { s with pcie := { s.pcie with linkUp := true, rate := r, width := w, busMaster := bm, msixOn := on } } ∧ pcieStatus t.pcie = 2 ^ 31 + r * 2 ^ 24 + w * 2 ^ 16 + bm.toNat)) ∧
  (∀ (s : State) (down perst : Bool), s.domOn 87 = true → s.pcie.perstHigh = true → Answers (.pcieReset down perst) s (fun t =>
    t.pcie.linkUp = (s.pcie.linkUp && !down && !perst) ∧ t.pcie.perstHigh = !perst ∧ t.pcie.busMaster = false ∧ t.pcie.msixOn = false ∧ t.pcie.pendingBits = [] ∧
    (∀ v, (Tab.get MsixVec.reset t.pcie.vectors v).masked = true) ∧
    (∀ e, e < 64 → (t.dma e).en = false ∧ ((s.dma e).en = true → (s.dma e).desc.isSome = true → (t.dma e).finished = true ∧ (t.dma e).status = .aborted)) ∧
    t.tun = s.tun ∧ t.dram = s.dram ∧ t.out = s.out)) ∧
  (∀ (s : State) (v : Nat) (addr : DWord) (data : Word) (m on mask : Bool), s.hostOpen = true → v < 2048 →
    (s.pcie.pendingBits = [] → Answers (.msixUnmask v addr data m on mask) s (fun t =>
      Tab.get MsixVec.reset t.pcie.vectors v = { addr := addr, data := data, masked := m } ∧
      (∀ u, u ≠ v → Tab.get MsixVec.reset t.pcie.vectors u = Tab.get MsixVec.reset s.pcie.vectors u) ∧
      t.pcie.msixOn = on ∧ t.pcie.msixMask = mask ∧ t = { s with pcie := t.pcie })) ∧
    (s.pcie.pendingBits = [(v, true)] → Answers (.msixUnmask v addr data m on mask) s (fun t =>
      (m = false → on = true → mask = false → t.out = s.out ++ [.msix addr data] ∧ t.pcie.pendingBits = []) ∧
      (m = true ∨ on = false ∨ mask = true → t.out = s.out ∧ t.pcie.pendingBits = [(v, true)])))))

/-! ### Cupola -/

namespace Sys2Proof.Machine

/-- The OP store of a code stands at the program counter of core `c`, Cupola runs, and no cancel of the thread waits for the boundary after it. -/
abbrev OpAt (s : State) (c code len : Nat) : Prop := LcAt s c (.cupOp code) len ∧ s.cupRuns = true

/-- The store completed with RESULT and RVAL (R356), and no other core changed. -/
def OpEnded (s t : State) (c len r : Nat) (rval : Word) : Prop :=
  LcWent s t c len ((s.core c).modBank (s.core c).cur (fun b => { b with result := r, rval := rval }))

/-- The store completes when its thread runs again: the thread left the core, its next address in BPC (R324, R358). -/
def OpLeft (s t : State) (c len : Nat) : Prop :=
  let k := s.core c
  let pc := k.pc + BitVec.ofNat 32 len
  t.core c = { k.modBank k.cur (fun b => { b with bpc := pc }) with pc := pc, minstret := k.minstret + 1, idle := true } ∧ OtherCores s t c

/-- No thread but `u` changed, or none at all. -/
def OtherThreads (s t : State) (u : Nat) : Prop := ∀ v, v ≠ u → t.thread v = s.thread v

/-- What else of the machine an operation of Cupola may touch. -/
def CupolaOnly (s t : State) : Prop := t = { s with cores := t.cores, cup := t.cup }

/-- A thread that enters the delay list for `d` ticks, if any (R347). -/
def waitsFrom (s : State) (d : Nat) (x : Thread) : Thread :=
  if d = 0 then x else { x with timeout := d, due := s.cup.tickNow + d, entered := s.cup.entries }

/-- Gate 80 has the word `w` for ring `r`, with which the packet of the ring is the header `h` and the payload `rest`; the packet posts an item that is well formed and
whose flow is busy (R326, R353). -/
abbrev RingGets (s : State) (r : Nat) (w h : QWord) (rest : List QWord) : Prop :=
  s.cupRuns = true ∧ ringReply s = some (r, .ok, [w]) ∧ w.l = true ∧ (s.ring r).partialWords ++ [w] = h :: rest ∧ (h :: rest).all (fun x => !x.p) = true ∧
  h.d.getLsbD 31 = false ∧ itemGroup h.d ≠ 63 ∧ rest.length ≤ 4 ∧ flowBusy s (itemFlow h.d) = true ∧
  itemsWhere s (fun x => x.st = .eligible && itemGroup x.header = itemGroup h.d) = []

/-- A thread of no consequence to others: it holds no item, no operand, no tag and no bank, and no core waits for it. -/
abbrev AloneThread (s : State) (u : Nat) : Prop :=
  (s.thread u).item = none ∧ (s.thread u).operands = 0 ∧ (s.thread u).tags = [] ∧ (s.thread u).bank = none ∧ runningOn s u = none ∧
  (∀ c, c < 8 → (s.core c).waiting ≠ some u ∧ (s.core c).stall ≠ .cancel u)

end Sys2Proof.Machine

/-- R326-R333, R351: POST refuses a malformed item, keeps one whose flow is busy WAITING, makes the first of a flow ELIGIBLE, and hands it to an idle thread of its group
with its words in a0 to a4. R341-R347, R351: SEND holds an operand nobody waits for, fills the slot of a waiter and readies it, and counts a duplicate; WAIT_MATCH goes
on with the operand that is held, or waits on an armed slot; DELAY and YIELD leave the core; the expiries ready the thread with its result. Commands it says complete:
post, send, waitMatch, delay, yield, delayExpiry, matchTimeout. -/
def Obligations.ItemsMatchesAndDelays : Prop :=
  (∀ (s : State) (c len : Nat), OpAt s c 1 len →
    let k := s.core c
    let h := k.arg 0
    let n := (k.arg 5).toNat % 8
    let ws := (List.range n).map (fun j => k.arg (1 + j))
    let i := s.cup.nextItem
    let fits := itemGroup h ≠ 63 ∧ h.getLsbD 31 = false ∧ n ≤ 4 ∧ s.cup.items.length < 524288
    let none' := itemsWhere s (fun x => x.st = .eligible && itemGroup x.header = itemGroup h) = []
    ((itemGroup h = 63 ∨ h.getLsbD 31 = true ∨ 4 < n) → Answers (.post c .clean .clean) s (fun t => OpEnded s t c len 3 0 ∧ t = { s with cores := t.cores })) ∧
    (itemGroup h ≠ 63 → h.getLsbD 31 = false → n ≤ 4 → 524288 ≤ s.cup.items.length → Answers (.post c .clean .clean) s (fun t =>
      OpEnded s t c len 1 0 ∧ t = { s with cores := t.cores, cup := { s.cup with postsRefused := s.cup.postsRefused + 1 } })) ∧
    (fits → flowBusy s (itemFlow h) = true → none' → Answers (.post c .clean .clean) s (fun t =>
      OpEnded s t c len 0 0 ∧ t.item i = some { st := .waiting, header := h, payload := ws, thread := 0 } ∧ (∀ j, j ≠ i → t.item j = s.item j) ∧
      t.cup.nextItem = i + 1 ∧ t.cup.threads = s.cup.threads ∧ CupolaOnly s t)) ∧
    (fits → flowBusy s (itemFlow h) = false → flowEligible s (itemFlow h) = false → none' →
      (firstThread s (fun x => x.st = .idle && x.group = itemGroup h) = none → Answers (.post c .clean .clean) s (fun t =>
        OpEnded s t c len 0 0 ∧ t.item i = some { st := .eligible, header := h, payload := ws, thread := 0 } ∧ (∀ j, j ≠ i → t.item j = s.item j) ∧
        t.cup.threads = s.cup.threads ∧ CupolaOnly s t)) ∧
      (∀ u, firstThread s (fun x => x.st = .idle && x.group = itemGroup h) = some u → (s.core c).thread ≠ some u → Answers (.post c .clean .clean) s (fun t =>
        OpEnded s t c len 0 0 ∧ t.item i = some { st := .service, header := h, payload := ws, thread := u } ∧
        t.thread u = { s.thread u with
          st := .ready, order := s.cup.readyHi, item := some i, operands := 0
          held := [(10, ws.getD 0 0), (11, ws.getD 1 0), (12, ws.getD 2 0), (13, ws.getD 3 0), (14, h)] } ∧
        OtherThreads s t u ∧ (∀ j, j ≠ i → t.item j = s.item j) ∧ CupolaOnly s t)))) ∧
  ((∀ (s : State) (c len : Nat), OpAt s c 2 len →
    let tag := (s.core c).arg 0
    let v := (s.core c).arg 1
    (0xF0000000 ≤ tag.toNat → Answers (.send c .clean .clean) s (fun t => OpEnded s t c len 3 0 ∧ t = { s with cores := t.cores })) ∧
    (tag.toNat < 0xF0000000 →
      (∀ n, slotOfTag s tag = none → freeSlot s = some n → Answers (.send c .clean .clean) s (fun t =>
        OpEnded s t c len 0 (BitVec.ofNat 32 n) ∧ t.slotAt n = { st := .held, tag := tag, operand := v, waiter := 0, pos := 0 } ∧
        (∀ m, m ≠ n → t.slotAt m = s.slotAt m) ∧ t.cup.threads = s.cup.threads ∧ CupolaOnly s t)) ∧
      (slotOfTag s tag = none → freeSlot s = none → Answers (.send c .clean .clean) s (fun t =>
        OpEnded s t c len 1 0 ∧ t = { s with cores := t.cores, cup := { s.cup with matchRefused := s.cup.matchRefused + 1 } })) ∧
      (∀ n, slotOfTag s tag = some n → (s.slotAt n).st ≠ .armed → Answers (.send c .clean .clean) s (fun t =>
        OpEnded s t c len 5 (BitVec.ofNat 32 n) ∧ t = { s with cores := t.cores, cup := { s.cup with dupOperands := s.cup.dupOperands + 1 } })) ∧
      (∀ n u, slotOfTag s tag = some n → (s.slotAt n).st = .armed → (s.slotAt n).waiter = u → (s.thread u).st = .match' → (s.thread u).tags = [n] → Answers (.send c .clean .clean) s (fun t =>
        (t.slotAt n).st = .free ∧ (t.thread u).st = .ready ∧ (t.thread u).tags = [] ∧ (t.thread u).timeout = 0 ∧ (t.thread u).result = some (0, 0) ∧
        (t.thread u).held = [(10, v), (11, 0), (12, 0), (13, 0)] ∧ OtherThreads s t u ∧ CupolaOnly s t)))) ∧
  (∀ (s : State) (c len u : Nat), OpAt s c 3 len → (s.core c).thread = some u → (s.core c).arg 0 &&& 7#32 = 1 → ((s.core c).arg 5).toNat ≤ 16777215 →
    let tag := (s.core c).arg 1
    (∀ n, slotOfTag s tag = some n → (s.slotAt n).st = .held → Answers (.waitMatch c .clean .clean) s (fun t =>
      (t.core c).reg 10 = (s.slotAt n).operand ∧ (t.core c).reg 11 = 0 ∧ ((t.core c).bank (s.core c).cur).result = 0 ∧ (t.core c).pc = (s.core c).pc + BitVec.ofNat 32 len ∧
      (t.slotAt n).st = .free ∧ (∀ m, m ≠ n → t.slotAt m = s.slotAt m) ∧ t.thread u = s.thread u ∧ OtherCores s t c ∧ CupolaOnly s t)) ∧
    (∀ n, slotOfTag s tag = none → freeSlot s = some n → s.cup.slots.length < 65536 → Answers (.waitMatch c .clean .clean) s (fun t =>
      OpLeft s t c len ∧ t.slotAt n = { st := .armed, tag := tag, operand := 0, waiter := u, pos := 0 } ∧
      t.thread u = waitsFrom s ((s.core c).arg 5).toNat { s.thread u with st := .match', tags := [n] } ∧ OtherThreads s t u ∧ CupolaOnly s t)) ∧
    (∀ n, slotOfTag s tag = some n → (s.slotAt n).st = .armed → Answers (.waitMatch c .clean .clean) s (fun t => OpEnded s t c len 4 0 ∧ t = { s with cores := t.cores }))) ∧
  (∀ (s : State) (c len u : Nat), OpAt s c 4 len → (s.core c).thread = some u →
    let d := ((s.core c).arg 0).toNat
    (1 ≤ d → d ≤ 16777215 → Answers (.delay c .clean .clean) s (fun t =>
      OpLeft s t c len ∧ t.thread u = waitsFrom s d { s.thread u with st := .delay } ∧ OtherThreads s t u ∧ CupolaOnly s t)) ∧
    (d = 0 ∨ 16777215 < d → Answers (.delay c .clean .clean) s (fun t => OpEnded s t c len 3 0 ∧ t = { s with cores := t.cores }))) ∧
  (∀ (s : State) (c len u : Nat), OpAt s c 5 len → (s.core c).thread = some u → Answers (.yield c .clean .clean) s (fun t =>
    OpLeft s t c len ∧ t.thread u = { s.thread u with st := .ready, order := s.cup.readyHi, result := some (0, 0) } ∧ OtherThreads s t u ∧ CupolaOnly s t)) ∧
  (∀ (s : State) (u : Nat), s.cupRuns = true → (s.thread u).st = .delay → expiryTurn s u = true → Answers (.delayExpiry u) s (fun t =>
    t.thread u = { s.thread u with st := .ready, order := s.cup.readyHi, timeout := 0, result := some (0, 0) } ∧ OtherThreads s t u ∧ t = { s with cup := t.cup })) ∧
  (∀ (s : State) (u n : Nat), s.cupRuns = true → (s.thread u).st = .match' → expiryTurn s u = true → (s.thread u).tags = [n] → Answers (.matchTimeout u) s (fun t =>
    (t.thread u).st = .ready ∧ (t.thread u).tags = [] ∧ (t.thread u).result = some (6, 0) ∧ OtherThreads s t u ∧
    ((s.slotAt n).st = .armed → (t.slotAt n).st = .free) ∧ ((s.slotAt n).st = .filled → t.slotAt n = { s.slotAt n with st := .held, waiter := 0, pos := 0 }) ∧
    (∀ m, m ≠ n → t.slotAt m = s.slotAt m) ∧ t = { s with cup := t.cup })))

/-- R323, R334, R335, R348, R349, R358, R363, R364: CREATE, RESTART, CANCEL and ABANDON move a thread between its states by a core's store or by T_CMD, which also releases
a CANCELLED thread; DONE ends the service of its item; FDISPATCH asks the flask's gate and waits. R338, R339, R346, R352-R356, R360: a dispatch cycle sends the most
urgent dispatchable thread to its core, and a dispatch can be withdrawn; Cupola pops the ring in turn word by word, and the packet whose last word came is taken or
held; a flask's completion is held under its device tag; the threads of a halted core are placed at the head of their lists; reading ATTN clears it. Commands it says
complete: cancel, create, fdispatch, abandon, restart, done, attnRead, cupolaDispatch, dispatchWithdraw, ringPop, ringRetry, flaskCompletion, cupolaHaltPlacement,
tCmdCreate, tCmdCancel, tCmdRestart, tCmdRelease. -/
def Obligations.ThreadsInputsAndDispatch : Prop :=
  ((∀ (s : State) (c len : Nat), OpAt s c 7 len →
    let u := ((s.core c).arg 0).toNat % 4096
    (((s.thread u).st = .free ∨ (s.thread u).st = .cancelled) → (s.thread u).group = 63 → (s.core c).thread ≠ some u → Answers (.create c .clean .clean) s (fun t =>
      OpEnded s t c len 0 0 ∧ (t.thread u).st = .ready ∧ (t.thread u).fresh = true ∧ (t.thread u).entry = (s.thread u).entry ∧ OtherThreads s t u ∧ CupolaOnly s t)) ∧
    ((s.thread u).st ≠ .free → (s.thread u).st ≠ .cancelled → Answers (.create c .clean .clean) s (fun t => OpEnded s t c len 2 0 ∧ t = { s with cores := t.cores }))) ∧
  (∀ (s : State) (c len : Nat), OpAt s c 10 len →
    let u := ((s.core c).arg 0).toNat % 4096
    ((s.thread u).st = .faulted → (s.thread u).item = none → Answers (.restart c .clean .clean) s (fun t =>
      OpEnded s t c len 0 0 ∧ t.thread u = { s.thread u with st := .ready, order := s.cup.readyHi, fresh := true, held := [], operands := 0, tags := [], result := none } ∧
      OtherThreads s t u ∧ CupolaOnly s t)) ∧
    ((s.thread u).st ≠ .faulted → Answers (.restart c .clean .clean) s (fun t => OpEnded s t c len 2 0 ∧ t = { s with cores := t.cores }))) ∧
  (∀ (s : State) (c len : Nat), OpAt s c 6 len →
    let u := ((s.core c).arg 0).toNat % 4096
    (((s.thread u).st = .free ∨ (s.thread u).st = .cancelled) → (s.core c).thread ≠ some u → Answers (.cancel c .clean .clean) s (fun t =>
      OpEnded s t c len 2 0 ∧ t = { s with cores := t.cores })) ∧
    ((s.thread u).st = .delay → AloneThread s u → Answers (.cancel c .clean .clean) s (fun t =>
      OpEnded s t c len 0 (BitVec.ofNat 32 (5 * 2 ^ 27)) ∧ (t.thread u).st = .cancelled ∧ (t.thread u).timeout = 0 ∧ OtherThreads s t u ∧
      t.cup.items = s.cup.items ∧ t.cup.slots = s.cup.slots ∧ CupolaOnly s t))) ∧
  (∀ (s : State) (c len : Nat), OpAt s c 9 len →
    let u := ((s.core c).arg 0).toNat % 4096
    ((s.core c).cur ≠ 0 → Answers (.abandon c .clean .clean) s (fun t => OpEnded s t c len 3 0 ∧ t = { s with cores := t.cores })) ∧
    ((s.core c).cur = 0 → (s.thread u).st = .ready → AloneThread s u → Answers (.abandon c .clean .clean) s (fun t =>
      OpEnded s t c len 0 0 ∧ (t.thread u).st = .faulted ∧ t.cup.abandoned = true ∧ Reports s t 0x3405 5 u ∧ OtherThreads s t u))) ∧
  (∀ (s : State) (c len u n : Nat), LcAt s c .done len → s.cupRuns = true → (s.core c).thread = some u →
    ((s.thread u).item = none → Answers (.done c false .clean .clean) s (fun t => OpEnded s t c len 2 0 ∧ t = { s with cores := t.cores })) ∧
    ((s.thread u).item = some n → itemsWhere s (fun i => i.st ≠ .service) = [] → Answers (.done c false .clean .clean) s (fun t =>
      OpLeft s t c len ∧ t.item n = none ∧ (t.thread u).st = .idle ∧ (t.thread u).item = none ∧ OtherThreads s t u ∧ (∀ m, m ≠ n → t.item m = s.item m) ∧
      CupolaOnly s t))) ∧
  (∀ (s : State) (c len : Nat), OpAt s c 8 len → Answers (.fdispatch c .clean .clean) s (fun t =>
    let k := s.core c
    GateAsked s t 80 { mkPacket 80 ((k.arg 0).toNat / 2 ^ 16 % 64) 0 0 (.internal msgDispatch [BitVec.ofNat 32 ((k.arg 0).toNat % 256),
      BitVec.ofNat 32 ((k.arg 1).toNat / 2 ^ 16), BitVec.ofNat 32 ((k.arg 1).toNat % 2 ^ 16), BitVec.ofNat 32 c]) with who := 33 + k.ask } ∧
    t.core c = { k with ask := k.ask + 1, stall := .fdispatch } ∧ OtherCores s t c ∧ t = { s with cores := t.cores, net := t.net })) ∧
  (∀ (s : State) (path : Nat), Admitted s path 0x3310 4 2 → s.cupRuns = true →
    let u := selThread s path
    (((s.thread u).st = .free ∨ (s.thread u).st = .cancelled) → (s.thread u).group = 63 → Answers (.tCmdCreate path) s (fun t =>
      (t.thread u).st = .ready ∧ (t.thread u).fresh = true ∧ (t.thread u).tResult = 0 ∧ OtherThreads s t u ∧ OnlyAnswered s t)) ∧
    ((s.thread u).st = .delay → AloneThread s u → Answers (.tCmdCancel path) s (fun t =>
      (t.thread u).st = .cancelled ∧ (t.thread u).tResult = BitVec.ofNat 32 (5 * 2 ^ 27) ∧ OtherThreads s t u ∧ OnlyAnswered s t)) ∧
    ((s.thread u).st = .faulted → Answers (.tCmdRestart path) s (fun t =>
      (t.thread u).st = .ready ∧ (t.thread u).fresh = true ∧ (t.thread u).tResult = 0 ∧ OtherThreads s t u ∧ OnlyAnswered s t)) ∧
    ((s.thread u).st = .cancelled → Answers (.tCmdRelease path) s (fun t =>
      t.thread u = { s.thread u with st := .free, tResult := 0 } ∧ OtherThreads s t u ∧ OnlyAnswered s t)))) ∧
  ((∀ (s : State) (u c : Nat), s.cupRuns = true → dispatchChoice s [] = some (u, c) → Answers (.cupolaDispatch .clean) s (fun t =>
    Tab.get none t.cup.sent c = some u ∧ t.cup.threads = s.cup.threads ∧ t = { s with cup := { s.cup with sent := t.cup.sent } })) ∧
  (∀ (s : State), s.cupRuns = true → dispatchChoice s [] = none → exec (.cupolaDispatch .clean) s = .next s) ∧
  (∀ (s : State) (c : Nat), Answers (.dispatchWithdraw c) s (fun t =>
    Tab.get none t.cup.sent c = none ∧ (∀ d, d ≠ c → Tab.get none t.cup.sent d = Tab.get none s.cup.sent d) ∧
    t = { s with cup := { s.cup with sent := t.cup.sent } })) ∧
  (∀ (s : State) (r : Nat), s.cupRuns = true → ringReply s = none → ringBusy s = false → ringTurn s = some r → Answers (.ringPop .clean) s (fun t =>
    GateAsked s t 80 { mkPacket 80 81 0 0 (.pop (ringQueue s r) 1) with who := 1 + r } ∧ t = { s with cup := { s.cup with nextRing := r }, net := t.net })) ∧
  (∀ (s : State) (r : Nat) (w : QWord), s.cupRuns = true → ringReply s = some (r, .ok, [w]) → w.l = false → Answers (.ringPop .clean) s (fun t =>
    t.ring r = { s.ring r with partialWords := (s.ring r).partialWords ++ [w] } ∧ (∀ q, q ≠ r → t.ring q = s.ring q) ∧
    t = { s with cup := { s.cup with rings := t.cup.rings }, net := t.net })) ∧
  (∀ (s : State) (r : Nat) (w h : QWord) (rest : List QWord), RingGets s r w h rest →
    (s.cup.items.length < 524288 → Answers (.ringPop .clean) s (fun t =>
      t.item s.cup.nextItem = some { st := .waiting, header := h.d, payload := rest.map (·.d), thread := 0 } ∧ t.ring r = { s.ring r with partialWords := [], staged := none } ∧
      t.cup.nextRing = (r + 1) % 16 ∧ t.cup.threads = s.cup.threads ∧ t = { s with cup := t.cup, net := t.net })) ∧
    (524288 ≤ s.cup.items.length → Answers (.ringPop .clean) s (fun t =>
      t.ring r = { s.ring r with partialWords := [], staged := some (h :: rest) } ∧ t.cup.ringStall = true ∧ t.cup.items = s.cup.items ∧
      t.cup.postsRefused = s.cup.postsRefused + 1 ∧ t = { s with cup := t.cup, net := t.net }))) ∧
  (∀ (s : State) (r : Nat) (w : QWord), s.cupRuns = true → (ringCfg s r).getLsbD 31 = true → (s.ring r).staged = some [w] → w.p = false → w.d.getLsbD 31 = false →
    itemGroup w.d ≠ 63 → s.cup.items.length < 524288 → flowBusy s (itemFlow w.d) = true →
    itemsWhere s (fun x => x.st = .eligible && itemGroup x.header = itemGroup w.d) = [] → Answers (.ringRetry r) s (fun t =>
      t.item s.cup.nextItem = some { st := .waiting, header := w.d, payload := [], thread := 0 } ∧ (t.ring r).staged = none ∧ t.cup.threads = s.cup.threads ∧
      t = { s with cup := t.cup })) ∧
  (∀ (s : State) (k x tok n : Nat) (cut : Bool), s.cupRuns = true → k < 64 → x < 256 → 0 < tok → tok < 65536 →
    let tag := BitVec.ofNat 32 (0xF0000000 + k * 2 ^ 16 + tok)
    s.atFront 80 k 0 (.internal msgCompletion [BitVec.ofNat 32 tok, BitVec.ofNat 32 x, BitVec.ofNat 32 cut.toNat]) = true →
    slotOfTag s tag = none → freeSlot s = some n → Answers (.flaskCompletion k x tok cut .clean) s (fun t =>
      t.slotAt n = { st := .held, tag := tag, operand := BitVec.ofNat 32 (x + 256 * cut.toNat), waiter := 0, pos := 0 } ∧
      (∀ m, m ≠ n → t.slotAt m = s.slotAt m) ∧ t.cup.threads = s.cup.threads ∧ t = { s with cup := t.cup, net := t.net })) ∧
  (∀ (s : State) (c u : Nat), s.cupRuns = true → (s.core c).placeDue = true → (s.core c).banks = [] → (s.core c).unit' = .idle → (s.core c).placing = [u] →
    (s.thread u).st = .running → (∀ e ∈ s.cup.threads, e.2.cancelAsked = false) → Answers (.cupolaHaltPlacement c .clean) s (fun t =>
      t.thread u = { s.thread u with st := .ready, order := s.cup.readyLo - 1 } ∧ OtherThreads s t u ∧ t.core c = { s.core c with placing := [], placeDue := false } ∧
      OtherCores s t c ∧ Reports s t 0x2401 7 c)) ∧
  (∀ (s : State) (c len rd : Nat), LcAt s c (.attn rd) len → Answers (.attnRead c .clean) s (fun t =>
    LcWent s t c len ((s.core c).setReg rd (BitVec.ofNat 32 (4 * s.cup.abandoned.toNat + 2 * s.cup.coreHalted.toNat + s.cup.ringStall.toNat))) ∧
    t = { s with cores := t.cores, cup := { s.cup with abandoned := false, coreHalted := false, ringStall := false } })))

/-! ### Catch memory -/

namespace Sys2Proof.Machine

/-- The words from `a` of one line: `count` of them, all in that line. -/
abbrev InLine (a count : Nat) : Prop := a % 4 = 0 ∧ 1 ≤ count ∧ a % 64 + 4 * count ≤ 64

/-- No operation of channel `n` stands on a line. -/
abbrev LineFree (s : State) (n line : Nat) : Prop := ∀ o ∈ (s.chan n).ops, o.line ≠ line

/-- Channel `n` has taken one more request, of one line, with the operation `o`. -/
abbrev RequestJoined (s t : State) (n : Nat) (pkt : Packet) (o : LineOp) : Prop :=
  (t.chan n).ops = (s.chan n).ops ++ [{ o with reqs := [(s.chan n).nextReq] }] ∧
  (t.chan n).reqs = (s.chan n).reqs ++ [{ id := (s.chan n).nextReq, pkt := pkt, left := 1, words := [], rejected := false }] ∧
  (t.chan n).nextReq = (s.chan n).nextReq + 1 ∧
  (∀ m, m ≠ n → t.chan m = s.chan m) ∧ t.dram = s.dram ∧ t = { s with catch' := t.catch', net := t.net }

/-- The only operation of channel `n` is `o`, for its only request `r`, and its refresh group is not urgent. -/
abbrev OnlyOp (s : State) (n sub : Nat) (o : LineOp) (r : CatchReq) : Prop :=
  s.chanServes n = true ∧ (s.chan n).ops = [o] ∧ (s.chan n).reqs = [r] ∧ o.reqs = [r.id] ∧ lineSub o.line = sub ∧ sub < 2 ∧
  refUrgent s n (refGroup (chCfg s n) o.line) = false

/-- Byte `b` of a word. -/
def byteAt (w : Word) (b : Nat) : Nat := w.toNat / 2 ^ (8 * b) % 256

end Sys2Proof.Machine

/-- R435, R436, R438, R439, R442, R443: a channel that serves takes a request of one line with its read, its bytes to write, or a fold entry; a fold that is not one line's
is rejected with 0x3702; a fold of the same operation joins the entry; an entry issues on demand. R421-R425, R433-R438: the access of a line. A read delivers the stored
words to its request, and a word that fails its check is delivered poisoned, counted and logged with 0x3701; a write stores the bytes it enables and a fold its result,
and every other word of memory keeps what it held. An answer leaves when the lines of its request are done. That a word of which a write covers a part stays poisoned is
a reading (log 36). Commands it says complete: rd, wr, fold, foldEntryIssue, lineAccessIssue, rdataSend, wackSend. -/
def Obligations.CatchRequestsAndLineAccess : Prop :=
  ((∀ (s : State) (n a count : Nat) (pkt : Packet), pkt.body = .rd a count → s.chanServes n = true → s.packetAt (96 + n) pkt = true → InLine a count → LineFree s n (lineAt s n (a / 64 * 64)) →
    queueRoom (s.chan n) false [lineAt s n (a / 64 * 64)] = true → Answers (.rd n pkt) s (fun t => RequestJoined s t n pkt
      { addr := a / 64 * 64, line := lineAt s n (a / 64 * 64), kind := .read ((List.range count).map (fun p => (p, a % 64 / 4 + p))), reqs := [] })) ∧
  (∀ (s : State) (n a : Nat) (f l : BitVec 4) (ws : List NWord) (pkt : Packet), pkt.body = .wr a f l ws → s.chanServes n = true → s.packetAt (96 + n) pkt = true → InLine a ws.length →
    LineFree s n (lineAt s n (a / 64 * 64)) → queueRoom (s.chan n) true [lineAt s n (a / 64 * 64)] = true → Answers (.wr n pkt 0 []) s (fun t =>
      ∃ tab, RequestJoined s t n pkt { addr := a / 64 * 64, line := lineAt s n (a / 64 * 64), kind := .write tab, reqs := [] } ∧
        ∀ k, Tab.get (0, { d := 0, p := false }) tab k = if a % 64 / 4 ≤ k ∧ k < a % 64 / 4 + ws.length then
          (wordEnables f l ws.length (k - a % 64 / 4), ws.getD (k - a % 64 / 4) { d := 0, p := false }) else (0, { d := 0, p := false }))) ∧
  (∀ (s : State) (n a code : Nat) (ws : List NWord) (pkt : Packet), pkt.body = .fold a code ws → s.chanServes n = true → s.packetAt (96 + n) pkt = true →
    let c := s.chan n
    (1 ≤ code → code ≤ 4 → InLine a ws.length → LineFree s n (lineAt s n (a / 64 * 64)) → (c.ops.filter LineOp.isFold).length < 512 → Answers (.fold n pkt 0 []) s (fun t =>
      (∃ tab, (t.chan n).ops = c.ops ++ [{ addr := a / 64 * 64, line := lineAt s n (a / 64 * 64), kind := .fold code tab false, reqs := [c.nextReq] }] ∧
        ∀ k, Tab.get none tab k = if a % 64 / 4 ≤ k ∧ k < a % 64 / 4 + ws.length then ws[k - a % 64 / 4]? else none) ∧
      (t.chan n).folds = c.folds + 1 ∧ t.dram = s.dram)) ∧
    ((code = 0 ∨ 5 < code ∨ ws = [] ∨ 16 < a % 64 / 4 + ws.length) → Answers (.fold n pkt 0 []) s (fun t =>
      (t.chan n).ops = c.ops ∧ (t.chan n).reqs = c.reqs ++ [{ id := c.nextReq, pkt := pkt, left := 0, words := [], rejected := true }] ∧
      Reports s t 0x3702 10 n ∧ t.dram = s.dram)) ∧
    (∀ w v o, ws = [w] → code = 1 → a % 4 = 0 → c.ops = [o] → o.line = lineAt s n (a / 64 * 64) → o.kind = .fold 1 [(a % 64 / 4, some v)] false → Answers (.fold n pkt 0 []) s (fun t =>
      (t.chan n).ops = [{ o with kind := .fold 1 [(a % 64 / 4, some { d := v.d ||| w.d, p := v.p || w.p })] false, reqs := o.reqs ++ [c.nextReq] }] ∧
      (t.chan n).folds = c.folds + 1 ∧ t.dram = s.dram))) ∧
  (∀ (s : State) (n line code : Nat) (o : LineOp) (tab : Tab (Option NWord)), s.chanServes n = true → (s.chan n).ops = [o] → o.line = line → o.kind = .fold code tab false →
    Answers (.foldEntryIssue n line) s (fun t => (t.chan n).ops = [{ o with kind := .fold code tab true }] ∧ (t.chan n).reqs = (s.chan n).reqs ∧
      (∀ m, m ≠ n → t.chan m = s.chan m) ∧ t = { s with catch' := t.catch' }))) ∧
  ((∀ (s : State) (n sub a m : Nat) (o : LineOp) (r : CatchReq), OnlyOp s n sub o r → o.kind = .read ((List.range m).map (fun p => (p, a + p))) → a + m ≤ 16 →
    (Answers (.lineAccessIssue n sub [] [] [] false) s (fun t =>
      (∃ ws, (t.chan n).reqs = [{ r with left := r.left - 1, words := ws }] ∧ ∀ p, p < m → Tab.get none ws p = some (s.dramWord (16 * o.line + a + p))) ∧
      (t.chan n).ops = [] ∧ t.dram = s.dram ∧ (∀ j, j ≠ n → t.chan j = s.chan j) ∧ t = { s with catch' := t.catch' })) ∧
    (∀ k, a ≤ k → k < a + m → (s.dramWord (16 * o.line + k)).p = false → Answers (.lineAccessIssue n sub [] [(k, none)] [] false) s (fun t =>
      (∃ ws, (t.chan n).reqs = [{ r with left := r.left - 1, words := ws }] ∧
        Tab.get none ws (k - a) = some { d := (s.dramWord (16 * o.line + k)).d, p := true }) ∧
      (t.chan n).ue = (s.chan n).ue + 1 ∧ Reports s t 0x3701 10 n ∧ t.dram = s.dram))) ∧
  (∀ (s : State) (n sub : Nat) (o : LineOp) (r : CatchReq) (tab : Tab (BitVec 4 × NWord)), OnlyOp s n sub o r → o.kind = .write tab → s.catch'.evac ≠ .switch →
    Answers (.lineAccessIssue n sub [] [] [] false) s (fun t =>
      (∀ k, k < 16 →
        let e := Tab.get (0, { d := 0, p := false }) tab k
        let old := s.dramWord (16 * o.line + k)
        let new := t.dramWord (16 * o.line + k)
        (∀ b, b < 4 → byteAt new.d b = if e.1.getLsbD b then byteAt e.2.d b else byteAt old.d b) ∧
        new.p = (if e.1 = 0xF then e.2.p else if e.1 = 0 then old.p else old.p || e.2.p)) ∧
      (∀ j, (j < 16 * o.line ∨ 16 * o.line + 16 ≤ j) → t.dramWord j = s.dramWord j) ∧
      (t.chan n).ops = [] ∧ (t.chan n).reqs = [{ r with left := r.left - 1 }] ∧ (∀ j, j ≠ n → t.chan j = s.chan j))) ∧
  (∀ (s : State) (n sub code : Nat) (o : LineOp) (r : CatchReq) (tab : Tab (Option NWord)), OnlyOp s n sub o r → o.kind = .fold code tab true → 1 ≤ code → code ≤ 5 →
    s.catch'.evac ≠ .switch → Answers (.lineAccessIssue n sub [] [] [] false) s (fun t =>
      (∀ k, k < 16 →
        let old := s.dramWord (16 * o.line + k)
        let new := t.dramWord (16 * o.line + k)
        (Tab.get none tab k = none → new = old) ∧
        (∀ v, Tab.get none tab k = some v → (old.p = true ∨ v.p = true → new.d = old.d ∧ new.p = true) ∧
          (old.p = false → v.p = false → new.p = false ∧ (code = 1 → new.d = old.d ||| v.d) ∧ (code = 2 → new.d = old.d &&& ~~~v.d) ∧
            (code = 4 → new.d.toNat = max old.d.toNat v.d.toNat) ∧
            (code = 3 → ∀ h, h < 2 → new.d.toNat / 2 ^ (16 * h) % 65536 = min (old.d.toNat / 2 ^ (16 * h) % 65536 + v.d.toNat / 2 ^ (16 * h) % 65536) 65535) ∧
            (code = 5 → ∀ b, b < 4 → byteAt new.d b = min (byteAt old.d b + byteAt v.d b) 255)))) ∧
      (∀ j, (j < 16 * o.line ∨ 16 * o.line + 16 ≤ j) → t.dramWord j = s.dramWord j) ∧ (t.chan n).foldLines = (s.chan n).foldLines + 1 ∧
      (t.chan n).reqs = [{ r with left := r.left - 1 }])) ∧
  (∀ (s : State) (n a count : Nat) (r : CatchReq), s.chanServes n = true → (s.chan n).reqs = [r] → r.left = 0 → r.pkt.body = .rd a count → Answers (.rdataSend n) s (fun t =>
    (∃ f, t.net.wire = s.net.wire ++ [f] ∧ f.pkt.dest = r.pkt.src ∧ f.pkt.src = 96 + n ∧ f.pkt.tag = r.pkt.tag ∧
      f.pkt.body = .rdata .ok ((List.range count).map (fun p => (Tab.get none r.words p).getD { d := 0, p := true }))) ∧
    (t.chan n).reqs = [] ∧ t = { s with catch' := t.catch', net := t.net })) ∧
  (∀ (s : State) (n : Nat) (r : CatchReq), s.chanServes n = true → (s.chan n).reqs = [r] → r.left = 0 → r.isRd = false → Answers (.wackSend n) s (fun t =>
    (∃ f, t.net.wire = s.net.wire ++ [f] ∧ f.pkt.dest = r.pkt.src ∧ f.pkt.src = 96 + n ∧ f.pkt.tag = r.pkt.tag ∧ f.pkt.body = .wack .ok r.rejected) ∧
    (t.chan n).reqs = [] ∧ t = { s with catch' := t.catch', net := t.net })))

/-- R419, R444, R445, R447-R457, R473: refresh obligations and their issue; the states of a channel and the commands that move it between them; runs, sweeps and the saving
of delays; an alert is logged, and a lost PHY clock takes the channel off line with its fault set. R429, R431, R458-R463, R795: the map's windows are enabled and
disabled by their entry; an evacuation copies the words of the source to the destination's placement, then gives the source window that placement, and a cancel ends it;
a zeroing ends with every line of its range zero, or is cancelled. That the command which ends a copy or a zeroing writes its words is the model's choice (log 36).
Commands it says complete: refreshObligation, refsbIssue, phyPllLock, chCfgWrite, chCmdOnline, chCmdOffline, channelDrainComplete, chCmdGather, chCmdRunInj,
injRunComplete, chCmdSweep, trainSweepComplete, chCmdAbortRun, chCmdEndGatherAccept, chCmdEndGatherFail, chCmdSaveDelays, saveDelaysComplete, catchAlert, phyClockLoss,
evacCmdStart, evacCmdCancel, evacCopyComplete, evacSwitch, zeroCmdStart, zeroCmdCancel, zeroComplete, mapEnable, mapDisable. -/
def Obligations.CatchChannelsAndMap : Prop :=
  ((∀ (s : State) (n cs cid bank : Nat), s.chanServes n = true → cs < 2 ^ csBits (chCfg s n) → cid < 2 ^ cidBits (chCfg s n) → bank < 4 →
    let g := cs * 16 + cid * 4 + bank
    let r (x : State) : Nat := Tab.get 0 (x.chan n).refresh g
    (refUrgent s n g = false → Answers (.refreshObligation n cs cid bank) s (fun t => r t = r s + 1 ∧
      (t.chan n).refUrgent = (if refUrgent t n g then (s.chan n).refUrgent + 1 else (s.chan n).refUrgent) ∧ t = { s with catch' := t.catch' })) ∧
    (r s ≠ 0 → (s.chan n).ops = [] → Answers (.refsbIssue n cs cid bank) s (fun t => r t = r s - 1 ∧ (t.chan n).refUrgent = (s.chan n).refUrgent ∧
      t = { s with catch' := t.catch' }))) ∧
  (∀ (s : State) (n : Nat), n < 8 → s.domOn (78 + n) = true →
    ((s.chan n).waiting = .none → Answers (.phyPllLock n) s (fun t => t.chan n = { s.chan n with locked := true } ∧ t = { s with catch' := t.catch' })) ∧
    ((s.chan n).waiting = .online → Answers (.phyPllLock n) s (fun t =>
      (t.chan n).st = .online ∧ (t.chan n).waiting = .none ∧ (t.chan n).refresh = [] ∧ t.port 10 (2 + n) = .opening ∧ t.dram = s.dram)) ∧
    ((s.chan n).waiting = .gather → Answers (.phyPllLock n) s (fun t => (t.chan n).st = .gathering ∧ (t.chan n).staged = (s.chan n).live)) ∧
    Answers (.phyClockLoss n) s (fun t => (t.chan n).st = .offline ∧ (t.chan n).fault = true ∧ (t.chan n).locked = false ∧ Reports s t 0x4701 10 n)) ∧
  (∀ (s : State) (path n : Nat) (v : Word), Admitted s path (0x3100 + 0x10 * n) 2 2 → n < 8 → (s.chan n).st = .offline → (s.chan n).waiting = .none →
    chCfgBad (v &&& 0xFFC00000#32) = none → Answers (.chCfgWrite path n v) s (fun t =>
      let w := v &&& 0xFFC00000#32
      chCfg t n = w ∧ (t.chan n).dlyValid = ((s.chan n).dlyValid && decide (w = chCfg s n)) ∧
      (t.chan n).locked = ((s.chan n).locked && decide (w.toNat / 2 ^ 30 = (chCfg s n).toNat / 2 ^ 30)) ∧ (t.chan n).st = .offline)) ∧
  (∀ (s : State) (path n : Nat), Admitted s path (0x3100 + 0x10 * n) 3 2 → n < 8 → (s.chan n).waiting = .none →
    let c := s.chan n
    let becomes (op : Instr) (d : Channel) : Prop := Answers op s (fun t => t.chan n = d ∧ (∀ m, m ≠ n → t.chan m = s.chan m) ∧ t.dram = s.dram ∧ OnlyAnswered s t)
    (c.st = .offline → c.dlyValid = true → c.fault = false → c.held = false →
      (c.locked = true → s.domOn (78 + n) = true → Answers (.chCmdOnline path n) s (fun t => (t.chan n).st = .online ∧ t.port 10 (2 + n) = .opening)) ∧
      (c.locked = false → becomes (.chCmdOnline path n) { c with waiting := .online })) ∧
    (c.st = .online → chanMapped s n = false → evacUses s n = false → zeroUses s n = false → becomes (.chCmdOffline path n) { c with st := .draining }) ∧
    ((c.st = .offline ∨ c.st = .failedTrain) → c.held = false →
      (c.locked = true → s.domOn (78 + n) = true → Answers (.chCmdGather path n) s (fun t =>
        t.chan n = { c with st := .gathering, staged := c.live } ∧ (∀ w, w / 2 ^ 37 ≠ n → t.dramWord w = s.dramWord w))) ∧
      (c.locked = false → becomes (.chCmdGather path n) { c with waiting := .gather })) ∧
    (c.st = .gathering → c.run = .none →
      becomes (.chCmdRunInj path n) { c with run := .inj, result := 0 } ∧
      becomes (.chCmdSweep path n) { c with run := .sweep, result := 0, passA := [], passB := [], errs := [] } ∧
      becomes (.chCmdEndGatherAccept path n) { c with st := .offline, live := c.staged, staged := [], dlyValid := true, fault := false } ∧
      becomes (.chCmdEndGatherFail path n) { c with st := .failedTrain, staged := [] }) ∧
    (c.st = .gathering → c.run ≠ .none → becomes (.chCmdAbortRun path n []) { c with run := .none, result := 3 }) ∧
    (c.dlyValid = true → s.loader.actValid = true → s.loader.session = none → s.loader.saving = none → wornOut s s.loader.actSlot = false →
      Answers (.chCmdSaveDelays path n) s (fun t => t.loader.saving = some n ∧ (delayArea t n).st = .writing ∧
        (t.mould s.loader.actSlot).wear = (s.mould s.loader.actSlot).wear + 1 ∧ OnlyAnswered s t))) ∧
  (∀ (s : State) (n : Nat), (s.chan n).st = .draining → (s.chan n).reqs = [] → (s.chan n).ops = [] → pendingAt s (96 + n) = [] → Answers (.channelDrainComplete n) s (fun t =>
    t.chan n = { s.chan n with st := .offline, refresh := [] } ∧ t.port 10 (2 + n) = .closed ∧ t = { s with catch' := t.catch', net := t.net })) ∧
  (∀ (s : State) (n : Nat), (s.chan n).run = .inj → s.settingN (0x3102 + 0x10 * n) 4 = 0 → Answers (.injRunComplete n []) s (fun t =>
    t.chan n = { s.chan n with run := .none, result := 0 } ∧ t = { s with catch' := t.catch' })) ∧
  (∀ (s : State) (n : Nat) (caps : List (List (List DWord × List DWord))), (s.chan n).run = .sweep → (injEntries s n).2 = true → captureEntries (injEntries s n).1 = [] → Answers (.trainSweepComplete n caps) s (fun t =>
    t.chan n = { s.chan n with run := .none, result := 1 } ∧ t = { s with catch' := t.catch' })) ∧
  (∀ (s : State) (n : Nat), s.loader.saving = some n → Answers (.saveDelaysComplete n) s (fun t =>
    t.loader.saving = none ∧ ((t.mould s.loader.actSlot).area (8 + n)).st = .valid ∧ t = { s with loader := t.loader })) ∧
  (∀ (s : State) (n : Nat), n < 8 → s.domOn 87 = true → (s.chan n).alerts = [] → 1 ≤ s.settingN 0x3192 7 → Answers (.catchAlert n) s (fun t =>
    t.chan n = { s.chan n with alerts := [s.power.pour] } ∧ Reports s t 0x2701 10 n ∧ t = { s with catch' := t.catch', chill := t.chill }))) ∧
  ((∀ (s : State) (path w : Nat) (v : Word), Admitted s path (0x3180 + w) 1 2 → s.staging path = false → w < 16 →
    let x := (v ||| 0x80000000#32) &&& 0xFBFFEFFF#32
    let s1 := s.putSetting (0x3180 + w) 1 (x.setWidth 64)
    let size := x.toNat / 2 ^ 13 % 2 ^ 13
    winEnabled s w = false → 1 ≤ size → size ≤ 4096 → x.toNat / 2 ^ 29 % 4 ≠ 3 → x.toNat % 4096 + size ≤ 4096 → placementFits s1 w (enabledBut s [w]) = true →
    (∀ u ∈ enabledBut s [w], winBase s1 u + winSize s1 u ≤ winBase s1 w ∨ winBase s1 w + winSize s1 w ≤ winBase s1 u) →
    (∀ n ∈ winChannels s1 w, (s.chan n).st = .online) → Answers (.mapEnable path w v) s (fun t =>
      t.settingW (0x3180 + w) 1 = x ∧ winEnabled t w = true ∧ (∀ u, u ≠ w → winEnabled t u = winEnabled s u) ∧ t.dram = s.dram ∧ t.catch' = s.catch')) ∧
  (∀ (s : State) (path w : Nat), Admitted s path (0x3180 + w) 1 2 → s.staging path = false → w < 16 →
    let x := s.settingW (0x3180 + w) 1
    winEnabled s w = true → 1 ≤ x.toNat / 2 ^ 13 % 2 ^ 13 → x.toNat / 2 ^ 13 % 2 ^ 13 ≤ 4096 → x.toNat / 2 ^ 29 % 4 ≠ 3 → x &&& 0x04001000#32 = 0 → s.catch'.zeroBusy = false →
    Answers (.mapDisable path w) s (fun t => t.settingW (0x3180 + w) 1 = x &&& 0x7FFFFFFF#32 ∧ winEnabled t w = false ∧
      (∀ u, u ≠ w → winEnabled t u = winEnabled s u) ∧ t.dram = s.dram ∧ t.catch' = s.catch')) ∧
  (∀ (s : State) (path src dst : Nat), Admitted s path 0x3190 1 2 → src < 16 → dst < 16 → src ≠ dst → winEnabled s src = true → winEnabled s dst = false → winSize s src = winSize s dst →
    placementFits s dst (enabledBut s [src]) = true → (∀ n ∈ winChannels s dst, (s.chan n).st = .online) → s.evacuating = false → Answers (.evacCmdStart path src dst) s (fun t =>
      t.catch' = { s.catch' with evac := .copy, evacResult := 0, evacSrc := src, evacDst := dst, evacPoisoned := 0, evacMiB := 0 } ∧ OnlyAnswered s t ∧ t.dram = s.dram)) ∧
  (∀ (s : State) (path : Nat), Admitted s path 0x3190 1 2 → s.evacuating = true → Answers (.evacCmdCancel path) s (fun t =>
    t.catch' = { s.catch' with evac := .aborted, evacResult := 1 } ∧ OnlyAnswered s t ∧
    (∀ w, offsetIn s s.catch'.evacDst w = none → t.dramWord w = s.dramWord w))) ∧
  (∀ (s : State) (key o : Nat) (v : NWord), s.catch'.evac = .copy → s.dram = [(key, some v)] → offsetIn s s.catch'.evacSrc key = some o → offsetIn s s.catch'.evacDst key = none →
    Answers (.evacCopyComplete []) s (fun t =>
      let p := mapIn s s.catch'.evacDst (winBase s s.catch'.evacDst + o)
      t.dramWord (dramKey p.1 p.2) = v ∧ t.catch'.evac = .switch ∧ t.catch'.evacPoisoned = (if v.p then 1 else 0) ∧
      t.catch'.evacMiB = BitVec.ofNat 32 (winSize s s.catch'.evacSrc / 2 ^ 20) ∧ t = { s with catch' := t.catch', dram := t.dram })) ∧
  (∀ (s : State), s.catch'.evac = .switch → s.power.pllLocked = true → windowBusy s s.catch'.evacSrc = false → s.catch'.evacSrc ≠ s.catch'.evacDst → s.catch'.evacSrc < 16 → s.catch'.evacDst < 16 →
    Answers .evacSwitch s (fun t =>
      let src := s.catch'.evacSrc
      let dst := s.catch'.evacDst
      winChannels t src = winChannels s dst ∧ t.settingW (0x3180 + src) 3 = s.settingW (0x3180 + dst) 3 ∧ winBase t src = winBase s src ∧ winSize t src = winSize s src ∧
      winEnabled t src = winEnabled s src ∧ t.settingW (0x3180 + dst) 1 = s.settingW (0x3180 + dst) 1 ∧ t.catch' = { s.catch' with evac := .done } ∧ t.dram = s.dram)) ∧
  (∀ (s : State) (path : Nat), Admitted s path 0x3191 5 2 →
    (s.catch'.zeroBusy = false → (∀ j, j < s.settingN 0x3191 3 / 64 → (windowOf s (s.settingN 0x3191 1 + 64 * j)).isSome = true) → Answers (.zeroCmdStart path) s (fun t =>
      t.catch' = { s.catch' with zeroBusy := true, zeroCancelled := false, zeroInterrupted := false, zeroBase := s.settingN 0x3191 1, zeroLen := s.settingN 0x3191 3, zeroLines := 0 } ∧
      t.dram = s.dram ∧ OnlyAnswered s t)) ∧
    (s.catch'.zeroBusy = true → Answers (.zeroCmdCancel path) s (fun t => t.catch'.zeroBusy = false ∧ t.catch'.zeroCancelled = true ∧ t.catch'.zeroInterrupted = false ∧
      OnlyAnswered s t))) ∧
  (∀ (s : State), s.catch'.zeroBusy = true → (∀ a ∈ zeroLinesOf s, lineOf s a < 2 ^ 36 ∧ s.chanServes (lineOf s a / 2 ^ 33) = true) → Answers .zeroComplete s (fun t =>
    (∀ a ∈ zeroLinesOf s, ∀ k, k < 16 → t.dramWord (16 * lineOf s a + k) = { d := 0, p := false }) ∧ t.catch'.zeroBusy = false ∧
    t.catch'.zeroLines = s.catch'.zeroLen / 64 ∧ t = { s with catch' := t.catch', dram := t.dram })))

/-! ### The Villet link and its heats -/

namespace Sys2Proof.Machine

/-- A port of its six that runs, in a state of its link. -/
abbrev PortIn (s : State) (n : Nat) (st : LinkSt) : Prop := s.portUp n = true ∧ (s.vport n).st = st

/-- No port but `n` changed. -/
def OtherPorts (s t : State) (n : Nat) : Prop := ∀ m, m ≠ n → t.vport m = s.vport m

/-- A frame left port `n`: its words, and its blocks coded on the lanes as the transmitters stood (R479, R487). -/
def FrameLeft (s t : State) (n : Nat) (ws : List Word) : Prop :=
  let c := codeBlocks (s.vport n) (frameBlocks ws)
  t.out = s.out ++ [.villetTx n ws, .villetBlocks n c.2] ∧ (t.vport n).txAt = c.1.txAt ∧ (t.vport n).tx = c.1.tx

/-- A good frame has arrived that agrees with the EPOCH of an ACTIVE port (R492, R512). -/
abbrev GoodFrame (s : State) (n : Nat) (h : RxHeader) (ty : Nat) : Prop :=
  PortIn s n .active ∧ h.crcOk = true ∧ h.wellFormed = true ∧ h.ty = ty ∧ h.epoch = (s.vport n).partner

/-- Frames of the transmit side that an ACK value of a received frame leaves unacknowledged (R497). -/
def leftUnacked (p : VPort) (a : Nat) : List TxFrame :=
  let d := (a + 1 + 2 ^ 20 - p.oldest) % 2 ^ 20
  if d ≤ p.unacked.length then p.unacked.drop d else p.unacked

end Sys2Proof.Machine

/-- R492-R499, R504, R509, R512: a DATA frame in order joins the receive buffer and is owed an ACK; one ahead of its turn is answered with one NAK, a duplicate with an ACK;
a bad frame counts and is answered with a NAK; an ACK value releases the frames up to it; a NAK starts the replay of every unacknowledged frame; the first INIT of a
partner makes the port ACTIVE. R480-R485, R493, R498, R500-R503, R510, R514, R515, R519, R524, R526, R527, R798: locks of the lanes and what their loss does; the
timers, the frames that are sent, and the commands that move a port between its states. Commands it says complete: dataFrame, ackFrame, nakFrame, initFrame,
retrainRunStart, laneBlockLock, laneBlockLockLoss, laneMarkerLock, laneMarkerLockLoss, lanesAligned, dataFrameSend, ackDelayExpiry, replayTimeout, keepalive,
deadTimeout, alignTimeout, initTimeout, retrainHold, initInterval, attemptCounterReset, linkCmdEnable, linkCmdDisable, linkCmdReset, linkCmdRetrain, serdesRefLoss,
markerReceived, codingErrorBlock. -/
def Obligations.VilletFramesAndPorts : Prop :=
  ((∀ (s : State) (n : Nat) (ws : List Word) (cut : Bool), let h := parseFrame ws cut
    GoodFrame s n h 1 →
    let p := s.vport n
    let d := (h.seq + 2 ^ 20 - p.expect) % 2 ^ 20
    (∀ w, d = 0 → h.vc = 2 → h.payload = [w] → h.len = 1 → msgCode w = 0x11 → msgBody w = 0 → p.heldCtl + 1 ≤ 256 → p.rx = [] → p.backlog = [] →
      Answers (.dataFrame n ws cut .ok) s (fun t =>
        let q := t.vport n
        q.expect = (p.expect + 1) % 2 ^ 20 ∧ q.rx = [{ vc := 2, words := [w], poison := false, credits := 1 }] ∧ q.heldCtl = p.heldCtl + 1 ∧ q.framesRx = p.framesRx + 1 ∧
        q.ackOwed = true ∧ q.nakOut = false ∧ q.unacked = leftUnacked p h.ack ∧ q.st = .active ∧ OtherPorts s t n)) ∧
    (1 ≤ d → d < 2 ^ 19 → p.nakOut = false → Answers (.dataFrame n ws cut .ok) s (fun t =>
      let q := t.vport n
      q.nakOut = true ∧ q.naksSent = p.naksSent + 1 ∧ q.expect = p.expect ∧ q.rx = p.rx ∧ t.out.length = s.out.length + 2 ∧ OtherPorts s t n)) ∧
    (1 ≤ d → d < 2 ^ 19 → p.nakOut = true → Answers (.dataFrame n ws cut .ok) s (fun t =>
      (t.vport n).naksSent = p.naksSent ∧ (t.vport n).rx = p.rx ∧ t.out = s.out ∧ OtherPorts s t n)) ∧
    (2 ^ 19 ≤ d → Answers (.dataFrame n ws cut .ok) s (fun t =>
      let q := t.vport n
      q.dups = p.dups + 1 ∧ q.expect = p.expect ∧ q.rx = p.rx ∧ q.ackOwed = false ∧ t.out.length = s.out.length + 2 ∧ OtherPorts s t n))) ∧
  (∀ (s : State) (n : Nat) (ws : List Word) (cut : Bool), let h := parseFrame ws cut
    PortIn s n .active → h.crcOk = false → h.ty = 1 → (s.vport n).nakOut = false → (s.vport n).badAt = [] → 2 ≤ errLimit (s.linkSet n 7) →
    Answers (.dataFrame n ws cut .ok) s (fun t =>
      let p := s.vport n
      (t.vport n).badFrames = p.badFrames + 1 ∧ (t.vport n).naksSent = p.naksSent + 1 ∧ (t.vport n).nakOut = true ∧ (t.vport n).expect = p.expect ∧ (t.vport n).rx = p.rx ∧
      FrameLeft s t n (p.frame 3 0 0 []) ∧ OtherPorts s t n)) ∧
  (∀ (s : State) (n : Nat) (ws : List Word) (cut : Bool), let h := parseFrame ws cut
    GoodFrame s n h 2 → Answers (.ackFrame n ws cut) s (fun t =>
      let p := s.vport n
      let q := t.vport n
      q.unacked = leftUnacked p h.ack ∧ q.limVec = (newLimit p.limVec h.credData).getD p.limVec ∧ q.limCtl = (newLimit p.limCtl h.credCtl).getD p.limCtl ∧
      q.expect = p.expect ∧ q.rx = p.rx ∧ q.st = .active ∧ t.out = s.out ∧ OtherPorts s t n)) ∧
  (∀ (s : State) (n : Nat) (ws : List Word) (cut : Bool), let h := parseFrame ws cut
    GoodFrame s n h 3 → (s.vport n).resend = [] → leftUnacked (s.vport n) h.ack ≠ [] → (s.vport n).roundOldest = none → Answers (.nakFrame n ws cut .ok) s (fun t =>
      let p := s.vport n
      let q := t.vport n
      q.naksReceived = p.naksReceived + 1 ∧ q.replays = p.replays + 1 ∧ q.unacked = leftUnacked p h.ack ∧ q.resend = (leftUnacked p h.ack).map (·.seq) ∧
      q.replayAck = some h.ack ∧ q.st = .active ∧ OtherPorts s t n)) ∧
  (∀ (s : State) (n : Nat) (ws : List Word) (cut : Bool), let h := parseFrame ws cut
    PortIn s n .init → h.crcOk = true → h.wellFormed = true → h.ty = 4 → (h.payload.getD 0 0).toNat / 2 ^ 8 % 256 = 1 →
    (h.payload.getD 0 0).toNat / 2 ^ 16 = (s.vport n).epoch.toNat → (s.vport n).partner = 0 → h.epoch ≠ 0 → Answers (.initFrame n ws cut .ok) s (fun t =>
      let q := t.vport n
      q.st = .active ∧ q.partner = h.epoch ∧ q.seen = h.epoch ∧ q.resumed = false ∧ q.epoch = (s.vport n).epoch ∧ t.out.length = s.out.length + 2 ∧ OtherPorts s t n))) ∧
  ((∀ (s : State) (n l : Nat), lanesOn s n l = true →
    let p := s.vport n
    let lane (t : State) : Lane := (t.vport n).lane l
    let inLink := p.st = .init ∨ p.st = .active
    Answers (.laneBlockLock n l) s (fun t => lane t = { lane s with block := true } ∧ (t.vport n).st = p.st ∧ OtherPorts s t n) ∧
    (∀ k sent bip, k < 8 → sent ≠ bip → Answers (.markerReceived n l (markerBlock k sent) bip) s (fun t => lane t = { lane s with bip := (lane s).bip + 1 } ∧ (t.vport n).st = p.st ∧ OtherPorts s t n)) ∧
    ((lane s).block = true → ∀ k, k < 8 → Answers (.laneMarkerLock n l k) s (fun t => lane t = { lane s with marker := true, logical := k } ∧ (t.vport n).st = p.st)) ∧
    ((lane s).block = true → Answers (.laneBlockLockLoss n l) s (fun t => lane t = { lane s with block := false, marker := false } ∧
      (inLink → (t.vport n).st = .retrain ∧ (t.vport n).attempts = p.attempts + 1) ∧ (¬inLink → (t.vport n).st = p.st) ∧ OtherPorts s t n)) ∧
    ((lane s).marker = true → Answers (.laneMarkerLockLoss n l) s (fun t => lane t = { lane s with marker := false } ∧
      (inLink → (t.vport n).st = .retrain ∧ (t.vport n).attempts = p.attempts + 1) ∧ (¬inLink → (t.vport n).st = p.st) ∧ OtherPorts s t n)) ∧
    (∀ b inFrame, l = 0 → blockKind b = .coding ∨ (blockKind b = .data ∧ inFrame = false) → Answers (.codingErrorBlock n b inFrame) s (fun t => t.vport n = { p with codingErrors := p.codingErrors + 1 } ∧ t = { s with villet := t.villet }))) ∧
  (∀ (s : State) (n : Nat) (skews eqs : List Nat), PortIn s n .align → (s.vport n).aligned = true → (∀ k ∈ skews, k ≤ 128) → Answers (.lanesAligned n skews eqs) s (fun t =>
    (t.vport n).st = .init ∧ (∀ l, l < 8 → ((t.vport n).lane l).skew = skews.getD l 0) ∧ t.out.length = s.out.length + 2 ∧ OtherPorts s t n)) ∧
  (∀ (s : State) (n : Nat),
    let p := s.vport n
    let retrains (op : Instr) : Prop := Answers op s (fun t => (t.vport n).st = .retrain ∧ (t.vport n).attempts = p.attempts + 1 ∧ (t.vport n).retrains = p.retrains + 1 ∧
      (t.vport n).unacked = p.unacked ∧ t.out = s.out ∧ OtherPorts s t n)
    let sends (op : Instr) (ty : Nat) (ws : List Word) : Prop := Answers op s (fun t => FrameLeft s t n (p.frame ty 0 0 ws) ∧
      t.vport n = { p with framesTx := p.framesTx + 1, ackOwed := false, txAt := (t.vport n).txAt, tx := (t.vport n).tx } ∧ OtherPorts s t n ∧ t = { s with out := t.out, villet := t.villet })
    (PortIn s n .active → retrains (.deadTimeout n) ∧
      (∀ prev b, p.aligned = true → blockKind b = .retrain → blockKind prev ≠ .retrain → blockKind prev ≠ .marker → retrains (.retrainRunStart n prev b)) ∧ sends (.keepalive n) 2 [] ∧ (p.ackOwed = true → sends (.ackDelayExpiry n) 2 []) ∧
      Answers (.attemptCounterReset n) s (fun t => t.vport n = { p with attempts := 0 } ∧ t = { s with villet := t.villet }) ∧
      (p.unacked ≠ [] → p.roundOldest = none → Answers (.replayTimeout n .ok) s (fun t => (t.vport n).resend = p.unacked.map (·.seq) ∧ (t.vport n).replays = p.replays + 1 ∧
        (t.vport n).unacked = p.unacked ∧ (t.vport n).st = .active ∧ OtherPorts s t n))) ∧
    (PortIn s n .align → retrains (.alignTimeout n)) ∧
    (PortIn s n .init → retrains (.initTimeout n) ∧ sends (.initInterval n) 4 [BitVec.ofNat 32 (p.seen.toNat * 2 ^ 16 + 0x0100)]) ∧
    (PortIn s n .retrain → p.attempts < s.linkSet n 0x0D → Answers (.retrainHold n) s (fun t => (t.vport n).st = .align ∧ (t.vport n).attempts = p.attempts ∧ OtherPorts s t n)) ∧
    (PortIn s n .retrain → s.linkSet n 0x0D ≤ p.attempts → Answers (.retrainHold n) s (fun t => (t.vport n).st = .failed ∧ Reports s t 0x3802 11 n ∧ OtherPorts s t n)) ∧
    (s.portUp n = true → p.stopped = false → Answers (.serdesRefLoss n false) s (fun t =>
      (t.vport n).st = .disabled ∧ (t.vport n).stopped = true ∧ Reports s t 0x4801 11 n ∧ t.port 11 (9 + n) ≠ .opened ∧ OtherPorts s t n))) ∧
  (∀ (s : State) (n : Nat) (ws : List Word) (rest : List (List Word)), PortIn s n .active → (s.vport n).txCtl = ws :: rest → (s.vport n).resend = [] →
    (s.vport n).maySend (s.vport n).conCtl (s.vport n).limCtl ws.length = true → Answers (.dataFrameSend n) s (fun t =>
      let p := s.vport n
      let q := t.vport n
      FrameLeft s t n (p.frame 1 2 p.nextSeq ws) ∧ q.txCtl = rest ∧ q.nextSeq = (p.nextSeq + 1) % 2 ^ 20 ∧
      q.unacked = p.unacked ++ [{ seq := p.nextSeq, vc := 2, words := ws }] ∧ q.conCtl = (p.conCtl + (ws.length + 15) / 16) % 2 ^ 16 ∧ q.conVec = p.conVec ∧ OtherPorts s t n)) ∧
  (∀ (s : State) (path n : Nat), Admitted s path (0x3500 + 32 * n) 2 2 → n < 6 →
    let p := s.vport n
    (p.st = .failed ∨ (p.st = .disabled ∧ p.stopped = false) → Answers (.linkCmdEnable path n) s (fun t => (t.vport n).st = .align ∧ (t.vport n).unacked = [] ∧
      (t.vport n).partner = 0 ∧ (p.epochKept = true → (t.vport n).epoch = p.epoch) ∧ OtherPorts s t n)) ∧
    (∀ force, p.st ≠ .disabled → (force = true ∨ anyLive s n = false) →
      Answers (.linkCmdReset path n force) s (fun t => (t.vport n).st = .align ∧ (t.vport n).unacked = [] ∧ (t.vport n).partner = 0 ∧
        (t.vport n).nextSeq = 0 ∧ (t.vport n).expect = 0 ∧ OtherPorts s t n) ∧
      Answers (.linkCmdDisable path n force) s (fun t => (t.vport n).st = .disabled ∧ (t.vport n).unacked = [] ∧ OtherPorts s t n)) ∧
    (p.st = .active → Answers (.linkCmdRetrain path n) s (fun t => (t.vport n).st = .retrain ∧ (t.vport n).attempts = p.attempts + 1 ∧ OtherPorts s t n))))

namespace Sys2Proof.Machine

/-- The heats of a port other than slot `sl`, and those of other ports, have kept their state. -/
def OtherHeats (s t : State) (n sl : Nat) : Prop := ∀ m j, j < 2 → (m ≠ n ∨ j ≠ sl) → (t.heat m j).st = (s.heat m j).st

/-- The manager holds one frame with one message: of code `code` with the body `b`, for the live heat of slot `sl` (R532, R557). -/
abbrev MessageHeads (s : State) (n sl code : Nat) (b : List Word) : Prop :=
  s.portUp n = true ∧ sl < 2 ∧ (s.vport n).backlog = [] ∧ (s.heat n sl).st.live = true ∧
  ∃ f w, (s.vport n).rx = [f] ∧ f.words = w :: b ∧ msgCode w = code ∧ msgBody w = b.length ∧ s.slotOf n (msgHeat w) = some sl

/-- The header word of a message to the front end (R532). -/
def heatWord (s : State) (n sl code body : Nat) : Word := BitVec.ofNat 32 (code * 2 ^ 25 + body * 2 ^ 16 + s.heatId n sl)

/-- An index as the body of a message carries it (R533). -/
def indexBody (i : Nat) : List Word := [BitVec.ofNat 32 i, BitVec.ofNat 32 (i / 2 ^ 32 % 2 ^ 16)]

end Sys2Proof.Machine

/-- R548-R552: HEAT_CMD and the timers move a heat between its states, each with the message that R533 gives it; a heat that ends keeps APPLIED as its VOID_INDEX. R551,
R554-R559: what the messages of the front end do to a live heat. Commands it says complete: heatCmdOpen, heatCmdHold, heatCmdResume, heatCmdMark, heatCmdClose,
heatCmdAbort, heatCmdClear, openAck, openNak, applied, markDone, closed, void, gap, fail, param, openTimeout, appliedTimeout, drainTimeout. -/
def Obligations.HeatCommandsTimersAndMessages : Prop :=
  ((∀ (s : State) (path n sl : Nat), Admitted s path (0x35C0 + 2 * n + sl) 2 2 → n < 6 → sl < 2 →
    let h := s.heat n sl
    let p := s.vport n
    let msg (t : State) (ws : List Word) : Prop := (t.vport n).txCtl = p.txCtl ++ [ws]
    (openFits s n sl = true → anyLive s n = false → p.st = .active → Answers (.heatCmdOpen path n sl) s (fun t =>
      let g := t.heat n sl
      g.st = .opening ∧ g.nextSend = s.heatStart n sl ∧ g.applied = s.heatStart n sl ∧ g.restart = s.heatStart n sl ∧ g.marks = [] ∧ g.voidIndex = h.voidIndex ∧
      (∃ b, msg t (heatWord s n sl 0x01 b.length :: b)) ∧ OtherHeats s t n sl)) ∧
    (h.st = .streaming → h.built = [] → Answers (.heatCmdHold path n sl) s (fun t => (t.heat n sl).st = .held ∧ (t.heat n sl).nextSend = h.nextSend ∧
      msg t (heatWord s n sl 0x02 2 :: indexBody h.nextSend) ∧ OtherHeats s t n sl)) ∧
    (h.st = .held → Answers (.heatCmdResume path n sl) s (fun t => (t.heat n sl).st = .streaming ∧ (t.heat n sl).nextSend = h.nextSend ∧
      msg t [heatWord s n sl 0x03 0] ∧ OtherHeats s t n sl)) ∧
    (let m := s.heatSet n sl 0x0E
     h.st = .streaming → h.lastMark ≤ m → s.heatStart n sl ≤ m → m < s.heatStop n sl → h.marks.length < 16 → Answers (.heatCmdMark path n sl) s (fun t =>
      t.heat n sl = { h with marks := h.marks ++ [m], lastMark := m } ∧ msg t (heatWord s n sl 0x04 2 :: indexBody m) ∧ OtherHeats s t n sl ∧ OnlyAnswered s t)) ∧
    (h.st = .streaming → h.built = [] → Answers (.heatCmdClose path n sl) s (fun t => (t.heat n sl).st = .draining ∧ t.heatEnd n sl = h.nextSend % 2 ^ 48 ∧
      msg t (heatWord s n sl 0x05 2 :: indexBody h.nextSend) ∧ OtherHeats s t n sl)) ∧
    (h.st.live = true → Answers (.heatCmdAbort path n sl) s (fun t => (t.heat n sl).st = .aborted ∧ (t.heat n sl).cause = 2 ∧ (t.heat n sl).voidIndex = h.applied ∧
      msg t [heatWord s n sl 0x06 1, 2] ∧ OtherHeats s t n sl)) ∧
    ((h.st = .closed ∨ h.st = .voided ∨ h.st = .aborted) → Answers (.heatCmdClear path n sl) s (fun t => (t.heat n sl).st = .idle ∧
      (t.vport n).txCtl = p.txCtl ∧ OtherHeats s t n sl))) ∧
  (∀ (s : State) (n sl : Nat), sl < 2 → timersRun s n = true →
    let h := s.heat n sl
    let ends (op : Instr) (st : HeatSt) (cause : Nat) : Prop := Answers op s (fun t => (t.heat n sl).st = st ∧ (t.heat n sl).cause = cause ∧ (t.heat n sl).voidIndex = h.applied ∧
      (t.vport n).txCtl = (s.vport n).txCtl ++ [[heatWord s n sl 0x06 1, BitVec.ofNat 32 cause]] ∧
      Reports s t (if st = .voided then 0x3806 else 0x3807) 12 (n * 256 + sl) ∧ OtherHeats s t n sl)
    (h.st = .opening → ends (.openTimeout n sl) .aborted 4) ∧
    (h.st = .streaming ∨ h.st = .held ∨ h.st = .draining → h.applied < h.nextSend → ends (.appliedTimeout n sl) .voided 9) ∧
    (h.st = .draining → ends (.drainTimeout n sl) .voided 10))) ∧
  (∀ (s : State) (n sl : Nat),
    let h := s.heat n sl
    (MessageHeads s n sl 0x11 [] → h.st = .opening → Answers (.openAck n) s (fun t => (t.heat n sl).st = .streaming ∧ (t.heat n sl).nextSend = h.nextSend ∧ OtherHeats s t n sl)) ∧
    (∀ w, MessageHeads s n sl 0x12 [w] → h.st = .opening → Answers (.openNak n) s (fun t => (t.heat n sl).st = .aborted ∧ (t.heat n sl).cause = 3 ∧
      (t.heat n sl).reason = w.toNat % 256 ∧ Reports s t 0x3807 12 (n * 256 + sl) ∧ OtherHeats s t n sl)) ∧
    (∀ a, a < 2 ^ 48 → MessageHeads s n sl 0x13 (indexBody a) →
      (h.applied ≤ a → a ≤ h.nextSend → Answers (.applied n) s (fun t => t.heat n sl = { h with applied := a } ∧ (t.vport n).rx = [] ∧ OtherHeats s t n sl)) ∧
      (h.nextSend < a → Answers (.applied n) s (fun t => (t.heat n sl).st = .voided ∧ (t.heat n sl).cause = 12 ∧ Reports s t 0x3806 12 (n * 256 + sl)))) ∧
    (∀ i r, i < 2 ^ 48 → MessageHeads s n sl 0x14 (indexBody i) → h.marks = i :: r → i ≤ h.nextSend → Answers (.markDone n) s (fun t => (t.heat n sl).marks = r ∧
      (t.heat n sl).restart = i ∧ (t.heat n sl).applied = max h.applied i ∧ (t.heat n sl).st = h.st ∧ OtherHeats s t n sl)) ∧
    (∀ u, u < 2 ^ 48 → MessageHeads s n sl 0x15 (indexBody u) → h.st = .draining → u = s.heatEnd n sl → u ≤ h.nextSend → h.voidPend = false → Answers (.closed n) s (fun t =>
      (t.heat n sl).st = .closed ∧ (t.heat n sl).cause = 1 ∧ (t.heat n sl).applied = u ∧ (t.heat n sl).voidIndex = u ∧ OtherHeats s t n sl)) ∧
    (∀ u r, u < 2 ^ 48 → MessageHeads s n sl 0x16 (indexBody u ++ [r]) → h.applied ≤ u → u ≤ h.nextSend → Answers (.void n) s (fun t =>
      (t.heat n sl).st = .voided ∧ (t.heat n sl).cause = 5 ∧ (t.heat n sl).reason = r.toNat % 256 ∧ (t.heat n sl).voidIndex = u ∧ Reports s t 0x3806 12 (n * 256 + sl) ∧
      OtherHeats s t n sl)) ∧
    (∀ g k, g < 2 ^ 48 → MessageHeads s n sl 0x17 (indexBody g ++ [k]) →
      (s.heatTolerant n sl = true → g ≤ h.nextSend → Answers (.gap n) s (fun t => (t.heat n sl).gapEvents = h.gapEvents + 1 ∧
        (t.heat n sl).gapVectors = h.gapVectors + k.setWidth 64 ∧ (t.heat n sl).st = h.st ∧ OtherHeats s t n sl)) ∧
      (s.heatTolerant n sl = false → Answers (.gap n) s (fun t => (t.heat n sl).st = .voided ∧ (t.heat n sl).cause = 13 ∧ OtherHeats s t n sl))) ∧
    (∀ r, r.length = 4 →
      let i := (r.getD 0 0).toNat + (r.getD 1 0).toNat % 2 ^ 16 * 2 ^ 32
      let site := (r.getD 1 0).toNat / 2 ^ 16 % 64
      let fits := s.heatStart n sl ≤ i ∧ i < h.nextSend ∧ (s.setting (0x35C0 + 2 * n + sl) 8).getLsbD site = true
      (MessageHeads s n sl 0x30 r → fits → s.heatQ n sl 0x0B ∉ h.lost → Answers (.fail n) s (fun t => t.heat n sl = { h with failRecords := h.failRecords + 1 } ∧ OtherHeats s t n sl)) ∧
      (MessageHeads s n sl 0x31 r → fits → s.heatQ n sl 0x0C ∉ h.lost → Answers (.param n) s (fun t => t.heat n sl = { h with paramRecords := h.paramRecords + 1 } ∧ OtherHeats s t n sl)) ∧
      (MessageHeads s n sl 0x30 r → ¬fits → Answers (.fail n) s (fun t => t.heat n sl = { h with badRecords := h.badRecords + 1 } ∧ OtherHeats s t n sl))))

/-- R530, R536-R539, R799: the manager of a STREAMING heat pops the words its next vector lacks from the queue whose turn it is; a whole vector takes the next index; an
unfinished one waits; an answer that brought nothing sends what is built; a refused POP is retried; a poisoned word ends the heat's supply. Commands it says complete:
vectorPop, vectorPopResponse, vectorPopRetry. -/
def Obligations.HeatVectorSupply : Prop :=
  (∀ (s : State) (n sl : Nat) (retry : Bool), streamingSlot s n = some sl → mayPop s n sl = true → (s.vport n).retry = retry →
    Answers (if retry then .vectorPopRetry n else .vectorPop n) s (fun t =>
      let h := s.heat n sl
      let q := s.heatQ n sl 0x0A + (h.nextSend - s.heatStart n sl) % max 1 (s.heatWays n sl)
      GateAsked s t (82 + n) (mkPacket (82 + n) 81 0 0 (.pop q (min 16 (s.heatWords n sl - h.cur.length)))) ∧ (t.vport n).popOut = some sl ∧ (t.vport n).retry = false ∧
      t.heat n sl = h ∧ t = { s with villet := t.villet, net := t.net })) ∧
  (∀ (s : State) (n sl : Nat) (st : PopStatus) (w : QWord), s.portUp n = true → sl < 2 → (s.vport n).popOut = some sl →
    (s.gate (82 + n)).answers = [mkPacket (82 + n) (82 + n) 0 0 (.popResp st [w])] → heatHeld s n sl = false → (s.heat n sl).st = .streaming →
    let h := s.heat n sl
    (st = .ok → w.i = false → w.p = false → w.l = true → h.cur.length + 1 = s.heatWords n sl → h.built.length + 1 < 509 / s.heatWords n sl → h.nextSend + 1 < s.heatStop n sl →
      Answers (.vectorPopResponse n) s (fun t => t.heat n sl = { h with cur := [], built := h.built ++ [h.cur ++ [w.d]], nextSend := h.nextSend + 1 } ∧
        (t.vport n).popOut = none ∧ (t.gate (82 + n)).answers = [] ∧ OtherHeats s t n sl)) ∧
    (st = .ok → w.i = false → w.p = false → w.l = false → h.cur.length + 1 < s.heatWords n sl → Answers (.vectorPopResponse n) s (fun t =>
      t.heat n sl = { h with cur := h.cur ++ [w.d] } ∧ (t.vport n).popOut = none ∧ OtherHeats s t n sl)) ∧
    (st = .idle → w.i = true → h.cur = [] → h.built = [] → Answers (.vectorPopResponse n) s (fun t => t.heat n sl = { h with idleWords := h.idleWords + 1 } ∧
      (t.vport n).popOut = none ∧ OtherHeats s t n sl)) ∧
    (st = .offline → h.built = [] → Answers (.vectorPopResponse n) s (fun t => t.heat n sl = h ∧ (t.vport n).popOut = none ∧ (t.vport n).retry = true)) ∧
    (st = .ok → w.i = false → w.p = true → h.built = [] → Answers (.vectorPopResponse n) s (fun t =>
      (t.heat n sl).st = .draining ∧ (t.heat n sl).voidPend = true ∧ (t.heat n sl).nextSend = h.nextSend ∧ Reports s t 0x3805 12 (n * 256 + sl) ∧ OtherHeats s t n sl)))

/-! ### Images, the loader, the slave configuration port and the mould store -/

namespace Sys2Proof.Machine

/-- A load that start-up did not begin has ended without effect with an error that names record `n` (R591). -/
def LoadEnded (s t : State) (code n : Nat) : Prop :=
  t.loader.st = .idle ∧ t.loader.armed = false ∧ t.loader.staged = [] ∧ t.loader.error = BitVec.ofNat 32 (code * 2 ^ 16 + n) ∧
  t.loader.released = s.loader.released ∧ Reports s t code 13 s.loader.source ∧ t.flasks = s.flasks ∧ t.dict.settings = s.dict.settings

/-- The loader changed, the log, and what the loader's gate has asked for (R604). -/
def LoaderOnly (s t : State) : Prop :=
  t = { s with loader := t.loader, chill := t.chill, net := { s.net with gates := t.net.gates } } ∧ ∀ i, i ≠ 89 → t.gate i = s.gate i

/-- An access of the loader was answered: of the agent the records of the paths changed, of the network what is in flight and the loader's gate. -/
def LoaderAnswered (s t : State) : Prop :=
  t.dict = { s.dict with paths := t.dict.paths } ∧ t.net = { s.net with wire := t.net.wire, credits := t.net.credits, gates := t.net.gates } ∧ ∀ i, i ≠ 89 → t.gate i = s.gate i

end Sys2Proof.Machine

/-- R571-R573, R577, R591, R601-R603, R615, R616: with every frame placed the image is released: each flask that it loads takes the block memories, S registers and contexts
defined by its frames, a full image makes the flasks of columns 0 to 7 ACTIVE and the device released, a partial one leaves the flasks outside its region; the engines
ask for the writes of the records, and once all are answered the load is over; a context whose record was not written is FAULTED. That every frame reaches its target
with this command is the model's choice (log 40); what a partial image leaves is a reading (log 45). Commands it says complete: loaderPlaced, imageRelease,
loaderRecordsComplete. -/
def Obligations.ImageRelease : Prop :=
  (∀ (s : State), s.loader.st = .placing → s.domOn 87 = true → (s.loader.isPartial = true ∨ domainsReady s = true) →
    Answers (.loaderPlaced .ok) s (fun t => t = { s with loader := { s.loader with st := .releasing } })) ∧
  (∀ (s : State), s.loader.st = .releasing → s.tickFree = true → s.domOn 87 = true →
    let fs := s.loader.staged
    Answers .imageRelease s (fun t =>
      t.loader.st = .records ∧ t.loader.staged = fs ∧
      (∀ p ∈ loadedFlasks s, ∀ x ∈ definedBy fs p, ∀ k, k < 128 → ∃ r ∈ (t.gate (t.flaskNode p)).waiting,
        r.who = releaseMark x k ∧ bodyAddr r.body = some (t.recordBase p x + 64 * k)) ∧
      (∀ p, p ∈ loadedFlasks s →
        (∀ i, i < 1024 → Tab.get 0 (t.flask p).bm0 i = imageWord fs p 1 0 i ∧ Tab.get 0 (t.flask p).bm1 i = imageWord fs p 1 32 i) ∧
        (∀ i, i < 4 → Tab.get 0 (t.flask p).s i = imageWord fs p 3 0 i) ∧ (t.flask p).defined = definedBy fs p ∧ (t.flask p).cur = 16 ∧
        (∀ i, i < 4096 → Tab.get 0 (t.cru p).pm i = imageWord fs p 2 0 i)) ∧
      (s.loader.isPartial = false → t.loader.released = true ∧ t.loader.fullVersion = some s.loader.version ∧
        (∀ p, p < 72 → s.domOn p = true → (t.flask p).role = (if p % 9 < 8 then .active else .spareIdle))) ∧
      (s.loader.isPartial = true → t.loader.released = s.loader.released ∧
        (∀ p, p < 72 → s.loader.region.getLsbD p = false → (t.flask p).role = (s.flask p).role ∧ (t.flask p).bm0 = (s.flask p).bm0 ∧ (t.flask p).slots = (s.flask p).slots) ∧
        (∀ p, p < 72 → s.loader.region.getLsbD p = true → (s.flask p).role = .stopped → (t.flask p).role = .active)))) ∧
  (∀ (s : State), s.loader.st = .records → s.domOn 87 = true →
    (∀ p ∈ loadedFlasks s, ∀ x ∈ definedBy s.loader.staged p, allAnswered s p (releaseMark x) = true) → Answers .loaderRecordsComplete s (fun t =>
      t.loader = { s.loader with st := .idle, staged := [], srcOff := [], releases := s.loader.releases + 1 } ∧
      t = { s with loader := t.loader, flasks := t.flasks, chill := t.chill, net := { s.net with gates := t.net.gates } } ∧
      (∀ p x, loadedFlasks s = [p] → definedBy s.loader.staged p = [x] →
        let good := ∀ k, k < 128 → engAnswer s p (releaseMark x k) = some (.wack .ok false)
        (good → t.flasks = s.flasks) ∧
        (¬good → Reports s t 0x390C 13 s.loader.source ∧ ∀ n, (s.flask p).residentSlot x = some n → ((t.flask p).slot n).faulted = true))))

/-- R591, R593-R595, R604, R609, R613: the loader's records. A header that passes begins a load; one with a wrong magic ends it with 0x3901. A frame that passes is staged
behind the others, and one that does not ends the load, or is asked for again on the SCP. The END record of a load whose frames are all in moves it on. LD_CMD names a
source or abandons the load. R585, R586, R604-R610, R617, R619: a record on the SCP is taken, or noted as BUSY or OVERRUN; its status and error words are given out; a
write session of the mould store opens an area, takes bytes at MS_OFFSET in rising order, and ends with the area VALID where it passes its checks; BOOT_ORDER is
rewritten. Which record on the SCP counts as the END record is the model's choice (log 40). Commands it says complete: headerRecord, frameRecord, endRecord,
loaderSourceExhausted, loaderQuiesced, ldDrainTimeout, ldCmdLoadSlot, ldCmdLoadCatch, ldCmdAbandon, scpRecord, scpStatus, scpAbandon, scpError, scpTimeout, msCmdOpen,
msDataWrite, msCmdClose, msCmdCancel, bootOrderWrite. -/
def Obligations.LoaderRecordsAndMouldStore : Prop :=
  ((∀ (s : State), s.loader.st = .idle → recordReady s = true → s.domOn 87 = true →
    let r := nextRecord s
    (headerError s r.2 r.1 = none → Answers (.headerRecord .ok) s (fun t =>
      let l := t.loader
      l.st = .receiving ∧ l.armed = false ∧ l.frameCount = (r.1.getD 3 0).toNat ∧ l.version = r.1.getD 7 0 ∧ l.isPartial = decide (hdrKind r.1 = 2) ∧
      l.region = hdrRegion r.1 ∧ l.frames = 0 ∧ l.staged = [] ∧ l.released = s.loader.released ∧ t.flasks = s.flasks)) ∧
    (r.1.getD 0 0 ≠ 0x4C524142#32 → s.loader.booting = false → Answers (.headerRecord .ok) s (fun t => LoadEnded s t 0x3901 0 ∧ LoaderOnly s t))) ∧
  (∀ (s : State), s.loader.st = .receiving → recordReady s = true → s.domOn 87 = true → endDue s.loader = false →
    let l := s.loader
    let r := nextRecord s
    let fa := (r.1.getD 0 0).toNat % 2 ^ 24
    (frameError l.isPartial l.region (lastStaged l) r.2 r.1 = none → Answers (.frameRecord .ok) s (fun t =>
      t.loader.staged = l.staged ++ [(fa, (r.1.drop 1).take 32)] ∧ t.loader.frames = l.frames + 1 ∧ t.loader.st = .receiving ∧ t.loader.retries = 0 ∧
      t.loader.crc = r.1.foldl crc32Word l.crc ∧ LoaderOnly s t)) ∧
    (∀ e, frameError l.isPartial l.region (lastStaged l) r.2 r.1 = some e → e ≠ 0x3903 ∨ l.source ≠ 1 → l.booting = false → Answers (.frameRecord .ok) s (fun t =>
      LoadEnded s t e (l.frames + 1) ∧ LoaderOnly s t)) ∧
    (frameError l.isPartial l.region (lastStaged l) r.2 r.1 = some 0x3903 → l.source = 1 → l.retries < 3 → Answers (.frameRecord .ok) s (fun t =>
      t.loader.st = .receiving ∧ t.loader.retries = l.retries + 1 ∧ t.loader.scpRetries = l.scpRetries + 1 ∧ t.loader.last = .retry ∧ t.loader.staged = l.staged ∧
      t.loader.frames = l.frames ∧ (l.retryLogged = false → Reports s t 0x2901 13 1) ∧ LoaderOnly s t)) ∧
    (l.source ≠ 1 → l.booting = false → Answers .loaderSourceExhausted s (fun t => LoadEnded s t 0x3907 (l.frames + 1) ∧ LoaderOnly s t))) ∧
  (∀ (s : State), s.loader.st = .receiving → recordReady s = true → s.domOn 87 = true → endDue s.loader = true → s.loader.frames = s.loader.frameCount →
    let l := s.loader
    let r := nextRecord s
    let good := r.2 = false ∧ r.1.length = 4 ∧ r.1.getD 0 0 = 0x444E4542#32 ∧ (r.1.getD 1 0).toNat = l.frameCount ∧ r.1.getD 2 0 = crcFinal l.crc
    (good → (∀ p, p < 72 → slotsSound l.staged p = true) → Answers (.endRecord .ok) s (fun t =>
      t.loader.st = (if l.isPartial then .quiescing else .placing) ∧ t.loader.staged = l.staged ∧ LoaderOnly s t)) ∧
    (¬good → l.booting = false → Answers (.endRecord .ok) s (fun t => LoadEnded s t 0x3908 (l.frameCount + 1) ∧ LoaderOnly s t))) ∧
  (∀ (s : State), s.loader.st = .quiescing →
    (regionQuiet (holdRegion s) = true → s.power.pllLocked = true → Answers .loaderQuiesced s (fun t =>
      t.loader = { s.loader with st := .placing } ∧ t.flasks = (holdRegion s).flasks ∧ t.dram = s.dram)) ∧
    (s.loader.booting = false → Answers .ldDrainTimeout s (fun t => LoadEnded s t 0x390B (s.loader.frameCount + 1) ∧ LoaderOnly s t))) ∧
  (∀ (s : State) (path n : Nat), Admitted s path 0x2200 2 2 →
    (s.loader.st = .idle → s.loader.armed = false → s.loader.scpBusy = false →
      (n < 4 → ((s.mould n).area 0).st = .valid → Answers (.ldCmdLoadSlot path n) s (fun t =>
        t.loader = { s.loader with source := 0, slot := n, armed := true, booting := false } ∧ OnlyAnswered s t)) ∧
      Answers (.ldCmdLoadCatch path) s (fun t => t.loader = { s.loader with source := 2, slot := 0, armed := true, booting := false } ∧ LoaderAnswered s t ∧
        (s.settingN 0x2200 3 % 64 = 0 → (t.gate 89).waiting =
          (s.gate 89).waiting.map (fun p => { p with who := 0 }) ++ [{ mkPacket 89 127 0 0 (.rd (s.settingN 0x2200 3) 16) with who := 1 }]))) ∧
    ((s.loader.st = .receiving ∨ s.loader.st = .quiescing) → s.loader.booting = false → Answers (.ldCmdAbandon path) s (fun t =>
      LoadEnded s t 0x3907 (s.loader.frames + 1) ∧ LoaderAnswered s t)))) ∧
  ((∀ (s : State) (ws : List Word), s.power.released = true → Answers (.scpRecord ws) s (fun t =>
    let l := s.loader
    (l.scpBusy = true → t.loader = { l with last := .overrun }) ∧
    (l.scpBusy = false → (l.armed = true ∨ (l.st ≠ .idle ∧ (l.st ≠ .receiving ∨ l.source ≠ 1))) → t.loader = { l with last := .busy }) ∧
    (l.scpBusy = false → l.armed = false → (l.st = .idle ∨ (l.st = .receiving ∧ l.source = 1)) → t.loader = { l with source := 1, scpBusy := true, scpRec := ws }) ∧
    t = { s with loader := t.loader })) ∧
  (∀ (s : State), s.power.released = true →
    Answers .scpStatus s (fun t => let l := s.loader
      t = { s with out := s.out ++ [.scp (BitVec.ofNat 32 (ldCode l.st * 2 ^ 29 + l.released.toNat * 2 ^ 28 + scpLastCode l.last * 2 ^ 24 + l.retries * 2 ^ 20 + l.frames % 2 ^ 16))] }) ∧
    Answers .scpError s (fun t => t = { s with out := s.out ++ [.scp s.loader.error] }) ∧
    (s.loader.st = .receiving → s.loader.booting = false → Answers .scpAbandon s (fun t => LoadEnded s t 0x3907 (s.loader.frames + 1) ∧ LoaderOnly s t)) ∧
    (s.loader.st = .receiving → s.loader.source = 1 → s.loader.scpBusy = false → s.loader.booting = false → Answers .scpTimeout s (fun t =>
      LoadEnded s t 0x3907 (s.loader.frames + 1) ∧ LoaderOnly s t))) ∧
  (∀ (s : State) (path n code : Nat), Admitted s path (0x2210 + n) 4 2 → n < 4 → areaSize code ≠ 0 → wornOut s n = false → s.loader.session = none → s.loader.saving = none →
    slotRead s n = false → Answers (.msCmdOpen path n code) s (fun t =>
      t.loader.session = some { slot := n, area := code, high := 0 } ∧ ((t.mould n).area code).st = .writing ∧ ((t.mould n).area code).words = ((s.mould n).area code).words ∧
      (t.mould n).wear = (s.mould n).wear + 1 ∧ (t.mould n).sel = code ∧ (∀ m, m ≠ n → t.mould m = s.mould m) ∧ OnlyAnswered s t)) ∧
  (∀ (s : State) (path n : Nat) (bs : List Byte) (e : MouldSession), Admitted s path (0x2210 + n) 6 2 → n < 4 → s.loader.session = some e → e.slot = n → bs.length % 4 = 0 →
    e.high ≤ (s.mould n).offset → (s.mould n).offset + bs.length ≤ areaSize e.area → Answers (.msDataWrite path n bs) s (fun t =>
      let o := (s.mould n).offset
      (t.mould n).offset = o + bs.length ∧ t.loader.session = some { e with high := o + bs.length } ∧
      (∀ j, Tab.get 0 ((t.mould n).area e.area).words j = if o / 4 ≤ j ∧ j < o / 4 + bs.length / 4 then
          (let b (i : Nat) : Nat := (bs.getD (4 * (j - o / 4) + i) 0).toNat
           BitVec.ofNat 32 (b 0 + 2 ^ 8 * b 1 + 2 ^ 16 * b 2 + 2 ^ 24 * b 3)) else Tab.get 0 ((s.mould n).area e.area).words j) ∧
      (∀ m, m ≠ n → t.mould m = s.mould m) ∧ OnlyAnswered s t)) ∧
  (∀ (s : State) (path n : Nat) (e : MouldSession), Admitted s path (0x2210 + n) 4 2 → n < 4 → s.loader.session = some e → e.slot = n →
    (∀ damaged, Answers (.msCmdClose path n damaged) s (fun t => t.loader.session = none ∧
      ((t.mould n).area e.area).st = (if damaged = false ∧ areaPasses e.area ((s.mould n).area e.area) = true then .valid else .invalid) ∧
      ((t.mould n).area e.area).words = ((s.mould n).area e.area).words ∧ OnlyAnswered s t)) ∧
    Answers (.msCmdCancel path n) s (fun t => t.loader.session = none ∧ ((t.mould n).area e.area).st = .invalid ∧ OnlyAnswered s t)) ∧
  (∀ (s : State) (path : Nat) (v : Word), Admitted s path 0x2200 0x0A 2 → Answers (.bootOrderWrite path v) s (fun t =>
    t.loader = { s.loader with bootCopies := (some v, some v), bootWear := s.loader.bootWear + 1 } ∧ OnlyAnswered s t)))

/-! ### The dictionary -/

namespace Sys2Proof.Machine

/-- Stored 32-bit entries with a range of their own: index, subindex and bounds (R645, R643, R767, R574, R697, R390, R404, R344). -/
def plainSettings : List (Nat × Nat × Nat × Nat) := [
  (0x2018, 1, 1, 3600), (0x2018, 2, 10, 60000), (0x2140, 3, 85, 115), (0x2140, 4, 1, 7), (0x2200, 7, 10, 1000000), (0x2200, 8, 1, 100000),
  (0x2411, 1, 1, 65535), (0x2411, 2, 1, 60000), (0x3010, 2, 1, 1000000), (0x3010, 3, 1, 1000000), (0x3300, 2, 1, 10000)
]

/-- An access was refused with `code`: an SDO abort, or the refusal recorded for the path and its first abort kept (R633, R636). -/
def Refused (s t : State) (path idx sub : Nat) (code : Word) : Prop :=
  (path = 0x7F → .sdoAbort idx sub code ∈ t.out.drop s.out.length) ∧
  (path ≠ 0x7F → (t.path path).refused = (s.path path).refused + 1 ∧
    (t.path path).abort = (if (s.path path).abort = 0 then code else (s.path path).abort) ∧
    (t.path path).abortAt = (if (s.path path).abort = 0 then BitVec.ofNat 32 (idx * 256 + sub) else (s.path path).abortAt)) ∧
  OnlyAnswered s t

/-- Nothing changed but the agent, the packets in flight, the answers outside and KEYLOCK_N as it was found. -/
def AgentOnly (s t : State) : Prop :=
  t = { s with power := { s.power with keylockN := t.power.keylockN }, dict := t.dict, net := t.net, out := t.out }

/-- The 64-bit slots of CHILL_AT in the agent's memory of a path. -/
abbrev chillAtKey : Nat := entryKey 0 0x2300 4

end Sys2Proof.Machine

/-- R625, R633, R634, R649-R651, R725, R802: a write within the range of a stored entry changes it and is answered; beyond its range it is refused with 0x0609_0031 or
0x0609_0032; in an OPEN transaction a transactable entry is staged and keeps its value. The lower half of a 64-bit entry is held until the next write of its upper half;
the host writes both at once. The accesses of one cycle of CLK_MGT are applied in ascending path ID. A read answers the stored value and changes nothing. R625, R626,
R631, R633, R636, R667: an access to an index or subindex that does not exist, of the wrong direction, below its level, of the wrong length, of a form the mailbox does
not support, or of a stopped agent, is refused with the abort of the first check that fails, and nothing but its answer changes; a refused bus read returns ones. That a
lower half is held without a check of its value is a reading (log 44). Commands it says complete: sdoDownload, sdoUpload, dictWrite, mirrorRead. -/
def Obligations.DictionarySettingsAndRefusals : Prop :=
  ((∀ (s : State) (path : Nat) (e : Nat × Nat × Nat × Nat) (v : Word) (k : Bool), e ∈ plainSettings → Admitted s path e.1 e.2.1 2 → (s.path path).held = none → s.dict.arriving = [] →
    let write (t : State) : Prop :=
      AgentOnly s t ∧
      (v.toNat < e.2.2.1 → Refused s t path e.1 e.2.1 0x06090032#32) ∧
      (e.2.2.2 < v.toNat → Refused s t path e.1 e.2.1 0x06090031#32) ∧
      (e.2.2.1 ≤ v.toNat → v.toNat ≤ e.2.2.2 → (s.staging path = false ∨ e.1 = 0x2018) →
        t.settingN e.1 e.2.1 = v.toNat ∧ (path = 0x7F → .sdoOk e.1 e.2.1 ∈ t.out.drop s.out.length) ∧
        (∀ o i j, (o, i, j) ≠ (0, e.1, e.2.1) → i < 65536 → j < 256 → t.settingOf o i j = s.settingOf o i j) ∧
        t.dict = { s.dict with paths := t.dict.paths, settings := t.dict.settings }) ∧
      (e.2.2.1 ≤ v.toNat → v.toNat ≤ e.2.2.2 → s.staging path = true → e.1 ≠ 0x2018 →
        (1024 ≤ (s.ownSession path).staged.length → Refused s t path e.1 e.2.1 0x06008A06#32) ∧
        ((s.ownSession path).staged.length < 1024 → t.settingN e.1 e.2.1 = s.settingN e.1 e.2.1 ∧
          (t.session (s.path path).session).staged = (s.ownSession path).staged ++ [{ obj := 0, idx := e.1, sub := e.2.1, value := v.setWidth 64 }]))
    Answers (.dictWrite path e.1 e.2.1 false (v.setWidth 64) k .clean false) s write ∧
    (path = 0x7F → Answers (.sdoDownload e.1 e.2.1 (leBytes v) false .normal k .clean) s write)) ∧
  (∀ (s : State) (path : Nat) (e : Nat × Nat × Nat × Nat), e ∈ plainSettings → Readable s path e.1 e.2.1 2 → (s.path path).held = none → s.dict.arriving = [] →
    (path ≠ 0x7F → Answers (.mirrorRead path e.1 e.2.1 false .ok .clean false) s (fun t =>
      t.out = s.out ++ [.busRead path (s.setting e.1 e.2.1)] ∧ OnlyAnswered s t ∧ AgentOnly s t)) ∧
    (path = 0x7F → Answers (.sdoUpload e.1 e.2.1 4 .normal .ok .clean) s (fun t =>
      t.out = s.out ++ [.sdoData e.1 e.2.1 (valueBytes 4 (s.setting e.1 e.2.1))] ∧ OnlyAnswered s t ∧ AgentOnly s t))) ∧
  (∀ (s : State) (path : Nat) (lo hi : Word) (k : Bool), path ≠ 0x7F → Admitted s path 0x2300 4 1 → s.dict.arriving = [] →
    ((s.path path).held = none → Answers (.dictWrite path 0x2300 4 false (lo.setWidth 64) k .clean false) s (fun t =>
      (t.path path).held = some (chillAtKey, lo) ∧ OnlyAnswered s t ∧ AgentOnly s t)) ∧
    ((s.path path).held = some (chillAtKey, lo) → Answers (.dictWrite path 0x2300 5 false (hi.setWidth 64) k .clean false) s (fun t =>
      t.setting 0x2300 4 = hi ++ lo ∧ (t.path path).held = none ∧ (t.path path).refused = (s.path path).refused ∧ AgentOnly s t)) ∧
    ((s.path path).held = some (chillAtKey, lo) → Answers (.dictWrite path 0x2018 1 false 60 k .clean false) s (fun t =>
      t.setting 0x2300 4 = s.setting 0x2300 4 ∧ (t.path path).held = none ∧
      ((s.path path).abort = 0 → (t.path path).abort = 0x06070010#32 ∧ (t.path path).abortAt = 0x230004#32))) ∧
    (path = 88 → (s.path path).held = none → Answers (.dictWrite path 0x2300 4 true (hi ++ lo) k .clean false) s (fun t =>
      t.setting 0x2300 4 = hi ++ lo ∧ (t.path path).held = none ∧ AgentOnly s t))) ∧
  (∀ (s : State) (path : Nat), path ≠ 0x7F → Readable s path 0x2300 4 1 → (s.path path).held = none → s.dict.arriving = [] →
    Answers (.mirrorRead path 0x2300 4 false .ok .clean false) s (fun t =>
      t.out = s.out ++ [.busRead path (((s.setting 0x2300 4).setWidth 32).setWidth 64)] ∧
      (t.path path).latch = some (chillAtKey, (s.setting 0x2300 4 >>> 32).setWidth 32) ∧ OnlyAnswered s t ∧ AgentOnly s t) ∧
    (∀ w, (s.path path).latch = some (chillAtKey, w) → Answers (.mirrorRead path 0x2300 5 false .ok .clean false) s (fun t =>
      t.out = s.out ++ [.busRead path (w.setWidth 64)] ∧ OnlyAnswered s t ∧ AgentOnly s t))) ∧
  (∀ (s : State) (path idx sub p idx' sub' : Nat) (wide wide' k k' : Bool) (v v' : DWord) (e : Ecc),
    let a : Access := .write path idx sub wide v k .clean
    let b : Access := .write p idx' sub' wide' v' k' .clean
    exec (.dictWrite path idx sub wide v k .clean true) s = .next (s.setArriving (insertAccess a s.dict.arriving)) ∧
    exec (.mirrorRead path idx sub wide e .clean true) s = .next (s.setArriving (insertAccess (.read path idx sub wide e .clean) s.dict.arriving)) ∧
    (s.dict.arriving = [a] → Answers (.dictWrite p idx' sub' wide' v' k' .clean false) s (fun t =>
      t = if p < path then applyAccess (applyAccess (s.setArriving []) b) a else applyAccess (applyAccess (s.setArriving []) a) b)))) ∧
  ((∀ (s : State) (idx sub : Nat) (bs : List Byte) (k : Bool), s.ecat.al ≠ .init → (s.path 0x7F).held = none → (s.path 0x7F).segment = none →
    let refused (code : Word) : Prop := Answers (.sdoDownload idx sub bs false .normal k .clean) s (fun t => Refused s t 0x7F idx sub code ∧ AgentOnly s t)
    (s.dict.stopped = true → refused 0x08000000#32) ∧
    (s.dict.stopped = false → indexExists idx = false → refused 0x06020000#32) ∧
    (s.dict.stopped = false → indexExists idx = true → sub ≠ 0 → findEntry idx sub = none → refused 0x06090011#32) ∧
    (∀ r, s.dict.stopped = false → findEntry idx sub = some r →
      (r.acc = .ro ∨ r.acc = .rc ∨ r.acc = .st → refused 0x06010002#32) ∧
      (r.acc = .rw ∨ r.acc = .wo ∨ r.acc = .rwt ∨ r.acc = .w1c → keyEntry idx = false →
        (s.level 0x7F < r.level → refused 0x06008A01#32) ∧
        (r.level ≤ s.level 0x7F → r.bits ≠ 0 → bs.length ≠ (r.bits + 7) / 8 → refused 0x06070010#32)))) ∧
  (∀ (s : State) (idx sub room : Nat) (bs : List Byte) (more k : Bool) (f : SdoForm) (e : Ecc), s.ecat.al ≠ .init → (s.path 0x7F).held = none →
    (s.path 0x7F).segment = none → s.dict.stopped = false → f ≠ .normal →
    let code : Word := if f = .unknown then 0x05040001#32 else 0x06010000#32
    Answers (.sdoDownload idx sub bs more f k .clean) s (fun t => Refused s t 0x7F idx sub code ∧ AgentOnly s t) ∧
    Answers (.sdoUpload idx sub room f e .clean) s (fun t => Refused s t 0x7F idx sub code ∧ AgentOnly s t)) ∧
  (∀ (s : State) (path idx sub : Nat) (v : DWord) (k : Bool) (e : Ecc), (path = 88 ∨ (72 ≤ path ∧ path < 80)) → s.reaches path = true → (s.path path).held = none → s.dict.arriving = [] →
    let both (code : Word) : Prop :=
      Answers (.dictWrite path idx sub false v k .clean false) s (fun t => Refused s t path idx sub code ∧ t.out = s.out ∧ AgentOnly s t) ∧
      Answers (.mirrorRead path idx sub false e .clean false) s (fun t => Refused s t path idx sub code ∧ t.out = s.out ++ [.busRead path 0xFFFFFFFF] ∧ AgentOnly s t)
    (s.dict.stopped = false → indexExists idx = false → both 0x06020000#32) ∧
    (s.dict.stopped = false → (∃ x ∈ plainSettings, (x.1, x.2.1) = (idx, sub)) → s.level path < 2 →
      Answers (.dictWrite path idx sub false v k .clean false) s (fun t => Refused s t path idx sub 0x06008A01#32 ∧ t.out = s.out ∧ AgentOnly s t)) ∧
    (s.dict.stopped = true → (∃ x ∈ plainSettings, (x.1, x.2.1) = (idx, sub)) → both 0x08000000#32)))

/-- R631-R633: a segmented download keeps its bytes and takes effect with its last segment exactly as one whole download; a segmented upload sends what mailbox in holds;
the next segment not arriving ends either with 0x0504_0000. The information services list every index that exists and describe an object or an entry, or refuse one that
does not exist. That the room of mailbox in comes with the command is the model's choice (log 44). Commands it says complete: sdoDownload, sdoSegment,
sdoSegmentTimeout, getOdList, getObjectDescription, getEntryDescription. -/
def Obligations.SdoSegmentsAndInformation : Prop :=
  (∀ (s : State) (idx sub : Nat) (bs : List Byte) (k : Bool), Admitted s 0x7F idx sub 0 → (s.path 0x7F).held = none →
    keyEntry idx = false → (∃ r, findEntry idx sub = some r ∧ r.acc = .rw ∧ r.level ≤ s.level 0x7F) → Answers (.sdoDownload idx sub bs true .normal k .clean) s (fun t =>
      (t.path 0x7F).segment = some { download := true, idx := idx, sub := sub, bytes := bs } ∧ OnlyAnswered s t ∧ AgentOnly s t)) ∧
  (∀ (s : State) (g : Segment) (bs : List Byte) (room : Nat) (k : Bool), s.ecat.al ≠ .init → (s.path 0x7F).held = none → (s.path 0x7F).segment = some g →
    (g.download = true →
      exec (.sdoSegment bs true room k) s = exec (.sdoDownload g.idx g.sub (g.bytes ++ bs) false .normal k .clean) s ∧
      Answers (.sdoSegment bs false room k) s (fun t => (t.path 0x7F).segment = some { g with bytes := g.bytes ++ bs } ∧ OnlyAnswered s t ∧ AgentOnly s t)) ∧
    (g.download = false → ∀ last, Answers (.sdoSegment bs last room k) s (fun t =>
      t.out = s.out ++ [.sdoData g.idx g.sub (g.bytes.take room)] ∧
      (t.path 0x7F).segment = (if g.bytes.length ≤ room then none else some { g with bytes := g.bytes.drop room }) ∧ OnlyAnswered s t ∧ AgentOnly s t)) ∧
    Answers .sdoSegmentTimeout s (fun t => t.out = s.out ++ [.sdoAbort g.idx g.sub 0x05040000#32] ∧ (t.path 0x7F).segment = none ∧ OnlyAnswered s t ∧ AgentOnly s t)) ∧
  (∀ (s : State), s.ecat.al ≠ .init → s.ecat.al ≠ .boot → s.dict.stopped = false → (s.path 0x7F).held = none →
    Answers .getOdList s (fun t => ∃ l, t.out = s.out ++ [.odList l] ∧ (∀ i, i ∈ l ↔ i < 0x7000 ∧ indexExists i = true) ∧ OnlyAnswered s t ∧ AgentOnly s t) ∧
    (∀ idx, Answers (.getObjectDescription idx) s (fun t => OnlyAnswered s t ∧ AgentOnly s t ∧
      (indexExists idx = true → ∃ f, t.out = s.out ++ [.sdoInfo idx 0 f] ∧ f.getD 1 0 = highestSub idx) ∧
      (indexExists idx = false → t.out = s.out ++ [.sdoAbort idx 0 0x06020000#32]))) ∧
    (∀ idx sub, Answers (.getEntryDescription idx sub) s (fun t => OnlyAnswered s t ∧ AgentOnly s t ∧
      (∀ r, findEntry idx sub = some r → ∃ f, t.out = s.out ++ [.sdoInfo idx sub f] ∧ f.getD 1 0 = r.bits ∧ f.getD 3 0 = r.level) ∧
      (indexExists idx = false → t.out = s.out ++ [.sdoAbort idx sub 0x06020000#32]) ∧
      (indexExists idx = true → sub ≠ 0 → findEntry idx sub = none → t.out = s.out ++ [.sdoAbort idx sub 0x06090011#32]))))

/-! ### Sessions, keys and transactions -/

/-- R639-R645: REQUEST with a usable key slot of the level draws a challenge, else is refused with 0x0600_8A02, _8A03 or _8A04; PROVE of a matching response opens the
session in a closed context, a late or wrong one voids the challenge and counts against the slot, whose fourth failure locks it out; without a challenge nothing
changes; CLOSE, a Factory session's SESS_CMD and the idle timeout close the session, and its OPEN transaction is discarded with 0x3A02. R645-R648: with KEYLOCK_N high,
SET stores the eight words written to the slot with its level, and CLEAR empties the slot; sessions opened with it close. With KEYLOCK_N low either is refused with
0x0800_0021, and SET before all eight words have been written with 0x0800_0022. That the level of KEYLOCK_N comes with the command is the model's choice (log 43).
Commands it says complete: sessReqRequest, sessReqProve, sessReqClose, sessCmdClose, sessIdleTimeout, keyLockoutEnd, keyCmdSet, keyCmdClear. -/
def Obligations.SessionsAndKeySlots : Prop :=
  ((∀ (s : State) (path : Nat) (v : Word), Admitted s path 0x2010 1 0 → (s.path path).held = none →
    let k := v.toNat / 2 ^ 8 % 4
    let l := v.toNat % 4
    (l = 0 → Answers (.sessReqRequest path v) s (fun t => Refused s t path 0x2010 1 0x06090032#32)) ∧
    (l ≠ 0 → ((s.key k).provisioned = false ∨ (s.key k).locked = true) → Answers (.sessReqRequest path v) s (fun t => Refused s t path 0x2010 1 0x06008A02#32)) ∧
    (l ≠ 0 → (s.key k).provisioned = true → (s.key k).locked = false → (s.key k).level < l →
      Answers (.sessReqRequest path v) s (fun t => Refused s t path 0x2010 1 0x06008A03#32)) ∧
    (l ≠ 0 → (s.key k).provisioned = true → (s.key k).locked = false → l ≤ (s.key k).level → sessionsFull s = true →
      Answers (.sessReqRequest path v) s (fun t => Refused s t path 0x2010 1 0x06008A04#32)) ∧
    (l ≠ 0 → (s.key k).provisioned = true → (s.key k).locked = false → l ≤ (s.key k).level → sessionsFull s = false → (s.path path).session = 0 →
      Answers (.sessReqRequest path v) s (fun t => (∃ c, (t.path path).challenge = some c ∧ c.words.length = 8 ∧ c.request = (v &&& 0x0FFFFFFF#32) ||| 0x10000000#32) ∧
        (t.path path).challengeAt = s.power.pour ∧ (t.path path).refused = (s.path path).refused ∧
        t = { s with dict := { s.dict with paths := t.dict.paths }, net := t.net, out := t.out, fresh := t.fresh }))) ∧
  (∀ (s : State) (path : Nat) (late : Bool), Admitted s path 0x2010 1 0 → (s.path path).held = none →
    ((s.path path).challenge = none → Answers (.sessReqProve path late .clean) s (fun t => Refused s t path 0x2010 1 0x08000022#32)) ∧
    (∀ c, (s.path path).challenge = some c →
      let k := c.request.toNat / 2 ^ 8 % 4
      let l := c.request.toNat % 4
      let wrong : Prop := late = true ∨ challengeLate s path = true ∨ proves s path c = false
      ((s.key k).locked = true → Answers (.sessReqProve path late .clean) s (fun t => Refused s t path 0x2010 1 0x06008A02#32 ∧ (t.path path).challenge = none)) ∧
      ((s.key k).locked = false → wrong → Answers (.sessReqProve path late .clean) s (fun t =>
        (t.path path).challenge = none ∧ t.dict.authFails = s.dict.authFails + 1 ∧ t.dict.sessions = s.dict.sessions ∧
        (t.key k).locked = decide (4 ≤ (s.key k).failRun + 1) ∧ (t.key k).failRun = (if 4 ≤ (s.key k).failRun + 1 then 0 else (s.key k).failRun + 1) ∧
        (s.dict.authLogged = false → Reports s t 0x3A01 0x0E path) ∧ (s.dict.authLogged = true → t.chill = s.chill))) ∧
      ((s.key k).locked = false → ¬wrong → sessionsFull s = false → Answers (.sessReqProve path late .clean) s (fun t =>
        ∃ n, 1 ≤ n ∧ n ≤ 4 ∧ (s.session n).isOpen = false ∧ (t.session n).isOpen = true ∧ (t.session n).path = path ∧ (t.session n).slot = k ∧
          (t.session n).level = l ∧ (t.path path).session = n ∧ (t.path path).challenge = none ∧ (t.key k).failRun = 0 ∧
          (∀ m, m ≠ n → t.session m = s.session m) ∧ t.chill = s.chill)))) ∧
  (∀ (s : State) (n : Nat), 1 ≤ n → n ≤ 4 → (s.session n).isOpen = true → (s.path (s.session n).path).session = n → s.dict.stopped = false →
    let closed (t : State) : Prop :=
      (t.session n).isOpen = false ∧ (t.path (s.session n).path).session = 0 ∧ (∀ m, m ≠ n → t.session m = s.session m) ∧
      ((s.session n).txSt = .opened → (t.session n).txSt = .discarded ∧ (t.session n).txResult = .sessionLost ∧ (t.session n).staged = [] ∧
        Reports s t 0x3A02 0x0E (s.session n).path) ∧
      ((s.session n).txSt ≠ .opened → (t.session n).txSt = (s.session n).txSt ∧ (t.session n).staged = (s.session n).staged ∧ t.chill = s.chill)
    Answers (.sessIdleTimeout n) s closed ∧
    (Admitted s (s.session n).path 0x2010 1 0 → (s.path (s.session n).path).held = none → Answers (.sessReqClose (s.session n).path) s closed) ∧
    (∀ path, Admitted s path (0x2010 + n) 3 3 → (s.path path).held = none → Answers (.sessCmdClose path n) s closed)) ∧
  (∀ (s : State) (k : Nat), k < 4 → (s.key k).locked = true → Answers (.keyLockoutEnd k) s (fun t =>
    t.key k = { s.key k with locked := false } ∧ (∀ j, j ≠ k → t.key j = s.key j) ∧ t = { s with dict := { s.dict with keys := t.dict.keys } }))) ∧
  (∀ (s : State) (path k l : Nat), k < 4 → Admitted s path (0x2020 + k) 0x0A 3 → (s.path path).held = none → 1 ≤ l → l ≤ 3 →
    let d := (s.key k).data
    (∀ ws : List Word, ws.length = 8 → (∀ j, j < 8 → Tab.get none d j = ws[j]?) → Answers (.keyCmdSet path k l true) s (fun t =>
      t.key k = { s.key k with provisioned := true, level := l, key := ws, data := [], wear := (s.key k).wear + 1 } ∧
      (∀ j, j ≠ k → t.key j = s.key j) ∧ (∀ n, 1 ≤ n → n ≤ 4 → (t.session n).isOpen = ((s.session n).isOpen && decide ((s.session n).slot ≠ k))))) ∧
    (Answers (.keyCmdClear path k true) s (fun t =>
      t.key k = { s.key k with provisioned := false, level := 0, key := [], data := [], wear := (s.key k).wear + 1 } ∧
      (∀ j, j ≠ k → t.key j = s.key j) ∧ (∀ n, 1 ≤ n → n ≤ 4 → (t.session n).isOpen = ((s.session n).isOpen && decide ((s.session n).slot ≠ k))))) ∧
    Answers (.keyCmdSet path k l false) s (fun t => Refused s t path (0x2020 + k) 0x0A 0x08000021#32 ∧ t.dict.keys = s.dict.keys) ∧
    Answers (.keyCmdClear path k false) s (fun t => Refused s t path (0x2020 + k) 0x0A 0x08000021#32 ∧ t.dict.keys = s.dict.keys) ∧
    (∀ j, j < 8 → Tab.get none d j = none → Answers (.keyCmdSet path k l true) s (fun t => Refused s t path (0x2020 + k) 0x0A 0x08000022#32)))

/-- R649, R652-R657: BEGIN opens the session's transaction, COMMIT makes it COMMITTING for its tick, AT_DC only while the clock runs and within its bounds, ROLLBACK
discards it; on its tick every staged write applies in order or, where one fails, none does and the transaction is FAILED with that write's entry and abort. Commands it
says complete: txCmdBegin, txCmdCommit, txCmdRollback, txCommitTick. -/
def Obligations.Transactions : Prop :=
  (∀ (s : State) (path : Nat), Admitted s path 0x2030 1 1 → (s.path path).held = none →
    let n := (s.path path).session
    let x := s.session n
    n ≠ 0 →
    (x.txSt ≠ .opened → Answers (.txCmdBegin path) s (fun t =>
      t.session n = { x with txSt := .opened, txResult := .none, staged := [], failAt := 0, failCode := 0 } ∧ (∀ m, m ≠ n → t.session m = s.session m) ∧
      t = { s with dict := { s.dict with paths := t.dict.paths, sessions := t.dict.sessions }, net := t.net, out := t.out })) ∧
    (x.txSt = .opened → Answers (.txCmdBegin path) s (fun t => Refused s t path 0x2030 1 0x08000022#32)) ∧
    (x.txSt = .opened → Answers (.txCmdCommit path 0) s (fun t => t.session n = { x with txSt := .committing, txWhen := .next } ∧
      (∀ m, m ≠ n → t.session m = s.session m))) ∧
    (x.txSt = .opened → s.dcRunning = false → Answers (.txCmdCommit path 1) s (fun t => Refused s t path 0x2030 1 0x08000022#32)) ∧
    (x.txSt = .opened → s.dcRunning = true → x.txAt.toNat < s.dcTime.toNat + 10000 → Answers (.txCmdCommit path 1) s (fun t => Refused s t path 0x2030 1 0x06090032#32)) ∧
    (x.txSt = .opened → s.dcRunning = true → s.dcTime.toNat + 1000000000000 < x.txAt.toNat →
      Answers (.txCmdCommit path 1) s (fun t => Refused s t path 0x2030 1 0x06090031#32)) ∧
    (x.txSt = .opened → s.dcRunning = true → s.dcTime.toNat + 10000 ≤ x.txAt.toNat → x.txAt.toNat ≤ s.dcTime.toNat + 1000000000000 →
      Answers (.txCmdCommit path 1) s (fun t => t.session n = { x with txSt := .committing, txWhen := .atDc })) ∧
    (x.txSt = .opened → heatFits s x = true → Answers (.txCmdCommit path 2) s (fun t => t.session n = { x with txSt := .committing, txWhen := .atHeat })) ∧
    (x.txSt = .opened → Answers (.txCmdRollback path) s (fun t => t.session n = { x with txSt := .rolledBack, txResult := .rollback, staged := [] } ∧
      t.dict.settings = s.dict.settings))) ∧
  (∀ (s : State) (path : Nat), s.reaches path = true → s.gateCheck path 0x2030 1 1 = none → (s.path path).held = none → s.committing path = true →
    Answers (.txCmdRollback path) s (fun t =>
      let n := (s.path path).session
      t.session n = { s.session n with txSt := .rolledBack, txResult := .rollback, staged := [] } ∧ t.dict.settings = s.dict.settings)) ∧
  (∀ (s : State) (n : Nat), s.power.pllLocked = true → s.dict.stopped = false → 1 ≤ n → n ≤ 4 → (∀ m, m < 5 → (txDue s m = true ↔ m = n)) → Answers (.txCommitTick .clean) s (fun t =>
    let x := s.session n
    (∀ u, applyAll x.path x.staged s = .ok u → (∀ m, 1 ≤ m → m < 5 → m ≠ n → txDue u m = false) → (t.session n).txSt = .committed ∧ (t.session n).txResult = .ok ∧ (t.session n).staged = [] ∧
      (t.session n).appliedTick = u.now ∧ t.dict.settings = u.dict.settings ∧ t.tun = u.tun ∧ t.net = u.net ∧ t.villet = u.villet ∧ t.power = u.power) ∧
    (∀ w code, applyAll x.path x.staged s = .error (w, code) → (t.session n).txSt = .failed ∧ (t.session n).txResult = .check ∧
      (t.session n).failAt = BitVec.ofNat 32 (w.idx * 256 + w.sub) ∧ (t.session n).failCode = code ∧ (t.session n).staged = [] ∧
      t = { s with dict := { s.dict with sessions := t.dict.sessions, txLast := t.dict.txLast } }))) ∧
  (∀ (s : State) (n idx sub lo hi : Nat) (v : DWord), s.power.pllLocked = true → s.dict.stopped = false → 1 ≤ n → n ≤ 4 → (∀ m, m < 5 → (txDue s m = true ↔ m = n)) →
    (idx, sub, lo, hi) ∈ plainSettings → s.entryUp idx = true → (s.session n).staged = [{ obj := 0, idx := idx, sub := sub, value := v }] →
    Answers (.txCommitTick .clean) s (fun t => t.setting idx sub = v ∧ (t.session n).txSt = .committed)) ∧
  (∀ (s : State) (n : Nat), s.power.pllLocked = true → s.dict.stopped = false → 1 ≤ n → n ≤ 4 → (∀ m, m < 5 → (txDue s m = true ↔ m = n)) →
    Answers (.txCommitTick (.staging n)) s (fun t => (t.session n).txSt = .discarded ∧ (t.session n).txResult = .stagingError ∧ (t.session n).staged = [] ∧
      t.dict.settings = s.dict.settings ∧ Reports s t 0x3A03 0x0E (s.session n).path))

/-! ### Chill and log -/

/-- R668-R676, R699: FIRE and a due FIRE_AT make a chill on the next pour tick; it writes a FREE bank, of two the one not written last, and of two HELD ones the one not
written last only where FULL_POLICY is OVERWRITE, else it is counted in CHILL_MISSED; the bank holds the causes, number, time and the entries of the chill set as they
stood. FIRE_AT, CANCEL_AT and RELEASE are refused where they do not fit. Commands it says complete: chillCmdFire, chillCmdFireAt, chillCmdRelease, chillCmdCancelAt,
chillTake. -/
def Obligations.ChillsFillBanks : Prop :=
  (∀ (s : State) (path : Nat), Admitted s path 0x2300 2 1 → (s.path path).held = none →
    Answers (.chillCmdFire path) s (fun t => t.chill = { s.chill with due := s.chill.due ||| 1 } ∧ OnlyAnswered s t) ∧
    (s.dcRunning = false → Answers (.chillCmdFireAt path) s (fun t => Refused s t path 0x2300 2 0x08000022#32 ∧ t.chill = s.chill)) ∧
    (s.dcRunning = true → (s.setting 0x2300 4).toNat < s.dcTime.toNat + 10000 →
      Answers (.chillCmdFireAt path) s (fun t => Refused s t path 0x2300 2 0x06090032#32 ∧ t.chill = s.chill)) ∧
    (s.dcRunning = true → s.dcTime.toNat + 1000000000000 < (s.setting 0x2300 4).toNat →
      Answers (.chillCmdFireAt path) s (fun t => Refused s t path 0x2300 2 0x06090031#32 ∧ t.chill = s.chill)) ∧
    (s.dcRunning = true → s.dcTime.toNat + 10000 ≤ (s.setting 0x2300 4).toNat → (s.setting 0x2300 4).toNat ≤ s.dcTime.toNat + 1000000000000 →
      Answers (.chillCmdFireAt path) s (fun t => t.chill = { s.chill with fireAt := true, fireTime := s.setting 0x2300 4 } ∧ OnlyAnswered s t)) ∧
    (s.chill.fireAt = true → Answers (.chillCmdCancelAt path) s (fun t => t.chill = { s.chill with fireAt := false } ∧ OnlyAnswered s t)) ∧
    (s.chill.fireAt = false → Answers (.chillCmdCancelAt path) s (fun t => Refused s t path 0x2300 2 0x08000022#32 ∧ t.chill = s.chill)) ∧
    (∀ b, (s.bank b).held = true → Answers (.chillCmdRelease path b) s (fun t =>
      t.bank b = { s.bank b with held := false, new := false } ∧ t.bank (!b) = s.bank (!b) ∧ OnlyAnswered s t)) ∧
    (∀ b, (s.bank b).held = false → Answers (.chillCmdRelease path b) s (fun t => Refused s t path 0x2300 2 0x08000022#32 ∧ t.chill = s.chill))) ∧
  (∀ (s : State), s.power.pllLocked = true → (s.chill.due ≠ 0 ∨ (s.chill.fireAt = true ∧ s.dcRunning = true ∧ s.chill.fireTime.toNat ≤ s.dcTime.toNat)) →
    Answers .chillTake s (fun t =>
      let due : Bool := s.chill.fireAt && s.dcRunning && decide (s.chill.fireTime.toNat ≤ s.dcTime.toNat)
      let overwrite : Bool := (s.settingW 0x2300 3).getLsbD 21
      let written (b : Bool) : Prop :=
        (t.bank b).held = true ∧ (t.bank b).new = true ∧ (t.bank b).seq = s.chill.count + 1 ∧ (t.bank b).time = s.now ∧ (t.bank b).dcValid = s.dcRunning ∧
        (t.bank b).cause = s.chill.due ||| (if due then 2 else 0) ∧ t.bank (!b) = s.bank (!b) ∧ t.chill.lastB = b ∧ t.chill.count = s.chill.count + 1 ∧
        t.chill.missed = s.chill.missed ∧
        (∀ idx sub, chillEntry idx sub = true →
          Tab.get 0 (t.bank b).entries (idx * 256 + sub) = if s.entryUp idx then readEntry s 0 idx sub else 0)
      ((s.bank false).held = false → (s.bank true).held = false → written (!s.chill.lastB)) ∧
      ((s.bank false).held = false → (s.bank true).held = true → written false) ∧
      ((s.bank false).held = true → (s.bank true).held = false → written true) ∧
      ((s.bank false).held = true → (s.bank true).held = true → overwrite = true → written (!s.chill.lastB)) ∧
      ((s.bank false).held = true → (s.bank true).held = true → overwrite = false →
        t.chill.missed = s.chill.missed + 1 ∧ (∀ b, t.bank b = s.bank b) ∧ t.chill.count = s.chill.count) ∧
      t.chill.due = 0 ∧ t.chill.fireAt = (s.chill.fireAt && !due) ∧ t.chill.ring = s.chill.ring ∧
      t = { s with chill := t.chill, pcie := t.pcie, out := t.out }))

/-- R680-R691, R694-R697: the oldest error of the intake becomes the newest entry with SEQ LOG_HEAD, or adds 1 to the REPEAT of an equal newest entry of class 1, or is left
out under QUIET; one of class 3 or 4 stands unacknowledged until LOG_ACK passes it; one of class 2 opens a record in the lowest FREE slot; ESCALATE stops the object's
domain and RECAST counts the error for its flask. Commands it says complete: logEntryWrite, recastCeWindowExpiry, logAck. -/
def Obligations.LogTakesErrors : Prop :=
  (∀ (s : State) (e : ErrRep) (rest : List ErrRep), s.chill.intake = e :: rest → s.chill.unlogged = [] →
    let cls := e.code / 4096
    let pol := s.policy e.code
    let obj := BitVec.ofNat 32 (e.kind % 256 * 2 ^ 24 + e.oid % 2 ^ 24)
    let quiet : Prop := cls = 1 ∧ pol.getLsbD 30 = true
    let again (x : LogEntry) : Prop :=
      cls = 1 ∧ x.code.toNat = e.code ∧ BitVec.ofNat 32 (x.kind.toNat * 2 ^ 24 + x.oid.toNat) = obj ∧ x.aux = e.aux ∧ x.repeats ≠ 255
    let entered (t : State) : Prop := ∃ x, t.chill.ring = (x :: s.chill.ring).take 256 ∧ x.seq = s.chill.head ∧ x.code = BitVec.ofNat 16 e.code ∧
      x.kind = BitVec.ofNat 8 e.kind ∧ x.oid = BitVec.ofNat 24 e.oid ∧ x.aux = e.aux ∧ x.detail = e.detail ∧ x.repeats = 0 ∧ x.time = s.now ∧ x.dcValid = s.dcRunning
    (pol.toNat % 16 = 0 → Answers .logEntryWrite s (fun t =>
      t.chill.intake = rest ∧ t = { s with chill := t.chill, pcie := t.pcie, ecat := t.ecat, out := t.out } ∧
      (quiet → t.chill = { s.chill with intake := rest, settled := rest.length }) ∧
      (¬quiet → ∀ x xs, s.chill.ring = x :: xs → again x →
        t.chill = { s.chill with intake := rest, settled := rest.length, ring := { x with repeats := x.repeats + 1 } :: xs }) ∧
      (¬quiet → (∀ x ∈ s.chill.ring.head?, ¬again x) →
        entered t ∧ t.chill.head = (if s.chill.head + 1 = 0 then 1 else s.chill.head + 1) ∧
        t.chill.unackSeq = (if 3 ≤ cls then s.chill.unackSeq ++ [s.chill.head] else s.chill.unackSeq) ∧
        (cls = 2 → ∀ n, n < 32 → (Tab.get RecSlot.reset s.chill.recs n).st = .free → (∀ m, m < n → (Tab.get RecSlot.reset s.chill.recs m).st ≠ .free) →
          (Tab.get RecSlot.reset t.chill.recs n).seq = s.chill.head ∧ (Tab.get RecSlot.reset t.chill.recs n).obj = obj ∧
          (Tab.get RecSlot.reset t.chill.recs n).st = (if e.failed then .failed else if s.chill.ongoing.any (fun r => r.serial = e.recovery) then .active else .done)) ∧
        (cls ≠ 2 → t.chill.recs = s.chill.recs) ∧
        (3 ≤ cls → s.ecat.al ≠ .init → s.ecat.mailFull = false → s.ecat.mails = [] →
          t.ecat = { s.ecat with mailFull := true } ∧ ∃ m, .emergency m ∈ t.out.drop s.out.length ∧ m.code = BitVec.ofNat 16 e.code ∧ m.seq = s.chill.head.setWidth 24)))) ∧
    (pol.toNat % 16 = 1 → ¬quiet → cls ≠ 1 → e.kind = 1 → (s.flask e.oid).role = .active → Answers .logEntryWrite s (fun t =>
      entered t ∧ (t.flask e.oid).role = .stopped ∧ (t.cru e.oid).st = .stopped)) ∧
    (pol.toNat % 16 = 2 → Tab.get 0 s.chill.ceCount e.oid + 1 ≠ s.settingN 0x2411 1 → Answers .logEntryWrite s (fun t =>
      Tab.get 0 t.chill.ceCount e.oid = Tab.get 0 s.chill.ceCount e.oid + 1 ∧ t.flasks = s.flasks))) ∧
  (∀ (s : State), Answers .recastCeWindowExpiry s (fun t => t.chill.ceCount = [] ∧ t.chill.ring = s.chill.ring ∧ t = { s with chill := t.chill })) ∧
  (∀ (s : State) (path : Nat) (v : Word), Admitted s path 0x2400 0x0C 1 → (s.path path).held = none →
    let after (a b : Word) : Prop := 1 ≤ (a - b).toNat ∧ (a - b).toNat < 2 ^ 31
    (after v (s.chill.head - 1) → Answers (.logAck path v) s (fun t => Refused s t path 0x2400 0x0C 0x06090031#32 ∧ t.chill = s.chill)) ∧
    (¬after v (s.chill.head - 1) → Answers (.logAck path v) s (fun t =>
      (∀ q, q ∈ t.chill.unackSeq ↔ q ∈ s.chill.unackSeq ∧ after q v) ∧ (∀ q, q ∈ t.chill.unackLost ↔ q ∈ s.chill.unackLost ∧ after q v) ∧
      t.chill = { s.chill with unackSeq := t.chill.unackSeq, unackLost := t.chill.unackLost } ∧ OnlyAnswered s t)))

/-! ### Pins -/

namespace Sys2Proof.Machine

/-- PULL of a pin. -/
def pullOf (s : State) (n : Nat) : Nat := s.settingN (0x2500 + n) 1 / 2 ^ 28 % 4

/-- The level at pin `n`: as it is driven from outside, else as the device drives it, else low before a full image, else as its PULL holds it (R616, R737). -/
abbrev PadAt (s : State) (n : Nat) (d : PadDrive) (high : Bool) : Prop :=
  (d = .low ∧ high = false) ∨ (d = .high ∧ high = true) ∨ (d = .undriven ∧ drivenLevel s n = some high) ∨
  (d = .undriven ∧ drivenLevel s n = none ∧ s.pins.configured = false ∧ high = false) ∨
  (d = .undriven ∧ drivenLevel s n = none ∧ s.bankUp (n / 32) = true ∧ pullOf s n ≠ 1 ∧ high = (pullOf s n = 2 || (pullOf s n = 3 && s.pins.kept.getLsbD n)))

/-- The input register and the keeper of pin `n` took a level; its edge mode, and every level mode that holds, set PIN_IRQ. -/
def InputTook (s t : State) (n : Nat) (high : Bool) : Prop :=
  let was := s.pins.input.getLsbD n
  let hit : Bool := (irqMode s n = 1 && !was && high) || (irqMode s n = 2 && was && !high) || (irqMode s n = 3 && was ≠ high) ||
    (irqMode s n = 4 && high) || (irqMode s n = 5 && !high)
  t.pins.input.getLsbD n = high ∧ (∀ m, m ≠ n → t.pins.input.getLsbD m = s.pins.input.getLsbD m) ∧
  t.pins.kept.getLsbD n = high ∧ (∀ m, m ≠ n → t.pins.kept.getLsbD m = s.pins.kept.getLsbD m) ∧
  t.pins.irq.getLsbD n = (s.pins.irq.getLsbD n || hit) ∧
  (∀ m, m ≠ n → irqMode s m ≠ 4 → irqMode s m ≠ 5 → t.pins.irq.getLsbD m = s.pins.irq.getLsbD m) ∧
  t = { s with pins := { s.pins with input := t.pins.input, irq := t.pins.irq, kept := t.pins.kept }, fresh := t.fresh }

/-- Every enabled peripheral whose pins lie in banks that are up, and are wanted by no peripheral before it, has them all; a pin of a bank that is not up has no
owner (R616, R727, R730). -/
def OwnersSettled (t : State) : Prop :=
  (∀ i, i < 38 → wantedPins t i ≠ [] → (∀ n ∈ wantedPins t i, t.bankUp (n / 32) = true ∧ ∀ j, j < i → n ∉ wantedPins t j) → t.owns i = true) ∧
  (∀ n, t.bankUp (n / 32) = false → Tab.get 0 t.pins.owner n = 0)

end Sys2Proof.Machine

/-- R726-R734, R736, R737, R739, R741: the input register takes the level at a pin, as it is driven or as its pull holds it, an edge or level mode sets PIN_IRQ; a supply
that leaves its range after it was in range logs 0x3B01, and one back for 100 µs logs 0x2B01; either settles the owners afresh; a transfer that loses its pins ends
ABORTED; an edge of a trigger input makes a chill or wakes the device where it is so set. That PIN_INPUT_CHANGE is the change of the input register is the model's
choice (log 29). Commands it says complete: bankSupplyChange, bankSettle, pinInputChange, triggerEdge. -/
def Obligations.PinBanksOwnersAndInputs : Prop :=
  (∀ (s : State) (n : Nat) (drive : PadDrive) (high : Bool), n < 64 → PadAt s n drive high → Answers (.pinInputChange n drive) s (fun t =>
    InputTook s t n high ∧ t.fresh = s.fresh)) ∧
  (∀ (s : State) (n : Nat), n < 64 → drivenLevel s n = none → s.pins.configured = true → (s.bankUp (n / 32) = false ∨ pullOf s n = 1) →
    Answers (.pinInputChange n .undriven) s (fun t => InputTook s t n (t.pins.input.getLsbD n) ∧ t.fresh = s.fresh + 1)) ∧
  (∀ (s : State) (b supply : Nat), b < 2 → supply < 4 → supply ≠ (s.pinBank b).supply → Answers (.bankSupplyChange b supply) s (fun t =>
    let left : Prop := (s.pinBank b).inRange = true ∧ supply ≠ 1 ∧ supply ≠ 2
    (t.pinBank b).supply = supply ∧ (t.pinBank b).settled = false ∧ (∀ c, c ≠ b → t.pinBank c = s.pinBank c) ∧
    (left → Reports s t 0x3B01 0x10 (32 * b) ∧ (t.pinBank b).outage = true) ∧ (¬left → t.chill = s.chill ∧ (t.pinBank b).outage = (s.pinBank b).outage) ∧
    OwnersSettled t ∧ t.pins.latch = s.pins.latch ∧ t.pins.input = s.pins.input ∧
    (∀ i, i < 22 → (s.periph i).busy = true → (∃ n ∈ wantedPins s i, n / 32 = b) → (t.periph i).busy = false ∧ (t.periph i).result = 4) ∧
    t = { s with pins := t.pins, chill := t.chill })) ∧
  (∀ (s : State) (b : Nat), (s.pinBank b).inRange = true → (s.pinBank b).settled = false → Answers (.bankSettle b) s (fun t =>
    t.pinBank b = { s.pinBank b with settled := true, outage := false } ∧ (∀ c, c ≠ b → t.pinBank c = s.pinBank c) ∧
    ((s.pinBank b).outage = true → Reports s t 0x2B01 0x10 (32 * b)) ∧ ((s.pinBank b).outage = false → t.chill = s.chill) ∧
    OwnersSettled t ∧ t.pins.latch = s.pins.latch ∧ t.pins.input = s.pins.input ∧ t = { s with pins := t.pins, chill := t.chill })) ∧
  (∀ (s : State) (k : Nat) (level : Bool), k < 8 → s.power.pllLocked = true → s.owns (14 + k) = true → (periphCfg s (14 + k)).getLsbD 29 = false →
    s.pins.trigSample.getLsbD k ≠ level → Answers (.triggerEdge k level) s (fun t =>
      let cfg := s.settingN 0x2300 3
      let wake := s.settingN 0x2130 3
      let chills : Prop := cfg / 2 ^ 31 % 2 = 1 ∧ cfg / 2 ^ 28 % 8 = k ∧ (cfg / 2 ^ 27 % 2 = 1 ↔ level = false)
      let wakes : Prop := wake / 2 ^ 31 % 2 = 1 ∧ wake / 2 ^ 28 % 8 = k ∧ (wake / 2 ^ 27 % 2 = 1 ↔ level = false)
      t.pins.trigSample.getLsbD k = level ∧ (∀ j, j ≠ k → t.pins.trigSample.getLsbD j = s.pins.trigSample.getLsbD j) ∧
      (chills → t.chill = { s.chill with due := s.chill.due ||| 4 }) ∧ (¬chills → t.chill = s.chill) ∧
      (wakes → s.power.hold = .held → t.power.hold = .exiting ∧ t.power.dimmPwren = 0xFF) ∧
      (¬wakes ∨ s.power.hold ≠ .held → t = { s with pins := { s.pins with trigSample := t.pins.trigSample }, chill := t.chill })))

/-- R635, R739, R744, R745: a transfer starts where its instance owns its pins and is idle, and ends with its RESULT; UART bytes sent go out in order, bytes received queue
up to 256 and are returned and removed; a capture records the time and counts; TRIG_FIRE and STB_FIRE pulse the outputs that own their pins. That bytes sent leave at
once is the model's choice (log 29). Commands it says complete: captureEdge, i2cXfer, i2cTransferDone, spiXfer, spiTransferDone, uartTx, uartRx, uartRxByte, trigFire,
stbFire, strobeEnd. -/
def Obligations.PinPeripheralsTransfer : Prop :=
  (∀ (s : State) (path n addr wr rd : Nat), n < 4 → Admitted s path (0x2580 + n) 3 1 → (s.path path).held = none →
    (s.owns n = true → (s.periph n).busy = false → Answers (.i2cXfer path n addr wr rd) s (fun t =>
      t.periph n = { s.periph n with busy := true } ∧ (∀ i, i ≠ n → t.periph i = s.periph i) ∧
      .i2cXfer n (addr % 128) ((s.periph n).tx.take (wr % 256)) (rd % 256) ∈ t.out.drop s.out.length ∧ OnlyAnswered s t)) ∧
    (s.owns n = false ∨ (s.periph n).busy = true → Answers (.i2cXfer path n addr wr rd) s (fun t =>
      Refused s t path (0x2580 + n) 3 0x08000022#32 ∧ t.pins = s.pins))) ∧
  (∀ (s : State) (n result : Nat) (rx : List Byte), n < 4 → (s.periph n).busy = true →
    (result < 3 → Answers (.i2cTransferDone n result rx) s (fun t =>
      t.periph n = { s.periph n with busy := false, result := result, rx := rx.take 256 } ∧ (∀ i, i ≠ n → t.periph i = s.periph i) ∧ t = { s with pins := t.pins }))) ∧
  (∀ (s : State) (path n k : Nat), n < 4 → Admitted s path (0x2584 + n) 3 1 → (s.path path).held = none →
    (k = 0 → Answers (.spiXfer path n k) s (fun t => Refused s t path (0x2584 + n) 3 0x06090032#32)) ∧
    (256 < k → Answers (.spiXfer path n k) s (fun t => Refused s t path (0x2584 + n) 3 0x06090031#32)) ∧
    (1 ≤ k → k ≤ 256 → s.owns (4 + n) = true → (s.periph (4 + n)).busy = false → Answers (.spiXfer path n k) s (fun t =>
      t.periph (4 + n) = { s.periph (4 + n) with busy := true } ∧ .spiXfer n ((s.periph (4 + n)).tx.take k) ∈ t.out.drop s.out.length ∧ OnlyAnswered s t))) ∧
  (∀ (s : State) (n : Nat) (rx : List Byte), n < 4 → (s.periph (4 + n)).busy = true → Answers (.spiTransferDone n rx) s (fun t =>
    t.periph (4 + n) = { s.periph (4 + n) with busy := false, result := 0, rx := rx.take 256 } ∧ t = { s with pins := t.pins })) ∧
  (∀ (s : State) (path n : Nat) (bs : List Byte), n < 2 → Admitted s path (0x2588 + n) 3 1 → (s.path path).held = none →
    (256 < bs.length → Answers (.uartTx path n bs) s (fun t => Refused s t path (0x2588 + n) 3 0x06070010#32)) ∧
    (bs.length ≤ 256 → s.owns (8 + n) = true → Answers (.uartTx path n bs) s (fun t =>
      .uartSent n bs ∈ t.out.drop s.out.length ∧ t.pins = s.pins ∧ OnlyAnswered s t))) ∧
  (∀ (s : State) (path n : Nat), n < 2 → Readable s path (0x2588 + n) 4 1 → (s.path path).held = none → Answers (.uartRx path n) s (fun t =>
    let k := if path = 0x7F then 256 else 4
    t.periph (8 + n) = { s.periph (8 + n) with rx := (s.periph (8 + n)).rx.drop k } ∧
    t.out = s.out ++ [if path = 0x7F then .sdoData (0x2588 + n) 4 ((s.periph (8 + n)).rx.take k)
      else .busRead path (BitVec.ofNat 64 (bytesValue ((s.periph (8 + n)).rx.take 4)))] ∧ OnlyAnswered s t)) ∧
  (∀ (s : State) (n : Nat) (b : Byte), n < 2 → s.owns (8 + n) = true → Answers (.uartRxByte n b) s (fun t =>
    ((s.periph (8 + n)).rx.length < 256 → (t.periph (8 + n)).rx = (s.periph (8 + n)).rx ++ [b] ∧ (t.periph (8 + n)).result = (s.periph (8 + n)).result) ∧
    (256 ≤ (s.periph (8 + n)).rx.length → (t.periph (8 + n)).rx = (s.periph (8 + n)).rx ∧ (t.periph (8 + n)).result = 5) ∧ t = { s with pins := t.pins })) ∧
  (∀ (s : State) (n : Nat) (rising : Bool), n < 4 → s.owns (10 + n) = true →
    (let m := s.settingN (0x2598 + n) 1 / 2 ^ 28 % 4; m = 3 ∨ (m = 1 ∧ rising = true) ∨ (m = 2 ∧ rising = false)) → Answers (.captureEdge n rising) s (fun t =>
      t.periph (10 + n) = { s.periph (10 + n) with time := s.now, count := (s.periph (10 + n)).count + 1 } ∧ t = { s with pins := t.pins })) ∧
  (∀ (s : State) (path k : Nat) (v : Word), k < 8 → Admitted s path (0x2590 + k) 3 1 → (s.path path).held = none → s.staging path = false →
    Answers (.trigFire path k v) s (fun t => t.pins = s.pins ∧ OnlyAnswered s t ∧
      (v = 1 → s.owns (14 + k) = true → (periphCfg s (14 + k)).getLsbD 29 = true → .trigPulse k ∈ t.out.drop s.out.length) ∧
      (v ≠ 1 ∨ s.owns (14 + k) = false ∨ (periphCfg s (14 + k)).getLsbD 29 = false → .trigPulse k ∉ t.out.drop s.out.length))) ∧
  (∀ (s : State) (path : Nat) (v : Word), Admitted s path 0x25A0 0x11 1 → (s.path path).held = none → s.staging path = false →
    Answers (.stbFire path v) s (fun t => OnlyAnswered s t ∧ ∀ j, j < 16 →
      (v.getLsbD j = true → s.owns (22 + j) = true → t.pins.pulsing.getLsbD j = true ∧ .strobe j true ∈ t.out.drop s.out.length) ∧
      (v.getLsbD j = false ∨ s.owns (22 + j) = false → t.pins.pulsing.getLsbD j = s.pins.pulsing.getLsbD j ∧ .strobe j true ∉ t.out.drop s.out.length))) ∧
  (∀ (s : State) (j : Nat), j < 16 → s.pins.pulsing.getLsbD j = true → Answers (.strobeEnd j) s (fun t =>
    t.pins.pulsing.getLsbD j = false ∧ (∀ i, i ≠ j → t.pins.pulsing.getLsbD i = s.pins.pulsing.getLsbD i) ∧ t.out = s.out ++ [.strobe j false] ∧
    t = { s with pins := { s.pins with pulsing := t.pins.pulsing }, out := t.out }))

/-! ### EtherCAT -/

/-- R722, R723: the master's requests move the slave along its table and clear the status code; SAFEOP asked with wrong lengths is refused with 0x001D or 0x001E, BOOT of a
configured device with 0x0011, and a request the table lacks with a code it does not give (a free value); the watchdog returns OP to SAFEOP with 0x001B. Going to INIT
empties the mailbox and resets the CoE path. No other block changes. That a request of the present state only reports it, and that acceptance clears the code, is the
model's choice (log 13, log 48). R670, R717, R719-R721, R724: an exchange of outputs asserts local source 19 of every core and, in OP, writes the mapped PDO_OUT
entries; a sample of inputs sends the mapped entries as they read; the first write of the system time offset starts the clock; SYNC1 makes a chill where CHILL_CFG
selects it; a mailbox of another type is answered with error 0x0002, and an emptied mailbox takes the oldest waiting Emergency. Commands it says complete:
alRequestInit, alRequestPreop, alRequestSafeop, alRequestOp, alRequestBoot, sm2Watchdog, mailboxUnsupported, rxpdoExchange, txpdoSample, dcOffsetWrite, sync1Event,
ecatLinkChange, mailboxInRead. -/
def Obligations.EtherCatStatesAndData : Prop :=
  (∀ (s : State), s.power.released = true →
    let reported (t : State) : Prop := t.out = s.out ++ [.alStatus t.ecat.al t.ecat.alStatus]
    let reachedState (st : AlSt) (t : State) : Prop := t.ecat.al = st ∧ t.ecat.alStatus = 0 ∧ reported t ∧ t = { s with ecat := t.ecat, dict := t.dict, out := t.out }
    let same (t : State) : Prop := t.ecat = s.ecat ∧ reported t ∧ t = { s with out := t.out }
    let refusedWith (code : BitVec 16) (t : State) : Prop := t.ecat = { s.ecat with alStatus := code } ∧ reported t ∧ t = { s with ecat := t.ecat, out := t.out }
    let refusedFree (t : State) : Prop :=
      t.ecat = { s.ecat with alStatus := t.ecat.alStatus } ∧ reported t ∧ t = { s with ecat := t.ecat, out := t.out, fresh := t.fresh }
    (s.ecat.al = .init → Answers .alRequestInit s same) ∧
    (s.ecat.al ≠ .init → Answers .alRequestInit s (fun t => t.ecat.al = .init ∧ t.ecat.alStatus = 0 ∧ reported t ∧ t.ecat.mailFull = false ∧ t.ecat.mails = [] ∧
      (t.path 0x7F).challenge = none ∧ (t.path 0x7F).segment = none ∧
      ((s.session (s.path 0x7F).session).isOpen = true → (s.session (s.path 0x7F).session).path = 0x7F →
        (t.session (s.path 0x7F).session).isOpen = false ∧ (t.path 0x7F).session = 0) ∧
      t = { s with ecat := t.ecat, dict := t.dict, chill := t.chill, out := t.out })) ∧
    (∀ a la b lb,
      let inside (st len : Nat) : Prop := 0x1000 ≤ st ∧ 0 < len ∧ st + len ≤ 0x5000
      (s.ecat.al = .init → inside a la → inside b lb → Answers (.alRequestPreop a la b lb) s (fun t => reachedState .preop t ∧
        Tab.get 0 t.ecat.smStart 0 = a ∧ Tab.get 0 t.ecat.smLen 0 = la ∧ Tab.get 0 t.ecat.smStart 1 = b ∧ Tab.get 0 t.ecat.smLen 1 = lb)) ∧
      (s.ecat.al = .init → ¬(inside a la ∧ inside b lb) → Answers (.alRequestPreop a la b lb) s refusedFree) ∧
      (s.ecat.al = .safeop ∨ s.ecat.al = .op → Answers (.alRequestPreop a la b lb) s (fun t => reachedState .preop t ∧ t.ecat.outputsValid = false ∧ t.dict = s.dict)) ∧
      (s.ecat.al = .preop → Answers (.alRequestPreop a la b lb) s same) ∧
      (s.ecat.al = .boot → Answers (.alRequestPreop a la b lb) s refusedFree) ∧
      (s.ecat.al = .preop → la = mappedLength s 0x1C12 → lb = mappedLength s 0x1C13 → Answers (.alRequestSafeop a la b lb) s (fun t => reachedState .safeop t ∧
        Tab.getList 0 t.ecat.ram b lb = pdoSample s)) ∧
      (s.ecat.al = .preop → la ≠ mappedLength s 0x1C12 → Answers (.alRequestSafeop a la b lb) s (refusedWith 0x001D#16)) ∧
      (s.ecat.al = .preop → la = mappedLength s 0x1C12 → lb ≠ mappedLength s 0x1C13 → Answers (.alRequestSafeop a la b lb) s (refusedWith 0x001E#16)) ∧
      (s.ecat.al = .safeop → Answers (.alRequestSafeop a la b lb) s same) ∧
      (s.ecat.al = .init ∨ s.ecat.al = .op ∨ s.ecat.al = .boot → Answers (.alRequestSafeop a la b lb) s refusedFree)) ∧
    (s.ecat.al = .safeop → s.ecat.outputsValid = true → Answers .alRequestOp s (reachedState .op)) ∧
    (s.ecat.al = .safeop → s.ecat.outputsValid = false → Answers .alRequestOp s refusedFree) ∧
    (s.ecat.al = .op → Answers .alRequestOp s same) ∧
    (s.ecat.al = .init ∨ s.ecat.al = .preop ∨ s.ecat.al = .boot → Answers .alRequestOp s refusedFree) ∧
    (s.ecat.al = .init → s.loader.released = false → Answers .alRequestBoot s (reachedState .boot)) ∧
    (s.ecat.al = .init → s.loader.released = true → Answers .alRequestBoot s (refusedWith 0x0011#16)) ∧
    (s.ecat.al = .boot → Answers .alRequestBoot s same) ∧
    (s.ecat.al ≠ .init → s.ecat.al ≠ .boot → Answers .alRequestBoot s refusedFree) ∧
    (s.ecat.al = .op → Answers .sm2Watchdog s (fun t => t.ecat = { s.ecat with al := .safeop, alStatus := 0x001B#16, outputsValid := false } ∧ reported t ∧
      t = { s with ecat := t.ecat, out := t.out }))) ∧
  ((∀ (s : State) (bs : List Byte), (s.ecat.al = .safeop ∨ s.ecat.al = .op) → bs.length = mappedLength s 0x1C12 → s.dict.arriving = [] →
    Answers (.rxpdoExchange bs false) s (fun t =>
    t.pdoIrq = 0xFF ∧ t.ecat = { s.ecat with outputsValid := true, ram := t.ecat.ram } ∧
    (s.ecat.al = .safeop ∨ s.dict.stopped = true → t.dict = s.dict) ∧
    (s.ecat.al = .op → s.dict.stopped = false → ∀ pre post sub, mappedEntries s 0x1C12 = pre ++ (0x6000, sub, 32) :: post → (∀ e ∈ post, e.2.1 ≠ sub) →
      t.settingN 0x6000 sub = bytesValue ((bs.drop (pre.foldl (fun n e => n + e.2.2 / 8) 0)).take 4)) ∧
    (∀ o i j, i ≠ 0x6000 → i < 65536 → j < 256 → t.settingOf o i j = s.settingOf o i j) ∧
    t = { s with ecat := t.ecat, dict := { s.dict with settings := t.dict.settings }, pdoIrq := 0xFF })) ∧
  (∀ (s : State) (bs : List Byte), exec (.rxpdoExchange bs true) s = .next (s.setArriving (insertAccess (.outputs bs) s.dict.arriving))) ∧
  (∀ (s : State), (s.ecat.al = .safeop ∨ s.ecat.al = .op) → Answers .txpdoSample s (fun t =>
    let bs := (mappedEntries s 0x1C13).flatMap (fun e => valueBytes (e.2.2 / 8) (readEntry s 0x7E e.1 e.2.1))
    t.out = s.out ++ [.txPdo bs] ∧ Tab.getList 0 t.ecat.ram (Tab.get 0 s.ecat.smStart 3) bs.length = bs ∧ t = { s with ecat := { s.ecat with ram := t.ecat.ram }, out := t.out })) ∧
  (∀ (s : State) (x : DWord), s.power.released = true → Answers (.dcOffsetWrite x) s (fun t => t = { s with dcRunning := true, dcTime := x, dcQuarter := 0 })) ∧
  (∀ (s : State), s.dcRunning = true → s.settingN 0x2300 3 / 2 ^ 26 % 2 = 1 → Answers .sync1Event s (fun t =>
    t = { s with chill := { s.chill with due := s.chill.due ||| 8 } })) ∧
  (∀ (s : State) (ty : Nat), s.ecat.al ≠ .init → ty ≠ 3 → Answers (.mailboxUnsupported ty) s (fun t => t = { s with out := s.out ++ [.mailboxError 2] })) ∧
  (∀ (s : State), s.ecat.al ≠ .init → s.ecat.mailFull = true → Answers .mailboxInRead s (fun t =>
    (s.ecat.mails = [] → t = { s with ecat := { s.ecat with mailFull := false } }) ∧
    (∀ m rest, s.ecat.mails = m :: rest → t = { s with ecat := { s.ecat with mails := rest }, out := s.out ++ [.emergency m] }))) ∧
  (∀ (s : State) (k : Nat) (up : Bool), k < 2 → s.power.released = true → Answers (.ecatLinkChange k up) s (fun t =>
    t.ecat.links.getLsbD k = up ∧ t.ecat.links.getLsbD (1 - k) = s.ecat.links.getLsbD (1 - k) ∧ t = { s with ecat := { s.ecat with links := t.ecat.links } })))

/-! ### Clocks, power, resets and Hold -/

namespace Sys2Proof.Machine

/-- A core reset has passed with its cause (R760, R761, R763): every gated domain is off, the core domain starts again if it can, the blocks outside management hold nothing, and management's own blocks
and the pins stand as they did. -/
def CoreWasReset (s t : State) (cause : Nat) : Prop :=
  t.power.coreCause = BitVec.ofNat 4 cause ∧ t.power.coreResets = s.power.coreResets + 1 ∧
  (∀ d, d < 87 → (t.dom d).st = .off) ∧ (t.dom 87).st = (if t.power.good1 && t.power.pllLocked then .ramping else .off) ∧
  t.flasks = [] ∧ t.crus = [] ∧ t.cores = [] ∧ t.sram = [] ∧ t.tun = .reset ∧ t.cup = .reset ∧ t.villet = .reset ∧ t.recasts = [] ∧ t.lmap = [] ∧
  t.loader.released = false ∧ t.loader.st = .idle ∧ (s.loader.saving = none → t.loader.slots = s.loader.slots) ∧
  t.ecat = s.ecat ∧ t.pins = s.pins ∧ t.dict.keys = s.dict.keys ∧ t.chill.ring = s.chill.ring ∧ t.power.mgmtResets = s.power.mgmtResets

/-- A management reset has passed with its cause (R760, R762, R763). -/
def ManagementWasReset (s t : State) (cause : Nat) : Prop :=
  t.power = { s.power with mgmtCause := BitVec.ofNat 4 cause, mgmtResets := s.power.mgmtResets + 1 } ∧
  t.dict.stopped = false ∧ t.dict.sessions = [] ∧ (∀ k, (t.key k).key = (s.key k).key ∧ (t.key k).level = (s.key k).level ∧ (t.key k).data = []) ∧
  t.chill = .reset ∧ t.ecat = { Ecat.reset with sii := s.ecat.sii, links := s.ecat.links } ∧ t.dcRunning = false ∧
  t.loader.st = .idle ∧ t.loader.session = none ∧ t.loader.released = s.loader.released ∧
  t = { s with power := t.power, dict := t.dict, net := t.net, chill := t.chill, loader := t.loader, ecat := t.ecat, dcRunning := t.dcRunning, dcTime := t.dcTime,
               dcQuarter := t.dcQuarter, out := t.out }

end Sys2Proof.Machine

/-- R747-R752, R767-R769: the release of the power-on reset samples the straps; lock starts the core domain, or a core reset after a loss, which logs 0x4C01; PWRGOOD[1] or
[2] falling logs 0x4C03 and takes its domains' power, PWRGOOD[0] is the power-on reset, after which what is non-volatile stands; a rise lets waiting domains ramp; a hot
sample throttles with 0x1C02 until 5 °C below TJ_THROTTLE, and one of 125 °C logs 0x4C02 and makes the emergency Hold. That 0x4C03 names domain 87 or 72, and 0x4C01,
0x1C02 and 0x4C02 name 88, is the model's choice (log 41). Commands it says complete: powerOnResetRelease, pllLock, pllLockLoss, pwrgoodFall, thermSample, pwrgoodRise. -/
def Obligations.ClocksSuppliesAndHeat : Prop :=
  (∀ (s : State) (b : BitVec 2) (m k : Bool), s.power.released = false → Answers (.powerOnResetRelease b m k) s (fun t =>
    t = { s with power := { s.power with released := true, good0 := true, bootSel := b, scpMode := m, keylockN := k, dimmPwren := 0xFF } })) ∧
  (∀ (s : State) (und : List Nat), s.power.released = true → s.power.pllLocked = false →
    (s.power.backupOsc = false → s.power.good1 = true → (s.dom 87).st = .off → Answers (.pllLock und) s (fun t =>
      (t.dom 87).st = .ramping ∧ (∀ d, d ≠ 87 → t.dom d = s.dom d) ∧ t = { s with power := { s.power with pllLocked := true, doms := t.power.doms } })) ∧
    (s.power.backupOsc = true → s.power.hold = .running → Answers (.pllLock und) s (fun t => CoreWasReset s t 2 ∧ t.power.pllLocked = true ∧ t.power.backupOsc = false))) ∧
  (∀ (s : State), s.power.pllLocked = true → Answers .pllLockLoss s (fun t =>
    Reports s t 0x4C01 0x11 88 ∧ t = { s with power := { s.power with pllLocked := false, backupOsc := true, pllLosses := s.power.pllLosses + 1 }, chill := t.chill })) ∧
  (∀ (s : State), s.power.released = true → (s.power.hold = .running ∨ s.power.hold = .exiting) →
    (s.power.pllLocked = true → (s.dom 87).st = .off → Answers (.pwrgoodRise 1) s (fun t => t.power.good1 = true ∧ (t.dom 87).st = .ramping)) ∧
    (s.power.good1 = true → Answers (.pwrgoodRise 2) s (fun t => t.power.good2 = true ∧
      (∀ d, d < 87 → s.power.wanted.getLsbD d = true → ((s.dom d).st = .off ∨ (s.dom d).st = .failed) → (t.dom d).st = .ramping) ∧
      (∀ d, d < 87 → s.power.wanted.getLsbD d = false → t.dom d = s.dom d)))) ∧
  (∀ (s : State) (und : List Nat),
    Answers (.pwrgoodFall 0 und) s (fun t => t.power = { PowerState.reset with good1 := s.power.good1, good2 := s.power.good2 } ∧ t.flasks = [] ∧ t.tun = .reset ∧ t.net = .reset ∧
      t.chill = .reset ∧ t.loader.slots = s.loader.slots ∧ t.loader.bootCopies = s.loader.bootCopies ∧ t.loader.released = false ∧ t.dict.sessions = [] ∧
      (Tab.wf KeySlot.reset s.dict.keys = true → ∀ k, t.key k = { s.key k with data := [] }) ∧ t.out = s.out) ∧
    (s.power.released = true → s.power.good1 = true → s.power.hold = .running → Answers (.pwrgoodFall 1 und) s (fun t =>
      CoreWasReset s t 3 ∧ t.power.good1 = false ∧ Reports s t 0x4C03 0x11 87)) ∧
    (s.power.released = true → s.power.good2 = true → Answers (.pwrgoodFall 2 und) s (fun t => t.power.good2 = false ∧ Reports s t 0x4C03 0x11 72 ∧
      (∀ d, 72 ≤ d → d < 86 → ((s.dom d).st = .failed → (t.dom d).st = .failed) ∧ ((s.dom d).st ≠ .failed → (t.dom d).st = .off)) ∧
      (∀ d, d < 72 ∨ 86 ≤ d → t.dom d = s.dom d)))) ∧
  (∀ (s : State) (x : BitVec 16), s.power.released = true → Answers (.thermSample x) s (fun t =>
    let lim : Int := 16 * (s.settingN 0x2140 3 : Int)
    t.power.thermHot = x ∧ t.power.tjPeak.toInt = max s.power.tjPeak.toInt x.toInt ∧
    (t.power.throttling = true ↔ lim ≤ x.toInt ∨ (s.power.throttling = true ∧ lim - 80 < x.toInt)) ∧
    (s.power.throttling = false → lim ≤ x.toInt → Reports s t 0x1C02 0x11 88) ∧
    (x.toInt < 2000 ∨ s.power.hold = .held → t = { s with power := t.power, chill := t.chill } ∧ t.power.doms = s.power.doms ∧ t.power.hold = s.power.hold) ∧
    (2000 ≤ x.toInt → s.power.hold ≠ .held → t.power.hold = .held ∧ t.power.holdEmergency = true ∧ t.flasks = [] ∧ t.cores = [] ∧
      (s.power.throttling = true → Reports s t 0x4C02 0x11 88))))

/-- R753-R757: a domain off or failed starts to ramp on PWR_CMD ON where its supplies are good; its switch closes only 5 µs after the last one; settled it is ON with its
block in reset and its ports opening, or after 20 µs FAILED with 0x3C01; PWR_CMD OFF closes the ports toward a domain whose block is at rest, and with them closed its
power goes, contents with it; with the core domain's, Hold is reached. Commands it says complete: pwrCmdOn, pwrCmdOff, domainSwitchGrant, domainSettled,
domainRampTimeout, domainPowerOff. -/
def Obligations.PowerDomainsMove : Prop :=
  (∀ (s : State) (path d : Nat), Admitted s path 0x2111 1 2 → (s.path path).held = none →
    (86 < d → Answers (.pwrCmdOn path d) s (fun t => Refused s t path 0x2111 1 0x06090031#32) ∧ Answers (.pwrCmdOff path d) s (fun t => Refused s t path 0x2111 1 0x06090031#32)) ∧
    (d ≤ 86 → s.power.hold = .running → supplied s d = true → ((s.dom d).st = .off ∨ (s.dom d).st = .failed) → Answers (.pwrCmdOn path d) s (fun t =>
      t.dom d = { s.dom d with st := .ramping, granted := false } ∧ (∀ e, e ≠ d → t.dom e = s.dom e) ∧ OnlyAnswered s t)) ∧
    (d ≤ 86 → (s.power.hold ≠ .running ∨ supplied s d = false ∨ ((s.dom d).st ≠ .off ∧ (s.dom d).st ≠ .failed)) → Answers (.pwrCmdOn path d) s (fun t =>
      Refused s t path 0x2111 1 0x08000022#32 ∧ t.power = s.power)) ∧
    (d ≤ 86 → s.power.hold = .running → (s.dom d).st = .on → atRest s d = true → Answers (.pwrCmdOff path d) s (fun t =>
      t.dom d = { s.dom d with st := .closing } ∧ (∀ e, e ≠ d → t.dom e = s.dom e) ∧ (∀ p ∈ domainPorts d, s.port p.1 p.2 = .opened → t.port p.1 p.2 = .closing) ∧
      t.flasks = s.flasks ∧ t.villet = s.villet ∧ t.catch' = s.catch')) ∧
    (d ≤ 86 → (s.power.hold ≠ .running ∨ (s.dom d).st ≠ .on ∨ atRest s d = false) → Answers (.pwrCmdOff path d) s (fun t =>
      Refused s t path 0x2111 1 0x08000022#32 ∧ t.power = s.power))) ∧
  (∀ (s : State) (d : Nat), (s.dom d).st = .ramping → (s.dom d).granted = false → s.loader.released = true →
    ((s.power.lastGrant = none ∨ ∃ x, s.power.lastGrant = some x ∧ 800 ≤ (s.power.pour - x).toNat) → Answers (.domainSwitchGrant d) s (fun t =>
      t.dom d = { s.dom d with granted := true } ∧ (∀ e, e ≠ d → t.dom e = s.dom e) ∧ t.power.lastGrant = some s.power.pour ∧ t = { s with power := t.power })) ∧
    (∀ x, s.power.lastGrant = some x → (s.power.pour - x).toNat < 800 → exec (.domainSwitchGrant d) s = .next s)) ∧
  (∀ (s : State) (d : Nat), (s.dom d).st = .ramping → (s.dom d).granted = true →
    Answers (.domainRampTimeout d) s (fun t => t.dom d = { s.dom d with st := .failed, granted := false } ∧ (∀ e, e ≠ d → t.dom e = s.dom e) ∧
      t.power.rampFails = s.power.rampFails + 1 ∧ Reports s t 0x3C01 0x11 d ∧ t = { s with power := t.power, chill := t.chill }) ∧
    Answers (.domainSettled d) s (fun t => (t.dom d).st = .on ∧ (∀ e, e ≠ d → t.dom e = s.dom e) ∧
      (t.dom d).powerUps = (if (s.dom d).powerUps = 0xFFFF then 0xFFFF else (s.dom d).powerUps + 1) ∧
      (d < 86 → ∀ p ∈ domainPorts d, s.port p.1 p.2 = .closed → t.port p.1 p.2 = .opening) ∧
      (d < 72 → (t.flask d).role = (if (s.flask d).role = .retired ∨ (s.flask d).role = .stopped then (s.flask d).role else .spareIdle)) ∧
      (72 ≤ d → d < 78 → (t.vport (d - 72)).st = .disabled ∧ (t.vport (d - 72)).epoch ≠ 0) ∧
      (d = 86 → s.loader.released = true → ∀ c, c < 8 → (t.core c).st = .halted))) ∧
  (∀ (s : State) (d : Nat), (s.dom d).st = .closing →
    (d < 87 → (∀ p ∈ domainPorts d, s.port p.1 p.2 = .closed) → Answers (.domainPowerOff d) s (fun t => (t.dom d).st = .off ∧ (∀ e, e ≠ d → t.dom e = s.dom e) ∧
      (d < 72 → (t.flask d).slots = [] ∧ (t.flask d).bm0 = [] ∧ t.cru d = .reset ∧ (∀ q, q ≠ d → t.flask q = s.flask q) ∧
        (t.flask d).role = (if (s.flask d).role = .retired ∨ (s.flask d).role = .stopped then (s.flask d).role else .off)) ∧
      (72 ≤ d → d < 78 → t.vport (d - 72) = .reset) ∧ (d = 86 → t.cores = [] ∧ t.sram = []) ∧ t.power.hold = s.power.hold)) ∧
    (d = 87 → (∀ e, e < 87 → (s.dom e).st = .off ∨ (s.dom e).st = .failed ∨ (s.dom e).holdRet = true) → Answers (.domainPowerOff 87) s (fun t =>
      (t.dom 87).st = .off ∧ t.power.hold = .held ∧ t.tun = .reset ∧ t.loader.released = false)))

/-- R760-R766, R465: RST_CMD CORE and MGMT reset what their rows name and record their causes; an agent that has stopped is reset by itself. Hold is entered only where R764
allows it and left by EXIT only when the device is not hot; on exit the ranks have power for DIMM_PWR_WAIT before the channels that were held return. That an operand
says which drains were cut short is the model's choice (log 41). Commands it says complete: rstCmdCore, rstCmdMgmt, mgmtAutoReset, holdCmdEnter, holdCmdExit,
dimmPwrWaitExpiry. -/
def Obligations.ResetsAndHold : Prop :=
  (∀ (s : State) (path : Nat) (und : List Nat), Admitted s path 0x2120 1 2 → (s.path path).held = none →
    (s.power.hold = .running → Answers (.rstCmdCore path und) s (fun t => CoreWasReset s t 1 ∧ t.power.hold = .running)) ∧
    (s.power.hold = .held → Answers (.rstCmdCore path und) s (fun t => CoreWasReset s t 1 ∧ t.power.hold = .exiting)) ∧
    (Tab.wf KeySlot.reset s.dict.keys = true → Answers (.rstCmdMgmt path) s (fun t => ManagementWasReset s t 1))) ∧
  (∀ (s : State), s.dict.stopped = true → Tab.wf KeySlot.reset s.dict.keys = true → Answers .mgmtAutoReset s (fun t => ManagementWasReset s t 2)) ∧
  (∀ (s : State) (path : Nat), Admitted s path 0x2130 1 2 → (s.path path).held = none →
    (holdAllowed s = true → Answers (.holdCmdEnter path) s (fun t => t.power.hold = .entering ∧ t.power.holdEmergency = false ∧
      (∀ n, n < 8 → (t.chan n).held = true ∧ (t.chan n).wasOnline = decide ((s.chan n).st = .online)) ∧ (∀ n, n < 6 → (t.vport n).st = .disabled) ∧
      (∀ d, d < 72 → (s.dom d).st = .on → (t.dom d).st = .closing))) ∧
    ((s.power.hold ≠ .running ∨ (∃ n, n < 6 ∧ anyLive s n = true) ∨ (∃ e ∈ s.dict.sessions, e.2.txSt = .committing) ∨ s.loader.st ≠ .idle ∨ s.evacuating = true ∨
        s.catch'.zeroBusy = true ∨ (∃ y, y < 8 ∧ s.recasting y = true) ∨ (∃ n, n < 8 ∧ ((s.chan n).st = .gathering ∨ (s.chan n).st = .draining))) →
      Answers (.holdCmdEnter path) s (fun t => Refused s t path 0x2130 1 0x08000022#32 ∧ t.power = s.power ∧ t.catch' = s.catch')) ∧
    (s.power.hold = .held → s.power.thermHot.toInt < 16 * (s.settingN 0x2140 3 : Int) → s.power.pllLocked = true → s.power.good1 = true → (s.dom 87).st = .off →
      Tab.wf Dom.reset s.power.doms = true → Answers (.holdCmdExit path) s (fun t => t.power.hold = .exiting ∧ t.power.dimmPwren = 0xFF ∧ t.power.dimmWait = true ∧ (t.dom 87).st = .ramping ∧ t.catch' = s.catch')) ∧
    (s.power.hold ≠ .held ∨ 16 * (s.settingN 0x2140 3 : Int) ≤ s.power.thermHot.toInt →
      Answers (.holdCmdExit path) s (fun t => Refused s t path 0x2130 1 0x08000022#32 ∧ t.power = s.power))) ∧
  (∀ (s : State), s.power.dimmWait = true → Answers .dimmPwrWaitExpiry s (fun t => t.power = { s.power with dimmWait := false } ∧
    (s.loader.released = true → ∀ n, n < 8 → (s.chan n).held = true → (t.chan n).held = false) ∧
    (s.loader.released = false → ∀ n, n < 8 → (t.chan n).held = (s.chan n).held ∧ (t.chan n).st = (s.chan n).st)))

/-! ### The whole machine -/

/-- One step takes the command that has waited longest and runs it with the rest of the queue (log 3). -/
def Obligations.StepRunsFrontCommand : Prop :=
  ∀ (s : State) (c : Instr) (rest : List Instr), step { s with pending := c :: rest } = exec c { s with pending := rest }

/-- R668, R721, R733, R738, R748: with no command waiting a pour tick passes: POUR_COUNT steps while the PLL is locked, a chill that is due is taken, the distributed clock
advances by 6.25 ns while it runs, a pin's changeover ends and CLK_MGT's half toggles; the dictionary, the flasks, the crucibles, the heats, catch memory and the loader
stand as they did, and with the core domain off so do its queues, Cupola and the ladle. That the empty queue stands for a pour tick is the model's choice (log 3). -/
def Obligations.EmptyQueuePassesPourTick : Prop :=
  ∀ (s : State), s.pending = [] → ∃ t, step s = .next t ∧ t.pending = [] ∧
    t.power = { s.power with pour := if s.power.pllLocked then s.power.pour + 1 else s.power.pour } ∧
    (s.dcRunning = true → s.dcQuarter < 4 → (4 * t.dcTime.toNat + t.dcQuarter) % 2 ^ 66 = (4 * s.dcTime.toNat + s.dcQuarter + 25) % 2 ^ 66 ∧ t.dcQuarter < 4) ∧
    (s.dcRunning = false → t.dcTime = s.dcTime) ∧ t.pins = { s.pins with switching := 0, half := !s.pins.half, kept := t.pins.kept, probe := t.pins.probe } ∧
    (s.power.pllLocked = true → chillCauses s ≠ 0 → t.chill.due = 0 ∧ (t.chill.count = s.chill.count + 1 ∨ t.chill.missed = s.chill.missed + 1)) ∧
    (s.power.pllLocked = false ∨ chillCauses s = 0 → t.chill = { s.chill with settled := s.chill.intake.length } ∧ t.pcie = s.pcie) ∧
    t.dict = s.dict ∧ t.flasks = s.flasks ∧ t.crus = s.crus ∧ t.villet.heats = s.villet.heats ∧ t.catch' = s.catch' ∧ t.dram = s.dram ∧ t.sram = s.sram ∧ t.loader = s.loader ∧
    t.ecat = s.ecat ∧ (s.domOn 87 = false → t.net = s.net ∧ t.tun = s.tun ∧ t.cup = s.cup ∧ t.cores = s.cores)

/-- R141, R616, R623, R681, R722, R751, R757, R771: before the release of the power-on reset every gated domain is OFF, no image is released, the recast map is the
identity, the log's first SEQ is 1, the EtherCAT slave is in INIT, no pin has an owner, and stored entries hold their defaults. -/
def Obligations.ResetLeavesStatedValues : Prop :=
  State.reset.power.released = false ∧ State.reset.power.pour = 0 ∧ (∀ d, (State.reset.dom d).st = .off) ∧ (∀ p, (State.reset.flask p).role = .off) ∧
  (∀ k, State.reset.physOf k = 9 * (k / 8) + k % 8) ∧ State.reset.loader.released = false ∧ State.reset.chill.head = 1 ∧ State.reset.chill.count = 0 ∧
  State.reset.ecat.al = .init ∧ (∀ n, Tab.get 0 State.reset.pins.owner n = 0) ∧ (∀ n, State.reset.bankUp n = false) ∧ State.reset.pending = [] ∧
  (∀ e ∈ [(0x2018, 1, 60), (0x2018, 2, 1000), (0x2140, 3, 105), (0x2140, 4, 4), (0x2200, 7, 1000), (0x2411, 1, 16), (0x3010, 2, 1000), (0x3300, 2, 10)],
    State.reset.settingN e.1 e.2.1 = e.2.2)

/-- Every command goes on, whatever the state and its operands, with the rest of the queue as it was: the spec gives the block no command that stops it. -/
def Obligations.EveryCommandGoesOn : Prop :=
  ∀ (c : Instr) (s : State), ∃ t, exec c s = .next t ∧ t.pending = s.pending

/-- Whatever step is taken, what the machine holds sparsely stays in its canonical form, the log keeps at most 64 errors at intake and 256 entries (R680, R681), and at most
16 Emergency messages wait (R720). -/
def Obligations.EveryStepKeepsInvariant : Prop :=
  ∀ (s t : State), Inv s → step s = .next t → Inv t

/-- The machine after reset has the invariant that every step keeps. -/
def Obligations.ResetHasInvariant : Prop :=
 Inv State.reset

/-- R756: a domain's switch closes only by its grant, at least 5 µs (800 pour ticks) after the last one closed, and the time it closes is kept until the next closes or the
power-on reset. -/
def Obligations.SwitchesCloseFiveMicrosecondsApart : Prop :=
  ∀ (c : Instr) (s t : State), Tab.wf Dom.reset s.power.doms = true → exec c s = .next t →
    (∀ d, (s.dom d).granted = false → (t.dom d).granted = true →
      c = .domainSwitchGrant d ∧ (∀ x, s.power.lastGrant = some x → 800 ≤ (s.power.pour - x).toNat) ∧ t.power.lastGrant = some s.power.pour ∧
      (∀ e, e ≠ d → t.dom e = s.dom e)) ∧
    ((∀ d, (s.dom d).granted = (t.dom d).granted) → t.power.lastGrant = s.power.lastGrant ∨ ∃ u, c = .pwrgoodFall 0 u)

/-- R646: no read of the dictionary shows a key: two machines that differ only in the words of a key slot answer every read alike. -/
def Obligations.ReadsNeverShowKeys : Prop :=
  ∀ (s : State) (k path idx sub : Nat) (ws : List Word) (wide more : Bool) (room : Nat) (f : SdoForm) (e : Ecc) (ev : DictEv),
    let s2 := s.modKey k (fun x => { x with key := ws })
    (∃ t t2, exec (.mirrorRead path idx sub wide e ev more) s = .next t ∧ exec (.mirrorRead path idx sub wide e ev more) s2 = .next t2 ∧ t2.out = t.out ∧ t2.net = t.net) ∧
    (∃ t t2, exec (.sdoUpload idx sub room f e ev) s = .next t ∧ exec (.sdoUpload idx sub room f e ev) s2 = .next t2 ∧ t2.out = t.out)

/-- R696: under QUIET an error of class 1 is counted in CLASS1_COUNT and is not written to the log. Commands it says complete: logEntryWrite. -/
def Obligations.QuietErrorsAreCountedOnly : Prop :=
  ∀ (s : State) (e : ErrRep), e.code / 4096 = 1 → (s.policy e.code).getLsbD 30 = true →
    (report e s).chill.class1 = s.chill.class1 + 1 ∧
    (∀ rest, s.chill.intake = e :: rest → Answers .logEntryWrite s (fun t =>
      t.chill.ring = s.chill.ring ∧ t.chill.head = s.chill.head ∧ (polAction (s.policy e.code) = 0 → s.chill.unlogged = [] → t.chill.class1 = s.chill.class1)))

/-- R745: an I2C transfer that finds SCL or SDA held low for 25 ms ends with RESULT STUCK and logs error 0x3B02. Commands it says complete: i2cStuck. -/
def Obligations.StuckI2cTransferEnds : Prop :=
  ∀ (s : State) (n : Nat), n < 4 → (s.periph n).busy = true → Answers (.i2cStuck n) s (fun t =>
    (t.periph n).busy = false ∧ (t.periph n).result = 3 ∧ Reports s t 0x3B02 0x10 ((wantedPins s n).headD 0) ∧ (∀ i, i ≠ n → t.periph i = s.periph i) ∧
    t = { s with pins := t.pins, chill := t.chill })
end

