-- ==== Sys2Proof/Laws/Tab.lean ====
section
/-! SUPPORT. Laws of sparse tables: what a write leaves at its key and at the others, and that every operation keeps the canonical form. -/

namespace Sys2Proof.Machine

variable {α : Type}

@[simp] theorem Tab.get_nil (d : α) (k : Nat) : Tab.get d [] k = d := rfl

theorem Tab.get_insert_same (d v : α) : ∀ (t : Tab α) (k : Nat), Tab.get d (Tab.insert t k v) k = v
  | [], k => by simp [Tab.insert, Tab.get]
  | (k', v') :: t, k => by
    unfold Tab.insert
    split
    · simp [Tab.get]
    · split
      · simp [Tab.get]
      · simp [Tab.get, *, Tab.get_insert_same d v t k]

theorem Tab.get_insert_ne (d v : α) : ∀ (t : Tab α) (k j : Nat), j ≠ k → Tab.get d (Tab.insert t k v) j = Tab.get d t j
  | [], k, j, h => by simp [Tab.insert, Tab.get, h]
  | (k', v') :: t, k, j, h => by
    unfold Tab.insert
    split
    · simp [Tab.get, h]
    · split
      · rename_i e; subst e; simp [Tab.get, h]
      · simp [Tab.get, Tab.get_insert_ne d v t k j h]

theorem Tab.get_erase_ne (d : α) : ∀ (t : Tab α) (k j : Nat), j ≠ k → Tab.get d (Tab.erase t k) j = Tab.get d t j
  | [], _, _, _ => rfl
  | (k', v') :: t, k, j, h => by
    unfold Tab.erase
    split
    · rename_i e; subst e; simp [Tab.get, h, Tab.get_erase_ne d t k j h]
    · simp [Tab.get, Tab.get_erase_ne d t k j h]

/-- Every key of the table is above `n`. -/
def Tab.above (n : Nat) (t : Tab α) : Prop := ∀ e ∈ t, n < e.1

theorem Tab.get_erase_same (d : α) : ∀ (t : Tab α) (k : Nat), Tab.get d (Tab.erase t k) k = d
  | [], _ => rfl
  | (k', v') :: t, k => by
    unfold Tab.erase
    split
    · exact Tab.get_erase_same d t k
    · rename_i hne; simp [Tab.get, hne, Tab.get_erase_same d t k]

theorem Tab.get_above (d : α) : ∀ (t : Tab α) (k : Nat), Tab.above k t → Tab.get d t k = d
  | [], _, _ => rfl
  | (k', v') :: t, k, h => by
    have h0 : k < k' := h (k', v') (by simp)
    have h1 : Tab.above k t := fun e he => h e (by simp [he])
    simp [Tab.get, Nat.ne_of_lt h0, Tab.get_above d t k h1]

theorem Tab.above_insert (v : α) (n : Nat) : ∀ (t : Tab α) (k : Nat), n < k → Tab.above n t → Tab.above n (Tab.insert t k v)
  | [], k, hk, _ => by simpa [Tab.insert, Tab.above] using hk
  | (k', v') :: t, k, hk, h => by
    have h0 : n < k' := h (k', v') (by simp)
    have h1 : Tab.above n t := fun e he => h e (by simp [he])
    unfold Tab.insert
    split
    · intro e he; rcases List.mem_cons.1 he with rfl | he
      · exact hk
      · exact h e he
    · split
      · intro e he; rcases List.mem_cons.1 he with rfl | he
        · exact hk
        · exact h1 e he
      · intro e he; rcases List.mem_cons.1 he with rfl | he
        · exact h0
        · exact Tab.above_insert v n t k hk h1 e he

theorem Tab.above_erase (n : Nat) : ∀ (t : Tab α) (k : Nat), Tab.above n t → Tab.above n (Tab.erase t k)
  | [], _, h => h
  | (k', v') :: t, k, h => by
    have h1 : Tab.above n t := fun e he => h e (by simp [he])
    unfold Tab.erase
    split
    · exact Tab.above_erase n t k h1
    · intro e he; rcases List.mem_cons.1 he with rfl | he
      · exact h (k', v') (by simp)
      · exact Tab.above_erase n t k h1 e he

variable [DecidableEq α]

/-- The canonical form, head and rest. -/
theorem Tab.wf_cons (d v : α) (k : Nat) (t : Tab α) : Tab.wf d ((k, v) :: t) = true ↔ v ≠ d ∧ Tab.above k t ∧ Tab.wf d t = true := by
  induction t generalizing k v with
  | nil => simp [Tab.wf, Tab.above]
  | cons e t ih =>
    obtain ⟨k', v'⟩ := e
    simp only [Tab.wf, Bool.and_eq_true, decide_eq_true_eq, Tab.above, List.mem_cons, forall_eq_or_imp]
    constructor
    · rintro ⟨⟨h0, h1⟩, h2⟩
      refine ⟨h0, ⟨h1, ?_⟩, h2⟩
      intro e he
      exact lt_trans h1 (((ih v' k').1 h2).2.1 e he)
    · rintro ⟨h0, ⟨h1, _⟩, h2⟩
      exact ⟨⟨h0, h1⟩, h2⟩

@[simp] theorem Tab.wf_nil (d : α) : Tab.wf d [] = true := rfl

theorem Tab.wf_insert (d v : α) (hv : v ≠ d) : ∀ (t : Tab α) (k : Nat), Tab.wf d t = true → Tab.wf d (Tab.insert t k v) = true
  | [], k, _ => by simpa [Tab.insert, Tab.wf] using hv
  | (k', v') :: t, k, h => by
    obtain ⟨h0, h1, h2⟩ := (Tab.wf_cons d v' k' t).1 h
    unfold Tab.insert
    split
    · rename_i hk
      refine (Tab.wf_cons ..).2 ⟨hv, ?_, h⟩
      intro e he; rcases List.mem_cons.1 he with rfl | he
      · exact hk
      · exact lt_trans hk (h1 e he)
    · split
      · rename_i e; subst e
        exact (Tab.wf_cons ..).2 ⟨hv, h1, h2⟩
      · rename_i hlt hne
        exact (Tab.wf_cons ..).2 ⟨h0, Tab.above_insert v k' t k (by omega) h1, Tab.wf_insert d v hv t k h2⟩

theorem Tab.wf_erase (d : α) : ∀ (t : Tab α) (k : Nat), Tab.wf d t = true → Tab.wf d (Tab.erase t k) = true
  | [], _, _ => rfl
  | (k', v') :: t, k, h => by
    obtain ⟨h0, h1, h2⟩ := (Tab.wf_cons d v' k' t).1 h
    unfold Tab.erase
    split
    · exact Tab.wf_erase d t k h2
    · exact (Tab.wf_cons ..).2 ⟨h0, Tab.above_erase k' t k h1, Tab.wf_erase d t k h2⟩

/-- A write keeps the canonical form. -/
theorem Tab.wf_set (d v : α) (t : Tab α) (k : Nat) (h : Tab.wf d t = true) : Tab.wf d (Tab.set d t k v) = true := by
  unfold Tab.set
  split
  · exact Tab.wf_erase d t k h
  · exact Tab.wf_insert d v (by assumption) t k h

theorem Tab.wf_modify (d : α) (t : Tab α) (k : Nat) (g : α → α) (h : Tab.wf d t = true) : Tab.wf d (Tab.modify d t k g) = true :=
  Tab.wf_set d _ t k h

theorem Tab.wf_setList (d : α) : ∀ (vs : List α) (t : Tab α) (k : Nat), Tab.wf d t = true → Tab.wf d (Tab.setList d t k vs) = true
  | [], _, _, h => h
  | v :: vs, t, k, h => Tab.wf_setList d vs _ (k + 1) (Tab.wf_set d v t k h)

theorem Tab.wf_filter (d : α) (g : Nat × α → Bool) : ∀ t : Tab α, Tab.wf d t = true → Tab.wf d (List.filter g t : Tab α) = true
  | [], _ => rfl
  | (k, v) :: t, h => by
    obtain ⟨h0, h1, h2⟩ := (Tab.wf_cons d v k t).1 h
    simp only [List.filter_cons]
    split
    · exact (Tab.wf_cons ..).2 ⟨h0, fun e he => h1 e (List.mem_of_mem_filter he), Tab.wf_filter d g t h2⟩
    · exact Tab.wf_filter d g t h2

theorem Tab.wf_clearRange (d : α) (t : Tab α) (lo hi : Nat) (h : Tab.wf d t = true) : Tab.wf d (Tab.clearRange t lo hi) = true :=
  Tab.wf_filter d _ t h

theorem Tab.above_mapVals (d : α) (g : Nat → α → α) (n : Nat) : ∀ t : Tab α, Tab.above n t → Tab.above n (Tab.mapVals d g t)
  | [], h => h
  | (k, v) :: t, h => by
    have h1 : Tab.above n t := fun e he => h e (by simp [he])
    simp only [Tab.mapVals]
    split
    · exact Tab.above_mapVals d g n t h1
    · intro e he; rcases List.mem_cons.1 he with rfl | he
      · exact h (k, v) (by simp)
      · exact Tab.above_mapVals d g n t h1 e he

theorem Tab.wf_mapVals (d : α) (g : Nat → α → α) : ∀ t : Tab α, Tab.wf d t = true → Tab.wf d (Tab.mapVals d g t) = true
  | [], _ => rfl
  | (k, v) :: t, h => by
    obtain ⟨_, h1, h2⟩ := (Tab.wf_cons d v k t).1 h
    simp only [Tab.mapVals]
    split
    · exact Tab.wf_mapVals d g t h2
    · rename_i hw
      exact (Tab.wf_cons ..).2 ⟨hw, Tab.above_mapVals d g k t h1, Tab.wf_mapVals d g t h2⟩

/-- What a write leaves at another key. -/
theorem Tab.get_set_ne (d v : α) (t : Tab α) (k j : Nat) (h : j ≠ k) : Tab.get d (Tab.set d t k v) j = Tab.get d t j := by
  unfold Tab.set
  split
  · exact Tab.get_erase_ne d t k j h
  · exact Tab.get_insert_ne d v t k j h

/-- What a write leaves at its key. -/
@[simp] theorem Tab.get_set_same (d v : α) (t : Tab α) (k : Nat) : Tab.get d (Tab.set d t k v) k = v := by
  unfold Tab.set
  split
  · rename_i e; subst e; exact Tab.get_erase_same _ t k
  · exact Tab.get_insert_same d v t k

theorem Tab.get_modify_ne (d : α) (t : Tab α) (k j : Nat) (g : α → α) (h : j ≠ k) :
    Tab.get d (Tab.modify d t k g) j = Tab.get d t j := Tab.get_set_ne d _ t k j h

@[simp] theorem Tab.get_modify_same (d : α) (t : Tab α) (k : Nat) (g : α → α) :
    Tab.get d (Tab.modify d t k g) k = g (Tab.get d t k) := Tab.get_set_same d _ t k

end Sys2Proof.Machine
end

