-- ==== Sys2Proof/Laws/State.lean ====
section
/-! SUPPORT. What each update of the state leaves: one lemma per field, and what it changes. -/

namespace Sys2Proof.Machine

variable (s : State)

@[simp] theorem State.modFlask_power (p : Nat) (g : Flask → Flask) : (s.modFlask p g).power = s.power := rfl
@[simp] theorem State.modFlask_chill (p : Nat) (g : Flask → Flask) : (s.modFlask p g).chill = s.chill := rfl
@[simp] theorem State.modFlask_dict (p : Nat) (g : Flask → Flask) : (s.modFlask p g).dict = s.dict := rfl
@[simp] theorem State.modFlask_net (p : Nat) (g : Flask → Flask) : (s.modFlask p g).net = s.net := rfl
@[simp] theorem State.modFlask_crus (p : Nat) (g : Flask → Flask) : (s.modFlask p g).crus = s.crus := rfl
@[simp] theorem State.modFlask_tun (p : Nat) (g : Flask → Flask) : (s.modFlask p g).tun = s.tun := rfl
@[simp] theorem State.modFlask_cores (p : Nat) (g : Flask → Flask) : (s.modFlask p g).cores = s.cores := rfl
@[simp] theorem State.modFlask_sram (p : Nat) (g : Flask → Flask) : (s.modFlask p g).sram = s.sram := rfl
@[simp] theorem State.modFlask_cup (p : Nat) (g : Flask → Flask) : (s.modFlask p g).cup = s.cup := rfl
@[simp] theorem State.modFlask_loader (p : Nat) (g : Flask → Flask) : (s.modFlask p g).loader = s.loader := rfl
@[simp] theorem State.modFlask_catch (p : Nat) (g : Flask → Flask) : (s.modFlask p g).catch' = s.catch' := rfl
@[simp] theorem State.modFlask_villet (p : Nat) (g : Flask → Flask) : (s.modFlask p g).villet = s.villet := rfl
@[simp] theorem State.modFlask_pins (p : Nat) (g : Flask → Flask) : (s.modFlask p g).pins = s.pins := rfl
@[simp] theorem State.modFlask_pcie (p : Nat) (g : Flask → Flask) : (s.modFlask p g).pcie = s.pcie := rfl
@[simp] theorem State.modFlask_ecat (p : Nat) (g : Flask → Flask) : (s.modFlask p g).ecat = s.ecat := rfl
@[simp] theorem State.modFlask_tap (p : Nat) (g : Flask → Flask) : (s.modFlask p g).tap = s.tap := rfl
@[simp] theorem State.modFlask_pdoIrq (p : Nat) (g : Flask → Flask) : (s.modFlask p g).pdoIrq = s.pdoIrq := rfl
@[simp] theorem State.modFlask_recasts (p : Nat) (g : Flask → Flask) : (s.modFlask p g).recasts = s.recasts := rfl
@[simp] theorem State.modFlask_recastRow (p : Nat) (g : Flask → Flask) : (s.modFlask p g).recastRow = s.recastRow := rfl
@[simp] theorem State.modFlask_recastCount (p : Nat) (g : Flask → Flask) : (s.modFlask p g).recastCount = s.recastCount := rfl
@[simp] theorem State.modFlask_lmap (p : Nat) (g : Flask → Flask) : (s.modFlask p g).lmap = s.lmap := rfl
@[simp] theorem State.modFlask_dcRunning (p : Nat) (g : Flask → Flask) : (s.modFlask p g).dcRunning = s.dcRunning := rfl
@[simp] theorem State.modFlask_dcTime (p : Nat) (g : Flask → Flask) : (s.modFlask p g).dcTime = s.dcTime := rfl
@[simp] theorem State.modFlask_dcQuarter (p : Nat) (g : Flask → Flask) : (s.modFlask p g).dcQuarter = s.dcQuarter := rfl
@[simp] theorem State.modFlask_dram (p : Nat) (g : Flask → Flask) : (s.modFlask p g).dram = s.dram := rfl
@[simp] theorem State.modFlask_out (p : Nat) (g : Flask → Flask) : (s.modFlask p g).out = s.out := rfl
@[simp] theorem State.modFlask_fresh (p : Nat) (g : Flask → Flask) : (s.modFlask p g).fresh = s.fresh := rfl
@[simp] theorem State.modFlask_pending (p : Nat) (g : Flask → Flask) : (s.modFlask p g).pending = s.pending := rfl

@[simp] theorem State.modCru_power (p : Nat) (g : Cru → Cru) : (s.modCru p g).power = s.power := rfl
@[simp] theorem State.modCru_chill (p : Nat) (g : Cru → Cru) : (s.modCru p g).chill = s.chill := rfl
@[simp] theorem State.modCru_dict (p : Nat) (g : Cru → Cru) : (s.modCru p g).dict = s.dict := rfl
@[simp] theorem State.modCru_net (p : Nat) (g : Cru → Cru) : (s.modCru p g).net = s.net := rfl
@[simp] theorem State.modCru_flasks (p : Nat) (g : Cru → Cru) : (s.modCru p g).flasks = s.flasks := rfl
@[simp] theorem State.modCru_tun (p : Nat) (g : Cru → Cru) : (s.modCru p g).tun = s.tun := rfl
@[simp] theorem State.modCru_cores (p : Nat) (g : Cru → Cru) : (s.modCru p g).cores = s.cores := rfl
@[simp] theorem State.modCru_sram (p : Nat) (g : Cru → Cru) : (s.modCru p g).sram = s.sram := rfl
@[simp] theorem State.modCru_cup (p : Nat) (g : Cru → Cru) : (s.modCru p g).cup = s.cup := rfl
@[simp] theorem State.modCru_loader (p : Nat) (g : Cru → Cru) : (s.modCru p g).loader = s.loader := rfl
@[simp] theorem State.modCru_catch (p : Nat) (g : Cru → Cru) : (s.modCru p g).catch' = s.catch' := rfl
@[simp] theorem State.modCru_villet (p : Nat) (g : Cru → Cru) : (s.modCru p g).villet = s.villet := rfl
@[simp] theorem State.modCru_pins (p : Nat) (g : Cru → Cru) : (s.modCru p g).pins = s.pins := rfl
@[simp] theorem State.modCru_pcie (p : Nat) (g : Cru → Cru) : (s.modCru p g).pcie = s.pcie := rfl
@[simp] theorem State.modCru_ecat (p : Nat) (g : Cru → Cru) : (s.modCru p g).ecat = s.ecat := rfl
@[simp] theorem State.modCru_tap (p : Nat) (g : Cru → Cru) : (s.modCru p g).tap = s.tap := rfl
@[simp] theorem State.modCru_pdoIrq (p : Nat) (g : Cru → Cru) : (s.modCru p g).pdoIrq = s.pdoIrq := rfl
@[simp] theorem State.modCru_recasts (p : Nat) (g : Cru → Cru) : (s.modCru p g).recasts = s.recasts := rfl
@[simp] theorem State.modCru_recastRow (p : Nat) (g : Cru → Cru) : (s.modCru p g).recastRow = s.recastRow := rfl
@[simp] theorem State.modCru_recastCount (p : Nat) (g : Cru → Cru) : (s.modCru p g).recastCount = s.recastCount := rfl
@[simp] theorem State.modCru_lmap (p : Nat) (g : Cru → Cru) : (s.modCru p g).lmap = s.lmap := rfl
@[simp] theorem State.modCru_dcRunning (p : Nat) (g : Cru → Cru) : (s.modCru p g).dcRunning = s.dcRunning := rfl
@[simp] theorem State.modCru_dcTime (p : Nat) (g : Cru → Cru) : (s.modCru p g).dcTime = s.dcTime := rfl
@[simp] theorem State.modCru_dcQuarter (p : Nat) (g : Cru → Cru) : (s.modCru p g).dcQuarter = s.dcQuarter := rfl
@[simp] theorem State.modCru_dram (p : Nat) (g : Cru → Cru) : (s.modCru p g).dram = s.dram := rfl
@[simp] theorem State.modCru_out (p : Nat) (g : Cru → Cru) : (s.modCru p g).out = s.out := rfl
@[simp] theorem State.modCru_fresh (p : Nat) (g : Cru → Cru) : (s.modCru p g).fresh = s.fresh := rfl
@[simp] theorem State.modCru_pending (p : Nat) (g : Cru → Cru) : (s.modCru p g).pending = s.pending := rfl

@[simp] theorem State.modRecast_power (y : Nat) (g : Recast → Recast) : (s.modRecast y g).power = s.power := rfl
@[simp] theorem State.modRecast_chill (y : Nat) (g : Recast → Recast) : (s.modRecast y g).chill = s.chill := rfl
@[simp] theorem State.modRecast_dict (y : Nat) (g : Recast → Recast) : (s.modRecast y g).dict = s.dict := rfl
@[simp] theorem State.modRecast_net (y : Nat) (g : Recast → Recast) : (s.modRecast y g).net = s.net := rfl
@[simp] theorem State.modRecast_flasks (y : Nat) (g : Recast → Recast) : (s.modRecast y g).flasks = s.flasks := rfl
@[simp] theorem State.modRecast_crus (y : Nat) (g : Recast → Recast) : (s.modRecast y g).crus = s.crus := rfl
@[simp] theorem State.modRecast_tun (y : Nat) (g : Recast → Recast) : (s.modRecast y g).tun = s.tun := rfl
@[simp] theorem State.modRecast_cores (y : Nat) (g : Recast → Recast) : (s.modRecast y g).cores = s.cores := rfl
@[simp] theorem State.modRecast_sram (y : Nat) (g : Recast → Recast) : (s.modRecast y g).sram = s.sram := rfl
@[simp] theorem State.modRecast_cup (y : Nat) (g : Recast → Recast) : (s.modRecast y g).cup = s.cup := rfl
@[simp] theorem State.modRecast_loader (y : Nat) (g : Recast → Recast) : (s.modRecast y g).loader = s.loader := rfl
@[simp] theorem State.modRecast_catch (y : Nat) (g : Recast → Recast) : (s.modRecast y g).catch' = s.catch' := rfl
@[simp] theorem State.modRecast_villet (y : Nat) (g : Recast → Recast) : (s.modRecast y g).villet = s.villet := rfl
@[simp] theorem State.modRecast_pins (y : Nat) (g : Recast → Recast) : (s.modRecast y g).pins = s.pins := rfl
@[simp] theorem State.modRecast_pcie (y : Nat) (g : Recast → Recast) : (s.modRecast y g).pcie = s.pcie := rfl
@[simp] theorem State.modRecast_ecat (y : Nat) (g : Recast → Recast) : (s.modRecast y g).ecat = s.ecat := rfl
@[simp] theorem State.modRecast_tap (y : Nat) (g : Recast → Recast) : (s.modRecast y g).tap = s.tap := rfl
@[simp] theorem State.modRecast_pdoIrq (y : Nat) (g : Recast → Recast) : (s.modRecast y g).pdoIrq = s.pdoIrq := rfl
@[simp] theorem State.modRecast_recastRow (y : Nat) (g : Recast → Recast) : (s.modRecast y g).recastRow = s.recastRow := rfl
@[simp] theorem State.modRecast_recastCount (y : Nat) (g : Recast → Recast) : (s.modRecast y g).recastCount = s.recastCount := rfl
@[simp] theorem State.modRecast_lmap (y : Nat) (g : Recast → Recast) : (s.modRecast y g).lmap = s.lmap := rfl
@[simp] theorem State.modRecast_dcRunning (y : Nat) (g : Recast → Recast) : (s.modRecast y g).dcRunning = s.dcRunning := rfl
@[simp] theorem State.modRecast_dcTime (y : Nat) (g : Recast → Recast) : (s.modRecast y g).dcTime = s.dcTime := rfl
@[simp] theorem State.modRecast_dcQuarter (y : Nat) (g : Recast → Recast) : (s.modRecast y g).dcQuarter = s.dcQuarter := rfl
@[simp] theorem State.modRecast_dram (y : Nat) (g : Recast → Recast) : (s.modRecast y g).dram = s.dram := rfl
@[simp] theorem State.modRecast_out (y : Nat) (g : Recast → Recast) : (s.modRecast y g).out = s.out := rfl
@[simp] theorem State.modRecast_fresh (y : Nat) (g : Recast → Recast) : (s.modRecast y g).fresh = s.fresh := rfl
@[simp] theorem State.modRecast_pending (y : Nat) (g : Recast → Recast) : (s.modRecast y g).pending = s.pending := rfl

@[simp] theorem State.modGate_power (i : Nat) (g : Gate → Gate) : (s.modGate i g).power = s.power := rfl
@[simp] theorem State.modGate_chill (i : Nat) (g : Gate → Gate) : (s.modGate i g).chill = s.chill := rfl
@[simp] theorem State.modGate_dict (i : Nat) (g : Gate → Gate) : (s.modGate i g).dict = s.dict := rfl
@[simp] theorem State.modGate_flasks (i : Nat) (g : Gate → Gate) : (s.modGate i g).flasks = s.flasks := rfl
@[simp] theorem State.modGate_crus (i : Nat) (g : Gate → Gate) : (s.modGate i g).crus = s.crus := rfl
@[simp] theorem State.modGate_tun (i : Nat) (g : Gate → Gate) : (s.modGate i g).tun = s.tun := rfl
@[simp] theorem State.modGate_cores (i : Nat) (g : Gate → Gate) : (s.modGate i g).cores = s.cores := rfl
@[simp] theorem State.modGate_sram (i : Nat) (g : Gate → Gate) : (s.modGate i g).sram = s.sram := rfl
@[simp] theorem State.modGate_cup (i : Nat) (g : Gate → Gate) : (s.modGate i g).cup = s.cup := rfl
@[simp] theorem State.modGate_loader (i : Nat) (g : Gate → Gate) : (s.modGate i g).loader = s.loader := rfl
@[simp] theorem State.modGate_catch (i : Nat) (g : Gate → Gate) : (s.modGate i g).catch' = s.catch' := rfl
@[simp] theorem State.modGate_villet (i : Nat) (g : Gate → Gate) : (s.modGate i g).villet = s.villet := rfl
@[simp] theorem State.modGate_pins (i : Nat) (g : Gate → Gate) : (s.modGate i g).pins = s.pins := rfl
@[simp] theorem State.modGate_pcie (i : Nat) (g : Gate → Gate) : (s.modGate i g).pcie = s.pcie := rfl
@[simp] theorem State.modGate_ecat (i : Nat) (g : Gate → Gate) : (s.modGate i g).ecat = s.ecat := rfl
@[simp] theorem State.modGate_tap (i : Nat) (g : Gate → Gate) : (s.modGate i g).tap = s.tap := rfl
@[simp] theorem State.modGate_pdoIrq (i : Nat) (g : Gate → Gate) : (s.modGate i g).pdoIrq = s.pdoIrq := rfl
@[simp] theorem State.modGate_recasts (i : Nat) (g : Gate → Gate) : (s.modGate i g).recasts = s.recasts := rfl
@[simp] theorem State.modGate_recastRow (i : Nat) (g : Gate → Gate) : (s.modGate i g).recastRow = s.recastRow := rfl
@[simp] theorem State.modGate_recastCount (i : Nat) (g : Gate → Gate) : (s.modGate i g).recastCount = s.recastCount := rfl
@[simp] theorem State.modGate_lmap (i : Nat) (g : Gate → Gate) : (s.modGate i g).lmap = s.lmap := rfl
@[simp] theorem State.modGate_dcRunning (i : Nat) (g : Gate → Gate) : (s.modGate i g).dcRunning = s.dcRunning := rfl
@[simp] theorem State.modGate_dcTime (i : Nat) (g : Gate → Gate) : (s.modGate i g).dcTime = s.dcTime := rfl
@[simp] theorem State.modGate_dcQuarter (i : Nat) (g : Gate → Gate) : (s.modGate i g).dcQuarter = s.dcQuarter := rfl
@[simp] theorem State.modGate_dram (i : Nat) (g : Gate → Gate) : (s.modGate i g).dram = s.dram := rfl
@[simp] theorem State.modGate_out (i : Nat) (g : Gate → Gate) : (s.modGate i g).out = s.out := rfl
@[simp] theorem State.modGate_fresh (i : Nat) (g : Gate → Gate) : (s.modGate i g).fresh = s.fresh := rfl
@[simp] theorem State.modGate_pending (i : Nat) (g : Gate → Gate) : (s.modGate i g).pending = s.pending := rfl

@[simp] theorem State.modRouter_power (r : Nat) (g : Router → Router) : (s.modRouter r g).power = s.power := rfl
@[simp] theorem State.modRouter_chill (r : Nat) (g : Router → Router) : (s.modRouter r g).chill = s.chill := rfl
@[simp] theorem State.modRouter_dict (r : Nat) (g : Router → Router) : (s.modRouter r g).dict = s.dict := rfl
@[simp] theorem State.modRouter_flasks (r : Nat) (g : Router → Router) : (s.modRouter r g).flasks = s.flasks := rfl
@[simp] theorem State.modRouter_crus (r : Nat) (g : Router → Router) : (s.modRouter r g).crus = s.crus := rfl
@[simp] theorem State.modRouter_tun (r : Nat) (g : Router → Router) : (s.modRouter r g).tun = s.tun := rfl
@[simp] theorem State.modRouter_cores (r : Nat) (g : Router → Router) : (s.modRouter r g).cores = s.cores := rfl
@[simp] theorem State.modRouter_sram (r : Nat) (g : Router → Router) : (s.modRouter r g).sram = s.sram := rfl
@[simp] theorem State.modRouter_cup (r : Nat) (g : Router → Router) : (s.modRouter r g).cup = s.cup := rfl
@[simp] theorem State.modRouter_loader (r : Nat) (g : Router → Router) : (s.modRouter r g).loader = s.loader := rfl
@[simp] theorem State.modRouter_catch (r : Nat) (g : Router → Router) : (s.modRouter r g).catch' = s.catch' := rfl
@[simp] theorem State.modRouter_villet (r : Nat) (g : Router → Router) : (s.modRouter r g).villet = s.villet := rfl
@[simp] theorem State.modRouter_pins (r : Nat) (g : Router → Router) : (s.modRouter r g).pins = s.pins := rfl
@[simp] theorem State.modRouter_pcie (r : Nat) (g : Router → Router) : (s.modRouter r g).pcie = s.pcie := rfl
@[simp] theorem State.modRouter_ecat (r : Nat) (g : Router → Router) : (s.modRouter r g).ecat = s.ecat := rfl
@[simp] theorem State.modRouter_tap (r : Nat) (g : Router → Router) : (s.modRouter r g).tap = s.tap := rfl
@[simp] theorem State.modRouter_pdoIrq (r : Nat) (g : Router → Router) : (s.modRouter r g).pdoIrq = s.pdoIrq := rfl
@[simp] theorem State.modRouter_recasts (r : Nat) (g : Router → Router) : (s.modRouter r g).recasts = s.recasts := rfl
@[simp] theorem State.modRouter_recastRow (r : Nat) (g : Router → Router) : (s.modRouter r g).recastRow = s.recastRow := rfl
@[simp] theorem State.modRouter_recastCount (r : Nat) (g : Router → Router) : (s.modRouter r g).recastCount = s.recastCount := rfl
@[simp] theorem State.modRouter_lmap (r : Nat) (g : Router → Router) : (s.modRouter r g).lmap = s.lmap := rfl
@[simp] theorem State.modRouter_dcRunning (r : Nat) (g : Router → Router) : (s.modRouter r g).dcRunning = s.dcRunning := rfl
@[simp] theorem State.modRouter_dcTime (r : Nat) (g : Router → Router) : (s.modRouter r g).dcTime = s.dcTime := rfl
@[simp] theorem State.modRouter_dcQuarter (r : Nat) (g : Router → Router) : (s.modRouter r g).dcQuarter = s.dcQuarter := rfl
@[simp] theorem State.modRouter_dram (r : Nat) (g : Router → Router) : (s.modRouter r g).dram = s.dram := rfl
@[simp] theorem State.modRouter_out (r : Nat) (g : Router → Router) : (s.modRouter r g).out = s.out := rfl
@[simp] theorem State.modRouter_fresh (r : Nat) (g : Router → Router) : (s.modRouter r g).fresh = s.fresh := rfl
@[simp] theorem State.modRouter_pending (r : Nat) (g : Router → Router) : (s.modRouter r g).pending = s.pending := rfl

@[simp] theorem State.modDom_chill (d : Nat) (g : Dom → Dom) : (s.modDom d g).chill = s.chill := rfl
@[simp] theorem State.modDom_dict (d : Nat) (g : Dom → Dom) : (s.modDom d g).dict = s.dict := rfl
@[simp] theorem State.modDom_net (d : Nat) (g : Dom → Dom) : (s.modDom d g).net = s.net := rfl
@[simp] theorem State.modDom_flasks (d : Nat) (g : Dom → Dom) : (s.modDom d g).flasks = s.flasks := rfl
@[simp] theorem State.modDom_crus (d : Nat) (g : Dom → Dom) : (s.modDom d g).crus = s.crus := rfl
@[simp] theorem State.modDom_tun (d : Nat) (g : Dom → Dom) : (s.modDom d g).tun = s.tun := rfl
@[simp] theorem State.modDom_cores (d : Nat) (g : Dom → Dom) : (s.modDom d g).cores = s.cores := rfl
@[simp] theorem State.modDom_sram (d : Nat) (g : Dom → Dom) : (s.modDom d g).sram = s.sram := rfl
@[simp] theorem State.modDom_cup (d : Nat) (g : Dom → Dom) : (s.modDom d g).cup = s.cup := rfl
@[simp] theorem State.modDom_loader (d : Nat) (g : Dom → Dom) : (s.modDom d g).loader = s.loader := rfl
@[simp] theorem State.modDom_catch (d : Nat) (g : Dom → Dom) : (s.modDom d g).catch' = s.catch' := rfl
@[simp] theorem State.modDom_villet (d : Nat) (g : Dom → Dom) : (s.modDom d g).villet = s.villet := rfl
@[simp] theorem State.modDom_pins (d : Nat) (g : Dom → Dom) : (s.modDom d g).pins = s.pins := rfl
@[simp] theorem State.modDom_pcie (d : Nat) (g : Dom → Dom) : (s.modDom d g).pcie = s.pcie := rfl
@[simp] theorem State.modDom_ecat (d : Nat) (g : Dom → Dom) : (s.modDom d g).ecat = s.ecat := rfl
@[simp] theorem State.modDom_tap (d : Nat) (g : Dom → Dom) : (s.modDom d g).tap = s.tap := rfl
@[simp] theorem State.modDom_pdoIrq (d : Nat) (g : Dom → Dom) : (s.modDom d g).pdoIrq = s.pdoIrq := rfl
@[simp] theorem State.modDom_recasts (d : Nat) (g : Dom → Dom) : (s.modDom d g).recasts = s.recasts := rfl
@[simp] theorem State.modDom_recastRow (d : Nat) (g : Dom → Dom) : (s.modDom d g).recastRow = s.recastRow := rfl
@[simp] theorem State.modDom_recastCount (d : Nat) (g : Dom → Dom) : (s.modDom d g).recastCount = s.recastCount := rfl
@[simp] theorem State.modDom_lmap (d : Nat) (g : Dom → Dom) : (s.modDom d g).lmap = s.lmap := rfl
@[simp] theorem State.modDom_dcRunning (d : Nat) (g : Dom → Dom) : (s.modDom d g).dcRunning = s.dcRunning := rfl
@[simp] theorem State.modDom_dcTime (d : Nat) (g : Dom → Dom) : (s.modDom d g).dcTime = s.dcTime := rfl
@[simp] theorem State.modDom_dcQuarter (d : Nat) (g : Dom → Dom) : (s.modDom d g).dcQuarter = s.dcQuarter := rfl
@[simp] theorem State.modDom_dram (d : Nat) (g : Dom → Dom) : (s.modDom d g).dram = s.dram := rfl
@[simp] theorem State.modDom_out (d : Nat) (g : Dom → Dom) : (s.modDom d g).out = s.out := rfl
@[simp] theorem State.modDom_fresh (d : Nat) (g : Dom → Dom) : (s.modDom d g).fresh = s.fresh := rfl
@[simp] theorem State.modDom_pending (d : Nat) (g : Dom → Dom) : (s.modDom d g).pending = s.pending := rfl

@[simp] theorem State.modPath_power (p : Nat) (g : Path → Path) : (s.modPath p g).power = s.power := rfl
@[simp] theorem State.modPath_chill (p : Nat) (g : Path → Path) : (s.modPath p g).chill = s.chill := rfl
@[simp] theorem State.modPath_net (p : Nat) (g : Path → Path) : (s.modPath p g).net = s.net := rfl
@[simp] theorem State.modPath_flasks (p : Nat) (g : Path → Path) : (s.modPath p g).flasks = s.flasks := rfl
@[simp] theorem State.modPath_crus (p : Nat) (g : Path → Path) : (s.modPath p g).crus = s.crus := rfl
@[simp] theorem State.modPath_tun (p : Nat) (g : Path → Path) : (s.modPath p g).tun = s.tun := rfl
@[simp] theorem State.modPath_cores (p : Nat) (g : Path → Path) : (s.modPath p g).cores = s.cores := rfl
@[simp] theorem State.modPath_sram (p : Nat) (g : Path → Path) : (s.modPath p g).sram = s.sram := rfl
@[simp] theorem State.modPath_cup (p : Nat) (g : Path → Path) : (s.modPath p g).cup = s.cup := rfl
@[simp] theorem State.modPath_loader (p : Nat) (g : Path → Path) : (s.modPath p g).loader = s.loader := rfl
@[simp] theorem State.modPath_catch (p : Nat) (g : Path → Path) : (s.modPath p g).catch' = s.catch' := rfl
@[simp] theorem State.modPath_villet (p : Nat) (g : Path → Path) : (s.modPath p g).villet = s.villet := rfl
@[simp] theorem State.modPath_pins (p : Nat) (g : Path → Path) : (s.modPath p g).pins = s.pins := rfl
@[simp] theorem State.modPath_pcie (p : Nat) (g : Path → Path) : (s.modPath p g).pcie = s.pcie := rfl
@[simp] theorem State.modPath_ecat (p : Nat) (g : Path → Path) : (s.modPath p g).ecat = s.ecat := rfl
@[simp] theorem State.modPath_tap (p : Nat) (g : Path → Path) : (s.modPath p g).tap = s.tap := rfl
@[simp] theorem State.modPath_pdoIrq (p : Nat) (g : Path → Path) : (s.modPath p g).pdoIrq = s.pdoIrq := rfl
@[simp] theorem State.modPath_recasts (p : Nat) (g : Path → Path) : (s.modPath p g).recasts = s.recasts := rfl
@[simp] theorem State.modPath_recastRow (p : Nat) (g : Path → Path) : (s.modPath p g).recastRow = s.recastRow := rfl
@[simp] theorem State.modPath_recastCount (p : Nat) (g : Path → Path) : (s.modPath p g).recastCount = s.recastCount := rfl
@[simp] theorem State.modPath_lmap (p : Nat) (g : Path → Path) : (s.modPath p g).lmap = s.lmap := rfl
@[simp] theorem State.modPath_dcRunning (p : Nat) (g : Path → Path) : (s.modPath p g).dcRunning = s.dcRunning := rfl
@[simp] theorem State.modPath_dcTime (p : Nat) (g : Path → Path) : (s.modPath p g).dcTime = s.dcTime := rfl
@[simp] theorem State.modPath_dcQuarter (p : Nat) (g : Path → Path) : (s.modPath p g).dcQuarter = s.dcQuarter := rfl
@[simp] theorem State.modPath_dram (p : Nat) (g : Path → Path) : (s.modPath p g).dram = s.dram := rfl
@[simp] theorem State.modPath_out (p : Nat) (g : Path → Path) : (s.modPath p g).out = s.out := rfl
@[simp] theorem State.modPath_fresh (p : Nat) (g : Path → Path) : (s.modPath p g).fresh = s.fresh := rfl
@[simp] theorem State.modPath_pending (p : Nat) (g : Path → Path) : (s.modPath p g).pending = s.pending := rfl

@[simp] theorem State.modSession_power (n : Nat) (g : Session → Session) : (s.modSession n g).power = s.power := rfl
@[simp] theorem State.modSession_chill (n : Nat) (g : Session → Session) : (s.modSession n g).chill = s.chill := rfl
@[simp] theorem State.modSession_net (n : Nat) (g : Session → Session) : (s.modSession n g).net = s.net := rfl
@[simp] theorem State.modSession_flasks (n : Nat) (g : Session → Session) : (s.modSession n g).flasks = s.flasks := rfl
@[simp] theorem State.modSession_crus (n : Nat) (g : Session → Session) : (s.modSession n g).crus = s.crus := rfl
@[simp] theorem State.modSession_tun (n : Nat) (g : Session → Session) : (s.modSession n g).tun = s.tun := rfl
@[simp] theorem State.modSession_cores (n : Nat) (g : Session → Session) : (s.modSession n g).cores = s.cores := rfl
@[simp] theorem State.modSession_sram (n : Nat) (g : Session → Session) : (s.modSession n g).sram = s.sram := rfl
@[simp] theorem State.modSession_cup (n : Nat) (g : Session → Session) : (s.modSession n g).cup = s.cup := rfl
@[simp] theorem State.modSession_loader (n : Nat) (g : Session → Session) : (s.modSession n g).loader = s.loader := rfl
@[simp] theorem State.modSession_catch (n : Nat) (g : Session → Session) : (s.modSession n g).catch' = s.catch' := rfl
@[simp] theorem State.modSession_villet (n : Nat) (g : Session → Session) : (s.modSession n g).villet = s.villet := rfl
@[simp] theorem State.modSession_pins (n : Nat) (g : Session → Session) : (s.modSession n g).pins = s.pins := rfl
@[simp] theorem State.modSession_pcie (n : Nat) (g : Session → Session) : (s.modSession n g).pcie = s.pcie := rfl
@[simp] theorem State.modSession_ecat (n : Nat) (g : Session → Session) : (s.modSession n g).ecat = s.ecat := rfl
@[simp] theorem State.modSession_tap (n : Nat) (g : Session → Session) : (s.modSession n g).tap = s.tap := rfl
@[simp] theorem State.modSession_pdoIrq (n : Nat) (g : Session → Session) : (s.modSession n g).pdoIrq = s.pdoIrq := rfl
@[simp] theorem State.modSession_recasts (n : Nat) (g : Session → Session) : (s.modSession n g).recasts = s.recasts := rfl
@[simp] theorem State.modSession_recastRow (n : Nat) (g : Session → Session) : (s.modSession n g).recastRow = s.recastRow := rfl
@[simp] theorem State.modSession_recastCount (n : Nat) (g : Session → Session) : (s.modSession n g).recastCount = s.recastCount := rfl
@[simp] theorem State.modSession_lmap (n : Nat) (g : Session → Session) : (s.modSession n g).lmap = s.lmap := rfl
@[simp] theorem State.modSession_dcRunning (n : Nat) (g : Session → Session) : (s.modSession n g).dcRunning = s.dcRunning := rfl
@[simp] theorem State.modSession_dcTime (n : Nat) (g : Session → Session) : (s.modSession n g).dcTime = s.dcTime := rfl
@[simp] theorem State.modSession_dcQuarter (n : Nat) (g : Session → Session) : (s.modSession n g).dcQuarter = s.dcQuarter := rfl
@[simp] theorem State.modSession_dram (n : Nat) (g : Session → Session) : (s.modSession n g).dram = s.dram := rfl
@[simp] theorem State.modSession_out (n : Nat) (g : Session → Session) : (s.modSession n g).out = s.out := rfl
@[simp] theorem State.modSession_fresh (n : Nat) (g : Session → Session) : (s.modSession n g).fresh = s.fresh := rfl
@[simp] theorem State.modSession_pending (n : Nat) (g : Session → Session) : (s.modSession n g).pending = s.pending := rfl

@[simp] theorem State.emit_power (o : Out) : (s.emit o).power = s.power := rfl
@[simp] theorem State.emit_chill (o : Out) : (s.emit o).chill = s.chill := rfl
@[simp] theorem State.emit_dict (o : Out) : (s.emit o).dict = s.dict := rfl
@[simp] theorem State.emit_net (o : Out) : (s.emit o).net = s.net := rfl
@[simp] theorem State.emit_flasks (o : Out) : (s.emit o).flasks = s.flasks := rfl
@[simp] theorem State.emit_crus (o : Out) : (s.emit o).crus = s.crus := rfl
@[simp] theorem State.emit_tun (o : Out) : (s.emit o).tun = s.tun := rfl
@[simp] theorem State.emit_cores (o : Out) : (s.emit o).cores = s.cores := rfl
@[simp] theorem State.emit_sram (o : Out) : (s.emit o).sram = s.sram := rfl
@[simp] theorem State.emit_cup (o : Out) : (s.emit o).cup = s.cup := rfl
@[simp] theorem State.emit_loader (o : Out) : (s.emit o).loader = s.loader := rfl
@[simp] theorem State.emit_catch (o : Out) : (s.emit o).catch' = s.catch' := rfl
@[simp] theorem State.emit_villet (o : Out) : (s.emit o).villet = s.villet := rfl
@[simp] theorem State.emit_pins (o : Out) : (s.emit o).pins = s.pins := rfl
@[simp] theorem State.emit_pcie (o : Out) : (s.emit o).pcie = s.pcie := rfl
@[simp] theorem State.emit_ecat (o : Out) : (s.emit o).ecat = s.ecat := rfl
@[simp] theorem State.emit_tap (o : Out) : (s.emit o).tap = s.tap := rfl
@[simp] theorem State.emit_pdoIrq (o : Out) : (s.emit o).pdoIrq = s.pdoIrq := rfl
@[simp] theorem State.emit_recasts (o : Out) : (s.emit o).recasts = s.recasts := rfl
@[simp] theorem State.emit_recastRow (o : Out) : (s.emit o).recastRow = s.recastRow := rfl
@[simp] theorem State.emit_recastCount (o : Out) : (s.emit o).recastCount = s.recastCount := rfl
@[simp] theorem State.emit_lmap (o : Out) : (s.emit o).lmap = s.lmap := rfl
@[simp] theorem State.emit_dcRunning (o : Out) : (s.emit o).dcRunning = s.dcRunning := rfl
@[simp] theorem State.emit_dcTime (o : Out) : (s.emit o).dcTime = s.dcTime := rfl
@[simp] theorem State.emit_dcQuarter (o : Out) : (s.emit o).dcQuarter = s.dcQuarter := rfl
@[simp] theorem State.emit_dram (o : Out) : (s.emit o).dram = s.dram := rfl
@[simp] theorem State.emit_fresh (o : Out) : (s.emit o).fresh = s.fresh := rfl
@[simp] theorem State.emit_pending (o : Out) : (s.emit o).pending = s.pending := rfl

@[simp] theorem State.putSettingOf_power (obj idx sub : Nat) (v : DWord) : (s.putSettingOf obj idx sub v).power = s.power := rfl
@[simp] theorem State.putSettingOf_chill (obj idx sub : Nat) (v : DWord) : (s.putSettingOf obj idx sub v).chill = s.chill := rfl
@[simp] theorem State.putSettingOf_net (obj idx sub : Nat) (v : DWord) : (s.putSettingOf obj idx sub v).net = s.net := rfl
@[simp] theorem State.putSettingOf_flasks (obj idx sub : Nat) (v : DWord) : (s.putSettingOf obj idx sub v).flasks = s.flasks := rfl
@[simp] theorem State.putSettingOf_crus (obj idx sub : Nat) (v : DWord) : (s.putSettingOf obj idx sub v).crus = s.crus := rfl
@[simp] theorem State.putSettingOf_tun (obj idx sub : Nat) (v : DWord) : (s.putSettingOf obj idx sub v).tun = s.tun := rfl
@[simp] theorem State.putSettingOf_cores (obj idx sub : Nat) (v : DWord) : (s.putSettingOf obj idx sub v).cores = s.cores := rfl
@[simp] theorem State.putSettingOf_sram (obj idx sub : Nat) (v : DWord) : (s.putSettingOf obj idx sub v).sram = s.sram := rfl
@[simp] theorem State.putSettingOf_cup (obj idx sub : Nat) (v : DWord) : (s.putSettingOf obj idx sub v).cup = s.cup := rfl
@[simp] theorem State.putSettingOf_loader (obj idx sub : Nat) (v : DWord) : (s.putSettingOf obj idx sub v).loader = s.loader := rfl
@[simp] theorem State.putSettingOf_catch (obj idx sub : Nat) (v : DWord) : (s.putSettingOf obj idx sub v).catch' = s.catch' := rfl
@[simp] theorem State.putSettingOf_villet (obj idx sub : Nat) (v : DWord) : (s.putSettingOf obj idx sub v).villet = s.villet := rfl
@[simp] theorem State.putSettingOf_pins (obj idx sub : Nat) (v : DWord) : (s.putSettingOf obj idx sub v).pins = s.pins := rfl
@[simp] theorem State.putSettingOf_pcie (obj idx sub : Nat) (v : DWord) : (s.putSettingOf obj idx sub v).pcie = s.pcie := rfl
@[simp] theorem State.putSettingOf_ecat (obj idx sub : Nat) (v : DWord) : (s.putSettingOf obj idx sub v).ecat = s.ecat := rfl
@[simp] theorem State.putSettingOf_tap (obj idx sub : Nat) (v : DWord) : (s.putSettingOf obj idx sub v).tap = s.tap := rfl
@[simp] theorem State.putSettingOf_pdoIrq (obj idx sub : Nat) (v : DWord) : (s.putSettingOf obj idx sub v).pdoIrq = s.pdoIrq := rfl
@[simp] theorem State.putSettingOf_recasts (obj idx sub : Nat) (v : DWord) : (s.putSettingOf obj idx sub v).recasts = s.recasts := rfl
@[simp] theorem State.putSettingOf_recastRow (obj idx sub : Nat) (v : DWord) : (s.putSettingOf obj idx sub v).recastRow = s.recastRow := rfl
@[simp] theorem State.putSettingOf_recastCount (obj idx sub : Nat) (v : DWord) : (s.putSettingOf obj idx sub v).recastCount = s.recastCount := rfl
@[simp] theorem State.putSettingOf_lmap (obj idx sub : Nat) (v : DWord) : (s.putSettingOf obj idx sub v).lmap = s.lmap := rfl
@[simp] theorem State.putSettingOf_dcRunning (obj idx sub : Nat) (v : DWord) : (s.putSettingOf obj idx sub v).dcRunning = s.dcRunning := rfl
@[simp] theorem State.putSettingOf_dcTime (obj idx sub : Nat) (v : DWord) : (s.putSettingOf obj idx sub v).dcTime = s.dcTime := rfl
@[simp] theorem State.putSettingOf_dcQuarter (obj idx sub : Nat) (v : DWord) : (s.putSettingOf obj idx sub v).dcQuarter = s.dcQuarter := rfl
@[simp] theorem State.putSettingOf_dram (obj idx sub : Nat) (v : DWord) : (s.putSettingOf obj idx sub v).dram = s.dram := rfl
@[simp] theorem State.putSettingOf_out (obj idx sub : Nat) (v : DWord) : (s.putSettingOf obj idx sub v).out = s.out := rfl
@[simp] theorem State.putSettingOf_fresh (obj idx sub : Nat) (v : DWord) : (s.putSettingOf obj idx sub v).fresh = s.fresh := rfl
@[simp] theorem State.putSettingOf_pending (obj idx sub : Nat) (v : DWord) : (s.putSettingOf obj idx sub v).pending = s.pending := rfl

@[simp] theorem State.putSetting_power (idx sub : Nat) (v : DWord) : (s.putSetting idx sub v).power = s.power := rfl
@[simp] theorem State.putSetting_chill (idx sub : Nat) (v : DWord) : (s.putSetting idx sub v).chill = s.chill := rfl
@[simp] theorem State.putSetting_net (idx sub : Nat) (v : DWord) : (s.putSetting idx sub v).net = s.net := rfl
@[simp] theorem State.putSetting_flasks (idx sub : Nat) (v : DWord) : (s.putSetting idx sub v).flasks = s.flasks := rfl
@[simp] theorem State.putSetting_crus (idx sub : Nat) (v : DWord) : (s.putSetting idx sub v).crus = s.crus := rfl
@[simp] theorem State.putSetting_tun (idx sub : Nat) (v : DWord) : (s.putSetting idx sub v).tun = s.tun := rfl
@[simp] theorem State.putSetting_cores (idx sub : Nat) (v : DWord) : (s.putSetting idx sub v).cores = s.cores := rfl
@[simp] theorem State.putSetting_sram (idx sub : Nat) (v : DWord) : (s.putSetting idx sub v).sram = s.sram := rfl
@[simp] theorem State.putSetting_cup (idx sub : Nat) (v : DWord) : (s.putSetting idx sub v).cup = s.cup := rfl
@[simp] theorem State.putSetting_loader (idx sub : Nat) (v : DWord) : (s.putSetting idx sub v).loader = s.loader := rfl
@[simp] theorem State.putSetting_catch (idx sub : Nat) (v : DWord) : (s.putSetting idx sub v).catch' = s.catch' := rfl
@[simp] theorem State.putSetting_villet (idx sub : Nat) (v : DWord) : (s.putSetting idx sub v).villet = s.villet := rfl
@[simp] theorem State.putSetting_pins (idx sub : Nat) (v : DWord) : (s.putSetting idx sub v).pins = s.pins := rfl
@[simp] theorem State.putSetting_pcie (idx sub : Nat) (v : DWord) : (s.putSetting idx sub v).pcie = s.pcie := rfl
@[simp] theorem State.putSetting_ecat (idx sub : Nat) (v : DWord) : (s.putSetting idx sub v).ecat = s.ecat := rfl
@[simp] theorem State.putSetting_tap (idx sub : Nat) (v : DWord) : (s.putSetting idx sub v).tap = s.tap := rfl
@[simp] theorem State.putSetting_pdoIrq (idx sub : Nat) (v : DWord) : (s.putSetting idx sub v).pdoIrq = s.pdoIrq := rfl
@[simp] theorem State.putSetting_recasts (idx sub : Nat) (v : DWord) : (s.putSetting idx sub v).recasts = s.recasts := rfl
@[simp] theorem State.putSetting_recastRow (idx sub : Nat) (v : DWord) : (s.putSetting idx sub v).recastRow = s.recastRow := rfl
@[simp] theorem State.putSetting_recastCount (idx sub : Nat) (v : DWord) : (s.putSetting idx sub v).recastCount = s.recastCount := rfl
@[simp] theorem State.putSetting_lmap (idx sub : Nat) (v : DWord) : (s.putSetting idx sub v).lmap = s.lmap := rfl
@[simp] theorem State.putSetting_dcRunning (idx sub : Nat) (v : DWord) : (s.putSetting idx sub v).dcRunning = s.dcRunning := rfl
@[simp] theorem State.putSetting_dcTime (idx sub : Nat) (v : DWord) : (s.putSetting idx sub v).dcTime = s.dcTime := rfl
@[simp] theorem State.putSetting_dcQuarter (idx sub : Nat) (v : DWord) : (s.putSetting idx sub v).dcQuarter = s.dcQuarter := rfl
@[simp] theorem State.putSetting_dram (idx sub : Nat) (v : DWord) : (s.putSetting idx sub v).dram = s.dram := rfl
@[simp] theorem State.putSetting_out (idx sub : Nat) (v : DWord) : (s.putSetting idx sub v).out = s.out := rfl
@[simp] theorem State.putSetting_fresh (idx sub : Nat) (v : DWord) : (s.putSetting idx sub v).fresh = s.fresh := rfl
@[simp] theorem State.putSetting_pending (idx sub : Nat) (v : DWord) : (s.putSetting idx sub v).pending = s.pending := rfl

@[simp] theorem State.clearSettings_power (lo hi : Nat) : (s.clearSettings lo hi).power = s.power := rfl
@[simp] theorem State.clearSettings_chill (lo hi : Nat) : (s.clearSettings lo hi).chill = s.chill := rfl
@[simp] theorem State.clearSettings_net (lo hi : Nat) : (s.clearSettings lo hi).net = s.net := rfl
@[simp] theorem State.clearSettings_flasks (lo hi : Nat) : (s.clearSettings lo hi).flasks = s.flasks := rfl
@[simp] theorem State.clearSettings_crus (lo hi : Nat) : (s.clearSettings lo hi).crus = s.crus := rfl
@[simp] theorem State.clearSettings_tun (lo hi : Nat) : (s.clearSettings lo hi).tun = s.tun := rfl
@[simp] theorem State.clearSettings_cores (lo hi : Nat) : (s.clearSettings lo hi).cores = s.cores := rfl
@[simp] theorem State.clearSettings_sram (lo hi : Nat) : (s.clearSettings lo hi).sram = s.sram := rfl
@[simp] theorem State.clearSettings_cup (lo hi : Nat) : (s.clearSettings lo hi).cup = s.cup := rfl
@[simp] theorem State.clearSettings_loader (lo hi : Nat) : (s.clearSettings lo hi).loader = s.loader := rfl
@[simp] theorem State.clearSettings_catch (lo hi : Nat) : (s.clearSettings lo hi).catch' = s.catch' := rfl
@[simp] theorem State.clearSettings_villet (lo hi : Nat) : (s.clearSettings lo hi).villet = s.villet := rfl
@[simp] theorem State.clearSettings_pins (lo hi : Nat) : (s.clearSettings lo hi).pins = s.pins := rfl
@[simp] theorem State.clearSettings_pcie (lo hi : Nat) : (s.clearSettings lo hi).pcie = s.pcie := rfl
@[simp] theorem State.clearSettings_ecat (lo hi : Nat) : (s.clearSettings lo hi).ecat = s.ecat := rfl
@[simp] theorem State.clearSettings_tap (lo hi : Nat) : (s.clearSettings lo hi).tap = s.tap := rfl
@[simp] theorem State.clearSettings_pdoIrq (lo hi : Nat) : (s.clearSettings lo hi).pdoIrq = s.pdoIrq := rfl
@[simp] theorem State.clearSettings_recasts (lo hi : Nat) : (s.clearSettings lo hi).recasts = s.recasts := rfl
@[simp] theorem State.clearSettings_recastRow (lo hi : Nat) : (s.clearSettings lo hi).recastRow = s.recastRow := rfl
@[simp] theorem State.clearSettings_recastCount (lo hi : Nat) : (s.clearSettings lo hi).recastCount = s.recastCount := rfl
@[simp] theorem State.clearSettings_lmap (lo hi : Nat) : (s.clearSettings lo hi).lmap = s.lmap := rfl
@[simp] theorem State.clearSettings_dcRunning (lo hi : Nat) : (s.clearSettings lo hi).dcRunning = s.dcRunning := rfl
@[simp] theorem State.clearSettings_dcTime (lo hi : Nat) : (s.clearSettings lo hi).dcTime = s.dcTime := rfl
@[simp] theorem State.clearSettings_dcQuarter (lo hi : Nat) : (s.clearSettings lo hi).dcQuarter = s.dcQuarter := rfl
@[simp] theorem State.clearSettings_dram (lo hi : Nat) : (s.clearSettings lo hi).dram = s.dram := rfl
@[simp] theorem State.clearSettings_out (lo hi : Nat) : (s.clearSettings lo hi).out = s.out := rfl
@[simp] theorem State.clearSettings_fresh (lo hi : Nat) : (s.clearSettings lo hi).fresh = s.fresh := rfl
@[simp] theorem State.clearSettings_pending (lo hi : Nat) : (s.clearSettings lo hi).pending = s.pending := rfl

@[simp] theorem State.putSelector_power (path idx sub : Nat) (v : DWord) : (s.putSelector path idx sub v).power = s.power := rfl
@[simp] theorem State.putSelector_chill (path idx sub : Nat) (v : DWord) : (s.putSelector path idx sub v).chill = s.chill := rfl
@[simp] theorem State.putSelector_net (path idx sub : Nat) (v : DWord) : (s.putSelector path idx sub v).net = s.net := rfl
@[simp] theorem State.putSelector_flasks (path idx sub : Nat) (v : DWord) : (s.putSelector path idx sub v).flasks = s.flasks := rfl
@[simp] theorem State.putSelector_crus (path idx sub : Nat) (v : DWord) : (s.putSelector path idx sub v).crus = s.crus := rfl
@[simp] theorem State.putSelector_tun (path idx sub : Nat) (v : DWord) : (s.putSelector path idx sub v).tun = s.tun := rfl
@[simp] theorem State.putSelector_cores (path idx sub : Nat) (v : DWord) : (s.putSelector path idx sub v).cores = s.cores := rfl
@[simp] theorem State.putSelector_sram (path idx sub : Nat) (v : DWord) : (s.putSelector path idx sub v).sram = s.sram := rfl
@[simp] theorem State.putSelector_cup (path idx sub : Nat) (v : DWord) : (s.putSelector path idx sub v).cup = s.cup := rfl
@[simp] theorem State.putSelector_loader (path idx sub : Nat) (v : DWord) : (s.putSelector path idx sub v).loader = s.loader := rfl
@[simp] theorem State.putSelector_catch (path idx sub : Nat) (v : DWord) : (s.putSelector path idx sub v).catch' = s.catch' := rfl
@[simp] theorem State.putSelector_villet (path idx sub : Nat) (v : DWord) : (s.putSelector path idx sub v).villet = s.villet := rfl
@[simp] theorem State.putSelector_pins (path idx sub : Nat) (v : DWord) : (s.putSelector path idx sub v).pins = s.pins := rfl
@[simp] theorem State.putSelector_pcie (path idx sub : Nat) (v : DWord) : (s.putSelector path idx sub v).pcie = s.pcie := rfl
@[simp] theorem State.putSelector_ecat (path idx sub : Nat) (v : DWord) : (s.putSelector path idx sub v).ecat = s.ecat := rfl
@[simp] theorem State.putSelector_tap (path idx sub : Nat) (v : DWord) : (s.putSelector path idx sub v).tap = s.tap := rfl
@[simp] theorem State.putSelector_pdoIrq (path idx sub : Nat) (v : DWord) : (s.putSelector path idx sub v).pdoIrq = s.pdoIrq := rfl
@[simp] theorem State.putSelector_recasts (path idx sub : Nat) (v : DWord) : (s.putSelector path idx sub v).recasts = s.recasts := rfl
@[simp] theorem State.putSelector_recastRow (path idx sub : Nat) (v : DWord) : (s.putSelector path idx sub v).recastRow = s.recastRow := rfl
@[simp] theorem State.putSelector_recastCount (path idx sub : Nat) (v : DWord) : (s.putSelector path idx sub v).recastCount = s.recastCount := rfl
@[simp] theorem State.putSelector_lmap (path idx sub : Nat) (v : DWord) : (s.putSelector path idx sub v).lmap = s.lmap := rfl
@[simp] theorem State.putSelector_dcRunning (path idx sub : Nat) (v : DWord) : (s.putSelector path idx sub v).dcRunning = s.dcRunning := rfl
@[simp] theorem State.putSelector_dcTime (path idx sub : Nat) (v : DWord) : (s.putSelector path idx sub v).dcTime = s.dcTime := rfl
@[simp] theorem State.putSelector_dcQuarter (path idx sub : Nat) (v : DWord) : (s.putSelector path idx sub v).dcQuarter = s.dcQuarter := rfl
@[simp] theorem State.putSelector_dram (path idx sub : Nat) (v : DWord) : (s.putSelector path idx sub v).dram = s.dram := rfl
@[simp] theorem State.putSelector_out (path idx sub : Nat) (v : DWord) : (s.putSelector path idx sub v).out = s.out := rfl
@[simp] theorem State.putSelector_fresh (path idx sub : Nat) (v : DWord) : (s.putSelector path idx sub v).fresh = s.fresh := rfl
@[simp] theorem State.putSelector_pending (path idx sub : Nat) (v : DWord) : (s.putSelector path idx sub v).pending = s.pending := rfl

@[simp] theorem State.request_power (src dest oclass tc : Nat) (b : Body) : (s.request src dest oclass tc b).power = s.power := rfl
@[simp] theorem State.request_chill (src dest oclass tc : Nat) (b : Body) : (s.request src dest oclass tc b).chill = s.chill := rfl
@[simp] theorem State.request_dict (src dest oclass tc : Nat) (b : Body) : (s.request src dest oclass tc b).dict = s.dict := rfl
@[simp] theorem State.request_flasks (src dest oclass tc : Nat) (b : Body) : (s.request src dest oclass tc b).flasks = s.flasks := rfl
@[simp] theorem State.request_crus (src dest oclass tc : Nat) (b : Body) : (s.request src dest oclass tc b).crus = s.crus := rfl
@[simp] theorem State.request_tun (src dest oclass tc : Nat) (b : Body) : (s.request src dest oclass tc b).tun = s.tun := rfl
@[simp] theorem State.request_cores (src dest oclass tc : Nat) (b : Body) : (s.request src dest oclass tc b).cores = s.cores := rfl
@[simp] theorem State.request_sram (src dest oclass tc : Nat) (b : Body) : (s.request src dest oclass tc b).sram = s.sram := rfl
@[simp] theorem State.request_cup (src dest oclass tc : Nat) (b : Body) : (s.request src dest oclass tc b).cup = s.cup := rfl
@[simp] theorem State.request_loader (src dest oclass tc : Nat) (b : Body) : (s.request src dest oclass tc b).loader = s.loader := rfl
@[simp] theorem State.request_catch (src dest oclass tc : Nat) (b : Body) : (s.request src dest oclass tc b).catch' = s.catch' := rfl
@[simp] theorem State.request_villet (src dest oclass tc : Nat) (b : Body) : (s.request src dest oclass tc b).villet = s.villet := rfl
@[simp] theorem State.request_pins (src dest oclass tc : Nat) (b : Body) : (s.request src dest oclass tc b).pins = s.pins := rfl
@[simp] theorem State.request_pcie (src dest oclass tc : Nat) (b : Body) : (s.request src dest oclass tc b).pcie = s.pcie := rfl
@[simp] theorem State.request_ecat (src dest oclass tc : Nat) (b : Body) : (s.request src dest oclass tc b).ecat = s.ecat := rfl
@[simp] theorem State.request_tap (src dest oclass tc : Nat) (b : Body) : (s.request src dest oclass tc b).tap = s.tap := rfl
@[simp] theorem State.request_pdoIrq (src dest oclass tc : Nat) (b : Body) : (s.request src dest oclass tc b).pdoIrq = s.pdoIrq := rfl
@[simp] theorem State.request_recasts (src dest oclass tc : Nat) (b : Body) : (s.request src dest oclass tc b).recasts = s.recasts := rfl
@[simp] theorem State.request_recastRow (src dest oclass tc : Nat) (b : Body) : (s.request src dest oclass tc b).recastRow = s.recastRow := rfl
@[simp] theorem State.request_recastCount (src dest oclass tc : Nat) (b : Body) : (s.request src dest oclass tc b).recastCount = s.recastCount := rfl
@[simp] theorem State.request_lmap (src dest oclass tc : Nat) (b : Body) : (s.request src dest oclass tc b).lmap = s.lmap := rfl
@[simp] theorem State.request_dcRunning (src dest oclass tc : Nat) (b : Body) : (s.request src dest oclass tc b).dcRunning = s.dcRunning := rfl
@[simp] theorem State.request_dcTime (src dest oclass tc : Nat) (b : Body) : (s.request src dest oclass tc b).dcTime = s.dcTime := rfl
@[simp] theorem State.request_dcQuarter (src dest oclass tc : Nat) (b : Body) : (s.request src dest oclass tc b).dcQuarter = s.dcQuarter := rfl
@[simp] theorem State.request_dram (src dest oclass tc : Nat) (b : Body) : (s.request src dest oclass tc b).dram = s.dram := rfl
@[simp] theorem State.request_out (src dest oclass tc : Nat) (b : Body) : (s.request src dest oclass tc b).out = s.out := rfl
@[simp] theorem State.request_fresh (src dest oclass tc : Nat) (b : Body) : (s.request src dest oclass tc b).fresh = s.fresh := rfl
@[simp] theorem State.request_pending (src dest oclass tc : Nat) (b : Body) : (s.request src dest oclass tc b).pending = s.pending := rfl

@[simp] theorem State.answer_power (src dest oclass tag : Nat) (b : Body) : (s.answer src dest oclass tag b).power = s.power := rfl
@[simp] theorem State.answer_chill (src dest oclass tag : Nat) (b : Body) : (s.answer src dest oclass tag b).chill = s.chill := rfl
@[simp] theorem State.answer_dict (src dest oclass tag : Nat) (b : Body) : (s.answer src dest oclass tag b).dict = s.dict := rfl
@[simp] theorem State.answer_flasks (src dest oclass tag : Nat) (b : Body) : (s.answer src dest oclass tag b).flasks = s.flasks := rfl
@[simp] theorem State.answer_crus (src dest oclass tag : Nat) (b : Body) : (s.answer src dest oclass tag b).crus = s.crus := rfl
@[simp] theorem State.answer_tun (src dest oclass tag : Nat) (b : Body) : (s.answer src dest oclass tag b).tun = s.tun := rfl
@[simp] theorem State.answer_cores (src dest oclass tag : Nat) (b : Body) : (s.answer src dest oclass tag b).cores = s.cores := rfl
@[simp] theorem State.answer_sram (src dest oclass tag : Nat) (b : Body) : (s.answer src dest oclass tag b).sram = s.sram := rfl
@[simp] theorem State.answer_cup (src dest oclass tag : Nat) (b : Body) : (s.answer src dest oclass tag b).cup = s.cup := rfl
@[simp] theorem State.answer_loader (src dest oclass tag : Nat) (b : Body) : (s.answer src dest oclass tag b).loader = s.loader := rfl
@[simp] theorem State.answer_catch (src dest oclass tag : Nat) (b : Body) : (s.answer src dest oclass tag b).catch' = s.catch' := rfl
@[simp] theorem State.answer_villet (src dest oclass tag : Nat) (b : Body) : (s.answer src dest oclass tag b).villet = s.villet := rfl
@[simp] theorem State.answer_pins (src dest oclass tag : Nat) (b : Body) : (s.answer src dest oclass tag b).pins = s.pins := rfl
@[simp] theorem State.answer_pcie (src dest oclass tag : Nat) (b : Body) : (s.answer src dest oclass tag b).pcie = s.pcie := rfl
@[simp] theorem State.answer_ecat (src dest oclass tag : Nat) (b : Body) : (s.answer src dest oclass tag b).ecat = s.ecat := rfl
@[simp] theorem State.answer_tap (src dest oclass tag : Nat) (b : Body) : (s.answer src dest oclass tag b).tap = s.tap := rfl
@[simp] theorem State.answer_pdoIrq (src dest oclass tag : Nat) (b : Body) : (s.answer src dest oclass tag b).pdoIrq = s.pdoIrq := rfl
@[simp] theorem State.answer_recasts (src dest oclass tag : Nat) (b : Body) : (s.answer src dest oclass tag b).recasts = s.recasts := rfl
@[simp] theorem State.answer_recastRow (src dest oclass tag : Nat) (b : Body) : (s.answer src dest oclass tag b).recastRow = s.recastRow := rfl
@[simp] theorem State.answer_recastCount (src dest oclass tag : Nat) (b : Body) : (s.answer src dest oclass tag b).recastCount = s.recastCount := rfl
@[simp] theorem State.answer_lmap (src dest oclass tag : Nat) (b : Body) : (s.answer src dest oclass tag b).lmap = s.lmap := rfl
@[simp] theorem State.answer_dcRunning (src dest oclass tag : Nat) (b : Body) : (s.answer src dest oclass tag b).dcRunning = s.dcRunning := rfl
@[simp] theorem State.answer_dcTime (src dest oclass tag : Nat) (b : Body) : (s.answer src dest oclass tag b).dcTime = s.dcTime := rfl
@[simp] theorem State.answer_dcQuarter (src dest oclass tag : Nat) (b : Body) : (s.answer src dest oclass tag b).dcQuarter = s.dcQuarter := rfl
@[simp] theorem State.answer_dram (src dest oclass tag : Nat) (b : Body) : (s.answer src dest oclass tag b).dram = s.dram := rfl
@[simp] theorem State.answer_out (src dest oclass tag : Nat) (b : Body) : (s.answer src dest oclass tag b).out = s.out := rfl
@[simp] theorem State.answer_fresh (src dest oclass tag : Nat) (b : Body) : (s.answer src dest oclass tag b).fresh = s.fresh := rfl
@[simp] theorem State.answer_pending (src dest oclass tag : Nat) (b : Body) : (s.answer src dest oclass tag b).pending = s.pending := rfl


@[simp] theorem State.takeAnswer_power (i who : Nat) (b : Body) : (s.takeAnswer i who b).power = s.power := rfl
@[simp] theorem State.takeAnswer_chill (i who : Nat) (b : Body) : (s.takeAnswer i who b).chill = s.chill := rfl
@[simp] theorem State.takeAnswer_dict (i who : Nat) (b : Body) : (s.takeAnswer i who b).dict = s.dict := rfl
@[simp] theorem State.takeAnswer_flasks (i who : Nat) (b : Body) : (s.takeAnswer i who b).flasks = s.flasks := rfl
@[simp] theorem State.takeAnswer_crus (i who : Nat) (b : Body) : (s.takeAnswer i who b).crus = s.crus := rfl
@[simp] theorem State.takeAnswer_tun (i who : Nat) (b : Body) : (s.takeAnswer i who b).tun = s.tun := rfl
@[simp] theorem State.takeAnswer_cores (i who : Nat) (b : Body) : (s.takeAnswer i who b).cores = s.cores := rfl
@[simp] theorem State.takeAnswer_sram (i who : Nat) (b : Body) : (s.takeAnswer i who b).sram = s.sram := rfl
@[simp] theorem State.takeAnswer_cup (i who : Nat) (b : Body) : (s.takeAnswer i who b).cup = s.cup := rfl
@[simp] theorem State.takeAnswer_loader (i who : Nat) (b : Body) : (s.takeAnswer i who b).loader = s.loader := rfl
@[simp] theorem State.takeAnswer_catch (i who : Nat) (b : Body) : (s.takeAnswer i who b).catch' = s.catch' := rfl
@[simp] theorem State.takeAnswer_villet (i who : Nat) (b : Body) : (s.takeAnswer i who b).villet = s.villet := rfl
@[simp] theorem State.takeAnswer_pins (i who : Nat) (b : Body) : (s.takeAnswer i who b).pins = s.pins := rfl
@[simp] theorem State.takeAnswer_pcie (i who : Nat) (b : Body) : (s.takeAnswer i who b).pcie = s.pcie := rfl
@[simp] theorem State.takeAnswer_ecat (i who : Nat) (b : Body) : (s.takeAnswer i who b).ecat = s.ecat := rfl
@[simp] theorem State.takeAnswer_tap (i who : Nat) (b : Body) : (s.takeAnswer i who b).tap = s.tap := rfl
@[simp] theorem State.takeAnswer_pdoIrq (i who : Nat) (b : Body) : (s.takeAnswer i who b).pdoIrq = s.pdoIrq := rfl
@[simp] theorem State.takeAnswer_recasts (i who : Nat) (b : Body) : (s.takeAnswer i who b).recasts = s.recasts := rfl
@[simp] theorem State.takeAnswer_recastRow (i who : Nat) (b : Body) : (s.takeAnswer i who b).recastRow = s.recastRow := rfl
@[simp] theorem State.takeAnswer_recastCount (i who : Nat) (b : Body) : (s.takeAnswer i who b).recastCount = s.recastCount := rfl
@[simp] theorem State.takeAnswer_lmap (i who : Nat) (b : Body) : (s.takeAnswer i who b).lmap = s.lmap := rfl
@[simp] theorem State.takeAnswer_dcRunning (i who : Nat) (b : Body) : (s.takeAnswer i who b).dcRunning = s.dcRunning := rfl
@[simp] theorem State.takeAnswer_dcTime (i who : Nat) (b : Body) : (s.takeAnswer i who b).dcTime = s.dcTime := rfl
@[simp] theorem State.takeAnswer_dcQuarter (i who : Nat) (b : Body) : (s.takeAnswer i who b).dcQuarter = s.dcQuarter := rfl
@[simp] theorem State.takeAnswer_dram (i who : Nat) (b : Body) : (s.takeAnswer i who b).dram = s.dram := rfl
@[simp] theorem State.takeAnswer_out (i who : Nat) (b : Body) : (s.takeAnswer i who b).out = s.out := rfl
@[simp] theorem State.takeAnswer_fresh (i who : Nat) (b : Body) : (s.takeAnswer i who b).fresh = s.fresh := rfl
@[simp] theorem State.takeAnswer_pending (i who : Nat) (b : Body) : (s.takeAnswer i who b).pending = s.pending := rfl

@[simp] theorem State.dramPut_power (w : Nat) (v : NWord) : (s.dramPut w v).power = s.power := rfl
@[simp] theorem State.dramPut_chill (w : Nat) (v : NWord) : (s.dramPut w v).chill = s.chill := rfl
@[simp] theorem State.dramPut_dict (w : Nat) (v : NWord) : (s.dramPut w v).dict = s.dict := rfl
@[simp] theorem State.dramPut_net (w : Nat) (v : NWord) : (s.dramPut w v).net = s.net := rfl
@[simp] theorem State.dramPut_flasks (w : Nat) (v : NWord) : (s.dramPut w v).flasks = s.flasks := rfl
@[simp] theorem State.dramPut_crus (w : Nat) (v : NWord) : (s.dramPut w v).crus = s.crus := rfl
@[simp] theorem State.dramPut_tun (w : Nat) (v : NWord) : (s.dramPut w v).tun = s.tun := rfl
@[simp] theorem State.dramPut_cores (w : Nat) (v : NWord) : (s.dramPut w v).cores = s.cores := rfl
@[simp] theorem State.dramPut_sram (w : Nat) (v : NWord) : (s.dramPut w v).sram = s.sram := rfl
@[simp] theorem State.dramPut_cup (w : Nat) (v : NWord) : (s.dramPut w v).cup = s.cup := rfl
@[simp] theorem State.dramPut_loader (w : Nat) (v : NWord) : (s.dramPut w v).loader = s.loader := rfl
@[simp] theorem State.dramPut_catch (w : Nat) (v : NWord) : (s.dramPut w v).catch' = s.catch' := rfl
@[simp] theorem State.dramPut_villet (w : Nat) (v : NWord) : (s.dramPut w v).villet = s.villet := rfl
@[simp] theorem State.dramPut_pins (w : Nat) (v : NWord) : (s.dramPut w v).pins = s.pins := rfl
@[simp] theorem State.dramPut_pcie (w : Nat) (v : NWord) : (s.dramPut w v).pcie = s.pcie := rfl
@[simp] theorem State.dramPut_ecat (w : Nat) (v : NWord) : (s.dramPut w v).ecat = s.ecat := rfl
@[simp] theorem State.dramPut_tap (w : Nat) (v : NWord) : (s.dramPut w v).tap = s.tap := rfl
@[simp] theorem State.dramPut_pdoIrq (w : Nat) (v : NWord) : (s.dramPut w v).pdoIrq = s.pdoIrq := rfl
@[simp] theorem State.dramPut_recasts (w : Nat) (v : NWord) : (s.dramPut w v).recasts = s.recasts := rfl
@[simp] theorem State.dramPut_recastRow (w : Nat) (v : NWord) : (s.dramPut w v).recastRow = s.recastRow := rfl
@[simp] theorem State.dramPut_recastCount (w : Nat) (v : NWord) : (s.dramPut w v).recastCount = s.recastCount := rfl
@[simp] theorem State.dramPut_lmap (w : Nat) (v : NWord) : (s.dramPut w v).lmap = s.lmap := rfl
@[simp] theorem State.dramPut_dcRunning (w : Nat) (v : NWord) : (s.dramPut w v).dcRunning = s.dcRunning := rfl
@[simp] theorem State.dramPut_dcTime (w : Nat) (v : NWord) : (s.dramPut w v).dcTime = s.dcTime := rfl
@[simp] theorem State.dramPut_dcQuarter (w : Nat) (v : NWord) : (s.dramPut w v).dcQuarter = s.dcQuarter := rfl
@[simp] theorem State.dramPut_out (w : Nat) (v : NWord) : (s.dramPut w v).out = s.out := rfl
@[simp] theorem State.dramPut_fresh (w : Nat) (v : NWord) : (s.dramPut w v).fresh = s.fresh := rfl
@[simp] theorem State.dramPut_pending (w : Nat) (v : NWord) : (s.dramPut w v).pending = s.pending := rfl

@[simp] theorem State.modFlask_same (p : Nat) (g : Flask → Flask) : (s.modFlask p g).flask p = g (s.flask p) := by simp [State.modFlask, State.flask]
theorem State.modFlask_ne (p : Nat) (g : Flask → Flask) (j : Nat) (h : j ≠ p) : (s.modFlask p g).flask j = s.flask j := by
  simp [State.modFlask, State.flask, Tab.get_modify_ne, h]
@[simp] theorem State.modFlask_cru (p : Nat) (g : Flask → Flask) (j : Nat) : (s.modFlask p g).cru j = s.cru j := rfl
@[simp] theorem State.modFlask_recast (p : Nat) (g : Flask → Flask) (j : Nat) : (s.modFlask p g).recast j = s.recast j := rfl
@[simp] theorem State.modFlask_gate (p : Nat) (g : Flask → Flask) (j : Nat) : (s.modFlask p g).gate j = s.gate j := rfl
@[simp] theorem State.modFlask_router (p : Nat) (g : Flask → Flask) (j : Nat) : (s.modFlask p g).router j = s.router j := rfl
@[simp] theorem State.modFlask_dom (p : Nat) (g : Flask → Flask) (j : Nat) : (s.modFlask p g).dom j = s.dom j := rfl
@[simp] theorem State.modFlask_path (p : Nat) (g : Flask → Flask) (j : Nat) : (s.modFlask p g).path j = s.path j := rfl
@[simp] theorem State.modFlask_session (p : Nat) (g : Flask → Flask) (j : Nat) : (s.modFlask p g).session j = s.session j := rfl
@[simp] theorem State.modCru_same (p : Nat) (g : Cru → Cru) : (s.modCru p g).cru p = g (s.cru p) := by simp [State.modCru, State.cru]
theorem State.modCru_ne (p : Nat) (g : Cru → Cru) (j : Nat) (h : j ≠ p) : (s.modCru p g).cru j = s.cru j := by
  simp [State.modCru, State.cru, Tab.get_modify_ne, h]
@[simp] theorem State.modCru_flask (p : Nat) (g : Cru → Cru) (j : Nat) : (s.modCru p g).flask j = s.flask j := rfl
@[simp] theorem State.modCru_recast (p : Nat) (g : Cru → Cru) (j : Nat) : (s.modCru p g).recast j = s.recast j := rfl
@[simp] theorem State.modCru_gate (p : Nat) (g : Cru → Cru) (j : Nat) : (s.modCru p g).gate j = s.gate j := rfl
@[simp] theorem State.modCru_router (p : Nat) (g : Cru → Cru) (j : Nat) : (s.modCru p g).router j = s.router j := rfl
@[simp] theorem State.modCru_dom (p : Nat) (g : Cru → Cru) (j : Nat) : (s.modCru p g).dom j = s.dom j := rfl
@[simp] theorem State.modCru_path (p : Nat) (g : Cru → Cru) (j : Nat) : (s.modCru p g).path j = s.path j := rfl
@[simp] theorem State.modCru_session (p : Nat) (g : Cru → Cru) (j : Nat) : (s.modCru p g).session j = s.session j := rfl
@[simp] theorem State.modRecast_same (y : Nat) (g : Recast → Recast) : (s.modRecast y g).recast y = g (s.recast y) := by simp [State.modRecast, State.recast]
theorem State.modRecast_ne (y : Nat) (g : Recast → Recast) (j : Nat) (h : j ≠ y) : (s.modRecast y g).recast j = s.recast j := by
  simp [State.modRecast, State.recast, Tab.get_modify_ne, h]
@[simp] theorem State.modRecast_flask (y : Nat) (g : Recast → Recast) (j : Nat) : (s.modRecast y g).flask j = s.flask j := rfl
@[simp] theorem State.modRecast_cru (y : Nat) (g : Recast → Recast) (j : Nat) : (s.modRecast y g).cru j = s.cru j := rfl
@[simp] theorem State.modRecast_gate (y : Nat) (g : Recast → Recast) (j : Nat) : (s.modRecast y g).gate j = s.gate j := rfl
@[simp] theorem State.modRecast_router (y : Nat) (g : Recast → Recast) (j : Nat) : (s.modRecast y g).router j = s.router j := rfl
@[simp] theorem State.modRecast_dom (y : Nat) (g : Recast → Recast) (j : Nat) : (s.modRecast y g).dom j = s.dom j := rfl
@[simp] theorem State.modRecast_path (y : Nat) (g : Recast → Recast) (j : Nat) : (s.modRecast y g).path j = s.path j := rfl
@[simp] theorem State.modRecast_session (y : Nat) (g : Recast → Recast) (j : Nat) : (s.modRecast y g).session j = s.session j := rfl
@[simp] theorem State.modGate_same (i : Nat) (g : Gate → Gate) : (s.modGate i g).gate i = g (s.gate i) := by simp [State.modGate, State.gate]
theorem State.modGate_ne (i : Nat) (g : Gate → Gate) (j : Nat) (h : j ≠ i) : (s.modGate i g).gate j = s.gate j := by
  simp [State.modGate, State.gate, Tab.get_modify_ne, h]
@[simp] theorem State.modGate_flask (i : Nat) (g : Gate → Gate) (j : Nat) : (s.modGate i g).flask j = s.flask j := rfl
@[simp] theorem State.modGate_cru (i : Nat) (g : Gate → Gate) (j : Nat) : (s.modGate i g).cru j = s.cru j := rfl
@[simp] theorem State.modGate_recast (i : Nat) (g : Gate → Gate) (j : Nat) : (s.modGate i g).recast j = s.recast j := rfl
@[simp] theorem State.modGate_router (i : Nat) (g : Gate → Gate) (j : Nat) : (s.modGate i g).router j = s.router j := rfl
@[simp] theorem State.modGate_dom (i : Nat) (g : Gate → Gate) (j : Nat) : (s.modGate i g).dom j = s.dom j := rfl
@[simp] theorem State.modGate_path (i : Nat) (g : Gate → Gate) (j : Nat) : (s.modGate i g).path j = s.path j := rfl
@[simp] theorem State.modGate_session (i : Nat) (g : Gate → Gate) (j : Nat) : (s.modGate i g).session j = s.session j := rfl
@[simp] theorem State.modRouter_same (r : Nat) (g : Router → Router) : (s.modRouter r g).router r = g (s.router r) := by simp [State.modRouter, State.router]
theorem State.modRouter_ne (r : Nat) (g : Router → Router) (j : Nat) (h : j ≠ r) : (s.modRouter r g).router j = s.router j := by
  simp [State.modRouter, State.router, Tab.get_modify_ne, h]
@[simp] theorem State.modRouter_flask (r : Nat) (g : Router → Router) (j : Nat) : (s.modRouter r g).flask j = s.flask j := rfl
@[simp] theorem State.modRouter_cru (r : Nat) (g : Router → Router) (j : Nat) : (s.modRouter r g).cru j = s.cru j := rfl
@[simp] theorem State.modRouter_recast (r : Nat) (g : Router → Router) (j : Nat) : (s.modRouter r g).recast j = s.recast j := rfl
@[simp] theorem State.modRouter_gate (r : Nat) (g : Router → Router) (j : Nat) : (s.modRouter r g).gate j = s.gate j := rfl
@[simp] theorem State.modRouter_dom (r : Nat) (g : Router → Router) (j : Nat) : (s.modRouter r g).dom j = s.dom j := rfl
@[simp] theorem State.modRouter_path (r : Nat) (g : Router → Router) (j : Nat) : (s.modRouter r g).path j = s.path j := rfl
@[simp] theorem State.modRouter_session (r : Nat) (g : Router → Router) (j : Nat) : (s.modRouter r g).session j = s.session j := rfl
@[simp] theorem State.modDom_same (d : Nat) (g : Dom → Dom) : (s.modDom d g).dom d = g (s.dom d) := by simp [State.modDom, State.dom]
theorem State.modDom_ne (d : Nat) (g : Dom → Dom) (j : Nat) (h : j ≠ d) : (s.modDom d g).dom j = s.dom j := by
  simp [State.modDom, State.dom, Tab.get_modify_ne, h]
@[simp] theorem State.modDom_flask (d : Nat) (g : Dom → Dom) (j : Nat) : (s.modDom d g).flask j = s.flask j := rfl
@[simp] theorem State.modDom_cru (d : Nat) (g : Dom → Dom) (j : Nat) : (s.modDom d g).cru j = s.cru j := rfl
@[simp] theorem State.modDom_recast (d : Nat) (g : Dom → Dom) (j : Nat) : (s.modDom d g).recast j = s.recast j := rfl
@[simp] theorem State.modDom_gate (d : Nat) (g : Dom → Dom) (j : Nat) : (s.modDom d g).gate j = s.gate j := rfl
@[simp] theorem State.modDom_router (d : Nat) (g : Dom → Dom) (j : Nat) : (s.modDom d g).router j = s.router j := rfl
@[simp] theorem State.modDom_path (d : Nat) (g : Dom → Dom) (j : Nat) : (s.modDom d g).path j = s.path j := rfl
@[simp] theorem State.modDom_session (d : Nat) (g : Dom → Dom) (j : Nat) : (s.modDom d g).session j = s.session j := rfl
@[simp] theorem State.modPath_same (p : Nat) (g : Path → Path) : (s.modPath p g).path p = g (s.path p) := by simp [State.modPath, State.path]
theorem State.modPath_ne (p : Nat) (g : Path → Path) (j : Nat) (h : j ≠ p) : (s.modPath p g).path j = s.path j := by
  simp [State.modPath, State.path, Tab.get_modify_ne, h]
@[simp] theorem State.modPath_flask (p : Nat) (g : Path → Path) (j : Nat) : (s.modPath p g).flask j = s.flask j := rfl
@[simp] theorem State.modPath_cru (p : Nat) (g : Path → Path) (j : Nat) : (s.modPath p g).cru j = s.cru j := rfl
@[simp] theorem State.modPath_recast (p : Nat) (g : Path → Path) (j : Nat) : (s.modPath p g).recast j = s.recast j := rfl
@[simp] theorem State.modPath_gate (p : Nat) (g : Path → Path) (j : Nat) : (s.modPath p g).gate j = s.gate j := rfl
@[simp] theorem State.modPath_router (p : Nat) (g : Path → Path) (j : Nat) : (s.modPath p g).router j = s.router j := rfl
@[simp] theorem State.modPath_dom (p : Nat) (g : Path → Path) (j : Nat) : (s.modPath p g).dom j = s.dom j := rfl
@[simp] theorem State.modPath_session (p : Nat) (g : Path → Path) (j : Nat) : (s.modPath p g).session j = s.session j := rfl
@[simp] theorem State.modSession_same (n : Nat) (g : Session → Session) : (s.modSession n g).session n = g (s.session n) := by simp [State.modSession, State.session]
theorem State.modSession_ne (n : Nat) (g : Session → Session) (j : Nat) (h : j ≠ n) : (s.modSession n g).session j = s.session j := by
  simp [State.modSession, State.session, Tab.get_modify_ne, h]
@[simp] theorem State.modSession_flask (n : Nat) (g : Session → Session) (j : Nat) : (s.modSession n g).flask j = s.flask j := rfl
@[simp] theorem State.modSession_cru (n : Nat) (g : Session → Session) (j : Nat) : (s.modSession n g).cru j = s.cru j := rfl
@[simp] theorem State.modSession_recast (n : Nat) (g : Session → Session) (j : Nat) : (s.modSession n g).recast j = s.recast j := rfl
@[simp] theorem State.modSession_gate (n : Nat) (g : Session → Session) (j : Nat) : (s.modSession n g).gate j = s.gate j := rfl
@[simp] theorem State.modSession_router (n : Nat) (g : Session → Session) (j : Nat) : (s.modSession n g).router j = s.router j := rfl
@[simp] theorem State.modSession_dom (n : Nat) (g : Session → Session) (j : Nat) : (s.modSession n g).dom j = s.dom j := rfl
@[simp] theorem State.modSession_path (n : Nat) (g : Session → Session) (j : Nat) : (s.modSession n g).path j = s.path j := rfl
@[simp] theorem State.emit_flask (o : Out) (j : Nat) : (s.emit o).flask j = s.flask j := rfl
@[simp] theorem State.emit_cru (o : Out) (j : Nat) : (s.emit o).cru j = s.cru j := rfl
@[simp] theorem State.emit_recast (o : Out) (j : Nat) : (s.emit o).recast j = s.recast j := rfl
@[simp] theorem State.emit_gate (o : Out) (j : Nat) : (s.emit o).gate j = s.gate j := rfl
@[simp] theorem State.emit_router (o : Out) (j : Nat) : (s.emit o).router j = s.router j := rfl
@[simp] theorem State.emit_dom (o : Out) (j : Nat) : (s.emit o).dom j = s.dom j := rfl
@[simp] theorem State.emit_path (o : Out) (j : Nat) : (s.emit o).path j = s.path j := rfl
@[simp] theorem State.emit_session (o : Out) (j : Nat) : (s.emit o).session j = s.session j := rfl
@[simp] theorem State.putSettingOf_flask (obj idx sub : Nat) (v : DWord) (j : Nat) : (s.putSettingOf obj idx sub v).flask j = s.flask j := rfl
@[simp] theorem State.putSettingOf_cru (obj idx sub : Nat) (v : DWord) (j : Nat) : (s.putSettingOf obj idx sub v).cru j = s.cru j := rfl
@[simp] theorem State.putSettingOf_recast (obj idx sub : Nat) (v : DWord) (j : Nat) : (s.putSettingOf obj idx sub v).recast j = s.recast j := rfl
@[simp] theorem State.putSettingOf_gate (obj idx sub : Nat) (v : DWord) (j : Nat) : (s.putSettingOf obj idx sub v).gate j = s.gate j := rfl
@[simp] theorem State.putSettingOf_router (obj idx sub : Nat) (v : DWord) (j : Nat) : (s.putSettingOf obj idx sub v).router j = s.router j := rfl
@[simp] theorem State.putSettingOf_dom (obj idx sub : Nat) (v : DWord) (j : Nat) : (s.putSettingOf obj idx sub v).dom j = s.dom j := rfl
@[simp] theorem State.putSettingOf_path (obj idx sub : Nat) (v : DWord) (j : Nat) : (s.putSettingOf obj idx sub v).path j = s.path j := rfl
@[simp] theorem State.putSettingOf_session (obj idx sub : Nat) (v : DWord) (j : Nat) : (s.putSettingOf obj idx sub v).session j = s.session j := rfl
@[simp] theorem State.putSetting_flask (idx sub : Nat) (v : DWord) (j : Nat) : (s.putSetting idx sub v).flask j = s.flask j := rfl
@[simp] theorem State.putSetting_cru (idx sub : Nat) (v : DWord) (j : Nat) : (s.putSetting idx sub v).cru j = s.cru j := rfl
@[simp] theorem State.putSetting_recast (idx sub : Nat) (v : DWord) (j : Nat) : (s.putSetting idx sub v).recast j = s.recast j := rfl
@[simp] theorem State.putSetting_gate (idx sub : Nat) (v : DWord) (j : Nat) : (s.putSetting idx sub v).gate j = s.gate j := rfl
@[simp] theorem State.putSetting_router (idx sub : Nat) (v : DWord) (j : Nat) : (s.putSetting idx sub v).router j = s.router j := rfl
@[simp] theorem State.putSetting_dom (idx sub : Nat) (v : DWord) (j : Nat) : (s.putSetting idx sub v).dom j = s.dom j := rfl
@[simp] theorem State.putSetting_path (idx sub : Nat) (v : DWord) (j : Nat) : (s.putSetting idx sub v).path j = s.path j := rfl
@[simp] theorem State.putSetting_session (idx sub : Nat) (v : DWord) (j : Nat) : (s.putSetting idx sub v).session j = s.session j := rfl
@[simp] theorem State.clearSettings_flask (lo hi : Nat) (j : Nat) : (s.clearSettings lo hi).flask j = s.flask j := rfl
@[simp] theorem State.clearSettings_cru (lo hi : Nat) (j : Nat) : (s.clearSettings lo hi).cru j = s.cru j := rfl
@[simp] theorem State.clearSettings_recast (lo hi : Nat) (j : Nat) : (s.clearSettings lo hi).recast j = s.recast j := rfl
@[simp] theorem State.clearSettings_gate (lo hi : Nat) (j : Nat) : (s.clearSettings lo hi).gate j = s.gate j := rfl
@[simp] theorem State.clearSettings_router (lo hi : Nat) (j : Nat) : (s.clearSettings lo hi).router j = s.router j := rfl
@[simp] theorem State.clearSettings_dom (lo hi : Nat) (j : Nat) : (s.clearSettings lo hi).dom j = s.dom j := rfl
@[simp] theorem State.clearSettings_path (lo hi : Nat) (j : Nat) : (s.clearSettings lo hi).path j = s.path j := rfl
@[simp] theorem State.clearSettings_session (lo hi : Nat) (j : Nat) : (s.clearSettings lo hi).session j = s.session j := rfl
@[simp] theorem State.putSelector_flask (path idx sub : Nat) (v : DWord) (j : Nat) : (s.putSelector path idx sub v).flask j = s.flask j := rfl
@[simp] theorem State.putSelector_cru (path idx sub : Nat) (v : DWord) (j : Nat) : (s.putSelector path idx sub v).cru j = s.cru j := rfl
@[simp] theorem State.putSelector_recast (path idx sub : Nat) (v : DWord) (j : Nat) : (s.putSelector path idx sub v).recast j = s.recast j := rfl
@[simp] theorem State.putSelector_gate (path idx sub : Nat) (v : DWord) (j : Nat) : (s.putSelector path idx sub v).gate j = s.gate j := rfl
@[simp] theorem State.putSelector_router (path idx sub : Nat) (v : DWord) (j : Nat) : (s.putSelector path idx sub v).router j = s.router j := rfl
@[simp] theorem State.putSelector_dom (path idx sub : Nat) (v : DWord) (j : Nat) : (s.putSelector path idx sub v).dom j = s.dom j := rfl
@[simp] theorem State.putSelector_path (path idx sub : Nat) (v : DWord) (j : Nat) : (s.putSelector path idx sub v).path j = s.path j := rfl
@[simp] theorem State.putSelector_session (path idx sub : Nat) (v : DWord) (j : Nat) : (s.putSelector path idx sub v).session j = s.session j := rfl
@[simp] theorem State.request_flask (src dest oclass tc : Nat) (b : Body) (j : Nat) : (s.request src dest oclass tc b).flask j = s.flask j := rfl
@[simp] theorem State.request_cru (src dest oclass tc : Nat) (b : Body) (j : Nat) : (s.request src dest oclass tc b).cru j = s.cru j := rfl
@[simp] theorem State.request_recast (src dest oclass tc : Nat) (b : Body) (j : Nat) : (s.request src dest oclass tc b).recast j = s.recast j := rfl
@[simp] theorem State.request_router (src dest oclass tc : Nat) (b : Body) (j : Nat) : (s.request src dest oclass tc b).router j = s.router j := rfl
@[simp] theorem State.request_dom (src dest oclass tc : Nat) (b : Body) (j : Nat) : (s.request src dest oclass tc b).dom j = s.dom j := rfl
@[simp] theorem State.request_path (src dest oclass tc : Nat) (b : Body) (j : Nat) : (s.request src dest oclass tc b).path j = s.path j := rfl
@[simp] theorem State.request_session (src dest oclass tc : Nat) (b : Body) (j : Nat) : (s.request src dest oclass tc b).session j = s.session j := rfl
@[simp] theorem State.answer_flask (src dest oclass tag : Nat) (b : Body) (j : Nat) : (s.answer src dest oclass tag b).flask j = s.flask j := rfl
@[simp] theorem State.answer_cru (src dest oclass tag : Nat) (b : Body) (j : Nat) : (s.answer src dest oclass tag b).cru j = s.cru j := rfl
@[simp] theorem State.answer_recast (src dest oclass tag : Nat) (b : Body) (j : Nat) : (s.answer src dest oclass tag b).recast j = s.recast j := rfl
@[simp] theorem State.answer_gate (src dest oclass tag : Nat) (b : Body) (j : Nat) : (s.answer src dest oclass tag b).gate j = s.gate j := rfl
@[simp] theorem State.answer_router (src dest oclass tag : Nat) (b : Body) (j : Nat) : (s.answer src dest oclass tag b).router j = s.router j := rfl
@[simp] theorem State.answer_dom (src dest oclass tag : Nat) (b : Body) (j : Nat) : (s.answer src dest oclass tag b).dom j = s.dom j := rfl
@[simp] theorem State.answer_path (src dest oclass tag : Nat) (b : Body) (j : Nat) : (s.answer src dest oclass tag b).path j = s.path j := rfl
@[simp] theorem State.answer_session (src dest oclass tag : Nat) (b : Body) (j : Nat) : (s.answer src dest oclass tag b).session j = s.session j := rfl
@[simp] theorem State.takeAnswer_flask (i who : Nat) (b : Body) (j : Nat) : (s.takeAnswer i who b).flask j = s.flask j := rfl
@[simp] theorem State.takeAnswer_cru (i who : Nat) (b : Body) (j : Nat) : (s.takeAnswer i who b).cru j = s.cru j := rfl
@[simp] theorem State.takeAnswer_recast (i who : Nat) (b : Body) (j : Nat) : (s.takeAnswer i who b).recast j = s.recast j := rfl
@[simp] theorem State.takeAnswer_router (i who : Nat) (b : Body) (j : Nat) : (s.takeAnswer i who b).router j = s.router j := rfl
@[simp] theorem State.takeAnswer_dom (i who : Nat) (b : Body) (j : Nat) : (s.takeAnswer i who b).dom j = s.dom j := rfl
@[simp] theorem State.takeAnswer_path (i who : Nat) (b : Body) (j : Nat) : (s.takeAnswer i who b).path j = s.path j := rfl
@[simp] theorem State.takeAnswer_session (i who : Nat) (b : Body) (j : Nat) : (s.takeAnswer i who b).session j = s.session j := rfl
@[simp] theorem State.dramPut_flask (w : Nat) (v : NWord) (j : Nat) : (s.dramPut w v).flask j = s.flask j := rfl
@[simp] theorem State.dramPut_cru (w : Nat) (v : NWord) (j : Nat) : (s.dramPut w v).cru j = s.cru j := rfl
@[simp] theorem State.dramPut_recast (w : Nat) (v : NWord) (j : Nat) : (s.dramPut w v).recast j = s.recast j := rfl
@[simp] theorem State.dramPut_gate (w : Nat) (v : NWord) (j : Nat) : (s.dramPut w v).gate j = s.gate j := rfl
@[simp] theorem State.dramPut_router (w : Nat) (v : NWord) (j : Nat) : (s.dramPut w v).router j = s.router j := rfl
@[simp] theorem State.dramPut_dom (w : Nat) (v : NWord) (j : Nat) : (s.dramPut w v).dom j = s.dom j := rfl
@[simp] theorem State.dramPut_path (w : Nat) (v : NWord) (j : Nat) : (s.dramPut w v).path j = s.path j := rfl
@[simp] theorem State.dramPut_session (w : Nat) (v : NWord) (j : Nat) : (s.dramPut w v).session j = s.session j := rfl
@[simp] theorem State.modGate_net_routers (i : Nat) (g : Gate → Gate) : (s.modGate i g).net.routers = s.net.routers := rfl
@[simp] theorem State.modGate_net_wire (i : Nat) (g : Gate → Gate) : (s.modGate i g).net.wire = s.net.wire := rfl
@[simp] theorem State.modGate_net_dataCorrected (i : Nat) (g : Gate → Gate) : (s.modGate i g).net.dataCorrected = s.net.dataCorrected := rfl
@[simp] theorem State.modGate_net_dataPoisoned (i : Nat) (g : Gate → Gate) : (s.modGate i g).net.dataPoisoned = s.net.dataPoisoned := rfl
@[simp] theorem State.modGate_net_lostCount (i : Nat) (g : Gate → Gate) : (s.modGate i g).net.lostCount = s.net.lostCount := rfl
@[simp] theorem State.modGate_net_lateAnswers (i : Nat) (g : Gate → Gate) : (s.modGate i g).net.lateAnswers = s.net.lateAnswers := rfl
@[simp] theorem State.modRouter_net_gates (r : Nat) (g : Router → Router) : (s.modRouter r g).net.gates = s.net.gates := rfl
@[simp] theorem State.modRouter_net_wire (r : Nat) (g : Router → Router) : (s.modRouter r g).net.wire = s.net.wire := rfl
@[simp] theorem State.modRouter_net_dataCorrected (r : Nat) (g : Router → Router) : (s.modRouter r g).net.dataCorrected = s.net.dataCorrected := rfl
@[simp] theorem State.modRouter_net_dataPoisoned (r : Nat) (g : Router → Router) : (s.modRouter r g).net.dataPoisoned = s.net.dataPoisoned := rfl
@[simp] theorem State.modRouter_net_lostCount (r : Nat) (g : Router → Router) : (s.modRouter r g).net.lostCount = s.net.lostCount := rfl
@[simp] theorem State.modRouter_net_lateAnswers (r : Nat) (g : Router → Router) : (s.modRouter r g).net.lateAnswers = s.net.lateAnswers := rfl
@[simp] theorem State.modDom_power_pllLocked (d : Nat) (g : Dom → Dom) : (s.modDom d g).power.pllLocked = s.power.pllLocked := rfl
@[simp] theorem State.modDom_power_backupOsc (d : Nat) (g : Dom → Dom) : (s.modDom d g).power.backupOsc = s.power.backupOsc := rfl
@[simp] theorem State.modDom_power_pllLosses (d : Nat) (g : Dom → Dom) : (s.modDom d g).power.pllLosses = s.power.pllLosses := rfl
@[simp] theorem State.modDom_power_pour (d : Nat) (g : Dom → Dom) : (s.modDom d g).power.pour = s.power.pour := rfl
@[simp] theorem State.modDom_power_good0 (d : Nat) (g : Dom → Dom) : (s.modDom d g).power.good0 = s.power.good0 := rfl
@[simp] theorem State.modDom_power_good1 (d : Nat) (g : Dom → Dom) : (s.modDom d g).power.good1 = s.power.good1 := rfl
@[simp] theorem State.modDom_power_good2 (d : Nat) (g : Dom → Dom) : (s.modDom d g).power.good2 = s.power.good2 := rfl
@[simp] theorem State.modDom_power_released (d : Nat) (g : Dom → Dom) : (s.modDom d g).power.released = s.power.released := rfl
@[simp] theorem State.modDom_power_bootSel (d : Nat) (g : Dom → Dom) : (s.modDom d g).power.bootSel = s.power.bootSel := rfl
@[simp] theorem State.modDom_power_scpMode (d : Nat) (g : Dom → Dom) : (s.modDom d g).power.scpMode = s.power.scpMode := rfl
@[simp] theorem State.modDom_power_keylockN (d : Nat) (g : Dom → Dom) : (s.modDom d g).power.keylockN = s.power.keylockN := rfl
@[simp] theorem State.modDom_power_coreCause (d : Nat) (g : Dom → Dom) : (s.modDom d g).power.coreCause = s.power.coreCause := rfl
@[simp] theorem State.modDom_power_mgmtCause (d : Nat) (g : Dom → Dom) : (s.modDom d g).power.mgmtCause = s.power.mgmtCause := rfl
@[simp] theorem State.modDom_power_coreResets (d : Nat) (g : Dom → Dom) : (s.modDom d g).power.coreResets = s.power.coreResets := rfl
@[simp] theorem State.modDom_power_mgmtResets (d : Nat) (g : Dom → Dom) : (s.modDom d g).power.mgmtResets = s.power.mgmtResets := rfl
@[simp] theorem State.modDom_power_hold (d : Nat) (g : Dom → Dom) : (s.modDom d g).power.hold = s.power.hold := rfl
@[simp] theorem State.modDom_power_holdEmergency (d : Nat) (g : Dom → Dom) : (s.modDom d g).power.holdEmergency = s.power.holdEmergency := rfl
@[simp] theorem State.modDom_power_dimmPwren (d : Nat) (g : Dom → Dom) : (s.modDom d g).power.dimmPwren = s.power.dimmPwren := rfl
@[simp] theorem State.modDom_power_dimmWait (d : Nat) (g : Dom → Dom) : (s.modDom d g).power.dimmWait = s.power.dimmWait := rfl
@[simp] theorem State.modDom_power_lastGrant (d : Nat) (g : Dom → Dom) : (s.modDom d g).power.lastGrant = s.power.lastGrant := rfl
@[simp] theorem State.modDom_power_wanted (d : Nat) (g : Dom → Dom) : (s.modDom d g).power.wanted = s.power.wanted := rfl
@[simp] theorem State.modDom_power_thermHot (d : Nat) (g : Dom → Dom) : (s.modDom d g).power.thermHot = s.power.thermHot := rfl
@[simp] theorem State.modDom_power_tjPeak (d : Nat) (g : Dom → Dom) : (s.modDom d g).power.tjPeak = s.power.tjPeak := rfl
@[simp] theorem State.modDom_power_throttling (d : Nat) (g : Dom → Dom) : (s.modDom d g).power.throttling = s.power.throttling := rfl
@[simp] theorem State.modDom_power_throttleTime (d : Nat) (g : Dom → Dom) : (s.modDom d g).power.throttleTime = s.power.throttleTime := rfl
@[simp] theorem State.modDom_power_rampFails (d : Nat) (g : Dom → Dom) : (s.modDom d g).power.rampFails = s.power.rampFails := rfl
@[simp] theorem State.modPath_dict_stopped (p : Nat) (g : Path → Path) : (s.modPath p g).dict.stopped = s.dict.stopped := rfl
@[simp] theorem State.modPath_dict_sessions (p : Nat) (g : Path → Path) : (s.modPath p g).dict.sessions = s.dict.sessions := rfl
@[simp] theorem State.modPath_dict_keys (p : Nat) (g : Path → Path) : (s.modPath p g).dict.keys = s.dict.keys := rfl
@[simp] theorem State.modPath_dict_authFails (p : Nat) (g : Path → Path) : (s.modPath p g).dict.authFails = s.dict.authFails := rfl
@[simp] theorem State.modPath_dict_authLogged (p : Nat) (g : Path → Path) : (s.modPath p g).dict.authLogged = s.dict.authLogged := rfl
@[simp] theorem State.modPath_dict_txLast (p : Nat) (g : Path → Path) : (s.modPath p g).dict.txLast = s.dict.txLast := rfl
@[simp] theorem State.modPath_dict_settings (p : Nat) (g : Path → Path) : (s.modPath p g).dict.settings = s.dict.settings := rfl
@[simp] theorem State.modPath_dict_perPath (p : Nat) (g : Path → Path) : (s.modPath p g).dict.perPath = s.dict.perPath := rfl
@[simp] theorem State.modSession_dict_stopped (n : Nat) (g : Session → Session) : (s.modSession n g).dict.stopped = s.dict.stopped := rfl
@[simp] theorem State.modSession_dict_paths (n : Nat) (g : Session → Session) : (s.modSession n g).dict.paths = s.dict.paths := rfl
@[simp] theorem State.modSession_dict_keys (n : Nat) (g : Session → Session) : (s.modSession n g).dict.keys = s.dict.keys := rfl
@[simp] theorem State.modSession_dict_authFails (n : Nat) (g : Session → Session) : (s.modSession n g).dict.authFails = s.dict.authFails := rfl
@[simp] theorem State.modSession_dict_authLogged (n : Nat) (g : Session → Session) : (s.modSession n g).dict.authLogged = s.dict.authLogged := rfl
@[simp] theorem State.modSession_dict_txLast (n : Nat) (g : Session → Session) : (s.modSession n g).dict.txLast = s.dict.txLast := rfl
@[simp] theorem State.modSession_dict_settings (n : Nat) (g : Session → Session) : (s.modSession n g).dict.settings = s.dict.settings := rfl
@[simp] theorem State.modSession_dict_perPath (n : Nat) (g : Session → Session) : (s.modSession n g).dict.perPath = s.dict.perPath := rfl
@[simp] theorem State.putSettingOf_dict_stopped (obj idx sub : Nat) (v : DWord) : (s.putSettingOf obj idx sub v).dict.stopped = s.dict.stopped := rfl
@[simp] theorem State.putSettingOf_dict_paths (obj idx sub : Nat) (v : DWord) : (s.putSettingOf obj idx sub v).dict.paths = s.dict.paths := rfl
@[simp] theorem State.putSettingOf_dict_sessions (obj idx sub : Nat) (v : DWord) : (s.putSettingOf obj idx sub v).dict.sessions = s.dict.sessions := rfl
@[simp] theorem State.putSettingOf_dict_keys (obj idx sub : Nat) (v : DWord) : (s.putSettingOf obj idx sub v).dict.keys = s.dict.keys := rfl
@[simp] theorem State.putSettingOf_dict_authFails (obj idx sub : Nat) (v : DWord) : (s.putSettingOf obj idx sub v).dict.authFails = s.dict.authFails := rfl
@[simp] theorem State.putSettingOf_dict_authLogged (obj idx sub : Nat) (v : DWord) : (s.putSettingOf obj idx sub v).dict.authLogged = s.dict.authLogged := rfl
@[simp] theorem State.putSettingOf_dict_txLast (obj idx sub : Nat) (v : DWord) : (s.putSettingOf obj idx sub v).dict.txLast = s.dict.txLast := rfl
@[simp] theorem State.putSettingOf_dict_perPath (obj idx sub : Nat) (v : DWord) : (s.putSettingOf obj idx sub v).dict.perPath = s.dict.perPath := rfl
@[simp] theorem State.putSelector_dict_stopped (path idx sub : Nat) (v : DWord) : (s.putSelector path idx sub v).dict.stopped = s.dict.stopped := rfl
@[simp] theorem State.putSelector_dict_paths (path idx sub : Nat) (v : DWord) : (s.putSelector path idx sub v).dict.paths = s.dict.paths := rfl
@[simp] theorem State.putSelector_dict_sessions (path idx sub : Nat) (v : DWord) : (s.putSelector path idx sub v).dict.sessions = s.dict.sessions := rfl
@[simp] theorem State.putSelector_dict_keys (path idx sub : Nat) (v : DWord) : (s.putSelector path idx sub v).dict.keys = s.dict.keys := rfl
@[simp] theorem State.putSelector_dict_authFails (path idx sub : Nat) (v : DWord) : (s.putSelector path idx sub v).dict.authFails = s.dict.authFails := rfl
@[simp] theorem State.putSelector_dict_authLogged (path idx sub : Nat) (v : DWord) : (s.putSelector path idx sub v).dict.authLogged = s.dict.authLogged := rfl
@[simp] theorem State.putSelector_dict_txLast (path idx sub : Nat) (v : DWord) : (s.putSelector path idx sub v).dict.txLast = s.dict.txLast := rfl
@[simp] theorem State.putSelector_dict_settings (path idx sub : Nat) (v : DWord) : (s.putSelector path idx sub v).dict.settings = s.dict.settings := rfl
@[simp] theorem State.request_net_routers (src dest oclass tc : Nat) (b : Body) : (s.request src dest oclass tc b).net.routers = s.net.routers := rfl
@[simp] theorem State.request_net_wire (src dest oclass tc : Nat) (b : Body) : (s.request src dest oclass tc b).net.wire = s.net.wire := rfl
@[simp] theorem State.request_net_dataCorrected (src dest oclass tc : Nat) (b : Body) : (s.request src dest oclass tc b).net.dataCorrected = s.net.dataCorrected := rfl
@[simp] theorem State.request_net_dataPoisoned (src dest oclass tc : Nat) (b : Body) : (s.request src dest oclass tc b).net.dataPoisoned = s.net.dataPoisoned := rfl
@[simp] theorem State.request_net_lostCount (src dest oclass tc : Nat) (b : Body) : (s.request src dest oclass tc b).net.lostCount = s.net.lostCount := rfl
@[simp] theorem State.request_net_lateAnswers (src dest oclass tc : Nat) (b : Body) : (s.request src dest oclass tc b).net.lateAnswers = s.net.lateAnswers := rfl
@[simp] theorem State.answer_net_routers (src dest oclass tag : Nat) (b : Body) : (s.answer src dest oclass tag b).net.routers = s.net.routers := rfl
@[simp] theorem State.answer_net_gates (src dest oclass tag : Nat) (b : Body) : (s.answer src dest oclass tag b).net.gates = s.net.gates := rfl
@[simp] theorem State.answer_net_dataCorrected (src dest oclass tag : Nat) (b : Body) : (s.answer src dest oclass tag b).net.dataCorrected = s.net.dataCorrected := rfl
@[simp] theorem State.answer_net_dataPoisoned (src dest oclass tag : Nat) (b : Body) : (s.answer src dest oclass tag b).net.dataPoisoned = s.net.dataPoisoned := rfl
@[simp] theorem State.answer_net_lostCount (src dest oclass tag : Nat) (b : Body) : (s.answer src dest oclass tag b).net.lostCount = s.net.lostCount := rfl
@[simp] theorem State.answer_net_lateAnswers (src dest oclass tag : Nat) (b : Body) : (s.answer src dest oclass tag b).net.lateAnswers = s.net.lateAnswers := rfl
@[simp] theorem State.takeAnswer_net_routers (i who : Nat) (b : Body) : (s.takeAnswer i who b).net.routers = s.net.routers := rfl
@[simp] theorem State.takeAnswer_net_wire (i who : Nat) (b : Body) : (s.takeAnswer i who b).net.wire = s.net.wire := rfl
@[simp] theorem State.takeAnswer_net_dataCorrected (i who : Nat) (b : Body) : (s.takeAnswer i who b).net.dataCorrected = s.net.dataCorrected := rfl
@[simp] theorem State.takeAnswer_net_dataPoisoned (i who : Nat) (b : Body) : (s.takeAnswer i who b).net.dataPoisoned = s.net.dataPoisoned := rfl
@[simp] theorem State.takeAnswer_net_lostCount (i who : Nat) (b : Body) : (s.takeAnswer i who b).net.lostCount = s.net.lostCount := rfl
@[simp] theorem State.takeAnswer_net_lateAnswers (i who : Nat) (b : Body) : (s.takeAnswer i who b).net.lateAnswers = s.net.lateAnswers := rfl

end Sys2Proof.Machine
end

