-- ==== Sys2Proof/Laws/Links.lean ====
section
/-! SUPPORT. What it leaves when a packet is taken off the network: only the packet and the hop credits of its flits go. -/

namespace Sys2Proof.Machine

variable (s : State)

/-- Flits that leave a store change credits alone. -/
theorem leaveStore_credits (key m : Nat) (n : RunnerState) : ∃ c, leaveStore key m n = { n with credits := c } := by
  unfold leaveStore; split
  · exact ⟨_, rfl⟩
  · exact ⟨n.credits, rfl⟩

/-- A packet that leaves whole takes itself and gives credits back; nothing else of the network changes. -/
theorem RunnerState.drop_changes (n : RunnerState) (f : Flight) : ∃ c, n.drop f = { n with wire := n.wire.erase f, credits := c } := by
  suffices h : ∀ (l : List (Nat × Nat)) (m : RunnerState), ∃ c, l.foldl (fun n e =>
      if 2 ^ 16 ≤ e.1 && e.1 < 2 ^ 17 then n.modCredits (e.1 - 2 ^ 16) (· + e.2) else leaveStore e.1 e.2 n) m = { m with credits := c } by
    exact h _ _
  intro l
  induction l with
  | nil => exact fun m => ⟨m.credits, rfl⟩
  | cons e l ih =>
    intro m
    rw [List.foldl_cons]
    split
    · exact ih _
    · obtain ⟨c, hc⟩ := leaveStore_credits e.1 e.2 m
      rw [hc]; exact ih _

@[simp] theorem State.consume_power (dest src oclass : Nat) (b : Body) : (s.consume dest src oclass b).power = s.power := by
  unfold State.consume; split <;> first | rfl | (split <;> rfl)
@[simp] theorem State.consume_chill (dest src oclass : Nat) (b : Body) : (s.consume dest src oclass b).chill = s.chill := by
  unfold State.consume; split <;> first | rfl | (split <;> rfl)
@[simp] theorem State.consume_dict (dest src oclass : Nat) (b : Body) : (s.consume dest src oclass b).dict = s.dict := by
  unfold State.consume; split <;> first | rfl | (split <;> rfl)
@[simp] theorem State.consume_flasks (dest src oclass : Nat) (b : Body) : (s.consume dest src oclass b).flasks = s.flasks := by
  unfold State.consume; split <;> first | rfl | (split <;> rfl)
@[simp] theorem State.consume_crus (dest src oclass : Nat) (b : Body) : (s.consume dest src oclass b).crus = s.crus := by
  unfold State.consume; split <;> first | rfl | (split <;> rfl)
@[simp] theorem State.consume_tun (dest src oclass : Nat) (b : Body) : (s.consume dest src oclass b).tun = s.tun := by
  unfold State.consume; split <;> first | rfl | (split <;> rfl)
@[simp] theorem State.consume_cores (dest src oclass : Nat) (b : Body) : (s.consume dest src oclass b).cores = s.cores := by
  unfold State.consume; split <;> first | rfl | (split <;> rfl)
@[simp] theorem State.consume_sram (dest src oclass : Nat) (b : Body) : (s.consume dest src oclass b).sram = s.sram := by
  unfold State.consume; split <;> first | rfl | (split <;> rfl)
@[simp] theorem State.consume_cup (dest src oclass : Nat) (b : Body) : (s.consume dest src oclass b).cup = s.cup := by
  unfold State.consume; split <;> first | rfl | (split <;> rfl)
@[simp] theorem State.consume_loader (dest src oclass : Nat) (b : Body) : (s.consume dest src oclass b).loader = s.loader := by
  unfold State.consume; split <;> first | rfl | (split <;> rfl)
@[simp] theorem State.consume_catch (dest src oclass : Nat) (b : Body) : (s.consume dest src oclass b).catch' = s.catch' := by
  unfold State.consume; split <;> first | rfl | (split <;> rfl)
@[simp] theorem State.consume_villet (dest src oclass : Nat) (b : Body) : (s.consume dest src oclass b).villet = s.villet := by
  unfold State.consume; split <;> first | rfl | (split <;> rfl)
@[simp] theorem State.consume_pins (dest src oclass : Nat) (b : Body) : (s.consume dest src oclass b).pins = s.pins := by
  unfold State.consume; split <;> first | rfl | (split <;> rfl)
@[simp] theorem State.consume_pcie (dest src oclass : Nat) (b : Body) : (s.consume dest src oclass b).pcie = s.pcie := by
  unfold State.consume; split <;> first | rfl | (split <;> rfl)
@[simp] theorem State.consume_ecat (dest src oclass : Nat) (b : Body) : (s.consume dest src oclass b).ecat = s.ecat := by
  unfold State.consume; split <;> first | rfl | (split <;> rfl)
@[simp] theorem State.consume_tap (dest src oclass : Nat) (b : Body) : (s.consume dest src oclass b).tap = s.tap := by
  unfold State.consume; split <;> first | rfl | (split <;> rfl)
@[simp] theorem State.consume_pdoIrq (dest src oclass : Nat) (b : Body) : (s.consume dest src oclass b).pdoIrq = s.pdoIrq := by
  unfold State.consume; split <;> first | rfl | (split <;> rfl)
@[simp] theorem State.consume_recasts (dest src oclass : Nat) (b : Body) : (s.consume dest src oclass b).recasts = s.recasts := by
  unfold State.consume; split <;> first | rfl | (split <;> rfl)
@[simp] theorem State.consume_recastRow (dest src oclass : Nat) (b : Body) : (s.consume dest src oclass b).recastRow = s.recastRow := by
  unfold State.consume; split <;> first | rfl | (split <;> rfl)
@[simp] theorem State.consume_recastCount (dest src oclass : Nat) (b : Body) : (s.consume dest src oclass b).recastCount = s.recastCount := by
  unfold State.consume; split <;> first | rfl | (split <;> rfl)
@[simp] theorem State.consume_lmap (dest src oclass : Nat) (b : Body) : (s.consume dest src oclass b).lmap = s.lmap := by
  unfold State.consume; split <;> first | rfl | (split <;> rfl)
@[simp] theorem State.consume_dcRunning (dest src oclass : Nat) (b : Body) : (s.consume dest src oclass b).dcRunning = s.dcRunning := by
  unfold State.consume; split <;> first | rfl | (split <;> rfl)
@[simp] theorem State.consume_dcTime (dest src oclass : Nat) (b : Body) : (s.consume dest src oclass b).dcTime = s.dcTime := by
  unfold State.consume; split <;> first | rfl | (split <;> rfl)
@[simp] theorem State.consume_dcQuarter (dest src oclass : Nat) (b : Body) : (s.consume dest src oclass b).dcQuarter = s.dcQuarter := by
  unfold State.consume; split <;> first | rfl | (split <;> rfl)
@[simp] theorem State.consume_dram (dest src oclass : Nat) (b : Body) : (s.consume dest src oclass b).dram = s.dram := by
  unfold State.consume; split <;> first | rfl | (split <;> rfl)
@[simp] theorem State.consume_out (dest src oclass : Nat) (b : Body) : (s.consume dest src oclass b).out = s.out := by
  unfold State.consume; split <;> first | rfl | (split <;> rfl)
@[simp] theorem State.consume_fresh (dest src oclass : Nat) (b : Body) : (s.consume dest src oclass b).fresh = s.fresh := by
  unfold State.consume; split <;> first | rfl | (split <;> rfl)
@[simp] theorem State.consume_pending (dest src oclass : Nat) (b : Body) : (s.consume dest src oclass b).pending = s.pending := by
  unfold State.consume; split <;> first | rfl | (split <;> rfl)
@[simp] theorem State.consume_flask (dest src oclass : Nat) (b : Body) (j : Nat) : (s.consume dest src oclass b).flask j = s.flask j := by
  unfold State.consume; split <;> first | rfl | (split <;> rfl)
@[simp] theorem State.consume_cru (dest src oclass : Nat) (b : Body) (j : Nat) : (s.consume dest src oclass b).cru j = s.cru j := by
  unfold State.consume; split <;> first | rfl | (split <;> rfl)
@[simp] theorem State.consume_recast (dest src oclass : Nat) (b : Body) (j : Nat) : (s.consume dest src oclass b).recast j = s.recast j := by
  unfold State.consume; split <;> first | rfl | (split <;> rfl)
@[simp] theorem State.consume_gate (dest src oclass : Nat) (b : Body) (j : Nat) : (s.consume dest src oclass b).gate j = s.gate j := by
  unfold State.consume; split
  · split
    · simp only [State.gate]; obtain ⟨c, hc⟩ := s.net.drop_changes ‹Flight›; rw [hc]
    · rfl
  · rfl
@[simp] theorem State.consume_router (dest src oclass : Nat) (b : Body) (j : Nat) : (s.consume dest src oclass b).router j = s.router j := by
  unfold State.consume; split
  · split
    · simp only [State.router]; obtain ⟨c, hc⟩ := s.net.drop_changes ‹Flight›; rw [hc]
    · rfl
  · rfl
@[simp] theorem State.consume_dom (dest src oclass : Nat) (b : Body) (j : Nat) : (s.consume dest src oclass b).dom j = s.dom j := by
  unfold State.consume; split <;> first | rfl | (split <;> rfl)
@[simp] theorem State.consume_path (dest src oclass : Nat) (b : Body) (j : Nat) : (s.consume dest src oclass b).path j = s.path j := by
  unfold State.consume; split <;> first | rfl | (split <;> rfl)
@[simp] theorem State.consume_session (dest src oclass : Nat) (b : Body) (j : Nat) : (s.consume dest src oclass b).session j = s.session j := by
  unfold State.consume; split <;> first | rfl | (split <;> rfl)
@[simp] theorem State.consume_net_routers (dest src oclass : Nat) (b : Body) : (s.consume dest src oclass b).net.routers = s.net.routers := by
  unfold State.consume; split
  · split
    · obtain ⟨c, hc⟩ := s.net.drop_changes ‹Flight›; rw [hc]
    · rfl
  · rfl
@[simp] theorem State.consume_net_gates (dest src oclass : Nat) (b : Body) : (s.consume dest src oclass b).net.gates = s.net.gates := by
  unfold State.consume; split
  · split
    · obtain ⟨c, hc⟩ := s.net.drop_changes ‹Flight›; rw [hc]
    · rfl
  · rfl
@[simp] theorem State.consume_net_dataCorrected (dest src oclass : Nat) (b : Body) : (s.consume dest src oclass b).net.dataCorrected = s.net.dataCorrected := by
  unfold State.consume; split
  · split
    · obtain ⟨c, hc⟩ := s.net.drop_changes ‹Flight›; rw [hc]
    · rfl
  · rfl
@[simp] theorem State.consume_net_dataPoisoned (dest src oclass : Nat) (b : Body) : (s.consume dest src oclass b).net.dataPoisoned = s.net.dataPoisoned := by
  unfold State.consume; split
  · split
    · obtain ⟨c, hc⟩ := s.net.drop_changes ‹Flight›; rw [hc]
    · rfl
  · rfl
@[simp] theorem State.consume_net_lostCount (dest src oclass : Nat) (b : Body) : (s.consume dest src oclass b).net.lostCount = s.net.lostCount := by
  unfold State.consume; split
  · split
    · obtain ⟨c, hc⟩ := s.net.drop_changes ‹Flight›; rw [hc]
    · rfl
  · rfl
@[simp] theorem State.consume_net_lateAnswers (dest src oclass : Nat) (b : Body) : (s.consume dest src oclass b).net.lateAnswers = s.net.lateAnswers := by
  unfold State.consume; split
  · split
    · obtain ⟨c, hc⟩ := s.net.drop_changes ‹Flight›; rw [hc]
    · rfl
  · rfl

end Sys2Proof.Machine
end

