-- ==== Sys2Proof/Laws/Ops.lean ====
section
/-! SUPPORT. What the shared operations do: what reports, recoveries and the answers of the dictionary agent leave unchanged, and how a
dictionary command ends. -/

namespace Sys2Proof.Machine

/-- The intake gains one error, wherever it stands. -/
@[simp] theorem enterIntake_length (c : ChillState) (e : ErrRep) : (enterIntake c e).length = c.intake.length + 1 := by
  have h := congrArg List.length (List.takeWhile_append_dropWhile (p := fun x : ErrRep => decide (x.code ≤ e.code)) (l := c.intake.drop c.settled))
  simp only [enterIntake, List.length_append, List.length_take, List.length_drop, List.length_singleton] at h ⊢
  omega

/-- The intake holds the errors it held, and the new one. -/
theorem mem_enterIntake (c : ChillState) (e x : ErrRep) : x ∈ enterIntake c e ↔ x = e ∨ x ∈ c.intake := by
  have h := List.takeWhile_append_dropWhile (p := fun x : ErrRep => decide (x.code ≤ e.code)) (l := c.intake.drop c.settled)
  have k := List.take_append_drop c.settled c.intake
  conv_rhs => rw [← k, ← h]
  simp only [enterIntake, List.mem_append, List.mem_singleton]
  tauto

@[simp] theorem report_power (e : ErrRep) (s : State) : (report e s).power = s.power := by
  unfold report; dsimp only; split <;> rfl
@[simp] theorem report_dict (e : ErrRep) (s : State) : (report e s).dict = s.dict := by
  unfold report; dsimp only; split <;> rfl
@[simp] theorem report_net (e : ErrRep) (s : State) : (report e s).net = s.net := by
  unfold report; dsimp only; split <;> rfl
@[simp] theorem report_flasks (e : ErrRep) (s : State) : (report e s).flasks = s.flasks := by
  unfold report; dsimp only; split <;> rfl
@[simp] theorem report_crus (e : ErrRep) (s : State) : (report e s).crus = s.crus := by
  unfold report; dsimp only; split <;> rfl
@[simp] theorem report_tun (e : ErrRep) (s : State) : (report e s).tun = s.tun := by
  unfold report; dsimp only; split <;> rfl
@[simp] theorem report_cores (e : ErrRep) (s : State) : (report e s).cores = s.cores := by
  unfold report; dsimp only; split <;> rfl
@[simp] theorem report_sram (e : ErrRep) (s : State) : (report e s).sram = s.sram := by
  unfold report; dsimp only; split <;> rfl
@[simp] theorem report_cup (e : ErrRep) (s : State) : (report e s).cup = s.cup := by
  unfold report; dsimp only; split <;> rfl
@[simp] theorem report_loader (e : ErrRep) (s : State) : (report e s).loader = s.loader := by
  unfold report; dsimp only; split <;> rfl
@[simp] theorem report_catch (e : ErrRep) (s : State) : (report e s).catch' = s.catch' := by
  unfold report; dsimp only; split <;> rfl
@[simp] theorem report_villet (e : ErrRep) (s : State) : (report e s).villet = s.villet := by
  unfold report; dsimp only; split <;> rfl
@[simp] theorem report_pins (e : ErrRep) (s : State) : (report e s).pins = s.pins := by
  unfold report; dsimp only; split <;> rfl
@[simp] theorem report_pcie (e : ErrRep) (s : State) : (report e s).pcie = s.pcie := by
  unfold report; dsimp only; split <;> rfl
@[simp] theorem report_ecat (e : ErrRep) (s : State) : (report e s).ecat = s.ecat := by
  unfold report; dsimp only; split <;> rfl
@[simp] theorem report_tap (e : ErrRep) (s : State) : (report e s).tap = s.tap := by
  unfold report; dsimp only; split <;> rfl
@[simp] theorem report_pdoIrq (e : ErrRep) (s : State) : (report e s).pdoIrq = s.pdoIrq := by
  unfold report; dsimp only; split <;> rfl
@[simp] theorem report_recasts (e : ErrRep) (s : State) : (report e s).recasts = s.recasts := by
  unfold report; dsimp only; split <;> rfl
@[simp] theorem report_recastRow (e : ErrRep) (s : State) : (report e s).recastRow = s.recastRow := by
  unfold report; dsimp only; split <;> rfl
@[simp] theorem report_recastCount (e : ErrRep) (s : State) : (report e s).recastCount = s.recastCount := by
  unfold report; dsimp only; split <;> rfl
@[simp] theorem report_lmap (e : ErrRep) (s : State) : (report e s).lmap = s.lmap := by
  unfold report; dsimp only; split <;> rfl
@[simp] theorem report_dcRunning (e : ErrRep) (s : State) : (report e s).dcRunning = s.dcRunning := by
  unfold report; dsimp only; split <;> rfl
@[simp] theorem report_dcTime (e : ErrRep) (s : State) : (report e s).dcTime = s.dcTime := by
  unfold report; dsimp only; split <;> rfl
@[simp] theorem report_dcQuarter (e : ErrRep) (s : State) : (report e s).dcQuarter = s.dcQuarter := by
  unfold report; dsimp only; split <;> rfl
@[simp] theorem report_dram (e : ErrRep) (s : State) : (report e s).dram = s.dram := by
  unfold report; dsimp only; split <;> rfl
@[simp] theorem report_out (e : ErrRep) (s : State) : (report e s).out = s.out := by
  unfold report; dsimp only; split <;> rfl
@[simp] theorem report_fresh (e : ErrRep) (s : State) : (report e s).fresh = s.fresh := by
  unfold report; dsimp only; split <;> rfl
@[simp] theorem report_pending (e : ErrRep) (s : State) : (report e s).pending = s.pending := by
  unfold report; dsimp only; split <;> rfl

@[simp] theorem reportAt_power (code kind oid : Nat) (aux : Word) (detail : DWord) (s : State) : (reportAt code kind oid aux detail s).power = s.power := by
  simp [reportAt]
@[simp] theorem reportAt_dict (code kind oid : Nat) (aux : Word) (detail : DWord) (s : State) : (reportAt code kind oid aux detail s).dict = s.dict := by
  simp [reportAt]
@[simp] theorem reportAt_net (code kind oid : Nat) (aux : Word) (detail : DWord) (s : State) : (reportAt code kind oid aux detail s).net = s.net := by
  simp [reportAt]
@[simp] theorem reportAt_flasks (code kind oid : Nat) (aux : Word) (detail : DWord) (s : State) : (reportAt code kind oid aux detail s).flasks = s.flasks := by
  simp [reportAt]
@[simp] theorem reportAt_crus (code kind oid : Nat) (aux : Word) (detail : DWord) (s : State) : (reportAt code kind oid aux detail s).crus = s.crus := by
  simp [reportAt]
@[simp] theorem reportAt_tun (code kind oid : Nat) (aux : Word) (detail : DWord) (s : State) : (reportAt code kind oid aux detail s).tun = s.tun := by
  simp [reportAt]
@[simp] theorem reportAt_cores (code kind oid : Nat) (aux : Word) (detail : DWord) (s : State) : (reportAt code kind oid aux detail s).cores = s.cores := by
  simp [reportAt]
@[simp] theorem reportAt_sram (code kind oid : Nat) (aux : Word) (detail : DWord) (s : State) : (reportAt code kind oid aux detail s).sram = s.sram := by
  simp [reportAt]
@[simp] theorem reportAt_cup (code kind oid : Nat) (aux : Word) (detail : DWord) (s : State) : (reportAt code kind oid aux detail s).cup = s.cup := by
  simp [reportAt]
@[simp] theorem reportAt_loader (code kind oid : Nat) (aux : Word) (detail : DWord) (s : State) : (reportAt code kind oid aux detail s).loader = s.loader := by
  simp [reportAt]
@[simp] theorem reportAt_catch (code kind oid : Nat) (aux : Word) (detail : DWord) (s : State) : (reportAt code kind oid aux detail s).catch' = s.catch' := by
  simp [reportAt]
@[simp] theorem reportAt_villet (code kind oid : Nat) (aux : Word) (detail : DWord) (s : State) : (reportAt code kind oid aux detail s).villet = s.villet := by
  simp [reportAt]
@[simp] theorem reportAt_pins (code kind oid : Nat) (aux : Word) (detail : DWord) (s : State) : (reportAt code kind oid aux detail s).pins = s.pins := by
  simp [reportAt]
@[simp] theorem reportAt_pcie (code kind oid : Nat) (aux : Word) (detail : DWord) (s : State) : (reportAt code kind oid aux detail s).pcie = s.pcie := by
  simp [reportAt]
@[simp] theorem reportAt_ecat (code kind oid : Nat) (aux : Word) (detail : DWord) (s : State) : (reportAt code kind oid aux detail s).ecat = s.ecat := by
  simp [reportAt]
@[simp] theorem reportAt_tap (code kind oid : Nat) (aux : Word) (detail : DWord) (s : State) : (reportAt code kind oid aux detail s).tap = s.tap := by
  simp [reportAt]
@[simp] theorem reportAt_pdoIrq (code kind oid : Nat) (aux : Word) (detail : DWord) (s : State) : (reportAt code kind oid aux detail s).pdoIrq = s.pdoIrq := by
  simp [reportAt]
@[simp] theorem reportAt_recasts (code kind oid : Nat) (aux : Word) (detail : DWord) (s : State) : (reportAt code kind oid aux detail s).recasts = s.recasts := by
  simp [reportAt]
@[simp] theorem reportAt_recastRow (code kind oid : Nat) (aux : Word) (detail : DWord) (s : State) : (reportAt code kind oid aux detail s).recastRow = s.recastRow := by
  simp [reportAt]
@[simp] theorem reportAt_recastCount (code kind oid : Nat) (aux : Word) (detail : DWord) (s : State) : (reportAt code kind oid aux detail s).recastCount = s.recastCount := by
  simp [reportAt]
@[simp] theorem reportAt_lmap (code kind oid : Nat) (aux : Word) (detail : DWord) (s : State) : (reportAt code kind oid aux detail s).lmap = s.lmap := by
  simp [reportAt]
@[simp] theorem reportAt_dcRunning (code kind oid : Nat) (aux : Word) (detail : DWord) (s : State) : (reportAt code kind oid aux detail s).dcRunning = s.dcRunning := by
  simp [reportAt]
@[simp] theorem reportAt_dcTime (code kind oid : Nat) (aux : Word) (detail : DWord) (s : State) : (reportAt code kind oid aux detail s).dcTime = s.dcTime := by
  simp [reportAt]
@[simp] theorem reportAt_dcQuarter (code kind oid : Nat) (aux : Word) (detail : DWord) (s : State) : (reportAt code kind oid aux detail s).dcQuarter = s.dcQuarter := by
  simp [reportAt]
@[simp] theorem reportAt_dram (code kind oid : Nat) (aux : Word) (detail : DWord) (s : State) : (reportAt code kind oid aux detail s).dram = s.dram := by
  simp [reportAt]
@[simp] theorem reportAt_out (code kind oid : Nat) (aux : Word) (detail : DWord) (s : State) : (reportAt code kind oid aux detail s).out = s.out := by
  simp [reportAt]
@[simp] theorem reportAt_fresh (code kind oid : Nat) (aux : Word) (detail : DWord) (s : State) : (reportAt code kind oid aux detail s).fresh = s.fresh := by
  simp [reportAt]
@[simp] theorem reportAt_pending (code kind oid : Nat) (aux : Word) (detail : DWord) (s : State) : (reportAt code kind oid aux detail s).pending = s.pending := by
  simp [reportAt]

@[simp] theorem reportRecovering_power (e : ErrRep) (s : State) : (reportRecovering e s).power = s.power := by
  simp [reportRecovering]
@[simp] theorem reportRecovering_dict (e : ErrRep) (s : State) : (reportRecovering e s).dict = s.dict := by
  simp [reportRecovering]
@[simp] theorem reportRecovering_net (e : ErrRep) (s : State) : (reportRecovering e s).net = s.net := by
  simp [reportRecovering]
@[simp] theorem reportRecovering_flasks (e : ErrRep) (s : State) : (reportRecovering e s).flasks = s.flasks := by
  simp [reportRecovering]
@[simp] theorem reportRecovering_crus (e : ErrRep) (s : State) : (reportRecovering e s).crus = s.crus := by
  simp [reportRecovering]
@[simp] theorem reportRecovering_tun (e : ErrRep) (s : State) : (reportRecovering e s).tun = s.tun := by
  simp [reportRecovering]
@[simp] theorem reportRecovering_cores (e : ErrRep) (s : State) : (reportRecovering e s).cores = s.cores := by
  simp [reportRecovering]
@[simp] theorem reportRecovering_sram (e : ErrRep) (s : State) : (reportRecovering e s).sram = s.sram := by
  simp [reportRecovering]
@[simp] theorem reportRecovering_cup (e : ErrRep) (s : State) : (reportRecovering e s).cup = s.cup := by
  simp [reportRecovering]
@[simp] theorem reportRecovering_loader (e : ErrRep) (s : State) : (reportRecovering e s).loader = s.loader := by
  simp [reportRecovering]
@[simp] theorem reportRecovering_catch (e : ErrRep) (s : State) : (reportRecovering e s).catch' = s.catch' := by
  simp [reportRecovering]
@[simp] theorem reportRecovering_villet (e : ErrRep) (s : State) : (reportRecovering e s).villet = s.villet := by
  simp [reportRecovering]
@[simp] theorem reportRecovering_pins (e : ErrRep) (s : State) : (reportRecovering e s).pins = s.pins := by
  simp [reportRecovering]
@[simp] theorem reportRecovering_pcie (e : ErrRep) (s : State) : (reportRecovering e s).pcie = s.pcie := by
  simp [reportRecovering]
@[simp] theorem reportRecovering_ecat (e : ErrRep) (s : State) : (reportRecovering e s).ecat = s.ecat := by
  simp [reportRecovering]
@[simp] theorem reportRecovering_tap (e : ErrRep) (s : State) : (reportRecovering e s).tap = s.tap := by
  simp [reportRecovering]
@[simp] theorem reportRecovering_pdoIrq (e : ErrRep) (s : State) : (reportRecovering e s).pdoIrq = s.pdoIrq := by
  simp [reportRecovering]
@[simp] theorem reportRecovering_recasts (e : ErrRep) (s : State) : (reportRecovering e s).recasts = s.recasts := by
  simp [reportRecovering]
@[simp] theorem reportRecovering_recastRow (e : ErrRep) (s : State) : (reportRecovering e s).recastRow = s.recastRow := by
  simp [reportRecovering]
@[simp] theorem reportRecovering_recastCount (e : ErrRep) (s : State) : (reportRecovering e s).recastCount = s.recastCount := by
  simp [reportRecovering]
@[simp] theorem reportRecovering_lmap (e : ErrRep) (s : State) : (reportRecovering e s).lmap = s.lmap := by
  simp [reportRecovering]
@[simp] theorem reportRecovering_dcRunning (e : ErrRep) (s : State) : (reportRecovering e s).dcRunning = s.dcRunning := by
  simp [reportRecovering]
@[simp] theorem reportRecovering_dcTime (e : ErrRep) (s : State) : (reportRecovering e s).dcTime = s.dcTime := by
  simp [reportRecovering]
@[simp] theorem reportRecovering_dcQuarter (e : ErrRep) (s : State) : (reportRecovering e s).dcQuarter = s.dcQuarter := by
  simp [reportRecovering]
@[simp] theorem reportRecovering_dram (e : ErrRep) (s : State) : (reportRecovering e s).dram = s.dram := by
  simp [reportRecovering]
@[simp] theorem reportRecovering_out (e : ErrRep) (s : State) : (reportRecovering e s).out = s.out := by
  simp [reportRecovering]
@[simp] theorem reportRecovering_fresh (e : ErrRep) (s : State) : (reportRecovering e s).fresh = s.fresh := by
  simp [reportRecovering]
@[simp] theorem reportRecovering_pending (e : ErrRep) (s : State) : (reportRecovering e s).pending = s.pending := by
  simp [reportRecovering]

@[simp] theorem recoveryEnds_power (code kind oid : Nat) (good : Bool) (s : State) : (recoveryEnds code kind oid good s).power = s.power := by
  unfold recoveryEnds; dsimp only; split <;> rfl
@[simp] theorem recoveryEnds_dict (code kind oid : Nat) (good : Bool) (s : State) : (recoveryEnds code kind oid good s).dict = s.dict := by
  unfold recoveryEnds; dsimp only; split <;> rfl
@[simp] theorem recoveryEnds_net (code kind oid : Nat) (good : Bool) (s : State) : (recoveryEnds code kind oid good s).net = s.net := by
  unfold recoveryEnds; dsimp only; split <;> rfl
@[simp] theorem recoveryEnds_flasks (code kind oid : Nat) (good : Bool) (s : State) : (recoveryEnds code kind oid good s).flasks = s.flasks := by
  unfold recoveryEnds; dsimp only; split <;> rfl
@[simp] theorem recoveryEnds_crus (code kind oid : Nat) (good : Bool) (s : State) : (recoveryEnds code kind oid good s).crus = s.crus := by
  unfold recoveryEnds; dsimp only; split <;> rfl
@[simp] theorem recoveryEnds_tun (code kind oid : Nat) (good : Bool) (s : State) : (recoveryEnds code kind oid good s).tun = s.tun := by
  unfold recoveryEnds; dsimp only; split <;> rfl
@[simp] theorem recoveryEnds_cores (code kind oid : Nat) (good : Bool) (s : State) : (recoveryEnds code kind oid good s).cores = s.cores := by
  unfold recoveryEnds; dsimp only; split <;> rfl
@[simp] theorem recoveryEnds_sram (code kind oid : Nat) (good : Bool) (s : State) : (recoveryEnds code kind oid good s).sram = s.sram := by
  unfold recoveryEnds; dsimp only; split <;> rfl
@[simp] theorem recoveryEnds_cup (code kind oid : Nat) (good : Bool) (s : State) : (recoveryEnds code kind oid good s).cup = s.cup := by
  unfold recoveryEnds; dsimp only; split <;> rfl
@[simp] theorem recoveryEnds_loader (code kind oid : Nat) (good : Bool) (s : State) : (recoveryEnds code kind oid good s).loader = s.loader := by
  unfold recoveryEnds; dsimp only; split <;> rfl
@[simp] theorem recoveryEnds_catch (code kind oid : Nat) (good : Bool) (s : State) : (recoveryEnds code kind oid good s).catch' = s.catch' := by
  unfold recoveryEnds; dsimp only; split <;> rfl
@[simp] theorem recoveryEnds_villet (code kind oid : Nat) (good : Bool) (s : State) : (recoveryEnds code kind oid good s).villet = s.villet := by
  unfold recoveryEnds; dsimp only; split <;> rfl
@[simp] theorem recoveryEnds_pins (code kind oid : Nat) (good : Bool) (s : State) : (recoveryEnds code kind oid good s).pins = s.pins := by
  unfold recoveryEnds; dsimp only; split <;> rfl
@[simp] theorem recoveryEnds_pcie (code kind oid : Nat) (good : Bool) (s : State) : (recoveryEnds code kind oid good s).pcie = s.pcie := by
  unfold recoveryEnds; dsimp only; split <;> rfl
@[simp] theorem recoveryEnds_ecat (code kind oid : Nat) (good : Bool) (s : State) : (recoveryEnds code kind oid good s).ecat = s.ecat := by
  unfold recoveryEnds; dsimp only; split <;> rfl
@[simp] theorem recoveryEnds_tap (code kind oid : Nat) (good : Bool) (s : State) : (recoveryEnds code kind oid good s).tap = s.tap := by
  unfold recoveryEnds; dsimp only; split <;> rfl
@[simp] theorem recoveryEnds_pdoIrq (code kind oid : Nat) (good : Bool) (s : State) : (recoveryEnds code kind oid good s).pdoIrq = s.pdoIrq := by
  unfold recoveryEnds; dsimp only; split <;> rfl
@[simp] theorem recoveryEnds_recasts (code kind oid : Nat) (good : Bool) (s : State) : (recoveryEnds code kind oid good s).recasts = s.recasts := by
  unfold recoveryEnds; dsimp only; split <;> rfl
@[simp] theorem recoveryEnds_recastRow (code kind oid : Nat) (good : Bool) (s : State) : (recoveryEnds code kind oid good s).recastRow = s.recastRow := by
  unfold recoveryEnds; dsimp only; split <;> rfl
@[simp] theorem recoveryEnds_recastCount (code kind oid : Nat) (good : Bool) (s : State) : (recoveryEnds code kind oid good s).recastCount = s.recastCount := by
  unfold recoveryEnds; dsimp only; split <;> rfl
@[simp] theorem recoveryEnds_lmap (code kind oid : Nat) (good : Bool) (s : State) : (recoveryEnds code kind oid good s).lmap = s.lmap := by
  unfold recoveryEnds; dsimp only; split <;> rfl
@[simp] theorem recoveryEnds_dcRunning (code kind oid : Nat) (good : Bool) (s : State) : (recoveryEnds code kind oid good s).dcRunning = s.dcRunning := by
  unfold recoveryEnds; dsimp only; split <;> rfl
@[simp] theorem recoveryEnds_dcTime (code kind oid : Nat) (good : Bool) (s : State) : (recoveryEnds code kind oid good s).dcTime = s.dcTime := by
  unfold recoveryEnds; dsimp only; split <;> rfl
@[simp] theorem recoveryEnds_dcQuarter (code kind oid : Nat) (good : Bool) (s : State) : (recoveryEnds code kind oid good s).dcQuarter = s.dcQuarter := by
  unfold recoveryEnds; dsimp only; split <;> rfl
@[simp] theorem recoveryEnds_dram (code kind oid : Nat) (good : Bool) (s : State) : (recoveryEnds code kind oid good s).dram = s.dram := by
  unfold recoveryEnds; dsimp only; split <;> rfl
@[simp] theorem recoveryEnds_out (code kind oid : Nat) (good : Bool) (s : State) : (recoveryEnds code kind oid good s).out = s.out := by
  unfold recoveryEnds; dsimp only; split <;> rfl
@[simp] theorem recoveryEnds_fresh (code kind oid : Nat) (good : Bool) (s : State) : (recoveryEnds code kind oid good s).fresh = s.fresh := by
  unfold recoveryEnds; dsimp only; split <;> rfl
@[simp] theorem recoveryEnds_pending (code kind oid : Nat) (good : Bool) (s : State) : (recoveryEnds code kind oid good s).pending = s.pending := by
  unfold recoveryEnds; dsimp only; split <;> rfl

/-- What an answer of the agent to the runner window changes: the network's packets and their hop credits. -/
theorem netReply_changes (path idx sub : Nat) (read : Bool) (b : Body) (s : State) :
    ∃ w c, netReply path idx sub read b s = { s with net := { s.net with wire := w, credits := c } } := by
  unfold netReply; split
  · exact ⟨s.net.wire, s.net.credits, rfl⟩
  · split
    · exact ⟨s.net.wire, s.net.credits, rfl⟩
    · split
      · obtain ⟨c, hc⟩ := s.net.drop_changes ‹Flight›
        rw [hc]; exact ⟨_, c, rfl⟩
      · exact ⟨s.net.wire, s.net.credits, rfl⟩

@[simp] theorem netReply_power (path idx sub : Nat) (read : Bool) (b : Body) (s : State) : (netReply path idx sub read b s).power = s.power := by
  obtain ⟨w, c, h⟩ := netReply_changes path idx sub read b s; rw [h]
@[simp] theorem netReply_chill (path idx sub : Nat) (read : Bool) (b : Body) (s : State) : (netReply path idx sub read b s).chill = s.chill := by
  obtain ⟨w, c, h⟩ := netReply_changes path idx sub read b s; rw [h]
@[simp] theorem netReply_dict (path idx sub : Nat) (read : Bool) (b : Body) (s : State) : (netReply path idx sub read b s).dict = s.dict := by
  obtain ⟨w, c, h⟩ := netReply_changes path idx sub read b s; rw [h]
@[simp] theorem netReply_flasks (path idx sub : Nat) (read : Bool) (b : Body) (s : State) : (netReply path idx sub read b s).flasks = s.flasks := by
  obtain ⟨w, c, h⟩ := netReply_changes path idx sub read b s; rw [h]
@[simp] theorem netReply_crus (path idx sub : Nat) (read : Bool) (b : Body) (s : State) : (netReply path idx sub read b s).crus = s.crus := by
  obtain ⟨w, c, h⟩ := netReply_changes path idx sub read b s; rw [h]
@[simp] theorem netReply_tun (path idx sub : Nat) (read : Bool) (b : Body) (s : State) : (netReply path idx sub read b s).tun = s.tun := by
  obtain ⟨w, c, h⟩ := netReply_changes path idx sub read b s; rw [h]
@[simp] theorem netReply_cores (path idx sub : Nat) (read : Bool) (b : Body) (s : State) : (netReply path idx sub read b s).cores = s.cores := by
  obtain ⟨w, c, h⟩ := netReply_changes path idx sub read b s; rw [h]
@[simp] theorem netReply_sram (path idx sub : Nat) (read : Bool) (b : Body) (s : State) : (netReply path idx sub read b s).sram = s.sram := by
  obtain ⟨w, c, h⟩ := netReply_changes path idx sub read b s; rw [h]
@[simp] theorem netReply_cup (path idx sub : Nat) (read : Bool) (b : Body) (s : State) : (netReply path idx sub read b s).cup = s.cup := by
  obtain ⟨w, c, h⟩ := netReply_changes path idx sub read b s; rw [h]
@[simp] theorem netReply_loader (path idx sub : Nat) (read : Bool) (b : Body) (s : State) : (netReply path idx sub read b s).loader = s.loader := by
  obtain ⟨w, c, h⟩ := netReply_changes path idx sub read b s; rw [h]
@[simp] theorem netReply_catch (path idx sub : Nat) (read : Bool) (b : Body) (s : State) : (netReply path idx sub read b s).catch' = s.catch' := by
  obtain ⟨w, c, h⟩ := netReply_changes path idx sub read b s; rw [h]
@[simp] theorem netReply_villet (path idx sub : Nat) (read : Bool) (b : Body) (s : State) : (netReply path idx sub read b s).villet = s.villet := by
  obtain ⟨w, c, h⟩ := netReply_changes path idx sub read b s; rw [h]
@[simp] theorem netReply_pins (path idx sub : Nat) (read : Bool) (b : Body) (s : State) : (netReply path idx sub read b s).pins = s.pins := by
  obtain ⟨w, c, h⟩ := netReply_changes path idx sub read b s; rw [h]
@[simp] theorem netReply_pcie (path idx sub : Nat) (read : Bool) (b : Body) (s : State) : (netReply path idx sub read b s).pcie = s.pcie := by
  obtain ⟨w, c, h⟩ := netReply_changes path idx sub read b s; rw [h]
@[simp] theorem netReply_ecat (path idx sub : Nat) (read : Bool) (b : Body) (s : State) : (netReply path idx sub read b s).ecat = s.ecat := by
  obtain ⟨w, c, h⟩ := netReply_changes path idx sub read b s; rw [h]
@[simp] theorem netReply_tap (path idx sub : Nat) (read : Bool) (b : Body) (s : State) : (netReply path idx sub read b s).tap = s.tap := by
  obtain ⟨w, c, h⟩ := netReply_changes path idx sub read b s; rw [h]
@[simp] theorem netReply_pdoIrq (path idx sub : Nat) (read : Bool) (b : Body) (s : State) : (netReply path idx sub read b s).pdoIrq = s.pdoIrq := by
  obtain ⟨w, c, h⟩ := netReply_changes path idx sub read b s; rw [h]
@[simp] theorem netReply_recasts (path idx sub : Nat) (read : Bool) (b : Body) (s : State) : (netReply path idx sub read b s).recasts = s.recasts := by
  obtain ⟨w, c, h⟩ := netReply_changes path idx sub read b s; rw [h]
@[simp] theorem netReply_recastRow (path idx sub : Nat) (read : Bool) (b : Body) (s : State) : (netReply path idx sub read b s).recastRow = s.recastRow := by
  obtain ⟨w, c, h⟩ := netReply_changes path idx sub read b s; rw [h]
@[simp] theorem netReply_recastCount (path idx sub : Nat) (read : Bool) (b : Body) (s : State) : (netReply path idx sub read b s).recastCount = s.recastCount := by
  obtain ⟨w, c, h⟩ := netReply_changes path idx sub read b s; rw [h]
@[simp] theorem netReply_lmap (path idx sub : Nat) (read : Bool) (b : Body) (s : State) : (netReply path idx sub read b s).lmap = s.lmap := by
  obtain ⟨w, c, h⟩ := netReply_changes path idx sub read b s; rw [h]
@[simp] theorem netReply_dcRunning (path idx sub : Nat) (read : Bool) (b : Body) (s : State) : (netReply path idx sub read b s).dcRunning = s.dcRunning := by
  obtain ⟨w, c, h⟩ := netReply_changes path idx sub read b s; rw [h]
@[simp] theorem netReply_dcTime (path idx sub : Nat) (read : Bool) (b : Body) (s : State) : (netReply path idx sub read b s).dcTime = s.dcTime := by
  obtain ⟨w, c, h⟩ := netReply_changes path idx sub read b s; rw [h]
@[simp] theorem netReply_dcQuarter (path idx sub : Nat) (read : Bool) (b : Body) (s : State) : (netReply path idx sub read b s).dcQuarter = s.dcQuarter := by
  obtain ⟨w, c, h⟩ := netReply_changes path idx sub read b s; rw [h]
@[simp] theorem netReply_dram (path idx sub : Nat) (read : Bool) (b : Body) (s : State) : (netReply path idx sub read b s).dram = s.dram := by
  obtain ⟨w, c, h⟩ := netReply_changes path idx sub read b s; rw [h]
@[simp] theorem netReply_out (path idx sub : Nat) (read : Bool) (b : Body) (s : State) : (netReply path idx sub read b s).out = s.out := by
  obtain ⟨w, c, h⟩ := netReply_changes path idx sub read b s; rw [h]
@[simp] theorem netReply_fresh (path idx sub : Nat) (read : Bool) (b : Body) (s : State) : (netReply path idx sub read b s).fresh = s.fresh := by
  obtain ⟨w, c, h⟩ := netReply_changes path idx sub read b s; rw [h]
@[simp] theorem netReply_pending (path idx sub : Nat) (read : Bool) (b : Body) (s : State) : (netReply path idx sub read b s).pending = s.pending := by
  obtain ⟨w, c, h⟩ := netReply_changes path idx sub read b s; rw [h]
@[simp] theorem netReply_net_routers (path idx sub : Nat) (read : Bool) (b : Body) (s : State) : (netReply path idx sub read b s).net.routers = s.net.routers := by
  obtain ⟨w, c, h⟩ := netReply_changes path idx sub read b s; rw [h]
@[simp] theorem netReply_net_gates (path idx sub : Nat) (read : Bool) (b : Body) (s : State) : (netReply path idx sub read b s).net.gates = s.net.gates := by
  obtain ⟨w, c, h⟩ := netReply_changes path idx sub read b s; rw [h]
@[simp] theorem netReply_net_dataCorrected (path idx sub : Nat) (read : Bool) (b : Body) (s : State) : (netReply path idx sub read b s).net.dataCorrected = s.net.dataCorrected := by
  obtain ⟨w, c, h⟩ := netReply_changes path idx sub read b s; rw [h]
@[simp] theorem netReply_net_dataPoisoned (path idx sub : Nat) (read : Bool) (b : Body) (s : State) : (netReply path idx sub read b s).net.dataPoisoned = s.net.dataPoisoned := by
  obtain ⟨w, c, h⟩ := netReply_changes path idx sub read b s; rw [h]
@[simp] theorem netReply_net_lostCount (path idx sub : Nat) (read : Bool) (b : Body) (s : State) : (netReply path idx sub read b s).net.lostCount = s.net.lostCount := by
  obtain ⟨w, c, h⟩ := netReply_changes path idx sub read b s; rw [h]
@[simp] theorem netReply_net_lateAnswers (path idx sub : Nat) (read : Bool) (b : Body) (s : State) : (netReply path idx sub read b s).net.lateAnswers = s.net.lateAnswers := by
  obtain ⟨w, c, h⟩ := netReply_changes path idx sub read b s; rw [h]

@[simp] theorem netWack_power (path idx sub : Nat) (s : State) : (netWack path idx sub s).power = s.power := by
  simp [netWack]
@[simp] theorem netWack_chill (path idx sub : Nat) (s : State) : (netWack path idx sub s).chill = s.chill := by
  simp [netWack]
@[simp] theorem netWack_dict (path idx sub : Nat) (s : State) : (netWack path idx sub s).dict = s.dict := by
  simp [netWack]
@[simp] theorem netWack_flasks (path idx sub : Nat) (s : State) : (netWack path idx sub s).flasks = s.flasks := by
  simp [netWack]
@[simp] theorem netWack_crus (path idx sub : Nat) (s : State) : (netWack path idx sub s).crus = s.crus := by
  simp [netWack]
@[simp] theorem netWack_tun (path idx sub : Nat) (s : State) : (netWack path idx sub s).tun = s.tun := by
  simp [netWack]
@[simp] theorem netWack_cores (path idx sub : Nat) (s : State) : (netWack path idx sub s).cores = s.cores := by
  simp [netWack]
@[simp] theorem netWack_sram (path idx sub : Nat) (s : State) : (netWack path idx sub s).sram = s.sram := by
  simp [netWack]
@[simp] theorem netWack_cup (path idx sub : Nat) (s : State) : (netWack path idx sub s).cup = s.cup := by
  simp [netWack]
@[simp] theorem netWack_loader (path idx sub : Nat) (s : State) : (netWack path idx sub s).loader = s.loader := by
  simp [netWack]
@[simp] theorem netWack_catch (path idx sub : Nat) (s : State) : (netWack path idx sub s).catch' = s.catch' := by
  simp [netWack]
@[simp] theorem netWack_villet (path idx sub : Nat) (s : State) : (netWack path idx sub s).villet = s.villet := by
  simp [netWack]
@[simp] theorem netWack_pins (path idx sub : Nat) (s : State) : (netWack path idx sub s).pins = s.pins := by
  simp [netWack]
@[simp] theorem netWack_pcie (path idx sub : Nat) (s : State) : (netWack path idx sub s).pcie = s.pcie := by
  simp [netWack]
@[simp] theorem netWack_ecat (path idx sub : Nat) (s : State) : (netWack path idx sub s).ecat = s.ecat := by
  simp [netWack]
@[simp] theorem netWack_tap (path idx sub : Nat) (s : State) : (netWack path idx sub s).tap = s.tap := by
  simp [netWack]
@[simp] theorem netWack_pdoIrq (path idx sub : Nat) (s : State) : (netWack path idx sub s).pdoIrq = s.pdoIrq := by
  simp [netWack]
@[simp] theorem netWack_recasts (path idx sub : Nat) (s : State) : (netWack path idx sub s).recasts = s.recasts := by
  simp [netWack]
@[simp] theorem netWack_recastRow (path idx sub : Nat) (s : State) : (netWack path idx sub s).recastRow = s.recastRow := by
  simp [netWack]
@[simp] theorem netWack_recastCount (path idx sub : Nat) (s : State) : (netWack path idx sub s).recastCount = s.recastCount := by
  simp [netWack]
@[simp] theorem netWack_lmap (path idx sub : Nat) (s : State) : (netWack path idx sub s).lmap = s.lmap := by
  simp [netWack]
@[simp] theorem netWack_dcRunning (path idx sub : Nat) (s : State) : (netWack path idx sub s).dcRunning = s.dcRunning := by
  simp [netWack]
@[simp] theorem netWack_dcTime (path idx sub : Nat) (s : State) : (netWack path idx sub s).dcTime = s.dcTime := by
  simp [netWack]
@[simp] theorem netWack_dcQuarter (path idx sub : Nat) (s : State) : (netWack path idx sub s).dcQuarter = s.dcQuarter := by
  simp [netWack]
@[simp] theorem netWack_dram (path idx sub : Nat) (s : State) : (netWack path idx sub s).dram = s.dram := by
  simp [netWack]
@[simp] theorem netWack_out (path idx sub : Nat) (s : State) : (netWack path idx sub s).out = s.out := by
  simp [netWack]
@[simp] theorem netWack_fresh (path idx sub : Nat) (s : State) : (netWack path idx sub s).fresh = s.fresh := by
  simp [netWack]
@[simp] theorem netWack_pending (path idx sub : Nat) (s : State) : (netWack path idx sub s).pending = s.pending := by
  simp [netWack]
@[simp] theorem netWack_net_routers (path idx sub : Nat) (s : State) : (netWack path idx sub s).net.routers = s.net.routers := by
  simp [netWack]
@[simp] theorem netWack_net_gates (path idx sub : Nat) (s : State) : (netWack path idx sub s).net.gates = s.net.gates := by
  simp [netWack]
@[simp] theorem netWack_net_dataCorrected (path idx sub : Nat) (s : State) : (netWack path idx sub s).net.dataCorrected = s.net.dataCorrected := by
  simp [netWack]
@[simp] theorem netWack_net_dataPoisoned (path idx sub : Nat) (s : State) : (netWack path idx sub s).net.dataPoisoned = s.net.dataPoisoned := by
  simp [netWack]
@[simp] theorem netWack_net_lostCount (path idx sub : Nat) (s : State) : (netWack path idx sub s).net.lostCount = s.net.lostCount := by
  simp [netWack]
@[simp] theorem netWack_net_lateAnswers (path idx sub : Nat) (s : State) : (netWack path idx sub s).net.lateAnswers = s.net.lateAnswers := by
  simp [netWack]

@[simp] theorem refuse_power (path idx sub : Nat) (code : Word) (s : State) : (refuse path idx sub code s).power = s.power := by
  unfold refuse; split <;> simp
@[simp] theorem refuse_chill (path idx sub : Nat) (code : Word) (s : State) : (refuse path idx sub code s).chill = s.chill := by
  unfold refuse; split <;> simp
@[simp] theorem refuse_flasks (path idx sub : Nat) (code : Word) (s : State) : (refuse path idx sub code s).flasks = s.flasks := by
  unfold refuse; split <;> simp
@[simp] theorem refuse_crus (path idx sub : Nat) (code : Word) (s : State) : (refuse path idx sub code s).crus = s.crus := by
  unfold refuse; split <;> simp
@[simp] theorem refuse_tun (path idx sub : Nat) (code : Word) (s : State) : (refuse path idx sub code s).tun = s.tun := by
  unfold refuse; split <;> simp
@[simp] theorem refuse_cores (path idx sub : Nat) (code : Word) (s : State) : (refuse path idx sub code s).cores = s.cores := by
  unfold refuse; split <;> simp
@[simp] theorem refuse_sram (path idx sub : Nat) (code : Word) (s : State) : (refuse path idx sub code s).sram = s.sram := by
  unfold refuse; split <;> simp
@[simp] theorem refuse_cup (path idx sub : Nat) (code : Word) (s : State) : (refuse path idx sub code s).cup = s.cup := by
  unfold refuse; split <;> simp
@[simp] theorem refuse_loader (path idx sub : Nat) (code : Word) (s : State) : (refuse path idx sub code s).loader = s.loader := by
  unfold refuse; split <;> simp
@[simp] theorem refuse_catch (path idx sub : Nat) (code : Word) (s : State) : (refuse path idx sub code s).catch' = s.catch' := by
  unfold refuse; split <;> simp
@[simp] theorem refuse_villet (path idx sub : Nat) (code : Word) (s : State) : (refuse path idx sub code s).villet = s.villet := by
  unfold refuse; split <;> simp
@[simp] theorem refuse_pins (path idx sub : Nat) (code : Word) (s : State) : (refuse path idx sub code s).pins = s.pins := by
  unfold refuse; split <;> simp
@[simp] theorem refuse_pcie (path idx sub : Nat) (code : Word) (s : State) : (refuse path idx sub code s).pcie = s.pcie := by
  unfold refuse; split <;> simp
@[simp] theorem refuse_ecat (path idx sub : Nat) (code : Word) (s : State) : (refuse path idx sub code s).ecat = s.ecat := by
  unfold refuse; split <;> simp
@[simp] theorem refuse_tap (path idx sub : Nat) (code : Word) (s : State) : (refuse path idx sub code s).tap = s.tap := by
  unfold refuse; split <;> simp
@[simp] theorem refuse_pdoIrq (path idx sub : Nat) (code : Word) (s : State) : (refuse path idx sub code s).pdoIrq = s.pdoIrq := by
  unfold refuse; split <;> simp
@[simp] theorem refuse_recasts (path idx sub : Nat) (code : Word) (s : State) : (refuse path idx sub code s).recasts = s.recasts := by
  unfold refuse; split <;> simp
@[simp] theorem refuse_recastRow (path idx sub : Nat) (code : Word) (s : State) : (refuse path idx sub code s).recastRow = s.recastRow := by
  unfold refuse; split <;> simp
@[simp] theorem refuse_recastCount (path idx sub : Nat) (code : Word) (s : State) : (refuse path idx sub code s).recastCount = s.recastCount := by
  unfold refuse; split <;> simp
@[simp] theorem refuse_lmap (path idx sub : Nat) (code : Word) (s : State) : (refuse path idx sub code s).lmap = s.lmap := by
  unfold refuse; split <;> simp
@[simp] theorem refuse_dcRunning (path idx sub : Nat) (code : Word) (s : State) : (refuse path idx sub code s).dcRunning = s.dcRunning := by
  unfold refuse; split <;> simp
@[simp] theorem refuse_dcTime (path idx sub : Nat) (code : Word) (s : State) : (refuse path idx sub code s).dcTime = s.dcTime := by
  unfold refuse; split <;> simp
@[simp] theorem refuse_dcQuarter (path idx sub : Nat) (code : Word) (s : State) : (refuse path idx sub code s).dcQuarter = s.dcQuarter := by
  unfold refuse; split <;> simp
@[simp] theorem refuse_dram (path idx sub : Nat) (code : Word) (s : State) : (refuse path idx sub code s).dram = s.dram := by
  unfold refuse; split <;> simp
@[simp] theorem refuse_fresh (path idx sub : Nat) (code : Word) (s : State) : (refuse path idx sub code s).fresh = s.fresh := by
  unfold refuse; split <;> simp
@[simp] theorem refuse_pending (path idx sub : Nat) (code : Word) (s : State) : (refuse path idx sub code s).pending = s.pending := by
  unfold refuse; split <;> simp
@[simp] theorem refuse_net_routers (path idx sub : Nat) (code : Word) (s : State) : (refuse path idx sub code s).net.routers = s.net.routers := by
  unfold refuse; split <;> simp
@[simp] theorem refuse_net_gates (path idx sub : Nat) (code : Word) (s : State) : (refuse path idx sub code s).net.gates = s.net.gates := by
  unfold refuse; split <;> simp
@[simp] theorem refuse_net_dataCorrected (path idx sub : Nat) (code : Word) (s : State) : (refuse path idx sub code s).net.dataCorrected = s.net.dataCorrected := by
  unfold refuse; split <;> simp
@[simp] theorem refuse_net_dataPoisoned (path idx sub : Nat) (code : Word) (s : State) : (refuse path idx sub code s).net.dataPoisoned = s.net.dataPoisoned := by
  unfold refuse; split <;> simp
@[simp] theorem refuse_net_lostCount (path idx sub : Nat) (code : Word) (s : State) : (refuse path idx sub code s).net.lostCount = s.net.lostCount := by
  unfold refuse; split <;> simp
@[simp] theorem refuse_net_lateAnswers (path idx sub : Nat) (code : Word) (s : State) : (refuse path idx sub code s).net.lateAnswers = s.net.lateAnswers := by
  unfold refuse; split <;> simp
@[simp] theorem refuse_dict_stopped (path idx sub : Nat) (code : Word) (s : State) : (refuse path idx sub code s).dict.stopped = s.dict.stopped := by
  unfold refuse; split <;> simp
@[simp] theorem refuse_dict_sessions (path idx sub : Nat) (code : Word) (s : State) : (refuse path idx sub code s).dict.sessions = s.dict.sessions := by
  unfold refuse; split <;> simp
@[simp] theorem refuse_dict_keys (path idx sub : Nat) (code : Word) (s : State) : (refuse path idx sub code s).dict.keys = s.dict.keys := by
  unfold refuse; split <;> simp
@[simp] theorem refuse_dict_authFails (path idx sub : Nat) (code : Word) (s : State) : (refuse path idx sub code s).dict.authFails = s.dict.authFails := by
  unfold refuse; split <;> simp
@[simp] theorem refuse_dict_authLogged (path idx sub : Nat) (code : Word) (s : State) : (refuse path idx sub code s).dict.authLogged = s.dict.authLogged := by
  unfold refuse; split <;> simp
@[simp] theorem refuse_dict_txLast (path idx sub : Nat) (code : Word) (s : State) : (refuse path idx sub code s).dict.txLast = s.dict.txLast := by
  unfold refuse; split <;> simp
@[simp] theorem refuse_dict_settings (path idx sub : Nat) (code : Word) (s : State) : (refuse path idx sub code s).dict.settings = s.dict.settings := by
  unfold refuse; split <;> simp
@[simp] theorem refuse_dict_perPath (path idx sub : Nat) (code : Word) (s : State) : (refuse path idx sub code s).dict.perPath = s.dict.perPath := by
  unfold refuse; split <;> simp

@[simp] theorem accept_power (path idx sub : Nat) (s : State) : (accept path idx sub s).power = s.power := by
  unfold accept; split <;> simp
@[simp] theorem accept_chill (path idx sub : Nat) (s : State) : (accept path idx sub s).chill = s.chill := by
  unfold accept; split <;> simp
@[simp] theorem accept_dict (path idx sub : Nat) (s : State) : (accept path idx sub s).dict = s.dict := by
  unfold accept; split <;> simp
@[simp] theorem accept_flasks (path idx sub : Nat) (s : State) : (accept path idx sub s).flasks = s.flasks := by
  unfold accept; split <;> simp
@[simp] theorem accept_crus (path idx sub : Nat) (s : State) : (accept path idx sub s).crus = s.crus := by
  unfold accept; split <;> simp
@[simp] theorem accept_tun (path idx sub : Nat) (s : State) : (accept path idx sub s).tun = s.tun := by
  unfold accept; split <;> simp
@[simp] theorem accept_cores (path idx sub : Nat) (s : State) : (accept path idx sub s).cores = s.cores := by
  unfold accept; split <;> simp
@[simp] theorem accept_sram (path idx sub : Nat) (s : State) : (accept path idx sub s).sram = s.sram := by
  unfold accept; split <;> simp
@[simp] theorem accept_cup (path idx sub : Nat) (s : State) : (accept path idx sub s).cup = s.cup := by
  unfold accept; split <;> simp
@[simp] theorem accept_loader (path idx sub : Nat) (s : State) : (accept path idx sub s).loader = s.loader := by
  unfold accept; split <;> simp
@[simp] theorem accept_catch (path idx sub : Nat) (s : State) : (accept path idx sub s).catch' = s.catch' := by
  unfold accept; split <;> simp
@[simp] theorem accept_villet (path idx sub : Nat) (s : State) : (accept path idx sub s).villet = s.villet := by
  unfold accept; split <;> simp
@[simp] theorem accept_pins (path idx sub : Nat) (s : State) : (accept path idx sub s).pins = s.pins := by
  unfold accept; split <;> simp
@[simp] theorem accept_pcie (path idx sub : Nat) (s : State) : (accept path idx sub s).pcie = s.pcie := by
  unfold accept; split <;> simp
@[simp] theorem accept_ecat (path idx sub : Nat) (s : State) : (accept path idx sub s).ecat = s.ecat := by
  unfold accept; split <;> simp
@[simp] theorem accept_tap (path idx sub : Nat) (s : State) : (accept path idx sub s).tap = s.tap := by
  unfold accept; split <;> simp
@[simp] theorem accept_pdoIrq (path idx sub : Nat) (s : State) : (accept path idx sub s).pdoIrq = s.pdoIrq := by
  unfold accept; split <;> simp
@[simp] theorem accept_recasts (path idx sub : Nat) (s : State) : (accept path idx sub s).recasts = s.recasts := by
  unfold accept; split <;> simp
@[simp] theorem accept_recastRow (path idx sub : Nat) (s : State) : (accept path idx sub s).recastRow = s.recastRow := by
  unfold accept; split <;> simp
@[simp] theorem accept_recastCount (path idx sub : Nat) (s : State) : (accept path idx sub s).recastCount = s.recastCount := by
  unfold accept; split <;> simp
@[simp] theorem accept_lmap (path idx sub : Nat) (s : State) : (accept path idx sub s).lmap = s.lmap := by
  unfold accept; split <;> simp
@[simp] theorem accept_dcRunning (path idx sub : Nat) (s : State) : (accept path idx sub s).dcRunning = s.dcRunning := by
  unfold accept; split <;> simp
@[simp] theorem accept_dcTime (path idx sub : Nat) (s : State) : (accept path idx sub s).dcTime = s.dcTime := by
  unfold accept; split <;> simp
@[simp] theorem accept_dcQuarter (path idx sub : Nat) (s : State) : (accept path idx sub s).dcQuarter = s.dcQuarter := by
  unfold accept; split <;> simp
@[simp] theorem accept_dram (path idx sub : Nat) (s : State) : (accept path idx sub s).dram = s.dram := by
  unfold accept; split <;> simp
@[simp] theorem accept_fresh (path idx sub : Nat) (s : State) : (accept path idx sub s).fresh = s.fresh := by
  unfold accept; split <;> simp
@[simp] theorem accept_pending (path idx sub : Nat) (s : State) : (accept path idx sub s).pending = s.pending := by
  unfold accept; split <;> simp
@[simp] theorem accept_net_routers (path idx sub : Nat) (s : State) : (accept path idx sub s).net.routers = s.net.routers := by
  unfold accept; split <;> simp
@[simp] theorem accept_net_gates (path idx sub : Nat) (s : State) : (accept path idx sub s).net.gates = s.net.gates := by
  unfold accept; split <;> simp
@[simp] theorem accept_net_dataCorrected (path idx sub : Nat) (s : State) : (accept path idx sub s).net.dataCorrected = s.net.dataCorrected := by
  unfold accept; split <;> simp
@[simp] theorem accept_net_dataPoisoned (path idx sub : Nat) (s : State) : (accept path idx sub s).net.dataPoisoned = s.net.dataPoisoned := by
  unfold accept; split <;> simp
@[simp] theorem accept_net_lostCount (path idx sub : Nat) (s : State) : (accept path idx sub s).net.lostCount = s.net.lostCount := by
  unfold accept; split <;> simp
@[simp] theorem accept_net_lateAnswers (path idx sub : Nat) (s : State) : (accept path idx sub s).net.lateAnswers = s.net.lateAnswers := by
  unfold accept; split <;> simp

@[simp] theorem touch_power (path : Nat) (s : State) : (touch path s).power = s.power := by
  unfold touch; dsimp only; split <;> simp
@[simp] theorem touch_chill (path : Nat) (s : State) : (touch path s).chill = s.chill := by
  unfold touch; dsimp only; split <;> simp
@[simp] theorem touch_flasks (path : Nat) (s : State) : (touch path s).flasks = s.flasks := by
  unfold touch; dsimp only; split <;> simp
@[simp] theorem touch_crus (path : Nat) (s : State) : (touch path s).crus = s.crus := by
  unfold touch; dsimp only; split <;> simp
@[simp] theorem touch_tun (path : Nat) (s : State) : (touch path s).tun = s.tun := by
  unfold touch; dsimp only; split <;> simp
@[simp] theorem touch_cores (path : Nat) (s : State) : (touch path s).cores = s.cores := by
  unfold touch; dsimp only; split <;> simp
@[simp] theorem touch_sram (path : Nat) (s : State) : (touch path s).sram = s.sram := by
  unfold touch; dsimp only; split <;> simp
@[simp] theorem touch_cup (path : Nat) (s : State) : (touch path s).cup = s.cup := by
  unfold touch; dsimp only; split <;> simp
@[simp] theorem touch_loader (path : Nat) (s : State) : (touch path s).loader = s.loader := by
  unfold touch; dsimp only; split <;> simp
@[simp] theorem touch_catch (path : Nat) (s : State) : (touch path s).catch' = s.catch' := by
  unfold touch; dsimp only; split <;> simp
@[simp] theorem touch_villet (path : Nat) (s : State) : (touch path s).villet = s.villet := by
  unfold touch; dsimp only; split <;> simp
@[simp] theorem touch_pins (path : Nat) (s : State) : (touch path s).pins = s.pins := by
  unfold touch; dsimp only; split <;> simp
@[simp] theorem touch_pcie (path : Nat) (s : State) : (touch path s).pcie = s.pcie := by
  unfold touch; dsimp only; split <;> simp
@[simp] theorem touch_ecat (path : Nat) (s : State) : (touch path s).ecat = s.ecat := by
  unfold touch; dsimp only; split <;> simp
@[simp] theorem touch_tap (path : Nat) (s : State) : (touch path s).tap = s.tap := by
  unfold touch; dsimp only; split <;> simp
@[simp] theorem touch_pdoIrq (path : Nat) (s : State) : (touch path s).pdoIrq = s.pdoIrq := by
  unfold touch; dsimp only; split <;> simp
@[simp] theorem touch_recasts (path : Nat) (s : State) : (touch path s).recasts = s.recasts := by
  unfold touch; dsimp only; split <;> simp
@[simp] theorem touch_recastRow (path : Nat) (s : State) : (touch path s).recastRow = s.recastRow := by
  unfold touch; dsimp only; split <;> simp
@[simp] theorem touch_recastCount (path : Nat) (s : State) : (touch path s).recastCount = s.recastCount := by
  unfold touch; dsimp only; split <;> simp
@[simp] theorem touch_lmap (path : Nat) (s : State) : (touch path s).lmap = s.lmap := by
  unfold touch; dsimp only; split <;> simp
@[simp] theorem touch_dcRunning (path : Nat) (s : State) : (touch path s).dcRunning = s.dcRunning := by
  unfold touch; dsimp only; split <;> simp
@[simp] theorem touch_dcTime (path : Nat) (s : State) : (touch path s).dcTime = s.dcTime := by
  unfold touch; dsimp only; split <;> simp
@[simp] theorem touch_dcQuarter (path : Nat) (s : State) : (touch path s).dcQuarter = s.dcQuarter := by
  unfold touch; dsimp only; split <;> simp
@[simp] theorem touch_dram (path : Nat) (s : State) : (touch path s).dram = s.dram := by
  unfold touch; dsimp only; split <;> simp
@[simp] theorem touch_fresh (path : Nat) (s : State) : (touch path s).fresh = s.fresh := by
  unfold touch; dsimp only; split <;> simp
@[simp] theorem touch_pending (path : Nat) (s : State) : (touch path s).pending = s.pending := by
  unfold touch; dsimp only; split <;> simp
@[simp] theorem touch_net_routers (path : Nat) (s : State) : (touch path s).net.routers = s.net.routers := by
  unfold touch; dsimp only; split <;> simp
@[simp] theorem touch_net_gates (path : Nat) (s : State) : (touch path s).net.gates = s.net.gates := by
  unfold touch; dsimp only; split <;> simp
@[simp] theorem touch_net_dataCorrected (path : Nat) (s : State) : (touch path s).net.dataCorrected = s.net.dataCorrected := by
  unfold touch; dsimp only; split <;> simp
@[simp] theorem touch_net_dataPoisoned (path : Nat) (s : State) : (touch path s).net.dataPoisoned = s.net.dataPoisoned := by
  unfold touch; dsimp only; split <;> simp
@[simp] theorem touch_net_lostCount (path : Nat) (s : State) : (touch path s).net.lostCount = s.net.lostCount := by
  unfold touch; dsimp only; split <;> simp
@[simp] theorem touch_net_lateAnswers (path : Nat) (s : State) : (touch path s).net.lateAnswers = s.net.lateAnswers := by
  unfold touch; dsimp only; split <;> simp
@[simp] theorem touch_dict_stopped (path : Nat) (s : State) : (touch path s).dict.stopped = s.dict.stopped := by
  unfold touch; dsimp only; split <;> simp
@[simp] theorem touch_dict_sessions (path : Nat) (s : State) : (touch path s).dict.sessions = s.dict.sessions := by
  unfold touch; dsimp only; split <;> simp
@[simp] theorem touch_dict_keys (path : Nat) (s : State) : (touch path s).dict.keys = s.dict.keys := by
  unfold touch; dsimp only; split <;> simp
@[simp] theorem touch_dict_authFails (path : Nat) (s : State) : (touch path s).dict.authFails = s.dict.authFails := by
  unfold touch; dsimp only; split <;> simp
@[simp] theorem touch_dict_authLogged (path : Nat) (s : State) : (touch path s).dict.authLogged = s.dict.authLogged := by
  unfold touch; dsimp only; split <;> simp
@[simp] theorem touch_dict_txLast (path : Nat) (s : State) : (touch path s).dict.txLast = s.dict.txLast := by
  unfold touch; dsimp only; split <;> simp
@[simp] theorem touch_dict_settings (path : Nat) (s : State) : (touch path s).dict.settings = s.dict.settings := by
  unfold touch; dsimp only; split <;> simp
@[simp] theorem touch_dict_perPath (path : Nat) (s : State) : (touch path s).dict.perPath = s.dict.perPath := by
  unfold touch; dsimp only; split <;> simp

@[simp] theorem touchRead_power (path : Nat) (s : State) : (touchRead path s).power = s.power := by
  simp [touchRead]
@[simp] theorem touchRead_chill (path : Nat) (s : State) : (touchRead path s).chill = s.chill := by
  simp [touchRead]
@[simp] theorem touchRead_flasks (path : Nat) (s : State) : (touchRead path s).flasks = s.flasks := by
  simp [touchRead]
@[simp] theorem touchRead_crus (path : Nat) (s : State) : (touchRead path s).crus = s.crus := by
  simp [touchRead]
@[simp] theorem touchRead_tun (path : Nat) (s : State) : (touchRead path s).tun = s.tun := by
  simp [touchRead]
@[simp] theorem touchRead_cores (path : Nat) (s : State) : (touchRead path s).cores = s.cores := by
  simp [touchRead]
@[simp] theorem touchRead_sram (path : Nat) (s : State) : (touchRead path s).sram = s.sram := by
  simp [touchRead]
@[simp] theorem touchRead_cup (path : Nat) (s : State) : (touchRead path s).cup = s.cup := by
  simp [touchRead]
@[simp] theorem touchRead_loader (path : Nat) (s : State) : (touchRead path s).loader = s.loader := by
  simp [touchRead]
@[simp] theorem touchRead_catch (path : Nat) (s : State) : (touchRead path s).catch' = s.catch' := by
  simp [touchRead]
@[simp] theorem touchRead_villet (path : Nat) (s : State) : (touchRead path s).villet = s.villet := by
  simp [touchRead]
@[simp] theorem touchRead_pins (path : Nat) (s : State) : (touchRead path s).pins = s.pins := by
  simp [touchRead]
@[simp] theorem touchRead_pcie (path : Nat) (s : State) : (touchRead path s).pcie = s.pcie := by
  simp [touchRead]
@[simp] theorem touchRead_ecat (path : Nat) (s : State) : (touchRead path s).ecat = s.ecat := by
  simp [touchRead]
@[simp] theorem touchRead_tap (path : Nat) (s : State) : (touchRead path s).tap = s.tap := by
  simp [touchRead]
@[simp] theorem touchRead_pdoIrq (path : Nat) (s : State) : (touchRead path s).pdoIrq = s.pdoIrq := by
  simp [touchRead]
@[simp] theorem touchRead_recasts (path : Nat) (s : State) : (touchRead path s).recasts = s.recasts := by
  simp [touchRead]
@[simp] theorem touchRead_recastRow (path : Nat) (s : State) : (touchRead path s).recastRow = s.recastRow := by
  simp [touchRead]
@[simp] theorem touchRead_recastCount (path : Nat) (s : State) : (touchRead path s).recastCount = s.recastCount := by
  simp [touchRead]
@[simp] theorem touchRead_lmap (path : Nat) (s : State) : (touchRead path s).lmap = s.lmap := by
  simp [touchRead]
@[simp] theorem touchRead_dcRunning (path : Nat) (s : State) : (touchRead path s).dcRunning = s.dcRunning := by
  simp [touchRead]
@[simp] theorem touchRead_dcTime (path : Nat) (s : State) : (touchRead path s).dcTime = s.dcTime := by
  simp [touchRead]
@[simp] theorem touchRead_dcQuarter (path : Nat) (s : State) : (touchRead path s).dcQuarter = s.dcQuarter := by
  simp [touchRead]
@[simp] theorem touchRead_dram (path : Nat) (s : State) : (touchRead path s).dram = s.dram := by
  simp [touchRead]
@[simp] theorem touchRead_fresh (path : Nat) (s : State) : (touchRead path s).fresh = s.fresh := by
  simp [touchRead]
@[simp] theorem touchRead_pending (path : Nat) (s : State) : (touchRead path s).pending = s.pending := by
  simp [touchRead]
@[simp] theorem touchRead_net_routers (path : Nat) (s : State) : (touchRead path s).net.routers = s.net.routers := by
  simp [touchRead]
@[simp] theorem touchRead_net_gates (path : Nat) (s : State) : (touchRead path s).net.gates = s.net.gates := by
  simp [touchRead]
@[simp] theorem touchRead_net_dataCorrected (path : Nat) (s : State) : (touchRead path s).net.dataCorrected = s.net.dataCorrected := by
  simp [touchRead]
@[simp] theorem touchRead_net_dataPoisoned (path : Nat) (s : State) : (touchRead path s).net.dataPoisoned = s.net.dataPoisoned := by
  simp [touchRead]
@[simp] theorem touchRead_net_lostCount (path : Nat) (s : State) : (touchRead path s).net.lostCount = s.net.lostCount := by
  simp [touchRead]
@[simp] theorem touchRead_net_lateAnswers (path : Nat) (s : State) : (touchRead path s).net.lateAnswers = s.net.lateAnswers := by
  simp [touchRead]
@[simp] theorem touchRead_dict_stopped (path : Nat) (s : State) : (touchRead path s).dict.stopped = s.dict.stopped := by
  simp [touchRead]
@[simp] theorem touchRead_dict_sessions (path : Nat) (s : State) : (touchRead path s).dict.sessions = s.dict.sessions := by
  simp [touchRead]
@[simp] theorem touchRead_dict_keys (path : Nat) (s : State) : (touchRead path s).dict.keys = s.dict.keys := by
  simp [touchRead]
@[simp] theorem touchRead_dict_authFails (path : Nat) (s : State) : (touchRead path s).dict.authFails = s.dict.authFails := by
  simp [touchRead]
@[simp] theorem touchRead_dict_authLogged (path : Nat) (s : State) : (touchRead path s).dict.authLogged = s.dict.authLogged := by
  simp [touchRead]
@[simp] theorem touchRead_dict_txLast (path : Nat) (s : State) : (touchRead path s).dict.txLast = s.dict.txLast := by
  simp [touchRead]
@[simp] theorem touchRead_dict_settings (path : Nat) (s : State) : (touchRead path s).dict.settings = s.dict.settings := by
  simp [touchRead]
@[simp] theorem touchRead_dict_perPath (path : Nat) (s : State) : (touchRead path s).dict.perPath = s.dict.perPath := by
  simp [touchRead]

@[simp] theorem busAnswer_power (path idx sub : Nat) (v : DWord) (s : State) : (busAnswer path idx sub v s).power = s.power := by
  simp [busAnswer]
@[simp] theorem busAnswer_chill (path idx sub : Nat) (v : DWord) (s : State) : (busAnswer path idx sub v s).chill = s.chill := by
  simp [busAnswer]
@[simp] theorem busAnswer_dict (path idx sub : Nat) (v : DWord) (s : State) : (busAnswer path idx sub v s).dict = s.dict := by
  simp [busAnswer]
@[simp] theorem busAnswer_flasks (path idx sub : Nat) (v : DWord) (s : State) : (busAnswer path idx sub v s).flasks = s.flasks := by
  simp [busAnswer]
@[simp] theorem busAnswer_crus (path idx sub : Nat) (v : DWord) (s : State) : (busAnswer path idx sub v s).crus = s.crus := by
  simp [busAnswer]
@[simp] theorem busAnswer_tun (path idx sub : Nat) (v : DWord) (s : State) : (busAnswer path idx sub v s).tun = s.tun := by
  simp [busAnswer]
@[simp] theorem busAnswer_cores (path idx sub : Nat) (v : DWord) (s : State) : (busAnswer path idx sub v s).cores = s.cores := by
  simp [busAnswer]
@[simp] theorem busAnswer_sram (path idx sub : Nat) (v : DWord) (s : State) : (busAnswer path idx sub v s).sram = s.sram := by
  simp [busAnswer]
@[simp] theorem busAnswer_cup (path idx sub : Nat) (v : DWord) (s : State) : (busAnswer path idx sub v s).cup = s.cup := by
  simp [busAnswer]
@[simp] theorem busAnswer_loader (path idx sub : Nat) (v : DWord) (s : State) : (busAnswer path idx sub v s).loader = s.loader := by
  simp [busAnswer]
@[simp] theorem busAnswer_catch (path idx sub : Nat) (v : DWord) (s : State) : (busAnswer path idx sub v s).catch' = s.catch' := by
  simp [busAnswer]
@[simp] theorem busAnswer_villet (path idx sub : Nat) (v : DWord) (s : State) : (busAnswer path idx sub v s).villet = s.villet := by
  simp [busAnswer]
@[simp] theorem busAnswer_pins (path idx sub : Nat) (v : DWord) (s : State) : (busAnswer path idx sub v s).pins = s.pins := by
  simp [busAnswer]
@[simp] theorem busAnswer_pcie (path idx sub : Nat) (v : DWord) (s : State) : (busAnswer path idx sub v s).pcie = s.pcie := by
  simp [busAnswer]
@[simp] theorem busAnswer_ecat (path idx sub : Nat) (v : DWord) (s : State) : (busAnswer path idx sub v s).ecat = s.ecat := by
  simp [busAnswer]
@[simp] theorem busAnswer_tap (path idx sub : Nat) (v : DWord) (s : State) : (busAnswer path idx sub v s).tap = s.tap := by
  simp [busAnswer]
@[simp] theorem busAnswer_pdoIrq (path idx sub : Nat) (v : DWord) (s : State) : (busAnswer path idx sub v s).pdoIrq = s.pdoIrq := by
  simp [busAnswer]
@[simp] theorem busAnswer_recasts (path idx sub : Nat) (v : DWord) (s : State) : (busAnswer path idx sub v s).recasts = s.recasts := by
  simp [busAnswer]
@[simp] theorem busAnswer_recastRow (path idx sub : Nat) (v : DWord) (s : State) : (busAnswer path idx sub v s).recastRow = s.recastRow := by
  simp [busAnswer]
@[simp] theorem busAnswer_recastCount (path idx sub : Nat) (v : DWord) (s : State) : (busAnswer path idx sub v s).recastCount = s.recastCount := by
  simp [busAnswer]
@[simp] theorem busAnswer_lmap (path idx sub : Nat) (v : DWord) (s : State) : (busAnswer path idx sub v s).lmap = s.lmap := by
  simp [busAnswer]
@[simp] theorem busAnswer_dcRunning (path idx sub : Nat) (v : DWord) (s : State) : (busAnswer path idx sub v s).dcRunning = s.dcRunning := by
  simp [busAnswer]
@[simp] theorem busAnswer_dcTime (path idx sub : Nat) (v : DWord) (s : State) : (busAnswer path idx sub v s).dcTime = s.dcTime := by
  simp [busAnswer]
@[simp] theorem busAnswer_dcQuarter (path idx sub : Nat) (v : DWord) (s : State) : (busAnswer path idx sub v s).dcQuarter = s.dcQuarter := by
  simp [busAnswer]
@[simp] theorem busAnswer_dram (path idx sub : Nat) (v : DWord) (s : State) : (busAnswer path idx sub v s).dram = s.dram := by
  simp [busAnswer]
@[simp] theorem busAnswer_fresh (path idx sub : Nat) (v : DWord) (s : State) : (busAnswer path idx sub v s).fresh = s.fresh := by
  simp [busAnswer]
@[simp] theorem busAnswer_pending (path idx sub : Nat) (v : DWord) (s : State) : (busAnswer path idx sub v s).pending = s.pending := by
  simp [busAnswer]
@[simp] theorem busAnswer_net_routers (path idx sub : Nat) (v : DWord) (s : State) : (busAnswer path idx sub v s).net.routers = s.net.routers := by
  simp [busAnswer]
@[simp] theorem busAnswer_net_gates (path idx sub : Nat) (v : DWord) (s : State) : (busAnswer path idx sub v s).net.gates = s.net.gates := by
  simp [busAnswer]
@[simp] theorem busAnswer_net_dataCorrected (path idx sub : Nat) (v : DWord) (s : State) : (busAnswer path idx sub v s).net.dataCorrected = s.net.dataCorrected := by
  simp [busAnswer]
@[simp] theorem busAnswer_net_dataPoisoned (path idx sub : Nat) (v : DWord) (s : State) : (busAnswer path idx sub v s).net.dataPoisoned = s.net.dataPoisoned := by
  simp [busAnswer]
@[simp] theorem busAnswer_net_lostCount (path idx sub : Nat) (v : DWord) (s : State) : (busAnswer path idx sub v s).net.lostCount = s.net.lostCount := by
  simp [busAnswer]
@[simp] theorem busAnswer_net_lateAnswers (path idx sub : Nat) (v : DWord) (s : State) : (busAnswer path idx sub v s).net.lateAnswers = s.net.lateAnswers := by
  simp [busAnswer]

@[simp] theorem answerRead_power (path idx sub size : Nat) (v : DWord) (s : State) : (answerRead path idx sub size v s).power = s.power := by
  unfold answerRead; split <;> simp
@[simp] theorem answerRead_chill (path idx sub size : Nat) (v : DWord) (s : State) : (answerRead path idx sub size v s).chill = s.chill := by
  unfold answerRead; split <;> simp
@[simp] theorem answerRead_dict (path idx sub size : Nat) (v : DWord) (s : State) : (answerRead path idx sub size v s).dict = s.dict := by
  unfold answerRead; split <;> simp
@[simp] theorem answerRead_flasks (path idx sub size : Nat) (v : DWord) (s : State) : (answerRead path idx sub size v s).flasks = s.flasks := by
  unfold answerRead; split <;> simp
@[simp] theorem answerRead_crus (path idx sub size : Nat) (v : DWord) (s : State) : (answerRead path idx sub size v s).crus = s.crus := by
  unfold answerRead; split <;> simp
@[simp] theorem answerRead_tun (path idx sub size : Nat) (v : DWord) (s : State) : (answerRead path idx sub size v s).tun = s.tun := by
  unfold answerRead; split <;> simp
@[simp] theorem answerRead_cores (path idx sub size : Nat) (v : DWord) (s : State) : (answerRead path idx sub size v s).cores = s.cores := by
  unfold answerRead; split <;> simp
@[simp] theorem answerRead_sram (path idx sub size : Nat) (v : DWord) (s : State) : (answerRead path idx sub size v s).sram = s.sram := by
  unfold answerRead; split <;> simp
@[simp] theorem answerRead_cup (path idx sub size : Nat) (v : DWord) (s : State) : (answerRead path idx sub size v s).cup = s.cup := by
  unfold answerRead; split <;> simp
@[simp] theorem answerRead_loader (path idx sub size : Nat) (v : DWord) (s : State) : (answerRead path idx sub size v s).loader = s.loader := by
  unfold answerRead; split <;> simp
@[simp] theorem answerRead_catch (path idx sub size : Nat) (v : DWord) (s : State) : (answerRead path idx sub size v s).catch' = s.catch' := by
  unfold answerRead; split <;> simp
@[simp] theorem answerRead_villet (path idx sub size : Nat) (v : DWord) (s : State) : (answerRead path idx sub size v s).villet = s.villet := by
  unfold answerRead; split <;> simp
@[simp] theorem answerRead_pins (path idx sub size : Nat) (v : DWord) (s : State) : (answerRead path idx sub size v s).pins = s.pins := by
  unfold answerRead; split <;> simp
@[simp] theorem answerRead_pcie (path idx sub size : Nat) (v : DWord) (s : State) : (answerRead path idx sub size v s).pcie = s.pcie := by
  unfold answerRead; split <;> simp
@[simp] theorem answerRead_ecat (path idx sub size : Nat) (v : DWord) (s : State) : (answerRead path idx sub size v s).ecat = s.ecat := by
  unfold answerRead; split <;> simp
@[simp] theorem answerRead_tap (path idx sub size : Nat) (v : DWord) (s : State) : (answerRead path idx sub size v s).tap = s.tap := by
  unfold answerRead; split <;> simp
@[simp] theorem answerRead_pdoIrq (path idx sub size : Nat) (v : DWord) (s : State) : (answerRead path idx sub size v s).pdoIrq = s.pdoIrq := by
  unfold answerRead; split <;> simp
@[simp] theorem answerRead_recasts (path idx sub size : Nat) (v : DWord) (s : State) : (answerRead path idx sub size v s).recasts = s.recasts := by
  unfold answerRead; split <;> simp
@[simp] theorem answerRead_recastRow (path idx sub size : Nat) (v : DWord) (s : State) : (answerRead path idx sub size v s).recastRow = s.recastRow := by
  unfold answerRead; split <;> simp
@[simp] theorem answerRead_recastCount (path idx sub size : Nat) (v : DWord) (s : State) : (answerRead path idx sub size v s).recastCount = s.recastCount := by
  unfold answerRead; split <;> simp
@[simp] theorem answerRead_lmap (path idx sub size : Nat) (v : DWord) (s : State) : (answerRead path idx sub size v s).lmap = s.lmap := by
  unfold answerRead; split <;> simp
@[simp] theorem answerRead_dcRunning (path idx sub size : Nat) (v : DWord) (s : State) : (answerRead path idx sub size v s).dcRunning = s.dcRunning := by
  unfold answerRead; split <;> simp
@[simp] theorem answerRead_dcTime (path idx sub size : Nat) (v : DWord) (s : State) : (answerRead path idx sub size v s).dcTime = s.dcTime := by
  unfold answerRead; split <;> simp
@[simp] theorem answerRead_dcQuarter (path idx sub size : Nat) (v : DWord) (s : State) : (answerRead path idx sub size v s).dcQuarter = s.dcQuarter := by
  unfold answerRead; split <;> simp
@[simp] theorem answerRead_dram (path idx sub size : Nat) (v : DWord) (s : State) : (answerRead path idx sub size v s).dram = s.dram := by
  unfold answerRead; split <;> simp
@[simp] theorem answerRead_fresh (path idx sub size : Nat) (v : DWord) (s : State) : (answerRead path idx sub size v s).fresh = s.fresh := by
  unfold answerRead; split <;> simp
@[simp] theorem answerRead_pending (path idx sub size : Nat) (v : DWord) (s : State) : (answerRead path idx sub size v s).pending = s.pending := by
  unfold answerRead; split <;> simp
@[simp] theorem answerRead_net_routers (path idx sub size : Nat) (v : DWord) (s : State) : (answerRead path idx sub size v s).net.routers = s.net.routers := by
  unfold answerRead; split <;> simp
@[simp] theorem answerRead_net_gates (path idx sub size : Nat) (v : DWord) (s : State) : (answerRead path idx sub size v s).net.gates = s.net.gates := by
  unfold answerRead; split <;> simp
@[simp] theorem answerRead_net_dataCorrected (path idx sub size : Nat) (v : DWord) (s : State) : (answerRead path idx sub size v s).net.dataCorrected = s.net.dataCorrected := by
  unfold answerRead; split <;> simp
@[simp] theorem answerRead_net_dataPoisoned (path idx sub size : Nat) (v : DWord) (s : State) : (answerRead path idx sub size v s).net.dataPoisoned = s.net.dataPoisoned := by
  unfold answerRead; split <;> simp
@[simp] theorem answerRead_net_lostCount (path idx sub size : Nat) (v : DWord) (s : State) : (answerRead path idx sub size v s).net.lostCount = s.net.lostCount := by
  unfold answerRead; split <;> simp
@[simp] theorem answerRead_net_lateAnswers (path idx sub size : Nat) (v : DWord) (s : State) : (answerRead path idx sub size v s).net.lateAnswers = s.net.lateAnswers := by
  unfold answerRead; split <;> simp

@[simp] theorem refuseRead_power (path idx sub : Nat) (code : Word) (s : State) : (refuseRead path idx sub code s).power = s.power := by
  unfold refuseRead; dsimp only; split <;> simp
@[simp] theorem refuseRead_chill (path idx sub : Nat) (code : Word) (s : State) : (refuseRead path idx sub code s).chill = s.chill := by
  unfold refuseRead; dsimp only; split <;> simp
@[simp] theorem refuseRead_flasks (path idx sub : Nat) (code : Word) (s : State) : (refuseRead path idx sub code s).flasks = s.flasks := by
  unfold refuseRead; dsimp only; split <;> simp
@[simp] theorem refuseRead_crus (path idx sub : Nat) (code : Word) (s : State) : (refuseRead path idx sub code s).crus = s.crus := by
  unfold refuseRead; dsimp only; split <;> simp
@[simp] theorem refuseRead_tun (path idx sub : Nat) (code : Word) (s : State) : (refuseRead path idx sub code s).tun = s.tun := by
  unfold refuseRead; dsimp only; split <;> simp
@[simp] theorem refuseRead_cores (path idx sub : Nat) (code : Word) (s : State) : (refuseRead path idx sub code s).cores = s.cores := by
  unfold refuseRead; dsimp only; split <;> simp
@[simp] theorem refuseRead_sram (path idx sub : Nat) (code : Word) (s : State) : (refuseRead path idx sub code s).sram = s.sram := by
  unfold refuseRead; dsimp only; split <;> simp
@[simp] theorem refuseRead_cup (path idx sub : Nat) (code : Word) (s : State) : (refuseRead path idx sub code s).cup = s.cup := by
  unfold refuseRead; dsimp only; split <;> simp
@[simp] theorem refuseRead_loader (path idx sub : Nat) (code : Word) (s : State) : (refuseRead path idx sub code s).loader = s.loader := by
  unfold refuseRead; dsimp only; split <;> simp
@[simp] theorem refuseRead_catch (path idx sub : Nat) (code : Word) (s : State) : (refuseRead path idx sub code s).catch' = s.catch' := by
  unfold refuseRead; dsimp only; split <;> simp
@[simp] theorem refuseRead_villet (path idx sub : Nat) (code : Word) (s : State) : (refuseRead path idx sub code s).villet = s.villet := by
  unfold refuseRead; dsimp only; split <;> simp
@[simp] theorem refuseRead_pins (path idx sub : Nat) (code : Word) (s : State) : (refuseRead path idx sub code s).pins = s.pins := by
  unfold refuseRead; dsimp only; split <;> simp
@[simp] theorem refuseRead_pcie (path idx sub : Nat) (code : Word) (s : State) : (refuseRead path idx sub code s).pcie = s.pcie := by
  unfold refuseRead; dsimp only; split <;> simp
@[simp] theorem refuseRead_ecat (path idx sub : Nat) (code : Word) (s : State) : (refuseRead path idx sub code s).ecat = s.ecat := by
  unfold refuseRead; dsimp only; split <;> simp
@[simp] theorem refuseRead_tap (path idx sub : Nat) (code : Word) (s : State) : (refuseRead path idx sub code s).tap = s.tap := by
  unfold refuseRead; dsimp only; split <;> simp
@[simp] theorem refuseRead_pdoIrq (path idx sub : Nat) (code : Word) (s : State) : (refuseRead path idx sub code s).pdoIrq = s.pdoIrq := by
  unfold refuseRead; dsimp only; split <;> simp
@[simp] theorem refuseRead_recasts (path idx sub : Nat) (code : Word) (s : State) : (refuseRead path idx sub code s).recasts = s.recasts := by
  unfold refuseRead; dsimp only; split <;> simp
@[simp] theorem refuseRead_recastRow (path idx sub : Nat) (code : Word) (s : State) : (refuseRead path idx sub code s).recastRow = s.recastRow := by
  unfold refuseRead; dsimp only; split <;> simp
@[simp] theorem refuseRead_recastCount (path idx sub : Nat) (code : Word) (s : State) : (refuseRead path idx sub code s).recastCount = s.recastCount := by
  unfold refuseRead; dsimp only; split <;> simp
@[simp] theorem refuseRead_lmap (path idx sub : Nat) (code : Word) (s : State) : (refuseRead path idx sub code s).lmap = s.lmap := by
  unfold refuseRead; dsimp only; split <;> simp
@[simp] theorem refuseRead_dcRunning (path idx sub : Nat) (code : Word) (s : State) : (refuseRead path idx sub code s).dcRunning = s.dcRunning := by
  unfold refuseRead; dsimp only; split <;> simp
@[simp] theorem refuseRead_dcTime (path idx sub : Nat) (code : Word) (s : State) : (refuseRead path idx sub code s).dcTime = s.dcTime := by
  unfold refuseRead; dsimp only; split <;> simp
@[simp] theorem refuseRead_dcQuarter (path idx sub : Nat) (code : Word) (s : State) : (refuseRead path idx sub code s).dcQuarter = s.dcQuarter := by
  unfold refuseRead; dsimp only; split <;> simp
@[simp] theorem refuseRead_dram (path idx sub : Nat) (code : Word) (s : State) : (refuseRead path idx sub code s).dram = s.dram := by
  unfold refuseRead; dsimp only; split <;> simp
@[simp] theorem refuseRead_fresh (path idx sub : Nat) (code : Word) (s : State) : (refuseRead path idx sub code s).fresh = s.fresh := by
  unfold refuseRead; dsimp only; split <;> simp
@[simp] theorem refuseRead_pending (path idx sub : Nat) (code : Word) (s : State) : (refuseRead path idx sub code s).pending = s.pending := by
  unfold refuseRead; dsimp only; split <;> simp
@[simp] theorem refuseRead_net_routers (path idx sub : Nat) (code : Word) (s : State) : (refuseRead path idx sub code s).net.routers = s.net.routers := by
  unfold refuseRead; dsimp only; split <;> simp
@[simp] theorem refuseRead_net_gates (path idx sub : Nat) (code : Word) (s : State) : (refuseRead path idx sub code s).net.gates = s.net.gates := by
  unfold refuseRead; dsimp only; split <;> simp
@[simp] theorem refuseRead_net_dataCorrected (path idx sub : Nat) (code : Word) (s : State) : (refuseRead path idx sub code s).net.dataCorrected = s.net.dataCorrected := by
  unfold refuseRead; dsimp only; split <;> simp
@[simp] theorem refuseRead_net_dataPoisoned (path idx sub : Nat) (code : Word) (s : State) : (refuseRead path idx sub code s).net.dataPoisoned = s.net.dataPoisoned := by
  unfold refuseRead; dsimp only; split <;> simp
@[simp] theorem refuseRead_net_lostCount (path idx sub : Nat) (code : Word) (s : State) : (refuseRead path idx sub code s).net.lostCount = s.net.lostCount := by
  unfold refuseRead; dsimp only; split <;> simp
@[simp] theorem refuseRead_net_lateAnswers (path idx sub : Nat) (code : Word) (s : State) : (refuseRead path idx sub code s).net.lateAnswers = s.net.lateAnswers := by
  unfold refuseRead; dsimp only; split <;> simp
@[simp] theorem refuseRead_dict_stopped (path idx sub : Nat) (code : Word) (s : State) : (refuseRead path idx sub code s).dict.stopped = s.dict.stopped := by
  unfold refuseRead; dsimp only; split <;> simp
@[simp] theorem refuseRead_dict_sessions (path idx sub : Nat) (code : Word) (s : State) : (refuseRead path idx sub code s).dict.sessions = s.dict.sessions := by
  unfold refuseRead; dsimp only; split <;> simp
@[simp] theorem refuseRead_dict_keys (path idx sub : Nat) (code : Word) (s : State) : (refuseRead path idx sub code s).dict.keys = s.dict.keys := by
  unfold refuseRead; dsimp only; split <;> simp
@[simp] theorem refuseRead_dict_authFails (path idx sub : Nat) (code : Word) (s : State) : (refuseRead path idx sub code s).dict.authFails = s.dict.authFails := by
  unfold refuseRead; dsimp only; split <;> simp
@[simp] theorem refuseRead_dict_authLogged (path idx sub : Nat) (code : Word) (s : State) : (refuseRead path idx sub code s).dict.authLogged = s.dict.authLogged := by
  unfold refuseRead; dsimp only; split <;> simp
@[simp] theorem refuseRead_dict_txLast (path idx sub : Nat) (code : Word) (s : State) : (refuseRead path idx sub code s).dict.txLast = s.dict.txLast := by
  unfold refuseRead; dsimp only; split <;> simp
@[simp] theorem refuseRead_dict_settings (path idx sub : Nat) (code : Word) (s : State) : (refuseRead path idx sub code s).dict.settings = s.dict.settings := by
  unfold refuseRead; dsimp only; split <;> simp
@[simp] theorem refuseRead_dict_perPath (path idx sub : Nat) (code : Word) (s : State) : (refuseRead path idx sub code s).dict.perPath = s.dict.perPath := by
  unfold refuseRead; dsimp only; split <;> simp

/-! ### Dictionary commands -/

@[simp] theorem netReply_paths (path idx sub : Nat) (read : Bool) (b : Body) (s : State) (q : Nat) :
    (netReply path idx sub read b s).path q = s.path q := by simp [State.path]

@[simp] theorem netWack_path (path idx sub : Nat) (s : State) (q : Nat) : (netWack path idx sub s).path q = s.path q := by simp [State.path]

@[simp] theorem emit_path (o : Out) (s : State) (q : Nat) : (s.emit o).path q = s.path q := rfl

theorem modPath_session (s : State) (p q : Nat) (g : Path → Path) (h : ∀ x : Path, (g x).session = x.session) :
    ((s.modPath p g).path q).session = (s.path q).session := by
  by_cases e : q = p
  · subst e; simp [h]
  · rw [State.modPath_ne s p g q e]

@[simp] theorem refuse_session (path idx sub : Nat) (code : Word) (s : State) (q : Nat) :
    ((refuse path idx sub code s).path q).session = (s.path q).session := by
  unfold refuse
  split
  · simp
  · refine (modPath_session _ _ _ _ ?_).trans (by simp)
    exact fun _ => rfl

@[simp] theorem touch_session (path : Nat) (s : State) (q : Nat) : ((touch path s).path q).session = (s.path q).session := by
  unfold touch
  dsimp only
  refine (modPath_session _ _ _ _ ?_).trans ?_
  · exact fun _ => rfl
  · split <;> simp

@[simp] theorem touchRead_session (path : Nat) (s : State) (q : Nat) : ((touchRead path s).path q).session = (s.path q).session := by
  unfold touchRead
  refine (modPath_session _ _ _ _ ?_).trans (by simp)
  exact fun _ => rfl

@[simp] theorem touch_level (path : Nat) (s : State) (q : Nat) : (touch path s).level q = s.level q := by
  unfold State.level State.session
  simp only [touch_session, touch_dict_sessions]

@[simp] theorem touch_gateCheck (path : Nat) (s : State) (q idx sub level : Nat) :
    (touch path s).gateCheck q idx sub level = s.gateCheck q idx sub level := by
  unfold State.gateCheck
  simp only [touch_level, touch_dict_stopped]

@[simp] theorem touch_committing (path : Nat) (s : State) (q : Nat) : (touch path s).committing q = s.committing q := by
  unfold State.committing State.session
  simp only [touch_session, touch_dict_sessions]

@[simp] theorem touch_fits (path : Nat) (s : State) (q idx : Nat) : (touch path s).fits q idx = s.fits q idx := by
  unfold State.fits State.entryUp State.bootBars State.domOn State.dom
  simp only [touch_committing, touch_power, touch_loader, touch_ecat]

@[simp] theorem touch_staging (path : Nat) (s : State) (q : Nat) : (touch path s).staging q = s.staging q := by
  unfold State.staging State.session
  simp only [touch_session, touch_dict_sessions]

/-- An admitted command whose own checks pass has its effect and is answered. -/
theorem dictCommand_admitted {path idx sub level : Nat} {act : State → Except Word State} {s s' : State}
    (h : s.reaches path = true ∧ s.gateCheck path idx sub level = none ∧ s.fits path idx = true) (ha : act (touch path s) = .ok s') :
    dictCommand path idx sub level act s = .next (accept path idx sub s') := by
  obtain ⟨h1, h2, h3⟩ := h
  simp [dictCommand, h1, h2, h3, ha]

/-- A command that the agent does not admit, or whose own checks refuse it, is refused and has no other effect. -/
theorem dictCommand_refused {path idx sub level : Nat} {act : State → Except Word State} {s : State} {code : Word}
    (h1 : s.reaches path = true) (h : s.gateCheck path idx sub level = some code ∨
      (s.gateCheck path idx sub level = none ∧ act (touch path s) = .error code)) :
    dictCommand path idx sub level act s = .next (refuse path idx sub code (touch path s)) := by
  rcases h with h | ⟨h, ha⟩
  · simp [dictCommand, h1, h]
  · simp [dictCommand, h1, h, ha]

/-- A write of a transactable entry outside a transaction is a dictionary command. -/
theorem rwtCommand_admitted {path obj idx sub level : Nat} {v : DWord} {act : State → Except Word State} {s s' : State}
    (h : s.reaches path = true ∧ s.gateCheck path idx sub level = none ∧ s.fits path idx = true) (hs : s.staging path = false)
    (ha : act (touch path s) = .ok s') :
    rwtCommand path obj idx sub level v none act s = .next (accept path idx sub s') := by
  simp only [rwtCommand, touch_staging, hs, Bool.and_false, Bool.false_and, Bool.false_eq_true, if_false]
  exact dictCommand_admitted h ha

end Sys2Proof.Machine
end

