-- ==== Sys2Proof/WellFormed.lean ====
section
/-! DEFINITION. Which commands are well formed: every number names an object the hardware has (a flask, a cell, a slot, a queue, a channel, a
port ...) and fits its field. A command that is not still has its meaning; mostly it is an event that cannot happen. -/

namespace Sys2Proof

open Sys2Proof.Machine

/-- A packet whose header fields fit (R376). -/
def wfPacket (p : Packet) : Bool := decide (p.dest < 128) && decide (p.src < 128) && decide (p.oclass < 4) && decide (p.tag < 256) && decide (p.tc < 4)

/-- A 32-bit word of a queue's page in BAR4 that no row of its own serves: not the pushes at 0x00 and 0x04 nor the POP at 0x18 (R260). -/
def bar4Listed (ofs : Nat) : Bool := decide (ofs % 4 = 0) && decide (ofs < 64) && !([0, 4, 0x18, 0x1C].contains ofs)

/-- The numbers of a command are in range. -/
def Instr.wf : Instr → Bool
  | .cellPass p c _ => decide (p < 72) && decide (c < 64)
  | .cellAdd p c _ => decide (p < 72) && decide (c < 64)
  | .cellSub p c _ => decide (p < 72) && decide (c < 64)
  | .cellAnd p c _ => decide (p < 72) && decide (c < 64)
  | .cellOr p c _ => decide (p < 72) && decide (c < 64)
  | .cellXor p c _ => decide (p < 72) && decide (c < 64)
  | .cellAndn p c _ => decide (p < 72) && decide (c < 64)
  | .cellShl p c _ => decide (p < 72) && decide (c < 64)
  | .cellShr p c _ => decide (p < 72) && decide (c < 64)
  | .cellSar p c _ => decide (p < 72) && decide (c < 64)
  | .cellRol p c _ => decide (p < 72) && decide (c < 64)
  | .cellRor p c _ => decide (p < 72) && decide (c < 64)
  | .cellExtu p c _ => decide (p < 72) && decide (c < 64)
  | .cellExts p c _ => decide (p < 72) && decide (c < 64)
  | .cellIns p c _ => decide (p < 72) && decide (c < 64)
  | .cellPopc p c _ => decide (p < 72) && decide (c < 64)
  | .cellClz p c _ => decide (p < 72) && decide (c < 64)
  | .cellMinu p c _ => decide (p < 72) && decide (c < 64)
  | .cellMaxu p c _ => decide (p < 72) && decide (c < 64)
  | .cellMins p c _ => decide (p < 72) && decide (c < 64)
  | .cellMaxs p c _ => decide (p < 72) && decide (c < 64)
  | .cellCmpeq p c _ => decide (p < 72) && decide (c < 64)
  | .cellCmpne p c _ => decide (p < 72) && decide (c < 64)
  | .cellCmpltu p c _ => decide (p < 72) && decide (c < 64)
  | .cellCmplts p c _ => decide (p < 72) && decide (c < 64)
  | .cellCmpleu p c _ => decide (p < 72) && decide (c < 64)
  | .cellCmples p c _ => decide (p < 72) && decide (c < 64)
  | .cellSel p c _ => decide (p < 72) && decide (c < 64)
  | .cellLfsr p c _ => decide (p < 72) && decide (c < 64)
  | .cellCrc8 p c _ => decide (p < 72) && decide (c < 64)
  | .cellPar p c _ => decide (p < 72) && decide (c < 64)
  | .cellQpush p c _ => decide (p < 72) && decide (c < 64)
  | .cellQpop p c _ => decide (p < 72) && decide (c < 64)
  | .qpopResult p n c _ _ _ => decide (p < 72) && decide (n < 16) && decide (c < 64)
  | .bmPortRead p n _ _ _ => decide (p < 72) && decide (n < 4)
  | .bmPortWrite p n _ _ => decide (p < 72) && decide (n < 4)
  | .bmScrubWriteback p m => decide (p < 72) && decide (m < 2)
  | .sequencerChoice p _ => decide (p < 72)
  | .flaskDispatchMsg p ctx run token core tag => decide (p < 72) && decide (ctx < 256) && decide (run < 65536) && decide (token < 65536) && decide (core < 8) && decide (tag < 256)
  | .dispatchEntryRetire p => decide (p < 72)
  | .boundaryCross p sl _ => decide (p < 72) && decide (sl < 32)
  | .ctxSpill p => decide (p < 72)
  | .ctxSpillComplete p => decide (p < 72)
  | .ctxFill p => decide (p < 72)
  | .ctxFillComplete p => decide (p < 72)
  | .ctxCmdFill path p x n => pathOk path && decide (p < 72) && decide (x < 256) && decide (n < 16)
  | .ctxCmdSpill path p n => pathOk path && decide (p < 72) && decide (n < 16)
  | .ctxCmdPin path p n => pathOk path && decide (p < 72) && decide (n < 16)
  | .ctxCmdUnpin path p n => pathOk path && decide (p < 72) && decide (n < 16)
  | .ctxCmdEvict path p n => pathOk path && decide (p < 72) && decide (n < 16)
  | .ctxStatusClr path p _ => pathOk path && decide (p < 72)
  | .ctxWinDataRead path p => pathOk path && decide (p < 72)
  | .recastCmdStart path k target => pathOk path && decide (k < 64) && decide (target < 72)
  | .recastCmdCancel path k => pathOk path && decide (k < 64)
  | .recastCmdRelease path p => pathOk path && decide (p < 72)
  | .recastPrecopyComplete y => decide (y < 8)
  | .recastFreeze y => decide (y < 8)
  | .recastDone y => decide (y < 8)
  | .recastTimeout y => decide (y < 8)
  | .recastTargetFault y => decide (y < 8)
  | .cruNop p _ => decide (p < 72)
  | .cruHalt p _ => decide (p < 72)
  | .cruB p _ => decide (p < 72)
  | .cruCall p _ => decide (p < 72)
  | .cruRet p _ => decide (p < 72)
  | .cruReti p _ => decide (p < 72)
  | .cruRep p _ => decide (p < 72)
  | .cruBrep p _ => decide (p < 72)
  | .cruEi p _ => decide (p < 72)
  | .cruDi p _ => decide (p < 72)
  | .cruMov p _ => decide (p < 72)
  | .cruLoad p _ => decide (p < 72)
  | .cruStore p _ => decide (p < 72)
  | .cruModp p _ => decide (p < 72)
  | .cruAdd p _ => decide (p < 72)
  | .cruSub p _ => decide (p < 72)
  | .cruAnd p _ => decide (p < 72)
  | .cruOr p _ => decide (p < 72)
  | .cruXor p _ => decide (p < 72)
  | .cruAndn p _ => decide (p < 72)
  | .cruShl p _ => decide (p < 72)
  | .cruShr p _ => decide (p < 72)
  | .cruSar p _ => decide (p < 72)
  | .cruCmp p _ => decide (p < 72)
  | .cruMpy p _ => decide (p < 72)
  | .cruMac p _ => decide (p < 72)
  | .cruMsu p _ => decide (p < 72)
  | .cruMacs p _ => decide (p < 72)
  | .cruCmpy p _ => decide (p < 72)
  | .cruCmac p _ => decide (p < 72)
  | .cruCmsu p _ => decide (p < 72)
  | .cruCmacj p _ => decide (p < 72)
  | .cruClr p _ => decide (p < 72)
  | .cruExt32 p _ => decide (p < 72)
  | .cruExt16 p _ => decide (p < 72)
  | .cruSin p _ => decide (p < 72)
  | .cruSout p _ => decide (p < 72)
  | .cruInterruptAccept p => decide (p < 72)
  | .cruHoldoffLimit p => decide (p < 72)
  | .cruScrubWriteback p => decide (p < 72)
  | .cruCmdRun path p _ entry => pathOk path && decide (p < 72) && decide (entry < 4096)
  | .cruCmdHalt path p => pathOk path && decide (p < 72)
  | .cruHaltPoint p => decide (p < 72)
  | .cruCmdStep path p _ => pathOk path && decide (p < 72)
  | .cruCmdClearPorts path p => pathOk path && decide (p < 72)
  | .cruWinWrite path p _ => pathOk path && decide (p < 72)
  | .cruWinDataRead path p _ _ => pathOk path && decide (p < 72)
  | .cruStickyClear path p _ => pathOk path && decide (p < 72)
  | .push src q _ ws _ _ _ _ => decide (src < 128) && decide (q < 262144) && decide (ws.length ≤ 16)
  | .rewind src q _ => decide (src < 128) && decide (q < 262144)
  | .pop src q max tag _ _ => decide (src < 128) && decide (q < 262144) && decide (1 ≤ max) && decide (max ≤ 16) && decide (tag < 256)
  | .crWaitExpiry q => decide (q < 262144)
  | .revokeAck src q _ _ => decide (src < 128) && decide (q < 262144)
  | .watchSet src q i _ => decide (src < 128) && decide (q < 262144) && decide (i < 4)
  | .gateCredit i q n => decide (i < 96) && decide (q < 262144) && decide (n < 65536)
  | .gateRevoke i q => decide (i < 96) && decide (q < 262144)
  | .gateWatchState i q ix _ => decide (i < 96) && decide (q < 262144) && decide (ix < 4)
  | .gatePushSend i q => decide (i < 96) && decide (q < 262144)
  | .deepSpillAnswer q _ => decide (q < 262144)
  | .deepRefillAnswer q _ => decide (q < 262144)
  | .deepBlocksWrite path _ => pathOk path
  | .deepInitComplete => true
  | .queueEnable path _ _ => pathOk path
  | .queueDisable path _ _ => pathOk path
  | .flush path _ _ => pathOk path
  | .tundishSweepComplete _ _ => true
  | .bar4Push q _ => decide (q < 262144)
  | .bar4PushLast q _ => decide (q < 262144)
  | .bar4PushAbandon q ofs => decide (q < 262144) && bar4Listed ofs
  | .bar4CreditTake q ofs => decide (q < 262144) && bar4Listed ofs
  | .bar4Pop q => decide (q < 262144)
  | .lcQueuePush c _ => decide (c < 8)
  | .lcQueuePushLast c _ => decide (c < 8)
  | .qpushTimeout c => decide (c < 8)
  | .lcQueuePop c _ => decide (c < 8)
  | .lcPopResponse c _ ws => decide (c < 8) && decide (ws.length ≤ 16)
  | .lcQueueRewind c _ => decide (c < 8)
  | .lcInstruction c _ => decide (c < 8)
  | .lcRunnerLoad c _ => decide (c < 8)
  | .lcRunnerStore c _ => decide (c < 8)
  | .lcFence c _ => decide (c < 8)
  | .ldm c n _ => decide (c < 8) && decide (n < 32)
  | .stm c n _ => decide (c < 8) && decide (n < 32)
  | .bret c _ => decide (c < 8)
  | .mret c _ => decide (c < 8)
  | .lcDispatchAccept c => decide (c < 8)
  | .lcSourceTrap c src => decide (c < 8) && decide (src < 32)
  | .lcLevelEntry c src => decide (c < 8) && decide (src < 32)
  | .xbreadyWrite c _ => decide (c < 8)
  | .xbwdataWrite c _ => decide (c < 8)
  | .bankSpill c => decide (c < 8)
  | .bankSpillComplete c _ _ => decide (c < 8)
  | .bankFill c => decide (c < 8)
  | .bankFillComplete c _ _ => decide (c < 8)
  | .lcFwLoadComplete c => decide (c < 8)
  | .lcCmdPark path c => pathOk path && decide (c < 8)
  | .lcParkComplete c => decide (c < 8)
  | .lcCmdJoin path c => pathOk path && decide (c < 8)
  | .lcCmdReload path c _ => pathOk path && decide (c < 8)
  | .lcCmdRestart path c _ => pathOk path && decide (c < 8)
  | .post c _ _ => decide (c < 8)
  | .send c _ _ => decide (c < 8)
  | .waitMatch c _ _ => decide (c < 8)
  | .delay c _ _ => decide (c < 8)
  | .yield c _ _ => decide (c < 8)
  | .cancel c _ _ => decide (c < 8)
  | .create c _ _ => decide (c < 8)
  | .fdispatch c _ _ => decide (c < 8)
  | .abandon c _ _ => decide (c < 8)
  | .restart c _ _ => decide (c < 8)
  | .done c _ _ _ => decide (c < 8)
  | .attnRead c _ => decide (c < 8)
  | .cupolaDispatch _ => true
  | .dispatchWithdraw c => decide (c < 8)
  | .delayExpiry t => decide (t < 4096)
  | .matchTimeout t => decide (t < 4096)
  | .ringPop _ => true
  | .ringRetry r => decide (r < 16)
  | .flaskCompletion k ctx token _ _ => decide (k < 72) && decide (ctx < 256) && decide (token < 65536)
  | .cupolaHaltPlacement c _ => decide (c < 8)
  | .tCmdCreate path => pathOk path
  | .tCmdCancel path => pathOk path
  | .tCmdRestart path => pathOk path
  | .tCmdRelease path => pathOk path
  | .gateInject i tc => decide (i < 96) && decide (tc < 4)
  | .runnerHop _ _ => true
  | .gateAnswer i pkt _ _ _ => decide (i < 96) && wfPacket pkt
  | .gateDropNotice i tag => decide (i < 96) && decide (tag < 256)
  | .rspTimeout i tag => decide (i < 96) && decide (tag < 256)
  | .tagQuarantineEnd i tag => decide (i < 96) && decide (tag < 256)
  | .portDrained r n => decide (r < 13) && decide (n < 16)
  | .closeTimeout r n => decide (r < 13) && decide (n < 16)
  | .portCreditsExchanged r n => decide (r < 13) && decide (n < 16)
  | .rtrCmdApply path r => pathOk path && decide (r < 13)
  | .routeTableSwitch r => decide (r < 13)
  | .rtrCmdDiscard path r => pathOk path && decide (r < 13)
  | .rd n pkt => decide (n < 8) && wfPacket pkt
  | .wr n pkt _ _ => decide (n < 8) && wfPacket pkt
  | .fold n pkt _ _ => decide (n < 8) && wfPacket pkt
  | .foldEntryIssue n _ => decide (n < 8)
  | .lineAccessIssue n _ _ _ _ _ => decide (n < 8)
  | .rdataSend n => decide (n < 8)
  | .wackSend n => decide (n < 8)
  | .refreshObligation n cs _ _ => decide (n < 8) && decide (cs < 4)
  | .refsbIssue n cs _ _ => decide (n < 8) && decide (cs < 4)
  | .phyPllLock n => decide (n < 8)
  | .chCfgWrite path n _ => pathOk path && decide (n < 8)
  | .chCmdOnline path n => pathOk path && decide (n < 8)
  | .chCmdOffline path n => pathOk path && decide (n < 8)
  | .channelDrainComplete n => decide (n < 8)
  | .chCmdGather path n => pathOk path && decide (n < 8)
  | .chCmdRunInj path n => pathOk path && decide (n < 8)
  | .injRunComplete n _ => decide (n < 8)
  | .chCmdSweep path n => pathOk path && decide (n < 8)
  | .trainSweepComplete n _ => decide (n < 8)
  | .chCmdAbortRun path n _ => pathOk path && decide (n < 8)
  | .chCmdEndGatherAccept path n => pathOk path && decide (n < 8)
  | .chCmdEndGatherFail path n => pathOk path && decide (n < 8)
  | .chCmdSaveDelays path n => pathOk path && decide (n < 8)
  | .saveDelaysComplete n => decide (n < 8)
  | .catchAlert n => decide (n < 8)
  | .phyClockLoss n => decide (n < 8)
  | .evacCmdStart path src dst => pathOk path && decide (src < 16) && decide (dst < 16)
  | .evacCmdCancel path => pathOk path
  | .evacCopyComplete _ => true
  | .evacSwitch => true
  | .zeroCmdStart path => pathOk path
  | .zeroCmdCancel path => pathOk path
  | .zeroComplete => true
  | .mapEnable path w _ => pathOk path && decide (w < 16)
  | .mapDisable path w => pathOk path && decide (w < 16)
  | .dataFrame n _ _ _ => decide (n < 6)
  | .ackFrame n _ _ => decide (n < 6)
  | .nakFrame n _ _ _ => decide (n < 6)
  | .initFrame n _ _ _ => decide (n < 6)
  | .retrainRunStart n _ _ => decide (n < 6)
  | .laneBlockLock n l => decide (n < 6) && decide (l < 8)
  | .laneBlockLockLoss n l => decide (n < 6) && decide (l < 8)
  | .laneMarkerLock n l k => decide (n < 6) && decide (l < 8) && decide (k < 8)
  | .laneMarkerLockLoss n l => decide (n < 6) && decide (l < 8)
  | .lanesAligned n _ _ => decide (n < 6)
  | .dataFrameSend n => decide (n < 6)
  | .ackDelayExpiry n => decide (n < 6)
  | .replayTimeout n _ => decide (n < 6)
  | .keepalive n => decide (n < 6)
  | .deadTimeout n => decide (n < 6)
  | .alignTimeout n => decide (n < 6)
  | .initTimeout n => decide (n < 6)
  | .retrainHold n => decide (n < 6)
  | .initInterval n => decide (n < 6)
  | .attemptCounterReset n => decide (n < 6)
  | .linkCmdEnable path n => pathOk path && decide (n < 6)
  | .linkCmdDisable path n _ => pathOk path && decide (n < 6)
  | .linkCmdReset path n _ => pathOk path && decide (n < 6)
  | .linkCmdRetrain path n => pathOk path && decide (n < 6)
  | .serdesRefLoss n _ => decide (n < 6)
  | .heatCmdOpen path n sl => pathOk path && decide (n < 6) && decide (sl < 2)
  | .heatCmdHold path n sl => pathOk path && decide (n < 6) && decide (sl < 2)
  | .heatCmdResume path n sl => pathOk path && decide (n < 6) && decide (sl < 2)
  | .heatCmdMark path n sl => pathOk path && decide (n < 6) && decide (sl < 2)
  | .heatCmdClose path n sl => pathOk path && decide (n < 6) && decide (sl < 2)
  | .heatCmdAbort path n sl => pathOk path && decide (n < 6) && decide (sl < 2)
  | .heatCmdClear path n sl => pathOk path && decide (n < 6) && decide (sl < 2)
  | .openAck n => decide (n < 6)
  | .openNak n => decide (n < 6)
  | .applied n => decide (n < 6)
  | .markDone n => decide (n < 6)
  | .closed n => decide (n < 6)
  | .void n => decide (n < 6)
  | .gap n => decide (n < 6)
  | .fail n => decide (n < 6)
  | .param n => decide (n < 6)
  | .vectorPop n => decide (n < 6)
  | .vectorPopResponse n => decide (n < 6)
  | .vectorPopRetry n => decide (n < 6)
  | .openTimeout n sl => decide (n < 6) && decide (sl < 2)
  | .appliedTimeout n sl => decide (n < 6) && decide (sl < 2)
  | .drainTimeout n sl => decide (n < 6) && decide (sl < 2)
  | .headerRecord _ => true
  | .frameRecord _ => true
  | .endRecord _ => true
  | .loaderSourceExhausted => true
  | .loaderQuiesced => true
  | .ldDrainTimeout => true
  | .loaderPlaced _ => true
  | .imageRelease => true
  | .loaderRecordsComplete => true
  | .ldCmdLoadSlot path n => pathOk path && decide (n < 4)
  | .ldCmdLoadCatch path => pathOk path
  | .ldCmdAbandon path => pathOk path
  | .scpRecord _ => true
  | .scpStatus => true
  | .scpAbandon => true
  | .scpError => true
  | .scpTimeout => true
  | .msCmdOpen path n code => pathOk path && decide (n < 4) && decide (code < 16)
  | .msDataWrite path n _ => pathOk path && decide (n < 4)
  | .msCmdClose path n _ => pathOk path && decide (n < 4)
  | .msCmdCancel path n => pathOk path && decide (n < 4)
  | .bootOrderWrite path _ => pathOk path
  | .sdoDownload idx sub _ _ _ _ _ => decide (idx < 65536) && decide (sub < 256)
  | .sdoUpload idx sub _ _ _ _ => decide (idx < 65536) && decide (sub < 256)
  | .sdoSegment _ _ _ _ => true
  | .sdoSegmentTimeout => true
  | .getOdList => true
  | .getObjectDescription idx => decide (idx < 65536)
  | .getEntryDescription idx sub => decide (idx < 65536) && decide (sub < 256)
  | .dictWrite path idx sub _ _ _ _ _ => pathOk path && decide (idx < 65536) && decide (sub < 256)
  | .sessReqRequest path _ => pathOk path
  | .sessReqProve path _ _ => pathOk path
  | .sessReqClose path => pathOk path
  | .sessCmdClose path n => pathOk path && decide (n < 5)
  | .sessIdleTimeout n => decide (n < 5)
  | .keyLockoutEnd k => decide (k < 4)
  | .keyCmdSet path k level _ => pathOk path && decide (k < 4) && decide (level < 4)
  | .keyCmdClear path k _ => pathOk path && decide (k < 4)
  | .txCmdBegin path => pathOk path
  | .txCmdCommit path w => pathOk path && decide (w < 4)
  | .txCmdRollback path => pathOk path
  | .txCommitTick _ => true
  | .chillCmdFire path => pathOk path
  | .chillCmdFireAt path => pathOk path
  | .chillCmdRelease path _ => pathOk path
  | .chillCmdCancelAt path => pathOk path
  | .chillTake => true
  | .logEntryWrite => true
  | .recastCeWindowExpiry => true
  | .logAck path _ => pathOk path
  | .pciePerstRelease => true
  | .pcieReset _ _ => true
  | .bar2Read _ n => decide (1 ≤ n) && decide (n ≤ 64)
  | .bar2Write _ _ _ _ _ => true
  | .dmaEnable path q => pathOk path && decide (q < 262144)
  | .dmaDisable path q => pathOk path && decide (q < 262144)
  | .dmaDescriptorPop e => decide (e < 64)
  | .dmaHostReadCompletion e _ _ _ => decide (e < 64)
  | .dmaQ2hRepop e => decide (e < 64)
  | .dmaDescriptorComplete e => decide (e < 64)
  | .msixUnmask v _ _ _ _ _ => decide (v < 2048)
  | .alRequestInit => true
  | .alRequestPreop start0 len0 start1 len1 => decide (start0 < 65536) && decide (len0 < 65536) && decide (start1 < 65536) && decide (len1 < 65536)
  | .alRequestSafeop start2 len2 start3 len3 => decide (start2 < 65536) && decide (len2 < 65536) && decide (start3 < 65536) && decide (len3 < 65536)
  | .alRequestOp => true
  | .alRequestBoot => true
  | .sm2Watchdog => true
  | .mailboxUnsupported type => decide (type < 16)
  | .rxpdoExchange _ _ => true
  | .txpdoSample => true
  | .dcOffsetWrite _ => true
  | .sync1Event => true
  | .ecatLinkChange k _ => decide (k < 2)
  | .bankSupplyChange b supply => decide (b < 2) && decide (supply < 4)
  | .bankSettle b => decide (b < 2)
  | .pinInputChange n _ => decide (n < 64)
  | .triggerEdge k _ => decide (k < 8)
  | .captureEdge n _ => decide (n < 4)
  | .i2cXfer path n addr _ _ => pathOk path && decide (n < 4) && decide (addr < 128)
  | .i2cTransferDone n _ _ => decide (n < 4)
  | .i2cStuck n => decide (n < 4)
  | .spiXfer path n k => pathOk path && decide (n < 4) && decide (k < 4)
  | .spiTransferDone n _ => decide (n < 4)
  | .uartTx path n _ => pathOk path && decide (n < 2)
  | .uartRx path n => pathOk path && decide (n < 2)
  | .uartRxByte n _ => decide (n < 2)
  | .trigFire path k _ => pathOk path && decide (k < 8)
  | .stbFire path _ => pathOk path
  | .strobeEnd j => decide (j < 16)
  | .powerOnResetRelease _ _ _ => true
  | .pllLock _ => true
  | .pllLockLoss => true
  | .pwrgoodFall k _ => decide (k < 3)
  | .pwrCmdOn path d => pathOk path && decide (d < 88)
  | .pwrCmdOff path d => pathOk path && decide (d < 88)
  | .domainSwitchGrant d => decide (d < 88)
  | .domainSettled d => decide (d < 88)
  | .domainRampTimeout d => decide (d < 88)
  | .domainPowerOff d => decide (d < 88)
  | .rstCmdCore path _ => pathOk path
  | .rstCmdMgmt path => pathOk path
  | .mgmtAutoReset => true
  | .holdCmdEnter path => pathOk path
  | .holdCmdExit path => pathOk path
  | .dimmPwrWaitExpiry => true
  | .thermSample _ => true
  | .markerReceived n l _ _ => decide (n < 6) && decide (l < 8)
  | .codingErrorBlock n _ _ => decide (n < 6)
  | .mirrorRead path idx sub _ _ _ _ => pathOk path && decide (idx < 65536) && decide (sub < 256)
  | .pcieLinkUp _ _ _ _ => true
  | .pwrgoodRise k => decide (k < 3)
  | .mailboxInRead => true

end Sys2Proof
end

