-- ==== Sys2Proof/Tests/Slice0.lean ====
section
/-! SUPPORT. Tests of the model: ill-formed commands that are refused by the check, single commands with the values the spec's rules give by
hand, and for each statement with hypotheses the states and commands that meet them. -/

open Sys2Proof Sys2Proof.Machine

namespace Sys2Proof.Machine.Wit

set_option Elab.async false
set_option maxRecDepth 100000

/-- The command completes. -/
def Goes (c : Instr) (s : State) : Prop := ∃ t, exec c s = .next t

theorem goes {c : Instr} {s : State} {P : State → Prop} (h : Answers c s P) : Goes c s := let ⟨t, e, _⟩ := h; ⟨t, e⟩

/-- The state after a command. -/
def after (c : Instr) (s : State) : State := match exec c s with
  | .next t => t
  | _ => s


/-! ### A machine that runs -/
/-- Every power domain ON. -/
def doms : Tab Dom := (List.range 88).map (fun d => (d, { Dom.reset with st := .on }))
/-- A device with its image released, every domain ON, the links up, and Factory sessions on the mailbox and the host's path. -/
def up : State :=
  { State.reset with
    power := { PowerState.reset with pllLocked := true, good0 := true, good1 := true, good2 := true, released := true, doms := doms, pour := 5000 }
    dict := { DictState.reset with
      paths := [(88, { Path.reset with session := 2 }), (127, { Path.reset with session := 1 })]
      sessions := [(1, { Session.reset with isOpen := true, path := 0x7F, level := 3 }), (2, { Session.reset with isOpen := true, path := 88, level := 3 })] }
    loader := { Loader.reset with released := true }
    ecat := { Ecat.reset with al := .preop }
    pcie := { Pcie.reset with perstHigh := true, linkUp := true }
    dcRunning := true, dcTime := 1000000 }
/-- A packet with tag `tag` that stands at the endpoint of node `dest`. -/
def arr (dest src oclass tag : Nat) (b : Body) : Flight := { at' := 13, inp := dest, pkt := { mkPacket src dest oclass 0 b with tag := tag } }
/-- Packets in flight, and answers that gate `i` has for what its marks name. -/
def onWire (fs : List Flight) (s : State) : State := { s with net := { s.net with wire := s.net.wire ++ fs } }
def gateHas (i : Nat) (as : List (Nat × Body)) (s : State) : State :=
  { s with net := { s.net with gates := [(i, { Gate.reset with answers := as.map (fun a => { mkPacket 0 i 0 0 a.2 with who := a.1 }) })] } }
/-- Window 0 maps 1 GiB of catch memory to channel 0. -/
def mem (s : State) : State := s.putSetting 0x3180 1 0x80002000

/-! ### Fabric -/
/-- A cell word: operation, sources A and B with their indices, and the low fields. -/
def cell (opc sa ia sb ib low : Nat) : DWord := BitVec.ofNat 64 (opc * 2 ^ 58 + sa * 2 ^ 54 + ia * 2 ^ 51 + sb * 2 ^ 47 + ib * 2 ^ 44 + low)
/-- Flask 0 runs context 1 in slot 0, flask 1 holds context 1, flask 8 is a spare. -/
def flask (x : Ctx) : Flask :=
  { Flask.reset with
    role := .active, cur := 0, nxt := 0, slots := [(0, { Slot.reset with st := .resident, ctxId := 1, ctx := x })], cyc := { Cycle.reset with on := true, ctx := x }, defined := [1] }
def fab (x : Ctx) : State :=
  { up with flasks := [(0, flask x), (1, { flask Ctx.reset with logical := 1 }), (8, { Flask.reset with role := .spareIdle })] }
/-- Cell 9 with K0 = 0xFFFFFFFF and K1 = 3, and a word. -/
def kx (w : DWord) : Ctx := { Ctx.reset with cells := [(9, w)], k := [(72, 0xFFFFFFFF), (73, 3)] }
/-- Cell 9 with an operation on K0 and K1 that also writes K5 and S1. -/
def one (opc : Nat) : State := fab (kx (cell opc 0xB 0 0xB 1 (2 ^ 39 + 5 * 2 ^ 36 + 2 ^ 35 + 2 ^ 33)))
def one2 : State := one 2
/-- A carry chain: cell 0 adds K0 and K1, cell 1 takes the carry of cell 0 and adds zeros; both of sources that are always there. -/
def wcarry : State :=
  fab { Ctx.reset with cells := [(0, cell 2 0xB 0 0xB 1 0), (1, cell 2 0xE 0 0xE 0 (2 * 2 ^ 42))], k := [(0, 0xFFFFFFFF), (1, 3)] }
/-- A field operation on K0 with position 28 and width 8 in IMM. -/
def fld (opc : Nat) : State := fab (kx (cell opc 0xB 0 0xB 1 (7 * 32 + 28)))
/-- Cell 8 pushes K0 to queue 3 with a credit. -/
def qpush : State :=
  { fab { Ctx.reset with cells := [(8, cell 0x20 0xB 0 0xB 1 0)], k := [(64, 42), (65, 3)] } with
    net := { RunnerState.reset with gates := [(0, { Gate.reset with prod := [(3, { Producer.reset with credits := 2 })] })] } }
def qpop : State := fab { Ctx.reset with cells := [(8, cell 0x21 0xB 0 0xB 1 0)], k := [(64, 42), (65, 3)] }
def qword (p : Bool) : QWord := { d := 77, l := true, i := false, p := p }
/-- Two pops of cell 8 wait, and the gate has an answer to the first. -/
def qwait (st : PopStatus) (ws : List QWord) : State :=
  gateHas 0 [(popMark 1 8, .popResp st ws)] (fab { Ctx.reset with cells := [(8, cell 0x21 0xB 0 0xB 1 0)], pops := [(8, [.waiting, .waiting])] })
/-- Fifteen words are gathered already. -/
def qpush16 : State := { qpush with net := { qpush.net with gates := [(0, { Gate.reset with prod := [(3, { Producer.reset with credits := 2, gather := List.replicate 15 (qword false) })] })] } }
/-- Port A of BM0: a read of aspect 8 bits at address 6 on LH0; a word write; ganged; with a scrub waiting. -/
def bmx (half0 half1 : Nat) : Ctx :=
  { Ctx.reset with ports0 := BitVec.ofNat 32 (half0 + half1 * 65536), long := [(0, mkTWord 6 true false), (1, mkTWord 0xABCD 0 0), (2, mkTWord 0x77 false false)] }
def bmf (half0 half1 : Nat) : State :=
  let x := bmx half0 half1
  { up with flasks := [(0, { flask x with bm0 := [(1, 0x11223344)], cyc := { Cycle.reset with on := true, ctx := x, bm0 := [(1, 0x11223344)] } })] }
def bmr : State := bmf (0x4000 + 2 * 2048) 0
def bmg : State := bmf (0x4000 + 4 * 2048) 0
def bmw : State := bmf (0x8000 + 2 * 2048 + 32) 0
def bmgw : State := bmf (0x8000 + 4 * 2048 + 32) (0x8000 + 2 * 32)
def bms : State := { up with flasks := [(0, { flask Ctx.reset with scrub := [5, 1029] })] }
/-- Lane 9 (east, row 1) of flask 0 carries the word of cell 15 to context 1 of flask 1. -/
def lane : State :=
  fab { Ctx.reset with destEn := 2, dest := 0x0100, out := [(15, mkTWord 5 false false)] }
def dispMsg : Flight := arr 0 80 0 5 (dispatchBody 1 100 7 3)
def disp : State := onWire [dispMsg] { (one 2).putSetting 0x4000 2 (BitVec.ofNat 64 2) with out := [] }
def dispNot : State := onWire [dispMsg] (one 2)
def still : State := { one2 with recasts := [(0, { Recast.reset with st := .freeze, source := 0, target := 8 })] }
def disp2 : State := { fab Ctx.reset with flasks := [(0, { flask Ctx.reset with fifo := [{ ctxId := 1, runCycles := 3, token := 9, ran := 3, fillAsked := false }] })] }
/-- Flask 0 as `g` leaves it, with context 1 in slot 0, and a spare beside it. -/
def ff (g : Flask → Flask) : State :=
  { up with flasks := [(0, g (flask Ctx.reset)), (8, { Flask.reset with role := .spareIdle })] }
/-- Slot 3 of it holds context 5. -/
def withSlot (st : SlotSt) (dirty : Bool) (f : Flask) : Flask :=
  { f with slots := [(0, { Slot.reset with st := .resident, ctxId := 1 }), (3, { Slot.reset with st := st, ctxId := 5, dirty := dirty })] }
def spillS (dirty : Bool) : State := ff (fun f => { withSlot .resident dirty f with eng := [.spill 3] })
def spilling : State :=
  gateHas 0 ((List.range 128).map (fun k => (spillMark k, .wack .ok false))) (ff (fun f => { withSlot .spilling true f with eng := [.spill 3], engOp := .spilling 3 }))
def fillS : State := ff (fun f => { f with eng := [.fill 5 3], defined := [1, 5] })
def fillBad : State := ff (fun f => { f with eng := [.fill 5 3] })
/-- Every slot is pinned, so that a fill of a slot the engine is to choose finds none. -/
def fullS : State := ff (fun f =>
  { f with eng := [.fill 77 16], defined := [77], slots := (List.range 16).map (fun n => (n, { Slot.reset with st := .resident, ctxId := n + 1, pin := true })) })
/-- The reads of a fill are answered: word 136 is `id`, and line 0 may be lost. -/
def filling (id : Nat) (lost : Bool) : State :=
  gateHas 0 ((List.range 128).map (fun k => (fillMark k, if lost && k = 0 then Body.rdata .lost []
      else .rdata .ok ((List.range 16).map (fun j => { d := if k = 8 && j = 8 then BitVec.ofNat 32 id else 0, p := false })))))
    (ff (fun f => { withSlot .filling false f with eng := [.fill 5 3], engOp := .filling 3 }))
def ffd : State := ff (fun f => { f with defined := [1, 7] })
def fullEng : State := ff (fun f => { f with defined := [1, 11], eng := [.fill 7 4, .fill 8 5, .fill 9 6, .fill 10 7] })
def resS : State := ff (withSlot .resident true)
/-- The window of the mailbox names context 1. -/
def sel (s : State) : State := s.putSelector 0x7F 0x4000 0x30 (BitVec.ofNat 64 (1 * 65536))
def selBus (s : State) : State := s.putSelector 88 0x4000 0x30 (BitVec.ofNat 64 (1 * 65536))
/-- A recast of logical flask 0 from flask 0 to flask 8. -/
def rec' (st : RecastSt) (dirty : List Nat) : State :=
  { up with
    flasks := [(0, { flask Ctx.reset with role := .recastSource, eng := [], s := [(2, 7)], bm0 := [(4, 5)] }), (8, { Flask.reset with role := .recastTarget })]
    recasts := [(0, { Recast.reset with st := st, source := 0, target := 8, dirty := dirty, byPolicy := true })] }
def retired : State := ff (fun f => { f with role := .retired, repowered := true })
/-- Crucible 0 runs at address 32, where `w` stands, with data in its registers; `g` changes it further. -/
def crg (w : Word) (g : Cru → Cru) : State :=
  { up with
    flasks := [(0, { flask Ctx.reset with defined := [] })]
    crus := [(0, g { Cru.reset with
      st := .running, pc := 32, pm := [(32, w)], x := [(5, 0x1234)], y := [(5, 0x4321)]
      regs := [(0, 0xFFFF8001), (1, 3), (2, 0x7FFF8000), (3, 0x80000000), (4, 40), (8, 5), (9, 5), (12, 5), (0x10, 6), (0x14, 0x00004003), (0x15, 0x40004003), (0x18, 0x40004003), (0x1C, 2), (0x2C, 100), (0x2D, 0x02000000)]
      acc := [(0, 0x7FFFFFFFFF), (1, 0x18000), (2, 0xFFFFFE8000)] })] }
def cr (w : Word) : State := crg w id
/-- The same with the status word `st`. -/
def crst (st w : Word) : State := crg w (fun c => { c with status := st })
def inRep : State := crg 0 (fun c => { c with repLeft := 5 })
def slot1 : State := crg 0 (fun c => { c with delay := 2, target := 7 })
def slot2 : State := crg 0 (fun c => { c with delay := 1, target := 7 })
def slotI : State := crg 0 (fun c => { c with delay := 1, reti := true })
def slotR : State := crg 0 (fun c => { c with delay := 1, target := 7, returns := true })
def body : State := crg 0 (fun c => { c with reps := [{ first := 12, last := 32, left := 4, int := true }] })
def inFifo (w : Word) : State := crg w (fun c => { c with si := [(1, [mkTWord 99 true false, mkTWord 98 false true])] })
def outFull (w : Word) : State :=
  crg w (fun c => { c with so := [(1, [mkTWord 1 true false, mkTWord 2 true false, mkTWord 3 true false, mkTWord 4 true false])] })
def called (w : Word) : State := crg w (fun c => { c with ret := [77] })
/-- Interrupt source 0 enabled and waiting. -/
def intr : State := crg 0 (fun c => { c with status := 0x02000001, si := [(0, [mkTWord 99 true false])], regs := c.regs })
def heldOff : State := crg 0 (fun c => { c with hlim := 10, holdoff := 10 })
def asked : State := crg 0 (fun c => { c with haltAsked := true })
def scrubbing : State := crg 0 (fun c => { c with scrub := [4101, 2] })
def halted : State := crg 0 (fun c => { c with st := .halted, status := 0x00F58000, hlimHit := true })
def winAt (v : Nat) : State := halted.putSelector 0x7F 0x4100 5 (BitVec.ofNat 64 v)
def qw (n : Nat) (l : Bool) : QWord := { d := BitVec.ofNat 32 n, l := l, i := false, p := false }
/-- Queue 5: flask 0 produces, flask 1 consumes; it holds three words, of which two are taken, and one cell; `g` changes it. -/
def qs (g : Queue → Queue) : State :=
  { up with
    tun := { Tundish.reset with
      nextCell := 9, deepReady := true
      queues := [(5, g { Queue.reset with
        st := .active, producer := 0, consumer := 1, budget := 20, creditOut := 9, withheld := 2, onDie := 4
        front := [{ idx := 3, gen := 0, words := [qw 1 false, qw 2 true, qw 3 false, qw 4 true] }], headOfs := 2, count := 2 })] } }
/-- It also holds two words of an open packet. -/
def qopen : State := qs (fun x => { x with
  front := [{ idx := 3, gen := 0, words := [qw 1 false, qw 2 true, qw 3 false, qw 4 true, qw 5 false, qw 6 false] }], opened := 2 })
def qempty (deep : Bool) : State := qs (fun x => { x with front := [], headOfs := 0, count := 0, deep := deep, idleWord := 77 })
def qno : State := qs (fun x => { x with creditOut := 0, withheld := 0 })
def qstate (st : QSt) : State := qs (fun x => { x with st := st })
def qaccrued : State := qs (fun x => { x with accrued := 4 })
/-- A deep queue with a spill in flight, and one with two blocks in the middle. -/
def qspill : State :=
  gateHas 81 ((List.range 5).map (fun k => (deepSpillMark 5 + k, .wack .lost false))) (qs (fun x => { x with deep := true, moving := some (2, [3]), st := .suspended }))
def qspill2 : State :=
  gateHas 81 ((List.range 5).map (fun k => (deepSpillMark 5 + k, .wack .ok false)))
    (qs (fun x => { x with deep := true, moving := some (2, [4]), mid := [0], back := [{ idx := 4, gen := 0, words := [qw 9 true] }] }))
def qrefill (good : Bool) (mid : List Nat) : State :=
  let line : List NWord := (List.range 16).map (fun j => { d := BitVec.ofNat 32 j, p := false })
  gateHas 81 ((List.range 5).map (fun k => (deepRefillMark 5 + k, .rdata .ok (if k < 4 then line else linkWords (blockPtr 1) 1 (if good then 5 else 6) 0 []))))
    (qs (fun x => { x with deep := true, mid := mid, refilling := true, back := [{ idx := 4, gen := 0, words := [qw 9 true] }] }))
def deepIniting : State := (qs id).modTun (fun t => { t with deepInit := true, deepReady := false })
def sweeping (blocks : List Nat) : State :=
  (qs (fun x => { x with resets := 2, sweepHeld := 3, st := .suspended })).modTun (fun t =>
    { t with sweeping := [{ q := 5, cells := [7, 8], blocks := blocks, credits := 4 }], waiting := [{ q := 5, cells := [6], blocks := [], credits := 1 }] })
/-- A packet stands at the tundish; a pop's tag is 9. -/
def at81 (src : Nat) (b : Body) (s : State) : State := onWire [arr 81 src 0 9 b] s
def pushed (src : Nat) (sop : Bool) (ws : List QWord) (s : State) : State := at81 src (.push 5 sop ws) s
def popped (src max : Nat) (s : State) : State := at81 src (.pop 5 max) s
/-- The queue was popped in this cycle, at whose start no credit was out. -/
def qcycle : State := (qs (fun x => { x with withheld := 0 })).modTun (fun t => { t with cycle := some (5, 0) })
/-- The path has selected queue 5. -/
def qsel (s : State) : State := s.putSelector 0x7F 0x3210 0 5
def qoff : State := qsel (qs (fun x => { x with st := .disabled, front := [], headOfs := 0, count := 0, creditOut := 0, withheld := 0, onDie := 0 }))
def net (g : RunnerState → RunnerState) : State := { up with net := g RunnerState.reset, flasks := [(0, flask Ctx.reset)] }
def rdPkt : Packet := mkPacket 3 81 0 1 (.pop 5 4)
/-- Gate 3 has a POP waiting in class 1, and a push in class 0; tag 0 is outstanding and tag 1 in quarantine. -/
def gate3 : State := net (fun n =>
  { n with gates := [(3, { Gate.reset with
      waiting := [mkPacket 3 81 0 0 (.push 5 true [{ d := 1, l := true, i := false, p := false }]), rdPkt, mkPacket 3 127 0 2 (.wr (2 ^ 41) 15 15 [])]
      outstanding := [{ tag := 0, who := 0, dest := 81, addr := 0, body := .pop 9 1 }], quarantine := [1]
      prod := [(5, { Producer.reset with credits := 4, gather := (List.range 17).map (fun n => { d := BitVec.ofNat 32 n, l := n = 15, i := false, p := false }) })] })] })
/-- Its class `tc` injected last. -/
def lastTook (tc : Nat) : State := { gate3 with net := { gate3.net with gates := [(3, { gate3.gate 3 with lastTc := tc })] } }
def noRoute (b : Body) : State := net (fun n => { n with gates := [(3, { Gate.reset with waiting := [mkPacket 3 unresolved 0 2 b] })] })
def flightIn (at' inp dest : Nat) (b : Body) (place : Place) : Flight :=
  { at' := at', inp := inp, pkt := { mkPacket 3 dest 0 0 b with tag := 7 }, place := place, here := flitCount b }
def flight (at' inp dest : Nat) (b : Body) : Flight := flightIn at' inp dest b .buffer
def wired (fs : List Flight) (ports : Tab (Tab PortSt)) : State :=
  net (fun n => { n with wire := fs, routers := ports.map (fun e => (e.1, { Router.reset with ports := e.2 })) })
def ansPkt (tag : Nat) : Packet := { mkPacket 81 3 0 0 (.popResp .ok []) with tag := tag }
def answered (tag : Nat) : State := { gate3 with net := { gate3.net with wire := [arr 3 81 0 tag (.popResp .ok [])] } }
def noticed : State := { gate3 with net := { gate3.net with wire := [arr 3 81 0 0 (.headerNotice 0)] } }
def told (i : Nat) (b : Body) : State := { gate3 with net := { gate3.net with wire := [arr i 81 0 0 b] } }
def portIn (st : PortSt) : State := wired [] [(2, [(4, st)])]
def applying : State := net (fun n => { n with routers := [(9, { Router.reset with applyPending := true, stage := [(5, 2)] })] })
def staged : State := net (fun n => { n with routers := [(9, { Router.reset with stage := [(5, 2)] })] })
/-- Core 0 runs the word `w` at address 0 in bank 1, with data in its registers and memories; `g` changes it further. -/
def lcg (w : Word) (g : LcCore → LcCore) : State :=
  { up with
    sram := [(0, { d := 5, p := true }), (4, { d := 6, p := false })]
    net := { RunnerState.reset with gates := [(72, { Gate.reset with prod := [(5, { Producer.reset with credits := 2, midPacket := true })] })] }
    cores := [(0, g { LcCore.reset with
      st := .running, cur := 1, lmem := [(0, w), (16, 0x11), (21, 0x15), (22, 0x16), (23, 0x17), (24, 0x18)]
      csr := [(0x300, 8), (0x305, 0x101), (0x341, 0x300), (0x7C1, 6), (0x7C2, 1), (0x7C4, 0x40), (0x7C5, 3), (0x7C6, 0x88), (0x7C7, 0x305), (0x7D0, 3)]
      banks := [(1, { Bank.reset with st := .resident, bwin := 2, x := [(5, 0x80000001), (6, 3), (8, 0x40), (9, 0x01000000), (10, 0x04000050), (11, 0x10000200), (12, 0x40000000), (13, 0x1E0), (14, 0x42)] })] })] }
def lc (w : Word) : State := lcg w id
def lcPoor (w : Word) : State := { lc w with net := RunnerState.reset }
/-- The core waits for the response to its third request, which gate 72 has. -/
def lcPops (dest : Nat) : State :=
  let s := lcg 0x00B52423 (fun k => { k with stall := .pop 5 dest, ask := 3 })
  gateHas 72 [(3, .popResp .ok [{ d := 1, l := true, i := false, p := true }])] s
/-- A push store has waited for its credit. -/
def lcPushing (s : State) : State := s.modCore 0 (fun k => { k with stall := .push 5 0x80000001 true 4 })
/-- Core 0 runs thread 9 in bank 1. -/
def lcThread : State := lcg 0 (fun k => { k with booted := true, banks := [(1, { Bank.reset with st := .resident, thread := some 9 })] })
def lcPosted : State := lcg 0x0FF0000F (fun k => { k with posted := 1 })
def lcBank0 (w : Word) : State := lcg w (fun k => { k with cur := 0 })
def lcLevel (w : Word) : State := lcg w (fun k => { k with levelMode := true, level := 2, stack := [0], cur := 3 })
/-- Source 0 is asserted, and core 0 can take it. -/
def lcSource (lev : Bool) : State := { lcg 0 (fun k => { k with levelMode := lev }) with cup := { Cupola.reset with coreHalted := true } }
/-- Core 0 is idle and thread 9 awaits it, its bank as `b`; `k` changes the core. -/
def lcIdle (b : Option (Nat × Nat)) (g : LcCore → LcCore) : State :=
  { lcg 0 (fun k => g { k with idle := true, booted := true, waiting := some 9, banks := [(3, { Bank.reset with st := .resident, thread := some 9, bpc := 0x44, x := [(7, 9)] })] }) with
    cup := { Cupola.reset with threads := [(9, { Thread.reset with st := .running, bank := b, fresh := true, entry := 0x500 })] } }
def lcDisp : State := lcIdle (some (0, 3)) id
def lcWait : State := lcIdle none (fun k => { k with banks := [] })
def lcSpill : State := lcIdle (some (0, 3)) (fun k => { k with st := .halted, placeDue := true, waiting := none })
def lcSpilling : State := lcIdle (some (0, 3)) (fun k => { k with unit' := .spilling 3, waiting := none })
def lcFilling (p : Bool) : State :=
  { lcIdle (some (0, 3)) (fun k => { k with unit' := .filling 3, banks := [(3, { Bank.reset with st := .resident, thread := some 9, filling := true })] }) with
    sram := [(289, { d := 0x77, p := p })] }
/-- A firmware image of two words, with entry 4. -/
def fw : MouldArea :=
  let ws : List Word := [0x46574C43, 5, 8, 4, 0xAA, 0xBB]
  { MouldArea.reset with st := .valid, words := (ws ++ [crcOfWords ws]).zipIdx.map (fun e => (e.2, e.1)) }
/-- Core 0 loads from slot A or B, A holding that image and B as `b` says. -/
def lcLoading (slotB : Bool) (b : MouldArea) (g : LcCore → LcCore) : State :=
  { lcg 0 (fun k => g { k with st := .loading, idle := true, slotB := slotB }) with
    loader := { Loader.reset with released := true, actValid := true, actSlot := 1, slots := [(1, { MouldSlot.reset with areas := [(1, fw), (2, b)] })] } }
def lcAs (st : LcSt) : State := lcLoading false .reset (fun k => { k with st := st })
def lcFresh : State := lcLoading false .reset (fun k => { k with st := .parked, fresh := true })
/-- Queue 5 carries words from the host to itself; the host's gate holds credits for it. -/
def hq (ws : List QWord) : State :=
  { up with
    tun := { Tundish.reset with queues := [(5, { Queue.reset with st := .active, producer := 88, consumer := 88, budget := 20, front := [{ idx := 3, gen := 0, words := ws }], count := ws.length })] }
    net := { RunnerState.reset with gates := [(88, { Gate.reset with prod := [(5, { Producer.reset with credits := 3, granted := 6, midPacket := true })] })] } }
def hw (n : Nat) (l : Bool) : QWord := { d := BitVec.ofNat 32 n, l := l, i := false, p := false }
/-- The host with its image not released. -/
def hcold : State := { hq [] with loader := Loader.reset }
def hfar : State := { hq [] with tun := Tundish.reset }
/-- Engine 2, on queues 5 and 5, as `g` leaves it. -/
def eng (ws : List QWord) (g : Dma → Dma) : State :=
  let s := hq ws
  { (s.putSettingOf 2 0x2610 1 5).putSettingOf 2 0x2610 2 5 with pcie := { s.pcie with engines := [(2, g { Dma.reset with en := true })] } }
def esel (s : State) : State := s.putSelector 0x7F 0x2610 0 2
/-- A descriptor of eight words: OP, LEN, host address, catch address, vector and cookie. -/
def descW (op len : Nat) (i : Nat) : Word := BitVec.ofNat 32 ([op * 2 ^ 28, len, 0x1000, 1, 0x130, 0, 0x80000007, 0xCAFE].getD i 0)
def h2c (len : Nat) : DmaDesc := { op := .h2c, len := len, host := 0x100001000, dev := 0x130, vector := 7, irq := true, cookie := 0xCAFE }
def q2h : DmaDesc := { h2c 4 with op := .q2h, dev := 5 }
def served (x : DmaDesc) (ws : List QWord) : State := eng ws (fun d => { d with desc := some x })
/-- The gate of the endpoint has a POP under the mark `who` outstanding, and its answer stands there. -/
def hostGot (who : Nat) (b : Body) (s : State) : State :=
  onWire [arr 88 81 0 4 b] (s.modGate 88 (fun g => { g with outstanding := [{ tag := 4, who := who, dest := 81, addr := 0, body := .pop 5 1 }] }))
def hostPkt (b : Body) : Packet := { mkPacket 81 88 0 0 b with tag := 4 }
/-- Engine 2 has popped the first seven words of a descriptor. -/
def popping (op len : Nat) : State := eng [] (fun d => { d with words := (List.range 7).map (fun i => (descW op len i, false)) })
def descL (op len : Nat) : Body := .popResp .ok [{ d := descW op len 7, l := true, i := false, p := false }]
def served2 : State := eng [] (fun d => { d with desc := some (h2c 32), finished := true, status := .poison, moved := 32 })
def perstLow : State := { up with pcie := Pcie.reset }
def msixS (p : Tab Bool) : State := { up with pcie := { up.pcie with pendingBits := p } }
/-- Core 0 stands at a store of `code` to OP with the arguments `args`, or at the word `w`; thread 7 runs in bank 1, and `u` is Cupola. -/
def cuw (w : Word) (code : Nat) (args : List Nat) (u : Cupola) : State :=
  { lcg w (fun k => { k with booted := true, banks := [(1, { Bank.reset with st := .resident, thread := some 7, x := [(15, 0x02000020), (16, BitVec.ofNat 32 code)], args := args.zipIdx.map (fun e => (e.2, BitVec.ofNat 32 e.1)) })] }) with
    cup := { u with threads := (7, { Thread.reset with st := .running, bank := some (0, 1) }) :: u.threads } }
def cu (code : Nat) (args : List Nat) (u : Cupola) : State := cuw 0x0107A023 code args u
def c0 : Cupola := Cupola.reset
def th (u : Nat) (x : Thread) : Cupola := { c0 with threads := [(u, x)] }
/-- A header: PRIO, GROUP and FLOW. -/
def hdr (p g f : Nat) : Nat := p * 2 ^ 26 + g * 2 ^ 20 + f
def busy : Cupola := { c0 with nextItem := 4, items := [(3, some { st := .service, header := BitVec.ofNat 32 (hdr 1 2 9), payload := [], thread := 7 })] }
def idle8 : Cupola := th 8 { Thread.reset with st := .idle, cfg := 0x00200100 }
def slotted (st : MatchSt) : Cupola :=
  { th 8 { Thread.reset with st := .match', tags := [0], timeout := 5, due := 3 } with tickNow := 3, slots := [(0, { MatchSlot.reset with st := st, tag := 0x77, operand := 0x99, waiter := 8 })] }
def serving : State :=
  { cuw 0x0307A023 0 [] c0 with cup := { c0 with
      threads := [(7, { Thread.reset with st := .running, bank := some (0, 1), item := some 3 })], nextItem := 4
      items := [(3, some { st := .service, header := BitVec.ofNat 32 (hdr 1 2 9), payload := [], thread := 7 })] } }
def bank0 (s : State) : State :=
  s.modCore 0 (fun k => { k with cur := 0, banks := [(0, { Bank.reset with x := [(15, 0x02000020), (16, 9)], args := [(0, 8)] })] })
def tsel (s : State) : State := s.putSelector 0x7F 0x3310 0 8
def thr (x : Thread) : State := tsel { up with cup := th 8 x }
/-- An idle core 0 that takes dispatches, and thread 8 READY. -/
def disp8 : State :=
  { lcg 0 (fun k => { k with idle := true, booted := true, banks := [] }) with cup := th 8 { Thread.reset with st := .ready } }
/-- Ring 2 on queue 5, and the word `w` that gate 80 has for it. -/
def ringW (w : Nat) (l : Bool) : QWord := { d := BitVec.ofNat 32 w, l := l, i := false, p := false }
def ringS (u : Cupola) : State :=
  { (up.putSetting 0x3301 3 0x80000005) with cup := u, tun := { Tundish.reset with queues := [(5, { Queue.reset with st := .active, consumer := 80 })] } }
def ringGot (w : QWord) (u : Cupola) : State := gateHas 80 [(3, .popResp .ok [w])] (ringS u)
def ringPart (u : Cupola) : Cupola := { u with rings := [(2, { Ring.reset with partialWords := [ringW (hdr 1 2 9) false] })] }
def completion (k x tok cut : Nat) : State :=
  onWire [arr 80 k 0 0 (.internal msgCompletion [BitVec.ofNat 32 tok, BitVec.ofNat 32 x, BitVec.ofNat 32 cut])] up
def ringStaged : State := ringS { busy with rings := [(2, { Ring.reset with staged := some [{ d := BitVec.ofNat 32 (hdr 1 2 9), l := true, i := false, p := false }] })] }
def haltedCore : State :=
  { lcg 0 (fun k => { k with st := .halted, placeDue := true, placing := [8], banks := [] }) with cup := th 8 { Thread.reset with st := .running } }
def ct (g : CatchState → CatchState) : State := mem { up with catch' := g CatchState.reset }
def ctc (c : Channel) : State := ct (fun k => { k with chans := [(0, c)] })
def onl : Channel := { Channel.reset with st := .online, locked := true, dlyValid := true }
def dw (v : Nat) (p : Bool) : NWord := { d := BitVec.ofNat 32 v, p := p }
def rdp (a n : Nat) : Packet := mkPacket 3 96 0 1 (.rd a n)
def wrp (a : Nat) (f l : BitVec 4) (n : Nat) : Packet := mkPacket 3 96 0 1 (.wr a f l ((List.range n).map (fun k => dw (k * 257) (k = 2))))
def fop (a code n : Nat) : Packet := mkPacket 3 96 0 1 (.fold a code ((List.range n).map (fun k => dw (k * 257 + 5) (k = 2))))
def foldOp (code : Nat) (tab : Tab (Option NWord)) (iss : Bool) : LineOp := { addr := 64, line := 1, kind := .fold code tab iss, reqs := [3] }
def aop (k : LineKind) : LineOp := { addr := 64, line := 1, kind := k, reqs := [3] }
def areq (left : Nat) (b : Body) : CatchReq := { id := 3, pkt := { mkPacket 3 96 0 1 b with tag := 9 }, left := left, words := [], rejected := false }
def onlyOp (o : LineOp) (r : CatchReq) : State :=
  { ctc { onl with ops := [o], reqs := [r], nextReq := 4 } with dram := (List.range 16).map (fun k => (16 + k, some (dw (0xF1020304 + k * 0x1000FF) (k = 3)))) }
def ftab : Tab (Option NWord) := [(0, some (dw 0xFFFF0001 false)), (1, some (dw 0x00010001 false)), (2, some (dw 5 true)), (3, some (dw 5 false)), (15, some (dw 0x80FF0101 false))]
def offl : Channel := { Channel.reset with st := .offline, dlyValid := true }
def unmapped (c : Channel) : State := { up with catch' := { CatchState.reset with chans := [(0, c)] } }
def gath : Channel := { Channel.reset with st := .gathering, locked := true, staged := [(5, 77)] }
def saver : State :=
  { unmapped offl with loader := { Loader.reset with released := true, actValid := true, actSlot := 1 } }
def savingS : State := { saver with loader := { saver.loader with saving := some 0 } }
/-- A packet stands at channel 0. -/
def ctp (c : Channel) (p : Packet) : State := onWire [{ at' := 13, inp := 96, pkt := p }] (ctc c)
/-- Window 1 is placed on channel 1, disabled, of the size of window 0. -/
def twoWin (g : CatchState → CatchState) (d : Tab (Option NWord)) : State :=
  { ((ct (fun k => g { k with chans := [(0, onl), (1, onl)] })).putSetting 0x3181 1 0x00002004).putSetting 0x3181 2 1 with dram := d }
def zeroS (busy : Bool) (len : Nat) : State :=
  (((ct (fun k => { k with chans := [(0, onl)], zeroBusy := busy, zeroBase := 128, zeroLen := len }))).putSetting 0x3191 1 128).putSetting 0x3191 3 (BitVec.ofNat 64 len)
def vl (p : VPort) : State := { up with villet := { ports := [(1, p)], heats := [] } }
/-- An ACTIVE port of EPOCH 3 whose partner has EPOCH 7; it awaits SEQ 5 and has sent up to SEQ 10. -/
def vact : VPort :=
  { VPort.reset with
    st := .active, epoch := 3, partner := 7, seen := 7, expect := 5, nextSeq := 11, limVec := 40, limCtl := 20
    unacked := [8, 9, 10].map (fun q => { seq := q, vc := 2, words := [BitVec.ofNat 32 q] }) }
/-- A frame of the partner, which acknowledges up to SEQ 8. -/
def peer (ty vc seq : Nat) (ws : List Word) : List Word := { VPort.reset with epoch := 7, expect := 9, st := .active }.frame ty vc seq ws
def ack0 : BitVec 32 := BitVec.ofNat 32 (0x11 * 2 ^ 25 + 77)
def vin (st : LinkSt) : VPort := { vact with st := st }
def lanes8 : Tab Lane := (List.range 8).map (fun l => (l, { Lane.reset with block := true, marker := true, logical := 7 - l }))
def valign : VPort := { vin .align with lanes := lanes8 }
/-- Heat 77 of slot 1 of port 1: indices 100 to 199 of vectors of two words, sites 0 to 3. -/
def ht (h : Heat) (p : VPort) : State :=
  let s : State := { up with villet := { ports := [(1, p)], heats := [(3, h)] } }
  ((((((((s.putSetting 0x35C3 3 77).putSetting 0x35C3 4 100).putSetting 0x35C3 6 200).putSetting 0x35C3 8 15).putSetting 0x35C3 0x0A 40).putSetting 0x35C3 0x0B 41).putSetting
    0x35C3 0x0C 42).putSetting 0x35C3 0x0D 43).putSetting 0x35C3 0x0E 150
def htQ (h : Heat) (p : VPort) : State :=
  let s := ht h p
  { s with tun := { s.tun with queues := [(40, { Queue.reset with st := .active, deep := true, consumer := 83 }), (41, { Queue.reset with st := .active, producer := 83 }), (42, { Queue.reset with st := .active, producer := 83 }), (43, { Queue.reset with st := .active, producer := 83 })] } }
def hst (st : HeatSt) : Heat := { Heat.reset with st := st, nextSend := 160, applied := 130, voidIndex := 5, lastMark := 140, marks := [140, 145] }
def hmsg (code : Nat) (b : List Word) : RxFrame := { vc := 2, words := BitVec.ofNat 32 (code * 2 ^ 25 + b.length * 2 ^ 16 + 77) :: b, poison := false, credits := 1 }
def hrx (st : HeatSt) (code : Nat) (b : List Word) : State := ht (hst st) { vact with rx := [hmsg code b], heldCtl := 1 }
def tol (s : State) : State := s.putSetting 0x35C3 3 (BitVec.ofNat 64 (2 ^ 31 + 77))
def popd (h : Heat) (st : PopStatus) (w : QWord) : State :=
  let s := ht h { vact with popOut := some 1 }
  { s with net := { s.net with gates := [(83, { Gate.reset with answers := [mkPacket 83 83 0 0 (.popResp st [w])] })] } }
def ldr (g : Loader → Loader) : State := { up with loader := g Loader.reset }
def withCrc (ws : List Word) : List Word := ws ++ [crcOfWords ws]
def hdrW (magic : Word) (kind frames region : Nat) : List Word :=
  withCrc [magic, 0x4096, BitVec.ofNat 32 (kind * 2 ^ 28 + 0x100), BitVec.ofNat 32 frames, BitVec.ofNat 32 region, BitVec.ofNat 32 (region / 2 ^ 32), BitVec.ofNat 32 (region / 2 ^ 64), 77, 0, 0, 0, 0, 0, 0, 0]
def full72 : Nat := 2 ^ 72 - 1
def magic : Word := 0x4C524142
def frmW (fa : Nat) : List Word := withCrc (BitVec.ofNat 32 fa :: (List.range 32).map (fun k => BitVec.ofNat 32 (k * 3 + 1)))
/-- Mould slot 1 holds these words from word `base` of its image region. -/
def slotHas (base : Nat) (ws : List Word) (l : Loader) : Loader :=
  { l with slot := 1, slots := [(1, { MouldSlot.reset with areas := [(0, { st := .valid, words := ws.zipIdx.map (fun e => (base + e.2, e.1)) })] })] }
def headerDue (ws : List Word) : State := ldr (fun l => slotHas 0 ws { l with armed := true })
def frameDue (g : Loader → Loader) (ws : List Word) : State :=
  ldr (fun l => g (slotHas 50 ws { l with st := .receiving, frames := 1, frameCount := 3, staged := [(5, [])], crc := 9 }))
def scpDue (g : Loader → Loader) (ws : List Word) : State :=
  ldr (fun l => g { l with source := 1, scpBusy := true, scpRec := ws, st := .receiving, frames := 1, frameCount := 3, staged := [(5, [])], crc := 9 })
def endDueS (ws : List Word) : State :=
  ldr (fun l => slotHas 50 ws { l with st := .receiving, frames := 1, frameCount := 1, staged := [(2 ^ 14, [])], crc := 9 })
def quieting : State := ldr (fun l => { l with st := .quiescing, isPartial := true, region := 8, frameCount := 2 })
def slotValid : State := ldr (slotHas 0 [1])
def frames3 (p : Nat) : List (Nat × List Word) := [(faOf p 1 0, (List.range 32).map (fun k => BitVec.ofNat 32 (k + 5))), (faOf p 1 32, [9]), (faOf p 2 0, [7]), (faOf p 3 0, [3, 4, 5, 6])]
def relPart : State :=
  { up with
    flasks := [(3, { flask Ctx.reset with role := .stopped }), (4, flask Ctx.reset)], loader := { Loader.reset with st := .releasing, staged := frames3 3, isPartial := true, region := 8, released := true } }
def recs : State := { relPart with loader := { relPart.loader with st := .records } }
/-- The image of flask 3 defines context 7, and the writes of its record are answered, one of them LOST where `lost`. -/
def ctxFrames : List (Nat × List Word) := (frames3 3).take 0 ++ [(faOf 3 0 (64 * 7 + 4), List.replicate 32 5)]
def relCtx : State := { relPart with loader := { relPart.loader with staged := ctxFrames } }
def recsCtx (lost : Bool) : State :=
  gateHas (relCtx.flaskNode 3) ((List.range 128).map (fun k => (releaseMark 7 k, .wack (if lost && k = 127 then .lost else .ok) false)))
    { relCtx with flasks := [(3, { flask Ctx.reset with slots := [(2, { Slot.reset with st := .resident, ctxId := 7 })] })], loader := { relCtx.loader with st := .records } }
def sess (high : Nat) : State := ldr (fun l => { l with session := some { slot := 2, area := 1, high := high }, slots := [(2, { MouldSlot.reset with offset := 8, areas := [(1, { st := .writing, words := [(1, 5), (2, 6)] })] })] })
def held4 : State := { up with dict := { up.dict with paths := [(88, { Path.reset with session := 2, held := some (chillAtKey, 7) })] } }
def latched4 : State := { up with dict := { up.dict with paths := [(88, { Path.reset with session := 2, latch := some (chillAtKey, 9) })] } }
def arriving1 (path : Nat) : State := up.setArriving [.write path 0x2018 1 false 60 true .clean]
/-- Session 2 has an OPEN transaction with `k` writes staged. -/
def tx (k : Nat) : State :=
  { up with dict := { up.dict with sessions := up.dict.sessions.map (fun e => (e.1, { e.2 with txSt := .opened, staged := (List.range k).map (fun _ => { obj := 0, idx := 0x2018, sub := 1, value := 5 }) })) } }
def stopped' : State := { up with dict := { up.dict with stopped := true } }
def noSess : State := { up with dict := DictState.reset }
def seg (d : Bool) : State :=
  { up with dict := { up.dict with paths := [(127, { Path.reset with session := 1, segment := some { download := d, idx := 0x2018, sub := 1, bytes := [7, 0, 1] } })] } }
def keyed (lv : Nat) (locked : Bool) : KeySlot := { KeySlot.reset with provisioned := true, level := lv, key := [1, 2, 3, 4, 5, 6, 7, 8], locked := locked, failRun := 2 }
/-- Path 88 without a session, key slot 1 as given, sessions as given, and what path 88 holds. -/
def pth (k : KeySlot) (ss : Tab Session) (p : Path) : State :=
  { up with dict := { up.dict with keys := [(1, k)], sessions := ss, paths := [(88, p)] } }
def four : Tab Session := [1, 2, 3, 4].map (fun n => (n, { Session.reset with isOpen := true, path := 70 + n, level := 1 }))
def chal : Challenge := { words := [1, 2, 3, 4, 5, 6, 7, 8], request := 0x10000102 }
def wordsOf : List Byte → List Word
  | a :: b :: c :: d :: r => (d ++ c ++ b ++ a) :: wordsOf r
  | _ => []
def proof8 : List Word := wordsOf (hmacSha256 ([1, 2, 3, 4, 5, 6, 7, 8].flatMap leBytes) (sessMessage 88 chal))
def asked' (r : List Word) : Path := { Path.reset with challenge := some chal, challengeAt := 4990, resp := r.zipIdx.map (fun e => (e.2, e.1)) }
def txs (st : TxSt) (g : Session → Session) : State :=
  { up with dict := { up.dict with sessions := [(2, g { Session.reset with isOpen := true, path := 88, level := 3, txSt := st, staged := [{ obj := 0, idx := 0x2018, sub := 1, value := 60 }] })] } }
def txh : State := { txs .opened (fun x => { x with txHeat := 0x11, txHeatIndex := 170 }) with villet := (ht (hst .held) vact).villet }
def due (w : Staged) : State := txs .committing (fun x => { x with staged := [w] })
def chl (g : ChillState → ChillState) : State := { up with chill := g ChillState.reset }
def chAt (v : Nat) : State := (chl id).putSetting 0x2300 4 (BitVec.ofNat 64 v)
def heldB : ChillBank := { ChillBank.reset with held := true, new := true, seq := 4 }
def rep (code kind oid : Nat) : ErrRep := { code := code, kind := kind, oid := oid, aux := 5, detail := 9 }
def entry (code kind oid : Nat) (aux : Word) : LogEntry := { LogEntry.reset with code := BitVec.ofNat 16 code, kind := BitVec.ofNat 8 kind, oid := BitVec.ofNat 24 oid, aux := aux, seq := 3 }
def logged (e : ErrRep) (ring : List LogEntry) : State :=
  chl (fun c => { c with head := 8, intake := [e, rep 0x3A01 14 88], ring := ring, unackSeq := [5, 6], unackLost := [4], recs := [(0, { RecSlot.reset with st := .done })] })
def polS (s : State) (code v : Nat) : State := s.putSettingOf code 0x2410 1 (BitVec.ofNat 64 v)
def escS : State := { polS (logged (rep 0x3110 1 0) []) 0x3110 1 with flasks := [(0, flask Ctx.reset)] }
def bankOk (k : Nat) : PinBank := { supply := k, settled := true, outage := false }
/-- Both banks up; peripherals of the list `on` enabled with what their configuration words hold beside EN. -/
def pin (on : List (Nat × Nat × Nat)) (g : PinState → PinState) : State :=
  let s : State := { up with pins := { PinState.reset with configured := true, banks := [(0, bankOk 1), (1, bankOk 2)] } }
  let s := on.foldl (fun s e => s.putSetting e.1 e.2.1 (BitVec.ofNat 64 (2 ^ 31 + e.2.2))) s
  { s with pins := g { s.pins with owner := settleOwners s } }
def i2c1 (g : PinPeriph → PinPeriph) : State := pin [(0x2581, 1, 0)] (fun p => { p with periphs := [(1, g { PinPeriph.reset with tx := [1, 2, 3] })] })
def spi1 (g : PinPeriph → PinPeriph) : State := pin [(0x2585, 1, 0)] (fun p => { p with periphs := [(5, g { PinPeriph.reset with tx := [1, 2, 3] })] })
def uart1 (k : Nat) : State := pin [(0x2589, 1, 0)] (fun p => { p with periphs := [(9, { PinPeriph.reset with rx := (List.range k).map (BitVec.ofNat 8) })] })
def supplied (b : PinBank) : State := (pin [(0x2581, 1, 0), (0x2588, 1, 0)] (fun p => { p with banks := [(0, b), (1, bankOk 2)], periphs := [(1, { PinPeriph.reset with busy := true })] }))
def modeS (m : Nat) (i : Bool) : State := (pin [] (fun p => { p with input := if i then 32 else 0 })).putSetting 0x2505 1 (BitVec.ofNat 64 (m * 2 ^ 21))
/-- Pin 5 with a PULL, and the levels kept. -/
def pulled (k : Nat) (kept : BitVec 64) : State := (pin [] (fun p => { p with kept := kept })).putSetting 0x2505 1 (BitVec.ofNat 64 (k * 2 ^ 28))
def trg (cfg wake : Nat) (g : PinState → PinState) : State := ((pin [(0x2592, 1, 0)] g).putSetting 0x2300 3 (BitVec.ofNat 64 cfg)).putSetting 0x2130 3 (BitVec.ofNat 64 wake)
def trgHeld : State := let s := trg 0 0xA0000000 id; { s with power := { s.power with hold := .held } }
def al (st : AlSt) (g : Ecat → Ecat) : State := { up with ecat := g { Ecat.reset with al := st, alStatus := 0x16, smStart := [(2, 0x2000), (3, 0x3000)] } }
/-- Outputs: entries 0x6000:1 and 0x6000:2 of 32 bits; inputs: 0x2100:2 of 64 bits and 0x2018:1 of 32 bits. -/
def mapd (s : State) : State :=
  let put (s : State) (e : Nat × Nat × Nat) : State := s.putSetting e.1 e.2.1 (BitVec.ofNat 64 e.2.2)
  [(0x1C12, 0, 1), (0x1C12, 1, 0x1600), (0x1600, 0, 2), (0x1600, 1, 0x60000120), (0x1600, 2, 0x60000220),
   (0x1C13, 0, 1), (0x1C13, 1, 0x1A00), (0x1A00, 0, 2), (0x1A00, 1, 0x21000240), (0x1A00, 2, 0x20180120)].foldl put s
def pw (g : PowerState → PowerState) : State := { up with power := g up.power }
def setDom (d : Nat) (x : Dom) (s : State) : State := s.modDom d (fun _ => x)
def dm (st : DomSt) (granted : Bool) : Dom := { Dom.reset with st := st, granted := granted, powerUps := 3 }
/-- A device that holds something in every block. -/
def busyDev : State :=
  { (ctc { onl with reqs := [areq 0 (.rd 72 3)] }) with
    flasks := [(0, flask Ctx.reset)], crus := [(0, { Cru.reset with st := .stopped })], villet := (ht (hst .streaming) vact).villet, dram := [(5, some (dw 6 true))],
    chill := { ChillState.reset with ring := [entry 0x1101 1 4 5], ongoing := [{ serial := 0, code := 0x2401, obj := objWord 6 3 }] } }
def coldDev : State := pw (fun p => { p with doms := [], pllLocked := false })
def hasKeys (s : State) : State := { s with dict := { s.dict with keys := [(1, { keyed 2 false with data := [(0, some 5)] })] } }
def holdS (h : HoldSt) (s : State) : State := { s with power := { s.power with hold := h } }
def ports (st : PortSt) (s : State) : State := [0, 72, 73, 80, 86, 9, 10].foldl (fun s d => setDomainPorts d st s) s
def quietS : State := polS (logged (rep 0x1101 1 3) [entry 0x1101 1 3 5]) 0x1101 0x40000000

/-! ### Ill-formed commands, one for each check -/

theorem test_illFormed_fabric :
    ([.cellAdd 72 0 .clean, .cellAdd 0 64 .clean, .qpopResult 72 0 0 .ok (qw 0 false) false, .qpopResult 0 16 0 .ok (qw 0 false) false, .qpopResult 0 0 64 .ok (qw 0 false) false,
      .bmPortRead 72 0 .ok .ok false, .bmPortWrite 0 4 .ok false, .bmScrubWriteback 0 2, .sequencerChoice 72 .clean, .flaskDispatchMsg 72 0 0 0 0 0,
      .flaskDispatchMsg 0 256 0 0 0 0, .flaskDispatchMsg 0 0 65536 0 0 0, .flaskDispatchMsg 0 0 0 65536 0 0, .flaskDispatchMsg 0 0 0 0 8 0,
      .flaskDispatchMsg 0 0 0 0 0 256, .boundaryCross 0 32 false, .ctxCmdFill 5 0 0 0, .ctxCmdFill 88 72 0 0, .ctxCmdFill 88 0 256 0, .ctxCmdFill 88 0 0 16,
      .recastCmdStart 88 64 0, .recastCmdStart 88 0 72, .recastFreeze 8, .cruNop 72 .clean, .cruCmdRun 88 0 false 4096] : List Instr).all (fun c => !c.wf) = true := by
  decide

theorem test_illFormed_queues :
    ([.push 128 0 false [] 0 [] .clean false, .push 0 262144 false [] 0 [] .clean false, .push 0 0 false (List.replicate 17 (qw 0 false)) 0 [] .clean false, .pop 0 0 0 0 [] .clean,
      .pop 0 0 17 0 [] .clean, .pop 0 0 1 256 [] .clean, .watchSet 0 0 4 true, .gateCredit 96 0 0, .gateCredit 0 0 65536, .gateWatchState 0 0 4 0,
      .deepBlocksWrite 5 0, .bar4PushAbandon 262144 8, .bar4CreditTake 0 0, .gateInject 0 4, .gateDropNotice 0 256, .gateAnswer 0 (mkPacket 3 128 0 0 (.rd 0 1)) 0 [] 0,
      .portDrained 13 0, .portDrained 0 16, .rtrCmdApply 88 13] : List Instr).all (fun c => !c.wf) = true := by
  decide

theorem test_illFormed_coresAndMemory :
    ([.lcQueuePush 8 .clean, .lcPopResponse 0 .ok (List.replicate 17 (qw 0 false)), .ldm 0 32 .clean, .lcSourceTrap 0 32, .lcCmdPark 88 8, .delayExpiry 4096,
      .ringRetry 16, .flaskCompletion 72 0 0 false .clean, .rd 8 (rdp 0 1), .rd 0 { rdp 0 1 with oclass := 4 }, .refreshObligation 0 4 0 0, .chCmdOnline 88 8,
      .evacCmdStart 88 16 0, .evacCmdStart 88 0 16, .mapEnable 88 16 0] : List Instr).all (fun c => !c.wf) = true := by
  decide

theorem test_illFormed_links :
    ([.openAck 6, .laneBlockLock 0 8, .laneMarkerLock 0 0 8, .heatCmdOpen 88 0 2, .ldCmdLoadSlot 88 4, .msCmdOpen 88 0 16, .sdoUpload 65536 0 0 .normal .ok .clean,
      .sdoUpload 0 256 0 .normal .ok .clean, .sessCmdClose 88 5, .keyCmdSet 88 4 0 false, .keyCmdSet 88 0 4 false, .txCmdCommit 88 4] : List Instr).all (fun c => !c.wf) = true := by
  decide

theorem test_illFormed_device :
    ([.bar2Read 0 0, .bar2Read 0 65, .dmaEnable 88 262144, .dmaDescriptorComplete 64, .msixUnmask 2048 0 0 0 false false, .alRequestPreop 65536 0 0 0,
      .mailboxUnsupported 16, .ecatLinkChange 2 true, .bankSupplyChange 2 0, .bankSupplyChange 0 4, .pinInputChange 64 .high, .triggerEdge 8 true,
      .captureEdge 4 true, .i2cXfer 88 0 128 0 0, .spiXfer 88 0 4, .uartTx 88 2 [], .strobeEnd 16, .pwrgoodFall 3 [], .domainSettled 88] : List Instr).all (fun c => !c.wf) = true := by
  decide

theorem test_wellFormed :
    ([.cellAdd 71 63 .clean, .push 127 262143 false (List.replicate 16 (qw 0 false)) 0 [] .clean false, .ldm 7 31 .clean, .mapEnable 88 15 0, .heatCmdOpen 127 5 1,
      .keyCmdSet 127 3 3 false, .domainSettled 87] : List Instr).all Instr.wf = true := by
  decide

/-! ### Single commands, with the values the rules give -/

/-- R45, R54: 0xFFFFFFFF + 3 is 2 with a carry, in K5 of cell 9, and S1. -/
theorem test_add_wraps : let y := (after (.cellAdd 0 9 .clean) one2).runCtx 0
    Tab.get 0 y.k 77 = 2 ∧ (Tab.get CellFlags.reset y.flags 9).c = true := by decide +kernel

/-- R47: CRC8 of A = 0xFFFFFFFF and B = 3, worked out from the rule. -/
theorem test_crc8 : Tab.get 0 ((after (.cellCrc8 0 9 .clean) (one 0x1E)).runCtx 0).k 77 = 0xBED25F5A := by decide +kernel

/-- R48: 32 bits of A under the mask K of field 0 are even in number, so bit 0 stays 0 below B shifted left by one. -/
theorem test_par : Tab.get 0 ((after (.cellPar 0 9 .clean) (one 0x1F)).runCtx 0).k 77 = 6 := by decide +kernel

/-- R269 with the base architecture: addi x1, x0, 5. -/
theorem test_addi : (((after (.lcInstruction 0 .clean) (lc 0x00500093)).core 0).reg 1) = 5 := by decide +kernel

/-- The base architecture: add x7, x5, x6 of 0x80000001 and 3. -/
theorem test_add_core : (((after (.lcInstruction 0 .clean) (lc 0x006283B3)).core 0).reg 7) = 0x80000004 := by decide +kernel

/-- R433: code 3 adds halves and saturates each at 65535; code 1 is OR. -/
theorem test_fold_saturates :
    ((after (.lineAccessIssue 0 1 [] [] [] false) (onlyOp (foldOp 3 [(0, some (dw 0xFFFF0001 false))] true) (areq 1 (.rd 72 3)))).dramWord 16).d = 0xFFFF0305 := by
  decide +kernel

/-- R756: a second switch 799 pour ticks after the last one is not granted, 800 ticks after it is. -/
theorem test_switch_waits :
    ((after (.domainSwitchGrant 9) (setDom 9 (dm .ramping false) (pw (fun p => { p with lastGrant := some 4201 })))).dom 9).granted = false ∧
    ((after (.domainSwitchGrant 9) (setDom 9 (dm .ramping false) (pw (fun p => { p with lastGrant := some 4200 })))).dom 9).granted = true := by decide +kernel

/-- R625, R633: a download of 4 bytes to an entry of one that does not exist ends with 0x0602_0000. -/
theorem test_noSuchIndex : (after (.sdoDownload 0x2999 1 [1, 2, 3, 4] false .normal true .clean) up).out = [.sdoAbort 0x2999 1 0x06020000] := by decide +kernel

/-- R211, R228: the five words of a packet take five of nine credits, and the two withheld ones are granted again. -/
theorem test_push_uses_credits :
    ((after (.push 0 5 true [qw 7 false, qw 8 false, qw 9 false, qw 10 false, qw 11 true] 0 [] .clean false)
      (pushed 0 true [qw 7 false, qw 8 false, qw 9 false, qw 10 false, qw 11 true] (qs id))).queue 5).creditOut = 6 := by
  decide +kernel

/-- The queue of commands is first in, first out. -/
theorem test_queue_order : (match step { State.reset with pending := [.scpStatus, .imageRelease] } with | .next t => t.pending | _ => []) = [.imageRelease] := by
  decide +kernel

/-! ### What meets the hypotheses of each statement -/

theorem met_CellAddSubResult (h : Obligations.CellArithmeticAndLogicResult) :
    Goes (.cellAdd 0 9 .clean) one2 ∧
    Goes (.cellSub 0 9 .clean) (one 3) ∧
    Goes (.cellAdd 0 1 .clean) wcarry := by
  refine ⟨goes ((h.1 one2 0 9).1 ?_),
    goes ((h.1 (one 3) 0 9).2 ?_),
    goes ((h.1 wcarry 0 1).1 ?_)⟩ <;> decide +kernel

theorem met_CellLogicAndCompareResult (h : Obligations.CellArithmeticAndLogicResult) :
    Goes (.cellPass 0 9 .clean) (one 1) ∧
    Goes (.cellAnd 0 9 .clean) (one 4) ∧
    Goes (.cellOr 0 9 .clean) (one 5) ∧
    Goes (.cellXor 0 9 .clean) (one 6) ∧
    Goes (.cellAndn 0 9 .clean) (one 7) ∧
    Goes (.cellSel 0 9 .clean) (one 0x1C) ∧
    Goes (.cellCmpeq 0 9 .clean) (one 0x16) ∧
    Goes (.cellCmpne 0 9 .clean) (one 0x17) ∧
    Goes (.cellCmpltu 0 9 .clean) (one 0x18) ∧
    Goes (.cellCmplts 0 9 .clean) (one 0x19) ∧
    Goes (.cellCmpleu 0 9 .clean) (one 0x1A) ∧
    Goes (.cellCmples 0 9 .clean) (one 0x1B) := by
  refine ⟨goes ((h.2 (one 1) 0 9).1 ?_),
    goes ((h.2 (one 4) 0 9).2.1 ?_),
    goes ((h.2 (one 5) 0 9).2.2.1 ?_),
    goes ((h.2 (one 6) 0 9).2.2.2.1 ?_),
    goes ((h.2 (one 7) 0 9).2.2.2.2.1 ?_),
    goes ((h.2 (one 0x1C) 0 9).2.2.2.2.2.1 ?_),
    goes ((h.2 (one 0x16) 0 9).2.2.2.2.2.2.1 ?_),
    goes ((h.2 (one 0x17) 0 9).2.2.2.2.2.2.2.1 ?_),
    goes ((h.2 (one 0x18) 0 9).2.2.2.2.2.2.2.2.1 ?_),
    goes ((h.2 (one 0x19) 0 9).2.2.2.2.2.2.2.2.2.1 ?_),
    goes ((h.2 (one 0x1A) 0 9).2.2.2.2.2.2.2.2.2.2.1 ?_),
    goes ((h.2 (one 0x1B) 0 9).2.2.2.2.2.2.2.2.2.2.2 ?_)⟩ <;> decide +kernel

theorem met_CellShiftFieldAndMinimumResult (h : Obligations.CellShiftFieldAndMinimumResult) :
    Goes (.cellShl 0 9 .clean) (one 8) ∧
    Goes (.cellShr 0 9 .clean) (one 9) ∧
    Goes (.cellSar 0 9 .clean) (one 10) ∧
    Goes (.cellRol 0 9 .clean) (one 11) ∧
    Goes (.cellRor 0 9 .clean) (one 12) ∧
    Goes (.cellExtu 0 9 .clean) (fld 13) ∧
    Goes (.cellExts 0 9 .clean) (fld 14) ∧
    Goes (.cellIns 0 9 .clean) (fld 15) ∧
    Goes (.cellMinu 0 9 .clean) (one 0x12) ∧
    Goes (.cellMaxu 0 9 .clean) (one 0x13) ∧
    Goes (.cellMins 0 9 .clean) (one 0x14) ∧
    Goes (.cellMaxs 0 9 .clean) (one 0x15) ∧
    Goes (.cellPopc 0 9 .clean) (one 0x10) ∧
    Goes (.cellClz 0 9 .clean) (one 0x11) := by
  refine ⟨goes ((h (one 8) 0 9).1 ?_),
    goes ((h (one 9) 0 9).2.1 ?_),
    goes ((h (one 10) 0 9).2.2.1 ?_),
    goes ((h (one 11) 0 9).2.2.2.1 ?_),
    goes ((h (one 12) 0 9).2.2.2.2.1 ?_),
    goes ((h (fld 13) 0 9).2.2.2.2.2.1 ?_),
    goes ((h (fld 14) 0 9).2.2.2.2.2.2.1 ?_),
    goes ((h (fld 15) 0 9).2.2.2.2.2.2.2.1 ?_),
    goes (((h (one 0x12) 0 9).2.2.2.2.2.2.2.2.1 ?_).1 ?_),
    goes (((h (one 0x13) 0 9).2.2.2.2.2.2.2.2.2.1 ?_).1 ?_),
    goes (((h (one 0x14) 0 9).2.2.2.2.2.2.2.2.2.2.1 ?_).1 ?_),
    goes (((h (one 0x15) 0 9).2.2.2.2.2.2.2.2.2.2.2.1 ?_).1 ?_),
    goes ((h (one 0x10) 0 9).2.2.2.2.2.2.2.2.2.2.2.2.1 ?_),
    goes ((h (one 0x11) 0 9).2.2.2.2.2.2.2.2.2.2.2.2.2 ?_)⟩ <;> decide +kernel

theorem met_CellCrcParityAndLfsrResult (h : Obligations.CellCrcParityAndLfsrResult) :
    Goes (.cellCrc8 0 9 .clean) (one 0x1E) ∧
    Goes (.cellPar 0 9 .clean) (one 0x1F) ∧
    Goes (.cellLfsr 0 9 .clean) (one 0x1D) := by
  refine ⟨goes ((h (one 0x1E) 0 9).1 ?_),
    goes ((h (one 0x1F) 0 9).2.1 ?_),
    goes ((h (one 0x1D) 0 9).2.2 ?_)⟩ <;> decide +kernel

theorem met_CellQueueOperations (h : Obligations.CellQueueOperations) :
    Goes (.cellQpush 0 8 .clean) qpush ∧
    Goes (.cellQpush 0 8 .clean) qpush16 ∧
    Goes (.cellQpop 0 8 .clean) qpop ∧
    Goes (.qpopResult 0 0 8 PopStatus.ok (qword false) false) (qwait .ok [qword false]) ∧
    Goes (.qpopResult 0 0 8 PopStatus.empty (qword false) false) (qwait .empty []) := by
  refine ⟨goes (h.1 qpush 0 8 ?_),
    goes (h.1 qpush16 0 8 ?_),
    goes (h.2.1 qpop 0 8 ?_),
    goes (h.2.2 (qwait .ok [qword false]) 0 0 8 1 .ok (qword false) ?_ ?_ ?_ ?_ ?_),
    goes (h.2.2 (qwait .empty []) 0 0 8 1 .empty (qword false) ?_ ?_ ?_ ?_ ?_)⟩ <;> decide +kernel

theorem met_CellFaultsStopFlask (h : Obligations.CellFaultsAndFrame) :
    Goes (.cellAdd 0 9 .parity) one2 ∧
    Goes (.cellAdd 0 9 .uncorrectable) one2 ∧
    exec (.cellAdd 0 9 .corrected) one2 = exec (.cellAdd 0 9 .clean) (reportAt 0x1102 1 0 (flaskAux one2 0) 9 one2) ∧
    exec (.cellAdd 0 1 .uncorrectable) wcarry = exec (.cellAdd 0 1 .clean) wcarry ∧
    Goes (.qpopResult 0 0 8 PopStatus.ok (qword true) false) (qwait .ok [qword true]) := by
  refine ⟨goes ((h.1.1 one2 0 9 (0x02, .cellAdd) (.tail _ (.head _)) ?_).1),
    goes ((h.1.1 one2 0 9 (0x02, .cellAdd) (.tail _ (.head _)) ?_).2.1 ?_),
    (h.1.1 one2 0 9 (0x02, .cellAdd) (.tail _ (.head _)) ?_).2.2.1 ?_,
    (h.1.1 wcarry 0 1 (0x02, .cellAdd) (.tail _ (.head _)) ?_).2.2.2 ?_,
    goes (h.1.2 (qwait .ok [qword true]) 0 0 8 (qword true) ?_ ?_ ?_ ?_)⟩ <;> decide +kernel

theorem met_BlockMemoryPorts (h : Obligations.BlockMemoryPorts) :
    Goes (.bmPortRead 0 0 .ok .ok false) bmr ∧
    Goes (.bmPortRead 0 0 .ok .ok false) bmg ∧
    Goes (.bmPortWrite 0 0 .ok false) bmw ∧
    Goes (.bmPortWrite 0 0 .ok false) bmgw ∧
    Goes (.bmPortRead 0 0 .corrected .ok false) bmr ∧
    Goes (.bmPortRead 0 0 .uncorrectable .ok false) bmr ∧
    Goes (.bmPortRead 0 0 .ok .ok true) bmr ∧
    Goes (.bmScrubWriteback 0 0) bms := by
  refine ⟨goes ((h bmr 0 0).1 ?_ ?_),
    goes ((h bmg 0 0).1 ?_ ?_),
    goes ((h bmw 0 0).2.1 ?_ ?_ ?_ ?_),
    goes ((h bmgw 0 0).2.2.1 ?_ ?_ ?_ ?_ ?_),
    goes ((h bmr 0 0).2.2.2.1 ?_ ?_),
    goes ((h bmr 0 0).2.2.2.2.1 ?_ ?_),
    goes ((h bmr 0 0).2.2.2.2.2.1 ?_ ?_),
    goes ((h bms 0 0).2.2.2.2.2.2 0 ?_ ?_ ?_)⟩ <;> decide +kernel

theorem met_BoundaryCrossing (h : Obligations.SequencerDispatchAndCrossings) :
    Goes (.boundaryCross 0 9 false) lane := by
  refine goes (h.2.2 lane 0 9 1 0 ?_ ?_ ?_) <;> decide +kernel

theorem met_SequencerRunsChosenSlot (h : Obligations.SequencerDispatchAndCrossings) :
    Goes (.sequencerChoice 0 .clean) lane ∧
    Goes (.sequencerChoice 0 .clean) one2 ∧
    Goes (.sequencerChoice 0 .clean) still := by
  refine ⟨goes (h.1.1 lane 0 ?_ ?_),
    goes (h.1.1 one2 0 ?_ ?_),
    goes (h.1.2 still 0 ?_ ?_)⟩ <;> decide +kernel

theorem met_DispatchFifo (h : Obligations.SequencerDispatchAndCrossings) :
    Goes (.flaskDispatchMsg 0 1 100 7 3 5) disp ∧
    Goes (.flaskDispatchMsg 0 1 100 7 3 5) dispNot ∧
    Goes (.dispatchEntryRetire 0) disp2 := by
  refine ⟨goes (h.2.1.1 disp 0 1 100 7 3 5 ?_ ?_ ?_),
    goes (h.2.1.1 dispNot 0 1 100 7 3 5 ?_ ?_ ?_),
    goes (h.2.1.2 disp2 0 { ctxId := 1, runCycles := 3, token := 9, ran := 3, fillAsked := false } [] ?_ ?_ (.inl ?_))⟩ <;> decide +kernel

theorem met_ContextEngineMoves (h : Obligations.ContextEngineMoves) :
    Goes (.ctxSpill 0) (spillS true) ∧
    Goes (.ctxSpill 0) (spillS false) ∧
    Goes (.ctxSpillComplete 0) spilling ∧
    Goes (.ctxFill 0) fillS ∧
    Goes (.ctxFill 0) fullS ∧
    Goes (.ctxFill 0) fillBad ∧
    Goes (.ctxFillComplete 0) (filling 5 false) ∧
    Goes (.ctxFillComplete 0) (filling 5 true) := by
  refine ⟨goes (h.1 (spillS true) 0 3 ?_ ?_ ?_ ?_ ?_),
    goes (h.1 (spillS false) 0 3 ?_ ?_ ?_ ?_ ?_),
    goes (h.2.1 spilling 0 3 ?_ ?_ ?_),
    goes (h.2.2.1 fillS 0 5 3 ?_ ?_ ?_ ?_ ?_ ?_ ?_ ?_),
    goes (h.2.2.2.1 fullS 0 77 16 ?_ ?_ ?_ ?_ (.inr ?_)),
    goes (h.2.2.2.1 fillBad 0 5 3 ?_ ?_ ?_ ?_ (.inl ?_)),
    goes (h.2.2.2.2 (filling 5 false) 0 3 ?_ ?_ ?_),
    goes (h.2.2.2.2 (filling 5 true) 0 3 ?_ ?_ ?_)⟩ <;> decide +kernel

theorem met_ContextCommands (h : Obligations.ContextCommandsAndWindow) :
    Goes (.ctxCmdFill 127 0 7 4) ffd ∧
    Goes (.ctxCmdFill 88 0 11 8) fullEng ∧
    Goes (.ctxCmdSpill 127 0 3) resS ∧
    Goes (.ctxCmdEvict 88 0 3) resS ∧
    Goes (.ctxCmdPin 127 0 15) resS ∧
    Goes (.ctxCmdUnpin 127 0 0) resS := by
  refine ⟨goes (h.1.1 ffd 0x7F 0 7 4 ?_ ?_ ?_ ?_ ?_ ?_ ?_),
    goes (h.1.1 fullEng 88 0 11 8 ?_ ?_ ?_ ?_ ?_ ?_ ?_),
    goes ((h.1.2.1 resS 0x7F 0 3 ?_ ?_ ?_ ?_ ?_ ?_).1),
    goes ((h.1.2.1 resS 88 0 3 ?_ ?_ ?_ ?_ ?_ ?_).2),
    goes ((h.1.2.2 resS 0x7F 0 15 ?_ ?_ ?_ ?_).1),
    goes ((h.1.2.2 resS 0x7F 0 0 ?_ ?_ ?_ ?_).2)⟩ <;> decide +kernel

theorem met_ContextWindow (h : Obligations.ContextCommandsAndWindow) :
    Goes (.ctxStatusClr 127 0 4294967295) (sel resS) ∧
    Goes (.ctxWinDataRead 127 0) (sel resS) ∧
    Goes (.ctxWinDataRead 88 0) (selBus resS) := by
  refine ⟨goes (h.2.1 (sel resS) 0x7F 0 0 0xFFFFFFFF ?_ ?_ ?_),
    goes (h.2.2.1 (sel resS) 0 ?_ ?_),
    goes (h.2.2.2 (selBus resS) 88 0 ?_ ?_ ?_)⟩ <;> decide +kernel

theorem met_RecastMovesFlask (h : Obligations.RecastMovesFlask) :
    Goes (.recastCmdStart 127 0 8) (ff id) ∧
    Goes (.recastCmdCancel 127 0) (rec' .precopy []) ∧
    Goes (.recastCmdRelease 127 0) retired ∧
    Goes (.recastPrecopyComplete 0) (rec' .precopy (List.range 512)) ∧
    Goes (.recastPrecopyComplete 0) (rec' .precopy (List.range 513)) ∧
    Goes (.recastFreeze 0) (rec' .drain []) ∧
    Goes (.recastDone 0) (rec' .freeze []) ∧
    Goes (.recastTimeout 0) (rec' .drain []) ∧
    Goes (.recastTargetFault 0) (rec' .freeze []) := by
  refine ⟨goes (h.1 (ff id) 0x7F 0 8 ?_ ?_ ?_ ?_),
    goes (h.2.1 (rec' .precopy []) 0x7F 0 ?_ ?_ ?_ ?_),
    goes (h.2.2.1 retired 0x7F 0 ?_ ?_ ?_ ?_),
    goes (h.2.2.2.1 (rec' .precopy (List.range 512)) 0 ?_),
    goes (h.2.2.2.1 (rec' .precopy (List.range 513)) 0 ?_),
    goes (h.2.2.2.2.1 (rec' .drain []) 0 ?_ ?_ ?_ ?_),
    goes (h.2.2.2.2.2.1 (rec' .freeze []) 0 ?_ ?_ ?_),
    goes (h.2.2.2.2.2.2.1 (rec' .drain []) 0 ?_),
    goes (h.2.2.2.2.2.2.2 (rec' .freeze []) 0 ?_)⟩ <;> decide +kernel

theorem met_CrucibleControlFlow (h : Obligations.CrucibleControlFlowAndRepeats) :
    Goes (.cruNop 0 .clean) (cr 0) ∧
    Goes (.cruEi 0 .clean) (cr 0x08000000) ∧
    Goes (.cruDi 0 .clean) (crst 0x02000000 0x09000000) ∧
    Goes (.cruHalt 0 .clean) (cr 0x01000000) ∧
    Goes (.cruB 0 .clean) (cr 0x02000FFF) ∧
    Goes (.cruB 0 .clean) (cr 0x02100FFF) ∧
    Goes (.cruCall 0 .clean) (cr 0x03000007) ∧
    Goes (.cruCall 0 .clean) (cr 0x03100007) ∧
    Goes (.cruRet 0 .clean) (called 0x04000000) ∧
    Goes (.cruReti 0 .clean) (cr 0x05000000) ∧
    Goes (.cruRep 0 .clean) (cr 0x06001400) ∧
    Goes (.cruRep 0 .clean) (cr 0x06000000) ∧
    Goes (.cruBrep 0 .clean) (cr 0x07801403) ∧
    Goes (.cruBrep 0 .clean) (cr 0x070000FF) := by
  refine ⟨goes ((h.1 (cr 0) 0 ?_ ?_).1 ?_),
    goes ((h.1 (cr 0x08000000) 0 ?_ ?_).2.1 ?_),
    goes ((h.1 (crst 0x02000000 0x09000000) 0 ?_ ?_).2.2.1 ?_),
    goes ((h.1 (cr 0x01000000) 0 ?_ ?_).2.2.2.1 ?_),
    goes ((h.1 (cr 0x02000FFF) 0 ?_ ?_).2.2.2.2.1 ?_),
    goes ((h.1 (cr 0x02100FFF) 0 ?_ ?_).2.2.2.2.1 ?_),
    goes ((h.1 (cr 0x03000007) 0 ?_ ?_).2.2.2.2.2.1 ?_),
    goes ((h.1 (cr 0x03100007) 0 ?_ ?_).2.2.2.2.2.1 ?_),
    goes ((h.1 (called 0x04000000) 0 ?_ ?_).2.2.2.2.2.2.1 ?_),
    goes ((h.1 (cr 0x05000000) 0 ?_ ?_).2.2.2.2.2.2.2.1 ?_),
    goes ((h.1 (cr 0x06001400) 0 ?_ ?_).2.2.2.2.2.2.2.2.1 ?_),
    goes ((h.1 (cr 0x06000000) 0 ?_ ?_).2.2.2.2.2.2.2.2.1 ?_),
    goes ((h.1 (cr 0x07801403) 0 ?_ ?_).2.2.2.2.2.2.2.2.2 ?_),
    goes ((h.1 (cr 0x070000FF) 0 ?_ ?_).2.2.2.2.2.2.2.2.2 ?_)⟩ <;> decide +kernel

theorem met_CrucibleSlotsAndRepeats (h : Obligations.CrucibleControlFlowAndRepeats) :
    Goes (.cruNop 0 .clean) inRep ∧
    Goes (.cruNop 0 .clean) slot1 ∧
    Goes (.cruNop 0 .clean) slot2 ∧
    Goes (.cruNop 0 .clean) slotI ∧
    Goes (.cruNop 0 .clean) slotR ∧
    Goes (.cruNop 0 .clean) body := by
  refine ⟨goes (h.2 inRep 0 ?_ ?_),
    goes (h.2 slot1 0 ?_ ?_),
    goes (h.2 slot2 0 ?_ ?_),
    goes (h.2 slotI 0 ?_ ?_),
    goes (h.2 slotR 0 ?_ ?_),
    goes (h.2 body 0 ?_ ?_)⟩ <;> decide +kernel

theorem met_CrucibleAluResult (h : Obligations.CrucibleAluResult) :
    Goes (.cruAdd 0 .clean) (cr 0x30018000) ∧
    Goes (.cruAdd 0 .clean) (cr 0x30C04040) ∧
    Goes (.cruSub 0 .clean) (cr 0x31A0C000) ∧
    Goes (.cruSub 0 .clean) (cr 0x310C4040) ∧
    Goes (.cruCmp 0 .clean) (cr 0x39018000) ∧
    Goes (.cruCmp 0 .clean) (cr 0x39000000) ∧
    Goes (.cruAnd 0 .clean) (cr 0x32008000) ∧
    Goes (.cruOr 0 .clean) (cr 0x33008000) ∧
    Goes (.cruXor 0 .clean) (cr 0x34008000) ∧
    Goes (.cruAndn 0 .clean) (cr 0x35008000) ∧
    Goes (.cruShl 0 .clean) (cr 0x36008000) ∧
    Goes (.cruShl 0 .clean) (cr 0x36020000) ∧
    Goes (.cruShr 0 .clean) (cr 0x37008000) ∧
    Goes (.cruSar 0 .clean) (cr 0x38008000) := by
  refine ⟨goes ((h (cr 0x30018000) 0).1 ?_),
    goes ((h (cr 0x30C04040) 0).1 ?_),
    goes ((h (cr 0x31A0C000) 0).2.1 ?_),
    goes ((h (cr 0x310C4040) 0).2.1 ?_),
    goes ((h (cr 0x39018000) 0).2.2.1 ?_),
    goes ((h (cr 0x39000000) 0).2.2.1 ?_),
    goes ((h (cr 0x32008000) 0).2.2.2.1 ?_),
    goes ((h (cr 0x33008000) 0).2.2.2.2.1 ?_),
    goes ((h (cr 0x34008000) 0).2.2.2.2.2.1 ?_),
    goes ((h (cr 0x35008000) 0).2.2.2.2.2.2.1 ?_),
    goes ((h (cr 0x36008000) 0).2.2.2.2.2.2.2.1 ?_),
    goes ((h (cr 0x36020000) 0).2.2.2.2.2.2.2.1 ?_),
    goes ((h (cr 0x37008000) 0).2.2.2.2.2.2.2.2.1 ?_),
    goes ((h (cr 0x38008000) 0).2.2.2.2.2.2.2.2.2 ?_)⟩ <;> decide +kernel

theorem met_CrucibleMovesAndPointers (h : Obligations.CrucibleMovesAndExtraction) :
    Goes (.cruMov 0 .clean) (cr 0x1020FFFE) ∧
    Goes (.cruMov 0 .clean) (cr 0x1220FFFE) ∧
    Goes (.cruMov 0 .clean) (cr 0x1820FFFE) ∧
    Goes (.cruLoad 0 .clean) (cr 0x25000000) ∧
    Goes (.cruLoad 0 .clean) (cr 0x25300000) ∧
    Goes (.cruStore 0 .clean) (cr 0x2D18FC00) ∧
    Goes (.cruStore 0 .clean) (cr 0x2D900000) ∧
    Goes (.cruModp 0 .clean) (cr 0x20280100) := by
  refine ⟨goes ((h.1 (cr 0x1020FFFE) 0).1 ?_),
    goes ((h.1 (cr 0x1220FFFE) 0).1 ?_),
    goes ((h.1 (cr 0x1820FFFE) 0).1 ?_),
    goes ((h.1 (cr 0x25000000) 0).2.1 ?_),
    goes ((h.1 (cr 0x25300000) 0).2.1 ?_),
    goes ((h.1 (cr 0x2D18FC00) 0).2.2.1 ?_),
    goes ((h.1 (cr 0x2D900000) 0).2.2.1 ?_),
    goes ((h.1 (cr 0x20280100) 0).2.2.2 ?_)⟩ <;> decide +kernel

theorem met_CrucibleMacLanes (h : Obligations.CrucibleMacLanes) :
    Goes (.cruMpy 0 .clean) (cr 0x40078000) ∧
    Goes (.cruMpy 0 .clean) (cr 0x40078000) ∧
    Goes (.cruMpy 0 .clean) (crst 0x40000000 0x40678000) ∧
    Goes (.cruMpy 0 .clean) (cr 0x40AF8000) ∧
    Goes (.cruMpy 0 .clean) (cr 0x41278000) ∧
    Goes (.cruMac 0 .clean) (cr 0x42078000) ∧
    Goes (.cruMac 0 .clean) (crst 0x04000000 0x42078000) ∧
    Goes (.cruMsu 0 .clean) (cr 0x44478000) ∧
    Goes (.cruMacs 0 .clean) (cr 0x46000000) ∧
    Goes (.cruCmpy 0 .clean) (crst 0x80000000 0x40208000) ∧
    Goes (.cruCmpy 0 .clean) (crst 0x80000000 0x40210000) ∧
    Goes (.cruCmac 0 .clean) (crst 0x80000000 0x42210000) ∧
    Goes (.cruCmsu 0 .clean) (crst 0x80000000 0x44210000) ∧
    Goes (.cruCmacj 0 .clean) (crst 0x80000000 0x46210000) ∧
    Goes (.cruClr 0 .clean) (cr 0x50000005) ∧
    Goes (.cruClr 0 .clean) (cr 0x50000005) := by
  refine ⟨goes ((h (cr 0x40078000) 0 0 ?_).1 ?_),
    goes ((h (cr 0x40078000) 0 3 ?_).1 ?_),
    goes ((h (crst 0x40000000 0x40678000) 0 1 ?_).1 ?_),
    goes ((h (cr 0x40AF8000) 0 2 ?_).1 ?_),
    goes ((h (cr 0x41278000) 0 2 ?_).1 ?_),
    goes ((h (cr 0x42078000) 0 0 ?_).2.1 ?_),
    goes ((h (crst 0x04000000 0x42078000) 0 0 ?_).2.1 ?_),
    goes ((h (cr 0x44478000) 0 1 ?_).2.2.1 ?_),
    goes ((h (cr 0x46000000) 0 0 ?_).2.2.2.1 ?_),
    goes ((h (crst 0x80000000 0x40208000) 0 2 ?_).2.2.2.2.1 ?_),
    goes ((h (crst 0x80000000 0x40210000) 0 0 ?_).2.2.2.2.1 ?_),
    goes ((h (crst 0x80000000 0x42210000) 0 1 ?_).2.2.2.2.2.1 ?_),
    goes ((h (crst 0x80000000 0x44210000) 0 1 ?_).2.2.2.2.2.2.1 ?_),
    goes ((h (crst 0x80000000 0x46210000) 0 0 ?_).2.2.2.2.2.2.2.1 ?_),
    goes ((h (cr 0x50000005) 0 0 ?_).2.2.2.2.2.2.2.2 ?_),
    goes ((h (cr 0x50000005) 0 1 ?_).2.2.2.2.2.2.2.2 ?_)⟩ <;> decide +kernel

theorem met_CrucibleExtractRoundsToEven (h : Obligations.CrucibleMovesAndExtraction) :
    Goes (.cruExt32 0 .clean) (cr 0x51420000) ∧
    Goes (.cruExt16 0 .clean) (cr 0x52840000) := by
  refine ⟨goes ((h.2 (cr 0x51420000) 0).1 ?_),
    goes ((h.2 (cr 0x52840000) 0).2 ?_)⟩ <;> decide +kernel

theorem met_CrucibleStreams (h : Obligations.CrucibleStreamsErrorsAndEvents) :
    Goes (.cruSin 0 .clean) (inFifo 0x72800000) ∧
    Goes (.cruSout 0 .clean) (cr 0x7A600000) ∧
    Goes (.cruSin 0 .clean) (cr 0x72800000) ∧
    Goes (.cruSout 0 .clean) (outFull 0x7A600000) := by
  refine ⟨goes ((h.1 (inFifo 0x72800000) 0).1 (mkTWord 99 true false) [mkTWord 98 false true] ?_ ?_ ?_),
    goes ((h.1 (cr 0x7A600000) 0).2.1 ?_),
    goes ((h.1 (cr 0x72800000) 0).2.2.1 ?_ ?_ ?_),
    goes ((h.1 (outFull 0x7A600000) 0).2.2.2 ?_ ?_ ?_)⟩ <;> decide +kernel

theorem met_CrucibleErrorEntry (h : Obligations.CrucibleStreamsErrorsAndEvents) :
    Goes (.cruNop 0 .clean) (cr 0x60000000) ∧
    Goes (.cruRet 0 .clean) (cr 0x04000000) ∧
    Goes (.cruHalt 0 .clean) (crg 0x01000000 (fun c => { c with delay := 1 })) ∧
    Goes (.cruNop 0 (.uncorrectable 0)) (cr 0) := by
  refine ⟨goes ((h.2.1 (cr 0x60000000) 0 ?_).1 ?_),
    goes ((h.2.1 (cr 0x04000000) 0 ?_).2.1 ?_ ?_),
    goes ((h.2.1 (crg 0x01000000 (fun c => { c with delay := 1 })) 0 ?_).2.2.1 ?_ ?_),
    goes ((h.2.1 (cr 0) 0 ?_).2.2.2 ?_)⟩ <;> decide +kernel

theorem met_CrucibleEvents (h : Obligations.CrucibleStreamsErrorsAndEvents) :
    Goes (.cruInterruptAccept 0) intr ∧
    Goes (.cruHoldoffLimit 0) heldOff ∧
    Goes (.cruHaltPoint 0) asked ∧
    Goes (.cruScrubWriteback 0) scrubbing := by
  refine ⟨goes (h.2.2.1 intr 0 0 ?_ ?_ ?_ ?_ ?_),
    goes (h.2.2.2.1 heldOff 0 ?_ ?_ ?_ ?_),
    goes (h.2.2.2.2.1 asked 0 ?_ ?_ ?_),
    goes (h.2.2.2.2.2 scrubbing 0 4101 [2] ?_)⟩ <;> decide +kernel

theorem met_CrucibleCommands (h : Obligations.CrucibleCommands) :
    Goes (.cruCmdRun 127 0 true 4097) halted ∧
    Goes (.cruCmdRun 127 0 false 9) halted ∧
    Goes (.cruCmdClearPorts 127 0) halted ∧
    Goes (.cruCmdHalt 127 0) (cr 0) ∧
    Goes (.cruCmdStep 127 0 .clean) halted ∧
    Goes (.cruWinWrite 127 0 43981) (winAt 32) ∧
    Goes (.cruWinWrite 127 0 43981) (winAt 0xC0000007) ∧
    Goes (.cruWinDataRead 127 0 false .ok) (winAt 0x40000005) ∧
    Goes (.cruStickyClear 127 0 1023) halted := by
  refine ⟨goes (((h halted 0x7F 0 ?_).1 ?_ (.inl ?_)).1 4097),
    goes (((h halted 0x7F 0 ?_).1 ?_ (.inl ?_)).2.1 9),
    goes (((h halted 0x7F 0 ?_).1 ?_ (.inl ?_)).2.2),
    goes ((h (cr 0) 0x7F 0 ?_).2.1 ?_ ?_),
    goes ((h halted 0x7F 0 ?_).2.2.1 ?_ ?_ ?_ ?_),
    goes ((h (winAt 32) 0x7F 0 ?_).2.2.2.1 0xABCD ?_ (.inl ?_) ?_),
    goes ((h (winAt 0xC0000007) 0x7F 0 ?_).2.2.2.1 0xABCD ?_ (.inl ?_) ?_),
    goes ((h (winAt 0x40000005) 0x7F 0 ?_).2.2.2.2.1 ?_ ?_ ?_ ?_),
    goes ((h halted 0x7F 0 ?_).2.2.2.2.2 0x3FF ?_)⟩ <;> decide +kernel

theorem met_PushCommitsPacket (h : Obligations.PushAndRewindPackets) :
    Goes (.push 0 5 true [qw 7 false, qw 8 false, qw 9 false, qw 10 false, qw 11 true] 0 [] .clean false) (pushed 0 true [qw 7 false, qw 8 false, qw 9 false, qw 10 false, qw 11 true] (qs id)) ∧
    Goes (.push 0 5 true [qw 7 true] 0 [] .clean false) (pushed 0 true [qw 7 true] (qempty false)) ∧
    Goes (.push 0 5 true [{ d := 1, l := true, i := false, p := true }] 0 [] .clean false) (pushed 0 true [{ d := 1, l := true, i := false, p := true }] (qs id)) ∧
    Goes (.push 2 5 false [qw 7 true] 0 [] .clean false) (pushed 2 false [qw 7 true] (qs id)) ∧
    Goes (.push 0 5 true [qw 7 true] 0 [] .clean false) (pushed 0 true [qw 7 true] (qstate .disabled)) ∧
    Goes (.push 0 5 true [qw 7 true] 0 [] .clean false) (pushed 0 true [qw 7 true] qno) ∧
    Goes (.push 0 5 false [qw 7 true] 0 [] .clean false) (pushed 0 false [qw 7 true] (qstate .suspended)) ∧
    Goes (.push 0 5 false [qw 7 true] 0 [] .clean true) (pushed 0 false [qw 7 true] qcycle) := by
  refine ⟨goes ((h.1 (pushed 0 true [qw 7 false, qw 8 false, qw 9 false, qw 10 false, qw 11 true] (qs id)) 0 5 [qw 7 false, qw 8 false, qw 9 false, qw 10 false, qw 11 true] ?_ ?_).1 ?_ ?_ ?_ ?_ ?_ ?_ ?_ ?_ ?_ ?_),
    goes ((h.1 (pushed 0 true [qw 7 true] (qempty false)) 0 5 [qw 7 true] ?_ ?_).1 ?_ ?_ ?_ ?_ ?_ ?_ ?_ ?_ ?_ ?_),
    goes ((h.1 (pushed 0 true [{ d := 1, l := true, i := false, p := true }] (qs id)) 0 5 [{ d := 1, l := true, i := false, p := true }] ?_ ?_).2.1 { d := 1, l := true, i := false, p := true } ?_ ?_ ?_ ?_ ?_ ?_ ?_ ?_ ?_),
    goes ((h.1 (pushed 2 false [qw 7 true] (qs id)) 2 5 [qw 7 true] ?_ ?_).2.2.1 (.inr ?_) false ?_),
    goes ((h.1 (pushed 0 true [qw 7 true] (qstate .disabled)) 0 5 [qw 7 true] ?_ ?_).2.2.1 (.inl ?_) true ?_),
    goes ((h.1 (pushed 0 true [qw 7 true] qno) 0 5 [qw 7 true] ?_ ?_).2.2.2.1 (qw 7 true) ?_ ?_ ?_ ?_ ?_ ?_ true ?_),
    goes ((h.1 (pushed 0 false [qw 7 true] (qstate .suspended)) 0 5 [qw 7 true] ?_ ?_).2.2.2.2.1 (qw 7 true) ?_ ?_ ?_ ?_ false ?_),
    goes ((h.1 (pushed 0 false [qw 7 true] qcycle) 0 5 [qw 7 true] ?_ ?_).2.2.2.2.2 (qw 7 true) ?_ ?_ ?_ ?_ ?_ false ?_)⟩ <;> decide +kernel

theorem met_RewindAbandonsOpenPacket (h : Obligations.PushAndRewindPackets) :
    Goes (.rewind 0 5 .clean) (at81 0 (.rewind 5) qopen) := by
  refine goes (h.2 (at81 0 (.rewind 5) qopen) 0 5 ?_ ?_ ?_ ?_ ?_) <;> decide +kernel

theorem met_PopAnswersHeadWords (h : Obligations.PopAnswersHeadWords) :
    Goes (.pop 1 5 1 9 [] .clean) (popped 1 1 (qs id)) ∧
    Goes (.pop 1 5 2 9 [] .clean) (popped 1 2 (qs id)) ∧
    Goes (.pop 1 5 2 9 [] .clean) (popped 1 2 (qempty true)) ∧
    Goes (.pop 1 5 2 9 [] .clean) (popped 1 2 (qempty false)) ∧
    Goes (.pop 1 5 2 9 [] .clean) (popped 1 2 (qstate .revoking)) ∧
    Goes (.pop 0 5 2 9 [] .clean) (popped 0 2 (qs id)) := by
  refine ⟨goes ((h (popped 1 1 (qs id)) 1 5 1 9 ?_ ?_).1 ?_ ?_ ?_ ?_ ?_ ?_ ?_ ?_),
    goes ((h (popped 1 2 (qs id)) 1 5 2 9 ?_ ?_).1 ?_ ?_ ?_ ?_ ?_ ?_ ?_ ?_),
    goes ((h (popped 1 2 (qempty true)) 1 5 2 9 ?_ ?_).2.1 ?_ ?_ ?_),
    goes ((h (popped 1 2 (qempty false)) 1 5 2 9 ?_ ?_).2.1 ?_ ?_ ?_),
    goes ((h (popped 1 2 (qstate .revoking)) 1 5 2 9 ?_ ?_).2.2.1 ?_),
    goes ((h (popped 0 2 (qs id)) 0 5 2 9 ?_ ?_).2.2.2 ?_ ?_)⟩ <;> decide +kernel

theorem met_TundishCreditsWatchesAndSweeps (h : Obligations.DeepQueuesCreditsAndSweeps) :
    Goes (.crWaitExpiry 5) qaccrued ∧
    Goes (.revokeAck 0 5 9 .clean) (at81 0 (.revokeAck 5 9) (qstate .revoking)) ∧
    Goes (.watchSet 1 5 15 true) (at81 1 (.watchSet 5 15 true) (qs id)) ∧
    Goes (.watchSet 1 5 15 false) (at81 1 (.watchSet 5 15 false) (qs id)) ∧
    Goes (.pop 1 5 4 9 [] .pointers) (popped 1 4 (qs id)) ∧
    Goes (.push 0 5 true [qw 7 true] 0 [] .fatal false) (pushed 0 true [qw 7 true] (qs id)) ∧
    Goes (.tundishSweepComplete 5 .clean) (sweeping []) := by
  refine ⟨goes (h.2.1 qaccrued 5 ?_ ?_ ?_),
    goes (h.2.2.1 (at81 0 (.revokeAck 5 9) (qstate .revoking)) 0 5 9 ?_ ?_ ?_ ?_),
    goes (h.2.2.2.1 (at81 1 (.watchSet 5 15 true) (qs id)) 1 5 15 true ?_ ?_ ?_ ?_),
    goes (h.2.2.2.1 (at81 1 (.watchSet 5 15 false) (qs id)) 1 5 15 false ?_ ?_ ?_ ?_),
    goes (h.2.2.2.2.1 (popped 1 4 (qs id)) 1 5 4 9 ?_ ?_ ?_ ?_ ?_ ?_),
    goes (h.2.2.2.2.2.1 (pushed 0 true [qw 7 true] (qs id)) 0 5 true [qw 7 true] ?_ ?_),
    goes (h.2.2.2.2.2.2 (sweeping []) 5 ?_ ?_ ?_ ?_)⟩ <;> decide +kernel

theorem met_DeepQueueMoves (h : Obligations.DeepQueuesCreditsAndSweeps) :
    Goes (.deepSpillAnswer 5 .clean) qspill ∧
    Goes (.deepSpillAnswer 5 .clean) qspill2 ∧
    Goes (.deepRefillAnswer 5 .clean) (qrefill true [0, 1]) ∧
    Goes (.deepRefillAnswer 5 .clean) (qrefill true [0]) ∧
    Goes (.deepRefillAnswer 5 .clean) (qrefill false [0, 1]) ∧
    Goes (.deepBlocksWrite 127 0) (qs id) ∧
    Goes (.deepBlocksWrite 88 268435455) (qs id) ∧
    Goes .deepInitComplete deepIniting := by
  refine ⟨goes ((h.1.1 qspill 5 2 [3] ?_ ?_ ?_).1 (by unfold SpillGood; decide +kernel)),
    goes ((h.1.1 qspill2 5 2 [4] ?_ ?_ ?_).2 (by unfold SpillGood; decide +kernel) ?_),
    goes ((h.1.2.1 (qrefill true [0, 1]) 5 0 [1] ?_ ?_ ?_ ?_).1 ?_),
    goes ((h.1.2.1 (qrefill true [0]) 5 0 [] ?_ ?_ ?_ ?_).1 ?_),
    goes ((h.1.2.1 (qrefill false [0, 1]) 5 0 [1] ?_ ?_ ?_ ?_).2 ?_),
    goes (h.1.2.2.1 (qs id) 0x7F 0 ?_ ?_ ?_ ?_),
    goes (h.1.2.2.1 (qs id) 88 268435455 ?_ ?_ ?_ ?_),
    goes (h.1.2.2.2 deepIniting ?_ ?_ ?_ ?_)⟩ <;> decide +kernel

theorem met_QueueEnableDisableFlush (h : Obligations.QueueEnableDisableFlush) :
    Goes (.queueEnable 127 (BitVec.ofNat 32 (0 * 16384 + 1 * 128)) .clean) qoff ∧
    Goes (.queueDisable 127 (BitVec.ofNat 32 (1 * 128)) .clean) (qsel qopen) ∧
    Goes (.flush 127 1 .clean) (qsel qopen) := by
  refine ⟨goes (h.1 qoff 0x7F (BitVec.ofNat 32 (0 * 16384 + 1 * 128)) ?_ ?_ ?_ ?_ ?_ ?_ ?_),
    goes (h.2.1 (qsel qopen) 0x7F (BitVec.ofNat 32 (1 * 128)) ?_ ?_ ?_ ?_ ?_ ?_),
    goes (h.2.2 (qsel qopen) 0x7F ?_ ?_ ?_ ?_)⟩ <;> decide +kernel

theorem met_GateInjectsRequest (h : Obligations.GateRequestsAndAnswers) :
    Goes (.gateInject 3 1) (lastTook 0) ∧
    Goes (.gateInject 3 0) gate3 ∧
    Goes (.gateInject 3 2) (noRoute (.push 5 true [])) ∧
    Goes (.gateInject 3 2) (noRoute (.rd (2 ^ 41) 8)) := by
  refine ⟨goes ((h.1 (lastTook 0) 3 1 rdPkt ?_ ?_ ?_ ?_).1 81 ?_ ?_ ?_ ?_ ?_ ?_ ?_),
    goes ((h.1 gate3 3 0 (mkPacket 3 81 0 0 (.push 5 true [{ d := 1, l := true, i := false, p := false }])) ?_ ?_ ?_ ?_).1 81 ?_ ?_ ?_ ?_ ?_ ?_ ?_),
    goes ((h.1 (noRoute (.push 5 true [])) 3 2 (mkPacket 3 unresolved 0 2 (.push 5 true [])) ?_ ?_ ?_ ?_).2.1 ?_ ?_ ?_),
    goes ((h.1 (noRoute (.rd (2 ^ 41) 8)) 3 2 (mkPacket 3 unresolved 0 2 (.rd (2 ^ 41) 8)) ?_ ?_ ?_ ?_).2.2 (2 ^ 41) 8 ?_ ?_ ?_)⟩ <;> decide +kernel

theorem met_RouterHop (h : Obligations.RoutersPortsAndTables) :
    Goes (.runnerHop 0 .clean) (wired [flightIn 0 19 81 (.pop 5 1) .source] []) ∧
    Goes (.runnerHop 0 .clean) (wired [flightIn 0 19 81 (.pop 5 1) .bridge] []) ∧
    Goes (.runnerHop 0 .clean) (wired [flight 0 19 81 (.pop 5 1)] []) ∧
    Goes (.runnerHop 0 .clean) (wired [flight 10 0 81 (.pop 5 1)] []) ∧
    Goes (.runnerHop 0 .clean) (wired [flight 12 15 82 (.pop 5 1)] []) ∧
    Goes (.runnerHop 0 .clean) (wired [flight 10 0 81 (.pop 5 1)] [(10, [(10, .closed)])]) ∧
    Goes (.runnerHop 0 .clean) (wired [flight 12 15 82 (.pop 5 1)] [(11, [(9, .closed)])]) ∧
    Goes (.runnerHop 0 .clean) (wired [flight 10 0 81 (.wack .ok false)] [(10, [(10, .closed)])]) ∧
    Goes (.runnerHop 0 .corrected) (wired [flight 10 0 81 (.wack .ok false)] []) ∧
    Goes (.runnerHop 0 (.drop true false)) (wired [flight 10 0 81 (.wack .ok false)] []) ∧
    Goes (.runnerHop 0 .fatal) (wired [flight 10 0 81 (.wack .ok false)] []) := by
  refine ⟨goes ((h.1 (wired [flightIn 0 19 81 (.pop 5 1) .source] []) 0 (flightIn 0 19 81 (.pop 5 1) .source) ?_ ?_ ?_ ?_).1 ?_ ?_ ?_),
    goes ((h.1 (wired [flightIn 0 19 81 (.pop 5 1) .bridge] []) 0 (flightIn 0 19 81 (.pop 5 1) .bridge) ?_ ?_ ?_ ?_).2.1 ?_ ?_),
    goes (((((h.1 (wired [flight 0 19 81 (.pop 5 1)] []) 0 (flight 0 19 81 (.pop 5 1)) ?_ ?_ ?_ ?_).2.2 (.inl ?_)).1 ?_ ?_).1) 8 0 ?_ ?_),
    goes ((((h.1 (wired [flight 10 0 81 (.pop 5 1)] []) 0 (flight 10 0 81 (.pop 5 1)) ?_ ?_ ?_ ?_).2.2 (.inl ?_)).1 ?_ ?_).2.1 ?_ ?_),
    goes ((((h.1 (wired [flight 12 15 82 (.pop 5 1)] []) 0 (flight 12 15 82 (.pop 5 1)) ?_ ?_ ?_ ?_).2.2 (.inl ?_)).1 ?_ ?_).2.1 ?_ ?_),
    goes ((((h.1 (wired [flight 10 0 81 (.pop 5 1)] [(10, [(10, .closed)])]) 0 (flight 10 0 81 (.pop 5 1)) ?_ ?_ ?_ ?_).2.2 (.inl ?_)).1 ?_ ?_).2.2.1 ?_ ?_ ?_),
    goes ((((h.1 (wired [flight 12 15 82 (.pop 5 1)] [(11, [(9, .closed)])]) 0 (flight 12 15 82 (.pop 5 1)) ?_ ?_ ?_ ?_).2.2 (.inl ?_)).1 ?_ ?_).2.2.1 ?_ ?_ ?_),
    goes ((((h.1 (wired [flight 10 0 81 (.wack .ok false)] [(10, [(10, .closed)])]) 0 (flight 10 0 81 (.wack .ok false)) ?_ ?_ ?_ ?_).2.2 (.inl ?_)).1 ?_ ?_).2.2.2.1 ?_ ?_ ?_),
    goes ((((h.1 (wired [flight 10 0 81 (.wack .ok false)] []) 0 (flight 10 0 81 (.wack .ok false)) ?_ ?_ ?_ ?_).2.2 (.inl ?_)).1 ?_ ?_).2.2.2.2),
    goes (((h.1 (wired [flight 10 0 81 (.wack .ok false)] []) 0 (flight 10 0 81 (.wack .ok false)) ?_ ?_ ?_ ?_).2.2 (.inl ?_)).2.1 false ?_),
    goes (((h.1 (wired [flight 10 0 81 (.wack .ok false)] []) 0 (flight 10 0 81 (.wack .ok false)) ?_ ?_ ?_ ?_).2.2 (.inl ?_)).2.2 ?_)⟩ <;> decide +kernel

theorem met_ProducerGates (h : Obligations.ProducerGates) :
    Goes (.gateCredit 3 5 9) (told 3 (.credit 5 9)) ∧
    Goes (.gateCredit 88 5 9) (told 88 (.credit 5 9)) ∧
    Goes (.gateRevoke 3 5) (told 3 (.revoke 5)) ∧
    Goes (.gateRevoke 88 5) (told 88 (.revoke 5)) ∧
    Goes (.gateWatchState 0 5 15 true) (told 0 (.watchState 5 15 true)) ∧
    Goes (.gatePushSend 3 5) gate3 := by
  refine ⟨goes (h.1 (told 3 (.credit 5 9)) 3 5 9 ?_),
    goes (h.1 (told 88 (.credit 5 9)) 88 5 9 ?_),
    goes (h.2.1 (told 3 (.revoke 5)) 3 5 (.inl ?_) ?_),
    goes (h.2.1 (told 88 (.revoke 5)) 88 5 (.inr ?_) ?_),
    goes (h.2.2.1 (told 0 (.watchState 5 15 true)) 0 5 15 true ?_ ?_),
    goes (h.2.2.2 gate3 3 5 ?_)⟩ <;> decide +kernel

theorem met_GateAnswersAndLosses (h : Obligations.GateRequestsAndAnswers) :
    Goes (.gateAnswer 3 (ansPkt 0) 0 [] 15) (answered 0) ∧
    Goes (.gateAnswer 3 (ansPkt 1) 0 [] 1024) (answered 1) ∧
    Goes (.rspTimeout 3 0) gate3 ∧
    Goes (.tagQuarantineEnd 3 1) gate3 ∧
    Goes (.gateDropNotice 3 0) noticed := by
  refine ⟨goes (h.2.1 (answered 0) 3 (ansPkt 0) 15 { tag := 0, who := 0, dest := 81, addr := 0, body := .pop 9 1 } ?_ ?_ ?_ ?_ ?_),
    goes (h.2.2.1 (answered 1) 3 (ansPkt 1) 1024 ?_ ?_ ?_ ?_),
    goes (h.2.2.2.1 gate3 3 0 { tag := 0, who := 0, dest := 81, addr := 0, body := .pop 9 1 } ?_ ?_ ?_),
    goes (h.2.2.2.2.1 gate3 3 1 ?_),
    goes (h.2.2.2.2.2 noticed 3 0 { tag := 0, who := 0, dest := 81, addr := 0, body := .pop 9 1 } ?_ ?_ ?_ ?_ ?_)⟩ <;> decide +kernel

theorem met_PortsAndRoutingTables (h : Obligations.RoutersPortsAndTables) :
    Goes (.portDrained 2 4) (portIn .closing) ∧
    Goes (.closeTimeout 2 4) (portIn .closing) ∧
    Goes (.portCreditsExchanged 2 4) (portIn .opening) ∧
    Goes (.rtrCmdApply 127 9) staged ∧
    Goes (.routeTableSwitch 9) applying ∧
    Goes (.rtrCmdDiscard 127 9) staged := by
  refine ⟨goes (h.2.1 (portIn .closing) 2 4 ?_ ?_ ?_ ?_ ?_ ?_),
    goes (h.2.2.1 (portIn .closing) 2 4 ?_ ?_),
    goes (h.2.2.2.1 (portIn .opening) 2 4 ?_),
    goes (h.2.2.2.2.1 staged 0x7F 9 ?_ ?_ ?_ ?_),
    goes (h.2.2.2.2.2.1 applying 9 ?_ ?_ ?_),
    goes (h.2.2.2.2.2.2 staged 0x7F 9 ?_ ?_ ?_)⟩ <;> decide +kernel

theorem met_LadlePlainInstructions (h : Obligations.LadlePlainInstructions) :
    Goes (.lcInstruction 0 .clean) (lc 0x123453B7) ∧
    Goes (.lcInstruction 0 .clean) (lc 0x12345397) ∧
    Goes (.lcInstruction 0 .clean) (lc 0xFFF28393) ∧
    Goes (.lcInstruction 0 .clean) (lc 0x006283B3) ∧
    Goes (.lcInstruction 0 .clean) (lc 0x406283B3) ∧
    Goes (.lcInstruction 0 .clean) (lc 0x026283B3) ∧
    Goes (.lcInstruction 0 .clean) (lc 0x0262D3B3) ∧
    Goes (.lcInstruction 0 .clean) (lc 0x0202D3B3) ∧
    Goes (.lcInstruction 0 .clean) (lc 0x00628463) ∧
    Goes (.lcInstruction 0 .clean) (lc 0x00528463) ∧
    Goes (.lcInstruction 0 .clean) (lc 0x00042383) ∧
    Goes (.lcInstruction 0 .clean) (lc 0x0104A383) ∧
    Goes (.lcInstruction 0 .clean) (lc 0x0004A383) ∧
    Goes (.lcInstruction 0 .clean) (lc 0x00542223) ∧
    Goes (.lcInstruction 0 .clean) (lc 0x00000073) ∧
    Goes (.lcInstruction 0 .clean) (lc 0x00142383) ∧
    Goes (.lcInstruction 0 .fetchBad) (lc 0x123453B7) := by
  refine ⟨goes ((h (lc 0x123453B7) 0 4 0x123453B7 ?_ ?_ ?_).1 ?_),
    goes ((h (lc 0x12345397) 0 4 0x12345397 ?_ ?_ ?_).2.1 ?_),
    goes ((h (lc 0xFFF28393) 0 4 0xFFF28393 ?_ ?_ ?_).2.2.1 ?_ ?_),
    goes ((h (lc 0x006283B3) 0 4 0x006283B3 ?_ ?_ ?_).2.2.2.1 ?_ ?_ ?_),
    goes ((h (lc 0x406283B3) 0 4 0x406283B3 ?_ ?_ ?_).2.2.2.2.1 ?_ ?_ ?_),
    goes ((h (lc 0x026283B3) 0 4 0x026283B3 ?_ ?_ ?_).2.2.2.2.2.1 ?_ ?_ ?_),
    goes ((h (lc 0x0262D3B3) 0 4 0x0262D3B3 ?_ ?_ ?_).2.2.2.2.2.2.1 ?_ ?_ ?_),
    goes ((h (lc 0x0202D3B3) 0 4 0x0202D3B3 ?_ ?_ ?_).2.2.2.2.2.2.1 ?_ ?_ ?_),
    goes ((h (lc 0x00628463) 0 4 0x00628463 ?_ ?_ ?_).2.2.2.2.2.2.2.1 ?_ ?_),
    goes ((h (lc 0x00528463) 0 4 0x00528463 ?_ ?_ ?_).2.2.2.2.2.2.2.1 ?_ ?_),
    goes (((h (lc 0x00042383) 0 4 0x00042383 ?_ ?_ ?_).2.2.2.2.2.2.2.2.1 ?_ ?_ ?_ (.inl ?_)).1 ?_),
    goes (((h (lc 0x0104A383) 0 4 0x0104A383 ?_ ?_ ?_).2.2.2.2.2.2.2.2.1 ?_ ?_ ?_ (.inr ?_)).1 ?_),
    goes (((h (lc 0x0004A383) 0 4 0x0004A383 ?_ ?_ ?_).2.2.2.2.2.2.2.2.1 ?_ ?_ ?_ (.inr ?_)).2 ?_ ?_),
    goes ((h (lc 0x00542223) 0 4 0x00542223 ?_ ?_ ?_).2.2.2.2.2.2.2.2.2.1 ?_ ?_ ?_ ?_),
    goes ((h (lc 0x00000073) 0 4 0x00000073 ?_ ?_ ?_).2.2.2.2.2.2.2.2.2.2.1 ?_ ?_),
    goes ((h (lc 0x00142383) 0 4 0x00142383 ?_ ?_ ?_).2.2.2.2.2.2.2.2.2.2.2.1 ?_ ?_ ?_ ?_),
    goes ((h (lc 0x123453B7) 0 4 0x123453B7 ?_ ?_ ?_).2.2.2.2.2.2.2.2.2.2.2.2 ?_ ?_)⟩ <;> decide +kernel

theorem met_LadleQueuesAndWindow (h : Obligations.LadleQueuesWindowAndMultiples) :
    Goes (.lcQueuePush 0 .clean) (lc 0x00552023) ∧
    Goes (.lcQueuePushLast 0 .clean) (lc 0x00552223) ∧
    Goes (.lcQueuePushLast 0 .clean) (lcPoor 0x00552223) ∧
    Goes (.lcQueuePushLast 0 .clean) (lcPushing (lc 0x00552223)) ∧
    Goes (.qpushTimeout 0) (lcPushing (lcPoor 0x00552223)) ∧
    Goes (.lcQueuePop 0 .clean) (lc 0x00B52423) ∧
    Goes (.lcQueuePop 0 .clean) (lc 0x00E52423) ∧
    Goes (.lcPopResponse 0 PopStatus.ok [{ d := 1, l := true, i := false, p := true }]) (lcPops 0x200) ∧
    Goes (.lcPopResponse 0 PopStatus.ok [{ d := 1, l := true, i := false, p := true }]) (lcPops 0x01000000) ∧
    Goes (.lcQueueRewind 0 .clean) (lc 0x00552623) ∧
    Goes (.lcRunnerLoad 0 .clean) (lc 0x00160383) ∧
    Goes (.lcRunnerStore 0 .clean) (lc 0x005600A3) ∧
    Goes (.lcFence 0 .clean) (lc 0x0FF0000F) ∧
    Goes (.lcFence 0 .clean) lcPosted := by
  refine ⟨goes ((h.1.1 (lc 0x00552023) 0 5 4 0x80000001 false).1 ?_ ?_ ?_),
    goes ((h.1.1 (lc 0x00552223) 0 5 4 0x80000001 true).1 ?_ ?_ ?_),
    goes ((h.1.1 (lcPoor 0x00552223) 0 5 4 0x80000001 true).2.1 ?_ ?_),
    goes ((h.1.1 (lcPushing (lc 0x00552223)) 0 5 4 0x80000001 true).2.2.1 ?_ ?_ ?_ ?_ ?_),
    goes ((h.1.1 (lcPushing (lcPoor 0x00552223)) 0 5 4 0x80000001 true).2.2.2 ?_ ?_ ?_ ?_ ?_),
    goes ((h.1.2.1 (lc 0x00B52423) 0 5 4 0x10000200 ?_).1 ?_ (.inl ?_)),
    goes ((h.1.2.1 (lc 0x00E52423) 0 5 4 0x42 ?_).2 ?_ ?_),
    goes (h.1.2.2.1 (lcPops 0x200) 0 5 0x200 .ok [{ d := 1, l := true, i := false, p := true }] ?_ ?_ ?_ ?_ (.inl ?_) ?_ ?_),
    goes (h.1.2.2.1 (lcPops 0x01000000) 0 5 0x01000000 .ok [{ d := 1, l := true, i := false, p := true }] ?_ ?_ ?_ ?_ (.inr ?_) ?_ ?_),
    goes (h.1.2.2.2.1 (lc 0x00552623) 0 5 4 ?_),
    goes (h.1.2.2.2.2.1 (lc 0x00160383) 0 0x40000001 7 1 4 true ?_),
    goes (h.1.2.2.2.2.2.1 (lc 0x005600A3) 0 0x40000001 1 4 0x80000001 ?_),
    goes ((h.1.2.2.2.2.2.2 (lc 0x0FF0000F) 0 4 ?_).1 ?_),
    ⟨_, (h.1.2.2.2.2.2.2 lcPosted 0 4 ?_).2 ?_⟩⟩ <;> decide +kernel

theorem met_LadleMultipleTransfers (h : Obligations.LadleQueuesWindowAndMultiples) :
    Goes (.ldm 0 32 .clean) (lc 0x00D4000B) ∧
    Goes (.stm 0 32 .clean) (lc 0x00D4100B) ∧
    Goes (.ldm 0 0 .clean) (lc 0x00D4000B) ∧
    Goes (.ldm 0 3 .clean) (lc 0x00D7000B) ∧
    Goes (.stm 0 3 .clean) (lc 0x00D7100B) := by
  refine ⟨goes ((h.2 (lc 0x00D4000B) 0 8 13).1 ?_ ?_ ?_ ?_),
    goes ((h.2 (lc 0x00D4100B) 0 8 13).2.1 ?_ ?_ ?_ ?_),
    goes ((h.2 (lc 0x00D4000B) 0 8 13).2.2.1 ?_ ?_ ?_ ?_ ?_),
    goes ((h.2 (lc 0x00D7000B) 0 14 13).2.2.2.1 ?_ ?_ ?_ 3),
    goes ((h.2 (lc 0x00D7100B) 0 14 13).2.2.2.2 ?_ ?_ ?_ 3)⟩ <;> decide +kernel

theorem met_LadleReturnsAndSources (h : Obligations.LadleReturnsSourcesAndBanks) :
    Goes (.bret 0 .clean) (lcBank0 0x0000200B) ∧
    Goes (.bret 0 .clean) (lcLevel 0x0000200B) ∧
    Goes (.bret 0 .clean) (lc 0x0000200B) ∧
    Goes (.mret 0 .clean) (lc 0x30200073) ∧
    Goes (.xbreadyWrite 0 .clean) (lc 0x7C90D3F3) ∧
    Goes (.xbwdataWrite 0 .clean) (lcBank0 0x7C8293F3) ∧
    Goes (.lcSourceTrap 0 0) (lcSource false) ∧
    Goes (.lcLevelEntry 0 0) (lcSource true) := by
  refine ⟨goes ((h.1.1 (lcBank0 0x0000200B) 0 4 ?_).1 ?_),
    goes ((h.1.1 (lcLevel 0x0000200B) 0 4 ?_).2.1 ?_ ?_ ?_ ?_),
    goes ((h.1.1 (lc 0x0000200B) 0 4 ?_).2.2 ?_ (.inl ?_)),
    goes (h.1.2.1 (lc 0x30200073) 0 4 ?_),
    goes (h.1.2.2.1 (lc 0x7C90D3F3) 0 4 7 ?_),
    goes (h.1.2.2.2.1 (lcBank0 0x7C8293F3) 0 4 7 0 ?_),
    goes (h.1.2.2.2.2.1 (lcSource false) 0 0 ?_ ?_),
    goes (h.1.2.2.2.2.2 (lcSource true) 0 0 ?_ ?_ ?_)⟩ <;> decide +kernel

theorem met_LadleBanks (h : Obligations.LadleReturnsSourcesAndBanks) :
    Goes (.lcDispatchAccept 0) lcDisp ∧
    Goes (.lcDispatchAccept 0) lcWait ∧
    Goes (.bankSpill 0) lcSpill ∧
    Goes (.bankSpillComplete 0 [] [0, 33]) lcSpilling ∧
    Goes (.bankFill 0) lcWait ∧
    Goes (.bankFillComplete 0 [] []) (lcFilling false) ∧
    Goes (.bankFillComplete 0 [] []) (lcFilling true) := by
  refine ⟨goes ((h.2.1 lcDisp 0 9 3 ?_ ?_ ?_ ?_ ?_ ?_ ?_ ?_).1 ?_ ?_ ?_),
    goes ((h.2.1 lcWait 0 9 3 ?_ ?_ ?_ ?_ ?_ ?_ ?_ ?_).2 ?_ ?_),
    goes (h.2.2.1 lcSpill 0 3 ?_ ?_ ?_),
    goes (h.2.2.2.1 lcSpilling 0 3 9 [0, 33] ?_ ?_ ?_),
    goes (h.2.2.2.2.1 lcWait 0 9 1 ((List.range 32).drop 2) ?_ ?_ ?_ ?_ ?_ ?_),
    goes ((h.2.2.2.2.2 (lcFilling false) 0 3 9 ?_ ?_).1 ?_),
    goes ((h.2.2.2.2.2 (lcFilling true) 0 3 9 ?_ ?_).2 ⟨1, ?_⟩ ?_ ?_)⟩ <;> decide +kernel

theorem met_LadleLoadsAndCommands (h : Obligations.LadleLoadsAndCommands) :
    Goes (.lcFwLoadComplete 0) (lcLoading false .reset (fun k => { k with kind := .start })) ∧
    Goes (.lcFwLoadComplete 0) (lcLoading false .reset (fun k => { k with kind := .reload })) ∧
    Goes (.lcFwLoadComplete 0) (lcLoading true .reset id) ∧
    Goes (.lcFwLoadComplete 0) (lcLoading true .reset (fun k => { k with tried := true })) ∧
    Goes (.lcCmdPark 127 0) (lcAs .running) ∧
    Goes (.lcCmdPark 127 0) lcThread ∧
    Goes (.lcCmdJoin 127 0) (lcAs .parked) ∧
    Goes (.lcCmdJoin 127 0) lcFresh ∧
    Goes (.lcCmdReload 127 0 false) (lcAs .parked) ∧
    Goes (.lcCmdRestart 127 0 false) (lcAs .halted) ∧
    Goes (.lcParkComplete 0) (lcLoading false .reset (fun k => { k with st := .parking, banks := [] })) := by
  refine ⟨goes ((h.1 (lcLoading false .reset (fun k => { k with kind := .start })) 0 ?_ ?_ ?_).1 ?_ ?_),
    goes ((h.1 (lcLoading false .reset (fun k => { k with kind := .reload })) 0 ?_ ?_ ?_).2.1 ?_ ?_),
    goes ((h.1 (lcLoading true .reset id) 0 ?_ ?_ ?_).2.2.1 ?_ ?_ ?_),
    goes ((h.1 (lcLoading true .reset (fun k => { k with tried := true })) 0 ?_ ?_ ?_).2.2.2 ?_ (.inl ?_) ?_),
    goes (((h.2.1 (lcAs .running) 0x7F 0 ?_ ?_).1 ?_ ?_).1 (.inl ?_)),
    goes (((h.2.1 lcThread 0x7F 0 ?_ ?_).1 ?_ ?_).2 9 ?_ ?_ ?_),
    goes ((h.2.1 (lcAs .parked) 0x7F 0 ?_ ?_).2.1 ?_ ?_),
    goes ((h.2.1 lcFresh 0x7F 0 ?_ ?_).2.2.1 ?_ ?_),
    goes ((h.2.1 (lcAs .parked) 0x7F 0 ?_ ?_).2.2.2.1 false ?_ ?_),
    goes ((h.2.1 (lcAs .halted) 0x7F 0 ?_ ?_).2.2.2.2 false ?_ ?_),
    goes (h.2.2 (lcLoading false .reset (fun k => { k with st := .parking, banks := [] })) 0 ?_ ?_ ?_ ?_ ?_ ?_)⟩ <;> decide +kernel

theorem met_HostWindows (h : Obligations.HostWindowsLinkAndVectors) :
    Goes (.bar2Read (2 ^ 30 - 256) 64) (hq []) ∧
    Goes (.bar2Read 0 1) hcold ∧
    Goes (.bar2Write 8 15 15 [1, 2] true) (hq []) ∧
    Goes (.bar2Write 8 15 15 [1, 2] true) hcold ∧
    Goes (.bar4Push 5 9) (hq []) ∧
    Goes (.bar4PushLast (2 ^ 18 - 1) 9) hfar ∧
    Goes (.bar4PushAbandon 5 8) (hq []) ∧
    Goes (.bar4PushAbandon 5 12) (hq []) ∧
    Goes (.bar4CreditTake 5 16) (hq []) ∧
    Goes (.bar4CreditTake 5 32) (hq [hw 7 true, hw 8 false]) ∧
    Goes (.bar4CreditTake 5 36) (hq []) ∧
    Goes (.bar4Pop 5) (hq []) ∧
    Goes (.gateAnswer 88 (hostPkt (Body.popResp PopStatus.ok [hw 7 true])) 0 [] 9) (hostGot 101 (.popResp .ok [hw 7 true]) (hq [])) ∧
    Goes (.gateAnswer 88 (hostPkt (Body.popResp PopStatus.empty [])) 0 [] 9) (hostGot 101 (.popResp .empty []) (hq [])) ∧
    Goes (.gateAnswer 88 (hostPkt (Body.popResp PopStatus.refused [])) 0 [] 9) (hostGot 101 (.popResp .refused []) (hq [])) ∧
    Goes (.gateAnswer 88 (hostPkt (Body.popResp PopStatus.offline [])) 0 [] 9) (hostGot 101 (.popResp .offline []) (hq [])) := by
  refine ⟨goes (h.1.1 (hq []) (2 ^ 30 - 256) 64 ?_ ?_ ?_ ?_ ?_),
    goes (h.1.1 hcold 0 1 ?_ ?_ ?_ ?_ ?_),
    goes (h.1.2.1 (hq []) 8 15 15 [1, 2] true ?_ ?_ ?_ ?_ ?_),
    goes (h.1.2.1 hcold 8 15 15 [1, 2] true ?_ ?_ ?_ ?_ ?_),
    goes ((h.1.2.2.1 (hq []) 5 9 false ?_ ?_).1 ?_),
    goes ((h.1.2.2.1 hfar (2 ^ 18 - 1) 9 true ?_ ?_).1 ?_),
    goes ((h.1.2.2.1 (hq []) 5 9 true ?_ ?_).2.1),
    ⟨_, (h.1.2.2.1 (hq []) 5 9 true ?_ ?_).2.2 0x0C ?_ ?_⟩,
    goes ((h.1.2.2.2.1 (hq []) 5 ?_ ?_).1),
    goes ((h.1.2.2.2.1 (hq [hw 7 true, hw 8 false]) 5 ?_ ?_).2.1),
    goes ((h.1.2.2.2.1 (hq []) 5 ?_ ?_).2.2.1 0x24 ?_ ?_ ?_),
    goes ((h.1.2.2.2.1 (hq []) 5 ?_ ?_).2.2.2),
    goes (h.1.2.2.2.2 (hostGot 101 (.popResp .ok [hw 7 true]) (hq [])) (hostPkt (.popResp .ok [hw 7 true])) .ok [hw 7 true] 9 ?_),
    goes (h.1.2.2.2.2 (hostGot 101 (.popResp .empty []) (hq [])) (hostPkt (.popResp .empty [])) .empty [] 9 ?_),
    goes (h.1.2.2.2.2 (hostGot 101 (.popResp .refused []) (hq [])) (hostPkt (.popResp .refused [])) .refused [] 9 ?_),
    goes (h.1.2.2.2.2 (hostGot 101 (.popResp .offline []) (hq [])) (hostPkt (.popResp .offline [])) .offline [] 9 ?_)⟩ <;> decide +kernel

theorem met_DmaEngines (h : Obligations.DmaEngines) :
    Goes (.dmaEnable 127 5) (esel (eng [] (fun d => { d with en := false }))) ∧
    Goes (.dmaDisable 127 5) (esel (served (h2c 32) [])) ∧
    Goes (.dmaDescriptorPop 2) (eng [] id) ∧
    Goes (.gateAnswer 88 (hostPkt (Body.popResp PopStatus.ok [hw 7 false])) 0 [] 9) (hostGot 3 (.popResp .ok [hw 7 false]) (eng [] id)) ∧
    Goes (.gateAnswer 88 (hostPkt (descL 1 32)) 0 [] 9) (hostGot 3 (descL 1 32) (popping 1 32)) ∧
    Goes (.gateAnswer 88 (hostPkt (descL 0 32)) 0 [] 9) (hostGot 3 (descL 0 32) (popping 0 32)) ∧
    Goes (.dmaHostReadCompletion 2 [1, 2, 3, 4] true false) (served (h2c 32) []) ∧
    Goes (.dmaHostReadCompletion 2 [1, 2, 3, 4] false false) (served (h2c 16) []) ∧
    Goes (.dmaHostReadCompletion 2 [] true true) (served (h2c 32) []) ∧
    Goes (.dmaQ2hRepop 2) (served q2h []) ∧
    Goes (.gateAnswer 88 (hostPkt (Body.popResp PopStatus.ok [hw 7 true])) 0 [] 9) (hostGot 3 (.popResp .ok [hw 7 true]) (served (q2h) [])) ∧
    Goes (.gateAnswer 88 (hostPkt (Body.popResp PopStatus.ok [hw 7 false])) 0 [] 9) (hostGot 3 (.popResp .ok [hw 7 false]) (served (q2h) [])) ∧
    Goes (.gateAnswer 88 (hostPkt (Body.popResp PopStatus.ok [hw 7 false])) 0 [] 9) (hostGot 3 (.popResp .ok [hw 7 false]) (served ({ q2h with len := 8 }) [])) ∧
    Goes (.dmaDescriptorComplete 2) served2 := by
  refine ⟨goes ((h.1 (esel (eng [] (fun d => { d with en := false }))) 0x7F 5 ?_ ?_ ?_).1 ?_ ?_ ?_),
    goes ((h.1 (esel (served (h2c 32) [])) 0x7F 5 ?_ ?_ ?_).2 ?_ ?_),
    goes (h.2.1 (eng [] id) 2 ?_),
    goes (h.2.2.1 (hostGot 3 (.popResp .ok [hw 7 false]) (eng [] id)) 2 9 (hostPkt (.popResp .ok [hw 7 false])) (hw 7 false) ?_ ?_ ?_ ?_ ?_ ?_),
    goes ((h.2.2.2.1 (hostGot 3 (descL 1 32) (popping 1 32)) 2 9 (hostPkt (descL 1 32)) (descW 1 32) false ?_ ?_ ?_ ?_ ?_).1 ?_ ?_ ?_ ?_),
    goes ((h.2.2.2.1 (hostGot 3 (descL 0 32) (popping 0 32)) 2 9 (hostPkt (descL 0 32)) (descW 0 32) false ?_ ?_ ?_ ?_ ?_).2 ?_),
    goes ((h.2.2.2.2.1 (served (h2c 32) []) 2 (h2c 32) [1, 2, 3, 4] true ?_ ?_ ?_ ?_).1 ?_),
    goes ((h.2.2.2.2.1 (served (h2c 16) []) 2 (h2c 16) [1, 2, 3, 4] false ?_ ?_ ?_ ?_).1 ?_),
    goes ((h.2.2.2.2.1 (served (h2c 32) []) 2 (h2c 32) [] true ?_ ?_ ?_ ?_).2),
    goes (h.2.2.2.2.2.1 (served q2h []) 2 q2h ?_ ?_ ?_ ?_ ?_ ?_),
    goes (h.2.2.2.2.2.2.1 (hostGot 3 (.popResp .ok [hw 7 true]) (served (q2h) [])) 2 9 (hostPkt (.popResp .ok [hw 7 true])) (q2h) (hw 7 true) ?_ ?_ ?_ ?_ ?_),
    goes (h.2.2.2.2.2.2.1 (hostGot 3 (.popResp .ok [hw 7 false]) (served (q2h) [])) 2 9 (hostPkt (.popResp .ok [hw 7 false])) (q2h) (hw 7 false) ?_ ?_ ?_ ?_ ?_),
    goes (h.2.2.2.2.2.2.1 (hostGot 3 (.popResp .ok [hw 7 false]) (served ({ q2h with len := 8 }) [])) 2 9 (hostPkt (.popResp .ok [hw 7 false])) ({ q2h with len := 8 }) (hw 7 false) ?_ ?_ ?_ ?_ ?_),
    goes (h.2.2.2.2.2.2.2 served2 2 (h2c 32) ?_ ?_ ?_ ?_ ?_ ?_ ?_)⟩ <;> decide +kernel

theorem met_HostLinkAndVectors (h : Obligations.HostWindowsLinkAndVectors) :
    Goes .pciePerstRelease perstLow ∧
    Goes (.pcieLinkUp 5 16 true true) up ∧
    Goes (.pcieReset true false) (served (h2c 32) []) ∧
    Goes (.pcieReset false false) (served (h2c 32) []) ∧
    Goes (.msixUnmask 2047 4078 5 false true false) (msixS []) ∧
    Goes (.msixUnmask 2047 4078 5 false true false) (msixS [(2047, true)]) ∧
    Goes (.msixUnmask 2047 4078 5 false true true) (msixS [(2047, true)]) := by
  refine ⟨goes (h.2.1 perstLow ?_ ?_),
    goes (h.2.2.1 up 5 16 true true ?_ ?_ ?_ ?_ ?_ ?_),
    goes (h.2.2.2.1 (served (h2c 32) []) true false ?_ ?_),
    goes (h.2.2.2.1 (served (h2c 32) []) false false ?_ ?_),
    goes ((h.2.2.2.2 (msixS []) 2047 0xFEE 5 false true false ?_ ?_).1 ?_),
    goes ((h.2.2.2.2 (msixS [(2047, true)]) 2047 0xFEE 5 false true false ?_ ?_).2 ?_),
    goes ((h.2.2.2.2 (msixS [(2047, true)]) 2047 0xFEE 5 false true true ?_ ?_).2 ?_)⟩ <;> decide +kernel

theorem met_PostPlacesItem (h : Obligations.ItemsMatchesAndDelays) :
    Goes (.post 0 .clean .clean) (cu 1 [hdr 1 63 9, 0, 0, 0, 0, 4] c0) ∧
    Goes (.post 0 .clean .clean) (cu 1 [hdr 1 2 9, 11, 12, 0, 0, 2] busy) ∧
    Goes (.post 0 .clean .clean) (cu 1 [hdr 1 2 9, 11, 12, 0, 0, 2] c0) ∧
    Goes (.post 0 .clean .clean) (cu 1 [hdr 1 2 9, 11, 12, 13, 14, 4] idle8) := by
  refine ⟨goes ((h.1 (cu 1 [hdr 1 63 9, 0, 0, 0, 0, 4] c0) 0 4 ?_).1 (.inl ?_)),
    goes ((h.1 (cu 1 [hdr 1 2 9, 11, 12, 0, 0, 2] busy) 0 4 ?_).2.2.1 ?_ ?_ ?_),
    goes (((h.1 (cu 1 [hdr 1 2 9, 11, 12, 0, 0, 2] c0) 0 4 ?_).2.2.2 ?_ ?_ ?_ ?_).1 ?_),
    goes (((h.1 (cu 1 [hdr 1 2 9, 11, 12, 13, 14, 4] idle8) 0 4 ?_).2.2.2 ?_ ?_ ?_ ?_).2 8 ?_ ?_)⟩ <;> decide +kernel

theorem met_MatchStoreAndDelays (h : Obligations.ItemsMatchesAndDelays) :
    Goes (.send 0 .clean .clean) (cu 2 [0xF0000000, 5] c0) ∧
    Goes (.send 0 .clean .clean) (cu 2 [0xEFFFFFFF, 5] c0) ∧
    Goes (.send 0 .clean .clean) (cu 2 [0x77, 5] (slotted .held)) ∧
    Goes (.send 0 .clean .clean) (cu 2 [0x77, 5] (slotted .armed)) ∧
    Goes (.waitMatch 0 .clean .clean) (cu 3 [1, 0x77, 0, 0, 0, 9] (slotted .held)) ∧
    Goes (.waitMatch 0 .clean .clean) (cu 3 [1, 0x77, 0, 0, 0, 16777215] c0) ∧
    Goes (.waitMatch 0 .clean .clean) (cu 3 [1, 0x77, 0, 0, 0, 0] (slotted .armed)) ∧
    Goes (.delay 0 .clean .clean) (cu 4 [16777215] c0) ∧
    Goes (.delay 0 .clean .clean) (cu 4 [0] c0) ∧
    Goes (.yield 0 .clean .clean) (cu 5 [] c0) ∧
    Goes (.delayExpiry 8) (thr { Thread.reset with st := .delay, timeout := 5 }) ∧
    Goes (.matchTimeout 8) (cu 0 [] (slotted .armed)) ∧
    Goes (.matchTimeout 8) (cu 0 [] (slotted .filled)) := by
  refine ⟨goes ((h.2.1 (cu 2 [0xF0000000, 5] c0) 0 4 ?_).1 ?_),
    goes (((h.2.1 (cu 2 [0xEFFFFFFF, 5] c0) 0 4 ?_).2 ?_).1 0 ?_ ?_),
    goes (((h.2.1 (cu 2 [0x77, 5] (slotted .held)) 0 4 ?_).2 ?_).2.2.1 0 ?_ ?_),
    goes (((h.2.1 (cu 2 [0x77, 5] (slotted .armed)) 0 4 ?_).2 ?_).2.2.2 0 8 ?_ ?_ ?_ ?_ ?_),
    goes ((h.2.2.1 (cu 3 [1, 0x77, 0, 0, 0, 9] (slotted .held)) 0 4 7 ?_ ?_ ?_ ?_).1 0 ?_ ?_),
    goes ((h.2.2.1 (cu 3 [1, 0x77, 0, 0, 0, 16777215] c0) 0 4 7 ?_ ?_ ?_ ?_).2.1 0 ?_ ?_ ?_),
    goes ((h.2.2.1 (cu 3 [1, 0x77, 0, 0, 0, 0] (slotted .armed)) 0 4 7 ?_ ?_ ?_ ?_).2.2 0 ?_ ?_),
    goes ((h.2.2.2.1 (cu 4 [16777215] c0) 0 4 7 ?_ ?_).1 ?_ ?_),
    goes ((h.2.2.2.1 (cu 4 [0] c0) 0 4 7 ?_ ?_).2 (.inl ?_)),
    goes (h.2.2.2.2.1 (cu 5 [] c0) 0 4 7 ?_ ?_),
    goes (h.2.2.2.2.2.1 (thr { Thread.reset with st := .delay, timeout := 5 }) 8 ?_ ?_ ?_),
    goes (h.2.2.2.2.2.2 (cu 0 [] (slotted .armed)) 8 0 ?_ ?_ ?_ ?_),
    goes (h.2.2.2.2.2.2 (cu 0 [] (slotted .filled)) 8 0 ?_ ?_ ?_ ?_)⟩ <;> decide +kernel

theorem met_ThreadLifeCycle (h : Obligations.ThreadsInputsAndDispatch) :
    Goes (.create 0 .clean .clean) (cu 7 [8] c0) ∧
    Goes (.create 0 .clean .clean) (cu 7 [7] c0) ∧
    Goes (.restart 0 .clean .clean) (cu 10 [8] (th 8 { Thread.reset with st := .faulted })) ∧
    Goes (.restart 0 .clean .clean) (cu 10 [8] c0) ∧
    Goes (.cancel 0 .clean .clean) (cu 6 [8] c0) ∧
    Goes (.cancel 0 .clean .clean) (cu 6 [8] (th 8 { Thread.reset with st := .delay, timeout := 9 })) ∧
    Goes (.abandon 0 .clean .clean) (cu 9 [8] c0) ∧
    Goes (.abandon 0 .clean .clean) (bank0 (cu 9 [8] (th 8 { Thread.reset with st := .ready }))) ∧
    Goes (.done 0 false .clean .clean) (cuw 0x0307A023 0 [] c0) ∧
    Goes (.done 0 false .clean .clean) serving ∧
    Goes (.fdispatch 0 .clean .clean) (cu 8 [5 * 65536 + 3, 9 * 65536 + 77] c0) ∧
    Goes (.tCmdCreate 127) (thr Thread.reset) ∧
    Goes (.tCmdCancel 127) (thr { Thread.reset with st := .delay, timeout := 9 }) ∧
    Goes (.tCmdRestart 127) (thr { Thread.reset with st := .faulted }) ∧
    Goes (.tCmdRelease 127) (thr { Thread.reset with st := .cancelled }) := by
  refine ⟨goes ((h.1.1 (cu 7 [8] c0) 0 4 ?_).1 (.inl ?_) ?_ ?_),
    goes ((h.1.1 (cu 7 [7] c0) 0 4 ?_).2 ?_ ?_),
    goes ((h.1.2.1 (cu 10 [8] (th 8 { Thread.reset with st := .faulted })) 0 4 ?_).1 ?_ ?_),
    goes ((h.1.2.1 (cu 10 [8] c0) 0 4 ?_).2 ?_),
    goes ((h.1.2.2.1 (cu 6 [8] c0) 0 4 ?_).1 (.inl ?_) ?_),
    goes ((h.1.2.2.1 (cu 6 [8] (th 8 { Thread.reset with st := .delay, timeout := 9 })) 0 4 ?_).2 ?_ ?_),
    goes ((h.1.2.2.2.1 (cu 9 [8] c0) 0 4 ?_).1 ?_),
    goes ((h.1.2.2.2.1 (bank0 (cu 9 [8] (th 8 { Thread.reset with st := .ready }))) 0 4 ?_).2 ?_ ?_ ?_),
    goes ((h.1.2.2.2.2.1 (cuw 0x0307A023 0 [] c0) 0 4 7 0 ?_ ?_ ?_).1 ?_),
    goes ((h.1.2.2.2.2.1 serving 0 4 7 3 ?_ ?_ ?_).2 ?_ ?_),
    goes (h.1.2.2.2.2.2.1 (cu 8 [5 * 65536 + 3, 9 * 65536 + 77] c0) 0 4 ?_),
    goes ((h.1.2.2.2.2.2.2 (thr Thread.reset) 0x7F ?_ ?_).1 (.inl ?_) ?_),
    goes ((h.1.2.2.2.2.2.2 (thr { Thread.reset with st := .delay, timeout := 9 }) 0x7F ?_ ?_).2.1 ?_ ?_),
    goes ((h.1.2.2.2.2.2.2 (thr { Thread.reset with st := .faulted }) 0x7F ?_ ?_).2.2.1 ?_),
    goes ((h.1.2.2.2.2.2.2 (thr { Thread.reset with st := .cancelled }) 0x7F ?_ ?_).2.2.2 ?_)⟩ <;> decide +kernel

theorem met_CupolaInputsAndDispatch (h : Obligations.ThreadsInputsAndDispatch) :
    Goes (.cupolaDispatch .clean) disp8 ∧
    Goes (.cupolaDispatch .clean) up ∧
    Goes (.dispatchWithdraw 0) disp8 ∧
    Goes (.ringPop .clean) (ringS c0) ∧
    Goes (.ringPop .clean) (ringGot (ringW (hdr 1 2 9) false) busy) ∧
    Goes (.ringPop .clean) (ringGot (ringW 77 true) (ringPart busy)) ∧
    Goes (.ringRetry 2) ringStaged ∧
    Goes (.flaskCompletion 63 255 65535 true .clean) (completion 63 255 65535 1) ∧
    Goes (.cupolaHaltPlacement 0 .clean) haltedCore ∧
    Goes (.attnRead 0 .clean) (cuw 0x0607A383 0 [] { c0 with abandoned := true, ringStall := true }) := by
  refine ⟨goes (h.2.1 disp8 8 0 ?_ ?_),
    ⟨_, h.2.2.1 up ?_ ?_⟩,
    goes (h.2.2.2.1 disp8 0),
    goes (h.2.2.2.2.1 (ringS c0) 2 ?_ ?_ ?_ ?_),
    goes (h.2.2.2.2.2.1 (ringGot (ringW (hdr 1 2 9) false) busy) 2 (ringW (hdr 1 2 9) false) ?_ ?_ ?_),
    goes ((h.2.2.2.2.2.2.1 (ringGot (ringW 77 true) (ringPart busy)) 2 (ringW 77 true) (ringW (hdr 1 2 9) false) [ringW 77 true] ?_).1 ?_),
    goes (h.2.2.2.2.2.2.2.1 ringStaged 2 (ringW (hdr 1 2 9) true) ?_ ?_ ?_ ?_ ?_ ?_ ?_ ?_ ?_),
    goes (h.2.2.2.2.2.2.2.2.1 (completion 63 255 65535 1) 63 255 65535 0 true ?_ ?_ ?_ ?_ ?_ ?_ ?_ ?_),
    goes (h.2.2.2.2.2.2.2.2.2.1 haltedCore 0 8 ?_ ?_ ?_ ?_ ?_ ?_ ?_),
    goes (h.2.2.2.2.2.2.2.2.2.2 (cuw 0x0607A383 0 [] { c0 with abandoned := true, ringStall := true }) 0 4 7 ?_)⟩ <;> decide +kernel

theorem met_CatchTakesRequests (h : Obligations.CatchRequestsAndLineAccess) :
    Goes (.rd 0 (rdp 68 3)) (ctp onl (rdp 68 3)) ∧
    Goes (.rd 0 (rdp 64 16)) (ctp onl (rdp 64 16)) ∧
    Goes (.wr 0 (wrp 68 6 9 3) 0 []) (ctp onl (wrp 68 6 9 3)) ∧
    Goes (.wr 0 (wrp 124 7 9 1) 0 []) (ctp onl (wrp 124 7 9 1)) ∧
    Goes (.fold 0 (fop 68 4 3) 0 []) (ctp onl (fop 68 4 3)) ∧
    Goes (.fold 0 (fop 64 1 16) 0 []) (ctp onl (fop 64 1 16)) ∧
    Goes (.fold 0 (fop 68 4 16) 0 []) (ctp onl (fop 68 4 16)) ∧
    Goes (.fold 0 (fop 68 6 1) 0 []) (ctp onl (fop 68 6 1)) ∧
    Goes (.fold 0 (fop 68 1 0) 0 []) (ctp onl (fop 68 1 0)) ∧
    Goes (.fold 0 (fop 68 1 1) 0 []) (ctp { onl with ops := [foldOp 1 [(1, some (dw 6 true))] false], nextReq := 5 } (fop 68 1 1)) ∧
    Goes (.foldEntryIssue 0 1) (ctc { onl with ops := [foldOp 1 [(1, some (dw 6 true))] false] }) := by
  refine ⟨goes (h.1.1 (ctp onl (rdp 68 3)) 0 68 3 (rdp 68 3) ?_ ?_ ?_ ?_ ?_ ?_),
    goes (h.1.1 (ctp onl (rdp 64 16)) 0 64 16 (rdp 64 16) ?_ ?_ ?_ ?_ ?_ ?_),
    goes (h.1.2.1 (ctp onl (wrp 68 6 9 3)) 0 68 6 9 _ (wrp 68 6 9 3) rfl ?_ ?_ ?_ ?_ ?_),
    goes (h.1.2.1 (ctp onl (wrp 124 7 9 1)) 0 124 7 9 _ (wrp 124 7 9 1) rfl ?_ ?_ ?_ ?_ ?_),
    goes ((h.1.2.2.1 (ctp onl (fop 68 4 3)) 0 68 4 _ (fop 68 4 3) rfl ?_ ?_).1 ?_ ?_ ?_ ?_ ?_),
    goes ((h.1.2.2.1 (ctp onl (fop 64 1 16)) 0 64 1 _ (fop 64 1 16) rfl ?_ ?_).1 ?_ ?_ ?_ ?_ ?_),
    goes ((h.1.2.2.1 (ctp onl (fop 68 4 16)) 0 68 4 _ (fop 68 4 16) rfl ?_ ?_).2.1 ?_),
    goes ((h.1.2.2.1 (ctp onl (fop 68 6 1)) 0 68 6 _ (fop 68 6 1) rfl ?_ ?_).2.1 ?_),
    goes ((h.1.2.2.1 (ctp onl (fop 68 1 0)) 0 68 1 _ (fop 68 1 0) rfl ?_ ?_).2.1 ?_),
    goes ((h.1.2.2.1 (ctp { onl with ops := [foldOp 1 [(1, some (dw 6 true))] false], nextReq := 5 } (fop 68 1 1)) 0 68 1 _ (fop 68 1 1) rfl ?_ ?_).2.2 (dw 5 false) (dw 6 true) (foldOp 1 [(1, some (dw 6 true))] false) ?_ ?_ ?_ ?_ ?_ ?_),
    goes (h.1.2.2.2 (ctc { onl with ops := [foldOp 1 [(1, some (dw 6 true))] false] }) 0 1 1 (foldOp 1 [(1, some (dw 6 true))] false) [(1, some (dw 6 true))] ?_ ?_ ?_ ?_)⟩ <;> decide +kernel

theorem met_CatchLineAccess (h : Obligations.CatchRequestsAndLineAccess) :
    Goes (.lineAccessIssue 0 1 [] [] [] false) (onlyOp (aop (.read [(0, 2), (1, 3), (2, 4)])) (areq 1 (.rd 72 3))) ∧
    Goes (.lineAccessIssue 0 1 [] [(4, none)] [] false) (onlyOp (aop (.read [(0, 2), (1, 3), (2, 4)])) (areq 1 (.rd 72 3))) ∧
    Goes (.lineAccessIssue 0 1 [] [] [] false) (onlyOp (aop (.write [(2, (0xF, dw 0x11223344 false)), (3, (0x6, dw 0x11223344 false)), (4, (0x1, dw 0x99 true))])) (areq 1 (.rd 72 3))) ∧
    Goes (.lineAccessIssue 0 1 [] [] [] false) (onlyOp (foldOp 1 ftab true) (areq 1 (.rd 72 3))) ∧
    Goes (.lineAccessIssue 0 1 [] [] [] false) (onlyOp (foldOp 2 ftab true) (areq 1 (.rd 72 3))) ∧
    Goes (.lineAccessIssue 0 1 [] [] [] false) (onlyOp (foldOp 3 ftab true) (areq 1 (.rd 72 3))) ∧
    Goes (.lineAccessIssue 0 1 [] [] [] false) (onlyOp (foldOp 4 ftab true) (areq 1 (.rd 72 3))) ∧
    Goes (.lineAccessIssue 0 1 [] [] [] false) (onlyOp (foldOp 5 ftab true) (areq 1 (.rd 72 3))) ∧
    Goes (.rdataSend 0) (onlyOp (aop (.read [])) { areq 0 (.rd 72 3) with words := [(0, some (dw 7 false)), (1, some (dw 8 true)), (2, some (dw 9 false))] }) ∧
    Goes (.wackSend 0) (onlyOp (aop (.read [])) { areq 0 (.fold 72 9 []) with rejected := true }) := by
  refine ⟨goes ((h.2.1 (onlyOp (aop (.read [(0, 2), (1, 3), (2, 4)])) (areq 1 (.rd 72 3))) 0 1 2 3 (aop (.read [(0, 2), (1, 3), (2, 4)])) (areq 1 (.rd 72 3)) ?_ ?_ ?_).1),
    goes ((h.2.1 (onlyOp (aop (.read [(0, 2), (1, 3), (2, 4)])) (areq 1 (.rd 72 3))) 0 1 2 3 (aop (.read [(0, 2), (1, 3), (2, 4)])) (areq 1 (.rd 72 3)) ?_ ?_ ?_).2 4 ?_ ?_ ?_),
    goes (h.2.2.1 (onlyOp (aop (.write [(2, (0xF, dw 0x11223344 false)), (3, (0x6, dw 0x11223344 false)), (4, (0x1, dw 0x99 true))])) (areq 1 (.rd 72 3))) 0 1 (aop (.write [(2, (0xF, dw 0x11223344 false)), (3, (0x6, dw 0x11223344 false)), (4, (0x1, dw 0x99 true))])) (areq 1 (.rd 72 3)) [(2, (0xF, dw 0x11223344 false)), (3, (0x6, dw 0x11223344 false)), (4, (0x1, dw 0x99 true))] ?_ ?_ ?_),
    goes (h.2.2.2.1 (onlyOp (foldOp 1 ftab true) (areq 1 (.rd 72 3))) 0 1 1 (foldOp 1 ftab true) (areq 1 (.rd 72 3)) ftab ?_ ?_ ?_ ?_ ?_),
    goes (h.2.2.2.1 (onlyOp (foldOp 2 ftab true) (areq 1 (.rd 72 3))) 0 1 2 (foldOp 2 ftab true) (areq 1 (.rd 72 3)) ftab ?_ ?_ ?_ ?_ ?_),
    goes (h.2.2.2.1 (onlyOp (foldOp 3 ftab true) (areq 1 (.rd 72 3))) 0 1 3 (foldOp 3 ftab true) (areq 1 (.rd 72 3)) ftab ?_ ?_ ?_ ?_ ?_),
    goes (h.2.2.2.1 (onlyOp (foldOp 4 ftab true) (areq 1 (.rd 72 3))) 0 1 4 (foldOp 4 ftab true) (areq 1 (.rd 72 3)) ftab ?_ ?_ ?_ ?_ ?_),
    goes (h.2.2.2.1 (onlyOp (foldOp 5 ftab true) (areq 1 (.rd 72 3))) 0 1 5 (foldOp 5 ftab true) (areq 1 (.rd 72 3)) ftab ?_ ?_ ?_ ?_ ?_),
    goes (h.2.2.2.2.1 (onlyOp (aop (.read [])) { areq 0 (.rd 72 3) with words := [(0, some (dw 7 false)), (1, some (dw 8 true)), (2, some (dw 9 false))] }) 0 72 3 { areq 0 (.rd 72 3) with words := [(0, some (dw 7 false)), (1, some (dw 8 true)), (2, some (dw 9 false))] } ?_ ?_ ?_ ?_),
    goes (h.2.2.2.2.2 (onlyOp (aop (.read [])) { areq 0 (.fold 72 9 []) with rejected := true }) 0 { areq 0 (.fold 72 9 []) with rejected := true } ?_ ?_ ?_ ?_)⟩ <;> decide +kernel

theorem met_CatchChannelStates (h : Obligations.CatchChannelsAndMap) :
    Goes (.refreshObligation 0 3 1 2) ((ctc onl).putSetting 0x3100 2 0x06000000) ∧
    Goes (.refsbIssue 0 3 1 2) ((ctc { onl with refresh := [(54, 2)] }).putSetting 0x3100 2 0x06000000) ∧
    Goes (.phyPllLock 0) (unmapped offl) ∧
    Goes (.phyPllLock 0) (unmapped { offl with waiting := .online, refresh := [(1, 2)] }) ∧
    Goes (.phyPllLock 0) (unmapped { offl with waiting := .gather, live := [(1, 2)] }) ∧
    Goes (.phyClockLoss 0) (ctc onl) ∧
    Goes (.chCfgWrite 88 0 4194304) (unmapped offl) ∧
    Goes (.chCfgWrite 88 0 1073742847) (unmapped { offl with locked := true }) ∧
    Goes (.chCmdOnline 88 0) (unmapped { offl with locked := true }) ∧
    Goes (.chCmdOnline 88 0) (unmapped offl) ∧
    Goes (.chCmdOffline 88 0) (unmapped onl) ∧
    Goes (.chCmdGather 88 0) (unmapped { offl with locked := true, live := [(1, 2)] }) ∧
    Goes (.chCmdGather 88 0) (unmapped { offl with st := .failedTrain }) ∧
    Goes (.chCmdRunInj 88 0) (unmapped gath) ∧
    Goes (.chCmdSweep 88 0) (unmapped gath) ∧
    Goes (.chCmdEndGatherAccept 88 0) (unmapped gath) ∧
    Goes (.chCmdEndGatherFail 88 0) (unmapped gath) ∧
    Goes (.chCmdAbortRun 88 0 []) (unmapped { gath with run := .sweep }) ∧
    Goes (.chCmdSaveDelays 88 0) saver ∧
    Goes (.channelDrainComplete 0) (unmapped { onl with st := .draining, refresh := [(1, 1)] }) ∧
    Goes (.injRunComplete 0 []) (unmapped { gath with run := .inj }) ∧
    Goes (.trainSweepComplete 0 []) ((unmapped { gath with run := .sweep, inj := [(0, 0)] }).putSetting 0x3102 4 1) ∧
    Goes (.saveDelaysComplete 0) savingS ∧
    Goes (.catchAlert 0) (ctc onl) := by
  refine ⟨goes ((h.1.1 ((ctc onl).putSetting 0x3100 2 0x06000000) 0 3 1 2 ?_ ?_ ?_ ?_).1 ?_),
    goes ((h.1.1 ((ctc { onl with refresh := [(54, 2)] }).putSetting 0x3100 2 0x06000000) 0 3 1 2 ?_ ?_ ?_ ?_).2 ?_ ?_),
    goes ((h.1.2.1 (unmapped offl) 0 ?_ ?_).1 ?_),
    goes ((h.1.2.1 (unmapped { offl with waiting := .online, refresh := [(1, 2)] }) 0 ?_ ?_).2.1 ?_),
    goes ((h.1.2.1 (unmapped { offl with waiting := .gather, live := [(1, 2)] }) 0 ?_ ?_).2.2.1 ?_),
    goes ((h.1.2.1 (ctc onl) 0 ?_ ?_).2.2.2),
    goes (h.1.2.2.1 (unmapped offl) 88 0 0x00400000 ?_ ?_ ?_ ?_ ?_),
    goes (h.1.2.2.1 (unmapped { offl with locked := true }) 88 0 0x400003FF ?_ ?_ ?_ ?_ ?_),
    goes (((h.1.2.2.2.1 (unmapped { offl with locked := true }) 88 0 ?_ ?_ ?_).1 ?_ ?_ ?_ ?_).1 ?_ ?_),
    goes (((h.1.2.2.2.1 (unmapped offl) 88 0 ?_ ?_ ?_).1 ?_ ?_ ?_ ?_).2 ?_),
    goes ((h.1.2.2.2.1 (unmapped onl) 88 0 ?_ ?_ ?_).2.1 ?_ ?_ ?_ ?_),
    goes (((h.1.2.2.2.1 (unmapped { offl with locked := true, live := [(1, 2)] }) 88 0 ?_ ?_ ?_).2.2.1 ?_ ?_).1 ?_ ?_),
    goes (((h.1.2.2.2.1 (unmapped { offl with st := .failedTrain }) 88 0 ?_ ?_ ?_).2.2.1 ?_ ?_).2 ?_),
    goes (((h.1.2.2.2.1 (unmapped gath) 88 0 ?_ ?_ ?_).2.2.2.1 ?_ ?_).1),
    goes (((h.1.2.2.2.1 (unmapped gath) 88 0 ?_ ?_ ?_).2.2.2.1 ?_ ?_).2.1),
    goes (((h.1.2.2.2.1 (unmapped gath) 88 0 ?_ ?_ ?_).2.2.2.1 ?_ ?_).2.2.1),
    goes (((h.1.2.2.2.1 (unmapped gath) 88 0 ?_ ?_ ?_).2.2.2.1 ?_ ?_).2.2.2),
    goes ((h.1.2.2.2.1 (unmapped { gath with run := .sweep }) 88 0 ?_ ?_ ?_).2.2.2.2.1 ?_ ?_),
    goes ((h.1.2.2.2.1 saver 88 0 ?_ ?_ ?_).2.2.2.2.2 ?_ ?_ ?_ ?_ ?_),
    goes (h.1.2.2.2.2.1 (unmapped { onl with st := .draining, refresh := [(1, 1)] }) 0 ?_ ?_ ?_ ?_),
    goes (h.1.2.2.2.2.2.1 (unmapped { gath with run := .inj }) 0 ?_ ?_),
    goes (h.1.2.2.2.2.2.2.1 ((unmapped { gath with run := .sweep, inj := [(0, 0)] }).putSetting 0x3102 4 1) 0 [] ?_ ?_ ?_),
    goes (h.1.2.2.2.2.2.2.2.1 savingS 0 ?_),
    goes (h.1.2.2.2.2.2.2.2.2 (ctc onl) 0 ?_ ?_ ?_ ?_)⟩ <;> decide +kernel

theorem met_CatchMapEvacuationZeroing (h : Obligations.CatchChannelsAndMap) :
    Goes (.mapEnable 88 0 8192) ((unmapped onl).putSetting 0x3180 1 0x00002000) ∧
    Goes (.mapDisable 88 0) (ctc onl) ∧
    Goes (.evacCmdStart 88 0 1) (twoWin id []) ∧
    Goes (.evacCmdCancel 88) (twoWin (fun k => { k with evac := .copy, evacSrc := 0, evacDst := 1 }) [(5, some (dw 6 true)), (2 ^ 37 + 5, some (dw 7 true))]) ∧
    Goes (.evacCopyComplete []) (twoWin (fun k => { k with evac := .copy, evacSrc := 0, evacDst := 1 }) [(5, some (dw 6 true))]) ∧
    Goes .evacSwitch (twoWin (fun k => { k with evac := .switch, evacSrc := 0, evacDst := 1 }) []) ∧
    Goes (.zeroCmdStart 88) (zeroS false 128) ∧
    Goes (.zeroCmdCancel 88) (zeroS true 128) ∧
    Goes .zeroComplete (zeroS true 128) := by
  refine ⟨goes (h.2.1 ((unmapped onl).putSetting 0x3180 1 0x00002000) 88 0 0x00002000 ?_ ?_ ?_ ?_ ?_ ?_ ?_ ?_ ?_ ?_ ?_),
    goes (h.2.2.1 (ctc onl) 88 0 ?_ ?_ ?_ ?_ ?_ ?_ ?_ ?_ ?_),
    goes (h.2.2.2.1 (twoWin id []) 88 0 1 ?_ ?_ ?_ ?_ ?_ ?_ ?_ ?_ ?_ ?_),
    goes (h.2.2.2.2.1 (twoWin (fun k => { k with evac := .copy, evacSrc := 0, evacDst := 1 }) [(5, some (dw 6 true)), (2 ^ 37 + 5, some (dw 7 true))]) 88 ?_ ?_),
    goes (h.2.2.2.2.2.1 (twoWin (fun k => { k with evac := .copy, evacSrc := 0, evacDst := 1 }) [(5, some (dw 6 true))]) 5 20 (dw 6 true) ?_ ?_ ?_ ?_),
    goes (h.2.2.2.2.2.2.1 (twoWin (fun k => { k with evac := .switch, evacSrc := 0, evacDst := 1 }) []) ?_ ?_ ?_ ?_ ?_ ?_),
    goes ((h.2.2.2.2.2.2.2.1 (zeroS false 128) 88 ?_).1 ?_ ?_),
    goes ((h.2.2.2.2.2.2.2.1 (zeroS true 128) 88 ?_).2 ?_),
    goes (h.2.2.2.2.2.2.2.2 (zeroS true 128) ?_ ?_)⟩ <;> decide +kernel

theorem met_VilletFramesReceived (h : Obligations.VilletFramesAndPorts) :
    Goes (.dataFrame 1 (peer 1 2 5 [ack0]) false .ok) (vl { vact with unacked := vact.unacked }) ∧
    Goes (.dataFrame 1 (peer 1 2 6 [ack0]) false .ok) (vl vact) ∧
    Goes (.dataFrame 1 (peer 1 1 6 [ack0]) false .ok) (vl { vact with nakOut := true }) ∧
    Goes (.dataFrame 1 (peer 1 2 4 [ack0]) false .ok) (vl vact) ∧
    Goes (.dataFrame 1 (peer 1 2 5 [ack0]) true .ok) (vl vact) ∧
    Goes (.ackFrame 1 (peer 2 0 0 []) false) (vl vact) ∧
    Goes (.nakFrame 1 (peer 3 0 0 []) false .ok) (vl vact) ∧
    Goes (.initFrame 1 (peer 4 0 0 [196864]) false .ok) (vl { vin .init with partner := 0 }) := by
  refine ⟨goes ((h.1.1 (vl { vact with unacked := vact.unacked }) 1 (peer 1 2 5 [ack0]) false ?_).1 ack0 ?_ ?_ ?_ ?_ ?_ ?_ ?_ ?_ ?_),
    goes ((h.1.1 (vl vact) 1 (peer 1 2 6 [ack0]) false ?_).2.1 ?_ ?_ ?_),
    goes ((h.1.1 (vl { vact with nakOut := true }) 1 (peer 1 1 6 [ack0]) false ?_).2.2.1 ?_ ?_ ?_),
    goes ((h.1.1 (vl vact) 1 (peer 1 2 4 [ack0]) false ?_).2.2.2 ?_),
    goes (h.1.2.1 (vl vact) 1 (peer 1 2 5 [ack0]) true ?_ ?_ ?_ ?_ ?_ ?_),
    goes (h.1.2.2.1 (vl vact) 1 (peer 2 0 0 []) false ?_),
    goes (h.1.2.2.2.1 (vl vact) 1 (peer 3 0 0 []) false ?_ ?_ ?_ ?_),
    goes (h.1.2.2.2.2 (vl { vin .init with partner := 0 }) 1 (peer 4 0 0 [0x00030100]) false ?_ ?_ ?_ ?_ ?_ ?_ ?_ ?_)⟩ <;> decide +kernel

theorem met_VilletPortStates (h : Obligations.VilletFramesAndPorts) :
    Goes (.laneBlockLock 1 3) (vl valign) ∧
    Goes (.markerReceived 1 3 (markerBlock 7 90) 91) (vl valign) ∧
    Goes (.laneMarkerLock 1 3 2) (vl valign) ∧
    Goes (.laneBlockLockLoss 1 3) (vl { vact with lanes := lanes8 }) ∧
    Goes (.laneBlockLockLoss 1 3) (vl valign) ∧
    Goes (.laneMarkerLockLoss 1 3) (vl { vact with lanes := lanes8 }) ∧
    Goes (.codingErrorBlock 1 { sync := 1, payload := 5 } false) (vl valign) ∧
    Goes (.codingErrorBlock 1 { sync := 2, payload := 31 } true) (vl valign) ∧
    Goes (.lanesAligned 1 [0, 128, 5] [1, 2, 3]) (vl valign) ∧
    Goes (.deadTimeout 1) (vl vact) ∧
    Goes (.retrainRunStart 1 idleBlock retrainBlock) (vl { vact with lanes := lanes8 }) ∧
    Goes (.keepalive 1) (vl vact) ∧
    Goes (.ackDelayExpiry 1) (vl { vact with ackOwed := true }) ∧
    Goes (.attemptCounterReset 1) (vl { vact with attempts := 2 }) ∧
    Goes (.replayTimeout 1 .ok) (vl vact) ∧
    Goes (.alignTimeout 1) (vl valign) ∧
    Goes (.initTimeout 1) (vl (vin .init)) ∧
    Goes (.initInterval 1) (vl (vin .init)) ∧
    Goes (.retrainHold 1) (vl (vin .retrain)) ∧
    Goes (.retrainHold 1) (vl { vin .retrain with attempts := 64 }) ∧
    Goes (.serdesRefLoss 1 false) (vl vact) ∧
    Goes (.dataFrameSend 1) (vl { vact with txCtl := [[5, 6], [7]] }) ∧
    Goes (.linkCmdEnable 88 1) (vl { VPort.reset with epochKept := true, epoch := 5 }) ∧
    Goes (.linkCmdEnable 88 1) (vl { vact with st := .failed }) ∧
    Goes (.linkCmdReset 88 1 false) (vl vact) ∧
    Goes (.linkCmdDisable 88 1 true) (ht (hst .streaming) vact) ∧
    Goes (.linkCmdRetrain 88 1) (vl vact) := by
  refine ⟨goes ((h.2.1 (vl valign) 1 3 ?_).1),
    goes ((h.2.1 (vl valign) 1 3 ?_).2.1 7 0x5A 0x5B ?_ ?_),
    goes ((h.2.1 (vl valign) 1 3 ?_).2.2.1 ?_ 2 ?_),
    goes ((h.2.1 (vl { vact with lanes := lanes8 }) 1 3 ?_).2.2.2.1 ?_),
    goes ((h.2.1 (vl valign) 1 3 ?_).2.2.2.1 ?_),
    goes ((h.2.1 (vl { vact with lanes := lanes8 }) 1 3 ?_).2.2.2.2.1 ?_),
    goes ((h.2.1 (vl valign) 1 0 ?_).2.2.2.2.2 { sync := 0b01, payload := 5 } false ?_ (.inr ?_)),
    goes ((h.2.1 (vl valign) 1 0 ?_).2.2.2.2.2 { sync := 0b10, payload := 0x1F } true ?_ (.inl ?_)),
    goes (h.2.2.1 (vl valign) 1 [0, 128, 5] [1, 2, 3] ?_ ?_ ?_),
    goes (((h.2.2.2.1 (vl vact) 1).1 ?_).1),
    goes (((h.2.2.2.1 (vl { vact with lanes := lanes8 }) 1).1 ?_).2.1 idleBlock retrainBlock ?_ ?_ ?_ ?_),
    goes (((h.2.2.2.1 (vl vact) 1).1 ?_).2.2.1),
    goes (((h.2.2.2.1 (vl { vact with ackOwed := true }) 1).1 ?_).2.2.2.1 ?_),
    goes (((h.2.2.2.1 (vl { vact with attempts := 2 }) 1).1 ?_).2.2.2.2.1),
    goes (((h.2.2.2.1 (vl vact) 1).1 ?_).2.2.2.2.2 ?_ ?_),
    goes ((h.2.2.2.1 (vl valign) 1).2.1 ?_),
    goes (((h.2.2.2.1 (vl (vin .init)) 1).2.2.1 ?_).1),
    goes (((h.2.2.2.1 (vl (vin .init)) 1).2.2.1 ?_).2),
    goes ((h.2.2.2.1 (vl (vin .retrain)) 1).2.2.2.1 ?_ ?_),
    goes ((h.2.2.2.1 (vl { vin .retrain with attempts := 64 }) 1).2.2.2.2.1 ?_ ?_),
    goes ((h.2.2.2.1 (vl vact) 1).2.2.2.2.2 ?_ ?_),
    goes (h.2.2.2.2.1 (vl { vact with txCtl := [[5, 6], [7]] }) 1 [5, 6] [[7]] ?_ ?_ ?_ ?_),
    goes ((h.2.2.2.2.2 (vl { VPort.reset with epochKept := true, epoch := 5 }) 88 1 ?_ ?_).1 (.inr ?_)),
    goes ((h.2.2.2.2.2 (vl { vact with st := .failed }) 88 1 ?_ ?_).1 (.inl ?_)),
    goes (((h.2.2.2.2.2 (vl vact) 88 1 ?_ ?_).2.1 false ?_ ?_).1),
    goes (((h.2.2.2.2.2 (ht (hst .streaming) vact) 88 1 ?_ ?_).2.1 true ?_ ?_).2),
    goes ((h.2.2.2.2.2 (vl vact) 88 1 ?_ ?_).2.2 ?_)⟩ <;> decide +kernel

theorem met_HeatCommandsAndTimers (h : Obligations.HeatCommandsTimersAndMessages) :
    Goes (.heatCmdOpen 88 1 1) (htQ Heat.reset vact) ∧
    Goes (.heatCmdOpen 88 1 1) (htQ (hst .aborted) vact) ∧
    Goes (.heatCmdHold 88 1 1) (ht (hst .streaming) vact) ∧
    Goes (.heatCmdResume 88 1 1) (ht (hst .held) vact) ∧
    Goes (.heatCmdMark 88 1 1) (ht (hst .streaming) vact) ∧
    Goes (.heatCmdClose 88 1 1) (ht (hst .streaming) vact) ∧
    Goes (.heatCmdAbort 88 1 1) (ht (hst .streaming) vact) ∧
    Goes (.heatCmdClear 88 1 1) (ht (hst .voided) vact) ∧
    Goes (.openTimeout 1 1) (ht (hst .opening) vact) ∧
    Goes (.appliedTimeout 1 1) (ht (hst .held) vact) ∧
    Goes (.drainTimeout 1 1) (ht (hst .draining) vact) := by
  refine ⟨goes ((h.1.1 (htQ Heat.reset vact) 88 1 1 ?_ ?_ ?_).1 ?_ ?_ ?_),
    goes ((h.1.1 (htQ (hst .aborted) vact) 88 1 1 ?_ ?_ ?_).1 ?_ ?_ ?_),
    goes ((h.1.1 (ht (hst .streaming) vact) 88 1 1 ?_ ?_ ?_).2.1 ?_ ?_),
    goes ((h.1.1 (ht (hst .held) vact) 88 1 1 ?_ ?_ ?_).2.2.1 ?_),
    goes ((h.1.1 (ht (hst .streaming) vact) 88 1 1 ?_ ?_ ?_).2.2.2.1 ?_ ?_ ?_ ?_ ?_),
    goes ((h.1.1 (ht (hst .streaming) vact) 88 1 1 ?_ ?_ ?_).2.2.2.2.1 ?_ ?_),
    goes ((h.1.1 (ht (hst .streaming) vact) 88 1 1 ?_ ?_ ?_).2.2.2.2.2.1 ?_),
    goes ((h.1.1 (ht (hst .voided) vact) 88 1 1 ?_ ?_ ?_).2.2.2.2.2.2 ?_),
    goes ((h.1.2 (ht (hst .opening) vact) 1 1 ?_ ?_).1 ?_),
    goes ((h.1.2 (ht (hst .held) vact) 1 1 ?_ ?_).2.1 ?_ ?_),
    goes ((h.1.2 (ht (hst .draining) vact) 1 1 ?_ ?_).2.2 ?_)⟩ <;> decide +kernel

theorem met_HeatMessages (h : Obligations.HeatCommandsTimersAndMessages) :
    Goes (.openAck 1) (hrx .opening 0x11 []) ∧
    Goes (.openNak 1) (hrx .opening 0x12 [0x105]) ∧
    Goes (.applied 1) (hrx .held 0x13 (indexBody 150)) ∧
    Goes (.applied 1) (hrx .held 0x13 (indexBody 161)) ∧
    Goes (.markDone 1) (hrx .held 0x14 (indexBody 140)) ∧
    Goes (.closed 1) ((hrx .draining 0x15 (indexBody 160)).putSetting 0x35C3 6 160) ∧
    Goes (.void 1) (hrx .opening 0x16 (indexBody 140 ++ [9])) ∧
    Goes (.gap 1) (tol (hrx .streaming 0x17 (indexBody 140 ++ [9]))) ∧
    Goes (.gap 1) (hrx .streaming 0x17 (indexBody 140 ++ [9])) ∧
    Goes (.fail 1) (hrx .streaming 0x30 [140, 0x30000, 8, 9]) ∧
    Goes (.param 1) (hrx .streaming 0x31 [140, 0x30000, 8, 9]) ∧
    Goes (.fail 1) (hrx .streaming 0x30 [140, 0x40000, 8, 9]) := by
  refine ⟨goes ((h.2 (hrx .opening 0x11 []) 1 1).1 ⟨?_, ?_, ?_, ?_, hmsg 0x11 [], ack0, ?_, ?_, ?_, ?_, ?_⟩ ?_),
    goes ((h.2 (hrx .opening 0x12 [0x105]) 1 1).2.1 0x105 ⟨?_, ?_, ?_, ?_, hmsg 0x12 [0x105], 0x2401004D, ?_, ?_, ?_, ?_, ?_⟩ ?_),
    goes (((h.2 (hrx .held 0x13 (indexBody 150)) 1 1).2.2.1 150 ?_ ⟨?_, ?_, ?_, ?_, hmsg 0x13 (indexBody 150), 0x2602004D, ?_, ?_, ?_, ?_, ?_⟩).1 ?_ ?_),
    goes (((h.2 (hrx .held 0x13 (indexBody 161)) 1 1).2.2.1 161 ?_ ⟨?_, ?_, ?_, ?_, hmsg 0x13 (indexBody 161), 0x2602004D, ?_, ?_, ?_, ?_, ?_⟩).2 ?_),
    goes ((h.2 (hrx .held 0x14 (indexBody 140)) 1 1).2.2.2.1 140 [145] ?_ ⟨?_, ?_, ?_, ?_, hmsg 0x14 (indexBody 140), 0x2802004D, ?_, ?_, ?_, ?_, ?_⟩ ?_ ?_),
    goes ((h.2 ((hrx .draining 0x15 (indexBody 160)).putSetting 0x35C3 6 160) 1 1).2.2.2.2.1 160 ?_ ⟨?_, ?_, ?_, ?_, hmsg 0x15 (indexBody 160), 0x2A02004D, ?_, ?_, ?_, ?_, ?_⟩ ?_ ?_ ?_ ?_),
    goes ((h.2 (hrx .opening 0x16 (indexBody 140 ++ [9])) 1 1).2.2.2.2.2.1 140 9 ?_ ⟨?_, ?_, ?_, ?_, hmsg 0x16 (indexBody 140 ++ [9]), 0x2C03004D, ?_, ?_, ?_, ?_, ?_⟩ ?_ ?_),
    goes (((h.2 (tol (hrx .streaming 0x17 (indexBody 140 ++ [9]))) 1 1).2.2.2.2.2.2.1 140 9 ?_ ⟨?_, ?_, ?_, ?_, hmsg 0x17 (indexBody 140 ++ [9]), 0x2E03004D, ?_, ?_, ?_, ?_, ?_⟩).1 ?_ ?_),
    goes (((h.2 (hrx .streaming 0x17 (indexBody 140 ++ [9])) 1 1).2.2.2.2.2.2.1 140 9 ?_ ⟨?_, ?_, ?_, ?_, hmsg 0x17 (indexBody 140 ++ [9]), 0x2E03004D, ?_, ?_, ?_, ?_, ?_⟩).2 ?_),
    goes (((h.2 (hrx .streaming 0x30 [140, 0x30000, 8, 9]) 1 1).2.2.2.2.2.2.2 [140, 0x30000, 8, 9] ?_).1 ⟨?_, ?_, ?_, ?_, hmsg 0x30 [140, 0x30000, 8, 9], 0x6004004D, ?_, ?_, ?_, ?_, ?_⟩ ?_ ?_),
    goes (((h.2 (hrx .streaming 0x31 [140, 0x30000, 8, 9]) 1 1).2.2.2.2.2.2.2 [140, 0x30000, 8, 9] ?_).2.1 ⟨?_, ?_, ?_, ?_, hmsg 0x31 [140, 0x30000, 8, 9], 0x6204004D, ?_, ?_, ?_, ?_, ?_⟩ ?_ ?_),
    goes (((h.2 (hrx .streaming 0x30 [140, 0x40000, 8, 9]) 1 1).2.2.2.2.2.2.2 [140, 0x40000, 8, 9] ?_).2.2 ⟨?_, ?_, ?_, ?_, hmsg 0x30 [140, 0x40000, 8, 9], 0x6004004D, ?_, ?_, ?_, ?_, ?_⟩ ?_)⟩ <;> decide +kernel

theorem met_HeatVectorSupply (h : Obligations.HeatVectorSupply) :
    Goes (.vectorPop 1) (ht (hst .streaming) vact) ∧
    Goes (.vectorPopRetry 1) (ht (hst .streaming) { vact with retry := true }) ∧
    Goes (.vectorPopResponse 1) (popd { hst .streaming with cur := [6] } .ok { d := 7, l := true, i := false, p := false }) ∧
    Goes (.vectorPopResponse 1) (popd (hst .streaming) .ok { d := 7, l := false, i := false, p := false }) ∧
    Goes (.vectorPopResponse 1) (popd (hst .streaming) .idle { d := 7, l := true, i := true, p := false }) ∧
    Goes (.vectorPopResponse 1) (popd (hst .streaming) .offline { d := 7, l := true, i := true, p := false }) ∧
    Goes (.vectorPopResponse 1) (popd (hst .streaming) .ok { d := 7, l := true, i := false, p := true }) := by
  refine ⟨goes (h.1 (ht (hst .streaming) vact) 1 1 false ?_ ?_ ?_),
    goes (h.1 (ht (hst .streaming) { vact with retry := true }) 1 1 true ?_ ?_ ?_),
    goes ((h.2 (popd { hst .streaming with cur := [6] } .ok { d := 7, l := true, i := false, p := false }) 1 1 .ok { d := 7, l := true, i := false, p := false } ?_ ?_ ?_ ?_ ?_ ?_).1 ?_ ?_ ?_ ?_ ?_ ?_ ?_),
    goes ((h.2 (popd (hst .streaming) .ok { d := 7, l := false, i := false, p := false }) 1 1 .ok { d := 7, l := false, i := false, p := false } ?_ ?_ ?_ ?_ ?_ ?_).2.1 ?_ ?_ ?_ ?_ ?_),
    goes ((h.2 (popd (hst .streaming) .idle { d := 7, l := true, i := true, p := false }) 1 1 .idle { d := 7, l := true, i := true, p := false } ?_ ?_ ?_ ?_ ?_ ?_).2.2.1 ?_ ?_ ?_ ?_),
    goes ((h.2 (popd (hst .streaming) .offline { d := 7, l := true, i := true, p := false }) 1 1 .offline { d := 7, l := true, i := true, p := false } ?_ ?_ ?_ ?_ ?_ ?_).2.2.2.1 ?_ ?_),
    goes ((h.2 (popd (hst .streaming) .ok { d := 7, l := true, i := false, p := true }) 1 1 .ok { d := 7, l := true, i := false, p := true } ?_ ?_ ?_ ?_ ?_ ?_).2.2.2.2 ?_ ?_ ?_ ?_)⟩ <;> decide +kernel

theorem met_LoaderTakesRecords (h : Obligations.LoaderRecordsAndMouldStore) :
    Goes (.headerRecord .ok) (headerDue (hdrW magic 1 3 full72)) ∧
    Goes (.headerRecord .ok) { ldr (fun l => { (slotHas 0 (hdrW magic 2 3 8) { l with armed := true }) with released := true }) with flasks := [(3, flask Ctx.reset)] } ∧
    Goes (.headerRecord .ok) (headerDue (hdrW 0x4C524143 1 3 full72)) ∧
    Goes (.frameRecord .ok) (frameDue id (frmW 6)) ∧
    Goes (.frameRecord .ok) (frameDue id (frmW (2 ^ 14 + 3))) ∧
    Goes (.frameRecord .ok) (frameDue id (frmW 3)) ∧
    Goes (.frameRecord .ok) (frameDue id (0 :: frmW 3)) ∧
    Goes (.frameRecord .ok) (scpDue id [5]) ∧
    Goes (.frameRecord .ok) (scpDue (fun l => { l with retries := 2, retryLogged := true }) [5]) ∧
    Goes .loaderSourceExhausted (frameDue id (frmW 3)) ∧
    Goes (.endRecord .ok) (endDueS [0x444E4542, 1, crcFinal 9, 0]) ∧
    Goes (.endRecord .ok) (endDueS [0x444E4542, 2, crcFinal 9, 0]) ∧
    Goes .loaderQuiesced quieting ∧
    Goes .ldDrainTimeout quieting ∧
    Goes (.ldCmdLoadSlot 88 1) slotValid ∧
    Goes (.ldCmdLoadCatch 88) slotValid ∧
    Goes (.ldCmdAbandon 88) quieting := by
  refine ⟨goes ((h.1.1 (headerDue (hdrW magic 1 3 full72)) ?_ ?_ ?_).1 ?_),
    goes ((h.1.1 { ldr (fun l => { (slotHas 0 (hdrW magic 2 3 8) { l with armed := true }) with released := true }) with flasks := [(3, flask Ctx.reset)] } ?_ ?_ ?_).1 ?_),
    goes ((h.1.1 (headerDue (hdrW 0x4C524143 1 3 full72)) ?_ ?_ ?_).2 ?_ ?_),
    goes ((h.1.2.1 (frameDue id (frmW 6)) ?_ ?_ ?_ ?_).2.1 0x3904 ?_ ?_ ?_),
    goes ((h.1.2.1 (frameDue id (frmW (2 ^ 14 + 3))) ?_ ?_ ?_ ?_).1 ?_),
    goes ((h.1.2.1 (frameDue id (frmW 3)) ?_ ?_ ?_ ?_).2.1 0x3906 ?_ ?_ ?_),
    goes ((h.1.2.1 (frameDue id (0 :: frmW 3)) ?_ ?_ ?_ ?_).2.1 0x3903 ?_ ?_ ?_),
    goes ((h.1.2.1 (scpDue id [5]) ?_ ?_ ?_ ?_).2.2.1 ?_ ?_ ?_),
    goes ((h.1.2.1 (scpDue (fun l => { l with retries := 2, retryLogged := true }) [5]) ?_ ?_ ?_ ?_).2.2.1 ?_ ?_ ?_),
    goes ((h.1.2.1 (frameDue id (frmW 3)) ?_ ?_ ?_ ?_).2.2.2 ?_ ?_),
    goes ((h.1.2.2.1 (endDueS [0x444E4542, 1, crcFinal 9, 0]) ?_ ?_ ?_ ?_ ?_).1 ?_ ?_),
    goes ((h.1.2.2.1 (endDueS [0x444E4542, 2, crcFinal 9, 0]) ?_ ?_ ?_ ?_ ?_).2 ?_ ?_),
    goes ((h.1.2.2.2.1 quieting ?_).1 ?_ ?_),
    goes ((h.1.2.2.2.1 quieting ?_).2 ?_),
    goes (((h.1.2.2.2.2 slotValid 88 1 ?_).1 ?_ ?_ ?_).1 ?_ ?_),
    goes (((h.1.2.2.2.2 slotValid 88 3 ?_).1 ?_ ?_ ?_).2),
    goes ((h.1.2.2.2.2 quieting 88 3 ?_).2 (.inr ?_) ?_)⟩ <;> decide +kernel

theorem met_ImageRelease (h : Obligations.ImageRelease) :
    Goes (.loaderPlaced .ok) { relPart with loader := { relPart.loader with st := .placing } } ∧
    Goes .imageRelease relPart ∧
    Goes .imageRelease relCtx ∧
    Goes .loaderRecordsComplete recs ∧
    Goes .loaderRecordsComplete (recsCtx false) ∧
    Goes .loaderRecordsComplete (recsCtx true) := by
  refine ⟨goes (h.1 { relPart with loader := { relPart.loader with st := .placing } } ?_ ?_ ?_),
    goes (h.2.1 relPart ?_ ?_ ?_),
    goes (h.2.1 relCtx ?_ ?_ ?_),
    goes (h.2.2 recs ?_ ?_ ?_),
    goes (h.2.2 (recsCtx false) ?_ ?_ ?_),
    goes (h.2.2 (recsCtx true) ?_ ?_ ?_)⟩ <;> decide +kernel

theorem met_MouldStoreAndScp (h : Obligations.LoaderRecordsAndMouldStore) :
    Goes (.scpRecord [1, 2]) (ldr id) ∧
    Goes (.scpRecord [1, 2]) (scpDue id []) ∧
    Goes (.scpRecord [1, 2]) (frameDue id []) ∧
    Goes .scpStatus (scpDue (fun l => { l with scpBusy := false }) []) ∧
    Goes .scpError (scpDue (fun l => { l with scpBusy := false }) []) ∧
    Goes .scpAbandon (scpDue (fun l => { l with scpBusy := false }) []) ∧
    Goes .scpTimeout (scpDue (fun l => { l with scpBusy := false }) []) ∧
    Goes (.msCmdOpen 88 2 1) (ldr id) ∧
    Goes (.msDataWrite 88 2 [1, 2, 3, 4, 5, 6, 7, 8]) (sess 8) ∧
    Goes (.msDataWrite 88 2 []) (sess 8) ∧
    Goes (.msCmdClose 88 2 false) (sess 8) ∧
    Goes (.msCmdCancel 88 2) (sess 8) ∧
    Goes (.bootOrderWrite 88 5) (ldr id) := by
  refine ⟨goes (h.2.1 (ldr id) [1, 2] ?_),
    goes (h.2.1 (scpDue id []) [1, 2] ?_),
    goes (h.2.1 (frameDue id []) [1, 2] ?_),
    goes ((h.2.2.1 (scpDue (fun l => { l with scpBusy := false }) []) ?_).1),
    goes ((h.2.2.1 (scpDue (fun l => { l with scpBusy := false }) []) ?_).2.1),
    goes ((h.2.2.1 (scpDue (fun l => { l with scpBusy := false }) []) ?_).2.2.1 ?_ ?_),
    goes ((h.2.2.1 (scpDue (fun l => { l with scpBusy := false }) []) ?_).2.2.2 ?_ ?_ ?_ ?_),
    goes (h.2.2.2.1 (ldr id) 88 2 1 ?_ ?_ ?_ ?_ ?_ ?_ ?_),
    goes (h.2.2.2.2.1 (sess 8) 88 2 [1, 2, 3, 4, 5, 6, 7, 8] { slot := 2, area := 1, high := 8 } ?_ ?_ ?_ ?_ ?_ ?_ ?_),
    goes (h.2.2.2.2.1 (sess 8) 88 2 [] { slot := 2, area := 1, high := 8 } ?_ ?_ ?_ ?_ ?_ ?_ ?_),
    goes ((h.2.2.2.2.2.1 (sess 8) 88 2 { slot := 2, area := 1, high := 8 } ?_ ?_ ?_ ?_).1 false),
    goes ((h.2.2.2.2.2.1 (sess 8) 88 2 { slot := 2, area := 1, high := 8 } ?_ ?_ ?_ ?_).2),
    goes (h.2.2.2.2.2.2 (ldr id) 88 5 ?_)⟩ <;> decide +kernel

theorem met_DictionarySettings (h : Obligations.DictionarySettingsAndRefusals) :
    Goes (.dictWrite 88 (8216, 1, 1, 3600).1 (8216, 1, 1, 3600).2.1 false 0 true .clean false) up ∧
    Goes (.dictWrite 88 (8216, 1, 1, 3600).1 (8216, 1, 1, 3600).2.1 false 3601 false .clean false) up ∧
    Goes (.dictWrite 88 (8512, 3, 85, 115).1 (8512, 3, 85, 115).2.1 false 85 true .clean false) up ∧
    Goes (.sdoDownload (13056, 2, 1, 10000).1 (13056, 2, 1, 10000).2.1 (leBytes 10000) false .normal true .clean) up ∧
    Goes (.sdoDownload (13056, 2, 1, 10000).1 (13056, 2, 1, 10000).2.1 (leBytes 10001) false .normal true .clean) up ∧
    Goes (.dictWrite 88 (8704, 7, 10, 1000000).1 (8704, 7, 10, 1000000).2.1 false 10 true .clean false) (tx 0) ∧
    Goes (.sdoDownload (13056, 2, 1, 10000).1 (13056, 2, 1, 10000).2.1 (leBytes 10000) false .normal true .clean) (tx 1023) ∧
    Goes (.dictWrite 88 (8704, 7, 10, 1000000).1 (8704, 7, 10, 1000000).2.1 false 10 true .clean false) (tx 1024) ∧
    Goes (.dictWrite 88 (8704, 7, 10, 1000000).1 (8704, 7, 10, 1000000).2.1 false 9 true .clean false) (tx 1024) ∧
    Goes (.dictWrite 88 (8216, 1, 1, 3600).1 (8216, 1, 1, 3600).2.1 false 9 true .clean false) (tx 1024) ∧
    Goes (.mirrorRead 88 (8512, 3, 85, 115).1 (8512, 3, 85, 115).2.1 false .ok .clean false) up ∧
    Goes (.sdoUpload (8512, 3, 85, 115).1 (8512, 3, 85, 115).2.1 4 .normal .ok .clean) up ∧
    Goes (.dictWrite 88 8960 4 false 5 true .clean false) up ∧
    Goes (.dictWrite 88 8960 5 false 6 true .clean false) held4 ∧
    Goes (.dictWrite 88 8216 1 false 60 true .clean false) held4 ∧
    Goes (.dictWrite 88 8960 4 true ((6 : Word) ++ (5 : Word)) true .clean false) up ∧
    Goes (.mirrorRead 88 8960 4 false .ok .clean false) up ∧
    Goes (.mirrorRead 88 8960 5 false .ok .clean false) latched4 ∧
    Goes (.dictWrite 127 8512 3 false 90 true .clean false) (arriving1 88) ∧
    Goes (.dictWrite 88 8512 3 false 90 true .clean false) (arriving1 127) ∧
    Goes (.dictWrite 127 8216 1 false 60 true .clean true) (arriving1 127) ∧
    Goes (.mirrorRead 127 8216 1 false .ok .clean true) (arriving1 127) := by
  refine ⟨goes ((h.1.1 up 88 (0x2018, 1, 1, 3600) 0 true ?_ ?_ ?_ ?_).1),
    goes ((h.1.1 up 88 (0x2018, 1, 1, 3600) 3601 false ?_ ?_ ?_ ?_).1),
    goes ((h.1.1 up 88 (0x2140, 3, 85, 115) 85 true ?_ ?_ ?_ ?_).1),
    goes ((h.1.1 up 127 (0x3300, 2, 1, 10000) 10000 true ?_ ?_ ?_ ?_).2 ?_),
    goes ((h.1.1 up 127 (0x3300, 2, 1, 10000) 10001 true ?_ ?_ ?_ ?_).2 ?_),
    goes ((h.1.1 (tx 0) 88 (0x2200, 7, 10, 1000000) 10 true ?_ ?_ ?_ ?_).1),
    goes ((h.1.1 (tx 1023) 127 (0x3300, 2, 1, 10000) 10000 true ?_ ?_ ?_ ?_).2 ?_),
    goes ((h.1.1 (tx 1024) 88 (0x2200, 7, 10, 1000000) 10 true ?_ ?_ ?_ ?_).1),
    goes ((h.1.1 (tx 1024) 88 (0x2200, 7, 10, 1000000) 9 true ?_ ?_ ?_ ?_).1),
    goes ((h.1.1 (tx 1024) 88 (0x2018, 1, 1, 3600) 9 true ?_ ?_ ?_ ?_).1),
    goes ((h.1.2.1 up 88 (0x2140, 3, 85, 115) ?_ ?_ ?_ ?_).1 ?_),
    goes ((h.1.2.1 up 127 (0x2140, 3, 85, 115) ?_ ?_ ?_ ?_).2 ?_),
    goes ((h.1.2.2.1 up 88 5 6 true ?_ ?_ ?_).1 ?_),
    goes ((h.1.2.2.1 held4 88 7 6 true ?_ ?_ ?_).2.1 ?_),
    goes ((h.1.2.2.1 held4 88 7 6 true ?_ ?_ ?_).2.2.1 ?_),
    goes ((h.1.2.2.1 up 88 5 6 true ?_ ?_ ?_).2.2.2 ?_ ?_),
    goes ((h.1.2.2.2.1 up 88 ?_ ?_ ?_ ?_).1),
    goes ((h.1.2.2.2.1 latched4 88 ?_ ?_ ?_ ?_).2 9 ?_),
    goes ((h.1.2.2.2.2 (arriving1 88) 88 0x2018 1 127 0x2140 3 false false true true 60 90 .ok).2.2 ?_),
    goes ((h.1.2.2.2.2 (arriving1 127) 127 0x2018 1 88 0x2140 3 false false true true 60 90 .ok).2.2 ?_),
    ⟨_, (h.1.2.2.2.2 (arriving1 127) 127 0x2018 1 88 0x2140 3 false false true true 60 90 .ok).1⟩,
    ⟨_, (h.1.2.2.2.2 (arriving1 127) 127 0x2018 1 88 0x2140 3 false false true true 60 90 .ok).2.1⟩⟩ <;> decide +kernel

theorem met_DictionaryRefusals (h : Obligations.DictionarySettingsAndRefusals) :
    Goes (.sdoDownload 8216 1 [1] false .normal true .clean) stopped' ∧
    Goes (.sdoDownload 10649 1 [1] false .normal true .clean) up ∧
    Goes (.sdoDownload 8216 200 [1] false .normal true .clean) up ∧
    Goes (.sdoDownload 8960 5 [1] false .normal true .clean) up ∧
    Goes (.sdoDownload 8704 1 [1] false .normal true .clean) up ∧
    Goes (.sdoDownload 8216 1 [1] false .normal true .clean) noSess ∧
    Goes (.sdoDownload 8216 1 [1] false .normal true .clean) up ∧
    Goes (.sdoDownload 8216 1 [1] true .block true .clean) up ∧
    Goes (.sdoUpload 8216 1 8 .unknown .ok .clean) up ∧
    Goes (.dictWrite 88 10649 1 false 5 true .clean false) up ∧
    Goes (.mirrorRead 72 10649 1 false .ok .clean false) up ∧
    Goes (.dictWrite 72 8216 1 false 5 true .clean false) up ∧
    Goes (.dictWrite 72 8216 1 false 5 true .clean false) stopped' ∧
    Goes (.mirrorRead 88 8216 1 false .corrected .clean false) stopped' := by
  refine ⟨goes ((h.2.1 stopped' 0x2018 1 [1] true ?_ ?_ ?_).1 ?_),
    goes ((h.2.1 up 0x2999 1 [1] true ?_ ?_ ?_).2.1 ?_ ?_),
    goes ((h.2.1 up 0x2018 200 [1] true ?_ ?_ ?_).2.2.1 ?_ ?_ ?_ ?_),
    goes ((h.2.1 up 0x2300 5 [1] true ?_ ?_ ?_).2.2.1 ?_ ?_ ?_ ?_),
    goes (((h.2.1 up 0x2200 1 [1] true ?_ ?_ ?_).2.2.2 _ ?_ rfl).1 ?_),
    goes ((((h.2.1 noSess 0x2018 1 [1] true ?_ ?_ ?_).2.2.2 _ ?_ rfl).2 ?_ ?_).1 ?_),
    goes ((((h.2.1 up 0x2018 1 [1] true ?_ ?_ ?_).2.2.2 _ ?_ rfl).2 ?_ ?_).2 ?_ ?_ ?_),
    goes ((h.2.2.1 up 0x2018 1 8 [1] true true .block .ok ?_ ?_ ?_ ?_ ?_).1),
    goes ((h.2.2.1 up 0x2018 1 8 [1] true true .unknown .ok ?_ ?_ ?_ ?_ ?_).2),
    goes (((h.2.2.2 up 88 0x2999 1 5 true .ok ?_ ?_ ?_ ?_).1 ?_ ?_).1),
    goes (((h.2.2.2 up 72 0x2999 1 5 true .ok ?_ ?_ ?_ ?_).1 ?_ ?_).2),
    goes ((h.2.2.2 up 72 0x2018 1 5 true .ok ?_ ?_ ?_ ?_).2.1 ?_ ?_ ?_),
    goes (((h.2.2.2 stopped' 72 0x2018 1 5 true .ok ?_ ?_ ?_ ?_).2.2 ?_ ?_).1),
    goes (((h.2.2.2 stopped' 88 0x2018 1 5 true .corrected ?_ ?_ ?_ ?_).2.2 ?_ ?_).2)⟩ <;> decide +kernel

theorem met_SdoSegmentsAndInformation (h : Obligations.SdoSegmentsAndInformation) :
    Goes (.sdoDownload 8216 1 [1] true .normal true .clean) up ∧
    Goes (.sdoSegment [0] false 8 true) (seg true) ∧
    exec (.sdoSegment [0] true 8 true) (seg true) = exec (.sdoDownload 0x2018 1 [7, 0, 1, 0] false .normal true .clean) (seg true) ∧
    Goes (.sdoSegment [0] true 8 true) (seg false) ∧
    Goes (.sdoSegment [0] true 2 true) (seg false) ∧
    Goes .sdoSegmentTimeout (seg false) ∧
    Goes .getOdList up ∧
    Goes (.getObjectDescription 8216) up ∧
    Goes (.getObjectDescription 10649) up ∧
    Goes (.getEntryDescription 8216 1) up ∧
    Goes (.getEntryDescription 8216 0) up ∧
    Goes (.getEntryDescription 8216 99) up ∧
    Goes (.getEntryDescription 10649 1) up := by
  refine ⟨goes (h.1 up 0x2018 1 [1] true ?_ ?_ ?_ ⟨_, rfl, ?_, ?_⟩),
    goes (((h.2.1 (seg true) { download := true, idx := 0x2018, sub := 1, bytes := [7, 0, 1] } [0] 8 true ?_ ?_ ?_).1 ?_).2),
    ((h.2.1 (seg true) { download := true, idx := 0x2018, sub := 1, bytes := [7, 0, 1] } [0] 8 true ?_ ?_ ?_).1 ?_).1,
    goes ((h.2.1 (seg false) { download := false, idx := 0x2018, sub := 1, bytes := [7, 0, 1] } [0] 8 true ?_ ?_ ?_).2.1 ?_ true),
    goes ((h.2.1 (seg false) { download := false, idx := 0x2018, sub := 1, bytes := [7, 0, 1] } [0] 2 true ?_ ?_ ?_).2.1 ?_ true),
    goes ((h.2.1 (seg false) { download := false, idx := 0x2018, sub := 1, bytes := [7, 0, 1] } [0] 2 true ?_ ?_ ?_).2.2),
    goes ((h.2.2 up ?_ ?_ ?_ ?_).1),
    goes ((h.2.2 up ?_ ?_ ?_ ?_).2.1 0x2018),
    goes ((h.2.2 up ?_ ?_ ?_ ?_).2.1 0x2999),
    goes ((h.2.2 up ?_ ?_ ?_ ?_).2.2 0x2018 1),
    goes ((h.2.2 up ?_ ?_ ?_ ?_).2.2 0x2018 0),
    goes ((h.2.2 up ?_ ?_ ?_ ?_).2.2 0x2018 99),
    goes ((h.2.2 up ?_ ?_ ?_ ?_).2.2 0x2999 1)⟩ <;> decide +kernel

theorem met_SessionsOpenAndClose (h : Obligations.SessionsAndKeySlots) :
    Goes (.sessReqRequest 88 256) (pth (keyed 2 false) [] Path.reset) ∧
    Goes (.sessReqRequest 88 257) (pth (keyed 2 true) [] Path.reset) ∧
    Goes (.sessReqRequest 88 1) (pth (keyed 2 false) [] Path.reset) ∧
    Goes (.sessReqRequest 88 259) (pth (keyed 2 false) [] Path.reset) ∧
    Goes (.sessReqRequest 88 258) (pth (keyed 2 false) four Path.reset) ∧
    Goes (.sessReqRequest 88 258) (pth (keyed 2 false) [] Path.reset) ∧
    Goes (.sessReqProve 88 false .clean) (pth (keyed 2 false) [] Path.reset) ∧
    Goes (.sessReqProve 88 false .clean) (pth (keyed 2 true) [] (asked' [])) ∧
    Goes (.sessReqProve 88 true .clean) (pth (keyed 2 false) [] (asked' [])) ∧
    Goes (.sessReqProve 88 true .clean) (pth { keyed 2 false with failRun := 3 } [] (asked' [])) ∧
    Goes (.sessReqProve 88 false .clean) (pth (keyed 2 false) [] (asked' [9])) ∧
    Goes (.sessReqProve 88 false .clean) (pth (keyed 2 false) [] (asked' proof8)) ∧
    Goes (.sessIdleTimeout 2) up ∧
    Goes (.sessIdleTimeout 2) (tx 3) ∧
    Goes (.sessReqClose ((tx 3).session 2).path) (tx 3) ∧
    Goes (.sessCmdClose 127 2) (tx 3) ∧
    Goes (.keyLockoutEnd 1) (pth (keyed 2 true) [] Path.reset) := by
  refine ⟨goes ((h.1.1 (pth (keyed 2 false) [] Path.reset) 88 0x100 ?_ ?_).1 ?_),
    goes ((h.1.1 (pth (keyed 2 true) [] Path.reset) 88 0x101 ?_ ?_).2.1 ?_ (.inr ?_)),
    goes ((h.1.1 (pth (keyed 2 false) [] Path.reset) 88 0x001 ?_ ?_).2.1 ?_ (.inl ?_)),
    goes ((h.1.1 (pth (keyed 2 false) [] Path.reset) 88 0x103 ?_ ?_).2.2.1 ?_ ?_ ?_ ?_),
    goes ((h.1.1 (pth (keyed 2 false) four Path.reset) 88 0x102 ?_ ?_).2.2.2.1 ?_ ?_ ?_ ?_ ?_),
    goes ((h.1.1 (pth (keyed 2 false) [] Path.reset) 88 0x102 ?_ ?_).2.2.2.2 ?_ ?_ ?_ ?_ ?_ ?_),
    goes ((h.1.2.1 (pth (keyed 2 false) [] Path.reset) 88 false ?_ ?_).1 ?_),
    goes (((h.1.2.1 (pth (keyed 2 true) [] (asked' [])) 88 false ?_ ?_).2 chal ?_).1 ?_),
    goes (((h.1.2.1 (pth (keyed 2 false) [] (asked' [])) 88 true ?_ ?_).2 chal ?_).2.1 ?_ (.inl ?_)),
    goes (((h.1.2.1 (pth { keyed 2 false with failRun := 3 } [] (asked' [])) 88 true ?_ ?_).2 chal ?_).2.1 ?_ (.inl ?_)),
    goes (((h.1.2.1 (pth (keyed 2 false) [] (asked' [9])) 88 false ?_ ?_).2 chal ?_).2.1 ?_ (.inr (.inr ?_))),
    goes (((h.1.2.1 (pth (keyed 2 false) [] (asked' proof8)) 88 false ?_ ?_).2 chal ?_).2.2 ?_ ?_ ?_),
    goes ((h.1.2.2.1 up 2 ?_ ?_ ?_ ?_ ?_).1),
    goes ((h.1.2.2.1 (tx 3) 2 ?_ ?_ ?_ ?_ ?_).1),
    goes ((h.1.2.2.1 (tx 3) 2 ?_ ?_ ?_ ?_ ?_).2.1 ?_ ?_),
    goes ((h.1.2.2.1 (tx 3) 2 ?_ ?_ ?_ ?_ ?_).2.2 127 ?_ ?_),
    goes (h.1.2.2.2 (pth (keyed 2 true) [] Path.reset) 1 ?_ ?_)⟩ <;> decide +kernel

theorem met_KeySlots (h : Obligations.SessionsAndKeySlots) :
    Goes (.keyCmdSet 88 1 3 true) { up with dict := { up.dict with keys := [(1, { keyed 2 true with data := (List.range 8).map (fun k => (k, some (BitVec.ofNat 32 (k + 1)))) })] } } ∧
    Goes (.keyCmdClear 88 1 true) { up with dict := { up.dict with keys := [(1, { keyed 2 true with data := [(0, some 5)] })] } } ∧
    Goes (.keyCmdSet 88 1 3 false) { up with dict := { up.dict with keys := [(1, { keyed 2 true with data := [(0, some 5)] })] } } ∧
    Goes (.keyCmdClear 88 1 false) { up with dict := { up.dict with keys := [(1, { keyed 2 true with data := [(0, some 5)] })] } } ∧
    Goes (.keyCmdSet 88 1 3 true) { up with dict := { up.dict with keys := [(1, { keyed 2 true with data := [(0, some 5)] })] } } := by
  refine ⟨goes ((h.2 { up with dict := { up.dict with keys := [(1, { keyed 2 true with data := (List.range 8).map (fun k => (k, some (BitVec.ofNat 32 (k + 1)))) })] } } 88 1 3 ?_ ?_ ?_ ?_ ?_).1 [1, 2, 3, 4, 5, 6, 7, 8] ?_ ?_),
    goes ((h.2 { up with dict := { up.dict with keys := [(1, { keyed 2 true with data := [(0, some 5)] })] } } 88 1 3 ?_ ?_ ?_ ?_ ?_).2.1),
    goes ((h.2 { up with dict := { up.dict with keys := [(1, { keyed 2 true with data := [(0, some 5)] })] } } 88 1 3 ?_ ?_ ?_ ?_ ?_).2.2.1),
    goes ((h.2 { up with dict := { up.dict with keys := [(1, { keyed 2 true with data := [(0, some 5)] })] } } 88 1 3 ?_ ?_ ?_ ?_ ?_).2.2.2.1),
    goes ((h.2 { up with dict := { up.dict with keys := [(1, { keyed 2 true with data := [(0, some 5)] })] } } 88 1 3 ?_ ?_ ?_ ?_ ?_).2.2.2.2 1 ?_ ?_)⟩ <;> decide +kernel

theorem met_Transactions (h : Obligations.Transactions) :
    Goes (.txCmdBegin 88) (txs .none id) ∧
    Goes (.txCmdBegin 88) (txs .failed id) ∧
    Goes (.txCmdBegin 88) (txs .opened id) ∧
    Goes (.txCmdCommit 88 0) (txs .opened id) ∧
    Goes (.txCmdCommit 88 1) { txs .opened id with dcRunning := false } ∧
    Goes (.txCmdCommit 88 1) (txs .opened (fun x => { x with txAt := 1009999 })) ∧
    Goes (.txCmdCommit 88 1) (txs .opened (fun x => { x with txAt := 1000001000001 })) ∧
    Goes (.txCmdCommit 88 1) (txs .opened (fun x => { x with txAt := 1010000 })) ∧
    Goes (.txCmdCommit 88 2) txh ∧
    Goes (.txCmdRollback 88) (txs .opened id) ∧
    Goes (.txCmdRollback 88) (txs .committing id) ∧
    Goes (.txCommitTick .clean) (due { obj := 0, idx := 0x2018, sub := 1, value := 60 }) ∧
    Goes (.txCommitTick .clean) (due { obj := 0, idx := 0x3300, sub := 2, value := 60 }) ∧
    Goes (.txCommitTick (.staging 2)) (due { obj := 0, idx := 0x3300, sub := 2, value := 60 }) := by
  refine ⟨goes ((h.1 (txs .none id) 88 ?_ ?_ ?_).1 ?_),
    goes ((h.1 (txs .failed id) 88 ?_ ?_ ?_).1 ?_),
    goes ((h.1 (txs .opened id) 88 ?_ ?_ ?_).2.1 ?_),
    goes ((h.1 (txs .opened id) 88 ?_ ?_ ?_).2.2.1 ?_),
    goes ((h.1 { txs .opened id with dcRunning := false } 88 ?_ ?_ ?_).2.2.2.1 ?_ ?_),
    goes ((h.1 (txs .opened (fun x => { x with txAt := 1009999 })) 88 ?_ ?_ ?_).2.2.2.2.1 ?_ ?_ ?_),
    goes ((h.1 (txs .opened (fun x => { x with txAt := 1000001000001 })) 88 ?_ ?_ ?_).2.2.2.2.2.1 ?_ ?_ ?_),
    goes ((h.1 (txs .opened (fun x => { x with txAt := 1010000 })) 88 ?_ ?_ ?_).2.2.2.2.2.2.1 ?_ ?_ ?_ ?_),
    goes ((h.1 txh 88 ?_ ?_ ?_).2.2.2.2.2.2.2.1 ?_ ?_),
    goes ((h.1 (txs .opened id) 88 ?_ ?_ ?_).2.2.2.2.2.2.2.2 ?_),
    goes (h.2.1 (txs .committing id) 88 ?_ ?_ ?_ ?_),
    goes (h.2.2.1 (due { obj := 0, idx := 0x2018, sub := 1, value := 60 }) 2 ?_ ?_ ?_ ?_ ?_),
    goes (h.2.2.2.1 (due { obj := 0, idx := 0x3300, sub := 2, value := 60 }) 2 0x3300 2 1 10000 60 ?_ ?_ ?_ ?_ ?_ ?_ ?_ ?_),
    goes (h.2.2.2.2 (due { obj := 0, idx := 0x3300, sub := 2, value := 60 }) 2 ?_ ?_ ?_ ?_ ?_)⟩ <;> decide +kernel

theorem met_ChillsFillBanks (h : Obligations.ChillsFillBanks) :
    Goes (.chillCmdFire 88) (chl id) ∧
    Goes (.chillCmdFireAt 88) { chl id with dcRunning := false } ∧
    Goes (.chillCmdFireAt 88) (chAt 1009999) ∧
    Goes (.chillCmdFireAt 88) (chAt 1000001000001) ∧
    Goes (.chillCmdFireAt 88) (chAt 1010000) ∧
    Goes (.chillCmdCancelAt 88) (chl (fun c => { c with fireAt := true })) ∧
    Goes (.chillCmdCancelAt 88) (chl id) ∧
    Goes (.chillCmdRelease 88 true) (chl (fun c => { c with bankB := heldB })) ∧
    Goes (.chillCmdRelease 88 false) (chl (fun c => { c with bankB := heldB })) ∧
    Goes .chillTake (chl (fun c => { c with due := 1, bankA := heldB, bankB := heldB, count := 7 })) := by
  refine ⟨goes ((h.1 (chl id) 88 ?_ ?_).1),
    goes ((h.1 { chl id with dcRunning := false } 88 ?_ ?_).2.1 ?_),
    goes ((h.1 (chAt 1009999) 88 ?_ ?_).2.2.1 ?_ ?_),
    goes ((h.1 (chAt 1000001000001) 88 ?_ ?_).2.2.2.1 ?_ ?_),
    goes ((h.1 (chAt 1010000) 88 ?_ ?_).2.2.2.2.1 ?_ ?_ ?_),
    goes ((h.1 (chl (fun c => { c with fireAt := true })) 88 ?_ ?_).2.2.2.2.2.1 ?_),
    goes ((h.1 (chl id) 88 ?_ ?_).2.2.2.2.2.2.1 ?_),
    goes ((h.1 (chl (fun c => { c with bankB := heldB })) 88 ?_ ?_).2.2.2.2.2.2.2.1 true ?_),
    goes ((h.1 (chl (fun c => { c with bankB := heldB })) 88 ?_ ?_).2.2.2.2.2.2.2.2 false ?_),
    goes (h.2 (chl (fun c => { c with due := 1, bankA := heldB, bankB := heldB, count := 7 })) ?_ (.inl ?_))⟩ <;> decide +kernel

theorem met_LogTakesErrors (h : Obligations.LogTakesErrors) :
    Goes .logEntryWrite (logged (rep 0x1101 1 3) []) ∧
    Goes .logEntryWrite (logged (rep 0x1101 1 3) [entry 0x1101 1 3 5]) ∧
    Goes .logEntryWrite (logged (rep 0x1101 1 3) [entry 0x1101 1 4 5]) ∧
    Goes .logEntryWrite (polS (logged (rep 0x1101 1 3) []) 0x1101 0x40000000) ∧
    Goes .logEntryWrite (logged (rep 0x2110 8 3) []) ∧
    Goes .logEntryWrite (logged (rep 0x3601 9 3) [entry 0x1101 1 4 5]) ∧
    Goes .logEntryWrite escS ∧
    Goes .logEntryWrite (polS (logged (rep 0x1101 1 3) []) 0x1101 2) ∧
    Goes .recastCeWindowExpiry (chl (fun c => { c with ceCount := [(3, 4)] })) ∧
    Goes (.logAck 88 8) (logged (rep 0x1101 1 3) []) ∧
    Goes (.logAck 88 5) (logged (rep 0x1101 1 3) []) ∧
    Goes (.logAck 88 7) (logged (rep 0x1101 1 3) []) := by
  refine ⟨goes ((h.1 (logged (rep 0x1101 1 3) []) (rep 0x1101 1 3) [rep 0x3A01 14 88] ?_ ?_).1 ?_),
    goes ((h.1 (logged (rep 0x1101 1 3) [entry 0x1101 1 3 5]) (rep 0x1101 1 3) [rep 0x3A01 14 88] ?_ ?_).1 ?_),
    goes ((h.1 (logged (rep 0x1101 1 3) [entry 0x1101 1 4 5]) (rep 0x1101 1 3) [rep 0x3A01 14 88] ?_ ?_).1 ?_),
    goes ((h.1 (polS (logged (rep 0x1101 1 3) []) 0x1101 0x40000000) (rep 0x1101 1 3) [rep 0x3A01 14 88] ?_ ?_).1 ?_),
    goes ((h.1 (logged (rep 0x2110 8 3) []) (rep 0x2110 8 3) [rep 0x3A01 14 88] ?_ ?_).1 ?_),
    goes ((h.1 (logged (rep 0x3601 9 3) [entry 0x1101 1 4 5]) (rep 0x3601 9 3) [rep 0x3A01 14 88] ?_ ?_).1 ?_),
    goes ((h.1 escS (rep 0x3110 1 0) [rep 0x3A01 14 88] ?_ ?_).2.1 ?_ ?_ ?_ ?_ ?_),
    goes ((h.1 (polS (logged (rep 0x1101 1 3) []) 0x1101 2) (rep 0x1101 1 3) [rep 0x3A01 14 88] ?_ ?_).2.2 ?_ ?_),
    goes (h.2.1 (chl (fun c => { c with ceCount := [(3, 4)] }))),
    goes ((h.2.2 (logged (rep 0x1101 1 3) []) 88 8 ?_ ?_).1 ?_),
    goes ((h.2.2 (logged (rep 0x1101 1 3) []) 88 5 ?_ ?_).2 ?_),
    goes ((h.2.2 (logged (rep 0x1101 1 3) []) 88 7 ?_ ?_).2 ?_)⟩ <;> decide +kernel

theorem met_PinBanksOwnersAndInputs (h : Obligations.PinBanksOwnersAndInputs) :
    Goes (.pinInputChange 5 .high) (modeS 1 false) ∧
    Goes (.pinInputChange 5 .high) (modeS 2 true) ∧
    Goes (.pinInputChange 5 .low) (modeS 3 true) ∧
    Goes (.pinInputChange 5 .high) (modeS 4 false) ∧
    Goes (.pinInputChange 63 .high) (modeS 5 true) ∧
    Goes (.pinInputChange 5 .undriven) (pulled 2 0) ∧
    Goes (.pinInputChange 5 .undriven) (pulled 3 32) ∧
    Goes (.pinInputChange 5 .undriven) (pulled 3 0) ∧
    Goes (.pinInputChange 5 .undriven) up ∧
    Goes (.pinInputChange 5 .undriven) (pulled 1 0) ∧
    Goes (.pinInputChange 5 .undriven) { pulled 0 0 with pins := { PinState.reset with configured := true } } ∧
    Goes (.bankSupplyChange 0 0) (supplied (bankOk 1)) ∧
    Goes (.bankSupplyChange 0 2) (supplied (bankOk 1)) ∧
    Goes (.bankSupplyChange 0 3) (supplied PinBank.reset) ∧
    Goes (.bankSettle 0) (supplied { bankOk 2 with settled := false, outage := true }) ∧
    Goes (.bankSettle 0) (supplied { bankOk 2 with settled := false }) ∧
    Goes (.triggerEdge 2 true) (trg 0xA0000000 0 id) ∧
    Goes (.triggerEdge 2 true) (trg 0xA8000000 0 id) ∧
    Goes (.triggerEdge 2 true) trgHeld := by
  refine ⟨goes (h.1 (modeS 1 false) 5 .high true ?_ ?_),
    goes (h.1 (modeS 2 true) 5 .high true ?_ ?_),
    goes (h.1 (modeS 3 true) 5 .low false ?_ ?_),
    goes (h.1 (modeS 4 false) 5 .high true ?_ ?_),
    goes (h.1 (modeS 5 true) 63 .high true ?_ ?_),
    goes (h.1 (pulled 2 0) 5 .undriven true ?_ ?_),
    goes (h.1 (pulled 3 32) 5 .undriven true ?_ ?_),
    goes (h.1 (pulled 3 0) 5 .undriven false ?_ ?_),
    goes (h.1 up 5 .undriven false ?_ ?_),
    goes (h.2.1 (pulled 1 0) 5 ?_ ?_ ?_ ?_),
    goes (h.2.1 { pulled 0 0 with pins := { PinState.reset with configured := true } } 5 ?_ ?_ ?_ ?_),
    goes (h.2.2.1 (supplied (bankOk 1)) 0 0 ?_ ?_ ?_),
    goes (h.2.2.1 (supplied (bankOk 1)) 0 2 ?_ ?_ ?_),
    goes (h.2.2.1 (supplied PinBank.reset) 0 3 ?_ ?_ ?_),
    goes (h.2.2.2.1 (supplied { bankOk 2 with settled := false, outage := true }) 0 ?_ ?_),
    goes (h.2.2.2.1 (supplied { bankOk 2 with settled := false }) 0 ?_ ?_),
    goes (h.2.2.2.2 (trg 0xA0000000 0 id) 2 true ?_ ?_ ?_ ?_ ?_),
    goes (h.2.2.2.2 (trg 0xA8000000 0 id) 2 true ?_ ?_ ?_ ?_ ?_),
    goes (h.2.2.2.2 trgHeld 2 true ?_ ?_ ?_ ?_ ?_)⟩ <;> decide +kernel

theorem met_PinPeripheralsTransfer (h : Obligations.PinPeripheralsTransfer) :
    Goes (.i2cXfer 88 1 200 2 9) (i2c1 id) ∧
    Goes (.i2cXfer 88 1 200 2 9) (i2c1 (fun p => { p with busy := true })) ∧
    Goes (.i2cTransferDone 1 2 [7]) (i2c1 (fun p => { p with busy := true })) ∧
    Goes (.spiXfer 88 1 0) (spi1 id) ∧
    Goes (.spiXfer 88 1 257) (spi1 id) ∧
    Goes (.spiXfer 88 1 256) (spi1 id) ∧
    Goes (.spiTransferDone 1 [8]) (spi1 (fun p => { p with busy := true })) ∧
    Goes (.uartTx 88 1 (List.replicate 257 7)) (uart1 0) ∧
    Goes (.uartTx 88 1 (List.replicate 256 7)) (uart1 0) ∧
    Goes (.uartRx 88 1) (uart1 6) ∧
    Goes (.uartRx 127 1) (uart1 6) ∧
    Goes (.uartRxByte 1 9) (uart1 255) ∧
    Goes (.uartRxByte 1 9) (uart1 256) ∧
    Goes (.captureEdge 1 true) (pin [(0x2599, 1, 0x10000000)] id) ∧
    Goes (.trigFire 88 2 1) (pin [(0x2592, 1, 0x20000000)] id) ∧
    Goes (.trigFire 88 2 1) (pin [(0x2592, 1, 0)] id) ∧
    Goes (.stbFire 88 63) (pin [(0x25A0, 3, 0)] id) ∧
    Goes (.strobeEnd 2) (pin [] (fun p => { p with pulsing := 6 })) := by
  refine ⟨goes ((h.1 (i2c1 id) 88 1 200 2 9 ?_ ?_ ?_).1 ?_ ?_),
    goes ((h.1 (i2c1 (fun p => { p with busy := true })) 88 1 200 2 9 ?_ ?_ ?_).2 (.inr ?_)),
    goes (h.2.1 (i2c1 (fun p => { p with busy := true })) 1 2 [7] ?_ ?_ ?_),
    goes ((h.2.2.1 (spi1 id) 88 1 0 ?_ ?_ ?_).1 ?_),
    goes ((h.2.2.1 (spi1 id) 88 1 257 ?_ ?_ ?_).2.1 ?_),
    goes ((h.2.2.1 (spi1 id) 88 1 256 ?_ ?_ ?_).2.2 ?_ ?_ ?_ ?_),
    goes (h.2.2.2.1 (spi1 (fun p => { p with busy := true })) 1 [8] ?_ ?_),
    goes ((h.2.2.2.2.1 (uart1 0) 88 1 (List.replicate 257 7) ?_ ?_ ?_).1 ?_),
    goes ((h.2.2.2.2.1 (uart1 0) 88 1 (List.replicate 256 7) ?_ ?_ ?_).2 ?_ ?_),
    goes (h.2.2.2.2.2.1 (uart1 6) 88 1 ?_ ?_ ?_),
    goes (h.2.2.2.2.2.1 (uart1 6) 127 1 ?_ ?_ ?_),
    goes (h.2.2.2.2.2.2.1 (uart1 255) 1 9 ?_ ?_),
    goes (h.2.2.2.2.2.2.1 (uart1 256) 1 9 ?_ ?_),
    goes (h.2.2.2.2.2.2.2.1 (pin [(0x2599, 1, 0x10000000)] id) 1 true ?_ ?_ (.inr (.inl ?_))),
    goes (h.2.2.2.2.2.2.2.2.1 (pin [(0x2592, 1, 0x20000000)] id) 88 2 1 ?_ ?_ ?_ ?_),
    goes (h.2.2.2.2.2.2.2.2.1 (pin [(0x2592, 1, 0)] id) 88 2 1 ?_ ?_ ?_ ?_),
    goes (h.2.2.2.2.2.2.2.2.2.1 (pin [(0x25A0, 3, 0)] id) 88 0x3F ?_ ?_ ?_),
    goes (h.2.2.2.2.2.2.2.2.2.2 (pin [] (fun p => { p with pulsing := 6 })) 2 ?_ ?_)⟩ <;> decide +kernel

theorem met_EtherCatStates (h : Obligations.EtherCatStatesAndData) :
    Goes .alRequestInit (al .init id) ∧
    Goes .alRequestInit (al .op id) ∧
    Goes .alRequestInit (al .safeop id) ∧
    Goes (.alRequestPreop 4096 64 20416 64) (al .init id) ∧
    Goes (.alRequestPreop 4096 64 20417 64) (al .init id) ∧
    Goes (.alRequestPreop 4096 64 20417 64) (al .op id) ∧
    Goes (.alRequestPreop 4096 64 20417 64) (al .preop id) ∧
    Goes (.alRequestPreop 4096 64 20417 64) (al .boot id) ∧
    Goes (.alRequestSafeop 4096 8 8192 12) (mapd (al .preop id)) ∧
    Goes (.alRequestSafeop 4096 9 8192 12) (mapd (al .preop id)) ∧
    Goes (.alRequestSafeop 4096 8 8192 11) (mapd (al .preop id)) ∧
    Goes (.alRequestSafeop 4096 8 8192 11) (mapd (al .safeop id)) ∧
    Goes (.alRequestSafeop 4096 8 8192 11) (mapd (al .op id)) ∧
    Goes .alRequestOp (mapd (al .safeop (fun e => { e with outputsValid := true }))) ∧
    Goes .alRequestOp (al .safeop id) ∧
    Goes .alRequestOp (al .op id) ∧
    Goes .alRequestOp (al .preop id) ∧
    Goes .alRequestBoot { al .init id with loader := Loader.reset } ∧
    Goes .alRequestBoot (al .init id) ∧
    Goes .alRequestBoot (al .boot id) ∧
    Goes .alRequestBoot (al .op id) ∧
    Goes .sm2Watchdog (al .op (fun e => { e with outputsValid := true })) := by
  refine ⟨goes ((h.1 (al .init id) ?_).1 ?_),
    goes ((h.1 (al .op id) ?_).2.1 ?_),
    goes ((h.1 (al .safeop id) ?_).2.1 ?_),
    goes (((h.1 (al .init id) ?_).2.2.1 0x1000 64 0x4FC0 64).1 ?_ ?_ ?_),
    goes (((h.1 (al .init id) ?_).2.2.1 0x1000 64 0x4FC1 64).2.1 ?_ ?_),
    goes (((h.1 (al .op id) ?_).2.2.1 0x1000 64 0x4FC1 64).2.2.1 (.inr ?_)),
    goes (((h.1 (al .preop id) ?_).2.2.1 0x1000 64 0x4FC1 64).2.2.2.1 ?_),
    goes (((h.1 (al .boot id) ?_).2.2.1 0x1000 64 0x4FC1 64).2.2.2.2.1 ?_),
    goes (((h.1 (mapd (al .preop id)) ?_).2.2.1 0x1000 8 0x2000 12).2.2.2.2.2.1 ?_ ?_ ?_),
    goes (((h.1 (mapd (al .preop id)) ?_).2.2.1 0x1000 9 0x2000 12).2.2.2.2.2.2.1 ?_ ?_),
    goes (((h.1 (mapd (al .preop id)) ?_).2.2.1 0x1000 8 0x2000 11).2.2.2.2.2.2.2.1 ?_ ?_ ?_),
    goes (((h.1 (mapd (al .safeop id)) ?_).2.2.1 0x1000 8 0x2000 11).2.2.2.2.2.2.2.2.1 ?_),
    goes (((h.1 (mapd (al .op id)) ?_).2.2.1 0x1000 8 0x2000 11).2.2.2.2.2.2.2.2.2 (.inr (.inl ?_))),
    goes ((h.1 (mapd (al .safeop (fun e => { e with outputsValid := true }))) ?_).2.2.2.1 ?_ ?_),
    goes ((h.1 (al .safeop id) ?_).2.2.2.2.1 ?_ ?_),
    goes ((h.1 (al .op id) ?_).2.2.2.2.2.1 ?_),
    goes ((h.1 (al .preop id) ?_).2.2.2.2.2.2.1 (.inr (.inl ?_))),
    goes ((h.1 { al .init id with loader := Loader.reset } ?_).2.2.2.2.2.2.2.1 ?_ ?_),
    goes ((h.1 (al .init id) ?_).2.2.2.2.2.2.2.2.1 ?_ ?_),
    goes ((h.1 (al .boot id) ?_).2.2.2.2.2.2.2.2.2.1 ?_),
    goes ((h.1 (al .op id) ?_).2.2.2.2.2.2.2.2.2.2.1 ?_ ?_),
    goes ((h.1 (al .op (fun e => { e with outputsValid := true })) ?_).2.2.2.2.2.2.2.2.2.2.2 ?_)⟩ <;> decide +kernel

theorem met_ProcessDataMailboxAndClock (h : Obligations.EtherCatStatesAndData) :
    Goes (.rxpdoExchange [1, 2, 3, 4, 5, 6, 7, 8] false) (mapd (al .op id)) ∧
    Goes (.rxpdoExchange [1, 2, 3, 4, 5, 6, 7, 8] false) (mapd (al .safeop id)) ∧
    Goes (.rxpdoExchange [1, 2] true) (mapd (al .op id)) ∧
    Goes .txpdoSample (mapd (al .op id)) ∧
    Goes (.dcOffsetWrite 77) (al .op id) ∧
    Goes .sync1Event ((al .op id).putSetting 0x2300 3 0x04000000) ∧
    Goes (.mailboxUnsupported 4) (al .op id) ∧
    Goes .mailboxInRead (al .op (fun e => { e with mailFull := true })) ∧
    Goes .mailboxInRead (al .op (fun e => { e with mailFull := true, mails := [⟨0x3A01, 0, 5⟩, ⟨0x3A02, 0, 6⟩] })) ∧
    Goes (.ecatLinkChange 1 true) (al .op (fun e => { e with links := 1 })) ∧
    Goes (.ecatLinkChange 0 false) (al .op (fun e => { e with links := 3 })) := by
  refine ⟨goes (h.2.1 (mapd (al .op id)) [1, 2, 3, 4, 5, 6, 7, 8] (.inr ?_) ?_ ?_),
    goes (h.2.1 (mapd (al .safeop id)) [1, 2, 3, 4, 5, 6, 7, 8] (.inl ?_) ?_ ?_),
    ⟨_, h.2.2.1 (mapd (al .op id)) [1, 2]⟩,
    goes (h.2.2.2.1 (mapd (al .op id)) (.inr ?_)),
    goes (h.2.2.2.2.1 (al .op id) 77 ?_),
    goes (h.2.2.2.2.2.1 ((al .op id).putSetting 0x2300 3 0x04000000) ?_ ?_),
    goes (h.2.2.2.2.2.2.1 (al .op id) 4 ?_ ?_),
    goes (h.2.2.2.2.2.2.2.1 (al .op (fun e => { e with mailFull := true })) ?_ ?_),
    goes (h.2.2.2.2.2.2.2.1 (al .op (fun e => { e with mailFull := true, mails := [⟨0x3A01, 0, 5⟩, ⟨0x3A02, 0, 6⟩] })) ?_ ?_),
    goes (h.2.2.2.2.2.2.2.2 (al .op (fun e => { e with links := 1 })) 1 true ?_ ?_),
    goes (h.2.2.2.2.2.2.2.2 (al .op (fun e => { e with links := 3 })) 0 false ?_ ?_)⟩ <;> decide +kernel

theorem met_ClocksSuppliesAndHeat (h : Obligations.ClocksSuppliesAndHeat) :
    Goes (.powerOnResetRelease 2 true false) State.reset ∧
    Goes (.pllLock []) coldDev ∧
    Goes (.pllLock [3]) { busyDev with power := { busyDev.power with backupOsc := true, pllLocked := false } } ∧
    Goes .pllLockLoss busyDev ∧
    Goes (.pwrgoodRise 1) (pw (fun p => { p with doms := [], good1 := false })) ∧
    Goes (.pwrgoodRise 2) (pw (fun p => { p with doms := [(73, dm .failed false)], good2 := false, wanted := BitVec.ofNat 88 (2 ^ 73 + 2 ^ 80) })) ∧
    Goes (.pwrgoodFall 0 []) (hasKeys busyDev) ∧
    Goes (.pwrgoodFall 1 []) busyDev ∧
    Goes (.pwrgoodFall 2 []) busyDev ∧
    Goes (.thermSample 1680) busyDev ∧
    Goes (.thermSample 1679) busyDev ∧
    Goes (.thermSample 1600) (pw (fun p => { p with throttling := true })) ∧
    Goes (.thermSample 1601) (pw (fun p => { p with throttling := true })) ∧
    Goes (.thermSample 2000) { busyDev with power := { busyDev.power with throttling := true } } ∧
    Goes (.thermSample 2000) busyDev := by
  refine ⟨goes (h.1 State.reset 2 true false ?_),
    goes ((h.2.1 coldDev [] ?_ ?_).1 ?_ ?_ ?_),
    goes ((h.2.1 { busyDev with power := { busyDev.power with backupOsc := true, pllLocked := false } } [3] ?_ ?_).2 ?_ ?_),
    goes (h.2.2.1 busyDev ?_),
    goes ((h.2.2.2.1 (pw (fun p => { p with doms := [], good1 := false })) ?_ (.inl ?_)).1 ?_ ?_),
    goes ((h.2.2.2.1 (pw (fun p => { p with doms := [(73, dm .failed false)], good2 := false, wanted := BitVec.ofNat 88 (2 ^ 73 + 2 ^ 80) })) ?_ (.inl ?_)).2 ?_),
    goes ((h.2.2.2.2.1 (hasKeys busyDev) []).1),
    goes ((h.2.2.2.2.1 busyDev []).2.1 ?_ ?_ ?_),
    goes ((h.2.2.2.2.1 busyDev []).2.2 ?_ ?_),
    goes (h.2.2.2.2.2 busyDev 1680 ?_),
    goes (h.2.2.2.2.2 busyDev 1679 ?_),
    goes (h.2.2.2.2.2 (pw (fun p => { p with throttling := true })) 1600 ?_),
    goes (h.2.2.2.2.2 (pw (fun p => { p with throttling := true })) 1601 ?_),
    goes (h.2.2.2.2.2 { busyDev with power := { busyDev.power with throttling := true } } 2000 ?_),
    goes (h.2.2.2.2.2 busyDev 2000 ?_)⟩ <;> decide +kernel

theorem met_PowerDomainsMove (h : Obligations.PowerDomainsMove) :
    Goes (.pwrCmdOn 88 87) up ∧
    Goes (.pwrCmdOff 88 87) up ∧
    Goes (.pwrCmdOn 88 86) (setDom 86 (dm .off false) up) ∧
    Goes (.pwrCmdOn 88 73) (setDom 73 (dm .failed false) up) ∧
    Goes (.pwrCmdOn 88 73) up ∧
    Goes (.pwrCmdOff 88 73) (ports .opened up) ∧
    Goes (.pwrCmdOff 88 73) (vl vact) ∧
    Goes (.domainSwitchGrant 9) (setDom 9 (dm .ramping false) up) ∧
    Goes (.domainSwitchGrant 9) (setDom 9 (dm .ramping false) (pw (fun p => { p with lastGrant := some 4200 }))) ∧
    Goes (.domainSwitchGrant 9) (setDom 9 (dm .ramping false) (pw (fun p => { p with lastGrant := some 4201 }))) ∧
    Goes (.domainRampTimeout 9) (setDom 9 (dm .ramping true) up) ∧
    Goes (.domainSettled 9) (setDom 9 (dm .ramping true) up) ∧
    Goes (.domainSettled 73) (setDom 73 (dm .ramping true) up) ∧
    Goes (.domainSettled 80) (setDom 80 (dm .ramping true) up) ∧
    Goes (.domainSettled 86) (setDom 86 (dm .ramping true) up) ∧
    Goes (.domainSettled 87) (setDom 87 (dm .ramping true) up) ∧
    Goes (.domainPowerOff 0) (ports .closed (setDom 0 (dm .closing false) busyDev)) ∧
    Goes (.domainPowerOff 73) (ports .closed (setDom 73 (dm .closing false) busyDev)) ∧
    Goes (.domainPowerOff 86) (ports .closed (setDom 86 (dm .closing false) busyDev)) ∧
    Goes (.domainPowerOff 87) (holdS .entering (pw (fun p => { p with doms := [(87, dm .closing false)] }))) := by
  refine ⟨goes (((h.1 up 88 87 ?_ ?_).1 ?_).1),
    goes (((h.1 up 88 87 ?_ ?_).1 ?_).2),
    goes ((h.1 (setDom 86 (dm .off false) up) 88 86 ?_ ?_).2.1 ?_ ?_ ?_ (.inl ?_)),
    goes ((h.1 (setDom 73 (dm .failed false) up) 88 73 ?_ ?_).2.1 ?_ ?_ ?_ (.inr ?_)),
    goes ((h.1 up 88 73 ?_ ?_).2.2.1 ?_ (.inr (.inr ⟨?_, ?_⟩))),
    goes ((h.1 (ports .opened up) 88 73 ?_ ?_).2.2.2.1 ?_ ?_ ?_ ?_),
    goes ((h.1 (vl vact) 88 73 ?_ ?_).2.2.2.2 ?_ (.inr (.inr ?_))),
    goes ((h.2.1 (setDom 9 (dm .ramping false) up) 9 ?_ ?_ ?_).1 (.inl ?_)),
    goes ((h.2.1 (setDom 9 (dm .ramping false) (pw (fun p => { p with lastGrant := some 4200 }))) 9 ?_ ?_ ?_).1 (.inr ⟨4200, ?_, ?_⟩)),
    ⟨_, (h.2.1 (setDom 9 (dm .ramping false) (pw (fun p => { p with lastGrant := some 4201 }))) 9 ?_ ?_ ?_).2 4201 ?_ ?_⟩,
    goes ((h.2.2.1 (setDom 9 (dm .ramping true) up) 9 ?_ ?_).1),
    goes ((h.2.2.1 (setDom 9 (dm .ramping true) up) 9 ?_ ?_).2),
    goes ((h.2.2.1 (setDom 73 (dm .ramping true) up) 73 ?_ ?_).2),
    goes ((h.2.2.1 (setDom 80 (dm .ramping true) up) 80 ?_ ?_).2),
    goes ((h.2.2.1 (setDom 86 (dm .ramping true) up) 86 ?_ ?_).2),
    goes ((h.2.2.1 (setDom 87 (dm .ramping true) up) 87 ?_ ?_).2),
    goes ((h.2.2.2 (ports .closed (setDom 0 (dm .closing false) busyDev)) 0 ?_).1 ?_ ?_),
    goes ((h.2.2.2 (ports .closed (setDom 73 (dm .closing false) busyDev)) 73 ?_).1 ?_ ?_),
    goes ((h.2.2.2 (ports .closed (setDom 86 (dm .closing false) busyDev)) 86 ?_).1 ?_ ?_),
    goes ((h.2.2.2 (holdS .entering (pw (fun p => { p with doms := [(87, dm .closing false)] }))) 87 ?_).2 ?_ ?_)⟩ <;> decide +kernel

theorem met_ResetsAndHold (h : Obligations.ResetsAndHold) :
    Goes (.rstCmdCore 88 [3]) (hasKeys busyDev) ∧
    Goes (.rstCmdCore 127 [3]) (holdS .held (pw (fun p => { p with doms := [] }))) ∧
    Goes (.rstCmdMgmt 88) (hasKeys busyDev) ∧
    Goes .mgmtAutoReset (hasKeys stopped') ∧
    Goes (.holdCmdEnter 88) (ctc onl) ∧
    Goes (.holdCmdEnter 88) busyDev ∧
    Goes (.holdCmdExit 127) (holdS .held (pw (fun p => { p with doms := [] }))) ∧
    Goes (.holdCmdExit 88) up ∧
    Goes .dimmPwrWaitExpiry { ctc { onl with held := true, wasOnline := true } with power := { up.power with dimmWait := true } } ∧
    Goes .dimmPwrWaitExpiry { ctc { onl with held := true, wasOnline := true } with power := { up.power with dimmWait := true }, loader := Loader.reset } := by
  refine ⟨goes ((h.1 (hasKeys busyDev) 88 [3] ?_ ?_).1 ?_),
    goes ((h.1 (holdS .held (pw (fun p => { p with doms := [] }))) 127 [3] ?_ ?_).2.1 ?_),
    goes ((h.1 (hasKeys busyDev) 88 [3] ?_ ?_).2.2 ?_),
    goes (h.2.1 (hasKeys stopped') ?_ ?_),
    goes ((h.2.2.1 (ctc onl) 88 ?_ ?_).1 ?_),
    goes ((h.2.2.1 busyDev 88 ?_ ?_).2.1 (.inr (.inl ⟨1, ?_, ?_⟩))),
    goes ((h.2.2.1 (holdS .held (pw (fun p => { p with doms := [] }))) 127 ?_ ?_).2.2.1 ?_ ?_ ?_ ?_ ?_ ?_),
    goes ((h.2.2.1 up 88 ?_ ?_).2.2.2 (.inl ?_)),
    goes (h.2.2.2 { ctc { onl with held := true, wasOnline := true } with power := { up.power with dimmWait := true } } ?_),
    goes (h.2.2.2 { ctc { onl with held := true, wasOnline := true } with power := { up.power with dimmWait := true }, loader := Loader.reset } ?_)⟩ <;> decide +kernel

theorem met_QuietErrorsAreCountedOnly (h : Obligations.QuietErrorsAreCountedOnly) :
    (report (rep 0x1101 1 3) quietS).chill.class1 = quietS.chill.class1 + 1 ∧
    Goes .logEntryWrite quietS := by
  refine ⟨(h quietS (rep 0x1101 1 3) ?_ ?_).1,
    goes ((h quietS (rep 0x1101 1 3) ?_ ?_).2 [rep 0x3A01 14 88] ?_)⟩ <;> decide +kernel

theorem met_StuckI2cTransferEnds (h : Obligations.StuckI2cTransferEnds) :
    Goes (.i2cStuck 1) (i2c1 (fun p => { p with busy := true })) := by
  refine goes (h (i2c1 (fun p => { p with busy := true })) 1 ?_ ?_) <;> decide +kernel


theorem met_CellFrame (h : Obligations.CellFaultsAndFrame) :
    ∃ t, exec (.cellAdd 0 9 .clean) one2 = .next t ∧ ∀ i, i ≠ one2.flaskNode 0 → t.gate i = one2.gate i :=
  ⟨_, rfl, (h.2 one2 _ 0 9 (0x02, .cellAdd) (.tail _ (.head _)) rfl).2.2.1⟩

/-- The staged write of the transaction above applies. -/
theorem met_TransactionApplies :
    (applyAll ((due { obj := 0, idx := 0x2018, sub := 1, value := 60 }).session 2).path ((due { obj := 0, idx := 0x2018, sub := 1, value := 60 }).session 2).staged
      (due { obj := 0, idx := 0x2018, sub := 1, value := 60 })).toBool = true := by decide +kernel

theorem met_EmptyQueuePassesPourTick (h : Obligations.EmptyQueuePassesPourTick) :
    (∃ t, step up = .next t ∧ t.pending = []) ∧ ∃ t, step State.reset = .next t ∧ t.pending = [] :=
  ⟨let ⟨t, a, b, _⟩ := h up (by decide +kernel); ⟨t, a, b⟩, let ⟨t, a, b, _⟩ := h State.reset (by decide +kernel); ⟨t, a, b⟩⟩

theorem met_EveryStepKeepsInvariant (h : Obligations.EveryStepKeepsInvariant) : ∃ t, step State.reset = .next t ∧ Inv t :=
  ⟨_, rfl, h State.reset _ (by decide +kernel) rfl⟩

theorem met_SwitchesCloseFiveMicrosecondsApart (h : Obligations.SwitchesCloseFiveMicrosecondsApart) :
    ∃ t, exec (.domainSwitchGrant 9) (setDom 9 (dm .ramping false) up) = .next t ∧ t.power.lastGrant = some up.power.pour :=
  ⟨_, rfl, ((h (.domainSwitchGrant 9) (setDom 9 (dm .ramping false) up) _ (by decide +kernel) rfl).1 9 (by decide +kernel) (by decide +kernel)).2.2.1⟩

end Sys2Proof.Machine.Wit
end

/-! # The context engine at work (R18, R120-R126, R578)

What words in flight may do to a flask while the engine serves a request, what it hands to its gate, and from these the statement about
CTX_SPILL, CTX_SPILL_COMPLETE, CTX_FILL and CTX_FILL_COMPLETE. -/

namespace Sys2Proof.Machine

/-! ### Slots of a flask -/

@[simp] theorem Flask.modSlot_slot_same (f : Flask) (n : Nat) (g : Slot → Slot) : (f.modSlot n g).slot n = g (f.slot n) := by
  simp [Flask.modSlot, Flask.slot]

theorem Flask.modSlot_slot_ne (f : Flask) (n m : Nat) (g : Slot → Slot) (h : m ≠ n) : (f.modSlot n g).slot m = f.slot m :=
  Tab.get_modify_ne _ _ _ _ _ h

@[simp] theorem Flask.emptySlot_eng (f : Flask) (n : Nat) : (f.emptySlot n).eng = f.eng := rfl

/-- An emptied slot is EMPTY. -/
@[simp] theorem Flask.emptySlot_st (f : Flask) (n : Nat) : ((f.emptySlot n).slot n).st = .empty := by
  simp [Flask.emptySlot, Flask.slot, Flask.modSlot]

theorem Flask.emptySlot_slot_ne (f : Flask) (n m : Nat) (h : m ≠ n) : (f.emptySlot n).slot m = f.slot m := by
  simp [Flask.emptySlot, Flask.slot, Flask.modSlot, Tab.get_modify_ne, h]

/-! ### Words that move within contexts -/

/-- Words of the slot's context may have moved; what the slot holds, and in which state, stays, and what is to be written stays so (R116). -/
def Slot.WordsMoved (x y : Slot) : Prop :=
  y = { x with moved := y.moved, ctx := y.ctx } ∧ (x.moved = true → y.moved = true)

/-- Words of the flask's contexts may have moved, in its present cycle and under its boundary credits; the rest of the flask stays. -/
def Flask.WordsMoved (f g : Flask) : Prop :=
  g = { f with slots := g.slots, cyc := g.cyc, credits := g.credits } ∧ ∀ n, (f.slot n).WordsMoved (g.slot n)

theorem Slot.WordsMoved.refl (x : Slot) : x.WordsMoved x := ⟨rfl, id⟩

theorem Slot.WordsMoved.trans {x y z : Slot} (h : x.WordsMoved y) (k : y.WordsMoved z) : x.WordsMoved z :=
  ⟨by rw [k.1, h.1], k.2 ∘ h.2⟩

theorem Slot.WordsMoved.st {x y : Slot} (h : x.WordsMoved y) : y.st = x.st := by rw [h.1]
theorem Slot.WordsMoved.ctxId {x y : Slot} (h : x.WordsMoved y) : y.ctxId = x.ctxId := by rw [h.1]
theorem Slot.WordsMoved.faulted {x y : Slot} (h : x.WordsMoved y) : y.faulted = x.faulted := by rw [h.1]
theorem Slot.WordsMoved.dirty {x y : Slot} (h : x.WordsMoved y) : y.dirty = x.dirty := by rw [h.1]

theorem Flask.WordsMoved.refl (f : Flask) : f.WordsMoved f := ⟨rfl, fun _ => .refl _⟩

theorem Flask.WordsMoved.trans {f g h : Flask} (a : f.WordsMoved g) (b : g.WordsMoved h) : f.WordsMoved h :=
  ⟨by rw [b.1, a.1], fun n => (a.2 n).trans (b.2 n)⟩

theorem Flask.WordsMoved.eng {f g : Flask} (h : f.WordsMoved g) : g.eng = f.eng := by rw [h.1]
theorem Flask.WordsMoved.defined {f g : Flask} (h : f.WordsMoved g) : g.defined = f.defined := by rw [h.1]
theorem Flask.WordsMoved.fills {f g : Flask} (h : f.WordsMoved g) : g.fills = f.fills := by rw [h.1]
theorem Flask.WordsMoved.cmdResult {f g : Flask} (h : f.WordsMoved g) : g.cmdResult = f.cmdResult := by rw [h.1]

/-- Which slot names a context does not change. -/
theorem Flask.WordsMoved.slotOf {f g : Flask} (h : f.WordsMoved g) (x : Nat) : g.slotOf x = f.slotOf x := by
  simp only [Flask.slotOf, (h.2 _).st, (h.2 _).ctxId]

/-- What had to be written still has to be. -/
theorem Flask.WordsMoved.needsWrite {f g : Flask} (h : f.WordsMoved g) {n : Nat} (w : needsWrite f n = true) : needsWrite g n = true := by
  simp only [Sys2Proof.Machine.needsWrite, Bool.or_eq_true, (h.2 n).dirty] at w ⊢
  exact w.imp_right (h.2 n).2

/-- A change of the words of one context moves words. -/
theorem Flask.modCtx_wordsMoved (f : Flask) (n : Nat) (g : Ctx → Ctx) : f.WordsMoved (f.modCtx n g) := by
  refine ⟨rfl, fun m => ?_⟩
  by_cases e : m = n
  · subst e
    rw [Flask.modCtx, Flask.modSlot_slot_same]
    exact ⟨rfl, fun _ => rfl⟩
  · rw [Flask.modCtx, f.modSlot_slot_ne n m _ e]
    exact .refl _

/-! ### Words that cross between flasks -/

/-- Nothing but words of contexts has moved: the flasks' engines, slots and queues stand as they did, and so does the machine around them. -/
def OnlyWordsMoved (s t : State) : Prop := t = { s with flasks := t.flasks } ∧ ∀ p, (s.flask p).WordsMoved (t.flask p)

theorem OnlyWordsMoved.refl (s : State) : OnlyWordsMoved s s := ⟨rfl, fun _ => .refl _⟩

theorem OnlyWordsMoved.trans {s t u : State} (h : OnlyWordsMoved s t) (k : OnlyWordsMoved t u) : OnlyWordsMoved s u :=
  ⟨by rw [k.1, h.1], fun p => (h.2 p).trans (k.2 p)⟩

/-- A change of one flask that moves words of its contexts alone. -/
theorem modFlask_wordsMoved (s : State) (p : Nat) (g : Flask → Flask) (h : ∀ f : Flask, f.WordsMoved (g f)) (q : Nat) :
    (s.flask q).WordsMoved ((s.modFlask p g).flask q) := by
  by_cases e : q = p
  · subst e; rw [State.modFlask_same]; exact h _
  · rw [State.modFlask_ne s p g q e]; exact .refl _

theorem OnlyWordsMoved.modFlask {s t : State} (a : OnlyWordsMoved s t) (p : Nat) {g : Flask → Flask} (h : ∀ f : Flask, f.WordsMoved (g f)) :
    OnlyWordsMoved s (t.modFlask p g) := a.trans ⟨rfl, modFlask_wordsMoved t p g h⟩

theorem onlyWordsMoved_foldl {α : Type} {step : State → α → State} (h : ∀ s a, OnlyWordsMoved s (step s a)) :
    ∀ (l : List α) (s : State), OnlyWordsMoved s (l.foldl step s)
  | [], s => .refl s
  | a :: l, s => (h s a).trans (onlyWordsMoved_foldl h l (step s a))

theorem onlyWordsMoved_takeBoundary (p sl : Nat) (s : State) : OnlyWordsMoved s (takeBoundary p sl s) := by
  unfold takeBoundary
  dsimp only
  split
  · exact (OnlyWordsMoved.refl s).modFlask p fun f => f.modCtx_wordsMoved _ _
  · exact ((OnlyWordsMoved.refl s).modFlask p fun f => f.modCtx_wordsMoved _ _).modFlask _ fun f => ⟨rfl, fun _ => .refl _⟩

theorem onlyWordsMoved_takeReg (p : Nat) (s : State) (r : Nat) : OnlyWordsMoved s (takeReg p s r) := by
  unfold takeReg
  split
  · exact onlyWordsMoved_takeBoundary p _ s
  · exact (OnlyWordsMoved.refl s).modFlask p fun f => f.modCtx_wordsMoved _ _

/-- A word that crosses a lane leaves its register and uses a credit (R113). -/
theorem onlyWordsMoved_laneLeft (p sl r : Nat) (g : Flask → Tab Nat) (s : State) :
    OnlyWordsMoved s ((takeReg p (markActed p (140 + sl) s) r).modFlask p (fun f => { f with credits := g f })) := by
  have marked : OnlyWordsMoved s (markActed p (140 + sl) s) := (OnlyWordsMoved.refl s).modFlask p fun f => ⟨rfl, fun _ => .refl _⟩
  exact (marked.trans (onlyWordsMoved_takeReg p _ r)).modFlask p fun f => ⟨rfl, fun _ => .refl _⟩

/-- It joins an input buffer of the facing flask (R113, R116). -/
theorem onlyWordsMoved_crossLane (p sl : Nat) (s : State) : OnlyWordsMoved s (crossLane p sl s) := by
  have left := onlyWordsMoved_laneLeft p sl (laneCell sl)
    (fun f => Tab.modify 4 f.credits (creditKey ((s.flask p).slot (s.flask p).cur).ctxId sl) (fun n => n - 1)) s
  unfold crossLane
  dsimp only
  split
  · exact left
  · split
    · exact left
    · exact left.modFlask _ fun f => f.modCtx_wordsMoved _ _

theorem onlyWordsMoved_crossDue (p : Nat) (s : State) : OnlyWordsMoved s (crossDue p s) :=
  onlyWordsMoved_foldl (fun s sl => onlyWordsMoved_crossLane p sl s) _ s

/-- The words that are due into a flask leave its engine and the machine around the flasks as they are (R34). -/
theorem onlyWordsMoved_crossInto (p : Nat) (s : State) : OnlyWordsMoved s (crossInto p s) :=
  onlyWordsMoved_foldl (fun s k => onlyWordsMoved_crossDue (s.physOf k) s) _ s

/-- What a record's place and the flask's gate depend on does not move with words. -/
theorem OnlyWordsMoved.recordBase {s t : State} (h : OnlyWordsMoved s t) (p x : Nat) : t.recordBase p x = s.recordBase p x := by
  rw [h.1]; rfl

theorem OnlyWordsMoved.flaskNode {s t : State} (h : OnlyWordsMoved s t) (p : Nat) : t.flaskNode p = s.flaskNode p := by rw [h.1]; rfl

/-! ### What stays around flasks and gates -/

/-- Nothing of the machine has changed but flasks and the network. -/
def OnlyFlasksAndNet (s t : State) : Prop := t = { s with flasks := t.flasks, net := t.net }

theorem OnlyFlasksAndNet.refl (s : State) : OnlyFlasksAndNet s s := rfl

theorem OnlyFlasksAndNet.trans {s t u : State} (h : OnlyFlasksAndNet s t) (k : OnlyFlasksAndNet t u) : OnlyFlasksAndNet s u := by
  unfold OnlyFlasksAndNet at *; rw [k, h]

theorem OnlyFlasksAndNet.modFlask {s t : State} (h : OnlyFlasksAndNet s t) (p : Nat) (g : Flask → Flask) : OnlyFlasksAndNet s (t.modFlask p g) :=
  h.trans rfl

theorem OnlyFlasksAndNet.dropAnswers {s t : State} (h : OnlyFlasksAndNet s t) (p : Nat) (mark : Nat → Nat) :
    OnlyFlasksAndNet s (dropAnswers p mark t) := h.trans rfl

theorem OnlyFlasksAndNet.engDone {s t : State} (h : OnlyFlasksAndNet s t) (p : Nat) (r : BitVec 8) : OnlyFlasksAndNet s (engDone p r t) :=
  h.trans rfl

theorem OnlyWordsMoved.onlyFlasksAndNet {s t : State} (h : OnlyWordsMoved s t) : OnlyFlasksAndNet s t := by
  unfold OnlyFlasksAndNet; rw [h.1]

/-! ### Requests that the engine hands to its gate -/

@[simp] theorem dropAnswers_flask (p q : Nat) (mark : Nat → Nat) (s : State) : (dropAnswers p mark s).flask q = s.flask q := rfl

/-- A request of the engine as it waits at its gate: in the engine's traffic and ordering class, with the mark of its line (R125, R394). -/
def enginePacket (node who : Nat) (b : Body) : Packet := { mkPacket node unresolved 1 1 b with who := who }

theorem requestBy_waiting (s : State) (who node : Nat) (b : Body) :
    ((s.requestBy who node unresolved 1 1 b).gate node).waiting = (s.gate node).waiting ++ [enginePacket node who b] := by
  simp [State.requestBy, enginePacket]

/-- The packets wait at a gate behind those that waited; nothing but the network has changed. -/
def HandedOver (node : Nat) (ps : List Packet) (s t : State) : Prop :=
  t = { s with net := t.net } ∧ (t.gate node).waiting = (s.gate node).waiting ++ ps

theorem HandedOver.flask {node : Nat} {ps : List Packet} {s t : State} (h : HandedOver node ps s t) (p : Nat) : t.flask p = s.flask p := by
  rw [h.1]; rfl

theorem HandedOver.onlyFlasksAndNet {node : Nat} {ps : List Packet} {s t : State} (h : HandedOver node ps s t) : OnlyFlasksAndNet s t := by
  unfold OnlyFlasksAndNet; rw [h.1]

theorem HandedOver.waits {node : Nat} {pkt : Nat → Packet} {m k : Nat} {s t : State} (h : HandedOver node ((List.range m).map pkt) s t)
    (hk : k < m) : pkt k ∈ (t.gate node).waiting := by
  rw [h.2]
  exact List.mem_append_right _ (List.mem_map_of_mem (List.mem_range.2 hk))

/-- Requests handed over one after the other, whose bodies do not hang on the network. -/
theorem handedOver_requests (mark : Nat → Nat) (node : Nat) (body : State → Nat → Body)
    (hb : ∀ (s : State) (net : RunnerState) (k : Nat), body { s with net := net } k = body s k) :
    ∀ (ks : List Nat) (s : State), HandedOver node (ks.map (fun k => enginePacket node (mark k) (body s k))) s
      (ks.foldl (fun s k => s.requestBy (mark k) node unresolved 1 1 (body s k)) s)
  | [], s => ⟨rfl, by simp⟩
  | k :: ks, s => by
    obtain ⟨frame, waiting⟩ := handedOver_requests mark node body hb ks (s.requestBy (mark k) node unresolved 1 1 (body s k))
    refine ⟨by rw [List.foldl_cons, frame]; rfl, ?_⟩
    have same : ∀ j, body (s.requestBy (mark k) node unresolved 1 1 (body s k)) j = body s j := fun j => hb s _ j
    simp only [List.foldl_cons, waiting, requestBy_waiting, same, List.map_cons, List.append_assoc, List.singleton_append]

theorem handedOver_writeRecord (mark : Nat → Nat) (p id : Nat) (x : Ctx) (s : State) :
    HandedOver (s.flaskNode p) ((List.range 128).map (fun k =>
      enginePacket (s.flaskNode p) (mark k) (.wr (s.recordBase p id + 64 * k) 0xF 0xF (recordLine x id k)))) s
      (writeRecord mark p id x s) :=
  handedOver_requests mark (s.flaskNode p) (fun s k => .wr (s.recordBase p id + 64 * k) 0xF 0xF (recordLine x id k)) (fun _ _ _ => rfl) _ s

theorem handedOver_readRecord (p id : Nat) (s : State) :
    HandedOver (s.flaskNode p) ((List.range 128).map (fun k =>
      enginePacket (s.flaskNode p) (fillMark k) (.rd (s.recordBase p id + 64 * k) 16))) s (readRecord p id s) :=
  handedOver_requests fillMark (s.flaskNode p) (fun s k => .rd (s.recordBase p id + 64 * k) 16) (fun _ _ _ => rfl) _ s

/-! ### The end of a request -/

@[simp] theorem engDone_slot (p : Nat) (r : BitVec 8) (s : State) (n : Nat) : ((engDone p r s).flask p).slot n = (s.flask p).slot n := by
  rw [engDone, State.modFlask_same]; rfl
@[simp] theorem engDone_engOp (p : Nat) (r : BitVec 8) (s : State) : ((engDone p r s).flask p).engOp = .idle := by simp [engDone]
@[simp] theorem engDone_eng (p : Nat) (r : BitVec 8) (s : State) : ((engDone p r s).flask p).eng = (s.flask p).eng.drop 1 := by
  simp [engDone]
@[simp] theorem engDone_cmdResult (p : Nat) (r : BitVec 8) (s : State) : ((engDone p r s).flask p).cmdResult = r := by simp [engDone]
@[simp] theorem engDone_spills (p : Nat) (r : BitVec 8) (s : State) : ((engDone p r s).flask p).spills = (s.flask p).spills := by
  simp [engDone]
@[simp] theorem engDone_fills (p : Nat) (r : BitVec 8) (s : State) : ((engDone p r s).flask p).fills = (s.flask p).fills := by
  simp [engDone]
@[simp] theorem engDone_reportsOf (p : Nat) (r : BitVec 8) (s : State) (code kind oid : Nat) :
    reportsOf (engDone p r s) code kind oid = reportsOf s code kind oid := rfl

/-! ### A spill (R18, R120) -/

/-- The writes of the record of slot `n` go to the gate, and the slot is SPILLING. -/
def startSlotSpill (p n : Nat) (s : State) : State :=
  writeRecord spillMark p ((s.flask p).slot n).ctxId ((s.flask p).slot n).ctx
    ((dropAnswers p spillMark s).modFlask p (fun f => { f.modSlot n (fun x => { x with st := .spilling }) with engOp := .spilling n }))

/-- The last write has been answered, and the slot is EMPTY. -/
def endSlotSpill (p n : Nat) (s : State) : State :=
  (dropAnswers p spillMark s).modFlask p (fun f => { f.emptySlot n with spills := f.spills + 1, engOp := .idle })

/-- Once a spill has made room, the engine's head request ends, unless it is a fill that asked for the room. -/
def slotSpillDone (p : Nat) (r : Option EngReq) (s : State) : State :=
  match r with
  | some (.fill _ _) => s
  | _ => engDone p 0 s

theorem slotSpillDone_of_not_fill {r : Option EngReq} (h : ∀ x n, r ≠ some (.fill x n)) (p : Nat) (s : State) :
    slotSpillDone p r s = engDone p 0 s := by
  unfold slotSpillDone
  split
  · exact absurd rfl (h _ _)
  · rfl

theorem slotSpillDone_cases (p : Nat) (r : Option EngReq) (s : State) : slotSpillDone p r s = s ∨ slotSpillDone p r s = engDone p 0 s := by
  unfold slotSpillDone
  split
  · exact .inl rfl
  · exact .inr rfl

/-- A fill asks for a spill only of a slot that has something to write. -/
theorem needsWrite_of_fill_wants_spill {f : Flask} {x m n : Nat} (h : spillWanted f = some n) (hf : f.eng.head? = some (.fill x m)) :
    needsWrite f n = true := by
  unfold spillWanted at h
  rw [hf] at h
  dsimp only at h
  split at h
  · next c =>
    simp only [Bool.and_eq_true] at c
    cases h
    exact c.2
  · cases h

theorem slotQuiet_resident {f : Flask} {n : Nat} (h : slotQuiet f n = true) : (f.slot n).st = .resident := by
  simp only [slotQuiet, Bool.and_eq_true, decide_eq_true_eq] at h
  exact h.1.1.2

theorem startSlotSpill_slot (p n : Nat) (s : State) :
    ((startSlotSpill p n s).flask p).slot n = { (s.flask p).slot n with st := .spilling } := by
  rw [startSlotSpill, (handedOver_writeRecord ..).flask, State.modFlask_same]
  simp [Flask.slot, Flask.modSlot]

theorem startSlotSpill_engOp (p n : Nat) (s : State) : ((startSlotSpill p n s).flask p).engOp = .spilling n := by
  rw [startSlotSpill, (handedOver_writeRecord ..).flask, State.modFlask_same]

theorem startSlotSpill_waits (p n k : Nat) (s : State) (hk : k < 128) :
    enginePacket (s.flaskNode p) (spillMark k) (.wr (s.recordBase p ((s.flask p).slot n).ctxId + 64 * k) 0xF 0xF
        (recordLine ((s.flask p).slot n).ctx ((s.flask p).slot n).ctxId k)) ∈
      ((startSlotSpill p n s).gate (s.flaskNode p)).waiting :=
  (handedOver_writeRecord spillMark p ((s.flask p).slot n).ctxId ((s.flask p).slot n).ctx _).waits hk

theorem startSlotSpill_frame (p n : Nat) (s : State) : OnlyFlasksAndNet s (startSlotSpill p n s) :=
  (((OnlyFlasksAndNet.refl s).dropAnswers p spillMark).modFlask p _).trans (handedOver_writeRecord ..).onlyFlasksAndNet

theorem event_of {c : Bool} (h : c = true) (s t : State) : event c s t = .next t := by rw [h]; rfl

/-- CTX_SPILL by its cases: the slot was emptied meanwhile, has something to write, or has nothing. -/
theorem exec_ctxSpill {s : State} {p n : Nat} (wanted : spillWanted (s.flask p) = some n) :
    exec (.ctxSpill p) s = event (s.flaskLive p && (s.flask p).engOp = .idle && !s.recording p && ((s.flask p).slot n).st ≠ .filling &&
        (((s.flask p).slot n).st = .empty || slotQuiet (s.flask p) n)) s
      (let c := crossInto p s
       if ((c.flask p).slot n).st = .empty then engDone p 3 c
       else if needsWrite (c.flask p) n then startSlotSpill p n c
       else slotSpillDone p (c.flask p).eng.head? (c.modFlask p (fun f => f.emptySlot n))) := by
  change execCtxSpill p s = _
  unfold execCtxSpill
  rw [wanted]
  rfl

/-- CTX_SPILL of a quiet slot: what is written depends on the slot once the words due into it have crossed. -/
theorem exec_ctxSpill_quiet {s : State} {p n : Nat} (wanted : spillWanted (s.flask p) = some n) (live : s.flaskLive p = true)
    (idle : (s.flask p).engOp = .idle) (free : s.recording p = false) (quiet : slotQuiet (s.flask p) n = true) :
    exec (.ctxSpill p) s = .next (if needsWrite ((crossInto p s).flask p) n then startSlotSpill p n (crossInto p s)
      else slotSpillDone p ((crossInto p s).flask p).eng.head? ((crossInto p s).modFlask p (fun f => f.emptySlot n))) := by
  have resident := slotQuiet_resident quiet
  have still : (((crossInto p s).flask p).slot n).st ≠ .empty := by
    rw [(((onlyWordsMoved_crossInto p s).2 p).2 n).st, resident]; decide
  rw [exec_ctxSpill wanted, event_of (by simp [live, idle, free, quiet, resident])]
  exact congrArg _ (if_neg still)

/-- R120: a spill of a slot with something to write. -/
theorem ctxSpill_writes {s : State} {p n : Nat} (wanted : spillWanted (s.flask p) = some n) (live : s.flaskLive p = true)
    (idle : (s.flask p).engOp = .idle) (free : s.recording p = false) (quiet : slotQuiet (s.flask p) n = true)
    (w : needsWrite ((crossInto p s).flask p) n = true) : exec (.ctxSpill p) s = .next (startSlotSpill p n (crossInto p s)) := by
  rw [exec_ctxSpill_quiet wanted live idle free quiet, if_pos w]

/-- R120: a spill of a clean slot; it was no fill that asked for it. -/
theorem ctxSpill_clean {s : State} {p n : Nat} (wanted : spillWanted (s.flask p) = some n) (live : s.flaskLive p = true)
    (idle : (s.flask p).engOp = .idle) (free : s.recording p = false) (quiet : slotQuiet (s.flask p) n = true)
    (w : needsWrite ((crossInto p s).flask p) n = false) :
    exec (.ctxSpill p) s = .next (engDone p 0 ((crossInto p s).modFlask p (fun f => f.emptySlot n))) := by
  have moved := (onlyWordsMoved_crossInto p s).2 p
  have noFill : ∀ x m, ((crossInto p s).flask p).eng.head? ≠ some (.fill x m) := fun x m h => by
    rw [moved.eng] at h
    exact absurd (moved.needsWrite (needsWrite_of_fill_wants_spill wanted h)) (by simp [w])
  rw [exec_ctxSpill_quiet wanted live idle free quiet, if_neg (by simp [w]), slotSpillDone_of_not_fill noFill]

/-- CTX_SPILL_COMPLETE once every write has been answered. -/
theorem exec_ctxSpillComplete {s : State} {p n : Nat} (spilling : (s.flask p).engOp = .spilling n) (live : s.flaskLive p = true)
    (all : allAnswered s p spillMark = true) :
    exec (.ctxSpillComplete p) s = .next (slotSpillDone p ((endSlotSpill p n s).flask p).eng.head? (endSlotSpill p n s)) := by
  change execCtxSpillComplete p s = _
  unfold execCtxSpillComplete
  rw [spilling]
  exact event_of (by simp [live, all]) _ _

theorem endSlotSpill_flask (p n : Nat) (s : State) :
    (endSlotSpill p n s).flask p = { (s.flask p).emptySlot n with spills := (s.flask p).spills + 1, engOp := .idle } := by
  rw [endSlotSpill, State.modFlask_same, dropAnswers_flask]

theorem endSlotSpill_frame (p n : Nat) (s : State) : OnlyFlasksAndNet s (endSlotSpill p n s) :=
  ((OnlyFlasksAndNet.refl s).dropAnswers p spillMark).modFlask p _

theorem endSlotSpill_slot (p n m : Nat) (s : State) : ((endSlotSpill p n s).flask p).slot m = ((s.flask p).emptySlot n).slot m := by
  rw [endSlotSpill_flask]; rfl

/-- Whether or not the head request ends with the spill, of the flask the slots, what the engine moves and the count of spills are those of the
end of the spill. -/
theorem slotSpillDone_keeps {p : Nat} {s : State} (idle : (s.flask p).engOp = .idle) (r : Option EngReq) :
    (∀ m, ((slotSpillDone p r s).flask p).slot m = (s.flask p).slot m) ∧ ((slotSpillDone p r s).flask p).engOp = .idle ∧
      ((slotSpillDone p r s).flask p).spills = (s.flask p).spills ∧ OnlyFlasksAndNet s (slotSpillDone p r s) := by
  rcases slotSpillDone_cases p r s with e | e
  · rw [e]; exact ⟨fun _ => rfl, idle, rfl, .refl s⟩
  · rw [e]; exact ⟨fun m => engDone_slot p 0 s m, engDone_engOp p 0 s, engDone_spills p 0 s, (OnlyFlasksAndNet.refl s).engDone p 0⟩

/-! ### A fill (R18, R121, R124) -/

theorem startFill_flask (p x n : Nat) (s : State) :
    ((startFill p x n s).flask p).engOp = .filling n ∧ (((startFill p x n s).flask p).slot n).st = .filling ∧
      (((startFill p x n s).flask p).slot n).ctxId = x := by
  rw [startFill, (handedOver_readRecord ..).flask, State.modFlask_same]
  simp [Flask.slot, Flask.modSlot]

theorem startFill_waits (p x n k : Nat) (s : State) (hk : k < 128) :
    enginePacket (s.flaskNode p) (fillMark k) (.rd (s.recordBase p x + 64 * k) 16) ∈ ((startFill p x n s).gate (s.flaskNode p)).waiting :=
  (handedOver_readRecord p x _).waits hk

theorem startFill_frame (p x n : Nat) (s : State) : OnlyFlasksAndNet s (startFill p x n s) :=
  (((OnlyFlasksAndNet.refl s).dropAnswers p fillMark).modFlask p _).trans (handedOver_readRecord ..).onlyFlasksAndNet

/-- What the engine does for the fill of context `x` into slot `n`, or into one of its choice (R124, R578). -/
def serveFill (p x n : Nat) (s : State) : State :=
  let f := s.flask p
  if !f.defined.contains x then refuseFill p s
  else if (f.slotOf x).isSome && f.slotOf x ≠ some n then engDone p (if n < 16 then 3 else 0) s
  else if n < 16 then
    (if (f.slot n).st = .empty || ((f.slot n).st = .resident && !needsWrite f n && slotQuiet f n) then startFill p x n s else s)
  else match fillTarget s p with
    | none => refuseFill p s
    | some v =>
      if (f.slot v).st = .empty || (!needsWrite f v && slotQuiet f v) then startFill p x v s
      else s.modFlask p (fun f => { f with eng := .fill x v :: f.eng.drop 1 })

/-- CTX_FILL of an idle engine, once the words due into the flask have crossed. -/
theorem exec_ctxFill {s : State} {p x n : Nat} (head : (s.flask p).eng.head? = some (.fill x n)) (live : s.flaskLive p = true)
    (idle : (s.flask p).engOp = .idle) (free : s.recording p = false) : exec (.ctxFill p) s = .next (serveFill p x n (crossInto p s)) := by
  change execCtxFill p s = _
  unfold execCtxFill
  rw [head]
  exact event_of (by simp [live, idle, free]) _ _

/-- A fill into a named EMPTY slot, of a context that stands in none. -/
theorem serveFill_starts {p x n : Nat} {s : State} (hn : n < 16) (defined : (s.flask p).defined.contains x = true)
    (apart : (s.flask p).slotOf x = none) (empty : ((s.flask p).slot n).st = .empty) : serveFill p x n s = startFill p x n s := by
  simp only [serveFill, defined, apart, empty, hn]
  rfl

/-- R578: a context that the image does not define. -/
theorem serveFill_undefined {p x n : Nat} {s : State} (undefined : (s.flask p).defined.contains x = false) :
    serveFill p x n s = engDone p 3 s := by
  simp only [serveFill, undefined]
  rfl

/-- R124: no slot is free. -/
theorem serveFill_no_slot {p x : Nat} {s : State} (apart : (s.flask p).slotOf x = none) (full : fillTarget s p = none) :
    serveFill p x 16 s = engDone p 3 s := by
  cases defined : (s.flask p).defined.contains x with
  | false => exact serveFill_undefined defined
  | true =>
    simp only [serveFill, defined, apart, full]
    rfl

/-! ### Errors reported on the way (R680) -/

/-- The intake with another error, up to order. -/
theorem enterIntake_perm (c : ChillState) (e : ErrRep) : (enterIntake c e).Perm (e :: c.intake) := by
  have later := List.takeWhile_append_dropWhile (p := fun x : ErrRep => decide (x.code ≤ e.code)) (l := c.intake.drop c.settled)
  have whole := List.take_append_drop c.settled c.intake
  rw [← later] at whole
  conv_rhs => rw [← whole]
  rw [enterIntake, List.append_assoc, List.append_assoc, ← List.append_assoc (c.intake.take c.settled),
    ← List.append_assoc (c.intake.take c.settled)]
  exact List.perm_middle

/-- A report takes no error from the intake. -/
theorem reportsOf_le_report (e : ErrRep) (s : State) (code kind oid : Nat) : reportsOf s code kind oid ≤ reportsOf (report e s) code kind oid := by
  unfold report
  dsimp only
  split
  · simp only [reportsOf, (enterIntake_perm _ e).countP_eq, List.countP_cons]
    exact Nat.le_add_right _ _
  · exact Nat.le_refl _

/-- A reported error stands in the intake, where it has room. -/
theorem reports_reportAt (code kind oid : Nat) (aux : Word) (detail : DWord) (s : State) :
    Reports s (reportAt code kind oid aux detail s) code kind oid := by
  intro room
  have entered : (reportAt code kind oid aux detail s).chill.intake.Perm
      ({ code := code, kind := kind, oid := oid, aux := aux, detail := detail } :: s.chill.intake) := by
    unfold reportAt report
    dsimp only
    rw [if_pos room]
    exact enterIntake_perm _ _
  simp [reportsOf, entered.countP_eq]

@[simp] theorem catchPut_chill (s : State) (a : Nat) (v : NWord) : (catchPut s a v).chill = s.chill := by
  unfold catchPut; split
  · split <;> rfl
  · rfl

@[simp] theorem catchPut_flask (s : State) (a : Nat) (v : NWord) (p : Nat) : (catchPut s a v).flask p = s.flask p := by
  unfold catchPut; split
  · split <;> rfl
  · rfl

@[simp] theorem reportAt_flask (code kind oid : Nat) (aux : Word) (detail : DWord) (s : State) (p : Nat) :
    (reportAt code kind oid aux detail s).flask p = s.flask p := by simp [State.flask]

/-! ### The boundary pairs of a filled context (R111) -/

/-- Of the flasks words of contexts have changed alone, and no error has left the intake. -/
def PairsChecked (s t : State) : Prop :=
  (∀ p, (s.flask p).WordsMoved (t.flask p)) ∧ ∀ code kind oid, reportsOf s code kind oid ≤ reportsOf t code kind oid

theorem PairsChecked.refl (s : State) : PairsChecked s s := ⟨fun _ => .refl _, fun _ _ _ => Nat.le_refl _⟩

theorem PairsChecked.trans {s t u : State} (h : PairsChecked s t) (k : PairsChecked t u) : PairsChecked s u :=
  ⟨fun p => (h.1 p).trans (k.1 p), fun code kind oid => (h.2 code kind oid).trans (k.2 code kind oid)⟩

/-- Neither flasks nor the intake have changed. -/
theorem pairsChecked_of_same {s t : State} (hf : ∀ p, t.flask p = s.flask p) (hc : t.chill = s.chill) : PairsChecked s t :=
  ⟨fun p => by rw [hf]; exact .refl _, fun code kind oid => by rw [reportsOf, reportsOf, hc]⟩

theorem pairsChecked_modCtx (s : State) (p n : Nat) (g : Ctx → Ctx) : PairsChecked s (s.modFlask p (fun f => f.modCtx n g)) :=
  ⟨modFlask_wordsMoved s p _ (fun f => f.modCtx_wordsMoved n g), fun _ _ _ => Nat.le_refl _⟩

theorem pairsChecked_reportAt (code kind oid : Nat) (aux : Word) (detail : DWord) (s : State) :
    PairsChecked s (reportAt code kind oid aux detail s) :=
  ⟨fun p => by rw [reportAt_flask]; exact .refl _, reportsOf_le_report _ s⟩

theorem pairsChecked_disableSrc (img : Nat → Nat → Option Ctx) (p id side : Nat) (s : State) : PairsChecked s (disableSrc img p id side s) := by
  unfold disableSrc
  split
  · exact pairsChecked_modCtx s p _ _
  · exact pairsChecked_of_same (fun _ => rfl) rfl
  · exact pairsChecked_of_same (by simp) (by simp)

theorem pairsChecked_checkSide (img : Nat → Nat → Option Ctx) (p n side : Nat) (s : State) : PairsChecked s (checkSide img p n side s) := by
  unfold checkSide
  dsimp only
  split
  · exact .refl s
  · split
    · exact .refl s
    · split
      · exact .refl s
      · exact ((pairsChecked_modCtx s p n _).trans (pairsChecked_disableSrc ..)).trans (pairsChecked_reportAt ..)

theorem pairsChecked_checkPairs (img : Nat → Nat → Option Ctx) (p n : Nat) (s : State) : PairsChecked s (checkPairs img p n s) := by
  unfold checkPairs
  simp only [List.foldl_cons, List.foldl_nil]
  exact (((pairsChecked_checkSide img p n 0 s).trans (pairsChecked_checkSide ..)).trans (pairsChecked_checkSide ..)).trans
    (pairsChecked_checkSide ..)

/-! ### The end of a fill (R121, R126) -/

/-- A word of the record that the fill has read is poisoned. -/
def fillPoisoned (s : State) (p : Nat) : Bool := (List.range 2048).any (fun o => (filledWord s p o).p)

/-- The record names another context than the one of slot `n`. -/
def fillForeign (s : State) (p n : Nat) : Bool := (filledWord s p 136).d.toNat % 256 ≠ ((s.flask p).slot n).ctxId

/-- The record stands in its slot, RESIDENT. -/
def landFill (p n : Nat) (s : State) : State :=
  (dropAnswers p fillMark s).modFlask p (fun f =>
    { f.modSlot n (fun y => { y with
        st := .resident
        ctx := refillPipe (s.flask p) ((s.flask p).slot n).ctxId (checkCells (ctxFrom (fun o => (filledWord s p o).d)))
        faulted := fillPoisoned s p || fillForeign s p n })
      with fills := f.fills + 1, reads := Tab.set [] f.reads ((s.flask p).slot n).ctxId [] })

/-- The error of a fill, with the logical flask and the context that `aux` names. -/
def reportFill (poisoned foreign : Bool) (p : Nat) (aux : Word) (s : State) : State :=
  if poisoned then reportAt 0x3110 1 p aux 0 s else if foreign then reportAt 0x3111 1 p aux 0 s else s

/-- CTX_FILL_COMPLETE once every read has been answered. -/
theorem exec_ctxFillComplete {s : State} {p n : Nat} (filling : (s.flask p).engOp = .filling n) (live : s.flaskLive p = true)
    (all : allAnswered s p fillMark = true) :
    exec (.ctxFillComplete p) s = .next (checkPairs noImage p n
      (engDone p (if fillPoisoned s p then 1 else if fillForeign s p n then 2 else 0)
        (reportFill (fillPoisoned s p) (fillForeign s p n) p
          (BitVec.ofNat 32 ((s.flask p).logical * 256 + ((s.flask p).slot n).ctxId)) (landFill p n s)))) := by
  change execCtxFillComplete p s = _
  unfold execCtxFillComplete
  dsimp only
  rw [filling]
  exact event_of (by simp [live, all]) _ _

theorem landFill_flask (p n : Nat) (s : State) :
    (((landFill p n s).flask p).slot n).st = .resident ∧
      (((landFill p n s).flask p).slot n).faulted = (fillPoisoned s p || fillForeign s p n) ∧
      ((landFill p n s).flask p).fills = (s.flask p).fills + 1 := by
  rw [landFill, State.modFlask_same, dropAnswers_flask]
  simp [Flask.slot, Flask.modSlot]

@[simp] theorem reportFill_flask (poisoned foreign : Bool) (p q : Nat) (aux : Word) (s : State) :
    (reportFill poisoned foreign p aux s).flask q = s.flask q := by
  unfold reportFill
  split
  · simp
  · split <;> simp

/-- A poisoned fill reports 0x3110, one of another context 0x3111 (R126). -/
theorem reports_reportFill (poisoned foreign : Bool) (p : Nat) (aux : Word) (s : State) :
    (poisoned = true → Reports s (reportFill poisoned foreign p aux s) 0x3110 1 p) ∧
      (poisoned = false → foreign = true → Reports s (reportFill poisoned foreign p aux s) 0x3111 1 p) := by
  unfold reportFill
  refine ⟨fun h => ?_, fun h k => ?_⟩
  · rw [if_pos h]; exact reports_reportAt _ _ _ _ _ _
  · rw [if_neg (by simp [h]), if_pos k]; exact reports_reportAt _ _ _ _ _ _

/-- What has been reported stays reported. -/
theorem Reports.mono {s t u : State} {code kind oid : Nat} (h : Reports s t code kind oid)
    (k : reportsOf t code kind oid ≤ reportsOf u code kind oid) : Reports s u code kind oid := fun room => (h room).trans_le k

/-- Only what the intake held before counts. -/
theorem Reports.of_chill {s s' t : State} {code kind oid : Nat} (h : Reports s' t code kind oid) (k : s'.chill = s.chill) :
    Reports s t code kind oid := by
  simp only [Reports, reportsOf, k] at h ⊢
  exact h

theorem landFill_chill (p n : Nat) (s : State) : (landFill p n s).chill = s.chill := rfl

/-! ### The statement -/

theorem ctxSpill_moves (s : State) (p n : Nat) (wanted : spillWanted (s.flask p) = some n) (live : s.flaskLive p = true)
    (idle : (s.flask p).engOp = .idle) (free : s.recording p = false) (quiet : slotQuiet (s.flask p) n = true) :
    Answers (.ctxSpill p) s (fun t =>
      let f := (crossInto p s).flask p
      let id := (f.slot n).ctxId
      (needsWrite f n = true → ((t.flask p).slot n).st = .spilling ∧ (t.flask p).engOp = .spilling n ∧ ((t.flask p).slot n).ctx = (f.slot n).ctx ∧
        ∀ k < 128, enginePacket (s.flaskNode p) (spillMark k) (.wr (s.recordBase p id + 64 * k) 0xF 0xF (recordLine (f.slot n).ctx id k)) ∈
          (t.gate (s.flaskNode p)).waiting) ∧
      (needsWrite f n = false → ((t.flask p).slot n).st = .empty ∧ (t.flask p).engOp = .idle ∧ (t.flask p).eng = (s.flask p).eng.drop 1) ∧
      OnlyFlasksAndNet s t) := by
  have crossed := onlyWordsMoved_crossInto p s
  cases w : needsWrite ((crossInto p s).flask p) n with
  | true =>
    refine ⟨_, ctxSpill_writes wanted live idle free quiet w, fun _ => ?_, fun c => absurd (w.symm.trans c) (by decide),
      crossed.onlyFlasksAndNet.trans (startSlotSpill_frame ..)⟩
    rw [startSlotSpill_slot]
    refine ⟨rfl, startSlotSpill_engOp .., rfl, fun k hk => ?_⟩
    rw [← crossed.flaskNode, ← crossed.recordBase]
    exact startSlotSpill_waits p n k _ hk
  | false =>
    refine ⟨_, ctxSpill_clean wanted live idle free quiet w, fun c => absurd (w.symm.trans c) (by decide), fun _ => ?_,
      (crossed.onlyFlasksAndNet.modFlask p _).engDone p 0⟩
    rw [engDone_slot, engDone_engOp, engDone_eng, State.modFlask_same, Flask.emptySlot_eng, (crossed.2 p).eng]
    exact ⟨Flask.emptySlot_st .., rfl, rfl⟩

theorem ctxSpillComplete_moves (s : State) (p n : Nat) (spilling : (s.flask p).engOp = .spilling n) (live : s.flaskLive p = true)
    (all : allAnswered s p spillMark = true) : Answers (.ctxSpillComplete p) s (fun t =>
      ((t.flask p).slot n).st = .empty ∧ (t.flask p).engOp = .idle ∧ (t.flask p).spills = (s.flask p).spills + 1 ∧
      (∀ m, m ≠ n → (t.flask p).slot m = (s.flask p).slot m) ∧ OnlyFlasksAndNet s t) := by
  have ended := endSlotSpill_flask p n s
  obtain ⟨slots, idle, spills, frame⟩ :=
    slotSpillDone_keeps (by rw [ended]) (((endSlotSpill p n s).flask p).eng.head?)
  refine ⟨_, exec_ctxSpillComplete spilling live all, ?_, idle, by rw [spills, ended], fun m hm => ?_, (endSlotSpill_frame p n s).trans frame⟩
  · rw [slots, endSlotSpill_slot, Flask.emptySlot_st]
  · rw [slots, endSlotSpill_slot, Flask.emptySlot_slot_ne _ _ _ hm]

theorem ctxFill_moves (s : State) (p x n : Nat) (head : (s.flask p).eng.head? = some (.fill x n)) (live : s.flaskLive p = true)
    (idle : (s.flask p).engOp = .idle) (free : s.recording p = false) (hn : n < 16) (defined : (s.flask p).defined.contains x = true)
    (apart : (s.flask p).slotOf x = none) (empty : ((s.flask p).slot n).st = .empty) : Answers (.ctxFill p) s (fun t =>
      ((t.flask p).slot n).st = .filling ∧ ((t.flask p).slot n).ctxId = x ∧ (t.flask p).engOp = .filling n ∧
      (∀ k < 128, enginePacket (s.flaskNode p) (fillMark k) (.rd (s.recordBase p x + 64 * k) 16) ∈ (t.gate (s.flaskNode p)).waiting) ∧
      OnlyFlasksAndNet s t) := by
  have crossed := onlyWordsMoved_crossInto p s
  have moved := crossed.2 p
  have starts : serveFill p x n (crossInto p s) = startFill p x n (crossInto p s) :=
    serveFill_starts hn (by rw [moved.defined]; exact defined) ((moved.slotOf x).trans apart) ((moved.2 n).st.trans empty)
  obtain ⟨engOp, st, ctxId⟩ := startFill_flask p x n (crossInto p s)
  refine ⟨_, (exec_ctxFill head live idle free).trans (congrArg _ starts), st, ctxId, engOp, fun k hk => ?_,
    crossed.onlyFlasksAndNet.trans (startFill_frame ..)⟩
  rw [← crossed.flaskNode, ← crossed.recordBase]
  exact startFill_waits p x n k _ hk

theorem ctxFill_refused (s : State) (p x n : Nat) (head : (s.flask p).eng.head? = some (.fill x n)) (live : s.flaskLive p = true)
    (idle : (s.flask p).engOp = .idle) (free : s.recording p = false)
    (bad : (s.flask p).defined.contains x = false ∨ n = 16 ∧ (s.flask p).slotOf x = none ∧ fillTarget (crossInto p s) p = none) :
    Answers (.ctxFill p) s (fun t => (t.flask p).cmdResult = 3 ∧ (t.flask p).eng = (s.flask p).eng.drop 1) := by
  have moved := (onlyWordsMoved_crossInto p s).2 p
  have refused : serveFill p x n (crossInto p s) = engDone p 3 (crossInto p s) := by
    rcases bad with undefined | ⟨rfl, apart, full⟩
    · exact serveFill_undefined (by rw [moved.defined]; exact undefined)
    · exact serveFill_no_slot ((moved.slotOf x).trans apart) full
  refine ⟨_, (exec_ctxFill head live idle free).trans (congrArg _ refused), engDone_cmdResult .., ?_⟩
  rw [engDone_eng, moved.eng]

theorem ctxFillComplete_moves (s : State) (p n : Nat) (filling : (s.flask p).engOp = .filling n) (live : s.flaskLive p = true)
    (all : allAnswered s p fillMark = true) : Answers (.ctxFillComplete p) s (fun t =>
      ((t.flask p).slot n).st = .resident ∧ ((t.flask p).slot n).faulted = (fillPoisoned s p || fillForeign s p n) ∧
      (t.flask p).fills = (s.flask p).fills + 1 ∧
      (t.flask p).cmdResult = (if fillPoisoned s p then 1 else if fillForeign s p n then 2 else 0) ∧
      (fillPoisoned s p = true → Reports s t 0x3110 1 p) ∧ (fillPoisoned s p = false → fillForeign s p n = true → Reports s t 0x3111 1 p)) := by
  obtain ⟨st, faulted, fills⟩ := landFill_flask p n s
  refine ⟨_, exec_ctxFillComplete filling live all, ?_⟩
  generalize BitVec.ofNat 32 ((s.flask p).logical * 256 + ((s.flask p).slot n).ctxId) = aux
  obtain ⟨poison, foreign⟩ := reports_reportFill (fillPoisoned s p) (fillForeign s p n) p aux (landFill p n s)
  obtain ⟨flasks, intake⟩ := pairsChecked_checkPairs noImage p n
    (engDone p (if fillPoisoned s p then 1 else if fillForeign s p n then 2 else 0)
      (reportFill (fillPoisoned s p) (fillForeign s p n) p aux (landFill p n s)))
  simp only [engDone_reportsOf] at intake
  have slot := (flasks p).2 n
  rw [slot.st, slot.faulted, (flasks p).fills, (flasks p).cmdResult, engDone_slot, engDone_fills, engDone_cmdResult, reportFill_flask]
  exact ⟨st, faulted, fills, rfl, fun h => ((poison h).mono (intake _ _ _)).of_chill (landFill_chill p n s),
    fun h k => ((foreign h k).mono (intake _ _ _)).of_chill (landFill_chill p n s)⟩

/-- Settles O8: words that cross before the engine moves change neither slots nor requests, and each of the four commands then does its move. -/
theorem contextEngineMoves : Obligations.ContextEngineMoves :=
  ⟨ctxSpill_moves, ctxSpillComplete_moves, ctxFill_moves, ctxFill_refused, ctxFillComplete_moves⟩

end Sys2Proof.Machine

/-! # Cells of the fabric (R38-R57, R62, R63, R86, R87)

What the words that a firing takes leave unchanged, what a firing touches at all, and what it writes. From these the statements about the
results of cells, about queue operations, and about the faults and the frame of a cell. -/

namespace Sys2Proof.Machine

/-! ### The running context -/

/-- The running context of a flask. -/
def Flask.runCtx (f : Flask) : Ctx := (f.slot f.cur).ctx

theorem State.runCtx_eq (s : State) (p : Nat) : s.runCtx p = (s.flask p).runCtx := rfl

@[simp] theorem Flask.modRunning_slot (f : Flask) (g : Ctx → Ctx) :
    (f.modRunning g).slot f.cur = { f.slot f.cur with moved := true, ctx := g f.runCtx } := by
  rw [Flask.modRunning, Flask.modCtx, Flask.modSlot_slot_same]; rfl

theorem Flask.modRunning_slot_ne (f : Flask) (g : Ctx → Ctx) (n : Nat) (h : n ≠ f.cur) : (f.modRunning g).slot n = f.slot n :=
  f.modSlot_slot_ne _ _ _ h

@[simp] theorem Flask.modRunning_runCtx (f : Flask) (g : Ctx → Ctx) : (f.modRunning g).runCtx = g f.runCtx := by
  change ((f.modRunning g).slot f.cur).ctx = _
  rw [f.modRunning_slot]

/-- Which context runs hangs on the slots alone. -/
theorem Flask.runCtx_congr {f g : Flask} (slots : g.slots = f.slots) (cur : g.cur = f.cur) : g.runCtx = f.runCtx := by
  simp only [Flask.runCtx, Flask.slot, slots, cur]

@[simp] theorem State.modFlask_runCtx (s : State) (p : Nat) (g : Flask → Flask) : (s.modFlask p g).runCtx p = (g (s.flask p)).runCtx := by
  rw [State.runCtx_eq, State.modFlask_same]

/-! ### What the firing of a cell touches -/

/-- Of a flask the firing of its cell `c` may touch the running context, the S register its word names, the cycle's record and credits; in the
running context it leaves the flags of the other cells and every K register but the one that the word names. -/
structure Flask.Fired (c : Nat) (f g : Flask) : Prop where
  rest : g = { f with slots := g.slots, s := g.s, cyc := g.cyc, credits := g.credits }
  start : g.cyc.ctx = f.cyc.ctx
  slots : ∀ n, n ≠ f.cur → g.slot n = f.slot n
  flags : ∀ d, d ≠ c → Tab.get CellFlags.reset g.runCtx.flags d = Tab.get CellFlags.reset f.runCtx.flags d
  k : ∀ j, j ≠ 8 * c + cfgKdst (f.cyc.ctx.cell c) → Tab.get 0 g.runCtx.k j = Tab.get 0 f.runCtx.k j
  s : ∀ j, j ≠ cfgSdst (f.cyc.ctx.cell c) → Tab.get 0 g.s j = Tab.get 0 f.s j

namespace Flask.Fired

variable {c : Nat} {f g h : Flask}

theorem refl (c : Nat) (f : Flask) : f.Fired c f := ⟨rfl, rfl, fun _ _ => rfl, fun _ _ => rfl, fun _ _ => rfl, fun _ _ => rfl⟩

theorem cur (a : f.Fired c g) : g.cur = f.cur := by rw [a.rest]

theorem trans (a : f.Fired c g) (b : g.Fired c h) : f.Fired c h where
  rest := by rw [b.rest, a.rest]
  start := b.start.trans a.start
  slots n hn := (b.slots n (by rwa [a.cur])).trans (a.slots n hn)
  flags d hd := (b.flags d hd).trans (a.flags d hd)
  k j hj := (b.k j (by rwa [a.start])).trans (a.k j hj)
  s j hj := (b.s j (by rwa [a.start])).trans (a.s j hj)

/-- A change of the running context that keeps other flags and K registers. -/
theorem modRunning {c : Nat} (f : Flask) (u : Ctx → Ctx)
    (flags : ∀ d, d ≠ c → Tab.get CellFlags.reset (u f.runCtx).flags d = Tab.get CellFlags.reset f.runCtx.flags d)
    (k : ∀ j, j ≠ 8 * c + cfgKdst (f.cyc.ctx.cell c) → Tab.get 0 (u f.runCtx).k j = Tab.get 0 f.runCtx.k j) : f.Fired c (f.modRunning u) where
  rest := rfl
  start := rfl
  slots n hn := f.modRunning_slot_ne u n hn
  flags d hd := by rw [Flask.modRunning_runCtx]; exact flags d hd
  k j hj := by rw [Flask.modRunning_runCtx]; exact k j hj
  s _ _ := rfl

/-- A change of the cycle's record, or of credits, alone. -/
theorem record {c : Nat} (f : Flask) (y : Cycle) (cr : Tab Nat) (hy : y.ctx = f.cyc.ctx) : f.Fired c { f with cyc := y, credits := cr } :=
  ⟨rfl, hy, fun _ _ => rfl, fun _ _ => rfl, fun _ _ => rfl, fun _ _ => rfl⟩

end Flask.Fired

/-- Of the machine the firing of cell `c` of flask `p` may touch that flask, credits of the others, the flask's gate and the model's count of
free values. -/
structure FiringFrame (p c : Nat) (s t : State) : Prop where
  machine : t = { s with flasks := t.flasks, net := t.net, fresh := t.fresh }
  net : t.net = { s.net with gates := t.net.gates }
  gates : ∀ i, i ≠ s.flaskNode p → t.gate i = s.gate i
  others : ∀ q, q ≠ p → t.flask q = { s.flask q with credits := (t.flask q).credits }
  own : (s.flask p).Fired c (t.flask p)

namespace FiringFrame

variable {p c : Nat} {s t u : State}

theorem refl (p c : Nat) (s : State) : FiringFrame p c s s := ⟨rfl, rfl, fun _ _ => rfl, fun _ _ => rfl, .refl c _⟩

theorem flaskNode (a : FiringFrame p c s t) : t.flaskNode p = s.flaskNode p := by rw [a.machine]; rfl

theorem trans (a : FiringFrame p c s t) (b : FiringFrame p c t u) : FiringFrame p c s u where
  machine := by rw [b.machine, a.machine]
  net := by rw [b.net, a.net]
  gates i hi := (b.gates i (by rwa [a.flaskNode])).trans (a.gates i hi)
  others q hq := by rw [b.others q hq, a.others q hq]
  own := a.own.trans b.own

/-- A change of the flask itself. -/
theorem ofFlask (s : State) {g : Flask → Flask} (h : (s.flask p).Fired c ((s.modFlask p g).flask p)) : FiringFrame p c s (s.modFlask p g) where
  machine := rfl
  net := rfl
  gates _ _ := rfl
  others q hq := by rw [State.modFlask_ne _ _ _ _ hq]
  own := h

theorem modFlask (s : State) {g : Flask → Flask} (h : (s.flask p).Fired c (g (s.flask p))) : FiringFrame p c s (s.modFlask p g) :=
  ofFlask s (by rw [State.modFlask_same]; exact h)

/-- A change of some flask's boundary credits. -/
theorem modCredits (s : State) (q : Nat) (g : Flask → Tab Nat) : FiringFrame p c s (s.modFlask q (fun f => { f with credits := g f })) := by
  by_cases e : q = p
  · subst e; exact modFlask s (.record _ _ _ rfl)
  · refine ⟨rfl, rfl, fun _ _ => rfl, fun j _ => ?_, ?_⟩
    · by_cases hj : j = q
      · subst hj; rw [State.modFlask_same]
      · rw [State.modFlask_ne _ _ _ _ hj]
    · rw [State.modFlask_ne _ _ _ _ (Ne.symm e)]; exact .refl c _

/-- A change of the flask's own gate. -/
theorem modGate (s : State) (g : Gate → Gate) : FiringFrame p c s (s.modGate (s.flaskNode p) g) where
  machine := rfl
  net := rfl
  gates _ hi := State.modGate_ne _ _ _ _ hi
  others _ _ := rfl
  own := .refl c _

theorem foldl {α : Type} {step : State → α → State} (h : ∀ s a, FiringFrame p c s (step s a)) :
    ∀ (l : List α) (s : State), FiringFrame p c s (l.foldl step s)
  | [], s => refl p c s
  | a :: l, s => (h s a).trans (foldl h l (step s a))

end FiringFrame

/-! ### The words that a firing takes (R41, R62, R114) -/

/-- Words have been taken from registers of the running context of flask `p`: its routing registers may have emptied, boundary credits have gone
back, and nothing else of the machine has changed. -/
structure WordsTaken (p : Nat) (s t : State) : Prop where
  machine : t = { s with flasks := t.flasks }
  others : ∀ q, q ≠ p → t.flask q = { s.flask q with credits := (t.flask q).credits }
  own : t.flask p = { s.flask p with slots := (t.flask p).slots, credits := (t.flask p).credits }
  slots : ∀ n, n ≠ (s.flask p).cur → (t.flask p).slot n = (s.flask p).slot n
  ctxId : ((t.flask p).slot (s.flask p).cur).ctxId = ((s.flask p).slot (s.flask p).cur).ctxId
  running : t.runCtx p = { s.runCtx p with
    out := (t.runCtx p).out, quad := (t.runCtx p).quad, long := (t.runCtx p).long, bmRd := (t.runCtx p).bmRd, inbuf := (t.runCtx p).inbuf }

namespace WordsTaken

variable {p : Nat} {s t u : State}

theorem refl (p : Nat) (s : State) : WordsTaken p s s := ⟨rfl, fun _ _ => rfl, rfl, fun _ _ => rfl, rfl, rfl⟩

theorem cur (a : WordsTaken p s t) : (t.flask p).cur = (s.flask p).cur := by rw [a.own]

/-- The cycle's record, in which every word stands that the firing reads, stays. -/
theorem cyc (a : WordsTaken p s t) : (t.flask p).cyc = (s.flask p).cyc := by rw [a.own]

theorem sregs (a : WordsTaken p s t) : (t.flask p).s = (s.flask p).s := by rw [a.own]

theorem flags (a : WordsTaken p s t) : (t.runCtx p).flags = (s.runCtx p).flags := by rw [a.running]

theorem k (a : WordsTaken p s t) : (t.runCtx p).k = (s.runCtx p).k := by rw [a.running]

theorem pops (a : WordsTaken p s t) : (t.runCtx p).pops = (s.runCtx p).pops := by rw [a.running]

theorem flaskNode (a : WordsTaken p s t) : t.flaskNode p = s.flaskNode p := by rw [a.machine]; rfl

theorem trans (a : WordsTaken p s t) (b : WordsTaken p t u) : WordsTaken p s u where
  machine := by rw [b.machine, a.machine]
  others q hq := by rw [b.others q hq, a.others q hq]
  own := by rw [b.own, a.own]
  slots n hn := (b.slots n (by rwa [a.cur])).trans (a.slots n hn)
  ctxId := by have := b.ctxId; rw [a.cur] at this; exact this.trans a.ctxId
  running := by rw [b.running, a.running]

theorem foldl {α : Type} {step : State → α → State} (h : ∀ s a, WordsTaken p s (step s a)) :
    ∀ (l : List α) (s : State), WordsTaken p s (l.foldl step s)
  | [], s => refl p s
  | a :: l, s => (h s a).trans (foldl h l (step s a))

/-- Registers of the running context empty. -/
theorem modRunning (s : State) (p : Nat) (u : Ctx → Ctx)
    (h : u (s.runCtx p) = { s.runCtx p with
      out := (u (s.runCtx p)).out, quad := (u (s.runCtx p)).quad, long := (u (s.runCtx p)).long, bmRd := (u (s.runCtx p)).bmRd,
      inbuf := (u (s.runCtx p)).inbuf }) : WordsTaken p s (s.modFlask p (fun f => f.modRunning u)) where
  machine := rfl
  others q hq := by rw [State.modFlask_ne _ _ _ _ hq]
  own := by rw [State.modFlask_same]; rfl
  slots n hn := by rw [State.modFlask_same]; exact Flask.modRunning_slot_ne _ _ _ hn
  ctxId := by rw [State.modFlask_same, Flask.modRunning_slot]
  running := by rw [State.modFlask_runCtx, Flask.modRunning_runCtx]; exact h

/-- A credit goes back to a neighbour. -/
theorem modCredits (s : State) (p q : Nat) (g : Flask → Tab Nat) : WordsTaken p s (s.modFlask q (fun f => { f with credits := g f })) := by
  by_cases e : q = p
  · subst e
    refine ⟨rfl, fun i hi => ?_, ?_, fun n _ => ?_, ?_, ?_⟩
    · rw [State.modFlask_ne _ _ _ _ hi]
    · rw [State.modFlask_same]
    · rw [State.modFlask_same]; rfl
    · rw [State.modFlask_same]; rfl
    · rw [State.modFlask_runCtx]; rfl
  · have same := State.modFlask_ne s q (fun f => { f with credits := g f }) p (Ne.symm e)
    refine ⟨rfl, fun i _ => ?_, by rw [same], fun n _ => by rw [same], by rw [same], by rw [State.runCtx_eq, same]; rfl⟩
    by_cases hi : i = q
    · subst hi; rw [State.modFlask_same]
    · rw [State.modFlask_ne _ _ _ _ hi]

/-- Words taken for a firing stay within its frame. -/
theorem firingFrame (a : WordsTaken p s t) (c : Nat) : FiringFrame p c s t where
  machine := by rw [a.machine]
  net := by rw [a.machine]
  gates _ _ := by rw [a.machine]; rfl
  others := a.others
  own := {
    rest := by rw [a.own]
    start := by rw [a.cyc]
    slots := a.slots
    flags := fun d _ => congrArg (Tab.get _ · d) a.flags
    k := fun j _ => congrArg (Tab.get _ · j) a.k
    s := fun j _ => by rw [a.sregs] }

end WordsTaken

theorem wordsTaken_takeBoundary (p sl : Nat) (s : State) : WordsTaken p s (takeBoundary p sl s) := by
  unfold takeBoundary
  dsimp only
  split
  · exact .modRunning s p _ rfl
  · exact (WordsTaken.modRunning s p _ rfl).trans (.modCredits _ p _ _)

theorem wordsTaken_takeReg (p : Nat) (s : State) (r : Nat) : WordsTaken p s (takeReg p s r) := by
  unfold takeReg
  split
  · exact wordsTaken_takeBoundary p _ s
  · refine .modRunning s p _ ?_
    split_ifs <;> rfl

/-- The words that a firing of cell `c` takes from its operands' registers. -/
theorem wordsTaken_cell (p c : Nat) (s : State) : WordsTaken p s ((cellTakes (s.flask p).cyc c).foldl (takeReg p) s) :=
  .foldl (wordsTaken_takeReg p) _ s

end Sys2Proof.Machine

namespace Sys2Proof.Machine

/-! ### What a firing writes (R38, R41, R45) -/

@[simp] theorem loadOut_net (p n c : Nat) (w : TWord) (s : State) : (loadOut p n c w s).net = s.net := rfl

/-- The cycle's record notes that an output register has taken a new word. -/
def Flask.noteLoad (f : Flask) (c : Nat) : Flask := { f with cyc := { f.cyc with loaded := c :: f.cyc.loaded } }

@[simp] theorem Flask.noteLoad_runCtx (f : Flask) (c : Nat) : (f.noteLoad c).runCtx = f.runCtx := rfl

/-- A word enters an output register of the running context. -/
theorem loadOut_flask (p c : Nat) (w : TWord) (s : State) :
    (loadOut p (s.flask p).cur c w s).flask p =
      ((s.flask p).modRunning (fun x => { x with out := Tab.set TWord.empty x.out c w })).noteLoad c := by
  rw [loadOut, State.modFlask_same]
  exact if_pos rfl

theorem loadOut_runCtx (p c : Nat) (w : TWord) (s : State) :
    (loadOut p (s.flask p).cur c w s).runCtx p = { s.runCtx p with out := Tab.set TWord.empty (s.runCtx p).out c w } := by
  rw [State.runCtx_eq, loadOut_flask, Flask.noteLoad_runCtx, Flask.modRunning_runCtx]; rfl

theorem loadOut_frame (p c : Nat) (w : TWord) (s : State) : FiringFrame p c s (loadOut p (s.flask p).cur c w s) := by
  refine .ofFlask s ?_
  change Flask.Fired c _ ((loadOut p (s.flask p).cur c w s).flask p)
  rw [loadOut_flask]
  exact (Flask.Fired.modRunning (s.flask p) _ (fun _ _ => rfl) (fun _ _ => rfl)).trans (.record _ _ _ rfl)

/-- The running context notes a second writer of an S register. -/
def markContention (p : Nat) (s : State) : State := s.modFlask p (fun f => f.modRunning (fun x => { x with status := x.status ||| 1 }))

/-- An S register takes the write of cell `c`. -/
def putS (p c ix : Nat) (v : Word) (s : State) : State :=
  s.modFlask p (fun f => { f with s := Tab.set 0 f.s ix v, cyc := { f.cyc with sBy := Tab.set 0 f.cyc.sBy ix (c + 1) } })

/-- A write to an S register: contention is marked, or not, and the write stands, or not. -/
theorem writeS_cases (p c ix : Nat) (v : Word) (s : State) :
    ∃ s', (s' = s ∨ s' = markContention p s) ∧ (writeS p c ix v s = s' ∨ writeS p c ix v s = putS p c ix v s') := by
  refine ⟨_, ?_, (ite_eq_or_eq _ _ _).symm⟩
  exact ite_eq_or_eq _ _ _

theorem markContention_frame (p c : Nat) (s : State) : FiringFrame p c s (markContention p s) :=
  .modFlask s (.modRunning _ _ (fun _ _ => rfl) (fun _ _ => rfl))

theorem putS_frame (p c : Nat) (v : Word) (s : State) : FiringFrame p c s (putS p c (cfgSdst ((s.flask p).cyc.ctx.cell c)) v s) :=
  .modFlask s ⟨rfl, rfl, fun _ _ => rfl, fun _ _ => rfl, fun _ _ => rfl, fun _ hj => Tab.get_set_ne _ _ _ _ _ hj⟩

@[simp] theorem putS_runCtx (p c ix : Nat) (v : Word) (s : State) : (putS p c ix v s).runCtx p = s.runCtx p := by
  rw [putS, State.modFlask_runCtx]; rfl

@[simp] theorem markContention_runCtx (p : Nat) (s : State) :
    (markContention p s).runCtx p = { s.runCtx p with status := (s.runCtx p).status ||| 1 } := by
  rw [markContention, State.modFlask_runCtx, Flask.modRunning_runCtx]; rfl

theorem writeS_net (p c ix : Nat) (v : Word) (s : State) : (writeS p c ix v s).net = s.net := by
  obtain ⟨s', rfl | rfl, e | e⟩ := writeS_cases p c ix v s <;> rw [e] <;> rfl

/-- A write of an S register changes of the running context the status word alone. -/
theorem writeS_runCtx (p c ix : Nat) (v : Word) (s : State) :
    ∃ st, (writeS p c ix v s).runCtx p = { s.runCtx p with status := st } := by
  obtain ⟨s', rfl | rfl, e | e⟩ := writeS_cases p c ix v s <;> rw [e]
  · exact ⟨_, rfl⟩
  · exact ⟨_, putS_runCtx ..⟩
  · exact ⟨_, markContention_runCtx ..⟩
  · exact ⟨_, (putS_runCtx ..).trans (markContention_runCtx ..)⟩

/-- The first write of the cycle to an S register stands (R38). -/
theorem writeS_first (p c ix : Nat) (v : Word) (s : State) (first : Tab.get 0 (s.flask p).cyc.sBy ix = 0) :
    Tab.get 0 ((writeS p c ix v s).flask p).s ix = v := by
  simp [writeS, first]

theorem writeS_frame (p c : Nat) (v : Word) (s : State) :
    FiringFrame p c s (writeS p c (cfgSdst ((s.flask p).cyc.ctx.cell c)) v s) := by
  obtain ⟨s', hs, hw⟩ := writeS_cases p c (cfgSdst ((s.flask p).cyc.ctx.cell c)) v s
  have marked : FiringFrame p c s s' := by
    rcases hs with rfl | rfl
    · exact .refl p c s'
    · exact markContention_frame p c s
  rcases hw with e | e <;> rw [e]
  · exact marked
  · rw [← marked.own.start]
    exact marked.trans (putS_frame p c v s')

/-- The flags and the K register that a result is written to. -/
def writeFlagsAndK (p c : Nat) (o : AluOut) (s : State) : State :=
  s.modFlask p (fun f => f.modRunning (fun x => { x with
    flags := Tab.set CellFlags.reset x.flags c o.fl
    k := if cfgKwe ((s.flask p).cyc.ctx.cell c) then Tab.set 0 x.k (8 * c + cfgKdst ((s.flask p).cyc.ctx.cell c)) o.y else x.k }))

/-- Flags and K first, then the output register, then S. -/
theorem writeResult_eq (p c : Nat) (o : AluOut) (tags : Bool × Bool) (s : State) :
    writeResult p c o tags s =
      (let r := writeFlagsAndK p c o s
       let s' := loadOut p (r.flask p).cur c (mkTWord o.y tags.1 tags.2) r
       if cfgSwe ((s.flask p).cyc.ctx.cell c) then writeS p c (cfgSdst ((s.flask p).cyc.ctx.cell c)) o.y s' else s') := rfl

theorem writeFlagsAndK_cyc (p c : Nat) (o : AluOut) (s : State) : ((writeFlagsAndK p c o s).flask p).cyc = (s.flask p).cyc := by
  rw [writeFlagsAndK, State.modFlask_same]; rfl

theorem writeFlagsAndK_frame (p c : Nat) (o : AluOut) (s : State) : FiringFrame p c s (writeFlagsAndK p c o s) := by
  refine .modFlask s (.modRunning _ _ (fun d hd => Tab.get_set_ne _ _ _ _ _ hd) fun j hj => ?_)
  dsimp only
  split
  · exact Tab.get_set_ne _ _ _ _ _ hj
  · rfl

@[simp] theorem writeResult_net (p c : Nat) (o : AluOut) (tags : Bool × Bool) (s : State) : (writeResult p c o tags s).net = s.net := by
  rw [writeResult_eq]; dsimp only; split <;> simp [writeFlagsAndK, writeS_net]

theorem writeResult_frame (p c : Nat) (o : AluOut) (tags : Bool × Bool) (s : State) : FiringFrame p c s (writeResult p c o tags s) := by
  rw [writeResult_eq]
  dsimp only
  have loaded := (writeFlagsAndK_frame p c o s).trans (loadOut_frame p c (mkTWord o.y tags.1 tags.2) _)
  split
  · have wrote := writeS_frame p c o.y (loadOut p ((writeFlagsAndK p c o s).flask p).cur c (mkTWord o.y tags.1 tags.2) (writeFlagsAndK p c o s))
    rw [loaded.own.start] at wrote
    exact loaded.trans wrote
  · exact loaded

/-- The running context with a result in it. -/
theorem writeResult_runCtx (p c : Nat) (o : AluOut) (tags : Bool × Bool) (s : State) :
    ∃ st, (writeResult p c o tags s).runCtx p = { s.runCtx p with
      out := Tab.set TWord.empty (s.runCtx p).out c (mkTWord o.y tags.1 tags.2)
      flags := Tab.set CellFlags.reset (s.runCtx p).flags c o.fl
      k := if cfgKwe ((s.flask p).cyc.ctx.cell c) then Tab.set 0 (s.runCtx p).k (8 * c + cfgKdst ((s.flask p).cyc.ctx.cell c)) o.y
        else (s.runCtx p).k
      status := st } := by
  have flagged : (writeFlagsAndK p c o s).runCtx p = { s.runCtx p with
      flags := Tab.set CellFlags.reset (s.runCtx p).flags c o.fl
      k := if cfgKwe ((s.flask p).cyc.ctx.cell c) then Tab.set 0 (s.runCtx p).k (8 * c + cfgKdst ((s.flask p).cyc.ctx.cell c)) o.y
        else (s.runCtx p).k } := by
    rw [writeFlagsAndK, State.modFlask_runCtx, Flask.modRunning_runCtx]; rfl
  have loaded := loadOut_runCtx p c (mkTWord o.y tags.1 tags.2) (writeFlagsAndK p c o s)
  rw [flagged] at loaded
  rw [writeResult_eq]
  dsimp only
  split
  · obtain ⟨st, wrote⟩ := writeS_runCtx p c (cfgSdst ((s.flask p).cyc.ctx.cell c)) o.y
      (loadOut p ((writeFlagsAndK p c o s).flask p).cur c (mkTWord o.y tags.1 tags.2) (writeFlagsAndK p c o s))
    exact ⟨st, by rw [wrote, loaded]⟩
  · exact ⟨_, loaded⟩

/-- Y stands in the S register that the word names, where no cell has written it in the cycle (R38, R45). -/
theorem writeResult_s (p c : Nat) (o : AluOut) (tags : Bool × Bool) (s : State) (swe : cfgSwe ((s.flask p).cyc.ctx.cell c) = true)
    (first : Tab.get 0 (s.flask p).cyc.sBy (cfgSdst ((s.flask p).cyc.ctx.cell c)) = 0) :
    Tab.get 0 ((writeResult p c o tags s).flask p).s (cfgSdst ((s.flask p).cyc.ctx.cell c)) = o.y := by
  rw [writeResult_eq]
  dsimp only
  rw [if_pos swe]
  refine writeS_first _ _ _ _ _ ?_
  rw [loadOut_flask]
  change Tab.get 0 ((writeFlagsAndK p c o s).flask p).cyc.sBy _ = 0
  rw [writeFlagsAndK_cyc, first]

/-- The cycle notes the first of its free values. -/
def setFreeBase (p b : Nat) (s : State) : State := s.modFlask p (fun f => { f with cyc := { f.cyc with freeBase := some b } })

theorem setFreeBase_frame (p c b : Nat) (s : State) : FiringFrame p c s (setFreeBase p b s) := .modFlask s (.record _ _ _ rfl)

/-- Free values are set aside once in a cycle. -/
theorem keepFree_cases (p : Nat) (s : State) : keepFree p s = s ∨ keepFree p s = { setFreeBase p s.fresh s with fresh := s.fresh + 64 } := by
  unfold keepFree
  split
  · exact .inl rfl
  · exact .inr rfl

theorem keepFree_net (p : Nat) (s : State) : (keepFree p s).net = s.net := by
  rcases keepFree_cases p s with e | e <;> rw [e]; rfl

/-- What is set aside touches neither the running context nor the S registers. -/
theorem keepFree_regs (p : Nat) (s : State) : (keepFree p s).runCtx p = s.runCtx p ∧ ((keepFree p s).flask p).s = (s.flask p).s := by
  have set : (setFreeBase p s.fresh s).runCtx p = s.runCtx p ∧ ((setFreeBase p s.fresh s).flask p).s = (s.flask p).s := by
    rw [State.runCtx_eq, setFreeBase, State.modFlask_same]; exact ⟨rfl, rfl⟩
  rcases keepFree_cases p s with e | e <;> rw [e]
  · exact ⟨rfl, rfl⟩
  · exact set

theorem keepFree_frame (p c : Nat) (s : State) : FiringFrame p c s (keepFree p s) := by
  rcases keepFree_cases p s with e | e <;> rw [e]
  · exact .refl p c s
  · obtain ⟨-, net, gates, others, own⟩ := setFreeBase_frame p c s.fresh s
    exact ⟨rfl, net, gates, others, own⟩

/-- The mark that a context is DIRTY leaves the context itself. -/
theorem Flask.modDirty_runCtx (f : Flask) : (f.modSlot f.cur (fun x => { x with dirty := true })).runCtx = f.runCtx := by
  change ((f.modSlot f.cur _).slot f.cur).ctx = _
  rw [Flask.modSlot_slot_same]; rfl

/-- A cell or port of the running context has fired: its context is DIRTY, and the cycle's record lists it. -/
theorem markFired_flask (p e : Nat) (s : State) : (markFired p e s).flask p =
    { (s.flask p).modSlot (s.flask p).cur (fun x => { x with dirty := true }) with
      cyc := { (s.flask p).cyc with fired := e :: (s.flask p).cyc.fired } } := by
  rw [markFired, markActed, State.modFlask_same, State.modFlask_same]; rfl

@[simp] theorem markFired_net (p e : Nat) (s : State) : (markFired p e s).net = s.net := rfl

@[simp] theorem markFired_runCtx (p e : Nat) (s : State) : (markFired p e s).runCtx p = s.runCtx p := by
  rw [State.runCtx_eq, markFired_flask]
  exact (Flask.runCtx_congr rfl rfl).trans (Flask.modDirty_runCtx _)

theorem markFired_frame (p c e : Nat) (s : State) : FiringFrame p c s (markFired p e s) := by
  have running := (s.flask p).modDirty_runCtx
  refine (FiringFrame.modFlask s (c := c) ?_).trans (.modFlask _ (.record _ _ _ rfl))
  exact ⟨rfl, rfl, fun n hn => Flask.modSlot_slot_ne _ _ _ _ hn, fun d _ => by rw [running], fun j _ => by rw [running], fun _ _ => rfl⟩

/-! ### Words handed to the gate (R224, R258) -/

/-- A word joins those gathered for a queue, for one credit. -/
def gatherWord (i q : Nat) (w : QWord) (s : State) : State :=
  s.modProducer i q (fun p => { p with credits := p.credits - 1, gather := p.gather ++ [w] })

theorem gatePush_eq (i q : Nat) (w : QWord) (s : State) : gatePush i q w s =
    if 16 ≤ ((gatherWord i q w s).producer i q).gather.length then gateSend i q (gatherWord i q w s) else gatherWord i q w s := rfl

/-- What is sent leaves the words gathered. -/
def ungather (i q : Nat) (ws : List QWord) (s : State) : State :=
  s.modProducer i q (fun p => { p with midPacket := leavesOpen p.midPacket ws, gather := p.gather.drop 16 })

theorem gateSend_eq (i q : Nat) (s : State) : gateSend i q s =
    if ((s.producer i q).gather.take 16).isEmpty then s
    else (ungather i q ((s.producer i q).gather.take 16) s).request i tundishNode 0 (gateClass s i q)
      (.push q (!(s.producer i q).midPacket) ((s.producer i q).gather.take 16)) := rfl

theorem gateSend_frame (p c q : Nat) (s : State) : FiringFrame p c s (gateSend (s.flaskNode p) q s) := by
  rw [gateSend_eq]
  split
  · exact .refl p c s
  · exact (FiringFrame.modGate s _).trans (.modGate _ _)

theorem gatePush_frame (p c q : Nat) (w : QWord) (s : State) : FiringFrame p c s (gatePush (s.flaskNode p) q w s) := by
  have gathered : FiringFrame p c s (gatherWord (s.flaskNode p) q w s) := .modGate s _
  rw [gatePush_eq]
  split
  · exact gathered.trans (gateSend_frame p c q _)
  · exact gathered

/-! ### The effect of a firing by its cases -/

theorem cellEffect_idle {p c : Nat} {s : State} (idle : idlePasses (s.flask p).cyc c = true) :
    cellEffect p c s = loadOut p (s.flask p).cur c (regWord (s.flask p).cyc (cellRegA (s.flask p).cyc.ctx c)) s := if_pos idle

/-- The word that a QPUSH hands over: A with its tags (R51). -/
def pushedWord (y : Cycle) (c : Nat) : QWord :=
  let r := cellRegA y.ctx c
  { d := operandA y c, l := r ≠ 255 && (regWord y r).l, i := r ≠ 255 && (regWord y r).i, p := false }

theorem cellEffect_qpush {p c : Nat} {s : State} (busy : idlePasses (s.flask p).cyc c = false) (opc : cfgOpc ((s.flask p).cyc.ctx.cell c) = 0x20) :
    cellEffect p c s = gatePush (s.flaskNode p) ((operandB (s.flask p).cyc c).toNat % 2 ^ 18) (pushedWord (s.flask p).cyc c) s :=
  (if_neg (by simp [busy])).trans (if_pos opc)

/-- A pop joins those that the running context waits for. -/
def addPop (p c : Nat) (s : State) : State :=
  s.modFlask p (fun f => f.modRunning (fun x => { x with pops := Tab.set [] x.pops c (Tab.get [] x.pops c ++ [.waiting]) }))

theorem cellEffect_qpop {p c : Nat} {s : State} (busy : idlePasses (s.flask p).cyc c = false) (opc : cfgOpc ((s.flask p).cyc.ctx.cell c) = 0x21) :
    cellEffect p c s = (addPop p c s).requestBy (popMark ((s.flask p).slot (s.flask p).cur).ctxId c) (s.flaskNode p) tundishNode 0 0
      (.pop ((operandB (s.flask p).cyc c).toNat % 2 ^ 18) 1) := by
  refine (if_neg (by simp [busy])).trans ((if_neg (by simp [opc])).trans (if_pos opc))

theorem cellEffect_result {p c : Nat} {s : State} (busy : idlePasses (s.flask p).cyc c = false)
    (push : cfgOpc ((s.flask p).cyc.ctx.cell c) ≠ 0x20) (pop : cfgOpc ((s.flask p).cyc.ctx.cell c) ≠ 0x21) :
    cellEffect p c s =
      (let r := writeResult p c (cellOut (s.flask p).cyc c (s.freeBit p)) (resultTags (s.flask p).cyc c) s
       if usesFree (s.flask p).cyc c then keepFree p r else r) :=
  (if_neg (by simp [busy])).trans ((if_neg push).trans (if_neg pop))

/-- The frame of an effect. -/
theorem cellEffect_frame (p c : Nat) (s : State) : FiringFrame p c s (cellEffect p c s) := by
  cases idle : idlePasses (s.flask p).cyc c with
  | true => rw [cellEffect_idle idle]; exact loadOut_frame p c _ s
  | false =>
    by_cases push : cfgOpc ((s.flask p).cyc.ctx.cell c) = 0x20
    · rw [cellEffect_qpush idle push]; exact gatePush_frame p c _ _ s
    · by_cases pop : cfgOpc ((s.flask p).cyc.ctx.cell c) = 0x21
      · rw [cellEffect_qpop idle pop]
        exact (FiringFrame.modFlask s (.modRunning _ _ (fun _ _ => rfl) (fun _ _ => rfl))).trans (.modGate _ _)
      · rw [cellEffect_result idle push pop]
        dsimp only
        split
        · exact (writeResult_frame ..).trans (keepFree_frame ..)
        · exact writeResult_frame ..

/-- The frame of a firing. -/
theorem fireCell_frame (p c : Nat) (s : State) : FiringFrame p c s (fireCell p c s) :=
  (((wordsTaken_cell p c s).firingFrame c).trans (cellEffect_frame p c _)).trans (markFired_frame p c c _)

/-- The state in which the result of a firing stands, before the firing is marked. -/
def resultWritten (p c : Nat) (o : AluOut) (tags : Bool × Bool) (free : Bool) (s : State) : State :=
  if free then keepFree p (writeResult p c o tags s) else writeResult p c o tags s

/-- Whether or not free values are set aside, the result stands in the running context and S. -/
theorem resultWritten_regs (p c : Nat) (o : AluOut) (tags : Bool × Bool) (free : Bool) (s : State) :
    (resultWritten p c o tags free s).runCtx p = (writeResult p c o tags s).runCtx p ∧
      ((resultWritten p c o tags free s).flask p).s = ((writeResult p c o tags s).flask p).s := by
  unfold resultWritten
  split
  · exact keepFree_regs p _
  · exact ⟨rfl, rfl⟩

theorem resultWritten_net (p c : Nat) (o : AluOut) (tags : Bool × Bool) (free : Bool) (s : State) :
    (resultWritten p c o tags free s).net = s.net := by
  unfold resultWritten; split <;> simp [keepFree_net]

/-- A firing that computes takes its words and writes its result. -/
theorem fireCell_result {p c : Nat} {s : State} (busy : idlePasses (s.flask p).cyc c = false)
    (push : cfgOpc ((s.flask p).cyc.ctx.cell c) ≠ 0x20) (pop : cfgOpc ((s.flask p).cyc.ctx.cell c) ≠ 0x21) :
    fireCell p c s = markFired p c (resultWritten p c (cellOut (s.flask p).cyc c (s.freeBit p)) (resultTags (s.flask p).cyc c)
      (usesFree (s.flask p).cyc c) ((cellTakes (s.flask p).cyc c).foldl (takeReg p) s)) := by
  have taken := wordsTaken_cell p c s
  have free : ((cellTakes (s.flask p).cyc c).foldl (takeReg p) s).freeBit p = s.freeBit p := by
    funext i
    rw [State.freeBit, State.freeBit, taken.cyc, taken.machine]
  rw [fireCell, cellEffect_result (by rwa [taken.cyc]) (by rwa [taken.cyc]) (by rwa [taken.cyc]), taken.cyc, free]
  rfl

/-- What the result of a firing is written to (R41, R42, R45). -/
theorem fireCell_wrote {p c : Nat} {s : State} (busy : idlePasses (s.flask p).cyc c = false)
    (push : cfgOpc ((s.flask p).cyc.ctx.cell c) ≠ 0x20) (pop : cfgOpc ((s.flask p).cyc.ctx.cell c) ≠ 0x21) :
    CellWrote s (fireCell p c s) p c (cellOut (s.flask p).cyc c (s.freeBit p)).y (cellOut (s.flask p).cyc c (s.freeBit p)).fl := by
  have frame := fireCell_frame p c s
  have taken := wordsTaken_cell p c s
  rw [fireCell_result busy push pop] at frame ⊢
  generalize cellOut (s.flask p).cyc c (s.freeBit p) = o at *
  generalize (cellTakes (s.flask p).cyc c).foldl (takeReg p) s = s' at *
  obtain ⟨ctx, sregs⟩ := resultWritten_regs p c o (resultTags (s.flask p).cyc c) (usesFree (s.flask p).cyc c) s'
  obtain ⟨st, wrote⟩ := writeResult_runCtx p c o (resultTags (s.flask p).cyc c) s'
  rw [wrote, taken.cyc] at ctx
  refine ⟨?_, ?_, fun kwe => ?_, fun swe first => ?_, ?_⟩
  · rw [markFired_runCtx, ctx, Tab.get_set_same]
  · rw [markFired_runCtx, ctx, Tab.get_set_same]
  · rw [markFired_runCtx, ctx, if_pos kwe, Tab.get_set_same]
  · rw [markFired_flask]
    change Tab.get 0 ((resultWritten p c o _ _ s').flask p).s _ = _
    rw [sregs, ← taken.cyc]
    exact writeResult_s p c o _ s' (by rwa [taken.cyc]) (by rwa [taken.cyc])
  · have net : (markFired p c (resultWritten p c o (resultTags (s.flask p).cyc c) (usesFree (s.flask p).cyc c) s')).net = s.net := by
      rw [markFired_net, resultWritten_net, taken.machine]
    have machine := frame.machine
    rwa [net] at machine

end Sys2Proof.Machine

/-! ### Results and flags of the cell operations (R45-R49, R54, R57) -/

namespace Sys2Proof.Machine

/-- A cell that fires an operation writes what the operation computes. -/
theorem cell_writes {s : State} {p c opc : Nat} {op : Instr} {y : Word} {fl : CellFlags} (fires : CellFires s p c opc)
    (run : exec op s = cellCommand opc p c .clean s) (out : alu opc (cellIn (s.flask p).cyc c (s.freeBit p)) = ⟨y, fl⟩)
    (push : opc ≠ 0x20 := by decide) (pop : opc ≠ 0x21 := by decide) : Answers op s (fun t => CellWrote s t p c y fl) := by
  obtain ⟨can, rfl, busy⟩ := fires
  have wrote := fireCell_wrote busy push pop
  rw [cellOut, out] at wrote
  exact ⟨_, run.trans (event_of (by simp [can]) _ _), wrote⟩

theorem setZN_eq (y : Word) (fl : CellFlags) : setZN y fl = ⟨y, withZN fl y⟩ := by
  simp [setZN, withZN, BitVec.msb_eq_decide, BitVec.toNat_eq]

/-! #### Sums -/

theorem toNat_addWide (a b : Word) (cin : Bool) : (addWide a b cin).toNat = a.toNat + b.toNat + cin.toNat := by
  have ha := a.isLt
  have hb := b.isLt
  cases cin <;> simp [addWide, bit1] <;> omega

/-- The sum's bit 32 is the carry out. -/
theorem addWide_msb (a b : Word) (cin : Bool) : (addWide a b cin).msb = decide (2 ^ 32 ≤ a.toNat + b.toNat + cin.toNat) := by
  rw [BitVec.msb_eq_decide, toNat_addWide]

theorem addWide_low (a b : Word) (cin : Bool) : (addWide a b cin).setWidth 32 = BitVec.ofNat 32 (a.toNat + b.toNat + cin.toNat) :=
  BitVec.eq_of_toNat_eq (by rw [BitVec.toNat_setWidth, toNat_addWide, BitVec.toNat_ofNat])

/-- Operands of one sign whose sum has the other: the exact sum does not fit. -/
theorem addWide_overflows (a b : Word) (cin : Bool) :
    (decide (a.msb = b.msb) && decide (((addWide a b cin).setWidth 32).msb ≠ a.msb)) = sumOverflows (a.toInt + b.toInt + cin.toNat) := by
  have ha := a.isLt
  have hb := b.isLt
  have hc := cin.toNat_le
  rw [addWide_low, sumOverflows, Bool.eq_iff_iff]
  simp only [BitVec.msb_eq_decide, BitVec.toNat_ofNat, BitVec.toInt_eq_toNat_cond, Bool.and_eq_true, decide_eq_true_eq, ne_eq,
    decide_eq_decide]
  omega

/-- ADD, and SUB over NOT B: the low word, the carry out of bit 31 and the signed overflow of the sum (R54). -/
theorem aluAddB_eq (i : AluIn) (b : Word) : aluAddB i b =
    (let y := BitVec.ofNat 32 (i.a.toNat + b.toNat + i.cin.toNat)
     ⟨y, withZN { i.fl with
       c := decide (2 ^ 32 ≤ i.a.toNat + b.toNat + i.cin.toNat)
       ov := sumOverflows (i.a.toInt + b.toInt + i.cin.toNat) } y⟩) := by
  rw [aluAddB, setZN_eq, addWide_overflows, addWide_msb, addWide_low]

theorem toInt_not (b : Word) : (~~~b).toInt = -b.toInt - 1 := by
  have hb := b.isLt
  simp only [BitVec.toInt_eq_toNat_cond, BitVec.toNat_not]
  omega

/-- The carry in of an ADD or a SUB (R57). -/
theorem carryOf_eq (s : State) (p c : Nat) (sub : Bool) (opc : decide (cfgOpc ((s.flask p).cyc.ctx.cell c) = 3) = sub) :
    carryOf s p c sub.toNat = (cellCin (s.flask p).cyc c (s.freeBit p)).toNat := by
  unfold carryOf cellCin carryIn
  simp only [opc]
  generalize cfgCin ((s.flask p).cyc.ctx.cell c) = sel
  rcases sel with _ | _ | _ | _
  · rfl
  · cases sub <;> rfl
  · by_cases edge : c % 8 = 0 <;> simp [edge]
  · rfl

theorem carryOf_add {s : State} {p c : Nat} (opc : cfgOpc ((s.flask p).cyc.ctx.cell c) = 2) :
    carryOf s p c 0 = (cellCin (s.flask p).cyc c (s.freeBit p)).toNat := carryOf_eq s p c false (by rw [opc]; rfl)

theorem carryOf_sub {s : State} {p c : Nat} (opc : cfgOpc ((s.flask p).cyc.ctx.cell c) = 3) :
    carryOf s p c 1 = (cellCin (s.flask p).cyc c (s.freeBit p)).toNat := carryOf_eq s p c true (by rw [opc]; rfl)

theorem aluSub_eq (i : AluIn) : aluSub i =
    (let n := 2 ^ 32 - 1 - i.b.toNat
     let y := BitVec.ofNat 32 (i.a.toNat + n + i.cin.toNat)
     ⟨y, withZN { i.fl with
       c := decide (2 ^ 32 ≤ i.a.toNat + n + i.cin.toNat)
       ov := sumOverflows (i.a.toInt - i.b.toInt - 1 + i.cin.toNat) } y⟩) := by
  have exact : i.a.toInt - i.b.toInt - 1 = i.a.toInt + (~~~i.b).toInt := by rw [toInt_not]; omega
  rw [aluSub, aluAddB_eq, BitVec.toNat_not, exact]

/-! #### Shifts and rotates -/

/-- A bit of a word, as a digit of its number. -/
theorem getLsbD_eq_digit (a : Word) (k : Nat) : a.getLsbD k = decide (a.toNat / 2 ^ k % 2 = 1) := by
  rw [← BitVec.testBit_toNat, Nat.testBit_eq_decide_div_mod_eq]

theorem shiftLeft_eq (a : Word) (n : Nat) : a <<< n = BitVec.ofNat 32 (a.toNat * 2 ^ n) :=
  BitVec.eq_of_toNat_eq (by rw [BitVec.toNat_shiftLeft, Nat.shiftLeft_eq, BitVec.toNat_ofNat])

theorem shiftRight_eq (a : Word) (n : Nat) : a >>> n = BitVec.ofNat 32 (a.toNat / 2 ^ n) := by
  refine BitVec.eq_of_toNat_eq ?_
  rw [BitVec.toNat_ushiftRight, Nat.shiftRight_eq_div_pow, BitVec.toNat_ofNat, Nat.mod_eq_of_lt]
  exact (Nat.div_le_self _ _).trans_lt a.isLt

theorem sshiftRight_eq (a : Word) (n : Nat) : a.sshiftRight n = BitVec.ofInt 32 (a.toInt / 2 ^ n) := by
  rw [BitVec.sshiftRight, Int.shiftRight_eq_div_pow]
  norm_cast

/-- The last bit that leaves to the left: bit 32 of the shifted number. -/
theorem lastOut_left (a : Word) (n : Nat) (h : n < 32) :
    (decide (n ≠ 0) && a.getLsbD (32 - n)) = decide (a.toNat * 2 ^ n / 2 ^ 32 % 2 = 1) := by
  have split : (2 : Nat) ^ 32 = 2 ^ (32 - n) * 2 ^ n := by rw [← pow_add]; congr 1; omega
  rw [split, Nat.mul_div_mul_right _ _ (by positivity), ← getLsbD_eq_digit]
  by_cases z : n = 0
  · simp [z]
  · simp [z]

/-- The last bit that leaves to the right: the lowest of what a shift by one less leaves. -/
theorem lastOut_right (a : Word) (n : Nat) : (decide (n ≠ 0) && a.getLsbD (n - 1)) = decide (2 * a.toNat / 2 ^ n % 2 = 1) := by
  cases n with
  | zero => simp
  | succ k => rw [pow_succ', Nat.mul_div_mul_left _ _ (by decide), ← getLsbD_eq_digit]; simp

/-- Two parts of a number that share no digit. -/
theorem rotated_toNat (a n m : Nat) (h : n + m = 32) (ha : a < 2 ^ 32) :
    (a <<< n) % 2 ^ 32 ||| a >>> m = (a * 2 ^ n + a / 2 ^ m) % 2 ^ 32 := by
  have whole : (2 : Nat) ^ 32 = 2 ^ n * 2 ^ m := by rw [← pow_add, h]
  have low : a / 2 ^ m < 2 ^ n := Nat.div_lt_of_lt_mul (by rwa [mul_comm, ← whole])
  have high : a * 2 ^ n % 2 ^ 32 = 2 ^ n * (a % 2 ^ m) := by rw [whole, mul_comm a, Nat.mul_mod_mul_left]
  have fits : 2 ^ n * (a % 2 ^ m) + a / 2 ^ m < 2 ^ 32 := by
    have room : 2 ^ n * (a % 2 ^ m + 1) ≤ 2 ^ 32 := by
      rw [whole]; exact Nat.mul_le_mul_left _ (Nat.mod_lt _ (by positivity))
    rw [Nat.mul_succ] at room
    omega
  rw [Nat.shiftLeft_eq, Nat.shiftRight_eq_div_pow, high, ← Nat.two_pow_add_eq_or_of_lt low, Nat.add_mod, high,
    Nat.mod_eq_of_lt (low.trans_le (Nat.pow_le_pow_right (by decide) (by omega))), Nat.mod_eq_of_lt fits]

theorem rotateLeft_eq (a : Word) (n : Nat) (h : n < 32) :
    a.rotateLeft n = BitVec.ofNat 32 (a.toNat * 2 ^ n + a.toNat / 2 ^ (32 - n)) := by
  refine BitVec.eq_of_toNat_eq ?_
  rw [BitVec.toNat_rotateLeft, Nat.mod_eq_of_lt h, BitVec.toNat_ofNat]
  exact rotated_toNat _ _ _ (by omega) a.isLt

theorem rotateRight_eq (a : Word) (n : Nat) (h : n < 32) :
    a.rotateRight n = BitVec.ofNat 32 (a.toNat / 2 ^ n + a.toNat * 2 ^ (32 - n)) := by
  refine BitVec.eq_of_toNat_eq ?_
  rw [BitVec.toNat_rotateRight, Nat.mod_eq_of_lt h, BitVec.toNat_ofNat, Nat.or_comm, Nat.add_comm]
  exact rotated_toNat _ _ _ (by omega) a.isLt

theorem shiftBy_lt (i : AluIn) : shiftBy i < 32 := Nat.mod_lt _ (by decide)

theorem aluShl_eq (i : AluIn) : aluShl i =
    (let y := BitVec.ofNat 32 (i.a.toNat * 2 ^ shiftBy i)
     ⟨y, withZN { i.fl with c := decide (i.a.toNat * 2 ^ shiftBy i / 2 ^ 32 % 2 = 1) } y⟩) := by
  rw [aluShl, setZN_eq, lastOut_left _ _ (shiftBy_lt i), shiftLeft_eq]

theorem aluShr_eq (i : AluIn) : aluShr i =
    (let y := BitVec.ofNat 32 (i.a.toNat / 2 ^ shiftBy i)
     ⟨y, withZN { i.fl with c := decide (2 * i.a.toNat / 2 ^ shiftBy i % 2 = 1) } y⟩) := by
  rw [aluShr, setZN_eq, lastOut_right, shiftRight_eq]

theorem aluSar_eq (i : AluIn) : aluSar i =
    (let y := BitVec.ofInt 32 (i.a.toInt / 2 ^ shiftBy i)
     ⟨y, withZN { i.fl with c := decide (2 * i.a.toNat / 2 ^ shiftBy i % 2 = 1) } y⟩) := by
  rw [aluSar, setZN_eq, lastOut_right, sshiftRight_eq]

theorem aluRol_eq (i : AluIn) : aluRol i =
    (let m := i.a.toNat * 2 ^ shiftBy i + i.a.toNat / 2 ^ (32 - shiftBy i)
     ⟨BitVec.ofNat 32 m, withZN { i.fl with c := decide (m % 2 = 1) } (BitVec.ofNat 32 m)⟩) := by
  rw [aluRol, setZN_eq, rotateLeft_eq _ _ (shiftBy_lt i), BitVec.getLsbD_ofNat, Nat.testBit_zero]; rfl

theorem aluRor_eq (i : AluIn) : aluRor i =
    (let m := i.a.toNat / 2 ^ shiftBy i + i.a.toNat * 2 ^ (32 - shiftBy i)
     ⟨BitVec.ofNat 32 m, withZN { i.fl with c := decide (2 ^ 31 ≤ m % 2 ^ 32) } (BitVec.ofNat 32 m)⟩) := by
  have top (m : Nat) : (BitVec.ofNat 32 m).getLsbD 31 = decide (2 ^ 31 ≤ m % 2 ^ 32) := by
    rw [getLsbD_eq_digit, BitVec.toNat_ofNat, decide_eq_decide]; omega
  rw [aluRor, setZN_eq, rotateRight_eq _ _ (shiftBy_lt i), top]

/-! #### Fields (R46) -/

theorem fieldWidth_bounds (imm : BitVec 16) : 0 < fieldWidth imm ∧ fieldPos imm + fieldWidth imm ≤ 32 := by
  unfold fieldWidth fieldPos; omega

theorem toNat_lowMask (w : Nat) (h : w ≤ 32) : (lowMask w).toNat = 2 ^ w - 1 := by
  have := Nat.pow_le_pow_right (n := 2) (by decide) h
  rw [lowMask, BitVec.toNat_ofNat, Nat.mod_eq_of_lt (by omega)]

/-- The low `w` bits of a word. -/
theorem and_lowMask (a : Word) (w : Nat) (h : w ≤ 32) : (a &&& lowMask w).toNat = a.toNat % 2 ^ w := by
  rw [BitVec.toNat_and, toNat_lowMask w h, Nat.and_two_pow_sub_one_eq_mod]

theorem getLsbD_lowMask (w k : Nat) (h : w ≤ 32) : (lowMask w).getLsbD k = decide (k < w) := by
  rw [← BitVec.testBit_toNat, toNat_lowMask w h, Nat.testBit_two_pow_sub_one]

theorem toNat_fieldOf (a : Word) (imm : BitVec 16) : (fieldOf a imm).toNat = a.toNat / 2 ^ fieldPos imm % 2 ^ fieldWidth imm := by
  have := fieldWidth_bounds imm
  rw [fieldOf, and_lowMask _ _ (by omega), BitVec.toNat_ushiftRight, Nat.shiftRight_eq_div_pow]

theorem fieldOf_eq (a : Word) (imm : BitVec 16) :
    fieldOf a imm = BitVec.ofNat 32 (a.toNat / 2 ^ fieldPos imm % 2 ^ fieldWidth imm) := by
  rw [← toNat_fieldOf, BitVec.ofNat_toNat, BitVec.setWidth_eq]

/-- A field whose top bit is set stands for a negative number. -/
theorem signedField_eq (f : Word) (w : Nat) (pos : 0 < w) (h : w ≤ 32) (hf : f.toNat < 2 ^ w) :
    (if f.getLsbD (w - 1) then f ||| ~~~(lowMask w) else f) =
      BitVec.ofInt 32 (if 2 ^ (w - 1) ≤ f.toNat then (f.toNat : Int) - 2 ^ w else f.toNat) := by
  have top : f.getLsbD (w - 1) = decide (2 ^ (w - 1) ≤ f.toNat) := by
    have double : 2 ^ w = 2 * 2 ^ (w - 1) := by rw [← pow_succ']; congr 1; omega
    rw [getLsbD_eq_digit, decide_eq_decide]
    constructor
    · intro digit
      by_contra small
      rw [Nat.div_eq_of_lt (by omega)] at digit
      omega
    · intro large
      rw [Nat.div_eq_of_lt_le (k := 1) (by omega) (by omega)]
  rw [top]
  by_cases large : 2 ^ (w - 1) ≤ f.toNat
  · have ones : (~~~(lowMask w)).toNat = 2 ^ w * (2 ^ (32 - w) - 1) := by
      have whole : (2 : Nat) ^ 32 = 2 ^ w * 2 ^ (32 - w) := by rw [← pow_add]; congr 1; omega
      rw [BitVec.toNat_not, toNat_lowMask w h, Nat.mul_sub, ← whole]
      have := Nat.two_pow_pos w
      omega
    have upper : 2 ^ w * (2 ^ (32 - w) - 1) = 2 ^ 32 - 2 ^ w := by
      rw [Nat.mul_sub, ← pow_add, Nat.add_sub_cancel' h, mul_one]
    have room := Nat.pow_le_pow_right (n := 2) (by decide) h
    simp only [large, decide_true, if_true]
    refine BitVec.eq_of_toNat_eq ?_
    rw [BitVec.toNat_or, ones, Nat.or_comm, ← Nat.two_pow_add_eq_or_of_lt hf, upper, BitVec.toNat_ofInt]
    have cast : ((2 ^ w : Nat) : Int) = 2 ^ w := by norm_cast
    rw [← cast]
    omega
  · simp [large]

/-- A field put into a word, digit by digit. -/
theorem insertField_eq (a b : Word) (pos w : Nat) (h : pos + w ≤ 32) :
    (b &&& ~~~(lowMask w <<< pos)) ||| ((a &&& lowMask w) <<< pos) =
      BitVec.ofNat 32 (b.toNat % 2 ^ pos + a.toNat % 2 ^ w * 2 ^ pos + b.toNat / 2 ^ (pos + w) * 2 ^ (pos + w)) := by
  have low : b.toNat % 2 ^ pos < 2 ^ pos := Nat.mod_lt _ (by positivity)
  have mid : 2 ^ pos * (a.toNat % 2 ^ w) + b.toNat % 2 ^ pos < 2 ^ (pos + w) := by
    have bound : 2 ^ pos * (a.toNat % 2 ^ w + 1) ≤ 2 ^ (pos + w) := by
      rw [pow_add]; exact Nat.mul_le_mul_left _ (Nat.mod_lt _ (by positivity))
    rw [Nat.mul_succ] at bound
    omega
  have ordered : b.toNat % 2 ^ pos + a.toNat % 2 ^ w * 2 ^ pos + b.toNat / 2 ^ (pos + w) * 2 ^ (pos + w) =
      2 ^ (pos + w) * (b.toNat / 2 ^ (pos + w)) + (2 ^ pos * (a.toNat % 2 ^ w) + b.toNat % 2 ^ pos) := by ring
  refine BitVec.eq_of_getLsbD_eq fun k hk => ?_
  rw [ordered, BitVec.getLsbD_ofNat, Nat.testBit_two_pow_mul_add _ mid, Nat.testBit_two_pow_mul_add _ low]
  simp only [BitVec.getLsbD_or, BitVec.getLsbD_and, BitVec.getLsbD_not, BitVec.getLsbD_shiftLeft, getLsbD_lowMask w _ (by omega),
    Nat.testBit_mod_two_pow, Nat.testBit_div_two_pow, BitVec.testBit_toNat, hk, decide_true, Bool.true_and]
  by_cases under : k < pos
  · simp [under, show k < pos + w by omega]
  · by_cases within : k < pos + w
    · simp [under, within, show k - pos < w by omega]
    · simp [under, within, show ¬ k - pos < w by omega, show k - (pos + w) + (pos + w) = k by omega]

theorem aluExtu_eq (i : AluIn) : aluExtu i =
    (let y := BitVec.ofNat 32 (i.a.toNat / 2 ^ fieldPos i.imm % 2 ^ fieldWidth i.imm)
     ⟨y, withZN i.fl y⟩) := by
  rw [aluExtu, setZN_eq, fieldOf_eq]

theorem aluExts_eq (i : AluIn) : aluExts i =
    (let fld := i.a.toNat / 2 ^ fieldPos i.imm % 2 ^ fieldWidth i.imm
     let y := BitVec.ofInt 32 (if 2 ^ (fieldWidth i.imm - 1) ≤ fld then (fld : Int) - 2 ^ fieldWidth i.imm else fld)
     ⟨y, withZN i.fl y⟩) := by
  obtain ⟨pos, fits⟩ := fieldWidth_bounds i.imm
  have cut : (fieldOf i.a i.imm).toNat < 2 ^ fieldWidth i.imm := by
    rw [toNat_fieldOf]; exact Nat.mod_lt _ (by positivity)
  rw [aluExts, setZN_eq, signedField_eq _ _ pos (by omega) cut, toNat_fieldOf]

theorem aluIns_eq (i : AluIn) : aluIns i =
    (let pos := fieldPos i.imm
     let w := fieldWidth i.imm
     let y := BitVec.ofNat 32 (i.b.toNat % 2 ^ pos + i.a.toNat % 2 ^ w * 2 ^ pos + i.b.toNat / 2 ^ (pos + w) * 2 ^ (pos + w))
     ⟨y, withZN i.fl y⟩) := by
  rw [aluIns, setZN_eq, insertField_eq _ _ _ _ (fieldWidth_bounds i.imm).2]

/-! #### Counts -/

/-- The bits that are 1 below position `n`. -/
theorem onesBelow_eq (a : Word) (n : Nat) : onesBelow a n = ((List.range n).filter (fun i => a.getLsbD i)).length := by
  induction n with
  | zero => rfl
  | succ k ih =>
    rw [onesBelow, ih, List.range_succ, List.filter_append, List.length_append, Nat.add_comm]
    cases h : a.getLsbD k <;> simp [h]

/-- The zeros above the highest 1, by the number that stands below position `n`. -/
theorem zerosAbove_eq (a : Word) (n : Nat) :
    zerosAbove a n = if a.toNat % 2 ^ n = 0 then n else n - 1 - Nat.log2 (a.toNat % 2 ^ n) := by
  induction n with
  | zero => simp [zerosAbove, Nat.mod_one]
  | succ k ih =>
    have digits : a.toNat % 2 ^ (k + 1) = a.toNat % 2 ^ k + 2 ^ k * (a.toNat / 2 ^ k % 2) := Nat.mod_pow_succ
    have below : a.toNat % 2 ^ k < 2 ^ k := Nat.mod_lt _ (by positivity)
    rw [zerosAbove, getLsbD_eq_digit]
    by_cases one : a.toNat / 2 ^ k % 2 = 1
    · rw [one, mul_one] at digits
      have log : Nat.log2 (a.toNat % 2 ^ (k + 1)) = k := by
        have := Nat.two_pow_pos k
        rw [digits, Nat.log2_eq_iff (by omega), pow_succ]
        omega
      simp only [one, decide_true, if_true]
      rw [log, if_neg (by have := Nat.two_pow_pos k; omega)]
      omega
    · rw [show a.toNat / 2 ^ k % 2 = 0 by omega, mul_zero, add_zero] at digits
      simp only [one, decide_false]
      rw [ih, digits, if_neg (by simp)]
      split
      · omega
      · next nonzero =>
        have := (Nat.log2_lt nonzero).2 below
        omega

theorem setZ_count (m : Nat) (h : m ≤ 32) (fl : CellFlags) :
    setZ (BitVec.ofNat 32 m) fl = ⟨BitVec.ofNat 32 m, { fl with z := decide (m = 0) }⟩ := by
  simp only [setZ, BitVec.toNat_eq, BitVec.toNat_ofNat]
  rw [Nat.mod_eq_of_lt (by omega)]
  rfl

theorem aluPopc_eq (i : AluIn) : aluPopc i =
    (let m := ((List.range 32).filter (fun k => i.a.getLsbD k)).length
     ⟨BitVec.ofNat 32 m, { i.fl with z := decide (m = 0) }⟩) := by
  rw [aluPopc, onesBelow_eq, setZ_count _ ((List.length_filter_le _ _).trans_eq List.length_range)]

theorem aluClz_eq (i : AluIn) : aluClz i =
    (let m := if i.a.toNat = 0 then 32 else 31 - Nat.log2 i.a.toNat
     ⟨BitVec.ofNat 32 m, { i.fl with z := decide (m = 0) }⟩) := by
  rw [aluClz, zerosAbove_eq, Nat.mod_eq_of_lt i.a.isLt, setZ_count _ (by split <;> omega)]

/-! #### Compares and choices -/

theorem aluCompare_eq (i : AluIn) (t : Bool) : aluCompare i t = ⟨if t then 0xFFFFFFFF#32 else 0#32, { i.fl with f := t, z := !t, n := t }⟩ := by
  cases t <;> rfl

theorem aluPick_ne (i : AluIn) (chooseA : Bool) (h : i.a ≠ i.b) :
    aluPick i chooseA = ⟨if chooseA then i.a else i.b, withZN { i.fl with f := chooseA } (if chooseA then i.a else i.b)⟩ := by
  rw [aluPick, setZN_eq, if_neg h]

theorem aluPick_eq (i : AluIn) (chooseA : Bool) (h : i.a = i.b) : aluPick i chooseA = ⟨i.a, withZN { i.fl with f := i.free } i.a⟩ := by
  rw [aluPick, setZN_eq, if_pos h, ← h, ite_self]

/-! #### CRC8, PAR and LFSR (R47-R49) -/

/-- One step of reflected CRC-32C. -/
def crcStep (v : Word) : Word := if v.toNat % 2 = 1 then (v >>> 1) ^^^ 0x82F63B78#32 else v >>> 1

theorem getLsbD_zero_eq (v : Word) : v.getLsbD 0 = decide (v.toNat % 2 = 1) := by
  rw [getLsbD_eq_digit, pow_zero, Nat.div_one]

theorem crcSteps_eq (n : Nat) (v : Word) : crcSteps n v = crcStep^[n] v := by
  induction n generalizing v with
  | zero => rfl
  | succ k ih => rw [crcSteps, ih, Function.iterate_succ_apply, crcStep, getLsbD_zero_eq]; simp only [decide_eq_true_eq]

theorem crcByte_eq (a b : Word) : crcByte a (b.setWidth 8) = crcStep^[8] (a ^^^ BitVec.ofNat 32 (b.toNat % 256)) := by
  have byte : (b.setWidth 8).setWidth 32 = BitVec.ofNat 32 (b.toNat % 256) :=
    BitVec.eq_of_toNat_eq (by simp)
  rw [crcByte, crcSteps_eq, byte]

/-- A parity below a word shifted left. -/
theorem shiftIn_parity (b : Word) (m : Nat) :
    (b <<< 1) ||| (bit1 (decide (m % 2 = 1))).setWidth 32 = BitVec.ofNat 32 (2 * b.toNat + m % 2) := by
  have digit : ((bit1 (decide (m % 2 = 1))).setWidth 32).toNat = m % 2 := by
    rcases Nat.mod_two_eq_zero_or_one m with h | h <;> rw [h] <;> rfl
  have even : (b <<< 1).toNat = 2 ^ 1 * (b.toNat % 2 ^ 31) := by
    rw [BitVec.toNat_shiftLeft, Nat.shiftLeft_eq]; omega
  refine BitVec.eq_of_toNat_eq ?_
  rw [BitVec.toNat_or, digit, even, ← Nat.two_pow_add_eq_or_of_lt (by omega), BitVec.toNat_ofNat]
  omega

/-- The parity of a word is that of its count of ones. -/
theorem parityOf_eq (a : Word) : parityOf a = decide (((List.range 32).filter (fun i => a.getLsbD i)).length % 2 = 1) := by
  rw [parityOf, onesBelow_eq]

theorem aluCrc8_eq (i : AluIn) : aluCrc8 i =
    (let y := crcStep^[8] (i.a ^^^ BitVec.ofNat 32 (i.b.toNat % 256))
     ⟨y, withZN i.fl y⟩) := by
  rw [aluCrc8, setZN_eq, crcByte_eq]

theorem aluPar_eq (i : AluIn) : aluPar i =
    (let par := ((List.range 32).filter (fun k => (i.a &&& i.km).getLsbD k)).length % 2
     let y := BitVec.ofNat 32 (2 * i.b.toNat + par)
     ⟨y, withZN { i.fl with c := decide (par = 1) } y⟩) := by
  rw [aluPar, setZN_eq, parityOf_eq, shiftIn_parity]

theorem aluLfsr_eq (i : AluIn) : aluLfsr i =
    (let y := (i.a >>> 1) ^^^ (if i.a.toNat % 2 = 1 then i.k7 else 0#32)
     ⟨y, withZN { i.fl with c := decide (i.a.toNat % 2 = 1) } y⟩) := by
  rw [aluLfsr, setZN_eq, getLsbD_zero_eq]
  simp only [decide_eq_true_eq]
  rfl

/-! #### The statements -/

/-- Settles O1: a firing writes what its operation computes, sums with the carry in that the word selects. -/
theorem cellArithmeticAndLogicResult : Obligations.CellArithmeticAndLogicResult := by
  refine ⟨fun s p c => ⟨fun h => ?_, fun h => ?_⟩, fun s p c => ?_⟩
  · dsimp only
    rw [carryOf_add h.2.1]
    exact cell_writes h rfl (aluAddB_eq _ _)
  · dsimp only
    rw [carryOf_sub h.2.1]
    exact cell_writes h rfl (aluSub_eq _)
  · intro a b fl logic cmp
    exact ⟨fun h => cell_writes h rfl (setZN_eq _ _), fun h => cell_writes h rfl (setZN_eq _ _), fun h => cell_writes h rfl (setZN_eq _ _),
      fun h => cell_writes h rfl (setZN_eq _ _), fun h => cell_writes h rfl (setZN_eq _ _), fun h => cell_writes h rfl (setZN_eq _ _),
      fun h => cell_writes h rfl (by simp only [BitVec.toNat_inj]; exact aluCompare_eq _ _),
      fun h => cell_writes h rfl (by simp only [BitVec.toNat_inj, ne_eq]; exact aluCompare_eq _ _),
      fun h => cell_writes h rfl (aluCompare_eq _ _), fun h => cell_writes h rfl (aluCompare_eq _ _),
      fun h => cell_writes h rfl (aluCompare_eq _ _), fun h => cell_writes h rfl (aluCompare_eq _ _)⟩

/-- A minimum or maximum writes the chosen operand; which of two equal ones was chosen is free (log 19). -/
theorem cell_picks {s : State} {p c opc : Nat} {op : Instr} (fires : CellFires s p c opc)
    (run : exec op s = cellCommand opc p c .clean s) (chooseA : Bool)
    (picks : alu opc (cellIn (s.flask p).cyc c (s.freeBit p)) = aluPick (cellIn (s.flask p).cyc c (s.freeBit p)) chooseA)
    (push : opc ≠ 0x20 := by decide) (pop : opc ≠ 0x21 := by decide) :
    let a := operandA (s.flask p).cyc c
    let b := operandB (s.flask p).cyc c
    let fl := s.cellFlags p c
    let done (r : Word) (g : CellFlags) : Prop := Answers op s (fun t => CellWrote s t p c r (withZN g r))
    (a ≠ b → done (if chooseA then a else b) { fl with f := chooseA }) ∧ (a = b → ∃ f, done a { fl with f := f }) :=
  ⟨fun ne => cell_writes fires run (picks.trans (aluPick_ne _ _ ne)) push pop,
    fun eq => ⟨s.freeBit p c, cell_writes fires run (picks.trans (aluPick_eq _ _ eq)) push pop⟩⟩

/-- Settles O2: each of the operations computes its number, digit by digit. -/
theorem cellShiftFieldAndMinimumResult : Obligations.CellShiftFieldAndMinimumResult := by
  intro s p c y a b fl n imm pos wid fld done pick
  exact ⟨fun h => cell_writes h rfl (aluShl_eq _), fun h => cell_writes h rfl (aluShr_eq _), fun h => cell_writes h rfl (aluSar_eq _),
    fun h => cell_writes h rfl (aluRol_eq _), fun h => cell_writes h rfl (aluRor_eq _), fun h => cell_writes h rfl (aluExtu_eq _),
    fun h => cell_writes h rfl (aluExts_eq _), fun h => cell_writes h rfl (aluIns_eq _), fun h => cell_picks h rfl _ rfl,
    fun h => cell_picks h rfl _ rfl, fun h => cell_picks h rfl _ rfl, fun h => cell_picks h rfl _ rfl,
    fun h => cell_writes h rfl (aluPopc_eq _), fun h => cell_writes h rfl (aluClz_eq _)⟩

/-- Settles O3: the eight steps, the parity and the tap mask are those that the rules give. -/
theorem cellCrcParityAndLfsrResult : Obligations.CellCrcParityAndLfsrResult := by
  intro s p c y a b fl kreg done step par
  exact ⟨fun h => cell_writes h rfl (aluCrc8_eq _), fun h => cell_writes h rfl (aluPar_eq _), fun h => cell_writes h rfl (aluLfsr_eq _)⟩

end Sys2Proof.Machine

/-! ### Queue operations (R51, R52, R258) -/

namespace Sys2Proof.Machine

@[simp] theorem State.modProducer_same (s : State) (i q : Nat) (g : Producer → Producer) :
    (s.modProducer i q g).producer i q = g (s.producer i q) := by
  simp [State.modProducer, State.producer]

/-- A change of what a gate holds for a queue leaves what waits at it. -/
@[simp] theorem State.modProducer_waiting (s : State) (i q : Nat) (g : Producer → Producer) :
    ((s.modProducer i q g).gate i).waiting = (s.gate i).waiting := by
  rw [State.modProducer, State.modGate_same]

/-- A request waits behind the others of its gate, and touches no queue. -/
theorem request_at_gate (s : State) (i dest oclass tc q : Nat) (b : Body) :
    ((s.request i dest oclass tc b).gate i).waiting = (s.gate i).waiting ++ [mkPacket i dest oclass tc b] ∧
      (s.request i dest oclass tc b).producer i q = s.producer i q := by
  rw [State.producer, State.request, State.modGate_same]; exact ⟨rfl, rfl⟩

/-- What a word handed to a gate leaves unchanged: everything but the network. -/
theorem gatePush_machine (i q : Nat) (w : QWord) (s : State) : gatePush i q w s = { s with net := (gatePush i q w s).net } := by
  rw [gatePush_eq, gateSend_eq]
  split
  · split <;> rfl
  · rfl

theorem gatePush_runCtx (i q : Nat) (w : QWord) (s : State) (p : Nat) : (gatePush i q w s).runCtx p = s.runCtx p := by
  rw [gatePush_machine]; rfl

/-- A word that does not fill a PUSH is gathered for one credit. -/
theorem gatePush_gathers {i q : Nat} {w : QWord} {s : State} (few : ((s.producer i q).gather ++ [w]).length < 16) :
    (gatePush i q w s).producer i q =
        { s.producer i q with credits := (s.producer i q).credits - 1, gather := (s.producer i q).gather ++ [w] } ∧
      ((gatePush i q w s).gate i).waiting = (s.gate i).waiting := by
  rw [gatePush_eq, if_neg (by rw [gatherWord, State.modProducer_same]; exact Nat.not_le.2 few), gatherWord, State.modProducer_same,
    State.modProducer_waiting]
  exact ⟨rfl, rfl⟩

/-- The sixteenth word sends a PUSH (R258). -/
theorem gatePush_sends {i q : Nat} {w : QWord} {s : State} (full : 16 ≤ ((s.producer i q).gather ++ [w]).length) :
    ((gatePush i q w s).producer i q).credits = (s.producer i q).credits - 1 ∧
      ((gatePush i q w s).producer i q).gather = ((s.producer i q).gather ++ [w]).drop 16 ∧
      ((gatePush i q w s).gate i).waiting = (s.gate i).waiting ++
        [mkPacket i tundishNode 0 (gateClass s i q) (.push q (!(s.producer i q).midPacket) (((s.producer i q).gather ++ [w]).take 16))] := by
  have gathered : (gatherWord i q w s).producer i q =
      { s.producer i q with credits := (s.producer i q).credits - 1, gather := (s.producer i q).gather ++ [w] } :=
    State.modProducer_same ..
  have some : (((s.producer i q).gather ++ [w]).take 16).isEmpty = false := by
    rw [← Bool.not_eq_true, List.isEmpty_iff, ← List.length_eq_zero_iff, List.length_take]; omega
  have class_eq : gateClass (gatherWord i q w s) i q = gateClass s i q := rfl
  rw [gatePush_eq, gateSend_eq, gathered, if_pos full, if_neg (by simp [some]), class_eq]
  obtain ⟨waiting, producer⟩ := request_at_gate (ungather i q (((s.producer i q).gather ++ [w]).take 16) (gatherWord i q w s)) i tundishNode
    0 (gateClass s i q) q (.push q (!(s.producer i q).midPacket) (((s.producer i q).gather ++ [w]).take 16))
  rw [waiting, producer, ungather, State.modProducer_same, State.modProducer_waiting, gathered, gatherWord, State.modProducer_waiting]
  exact ⟨rfl, rfl, rfl⟩

/-- A QPUSH takes its words, then hands A to its gate. -/
theorem fireCell_qpush {s : State} {p c : Nat} (busy : idlePasses (s.flask p).cyc c = false) (opc : cfgOpc ((s.flask p).cyc.ctx.cell c) = 0x20) :
    fireCell p c s = markFired p c (gatePush (s.flaskNode p) ((operandB (s.flask p).cyc c).toNat % 2 ^ 18) (pushedWord (s.flask p).cyc c)
      ((cellTakes (s.flask p).cyc c).foldl (takeReg p) s)) := by
  have taken := wordsTaken_cell p c s
  rw [fireCell, cellEffect_qpush (by rwa [taken.cyc]) (by rwa [taken.cyc]), taken.cyc, taken.flaskNode]

@[simp] theorem markFired_gate (p e : Nat) (s : State) (i : Nat) : (markFired p e s).gate i = s.gate i := rfl

@[simp] theorem markFired_producer (p e : Nat) (s : State) (i q : Nat) : (markFired p e s).producer i q = s.producer i q := rfl

/-- A word handed to the gate once words have been taken: it uses one credit and is gathered, or sent with the fifteen before it. -/
theorem gatePush_taken {s u : State} {p : Nat} (taken : WordsTaken p s u) (c i q : Nat) (w : QWord) :
    let t := markFired p c (gatePush i q w u)
    let x := s.producer i q
    let ws : List QWord := x.gather ++ [w]
    (ws.length < 16 → t.producer i q = { x with credits := x.credits - 1, gather := ws } ∧ (t.gate i).waiting = (s.gate i).waiting) ∧
    (16 ≤ ws.length → (t.producer i q).credits = x.credits - 1 ∧ (t.producer i q).gather = ws.drop 16 ∧
      (t.gate i).waiting = (s.gate i).waiting ++ [mkPacket i tundishNode 0 (gateClass s i q) (.push q (!x.midPacket) (ws.take 16))]) ∧
    Tab.get CellFlags.reset (t.runCtx p).flags c = Tab.get CellFlags.reset (s.runCtx p).flags c ∧
    t = { s with flasks := t.flasks, net := t.net } := by
  have net : u.net = s.net := by rw [taken.machine]
  have gate : u.gate i = s.gate i := by rw [State.gate, net]; rfl
  have producer : u.producer i q = s.producer i q := by rw [State.producer, gate]; rfl
  have traffic : gateClass u i q = gateClass s i q := by rw [taken.machine]; rfl
  have machine := gatePush_machine i q w u
  dsimp only
  rw [markFired_producer, markFired_gate, markFired_runCtx, gatePush_runCtx, taken.flags, ← gate, ← producer, ← traffic]
  refine ⟨gatePush_gathers, gatePush_sends, rfl, ?_⟩
  generalize gatePush i q w u = v at *
  rw [markFired, markActed, State.modFlask, State.modFlask, machine, taken.machine]

theorem qpush_pushes (s : State) (p c : Nat) (fires : CellFires s p c 0x20) : Answers (.cellQpush p c .clean) s (fun t =>
    let y := (s.flask p).cyc
    let g := s.flaskNode p
    let q := (operandB y c).toNat % 2 ^ 18
    let x := s.producer g q
    let ws : List QWord := x.gather ++ [pushedWord y c]
    (ws.length < 16 → t.producer g q = { x with credits := x.credits - 1, gather := ws } ∧ (t.gate g).waiting = (s.gate g).waiting) ∧
    (16 ≤ ws.length → (t.producer g q).credits = x.credits - 1 ∧ (t.producer g q).gather = ws.drop 16 ∧
      (t.gate g).waiting = (s.gate g).waiting ++ [mkPacket g 81 0 (gateClass s g q) (.push q (!x.midPacket) (ws.take 16))]) ∧
    Tab.get CellFlags.reset (t.runCtx p).flags c = Tab.get CellFlags.reset (s.runCtx p).flags c ∧
    t = { s with flasks := t.flasks, net := t.net }) := by
  obtain ⟨can, opc, busy⟩ := fires
  have run : exec (.cellQpush p c .clean) s = .next (fireCell p c s) := event_of (by simp [can, opc]) _ _
  rw [fireCell_qpush busy opc] at run
  exact ⟨_, run, gatePush_taken (wordsTaken_cell p c s) c _ _ _⟩

theorem requestBy_runCtx (s : State) (who src dest oclass tc : Nat) (b : Body) (p : Nat) :
    (s.requestBy who src dest oclass tc b).runCtx p = s.runCtx p := rfl

theorem addPop_machine (p c : Nat) (s : State) : addPop p c s = { s with flasks := (addPop p c s).flasks } := rfl

theorem addPop_pops (p c : Nat) (s : State) :
    Tab.get [] ((addPop p c s).runCtx p).pops c = Tab.get [] (s.runCtx p).pops c ++ [.waiting] := by
  rw [addPop, State.modFlask_runCtx, Flask.modRunning_runCtx, Tab.get_set_same]; rfl

/-- A QPOP takes its words, adds a pop that waits, and asks the tundish for one word. -/
theorem qpop_asks (s : State) (p c : Nat) (fires : CellFires s p c 0x21) : Answers (.cellQpop p c .clean) s (fun t =>
    let g := s.flaskNode p
    Tab.get [] (t.runCtx p).pops c = Tab.get [] (s.runCtx p).pops c ++ [.waiting] ∧
    (t.gate g).waiting = (s.gate g).waiting ++
      [{ mkPacket g 81 0 0 (.pop ((operandB (s.flask p).cyc c).toNat % 2 ^ 18) 1) with who := popMark ((s.flask p).slot (s.flask p).cur).ctxId c }] ∧
    t = { s with flasks := t.flasks, net := t.net }) := by
  obtain ⟨can, opc, busy⟩ := fires
  have run : exec (.cellQpop p c .clean) s = .next (fireCell p c s) := event_of (by simp [can, opc]) _ _
  have taken := wordsTaken_cell p c s
  refine ⟨_, run, ?_⟩
  rw [fireCell, cellEffect_qpop (by rwa [taken.cyc]) (by rwa [taken.cyc]), taken.cyc, taken.flaskNode, taken.cur, taken.ctxId]
  generalize (cellTakes (s.flask p).cyc c).foldl (takeReg p) s = u at *
  have net : (addPop p c u).net = s.net := by rw [addPop, State.modFlask_net, taken.machine]
  refine ⟨?_, ?_, ?_⟩
  · rw [markFired_runCtx, requestBy_runCtx, addPop_pops, taken.pops]
  · rw [markFired_gate, State.requestBy, State.modGate_same, State.gate, net]; rfl
  · have frame := addPop_machine p c u
    generalize addPop p c u = v at *
    rw [markFired, markActed, State.modFlask, State.modFlask, State.requestBy, frame, taken.machine]
    rfl

end Sys2Proof.Machine

/-! ### Answers to pops (R52) -/

namespace Sys2Proof.Machine

/-- Context `n` of flask `p`. -/
def State.slotCtx (s : State) (p n : Nat) : Ctx := ((s.flask p).slot n).ctx

@[simp] theorem modCtx_slotCtx (s : State) (p n : Nat) (g : Ctx → Ctx) : (s.modFlask p (fun f => f.modCtx n g)).slotCtx p n = g (s.slotCtx p n) := by
  rw [State.slotCtx, State.modFlask_same, Flask.modCtx, Flask.modSlot_slot_same]; rfl

@[simp] theorem Flask.noteLoad_slot (f : Flask) (c n : Nat) : (f.noteLoad c).slot n = f.slot n := rfl

/-- A word that enters an output register of any context. -/
theorem loadOut_slotCtx (p n c : Nat) (w : TWord) (s : State) :
    (loadOut p n c w s).slotCtx p n = { s.slotCtx p n with out := Tab.set TWord.empty (s.slotCtx p n).out c w } := by
  have loaded : (loadOut p n c w s).flask p =
      (let f := (s.flask p).modCtx n (fun x => { x with out := Tab.set TWord.empty x.out c w })
       if n = (s.flask p).cur then f.noteLoad c else f) := by
    rw [loadOut, State.modFlask_same]; rfl
  rw [State.slotCtx, loaded]
  dsimp only
  split
  · rw [Flask.noteLoad_slot, Flask.modCtx, Flask.modSlot_slot_same]; rfl
  · rw [Flask.modCtx, Flask.modSlot_slot_same]; rfl

@[simp] theorem putS_slotCtx (p c ix : Nat) (v : Word) (s : State) (n : Nat) : (putS p c ix v s).slotCtx p n = s.slotCtx p n := by
  rw [State.slotCtx, putS, State.modFlask_same]; rfl

/-- Contention is noted in the status word of the running context alone. -/
theorem markContention_slotCtx (p : Nat) (s : State) (n : Nat) : ∃ st, (markContention p s).slotCtx p n = { s.slotCtx p n with status := st } := by
  rw [State.slotCtx, markContention, State.modFlask_same]
  by_cases e : n = (s.flask p).cur
  · subst e; rw [Flask.modRunning_slot]; exact ⟨_, rfl⟩
  · rw [Flask.modRunning_slot_ne _ _ _ e]; exact ⟨_, rfl⟩

/-- A write of an S register changes of any context the status word alone. -/
theorem writeS_slotCtx (p c ix : Nat) (v : Word) (s : State) (n : Nat) :
    ∃ st, (writeS p c ix v s).slotCtx p n = { s.slotCtx p n with status := st } := by
  obtain ⟨s', hs, hw⟩ := writeS_cases p c ix v s
  have marked : ∃ st, s'.slotCtx p n = { s.slotCtx p n with status := st } := by
    rcases hs with rfl | rfl
    · exact ⟨_, rfl⟩
    · exact markContention_slotCtx p s n
  rcases hw with e | e <;> rw [e]
  · exact marked
  · rwa [putS_slotCtx]

theorem writeS_onlyFlasks (p c ix : Nat) (v : Word) (s : State) : OnlyFlasksAndNet s (writeS p c ix v s) := by
  obtain ⟨s', rfl | rfl, e | e⟩ := writeS_cases p c ix v s <;> rw [e] <;> rfl

/-- A word that was popped stands in flags, K and the queue of pops of its cell. -/
def takePop (p n c : Nat) (q : QWord) (rest : List PopSlot) (s : State) : State :=
  let x0 := ((s.flask p).slot n).ctx
  let w := x0.cell c
  s.modFlask p (fun f => f.modCtx n (fun x => { x with
    flags := Tab.set CellFlags.reset x.flags c { Tab.get CellFlags.reset x0.flags c with f := true }
    k := if cfgKwe w then Tab.set 0 x.k (8 * c + cfgKdst w) q.d else x.k
    pops := Tab.set [] x.pops c rest }))

/-- A word at the head of a cell's pops is delivered to a free output register. -/
theorem deliverPop_word {p n c : Nat} {q : QWord} {rest : List PopSlot} {s : State} (head : Tab.get [] (s.slotCtx p n).pops c = .word q :: rest)
    (free : (Tab.get TWord.empty (s.slotCtx p n).out c).v = false) : deliverPop p n c s =
      (let u := loadOut p n c (mkTWord q.d q.l q.i) (takePop p n c q rest s)
       if cfgSwe ((s.slotCtx p n).cell c) then writeS p c (cfgSdst ((s.slotCtx p n).cell c)) q.d u else u) := by
  unfold State.slotCtx at *
  unfold deliverPop
  dsimp only
  rw [head]
  exact if_neg (by simp [free])

/-- An answer without a word clears F. -/
theorem deliverPop_empty {p n c : Nat} {rest : List PopSlot} {s : State} (head : Tab.get [] (s.slotCtx p n).pops c = .empty :: rest) :
    deliverPop p n c s = s.modFlask p (fun f => f.modCtx n (fun x => { x with
      flags := Tab.set CellFlags.reset x.flags c { Tab.get CellFlags.reset (s.slotCtx p n).flags c with f := false }
      pops := Tab.set [] x.pops c rest })) := by
  unfold State.slotCtx at *
  unfold deliverPop
  dsimp only
  rw [head]

/-- Pops that wait deliver nothing. -/
theorem deliverPops_waiting {p n c m : Nat} {s : State} (waits : Tab.get [] (s.slotCtx p n).pops c = List.replicate m .waiting) (j : Nat) :
    deliverPops p n c j s = s := by
  have still : deliverPop p n c s = s := by
    unfold State.slotCtx at *
    unfold deliverPop
    dsimp only
    rw [waits]
    cases m <;> rfl
  induction j with
  | zero => rfl
  | succ j ih => rw [deliverPops, still, ih]

/-- The context to which a word was delivered, and the frame. -/
theorem deliverPop_word_ctx {p n c : Nat} {q : QWord} {rest : List PopSlot} {s : State}
    (head : Tab.get [] (s.slotCtx p n).pops c = .word q :: rest) (free : (Tab.get TWord.empty (s.slotCtx p n).out c).v = false) :
    Tab.get [] ((deliverPop p n c s).slotCtx p n).pops c = rest ∧
      Tab.get TWord.empty ((deliverPop p n c s).slotCtx p n).out c = mkTWord q.d q.l q.i ∧
      Tab.get CellFlags.reset ((deliverPop p n c s).slotCtx p n).flags c =
        { Tab.get CellFlags.reset (s.slotCtx p n).flags c with f := true } ∧
      OnlyFlasksAndNet s (deliverPop p n c s) := by
  have loaded := loadOut_slotCtx p n c (mkTWord q.d q.l q.i) (takePop p n c q rest s)
  rw [takePop, modCtx_slotCtx] at loaded
  have frame : OnlyFlasksAndNet s (loadOut p n c (mkTWord q.d q.l q.i) (takePop p n c q rest s)) := rfl
  have stands : ∃ st, (deliverPop p n c s).slotCtx p n =
      { (loadOut p n c (mkTWord q.d q.l q.i) (takePop p n c q rest s)).slotCtx p n with status := st } ∧
      OnlyFlasksAndNet s (deliverPop p n c s) := by
    rw [deliverPop_word head free]
    dsimp only
    split
    · obtain ⟨st, wrote⟩ := writeS_slotCtx p c (cfgSdst ((s.slotCtx p n).cell c)) q.d
        (loadOut p n c (mkTWord q.d q.l q.i) (takePop p n c q rest s)) n
      exact ⟨st, wrote, frame.trans (writeS_onlyFlasks ..)⟩
    · exact ⟨_, rfl, frame⟩
  obtain ⟨st, ctx, only⟩ := stands
  rw [takePop, loaded] at ctx
  rw [ctx, Tab.get_set_same, Tab.get_set_same, Tab.get_set_same]
  exact ⟨rfl, rfl, rfl, only⟩

/-- The answer joins the pops of its cell, in the place of the oldest that waits. -/
def putAnswer (p n c : Nat) (a : PopSlot) (pops : List PopSlot) (s : State) : State :=
  s.modFlask p (fun f => f.modCtx n (fun x => { x with pops := Tab.set [] x.pops c (answerPop a pops) }))

/-- The answer that the gate of flask `p` has for a pop is taken. -/
def takePopAnswer (s : State) (p n c : Nat) (st : PopStatus) (w : QWord) : State :=
  s.takeAnswer (s.flaskNode p) (popMark ((s.flask p).slot n).ctxId c) (.popResp st (if st = .ok || st = .idle then [w] else []))

/-- QPOP_RESULT by its cases: a poisoned word and one of bad parity stop the flask, another answer is delivered (R52, R63). -/
theorem exec_qpopResult {s : State} {p n c : Nat} {st : PopStatus} {w : QWord} (live : s.flaskLive p = true)
    (waits : .waiting ∈ Tab.get [] (s.slotCtx p n).pops c) (come : PopAnswered s p n c st w) :
    exec (.qpopResult p n c st w false) s = .next
      (if (st = .ok || st = .idle) && w.p then flaskFatal 0x4104 p c (takePopAnswer s p n c st w)
       else deliverPops p n c 4 (putAnswer p n c (if st = .ok || st = .idle then .word w else .empty) (Tab.get [] (s.slotCtx p n).pops c)
         (takePopAnswer s p n c st w))) := by
  have none (b : Bool) : (b && false) = false := Bool.and_false b
  change execQpopResult p n c st w false s = _
  unfold execQpopResult
  dsimp only
  rw [none, if_neg Bool.false_ne_true]
  refine event_of ?_ _ _
  rw [live, come, Bool.true_and, Bool.and_true, List.contains_iff_mem]
  exact waits

theorem takePopAnswer_slotCtx (s : State) (p n c : Nat) (st : PopStatus) (w : QWord) :
    (takePopAnswer s p n c st w).slotCtx p n = s.slotCtx p n := rfl

/-- Where only waiting pops stand, the answer is the first. -/
theorem putAnswer_ctx (p n c m : Nat) (a : PopSlot) (s : State) : (putAnswer p n c a (List.replicate (m + 1) .waiting) s).slotCtx p n =
    { s.slotCtx p n with pops := Tab.set [] (s.slotCtx p n).pops c (a :: List.replicate m .waiting) } := by
  rw [putAnswer, modCtx_slotCtx]; rfl

theorem qpopResult_delivers (s : State) (p n c m : Nat) (st : PopStatus) (w : QWord) (live : s.flaskLive p = true)
    (waits : Tab.get [] (s.slotCtx p n).pops c = List.replicate (m + 1) .waiting)
    (free : (Tab.get TWord.empty (s.slotCtx p n).out c).v = false) (clean : w.p = false) (come : PopAnswered s p n c st w) :
    Answers (.qpopResult p n c st w false) s (fun t =>
      let x := t.slotCtx p n
      let x0 := s.slotCtx p n
      let fl := Tab.get CellFlags.reset x0.flags c
      Tab.get [] x.pops c = List.replicate m .waiting ∧
      (st = .ok ∨ st = .idle → Tab.get TWord.empty x.out c = mkTWord w.d w.l w.i ∧ Tab.get CellFlags.reset x.flags c = { fl with f := true }) ∧
      (st ≠ .ok ∧ st ≠ .idle → x.out = x0.out ∧ Tab.get CellFlags.reset x.flags c = { fl with f := false }) ∧
      t = { s with flasks := t.flasks, net := t.net }) := by
  refine ⟨_, exec_qpopResult live (by rw [waits]; exact List.mem_cons_self) come, ?_⟩
  rw [clean, Bool.and_false, if_neg Bool.false_ne_true, waits]
  have taken : OnlyFlasksAndNet s (takePopAnswer s p n c st w) := rfl
  have same := takePopAnswer_slotCtx s p n c st w
  generalize takePopAnswer s p n c st w = u at *
  by_cases word : st = .ok ∨ st = .idle
  · rw [if_pos (by simpa using word)]
    have put := putAnswer_ctx p n c m (.word w) u
    have only : OnlyFlasksAndNet u (putAnswer p n c (.word w) (List.replicate (m + 1) .waiting) u) := rfl
    generalize putAnswer p n c (.word w) (List.replicate (m + 1) .waiting) u = v at *
    rw [same] at put
    obtain ⟨pops, out, flags, frame⟩ := @deliverPop_word_ctx p n c w (List.replicate m .waiting) v
      (by rw [put, Tab.get_set_same]) (by rw [put]; exact free)
    rw [deliverPops, deliverPops_waiting pops 3]
    refine ⟨pops, fun _ => ⟨out, by rw [flags, put]⟩, fun no => ?_, (taken.trans only).trans frame⟩
    exact (word.elim no.1 no.2).elim
  · rw [if_neg (by simpa using word)]
    have put := putAnswer_ctx p n c m .empty u
    have only : OnlyFlasksAndNet u (putAnswer p n c .empty (List.replicate (m + 1) .waiting) u) := rfl
    generalize putAnswer p n c .empty (List.replicate (m + 1) .waiting) u = v at *
    rw [same] at put
    have delivered := @deliverPop_empty p n c (List.replicate m .waiting) v (by rw [put, Tab.get_set_same])
    have ctx : (deliverPop p n c v).slotCtx p n = { s.slotCtx p n with
        flags := Tab.set CellFlags.reset (s.slotCtx p n).flags c { Tab.get CellFlags.reset (s.slotCtx p n).flags c with f := false }
        pops := Tab.set [] (v.slotCtx p n).pops c (List.replicate m .waiting) } := by
      rw [delivered, modCtx_slotCtx, put]
    have pops : Tab.get [] ((deliverPop p n c v).slotCtx p n).pops c = List.replicate m .waiting := by rw [ctx, Tab.get_set_same]
    rw [deliverPops, deliverPops_waiting pops 3]
    refine ⟨pops, fun yes => absurd yes word, fun _ => ⟨by rw [ctx], by rw [ctx, Tab.get_set_same]⟩, ?_⟩
    rw [delivered]
    exact (taken.trans only).modFlask p _

/-- Settles O4: what a word handed to the gate does there, what a pop adds, and what an answer delivers. -/
theorem cellQueueOperations : Obligations.CellQueueOperations :=
  ⟨qpush_pushes, qpop_asks, qpopResult_delivers⟩

end Sys2Proof.Machine

/-! ### A flask that stops (R63, R87) -/

namespace Sys2Proof.Machine

/-- Nothing of the machine has changed but the network. -/
def OnlyNet (s t : State) : Prop := t = { s with net := t.net }

theorem OnlyNet.refl (s : State) : OnlyNet s s := rfl

theorem OnlyNet.trans {s t u : State} (h : OnlyNet s t) (k : OnlyNet t u) : OnlyNet s u := by
  unfold OnlyNet at *; rw [k, h]

theorem OnlyNet.modGate (s : State) (i : Nat) (g : Gate → Gate) : OnlyNet s (s.modGate i g) := rfl

theorem OnlyNet.flask {s t : State} (h : OnlyNet s t) (p : Nat) : t.flask p = s.flask p := by rw [h]; rfl

theorem OnlyNet.cru {s t : State} (h : OnlyNet s t) (p : Nat) : t.cru p = s.cru p := by rw [h]; rfl

theorem OnlyNet.chill {s t : State} (h : OnlyNet s t) : t.chill = s.chill := by rw [h]

theorem onlyNet_foldl {α : Type} {step : State → α → State} (h : ∀ s a, OnlyNet s (step s a)) :
    ∀ (l : List α) (s : State), OnlyNet s (l.foldl step s)
  | [], s => .refl s
  | a :: l, s => (h s a).trans (onlyNet_foldl h l (step s a))

theorem onlyNet_gateSend (i q : Nat) (s : State) : OnlyNet s (gateSend i q s) := by
  rw [gateSend_eq]
  split
  · exact .refl s
  · exact (OnlyNet.modGate s i _).trans (.modGate _ i _)

theorem onlyNet_gateAbandon (i : Nat) (s : State) : OnlyNet s (gateAbandon i s) := by
  refine onlyNet_foldl (fun u q => ?_) _ s
  unfold gateAbandonOne
  dsimp only
  split
  · exact (onlyNet_gateSend i q u).trans ((OnlyNet.modGate _ i _).trans (.modGate _ i _))
  · exact onlyNet_gateSend i q u

theorem onlyNet_closePort (r n : Nat) (s : State) : OnlyNet s (closePort r n s) := by
  unfold closePort
  split
  · rfl
  · rfl

theorem reportsOf_le_policyFails (p reason : Nat) (s : State) (code kind oid : Nat) :
    reportsOf s code kind oid ≤ reportsOf (policyFails p reason s) code kind oid := by
  unfold policyFails
  split
  · exact Nat.le_refl _
  · exact reportsOf_le_report _ s code kind oid

/-- The intake alone is counted. -/
theorem reportsOf_congr {s t : State} (h : t.chill = s.chill) (code kind oid : Nat) : reportsOf t code kind oid = reportsOf s code kind oid := by
  rw [reportsOf, reportsOf, h]

/-- The recast of row `y` is ABORTED and its flasks have their roles again. -/
def returnRoles (y : Nat) (result : BitVec 8) (s : State) : State :=
  ((s.modRecast y (fun r => { r with st := .aborted, result := result, dirty := [] })).modFlask (s.recast y).source
      (fun f => if f.role = .recastSource then { f with role := .active } else f)).modFlask (s.recast y).target
    (fun f => if f.role = .recastTarget then { f with role := .spareIdle } else f)

theorem abortRecast_eq (y : Nat) (result : BitVec 8) (s : State) : abortRecast y result s =
    if (s.recast y).byPolicy then policyFails (s.recast y).source (0x10 + result.toNat) (returnRoles y result s) else returnRoles y result s := rfl

theorem returnRoles_chill (y : Nat) (result : BitVec 8) (s : State) : (returnRoles y result s).chill = s.chill := rfl

/-- A recast that ends takes no error from the intake. -/
theorem reportsOf_le_abortRecast (y : Nat) (result : BitVec 8) (s : State) (code kind oid : Nat) :
    reportsOf s code kind oid ≤ reportsOf (abortRecast y result s) code kind oid := by
  rw [abortRecast_eq, ← reportsOf_congr (returnRoles_chill y result s)]
  split
  · exact reportsOf_le_policyFails _ _ _ code kind oid
  · exact Nat.le_refl _

/-- A recast of which the stopping flask is the source ends first (R129). -/
def endRecast (p : Nat) (s : State) : State :=
  if s.recasting (p / 9) && (s.recast (p / 9)).source = p then abortRecast (p / 9) 4 s else s

/-- The flask and its crucible stand still. -/
def stopFlask (p : Nat) (s : State) : State :=
  (s.modFlask p (fun f => { f with role := .stopped, cur := 16, nxt := 16, cyc := .reset })).modCru p (fun c => { c with st := .stopped })

theorem stopFlask_flask (p : Nat) (s : State) :
    (stopFlask p s).flask p = { s.flask p with role := .stopped, cur := 16, nxt := 16, cyc := .reset } := by
  rw [stopFlask, State.modCru_flask, State.modFlask_same]

theorem stopFlask_cru (p : Nat) (s : State) : ((stopFlask p s).cru p).st = .stopped := by
  rw [stopFlask, State.modCru_same]

theorem stopFlask_chill (p : Nat) (s : State) : (stopFlask p s).chill = s.chill := rfl

/-- Once the recast has ended and the flask has stopped, its gate gives up its pushes and its port closes. -/
theorem flaskHalt_onlyNet (p : Nat) (s : State) : OnlyNet (stopFlask p (endRecast p s)) (flaskHalt p s) :=
  (onlyNet_gateAbandon (s.flaskNode p) _).trans (onlyNet_closePort (p / 9) (p % 9) _)

theorem reportsOf_le_flaskHalt (p : Nat) (s : State) (code kind oid : Nat) :
    reportsOf s code kind oid ≤ reportsOf (flaskHalt p s) code kind oid := by
  rw [reportsOf_congr ((flaskHalt_onlyNet p s).chill.trans (stopFlask_chill ..))]
  unfold endRecast
  split
  · exact reportsOf_le_abortRecast _ _ s code kind oid
  · exact Nat.le_refl _

/-- A fatal fault stops the flask and its crucible and is reported. -/
theorem flaskFatal_stops (code p detail : Nat) (s : State) : FlaskStopped s (flaskFatal code p detail s) p code := by
  have halted := flaskHalt_onlyNet p (reportFlask code p detail s)
  have reported : Reports s (reportFlask code p detail s) code 1 p := reports_reportAt _ _ _ _ _ _
  refine ⟨?_, ?_, ?_, reported.mono (reportsOf_le_flaskHalt p _ code 1 p)⟩
  · rw [flaskFatal, halted.flask, stopFlask_flask]
  · rw [flaskFatal, halted.cru, stopFlask_cru]
  · rw [flaskFatal, halted.flask, stopFlask_flask]

/-! ### Faults and frame of a cell (R63, R86, R87) -/

/-- Every command of a cell is the firing of its operation. -/
theorem exec_fabricOp (p c : Nat) (ev : FabEv) (s : State) : ∀ e ∈ fabricOps, exec (e.2 p c ev) s = cellCommand e.1 p c ev s := by
  intro e he
  fin_cases he <;> rfl

/-- Where the cell fires, what physics does to it decides. -/
theorem exec_fabricOp_fires {s : State} {p c : Nat} {e : Nat × (Nat → Nat → FabEv → Instr)} (he : e ∈ fabricOps) (fires : CellFires s p c e.1)
    (ev : FabEv) : exec (e.2 p c ev) s = .next (fireCellEv p c ev s) := by
  obtain ⟨can, opc, -⟩ := fires
  rw [exec_fabricOp p c ev s e he]
  exact event_of (by simp [can, opc]) _ _

theorem fireCellEv_corrected {p c : Nat} {s : State} (reads : readsBank (s.flask p).cyc.ctx c = true) :
    fireCellEv p c .corrected s = fireCell p c (reportFlask 0x1102 p c s) := if_pos reads

theorem fireCellEv_uncorrectable {p c : Nat} {s : State} (reads : readsBank (s.flask p).cyc.ctx c = true) :
    fireCellEv p c .uncorrectable s = flaskFatal 0x4106 p c s := if_pos reads

theorem fireCellEv_unread {p c : Nat} {s : State} (reads : readsBank (s.flask p).cyc.ctx c = false) :
    fireCellEv p c .uncorrectable s = fireCell p c s := if_neg (by simp [reads])

/-- A report changes the log alone. -/
theorem reportAt_machine (code kind oid : Nat) (aux : Word) (detail : DWord) (s : State) :
    reportAt code kind oid aux detail s = { s with chill := (reportAt code kind oid aux detail s).chill } := by
  unfold reportAt report
  dsimp only
  split <;> rfl

/-- Which cells fire does not hang on the log. -/
theorem cellCanFire_reportAt (code kind oid : Nat) (aux : Word) (detail : DWord) (s : State) (p c : Nat) :
    cellCanFire (reportAt code kind oid aux detail s) p c = cellCanFire s p c := by
  rw [reportAt_machine]; rfl

theorem cell_faults (s : State) (p c : Nat) (e : Nat × (Nat → Nat → FabEv → Instr)) (he : e ∈ fabricOps) (fires : CellFires s p c e.1) :
    Answers (e.2 p c .parity) s (fun t => FlaskStopped s t p 0x4103) ∧
    (readsBank (s.flask p).cyc.ctx c = true → Answers (e.2 p c .uncorrectable) s (fun t => FlaskStopped s t p 0x4106)) ∧
    (readsBank (s.flask p).cyc.ctx c = true →
      exec (e.2 p c .corrected) s = exec (e.2 p c .clean) (reportAt 0x1102 1 p (flaskAux s p) (BitVec.ofNat 64 c) s)) ∧
    (readsBank (s.flask p).cyc.ctx c = false → exec (e.2 p c .uncorrectable) s = exec (e.2 p c .clean) s) := by
  refine ⟨⟨_, exec_fabricOp_fires he fires _, flaskFatal_stops ..⟩, fun reads => ⟨_, exec_fabricOp_fires he fires _, ?_⟩, fun reads => ?_,
    fun reads => ?_⟩
  · rw [fireCellEv_uncorrectable reads]; exact flaskFatal_stops ..
  · have still : CellFires (reportAt 0x1102 1 p (flaskAux s p) (BitVec.ofNat 64 c) s) p c e.1 := by
      rw [CellFires, cellCanFire_reportAt, reportAt_flask]; exact fires
    rw [exec_fabricOp_fires he fires, exec_fabricOp_fires he still, fireCellEv_corrected reads]
    rfl
  · rw [exec_fabricOp_fires he fires, exec_fabricOp_fires he fires, fireCellEv_unread reads]
    rfl

theorem poisonedPop_stops (s : State) (p n c : Nat) (w : QWord) (live : s.flaskLive p = true)
    (waits : .waiting ∈ Tab.get [] (s.slotCtx p n).pops c) (poison : w.p = true) (come : PopAnswered s p n c .ok w) :
    Answers (.qpopResult p n c .ok w false) s (fun t => FlaskStopped s t p 0x4104) := by
  refine ⟨_, exec_qpopResult live waits come, ?_⟩
  rw [if_pos (by simp [poison])]
  obtain ⟨role, cru, cur, reported⟩ := flaskFatal_stops 0x4104 p c (takePopAnswer s p n c .ok w)
  exact ⟨role, cru, cur, reported.of_chill rfl⟩

theorem cell_frame (s t : State) (p c : Nat) (e : Nat × (Nat → Nat → FabEv → Instr)) (he : e ∈ fabricOps)
    (run : exec (e.2 p c .clean) s = .next t) : FiringFrame p c s t := by
  rw [exec_fabricOp p c .clean s e he, cellCommand, event] at run
  cases run
  split
  · exact fireCell_frame p c s
  · exact .refl p c s

/-- Settles O5: what a fault does to a firing, and what any firing leaves. -/
theorem cellFaultsAndFrame : Obligations.CellFaultsAndFrame := by
  refine ⟨⟨cell_faults, poisonedPop_stops⟩, fun s t p c e he run => ?_⟩
  obtain ⟨machine, net, gates, others, own⟩ := cell_frame s t p c e he run
  obtain ⟨rest, -, slots, flags, k, sregs⟩ := own
  exact ⟨machine, net, gates, others, rest, slots, flags, k, sregs⟩

end Sys2Proof.Machine

/-! # Block memory ports (R71-R87) -/

namespace Sys2Proof.Machine

/-! ### Fields of a block memory word (R77) -/

/-- A memory as a string of fields has the field that an address names where the port finds it. -/
theorem aspect_place {asp : Nat} (h : asp ≤ 3) (a : Nat) :
    aspectBits asp = aspectWidth asp ∧ aspectWord asp a = a * aspectWidth asp / 32 % 1024 ∧ aspectShift asp a = a * aspectWidth asp % 32 := by
  interval_cases asp <;> simp [aspectBits, aspectWidth, aspectWord, aspectShift] <;> omega

/-- The field a read takes out of its word. -/
theorem readField_eq {asp : Nat} (h : asp ≤ 3) (mem : Tab Word) (a : Nat) :
    (Tab.get 0 mem (aspectWord asp a) >>> aspectShift asp a) &&& lowMask (aspectBits asp) = BitVec.ofNat 32 (bmField mem (aspectWidth asp) a) := by
  obtain ⟨bits, word, shift⟩ := aspect_place h a
  have narrow : aspectBits asp ≤ 32 := by interval_cases asp <;> decide
  rw [bmField, ← word, ← shift, ← bits, ← Nat.shiftRight_eq_div_pow, ← BitVec.toNat_ushiftRight, ← and_lowMask _ _ narrow, BitVec.ofNat_toNat,
    BitVec.setWidth_eq]

/-- The whole words that a ganged access moves. -/
theorem wholeField_eq (v : Word) : (v >>> 0) &&& lowMask 32 = v :=
  BitVec.eq_of_toNat_eq (by
    rw [and_lowMask _ _ (Nat.le_refl 32), BitVec.ushiftRight_zero]; exact Nat.mod_eq_of_lt v.isLt)

/-- Fields of one aspect either are the same or share no bit, and a field lies within its word. -/
theorem fields_apart {asp : Nat} (h : asp ≤ 3) (f a : Nat) :
    let w := aspectWidth asp
    f * w % 32 + w ≤ 32 ∧ (f * w % 32 = a * w % 32 ∨ f * w % 32 + w ≤ a * w % 32 ∨ a * w % 32 + w ≤ f * w % 32) := by
  interval_cases asp <;> simp [aspectWidth] <;> omega

/-- A field of the memory is the one that an address names, where word and place are the same. -/
theorem field_named {asp : Nat} (h : asp ≤ 3) {f a : Nat} (hf : f * aspectWidth asp < 32768) :
    (f * aspectWidth asp / 32 % 1024 = a * aspectWidth asp / 32 % 1024 ∧ f * aspectWidth asp % 32 = a * aspectWidth asp % 32) ↔
      f = a % (32768 / aspectWidth asp) := by
  interval_cases asp <;> simp [aspectWidth] at hf ⊢ <;> omega

/-- A word with one field of it replaced. -/
def withField (v d : Word) (w sh : Nat) : Word := (v &&& ~~~(lowMask w <<< sh)) ||| ((d <<< sh) &&& (lowMask w <<< sh))

/-- The field that was replaced, and another one. -/
theorem withField_field (v d : Word) {w sh at' : Nat} (hs : sh + w ≤ 32) (ha : at' + w ≤ 32) (apart : at' = sh ∨ at' + w ≤ sh ∨ sh + w ≤ at') :
    (withField v d w sh).toNat / 2 ^ at' % 2 ^ w = if at' = sh then d.toNat % 2 ^ w else v.toNat / 2 ^ at' % 2 ^ w := by
  have digit (k : Nat) (hk : k < w) : (withField v d w sh).getLsbD (k + at') = if at' = sh then d.getLsbD k else v.getLsbD (k + at') := by
    simp only [withField, BitVec.getLsbD_or, BitVec.getLsbD_and, BitVec.getLsbD_not, BitVec.getLsbD_shiftLeft,
      getLsbD_lowMask w _ (show w ≤ 32 by omega), show k + at' < 32 by omega, decide_true, Bool.true_and]
    by_cases same : at' = sh
    · simp [same, hk]
    · by_cases below : k + at' < sh
      · simp [same, below]
      · simp [same, below, show ¬ k + at' - sh < w by omega]
  refine Nat.eq_of_testBit_eq fun k => ?_
  by_cases hk : k < w
  · have := digit k hk
    split <;> simp_all [Nat.testBit_mod_two_pow, Nat.testBit_div_two_pow, BitVec.testBit_toNat]
  · split <;> simp [Nat.testBit_mod_two_pow, hk]

/-- A write of one field, seen as fields (R77, R82). -/
theorem bmField_write {asp : Nat} (h : asp ≤ 3) (mem : Tab Word) (d : Word) (a f : Nat) (hf : f * aspectWidth asp < 32768) :
    bmField (Tab.modify 0 mem (aspectWord asp a) (fun v => withField v d (aspectBits asp) (aspectShift asp a))) (aspectWidth asp) f =
      if f = a % (32768 / aspectWidth asp) then d.toNat % 2 ^ aspectWidth asp else bmField mem (aspectWidth asp) f := by
  obtain ⟨bits, word, shift⟩ := aspect_place h a
  obtain ⟨fits, apart⟩ := fields_apart h f a
  have named := field_named h (a := a) hf
  rw [bits, word, shift]
  unfold bmField
  by_cases same : f * aspectWidth asp / 32 % 1024 = a * aspectWidth asp / 32 % 1024
  · rw [same, Tab.get_modify_same, withField_field _ _ (fields_apart h a f).1 fits apart]
    simp only [← named, same, true_and]
  · rw [Tab.get_modify_ne _ _ _ _ _ same, if_neg (fun e => same (named.2 e).1)]

/-! ### A read of a port (R79, R81) -/

/-- The read of port `n` as it fires: its data are on their way. -/
def portReads (p n : Nat) (y : Cycle) (s : State) : State :=
  let h := portHalf y.ctx n
  let a := regWord y (128 + portAddrSel h)
  let v := (Tab.get 0 (y.bm (n / 2)) (portWord y n) >>> aspectShift (portAspect h) a.d.toNat) &&& lowMask (aspectBits (portAspect h))
  s.modFlask p (fun f => f.modRunning (fun x =>
    let pipe := Tab.set TWord.empty x.bmPipe n (mkTWord v a.l false)
    { x with
      bmRd := if ganged y.ctx n then Tab.set TWord.empty (Tab.set TWord.empty x.bmRd n (Tab.get .empty y.ctx.bmPipe n)) (n + 1) (Tab.get .empty y.ctx.bmPipe (n + 1))
        else Tab.set TWord.empty x.bmRd n (Tab.get .empty y.ctx.bmPipe n)
      bmPipe := if ganged y.ctx n then Tab.set TWord.empty pipe (n + 1) (mkTWord (Tab.get 0 (y.bm (n / 2)) (portWord y n + 1)) a.l false) else pipe
      bmAddr := Tab.set TWord.empty x.bmAddr n a }))

theorem firePortRead_eq (p n : Nat) (s : State) : firePortRead p n s =
    markFired p (136 + n) (portReads p n (s.flask p).cyc (takeReg p s (128 + portAddrSel (portHalf (s.flask p).cyc.ctx n)))) := rfl

theorem portReads_flask (p n : Nat) (y : Cycle) (s : State) :
    ((portReads p n y s).flask p).cyc = (s.flask p).cyc ∧ ∀ m, ((portReads p n y s).flask p).bm m = (s.flask p).bm m := by
  rw [portReads, State.modFlask_same]; exact ⟨rfl, fun _ => rfl⟩

/-- What a port's access puts on its way (R79). -/
theorem portReads_pipe (p n : Nat) (y : Cycle) (s : State) :
    let h := portHalf y.ctx n
    let a := regWord y (128 + portAddrSel h)
    Tab.get TWord.empty ((portReads p n y s).runCtx p).bmPipe n = mkTWord ((Tab.get 0 (y.bm (n / 2)) (portWord y n) >>>
        aspectShift (portAspect h) a.d.toNat) &&& lowMask (aspectBits (portAspect h))) a.l false ∧
      (ganged y.ctx n = true → Tab.get TWord.empty ((portReads p n y s).runCtx p).bmPipe (n + 1) =
        mkTWord (Tab.get 0 (y.bm (n / 2)) (portWord y n + 1)) a.l false) := by
  rw [portReads, State.modFlask_runCtx, Flask.modRunning_runCtx]
  dsimp only
  refine ⟨?_, fun g => by rw [if_pos g, Tab.get_set_same]⟩
  split
  · rw [Tab.get_set_ne _ _ _ _ _ (by omega), Tab.get_set_same]
  · rw [Tab.get_set_same]

/-- A cycle's mark of what has fired touches neither memories nor the words that a read has corrected. -/
theorem markFired_keeps (p e : Nat) (s : State) : ((markFired p e s).flask p).cyc.corrected = (s.flask p).cyc.corrected ∧
    ∀ m, ((markFired p e s).flask p).bm m = (s.flask p).bm m := by
  rw [markFired_flask]; exact ⟨rfl, fun _ => rfl⟩

/-- What a read leaves: the memories, and what the cycle has corrected. -/
theorem firePortRead_keeps (p n : Nat) (s : State) :
    ((firePortRead p n s).flask p).cyc.corrected = (s.flask p).cyc.corrected ∧
      (∀ m, ((firePortRead p n s).flask p).bm m = (s.flask p).bm m) ∧ firePortRead p n s = { s with flasks := (firePortRead p n s).flasks } := by
  have taken := wordsTaken_takeReg p s (128 + portAddrSel (portHalf (s.flask p).cyc.ctx n))
  rw [firePortRead_eq]
  generalize takeReg p s (128 + portAddrSel (portHalf (s.flask p).cyc.ctx n)) = u at *
  obtain ⟨cyc, bm⟩ := portReads_flask p n (s.flask p).cyc u
  obtain ⟨corrected, mem⟩ := markFired_keeps p (136 + n) (portReads p n (s.flask p).cyc u)
  refine ⟨by rw [corrected, cyc, taken.cyc], fun m => by rw [mem, bm, taken.own]; rfl, ?_⟩
  rw [markFired, markActed, State.modFlask, State.modFlask, portReads, State.modFlask, taken.machine]

end Sys2Proof.Machine

namespace Sys2Proof.Machine

/-! ### A write of a port (R80, R82) -/

@[simp] theorem Flask.setBm_bm (f : Flask) (m : Nat) (t : Tab Word) : (f.setBm m t).bm m = t := by
  unfold Flask.setBm Flask.bm; split <;> rfl

/-- A write of the cycle is made in its memory. -/
def putWrite (p : Nat) (w : BmWrite) (s : State) : State :=
  s.modFlask p (fun f =>
    { f.setBm w.mem (bmAfter (s.flask p).cyc w.mem (w :: (s.flask p).cyc.writes)) with cyc := { f.cyc with writes := w :: (s.flask p).cyc.writes } })

/-- Of two writes to one word the context keeps a mark (R82). -/
theorem bmStore_apart {p : Nat} {w : BmWrite} {s : State} (apart : (s.flask p).cyc.writes.any (bmOverlap w) = false) :
    bmStore p w s = putWrite p w s := by
  unfold bmStore
  dsimp only
  rw [if_neg (by rw [apart]; exact Bool.false_ne_true)]
  rfl

theorem putWrite_flasks (p : Nat) (w : BmWrite) (s : State) : putWrite p w s = { s with flasks := (putWrite p w s).flasks } := rfl

theorem markFired_flasks (p e : Nat) (s : State) : markFired p e s = { s with flasks := (markFired p e s).flasks } := rfl

theorem putWrite_runCtx (p : Nat) (w : BmWrite) (s : State) : (putWrite p w s).runCtx p = s.runCtx p := by
  rw [putWrite, State.modFlask_runCtx]
  unfold Flask.setBm
  split <;> rfl

/-- What a write leaves in its memory and in the cycle's record. -/
theorem putWrite_flask (p : Nat) (w : BmWrite) (s : State) :
    ((putWrite p w s).flask p).bm w.mem = bmAfter (s.flask p).cyc w.mem (w :: (s.flask p).cyc.writes) ∧
      ((putWrite p w s).flask p).cyc = { (s.flask p).cyc with writes := w :: (s.flask p).cyc.writes } := by
  rw [putWrite, State.modFlask_same]
  exact ⟨Flask.setBm_bm (s.flask p) w.mem _, rfl⟩

/-- A recast copies a written word again; nothing else hangs on it. -/
theorem markDirty_recasts (p space word : Nat) (s : State) : markDirty p space word s = { s with recasts := (markDirty p space word s).recasts } := by
  unfold markDirty
  dsimp only
  split <;> rfl

theorem markDirty_flask (p space word : Nat) (s : State) (q : Nat) : (markDirty p space word s).flask q = s.flask q := by
  rw [markDirty_recasts]; rfl

theorem markDirty_runCtx (p space word : Nat) (s : State) (q : Nat) : (markDirty p space word s).runCtx q = s.runCtx q := by
  rw [markDirty_recasts]; rfl

/-- The write of port `n`'s field, and that of the upper word of a ganged port. -/
def fieldWrite (y : Cycle) (n : Nat) : BmWrite :=
  let h := portHalf y.ctx n
  let sh := aspectShift (portAspect h) (regWord y (128 + portAddrSel h)).d.toNat
  { mem := n / 2, word := portWord y n, mask := lowMask (aspectBits (portAspect h)) <<< sh,
    data := (regWord y (128 + portWdSel h)).d <<< sh, portB := n % 2 = 1 }
def upperWrite (y : Cycle) (n : Nat) : BmWrite :=
  { mem := n / 2, word := portWord y n + 1, mask := BitVec.allOnes 32, data := (regWord y (128 + portWdSel (portHalf y.ctx (n + 1)))).d,
    portB := false }

/-- The cycle's record notes a narrow write. -/
def Flask.noteNarrow (f : Flask) (n : Nat) : Flask := { f with cyc := { f.cyc with narrow := n :: f.cyc.narrow } }

@[simp] theorem Flask.noteNarrow_runCtx (f : Flask) (n : Nat) : (f.noteNarrow n).runCtx = f.runCtx := rfl

/-- A narrow write keeps its port for another cycle. -/
def keepPort (p n bits : Nat) (d : TWord) (s : State) : State :=
  if bits < 32 then
    s.modFlask p (fun f => (f.modRunning (fun x => { x with bmWd := Tab.set TWord.empty x.bmWd n { d with v := true } })).noteNarrow n)
  else s

/-- A write takes its words, stores its field and, ganged, its upper word. -/
theorem firePortWrite_eq (p n : Nat) (s : State) : firePortWrite p n s =
    (let y := (s.flask p).cyc
     let u := (portTakes y n).eraseDups.foldl (fun s l => takeReg p s (128 + l)) s
     let v := markDirty p (n / 2) (portWord y n) (bmStore p (fieldWrite y n) u)
     let v := if ganged y.ctx n then markDirty p (n / 2) (portWord y n + 1) (bmStore p (upperWrite y n) v) else v
     markFired p (136 + n) (keepPort p n (aspectBits (portAspect (portHalf y.ctx n))) (regWord y (128 + portWdSel (portHalf y.ctx n))) v)) := rfl

theorem keepPort_bm (p n bits : Nat) (d : TWord) (s : State) (m : Nat) : ((keepPort p n bits d s).flask p).bm m = (s.flask p).bm m := by
  unfold keepPort
  split
  · rw [State.modFlask_same]; rfl
  · rfl

/-- Write data with V = 1 are those of a narrow write in its second cycle. -/
theorem keepPort_bmWd (p n bits : Nat) (d : TWord) (s : State) :
    (Tab.get TWord.empty ((keepPort p n bits d s).runCtx p).bmWd n).v = (decide (bits < 32) || (Tab.get TWord.empty (s.runCtx p).bmWd n).v) := by
  unfold keepPort
  split
  · next narrow =>
    rw [State.modFlask_runCtx, Flask.noteNarrow_runCtx, Flask.modRunning_runCtx, decide_eq_true narrow, Tab.get_set_same]; rfl
  · next wide => rw [decide_eq_false wide]; rfl

theorem keepPort_flasks (p n bits : Nat) (d : TWord) (s : State) : keepPort p n bits d s = { s with flasks := (keepPort p n bits d s).flasks } := by
  unfold keepPort
  split <;> rfl

/-- One write of the cycle to a memory, made on what the cycle found. -/
theorem bmAfter_one (y : Cycle) (w : BmWrite) : bmAfter y w.mem [w] = applyBmWrite (y.bm w.mem) w := by
  unfold bmAfter
  cases b : w.portB <;> simp [b]

/-- Two writes of port A of one memory. -/
theorem bmAfter_two (y : Cycle) (w w' : BmWrite) (same : w.mem = w'.mem) (a : w.portB = false) (a' : w'.portB = false) :
    bmAfter y w.mem [w, w'] = applyBmWrite (applyBmWrite (y.bm w.mem) w) w' := by
  unfold bmAfter
  simp [← same, a, a']

theorem applyBmWrite_field (t : Tab Word) (y : Cycle) (n : Nat) : applyBmWrite t (fieldWrite y n) =
    (let h := portHalf y.ctx n
     let a := regWord y (128 + portAddrSel h)
     Tab.modify 0 t (aspectWord (portAspect h) a.d.toNat)
       (fun v => withField v (regWord y (128 + portWdSel h)).d (aspectBits (portAspect h)) (aspectShift (portAspect h) a.d.toNat))) := rfl

/-- A write of a whole word. -/
theorem get_applyBmWrite_whole (t : Tab Word) (w : BmWrite) (whole : w.mask = BitVec.allOnes 32) (f : Nat) :
    Tab.get 0 (applyBmWrite t w) f = if f = w.word then w.data else Tab.get 0 t f := by
  rw [applyBmWrite, whole]
  split
  · next same => rw [same, Tab.get_modify_same, BitVec.and_allOnes, BitVec.not_allOnes, BitVec.and_zero, BitVec.zero_or]
  · next other => exact Tab.get_modify_ne _ _ _ _ _ other

/-- The lower word of a ganged write. -/
theorem fieldWrite_ganged {y : Cycle} {n : Nat} (asp : portAspect (portHalf y.ctx n) = 4) :
    (fieldWrite y n).mask = BitVec.allOnes 32 ∧ (fieldWrite y n).word = portWord y n ∧
      (fieldWrite y n).data = (regWord y (128 + portWdSel (portHalf y.ctx n))).d ∧
      portWord y n = 2 * ((regWord y (128 + portAddrSel (portHalf y.ctx n))).d.toNat % 512) := by
  have whole : lowMask (aspectBits 4) <<< 0 = BitVec.allOnes 32 := by decide
  refine ⟨?_, rfl, ?_, ?_⟩
  · rw [fieldWrite, asp]; exact whole
  · rw [fieldWrite, asp]; exact BitVec.shiftLeft_zero _
  · rw [portWord, asp]; rfl

/-- The words that a write takes. -/
theorem wordsTaken_port (p n : Nat) (s : State) :
    WordsTaken p s ((portTakes (s.flask p).cyc n).eraseDups.foldl (fun s l => takeReg p s (128 + l)) s) :=
  .foldl (fun s l => wordsTaken_takeReg p s (128 + l)) _ s

/-- Nothing of the machine has changed but flasks and recasts. -/
def OnlyFlasksAndRecasts (s t : State) : Prop := t = { s with flasks := t.flasks, recasts := t.recasts }

theorem OnlyFlasksAndRecasts.trans {s t u : State} (h : OnlyFlasksAndRecasts s t) (k : OnlyFlasksAndRecasts t u) : OnlyFlasksAndRecasts s u := by
  unfold OnlyFlasksAndRecasts at *; rw [k, h]

theorem OnlyFlasksAndRecasts.of_flasks {s t : State} (h : t = { s with flasks := t.flasks }) : OnlyFlasksAndRecasts s t := by
  unfold OnlyFlasksAndRecasts; rw [h]

theorem OnlyFlasksAndRecasts.of_recasts {s t : State} (h : t = { s with recasts := t.recasts }) : OnlyFlasksAndRecasts s t := by
  unfold OnlyFlasksAndRecasts; rw [h]

/-- The first write of a cycle, by a port that is not ganged: its memory, its port, and the machine around them. -/
theorem firePortWrite_single {p n : Nat} {s : State} (first : (s.flask p).cyc.writes = []) (single : ganged (s.flask p).cyc.ctx n = false) :
    ((firePortWrite p n s).flask p).bm (n / 2) = applyBmWrite ((s.flask p).cyc.bm (n / 2)) (fieldWrite (s.flask p).cyc n) ∧
      (Tab.get TWord.empty ((firePortWrite p n s).runCtx p).bmWd n).v =
        (decide (aspectBits (portAspect (portHalf (s.flask p).cyc.ctx n)) < 32) || (Tab.get TWord.empty (s.runCtx p).bmWd n).v) ∧
      OnlyFlasksAndRecasts s (firePortWrite p n s) := by
  have taken := wordsTaken_port p n s
  rw [firePortWrite_eq]
  dsimp only
  rw [single, if_neg Bool.false_ne_true]
  generalize (portTakes (s.flask p).cyc n).eraseDups.foldl (fun s l => takeReg p s (128 + l)) s = u at *
  rw [bmStore_apart (by rw [taken.cyc, first]; rfl)]
  obtain ⟨bm, -⟩ := putWrite_flask p (fieldWrite (s.flask p).cyc n) u
  have wd : (u.runCtx p).bmWd = (s.runCtx p).bmWd := by rw [taken.running]
  refine ⟨?_, ?_, ?_⟩
  · rw [(markFired_keeps ..).2, keepPort_bm, markDirty_flask]
    refine bm.trans ?_
    rw [taken.cyc, first]
    exact bmAfter_one _ _
  · rw [markFired_runCtx, keepPort_bmWd, markDirty_runCtx, putWrite_runCtx, wd]
  · exact ((((OnlyFlasksAndRecasts.of_flasks taken.machine).trans (.of_flasks (putWrite_flasks ..))).trans
      (.of_recasts (markDirty_recasts ..))).trans (.of_flasks (keepPort_flasks ..))).trans (.of_flasks (markFired_flasks ..))

/-- A ganged port writes the words at twice its address and after it. -/
theorem firePortWrite_ganged {p n : Nat} {s : State} (first : (s.flask p).cyc.writes = []) (two : ganged (s.flask p).cyc.ctx n = true)
    (portA : n % 2 = 0) : ((firePortWrite p n s).flask p).bm (n / 2) =
      applyBmWrite (applyBmWrite ((s.flask p).cyc.bm (n / 2)) (upperWrite (s.flask p).cyc n)) (fieldWrite (s.flask p).cyc n) := by
  have taken := wordsTaken_port p n s
  rw [firePortWrite_eq]
  dsimp only
  rw [two, if_pos rfl]
  generalize (portTakes (s.flask p).cyc n).eraseDups.foldl (fun s l => takeReg p s (128 + l)) s = u at *
  have lower : bmStore p (fieldWrite (s.flask p).cyc n) u = putWrite p (fieldWrite (s.flask p).cyc n) u :=
    bmStore_apart (by rw [taken.cyc, first]; rfl)
  obtain ⟨-, cyc⟩ := putWrite_flask p (fieldWrite (s.flask p).cyc n) u
  rw [taken.cyc, first] at cyc
  rw [lower, bmStore_apart (by rw [markDirty_flask, cyc]; simp [bmOverlap, upperWrite, fieldWrite])]
  obtain ⟨bm, -⟩ := putWrite_flask p (upperWrite (s.flask p).cyc n)
    (markDirty p (n / 2) (portWord (s.flask p).cyc n) (putWrite p (fieldWrite (s.flask p).cyc n) u))
  rw [(markFired_keeps ..).2, keepPort_bm, markDirty_flask]
  refine bm.trans ?_
  rw [markDirty_flask, cyc]
  exact bmAfter_two _ (upperWrite _ n) (fieldWrite _ n) rfl rfl (by simp [fieldWrite, portA])

/-! ### The commands of the ports -/

/-- A port that can fire is on. -/
theorem portCanFire_on {s : State} {p n : Nat} (can : portCanFire s p n = true) : portOn (s.flask p).cyc.ctx n = true := by
  simp only [portCanFire, Bool.and_eq_true] at can
  exact can.2

/-- Of a memory that is ganged port A alone is on, and a port of a lesser aspect that is on belongs to one that is not. -/
theorem portOn_ganged {x : Ctx} {n : Nat} (on : portOn x n = true) :
    (ganged x n = true → n % 2 = 0) ∧ (portAspect (portHalf x n) ≤ 3 → ganged x n = false) := by
  simp only [portOn, Bool.and_eq_true, decide_eq_true_eq] at on
  obtain ⟨-, aspect⟩ := on
  rcases Nat.mod_two_eq_zero_or_one n with even | odd
  · have portA : n / 2 * 2 = n := by omega
    rw [ganged, portA, decide_eq_false_iff_not]
    exact ⟨fun _ => even, fun _ => by omega⟩
  · simp only [odd, one_ne_zero, if_false, Bool.and_eq_true, Bool.not_eq_true'] at aspect
    exact ⟨fun two => absurd (two.symm.trans aspect.2) (by decide), fun _ => aspect.2⟩

/-- BM_PORT_READ of a clean word (R79). -/
theorem exec_bmPortRead {s : State} {p n : Nat} (can : portCanFire s p n = true) (reads : portWrites (s.flask p).cyc n = false) (lo : Ecc)
    (parity : Bool) : exec (.bmPortRead p n lo .ok parity) s = .next
      (if parity then flaskFatal 0x4103 p 0 s
       else if lo = .uncorrectable then flaskFatal 0x4105 p 0 s
       else firePortRead p n (if lo = .corrected then bmCorrected p (n / 2) (portWord (s.flask p).cyc n) true s else s)) := by
  refine (event_of (by simp [can, reads]) _ _).trans ?_
  cases lo <;> simp

theorem exec_bmPortRead_clean {s : State} {p n : Nat} (can : portCanFire s p n = true) (reads : portWrites (s.flask p).cyc n = false) :
    exec (.bmPortRead p n .ok .ok false) s = .next (firePortRead p n s) := exec_bmPortRead can reads .ok false

/-- What a read puts on its way to the read-data registers (R79). -/
theorem firePortRead_pipe (p n : Nat) (s : State) :
    let y := (s.flask p).cyc
    let h := portHalf y.ctx n
    let a := regWord y (128 + portAddrSel h)
    Tab.get TWord.empty ((firePortRead p n s).runCtx p).bmPipe n = mkTWord ((Tab.get 0 (y.bm (n / 2)) (aspectWord (portAspect h) a.d.toNat) >>>
        aspectShift (portAspect h) a.d.toNat) &&& lowMask (aspectBits (portAspect h))) a.l false ∧
      (ganged y.ctx n = true → Tab.get TWord.empty ((firePortRead p n s).runCtx p).bmPipe (n + 1) =
        mkTWord (Tab.get 0 (y.bm (n / 2)) (aspectWord (portAspect h) a.d.toNat + 1)) a.l false) := by
  rw [firePortRead_eq, markFired_runCtx]
  exact portReads_pipe p n (s.flask p).cyc _

/-- BM_PORT_WRITE with a clean word below a narrow field (R80). -/
theorem exec_bmPortWrite {s : State} {p n : Nat} (can : portCanFire s p n = true) (writes : portWrites (s.flask p).cyc n = true) :
    exec (.bmPortWrite p n .ok false) s = .next (firePortWrite p n s) := by
  refine (event_of (by simp [can, writes]) _ _).trans ?_
  simp

theorem portRead_reads (s : State) (p n : Nat) (can : portCanFire s p n = true) (reads : portWrites (s.flask p).cyc n = false) :
    Answers (.bmPortRead p n .ok .ok false) s (fun t =>
      let y := (s.flask p).cyc
      let h := portHalf y.ctx n
      let a := regWord y (128 + portAddrSel h)
      (portAspect h ≤ 3 → Tab.get TWord.empty (t.runCtx p).bmPipe n =
        mkTWord (BitVec.ofNat 32 (bmField (y.bm (n / 2)) (aspectWidth (portAspect h)) a.d.toNat)) a.l false) ∧
      (ganged y.ctx n = true → portAspect h = 4 →
        Tab.get TWord.empty (t.runCtx p).bmPipe n = mkTWord (Tab.get 0 (y.bm (n / 2)) (2 * (a.d.toNat % 512))) a.l false ∧
        Tab.get TWord.empty (t.runCtx p).bmPipe (n + 1) = mkTWord (Tab.get 0 (y.bm (n / 2)) (2 * (a.d.toNat % 512) + 1)) a.l false) ∧
      (t.flask p).bm (n / 2) = (s.flask p).bm (n / 2) ∧ t = { s with flasks := t.flasks }) := by
  obtain ⟨-, bm, machine⟩ := firePortRead_keeps p n s
  obtain ⟨lower, upper⟩ := firePortRead_pipe p n s
  refine ⟨_, exec_bmPortRead_clean can reads, fun narrow => ?_, fun two asp => ?_, bm _, machine⟩
  · rw [lower, readField_eq narrow]
  · rw [lower, upper two, asp]
    exact ⟨congrArg (mkTWord · _ false) (wholeField_eq _), rfl⟩

theorem portWrite_writes (s : State) (p n : Nat) (can : portCanFire s p n = true) (writes : portWrites (s.flask p).cyc n = true)
    (first : (s.flask p).cyc.writes = []) (asp : portAspect (portHalf (s.flask p).cyc.ctx n) ≤ 3) : Answers (.bmPortWrite p n .ok false) s (fun t =>
      let y := (s.flask p).cyc
      let h := portHalf y.ctx n
      let w := aspectWidth (portAspect h)
      (∀ f, f * w < 32768 → bmField ((t.flask p).bm (n / 2)) w f =
        if f = (regWord y (128 + portAddrSel h)).d.toNat % (32768 / w) then (regWord y (128 + portWdSel h)).d.toNat % 2 ^ w
        else bmField (y.bm (n / 2)) w f) ∧
      (Tab.get TWord.empty (t.runCtx p).bmWd n).v = (decide (w < 32) || (Tab.get TWord.empty (s.runCtx p).bmWd n).v) ∧
      t = { s with flasks := t.flasks, recasts := t.recasts }) := by
  obtain ⟨bm, wd, machine⟩ := firePortWrite_single first ((portOn_ganged (portCanFire_on can)).2 asp)
  refine ⟨_, exec_bmPortWrite can writes, fun f hf => ?_, ?_, machine⟩
  · rw [bm, applyBmWrite_field]
    exact bmField_write asp _ _ _ _ hf
  · rw [wd, (aspect_place asp 0).1]

theorem portWrite_writes_both (s : State) (p n : Nat) (can : portCanFire s p n = true) (writes : portWrites (s.flask p).cyc n = true)
    (first : (s.flask p).cyc.writes = []) (two : ganged (s.flask p).cyc.ctx n = true) (asp : portAspect (portHalf (s.flask p).cyc.ctx n) = 4) :
    Answers (.bmPortWrite p n .ok false) s (fun t =>
      let y := (s.flask p).cyc
      let wo := 2 * ((regWord y (128 + portAddrSel (portHalf y.ctx n))).d.toNat % 512)
      ∀ f, Tab.get 0 ((t.flask p).bm (n / 2)) f =
        if f = wo then (regWord y (128 + portWdSel (portHalf y.ctx n))).d
        else if f = wo + 1 then (regWord y (128 + portWdSel (portHalf y.ctx (n + 1)))).d else Tab.get 0 (y.bm (n / 2)) f) := by
  obtain ⟨whole, lower, data, word⟩ := fieldWrite_ganged asp
  refine ⟨_, exec_bmPortWrite can writes, fun f => ?_⟩
  rw [firePortWrite_ganged first two ((portOn_ganged (portCanFire_on can)).1 two), get_applyBmWrite_whole _ _ whole,
    get_applyBmWrite_whole _ _ rfl, lower, data, word, upperWrite, word]

theorem portRead_corrects (s : State) (p n : Nat) (can : portCanFire s p n = true) (reads : portWrites (s.flask p).cyc n = false) :
    Answers (.bmPortRead p n .corrected .ok false) s (fun t =>
      Reports s t 0x1101 1 p ∧ (t.flask p).cyc.corrected = (n / 2 * 1024 + portWord (s.flask p).cyc n) :: (s.flask p).cyc.corrected) := by
  refine ⟨_, exec_bmPortRead can reads .corrected false, ?_⟩
  rw [if_neg Bool.false_ne_true, if_neg (by decide), if_pos rfl]
  obtain ⟨corrected, -, machine⟩ := firePortRead_keeps p n (bmCorrected p (n / 2) (portWord (s.flask p).cyc n) true s)
  have reported : Reports s (reportFlask 0x1101 p 0 s) 0x1101 1 p := reports_reportAt _ _ _ _ _ _
  refine ⟨reported.mono (Nat.le_of_eq (reportsOf_congr ?_ _ _ _).symm), ?_⟩
  · rw [machine]; rfl
  · rw [corrected, bmCorrected, if_pos rfl, State.modFlask_same]
    exact congrArg (fun f : Flask => _ :: f.cyc.corrected) (reportAt_flask ..)

theorem portRead_uncorrectable_stops (s : State) (p n : Nat) (can : portCanFire s p n = true) (reads : portWrites (s.flask p).cyc n = false) :
    Answers (.bmPortRead p n .uncorrectable .ok false) s (fun t => FlaskStopped s t p 0x4105) := by
  refine ⟨_, exec_bmPortRead can reads .uncorrectable false, ?_⟩
  rw [if_neg Bool.false_ne_true, if_pos rfl]
  exact flaskFatal_stops ..

theorem portRead_parity_stops (s : State) (p n : Nat) (can : portCanFire s p n = true) (reads : portWrites (s.flask p).cyc n = false) :
    Answers (.bmPortRead p n .ok .ok true) s (fun t => FlaskStopped s t p 0x4103) := by
  refine ⟨_, exec_bmPortRead can reads .ok true, ?_⟩
  rw [if_pos rfl]
  exact flaskFatal_stops ..

theorem scrub_writes_back (s : State) (p m : Nat) (hm : m < 2) (due : ∃ x ∈ (s.flask p).scrub, x / 1024 = m) (idle : bmWritten s p m = false) :
    Answers (.bmScrubWriteback p m) s (fun t =>
      t.flask p = { s.flask p with scrub := (s.flask p).scrub.filter (fun x => x / 1024 ≠ m) } ∧ t = { s with flasks := t.flasks }) := by
  obtain ⟨x, mem, rfl⟩ := due
  have waits : ((s.flask p).scrub.any (fun z => z / 1024 = x / 1024)) = true := List.any_eq_true.2 ⟨x, mem, by simp⟩
  refine ⟨_, event_of ?_ s (bmScrubbed p (x / 1024) s), State.modFlask_same .., rfl⟩
  rw [waits, idle, decide_eq_true hm]; rfl

/-- Settles O6: fields of the memory as it stood at the cycle's start, read and written one at a time. -/
theorem blockMemoryPorts : Obligations.BlockMemoryPorts := by
  intro s p n y h a d asp w mem mem0
  exact ⟨portRead_reads s p n, portWrite_writes s p n, portWrite_writes_both s p n, portRead_corrects s p n,
    portRead_uncorrectable_stops s p n, portRead_parity_stops s p n, scrub_writes_back s p⟩

end Sys2Proof.Machine

section
/-! Proofs of 03_flask_contexts.md (R135, R136, R140): CTX_CMD, CTX_STATUS_CLR and CTX_WIN_DATA. An access of the agent changes only what `Answered`
names, so a command's own conditions read the same before and after the access is taken up. -/

namespace Sys2Proof.Machine

/-- Nothing has changed but the paths' records, the packets in flight, their hop credits and what has been sent. -/
def Answered (s t : State) : Prop :=
  ∃ ps w c o, t = { s with dict := { s.dict with paths := ps }, net := { s.net with wire := w, credits := c }, out := o }

theorem Answered.refl (s : State) : Answered s s := ⟨_, _, _, _, rfl⟩

theorem Answered.trans {s t u : State} : Answered s t → Answered t u → Answered s u := by
  rintro ⟨_, _, _, _, rfl⟩ ⟨_, _, _, _, rfl⟩
  exact ⟨_, _, _, _, rfl⟩

theorem Answered.emit (s : State) (o : Out) : Answered s (s.emit o) := ⟨_, _, _, _, rfl⟩

theorem Answered.modPath (s : State) (path : Nat) (g : Path → Path) : Answered s (s.modPath path g) := ⟨_, _, _, _, rfl⟩

theorem Answered.netReply (path idx sub : Nat) (read : Bool) (b : Body) (s : State) : Answered s (netReply path idx sub read b s) := by
  obtain ⟨w, c, changes⟩ := netReply_changes path idx sub read b s
  exact ⟨_, w, c, _, changes⟩

theorem Answered.refuse (path idx sub : Nat) (code : Word) (s : State) : Answered s (refuse path idx sub code s) := by
  unfold Machine.refuse; split
  · exact .emit ..
  · exact (Answered.netReply ..).trans (.modPath ..)

theorem Answered.accept (path idx sub : Nat) (s : State) : Answered s (accept path idx sub s) := by
  unfold Machine.accept; split
  · exact .emit ..
  · exact .netReply ..

theorem Answered.touch (path : Nat) (s : State) : Answered s (touch path s) := by
  unfold Machine.touch
  cases (s.path path).held with
  | none => exact .modPath ..
  | some half => exact (Answered.refuse ..).trans (.modPath ..)

theorem Answered.touchRead (path : Nat) (s : State) : Answered s (touchRead path s) := (Answered.touch path s).trans (.modPath ..)

theorem Answered.answerRead (path idx sub size : Nat) (v : DWord) (s : State) : Answered s (answerRead path idx sub size v s) := by
  unfold Machine.answerRead busAnswer; split
  · exact .emit ..
  · exact (Answered.netReply ..).trans (.emit ..)

section
variable {s t : State}

theorem Answered.onlyAnswered : Answered s t → OnlyAnswered s t := by rintro ⟨_, _, _, _, rfl⟩; exact ⟨rfl, rfl⟩
theorem Answered.machine : Answered s t → t = { s with dict := t.dict, net := t.net, out := t.out } := by rintro ⟨_, _, _, _, rfl⟩; rfl
theorem Answered.flask : Answered s t → ∀ p, t.flask p = s.flask p := by rintro ⟨_, _, _, _, rfl⟩ _; rfl
theorem Answered.flaskLive : Answered s t → ∀ p, t.flaskLive p = s.flaskLive p := by rintro ⟨_, _, _, _, rfl⟩ _; rfl
theorem Answered.seqCfg : Answered s t → ∀ p, t.seqCfg p = s.seqCfg p := by rintro ⟨_, _, _, _, rfl⟩ _; rfl
theorem Answered.slotFits : Answered s t → ∀ p n, slotFits t p n = slotFits s p n := by rintro ⟨_, _, _, _, rfl⟩ _ _; rfl
theorem Answered.recastHolds : Answered s t → ∀ p, recastHolds t p = recastHolds s p := by rintro ⟨_, _, _, _, rfl⟩ _; rfl
theorem Answered.winCtx : Answered s t → ∀ path p, winCtx t path p = winCtx s path p := by rintro ⟨_, _, _, _, rfl⟩ _ _; rfl
theorem Answered.ctxWinData : Answered s t → ∀ path p, ctxWinData t path p = ctxWinData s path p := by rintro ⟨_, _, _, _, rfl⟩ _ _; rfl
end

/-- An admitted command that changes its flask alone. -/
theorem dictCommand_modFlask {s : State} {path idx sub level p : Nat} {act : State → Except Word State} {g : Flask → Flask}
    (admitted : Admitted s path idx sub level) (acts : ∀ u, Answered s u → act u = .ok (u.modFlask p g)) :
    ∃ t, dictCommand path idx sub level act s = .next t ∧ t.flask p = g (s.flask p) ∧
      OnlyAnswered s t ∧ t = { s with flasks := t.flasks, dict := t.dict, net := t.net, out := t.out } := by
  have touched := Answered.touch path s
  have answered := Answered.accept path idx sub ((touch path s).modFlask p g)
  refine ⟨_, dictCommand_admitted admitted (acts _ touched), ?_, ?_⟩
  · rw [answered.flask, State.modFlask_same, touched.flask]
  · generalize accept path idx sub _ = t at answered
    generalize touch path s = u at touched answered
    obtain ⟨_, _, _, _, rfl⟩ := touched
    obtain ⟨_, _, _, _, rfl⟩ := answered
    exact ⟨⟨rfl, rfl⟩, rfl⟩

theorem touchRead_gateCheck (path : Nat) (s : State) (q idx sub level : Nat) :
    (touchRead path s).gateCheck q idx sub level = s.gateCheck q idx sub level := by
  unfold State.gateCheck State.level State.session
  simp only [touchRead_session, touchRead_dict_sessions, touchRead_dict_stopped]

/-- A readable entry's value on its way back. -/
theorem dictRead_readable {s : State} {path idx sub level size : Nat} {act : State → Except Word (DWord × State)} {v : DWord}
    (readable : Readable s path idx sub level) (acts : act (touchRead path s) = .ok (v, touchRead path s)) :
    dictRead path idx sub level size act s = .next (answerRead path idx sub size v (touchRead path s)) := by
  obtain ⟨reaches, gate, reads, boots⟩ := readable
  have reads' : (touchRead path s).entryReads idx sub = true := by
    unfold State.entryReads State.domOn State.dom at *; rw [touchRead_power]; exact reads
  have boots' : (touchRead path s).bootBars path idx = false := by
    unfold State.bootBars at *; rw [touchRead_ecat]; exact boots
  simp [dictRead, reaches, touchRead_gateCheck, gate, reads', boots', acts]

/-- A read that finds no half held back sends nothing but its answer. -/
theorem touchRead_out {s : State} {path : Nat} (free : (s.path path).held = none) : (touchRead path s).out = s.out := by
  rw [touchRead, touch, free]; rfl

theorem answerRead_mailbox (idx sub size : Nat) (v : DWord) (s : State) :
    (answerRead 0x7F idx sub size v s).out = s.out ++ [.sdoData idx sub (valueBytes size v)] := rfl

theorem answerRead_bus {path : Nat} (idx sub size : Nat) (v : DWord) (s : State) (bus : path ≠ 0x7F) :
    (answerRead path idx sub size v s).out = s.out ++ [.busRead path v] := by
  rw [answerRead, if_neg bus, busAnswer, State.emit, netReply_out]

/-! ### CTX_CMD -/

/-- The engine has room: the request waits behind the others. -/
theorem engRequest_room {p : Nat} {s : State} (r : EngReq) (room : (s.flask p).eng.length < 4) :
    engRequest p r s = s.modFlask p (fun f => { f with eng := f.eng ++ [r], cmdResult := 0 }) := if_neg (Nat.not_le.mpr room)

theorem engRequest_full {p : Nat} {s : State} (r : EngReq) (full : 4 ≤ (s.flask p).eng.length) :
    engRequest p r s = s.modFlask p (fun f => { f with cmdResult := 3 }) := if_pos full

theorem need_ok {α : Type} {c : Bool} {code : Word} {k : Except Word α} (holds : c = true) : need c code k = k := if_pos holds

theorem ctxCmdFill_requests {s : State} {p x n : Nat} (holds : recastHolds s p = false) (live : s.flaskLive p = true) (fits : slotFits s p n = true)
    (defined : (s.flask p).defined.contains x = true) (irq : ¬(n = 15 ∧ seqIrqEn (s.seqCfg p) = true))
    (place : (s.flask p).slotOf x = none ∨ (s.flask p).slotOf x = some n) : ctxCmdFill p x n s = .ok (engRequest p (.fill x n) s) :=
  need_ok (by simpa [holds, live, fits, place] using ⟨by simpa using defined, by simpa using not_and_or.mp irq⟩)

theorem ctxCmdSpill_requests {s : State} {p n : Nat} (holds : recastHolds s p = false) (live : s.flaskLive p = true) (fits : slotFits s p n = true)
    (resident : ((s.flask p).slot n).st = .resident) : ctxCmdSpill p n s = .ok (engRequest p (.spill n) s) :=
  need_ok (by simp [holds, live, fits, resident])

theorem ctxCmdEvict_requests {s : State} {p n : Nat} (holds : recastHolds s p = false) (live : s.flaskLive p = true) (fits : slotFits s p n = true)
    (resident : ((s.flask p).slot n).st = .resident) : ctxCmdEvict p n s = .ok (engRequest p (.evict n) s) :=
  need_ok (by simp [holds, live, fits, resident])

theorem ctxCmdPin_writes {s : State} {p n : Nat} (on : Bool) (holds : recastHolds s p = false) (live : s.flaskLive p = true) (slot : n < 16) :
    ctxCmdPin p n on s = .ok (s.modFlask p (fun f => f.modSlot n (fun x => { x with pin := on }))) :=
  need_ok (by simp [holds, live, slot])

theorem ctxStatusClr_resident {s : State} {path p n : Nat} (w : Word) (holds : recastHolds s p = false)
    (resident : (s.flask p).residentSlot (winCtx s path p) = some n) :
    ctxStatusClr path p w s = .ok (s.modFlask p (fun f => f.modCtx n (fun x => { x with status := statusClr x.status w }))) := by
  unfold ctxStatusClr
  rw [need_ok (by rw [holds]; rfl), resident]

/-- A command that names one slot changes that slot alone. -/
theorem dictCommand_modSlot {s : State} {path idx sub level p n : Nat} {act : State → Except Word State} {g : Slot → Slot}
    (admitted : Admitted s path idx sub level) (acts : ∀ u, Answered s u → act u = .ok (u.modFlask p (fun f => f.modSlot n g))) :
    ∃ t, dictCommand path idx sub level act s = .next t ∧ (t.flask p).slot n = g ((s.flask p).slot n) ∧
      (∀ m, m ≠ n → (t.flask p).slot m = (s.flask p).slot m) ∧
      OnlyAnswered s t ∧ t = { s with flasks := t.flasks, dict := t.dict, net := t.net, out := t.out } := by
  obtain ⟨t, next, flask, answered, machine⟩ := dictCommand_modFlask admitted acts
  refine ⟨t, next, ?_, fun m other => ?_, answered, machine⟩
  · rw [flask, Flask.modSlot_slot_same]
  · rw [flask, Flask.modSlot_slot_ne _ _ _ _ other]

/-- A command whose request finds room at the engine. -/
theorem dictCommand_engRequest {s : State} {path idx sub level p : Nat} {act : State → Except Word State} {r : EngReq}
    (admitted : Admitted s path idx sub level) (acts : ∀ u, Answered s u → act u = .ok (engRequest p r u)) (room : (s.flask p).eng.length < 4) :
    ∃ t, dictCommand path idx sub level act s = .next t ∧ (t.flask p).eng = (s.flask p).eng ++ [r] ∧ (t.flask p).cmdResult = 0 ∧
      OnlyAnswered s t ∧ t = { s with flasks := t.flasks, dict := t.dict, net := t.net, out := t.out } := by
  obtain ⟨t, next, flask, rest⟩ := dictCommand_modFlask (p := p) admitted
    (fun u answered => (acts u answered).trans (congrArg _ (engRequest_room r (by rw [answered.flask]; exact room))))
  exact ⟨t, next, by rw [flask], by rw [flask], rest⟩

/-- A command whose request finds four at the engine. -/
theorem dictCommand_engRequest_full {s : State} {path idx sub level p : Nat} {act : State → Except Word State} {r : EngReq}
    (admitted : Admitted s path idx sub level) (acts : ∀ u, Answered s u → act u = .ok (engRequest p r u)) (full : 4 ≤ (s.flask p).eng.length) :
    ∃ t, dictCommand path idx sub level act s = .next t ∧ (t.flask p).eng = (s.flask p).eng ∧ (t.flask p).cmdResult = 3 ∧
      OnlyAnswered s t ∧ t = { s with flasks := t.flasks, dict := t.dict, net := t.net, out := t.out } := by
  obtain ⟨t, next, flask, rest⟩ := dictCommand_modFlask (p := p) admitted
    (fun u answered => (acts u answered).trans (congrArg _ (engRequest_full r (by rw [answered.flask]; exact full))))
  exact ⟨t, next, by rw [flask], by rw [flask], rest⟩

/-! ### CTX_WIN_DATA -/

/-- A read of the window over any path, with no half held back. -/
theorem ctxWinData_read {s : State} {path p : Nat} (readable : Readable s path (0x4000 + p) 0x31 1) (free : (s.path path).held = none) :
    ∃ u, exec (.ctxWinDataRead path p) s = .next (answerRead path (0x4000 + p) 0x31 8 (ctxWinData s path p) u) ∧ u.out = s.out ∧
      Answered s (answerRead path (0x4000 + p) 0x31 8 (ctxWinData s path p) u) := by
  have touched := Answered.touchRead path s
  refine ⟨touchRead path s, ?_, touchRead_out free, touched.trans (.answerRead ..)⟩
  rw [← touched.ctxWinData]
  exact dictRead_readable (act := fun s => .ok (ctxWinData s path p, s)) readable rfl

/-- Settles O9: each command's own conditions hold after the access is taken up as before it, and it then changes its flask alone. -/
theorem contextCommandsAndWindow : Obligations.ContextCommandsAndWindow := by
  unfold Obligations.ContextCommandsAndWindow
  refine ⟨⟨?fill, ?spillEvict, ?pin⟩, ?status, ?mailbox, ?bus⟩
  case fill =>
    intro s path p x n admitted holds live fits defined irq place
    have acts : ∀ u, Answered s u → ctxCmdFill p x n u = .ok (engRequest p (.fill x n) u) := fun u answered =>
      ctxCmdFill_requests (answered.recastHolds p ▸ holds) (answered.flaskLive p ▸ live) (answered.slotFits p n ▸ fits)
        (answered.flask p ▸ defined) (answered.seqCfg p ▸ irq) (answered.flask p ▸ place)
    rcases Nat.lt_or_ge (s.flask p).eng.length 4 with room | full
    · obtain ⟨t, next, eng, result, rest⟩ := dictCommand_engRequest admitted acts room
      exact ⟨t, next, fun _ => ⟨eng, result⟩, fun full => absurd room (Nat.not_lt.mpr full), rest⟩
    · obtain ⟨t, next, eng, result, rest⟩ := dictCommand_engRequest_full admitted acts full
      exact ⟨t, next, fun room => absurd full (Nat.not_le.mpr room), fun _ => ⟨eng, result⟩, rest⟩
  case spillEvict =>
    intro s path p n admitted holds live fits resident room
    constructor
    · exact dictCommand_engRequest admitted (fun u answered => ctxCmdSpill_requests (answered.recastHolds p ▸ holds) (answered.flaskLive p ▸ live)
        (answered.slotFits p n ▸ fits) (answered.flask p ▸ resident)) room
    · exact dictCommand_engRequest admitted (fun u answered => ctxCmdEvict_requests (answered.recastHolds p ▸ holds) (answered.flaskLive p ▸ live)
        (answered.slotFits p n ▸ fits) (answered.flask p ▸ resident)) room
  case pin =>
    intro s path p n admitted holds live slot
    have pins (on : Bool) (u : State) (answered : Answered s u) :
        ctxCmdPin p n on u = .ok (u.modFlask p (fun f => f.modSlot n (fun x => { x with pin := on }))) :=
      ctxCmdPin_writes on (answered.recastHolds p ▸ holds) (answered.flaskLive p ▸ live) slot
    exact ⟨dictCommand_modSlot admitted (pins true), dictCommand_modSlot admitted (pins false)⟩
  case status =>
    intro s path p n w admitted holds resident
    obtain ⟨t, next, slot, rest⟩ := dictCommand_modSlot admitted (fun u answered => ctxStatusClr_resident w
      (answered.recastHolds p ▸ holds) (by rw [answered.flask, answered.winCtx]; exact resident))
    exact ⟨t, next, by rw [slot]; rfl, rest⟩
  case mailbox =>
    intro s p readable free
    obtain ⟨u, next, out, answered⟩ := ctxWinData_read readable free
    exact ⟨_, next, by rw [answerRead_mailbox, out], answered.onlyAnswered, answered.machine⟩
  case bus =>
    intro s path p other readable free
    obtain ⟨u, next, out, answered⟩ := ctxWinData_read readable free
    exact ⟨_, next, by rw [answerRead_bus _ _ _ _ _ other, out], answered.onlyAnswered, answered.machine⟩

end Sys2Proof.Machine
end

section
/-! Proofs of 03_flask_contexts.md (R127-R134, R141): recasts. A recast changes flasks, crucibles, the map and, at its switch, stored entries and
routes; an abort gives back roles and may report. -/

namespace Sys2Proof.Machine

/-! ### Commands of the agent that act on the machine -/

theorem Answered.recast {s t : State} : Answered s t → ∀ y, t.recast y = s.recast y := by rintro ⟨_, _, _, _, rfl⟩ _; rfl
theorem Answered.lmap {s t : State} : Answered s t → t.lmap = s.lmap := by rintro ⟨_, _, _, _, rfl⟩; rfl
theorem Answered.physOf {s t : State} (a : Answered s t) (k : Nat) : t.physOf k = s.physOf k := by rw [State.physOf, a.lmap]; rfl
theorem Answered.recastTarget {s t : State} : Answered s t → ∀ k q, recastTarget t k q = recastTarget s k q := by
  rintro ⟨_, _, _, _, rfl⟩ _ _; rfl
theorem Answered.recastAllowed {s t : State} : Answered s t → ∀ k q, recastAllowed t k q = recastAllowed s k q := by
  rintro ⟨_, _, _, _, rfl⟩ _ _; rfl

/-- An admitted command whose effect `g` leaves the agent and the network alone: the access is taken up, has its effect, and is answered. -/
theorem dictCommand_acts {s : State} {path idx sub level : Nat} {act : State → Except Word State} {g : State → State}
    (admitted : Admitted s path idx sub level) (acts : ∀ u, Answered s u → act u = .ok (g u))
    (agent : ∀ u, (g u).dict = u.dict ∧ (g u).net = u.net) :
    ∃ u t, dictCommand path idx sub level act s = .next t ∧ Answered s u ∧ Answered (g u) t ∧ OnlyAnswered s t := by
  have touched := Answered.touch path s
  have answered := Answered.accept path idx sub (g (touch path s))
  obtain ⟨dict, net⟩ := agent (touch path s)
  refine ⟨_, _, dictCommand_admitted admitted (acts _ touched), touched, answered, ?_⟩
  obtain ⟨dict', net'⟩ := touched.onlyAnswered
  obtain ⟨dict'', net''⟩ := answered.onlyAnswered
  exact ⟨by rw [dict'', dict, dict'], by rw [net'', net, net']⟩

/-! ### The start and the release -/

/-- A recast in PRECOPY, its two flasks in their roles. -/
def takeRoles (k q : Nat) (byPolicy : Bool) (s : State) : State :=
  ((s.modRecast (k / 8) (fun _ =>
      { st := .precopy, result := 0, logical := k, source := s.physOf k, target := q, byPolicy := byPolicy, dirty := [] })).modFlask (s.physOf k)
    (fun f => { f with role := .recastSource })).modFlask q (fun f => { f with role := .recastTarget, logical := k })

theorem startRecast_eq (k q : Nat) (byPolicy : Bool) (s : State) :
    startRecast k q byPolicy s = { takeRoles k q byPolicy s with recastRow := k / 8 } := rfl

/-- A recast enters PRECOPY with its two flasks in their roles (R127, R128). -/
theorem startRecast_begins {s : State} {k q : Nat} (byPolicy : Bool) (apart : s.physOf k ≠ q) :
    (startRecast k q byPolicy s).recast (k / 8) =
        { st := .precopy, result := 0, logical := k, source := s.physOf k, target := q, byPolicy := byPolicy, dirty := [] } ∧
      (startRecast k q byPolicy s).flask (s.physOf k) = { s.flask (s.physOf k) with role := .recastSource } ∧
      (startRecast k q byPolicy s).flask q = { s.flask q with role := .recastTarget, logical := k } := by
  rw [startRecast_eq]
  refine ⟨?_, ?_, ?_⟩
  · change (takeRoles k q byPolicy s).recast _ = _
    rw [takeRoles, State.modFlask_recast, State.modFlask_recast, State.modRecast_same]
  · change (takeRoles k q byPolicy s).flask _ = _
    rw [takeRoles, State.modFlask_ne _ _ _ _ apart, State.modFlask_same, State.modRecast_flask]
  · change (takeRoles k q byPolicy s).flask _ = _
    rw [takeRoles, State.modFlask_same, State.modFlask_ne _ _ _ _ apart.symm, State.modRecast_flask]

/-- The source is ACTIVE, the target SPARE_IDLE: they are two flasks (R127). -/
theorem recast_apart {s : State} {k q : Nat} (target : recastTarget s k q = true) (allowed : recastAllowed s k q = true) : s.physOf k ≠ q := by
  simp only [recastTarget, recastAllowed, Bool.and_eq_true, decide_eq_true_eq] at target allowed
  intro same
  have active := allowed.1.1.1.1.1
  rw [same, target.2] at active
  cases active

theorem recastStart_starts {s : State} {k q : Nat} (hk : k < 64) (target : recastTarget s k q = true) (allowed : recastAllowed s k q = true) :
    recastStart k q s = .ok (startRecast k q false s) := need_ok (by simp [hk, target, allowed])

theorem recastCmdStart_begins (s : State) (path k q : Nat) (admitted : Admitted s path 0x4200 0x41 2) (hk : k < 64)
    (target : recastTarget s k q = true) (allowed : recastAllowed s k q = true) : Answers (.recastCmdStart path k q) s (fun t =>
      t.recast (k / 8) = { st := .precopy, result := 0, logical := k, source := s.physOf k, target := q, byPolicy := false, dirty := [] } ∧
      t.flask (s.physOf k) = { s.flask (s.physOf k) with role := .recastSource } ∧
      t.flask q = { s.flask q with role := .recastTarget, logical := k } ∧ t.lmap = s.lmap ∧ OnlyAnswered s t) := by
  obtain ⟨u, t, next, touched, answered, only⟩ := dictCommand_acts admitted
    (fun u a => recastStart_starts hk ((a.recastTarget k q).trans target) ((a.recastAllowed k q).trans allowed)) (fun _ => ⟨rfl, rfl⟩)
  have apart : u.physOf k ≠ q := by rw [touched.physOf]; exact recast_apart target allowed
  obtain ⟨recast, source, dest⟩ := startRecast_begins false apart
  rw [touched.physOf, touched.flask] at source
  rw [touched.flask] at dest
  refine ⟨t, next, ?_, ?_, ?_, ?_, only⟩
  · rw [answered.recast, recast, touched.physOf]
  · rw [answered.flask, source]
  · rw [answered.flask, dest]
  · exact answered.lmap.trans touched.lmap

theorem recastCmdRelease_releases (s : State) (path p : Nat) (admitted : Admitted s path 0x4200 0x41 2) (hp : p < 72)
    (retired : (s.flask p).role = .retired) (again : (s.flask p).repowered = true) : Answers (.recastCmdRelease path p) s (fun t =>
      t.flask p = { s.flask p with role := .spareIdle, repowered := false } ∧ OnlyAnswered s t ∧
      t = { s with flasks := t.flasks, dict := t.dict, net := t.net, out := t.out }) := by
  have acts : ∀ u, Answered s u → recastRelease p u = .ok (u.modFlask p (fun f => { f with role := .spareIdle, repowered := false })) :=
    fun u a => need_ok (by simp [hp, a.flask, retired, again])
  exact dictCommand_modFlask admitted acts

/-! ### The abort -/

theorem reportAt_changes (code kind oid : Nat) (aux : Word) (detail : DWord) (s : State) :
    ∃ c, reportAt code kind oid aux detail s = { s with chill := c } := ⟨_, reportAt_machine code kind oid aux detail s⟩

theorem policyFails_changes (p reason : Nat) (s : State) : ∃ c, policyFails p reason s = { s with chill := c } := by
  unfold policyFails
  split
  · exact ⟨s.chill, rfl⟩
  · obtain ⟨c, changes⟩ := reportAt_changes 0x1103 1 p (flaskAux s p) (BitVec.ofNat 64 reason) s
    rw [reportFlask, changes]
    exact ⟨_, rfl⟩

/-- Beyond the roles that return, an abort changes the log alone (R129, R131, R697). -/
theorem abortRecast_returns (y : Nat) (result : BitVec 8) (s : State) :
    (∀ x, (abortRecast y result s).recast x = (returnRoles y result s).recast x) ∧
      (∀ p, (abortRecast y result s).flask p = (returnRoles y result s).flask p) ∧ (abortRecast y result s).lmap = (returnRoles y result s).lmap ∧
      (abortRecast y result s).dict = (returnRoles y result s).dict ∧ (abortRecast y result s).net = (returnRoles y result s).net := by
  rw [abortRecast_eq]
  generalize returnRoles y result s = u
  split
  · obtain ⟨c, changes⟩ := policyFails_changes (s.recast y).source (0x10 + result.toNat) u
    rw [changes]
    exact ⟨fun _ => rfl, fun _ => rfl, rfl, rfl, rfl⟩
  · exact ⟨fun _ => rfl, fun _ => rfl, rfl, rfl, rfl⟩

theorem returnRoles_recast (y : Nat) (result : BitVec 8) (s : State) :
    (returnRoles y result s).recast y = { s.recast y with st := .aborted, result := result, dirty := [] } := by
  rw [returnRoles, State.modFlask_recast, State.modFlask_recast, State.modRecast_same]

theorem abortRecast_aborts (y : Nat) (result : BitVec 8) (s : State) :
    ((abortRecast y result s).recast y).st = .aborted ∧ ((abortRecast y result s).recast y).result = result := by
  rw [(abortRecast_returns ..).1, returnRoles_recast]
  exact ⟨rfl, rfl⟩

theorem abortRecast_keeps (y : Nat) (result : BitVec 8) (s : State) :
    (abortRecast y result s).lmap = s.lmap ∧ (abortRecast y result s).dict = s.dict ∧ (abortRecast y result s).net = s.net := by
  obtain ⟨-, -, lmap, dict, net⟩ := abortRecast_returns y result s
  rw [lmap, dict, net]
  simp [returnRoles]

/-- The source is ACTIVE again. -/
theorem abortRecast_source {y : Nat} (result : BitVec 8) {s : State} (apart : (s.recast y).source ≠ (s.recast y).target)
    (role : (s.flask (s.recast y).source).role = .recastSource) : ((abortRecast y result s).flask (s.recast y).source).role = .active := by
  obtain ⟨-, flasks, -⟩ := abortRecast_returns y result s
  rw [flasks, returnRoles, State.modFlask_ne _ _ _ _ apart, State.modFlask_same, State.modRecast_flask, if_pos role]

theorem recastCmdCancel_aborts (s : State) (path k : Nat) (admitted : Admitted s path 0x4200 0x41 2) (hk : k < 64)
    (under : (s.recast (k / 8)).st = .precopy ∨ (s.recast (k / 8)).st = .drain) (logical : (s.recast (k / 8)).logical = k) :
    Answers (.recastCmdCancel path k) s (fun t =>
      (t.recast (k / 8)).st = .aborted ∧ (t.recast (k / 8)).result = 2 ∧ t.lmap = s.lmap ∧ OnlyAnswered s t) := by
  have acts : ∀ u, Answered s u → recastCancel k u = .ok (abortRecast (k / 8) 2 u) := fun u a =>
    need_ok (by rw [a.recast]; simpa [hk, logical] using under)
  obtain ⟨u, t, next, touched, answered, only⟩ := dictCommand_acts admitted acts (fun u => (abortRecast_keeps (k / 8) 2 u).2)
  obtain ⟨st, result⟩ := abortRecast_aborts (k / 8) 2 u
  refine ⟨t, next, ?_, ?_, ?_, only⟩
  · rw [answered.recast, st]
  · rw [answered.recast, result]
  · rw [answered.lmap, (abortRecast_keeps ..).1, touched.lmap]

theorem recastTimeout_aborts (s : State) (y : Nat) (drain : (s.recast y).st = .drain) : Answers (.recastTimeout y) s (fun t =>
    (t.recast y).st = .aborted ∧ (t.recast y).result = 1 ∧ t.lmap = s.lmap) := by
  obtain ⟨st, result⟩ := abortRecast_aborts y 1 s
  exact ⟨_, event_of (by simp [drain]) s (abortRecast y 1 s), st, result, (abortRecast_keeps y 1 s).1⟩

theorem recastTargetFault_aborts (s : State) (y : Nat) (under : s.recasting y = true) : Answers (.recastTargetFault y) s (fun t =>
    (t.recast y).st = .aborted ∧ (t.recast y).result = 3 ∧ t.lmap = s.lmap ∧
    ((s.recast y).source ≠ (s.recast y).target → (s.flask (s.recast y).source).role = .recastSource →
      (t.flask (s.recast y).source).role = .active)) := by
  obtain ⟨st, result⟩ := abortRecast_aborts y 3 s
  exact ⟨_, event_of under s (abortRecast y 3 s), st, result, (abortRecast_keeps y 3 s).1, abortRecast_source 3⟩

/-! ### Drain and freeze -/

theorem recastPrecopyComplete_drains (s : State) (y : Nat) (precopy : (s.recast y).st = .precopy) : Answers (.recastPrecopyComplete y) s (fun t =>
    ((s.recast y).dirty.length ≤ 512 → t.recast y = { s.recast y with st := .drain }) ∧
    (512 < (s.recast y).dirty.length → t.recast y = { s.recast y with dirty := [] }) ∧ t = { s with recasts := t.recasts }) := by
  refine ⟨_, event_of (by simp [precopy]) s _, fun few => ?_, fun many => ?_, rfl⟩
  · rw [State.modRecast_same, if_pos few]
  · rw [State.modRecast_same, if_neg (Nat.not_le.mpr many)]

theorem recastFreeze_freezes (s : State) (y : Nat) (drain : (s.recast y).st = .drain) (locked : s.power.pllLocked = true)
    (quiet : flaskQuiet (holdFlask (s.recast y).source s) (s.recast y).source = true)
    (whole : noOpenPush (holdFlask (s.recast y).source s) (s.recast y).source = true) : Answers (.recastFreeze y) s (fun t =>
      t.recast y = { (holdFlask (s.recast y).source s).recast y with st := .freeze } ∧
      t = { holdFlask (s.recast y).source s with recasts := t.recasts }) := by
  refine ⟨_, event_of ?_ s ((holdFlask (s.recast y).source s).modRecast y (fun r => { r with st := .freeze })), State.modRecast_same .., rfl⟩
  rw [decide_eq_true drain, locked, quiet, whole]
  rfl

/-! ### The switch -/

theorem copySettings_changes (a b : Nat) (s : State) : ∃ d, copySettings a b s = { s with dict := d } := by
  suffices h : ∀ (l : List Nat) (s : State), ∃ d, l.foldl (fun s sub => s.putSetting b sub (s.setting a sub)) s = { s with dict := d } from h _ s
  intro l
  induction l with
  | nil => exact fun s => ⟨s.dict, rfl⟩
  | cons sub l ih => exact fun s => ih (s.putSetting b sub (s.setting a sub))

theorem setRoute_changes (r id port : Nat) (s : State) : ∃ n, setRoute r id port s = { s with net := n } := ⟨_, rfl⟩

/-- What the flasks and crucibles of a recast are once it has switched. -/
def takeOver (r : Recast) (s : State) : State :=
  (((s.modFlask r.target (fun t => t.recastFrom (s.flask r.source))).modCru r.target (fun t => t.recastFrom (s.cru r.source))).modFlask r.source
    (fun f => { f with role := .retired, repowered := false, cur := 16, nxt := 16, cyc := .reset })).modCru r.source (fun c => { c with st := .stopped })

theorem takeOver_chill (r : Recast) (s : State) : (takeOver r s).chill = s.chill := rfl
theorem takeOver_recastCount (r : Recast) (s : State) : (takeOver r s).recastCount = s.recastCount := rfl

/-- The logical flask's place in the map, and the count of recasts. -/
def remap (r : Recast) (s : State) : State :=
  { s with lmap := Tab.set (lmapDefault r.logical) s.lmap r.logical r.target, recastCount := s.recastCount + 1 }

/-- Beyond flasks and crucibles the switch changes stored entries, the map with its count, and routes (R129, R372). -/
theorem switchRecast_eq (r : Recast) (s : State) : switchRecast r s =
    setRoute (r.logical / 8) (64 + r.logical / 8) (r.source % 9) (setRoute (r.logical / 8) r.logical (r.target % 9)
      (remap r (copySettings (0x4100 + r.source) (0x4100 + r.target) (copySettings (0x4000 + r.source) (0x4000 + r.target) (takeOver r s))))) := rfl

theorem switchRecast_keeps (r : Recast) (s : State) :
    (∀ p, (switchRecast r s).flask p = (takeOver r s).flask p) ∧ (switchRecast r s).physOf r.logical = r.target ∧
      (switchRecast r s).recastCount = s.recastCount + 1 ∧ (switchRecast r s).chill = s.chill := by
  rw [switchRecast_eq, ← takeOver_chill r s, ← takeOver_recastCount r s]
  generalize takeOver r s = u
  obtain ⟨d, first⟩ := copySettings_changes (0x4000 + r.source) (0x4000 + r.target) u
  rw [first]
  obtain ⟨d', second⟩ := copySettings_changes (0x4100 + r.source) (0x4100 + r.target) { u with dict := d }
  rw [second]
  obtain ⟨n, third⟩ := setRoute_changes (r.logical / 8) r.logical (r.target % 9) (remap r { u with dict := d' })
  rw [third]
  obtain ⟨n', fourth⟩ := setRoute_changes (r.logical / 8) (64 + r.logical / 8) (r.source % 9) { remap r { u with dict := d' } with net := n }
  rw [fourth]
  exact ⟨fun _ => rfl, Tab.get_set_same .., rfl, rfl⟩

theorem takeOver_flasks {r : Recast} (s : State) (apart : r.source ≠ r.target) :
    (takeOver r s).flask r.target = (s.flask r.target).recastFrom (s.flask r.source) ∧
      ((takeOver r s).flask r.source).role = .retired := by
  rw [takeOver, State.modCru_flask, State.modCru_flask, State.modFlask_ne _ _ _ _ apart.symm, State.modFlask_same, State.modCru_flask,
    State.modFlask_same]
  exact ⟨rfl, rfl⟩

/-- The switch, and the row's recast DONE. -/
def switchDone (y : Nat) (s : State) : State :=
  (switchRecast (s.recast y) s).modRecast y (fun r => { r with st := .done, dirty := [] })

theorem exec_recastDone {s : State} {y : Nat} (freeze : (s.recast y).st = .freeze) (tick : s.tickFree = true) :
    exec (.recastDone y) s = .next (if (s.recast y).byPolicy then
      reportAt 0x2110 2 (s.recast y).logical (BitVec.ofNat 32 ((s.recast y).source * 256 + (s.recast y).target)) 0 (switchDone y s)
      else switchDone y s) := event_of (by simp [freeze, tick]) _ _

theorem switchDone_recast (y : Nat) (s : State) : ((switchDone y s).recast y).st = .done := by
  rw [switchDone, State.modRecast_same]

theorem switchDone_keeps (y : Nat) (s : State) :
    (∀ p, (switchDone y s).flask p = (takeOver (s.recast y) s).flask p) ∧ (switchDone y s).physOf (s.recast y).logical = (s.recast y).target ∧
      (switchDone y s).recastCount = s.recastCount + 1 ∧ (switchDone y s).chill = s.chill := by
  have keeps := switchRecast_keeps (s.recast y) s
  rw [switchDone]
  generalize switchRecast (s.recast y) s = u at *
  exact keeps

theorem recastDone_switches (s : State) (y : Nat) (freeze : (s.recast y).st = .freeze) (tick : s.tickFree = true)
    (apart : (s.recast y).source ≠ (s.recast y).target) : Answers (.recastDone y) s (fun t =>
      let r := s.recast y
      (t.recast y).st = .done ∧ t.physOf r.logical = r.target ∧ t.flask r.target = (s.flask r.target).recastFrom (s.flask r.source) ∧
      (t.flask r.source).role = .retired ∧ t.recastCount = s.recastCount + 1 ∧ (r.byPolicy = true → Reports s t 0x2110 2 r.logical)) := by
  obtain ⟨flasks, map, count, chill⟩ := switchDone_keeps y s
  obtain ⟨target, source⟩ := takeOver_flasks s apart
  rw [← flasks] at target source
  have done := switchDone_recast y s
  have next := exec_recastDone freeze tick
  generalize switchDone y s = u at *
  refine ⟨_, next, ?_⟩
  cases policy : (s.recast y).byPolicy with
  | false => exact ⟨done, map, target, source, count, fun h => absurd (policy.symm.trans h) Bool.false_ne_true⟩
  | true =>
    obtain ⟨c, changes⟩ := reportAt_changes 0x2110 2 (s.recast y).logical
      (BitVec.ofNat 32 ((s.recast y).source * 256 + (s.recast y).target)) 0 u
    have reported := reports_reportAt 0x2110 2 (s.recast y).logical
      (BitVec.ofNat 32 ((s.recast y).source * 256 + (s.recast y).target)) 0 u
    rw [if_pos rfl]
    rw [changes] at reported ⊢
    exact ⟨done, map, target, source, count, fun _ => reported.of_chill chill⟩

/-- Settles O10: the moves of a recast, its ends by abort, and the switch. -/
theorem recastMovesFlask : Obligations.RecastMovesFlask := by
  unfold Obligations.RecastMovesFlask
  refine ⟨?start, recastCmdCancel_aborts, recastCmdRelease_releases, recastPrecopyComplete_drains, recastFreeze_freezes, ?done,
    recastTimeout_aborts, recastTargetFault_aborts⟩
  case start =>
    intro s path k q admitted hk target allowed
    obtain ⟨t, next, recast, rest⟩ := recastCmdStart_begins s path k q admitted hk target allowed
    exact ⟨t, next, by rw [recast], by rw [recast], by rw [recast], by rw [recast], by rw [recast], rest⟩
  case done =>
    intro s y freeze tick apart
    obtain ⟨t, next, done, map, target, rest⟩ := recastDone_switches s y freeze tick apart
    exact ⟨t, next, done, map, by rw [target]; rfl, by rw [target]; rfl, by rw [target]; rfl, by rw [target]; rfl, rest⟩

end Sys2Proof.Machine
end

section
/-! Proofs of 03_flask_contexts.md (R92-R94, R99-R104, R110-R114): the sequencer's cycle, the dispatch FIFO and words that cross. What the end of a
cycle may touch is said once; the counters and the choice then follow from the beginning of the next cycle and from the choice itself. -/

namespace Sys2Proof.Machine

/-! ### What the end of a cycle may touch (R62) -/

/-- Of a flask the words, their memories and the cycle's record may have changed: neither its role, its slots in turn nor its counters. -/
def Flask.Settled (f g : Flask) : Prop :=
  g = { f with slots := g.slots, s := g.s, bm0 := g.bm0, bm1 := g.bm1, scrub := g.scrub, wb := g.wb, cyc := g.cyc, credits := g.credits }

theorem Flask.Settled.trans {f g h : Flask} (a : f.Settled g) (b : g.Settled h) : f.Settled h := by
  unfold Flask.Settled at *; rw [b, a]

/-- The end of a cycle of flask `p` settles that flask and may mark words of a recast; power, stored entries and the loader stay. -/
structure CycleEnds (p : Nat) (s t : State) : Prop where
  power : t.power = s.power
  dict : t.dict = s.dict
  loader : t.loader = s.loader
  recast : ∀ y, t.recast y = { s.recast y with dirty := (t.recast y).dirty }
  own : (s.flask p).Settled (t.flask p)

namespace CycleEnds

variable {p : Nat} {s t u : State}

theorem refl (p : Nat) (s : State) : CycleEnds p s s := ⟨rfl, rfl, rfl, fun _ => rfl, rfl⟩

theorem trans (a : CycleEnds p s t) (b : CycleEnds p t u) : CycleEnds p s u where
  power := b.power.trans a.power
  dict := b.dict.trans a.dict
  loader := b.loader.trans a.loader
  recast y := by rw [b.recast y, a.recast y]
  own := a.own.trans b.own

theorem foldl {α : Type} {step : State → α → State} (h : ∀ s a, CycleEnds p s (step s a)) :
    ∀ (l : List α) (s : State), CycleEnds p s (l.foldl step s)
  | [], s => refl p s
  | a :: l, s => (h s a).trans (foldl h l (step s a))

theorem modFlask (s : State) {g : Flask → Flask} (h : ∀ f : Flask, f.Settled (g f)) : CycleEnds p s (s.modFlask p g) :=
  ⟨rfl, rfl, rfl, fun _ => rfl, by rw [State.modFlask_same]; exact h _⟩

theorem modCru (s : State) (g : Cru → Cru) : CycleEnds p s (s.modCru p g) := ⟨rfl, rfl, rfl, fun _ => rfl, rfl⟩

theorem of_firing {c : Nat} (a : FiringFrame p c s t) : CycleEnds p s t where
  power := by rw [a.machine]
  dict := by rw [a.machine]
  loader := by rw [a.machine]
  recast _ := by rw [a.machine]; rfl
  own := by unfold Flask.Settled; rw [a.own.rest]

theorem of_words (a : OnlyWordsMoved s t) : CycleEnds p s t where
  power := by rw [a.1]
  dict := by rw [a.1]
  loader := by rw [a.1]
  recast _ := by rw [a.1]; rfl
  own := by unfold Flask.Settled; rw [(a.2 p).1]

theorem markDirty (p space word : Nat) (s : State) : CycleEnds p s (markDirty p space word s) := by
  unfold Machine.markDirty
  dsimp only
  split
  · refine ⟨rfl, rfl, rfl, fun y => ?_, rfl⟩
    by_cases e : y = p / 9
    · rw [e, State.modRecast_same]
    · rw [State.modRecast_ne _ _ _ _ e]
  · exact refl p s

/-- The flask is as live after the end of a cycle as before it, held still if it was, and throttled if it was. -/
theorem flaskLive (a : CycleEnds p s t) : t.flaskLive p = s.flaskLive p := by
  simp only [State.flaskLive, State.domOn, State.dom, a.power]
  rw [a.own]
  rfl

theorem heldStill (a : CycleEnds p s t) : t.heldStill p = s.heldStill p := by
  simp only [State.heldStill, State.frozen, State.placing, State.inRegion, a.loader]
  rw [a.recast]

theorem throttled (a : CycleEnds p s t) : throttled t p = throttled s p := by
  simp only [Machine.throttled, State.settingN, State.setting, State.settingOf, a.power, a.dict]
  rw [a.own]
  rfl

end CycleEnds

theorem Flask.modCtx_settled (f : Flask) (n : Nat) (g : Ctx → Ctx) : f.Settled (f.modCtx n g) := rfl

theorem bmStore_ends (p : Nat) (w : BmWrite) (s : State) : CycleEnds p s (bmStore p w s) := by
  have put (u : State) (ws : List BmWrite) (b : Tab Word) :
      CycleEnds p u (u.modFlask p (fun f => { f.setBm w.mem b with cyc := { f.cyc with writes := ws } })) :=
    .modFlask u fun f => by unfold Flask.Settled Flask.setBm; split <;> rfl
  unfold bmStore
  dsimp only
  split
  · exact (CycleEnds.modFlask s fun f => f.modCtx_settled _ _).trans (put ..)
  · exact put ..

theorem keepPort_ends (p n bits : Nat) (d : TWord) (s : State) : CycleEnds p s (keepPort p n bits d s) := by
  unfold keepPort
  split
  · exact .modFlask s fun f => rfl
  · exact .refl p s

theorem markFired_ends (p e : Nat) (s : State) : CycleEnds p s (markFired p e s) := .of_firing (markFired_frame p 0 e s)

theorem firePortRead_ends (p n : Nat) (s : State) : CycleEnds p s (firePortRead p n s) := by
  rw [firePortRead_eq]
  exact ((CycleEnds.of_words (onlyWordsMoved_takeReg ..)).trans (.modFlask _ fun f => f.modCtx_settled _ _)).trans (markFired_ends ..)

theorem firePortWrite_ends (p n : Nat) (s : State) : CycleEnds p s (firePortWrite p n s) := by
  have taken : CycleEnds p s ((portTakes (s.flask p).cyc n).eraseDups.foldl (fun s l => takeReg p s (128 + l)) s) :=
    .foldl (fun u l => .of_words (onlyWordsMoved_takeReg p u (128 + l))) _ s
  have stored (w : BmWrite) (wo : Nat) (u : State) : CycleEnds p u (markDirty p (n / 2) wo (bmStore p w u)) :=
    (bmStore_ends ..).trans (.markDirty ..)
  rw [firePortWrite_eq]
  dsimp only
  refine CycleEnds.trans (CycleEnds.trans ?_ (keepPort_ends ..)) (markFired_ends ..)
  split
  · exact (taken.trans (stored ..)).trans (stored ..)
  · exact taken.trans (stored ..)

theorem firePort_ends (p n : Nat) (y : Cycle) (s : State) : CycleEnds p s (if portWrites y n then firePortWrite p n s else firePortRead p n s) := by
  split
  · exact firePortWrite_ends ..
  · exact firePortRead_ends ..

theorem loadOut_ends (p n c : Nat) (w : TWord) (s : State) : CycleEnds p s (loadOut p n c w s) := by
  refine .modFlask s fun f => ?_
  unfold Flask.Settled
  dsimp only
  split <;> rfl

theorem writeS_ends (p c ix : Nat) (v : Word) (s : State) : CycleEnds p s (writeS p c ix v s) := by
  have put (u : State) : CycleEnds p u (putS p c ix v u) := .modFlask u fun f => rfl
  have mark (u : State) : CycleEnds p u (markContention p u) := .modFlask u fun f => rfl
  obtain ⟨u, first, last⟩ := writeS_cases p c ix v s
  have begun : CycleEnds p s u := by
    rcases first with rfl | rfl
    · exact .refl p _
    · exact mark s
  rcases last with e | e
  · rw [e]; exact begun
  · rw [e]; exact begun.trans (put u)

theorem deliverPop_ends (p n c : Nat) (s : State) : CycleEnds p s (deliverPop p n c s) := by
  have pop (g : Ctx → Ctx) (u : State) : CycleEnds p u (u.modFlask p (fun f => f.modCtx n g)) := .modFlask u fun f => f.modCtx_settled n g
  unfold deliverPop
  dsimp only
  split
  · split
    · exact .refl p s
    · split
      · exact ((pop ..).trans (loadOut_ends ..)).trans (writeS_ends ..)
      · exact (pop ..).trans (loadOut_ends ..)
  · exact pop ..
  · exact .refl p s

theorem deliverPops_ends (p n c : Nat) : ∀ (k : Nat) (s : State), CycleEnds p s (deliverPops p n c k s)
  | 0, s => .refl p s
  | k + 1, s => (deliverPop_ends p n c s).trans (deliverPops_ends p n c k _)

/-- A narrow write in its second cycle gives its port back. -/
def freePort (f : Flask) (e : Nat × Nat) : Flask :=
  f.modSlot e.1 (fun x => { x with ctx := { x.ctx with bmWd := Tab.set TWord.empty x.ctx.bmWd e.2 .empty } })

theorem freePorts_settled : ∀ (l : List (Nat × Nat)) (f : Flask), f.Settled (l.foldl freePort f)
  | [], _ => rfl
  | e :: l, f => Flask.Settled.trans (g := freePort f e) rfl (freePorts_settled l (freePort f e))

theorem endMemories_ends (p : Nat) (s : State) : CycleEnds p s (endMemories p s) :=
  .modFlask s fun f => Flask.Settled.trans (freePorts_settled f.wb f) rfl

/-- What a cycle leaves in a slot's context (R64-R67). -/
def settleSlot (e : FabEnv) (stuck : List Nat) (y : Cycle) (x : Slot) : Slot :=
  let z := settleCtx e stuck y.fired y.loaded x.ctx
  { x with ctx := z, moved := x.moved || decide (z ≠ x.ctx) }

/-- The words of the running context and of the crucible's streams settle. -/
def settleWords (p : Nat) (e : FabEnv) (stuck : List Nat) (s : State) : State :=
  (s.modFlask p (fun f => f.modSlot f.cur (settleSlot e stuck (s.flask p).cyc))).modCru p (settleStreams e stuck)

/-- Answered pops are delivered and the memories end their cycle, once cells, ports and lanes have acted and the words have settled (R62). -/
def settleCycle (p : Nat) (e : FabEnv) (stuck : List Nat) (s : State) : State :=
  let u := settleWords p e stuck s
  endMemories p ((((u.flask p).slot (u.flask p).cur).ctx.pops.map (·.1)).foldl (fun s c => deliverPops p (u.flask p).cur c 4 s) u)

theorem settleWords_ends (p : Nat) (e : FabEnv) (stuck : List Nat) (s : State) : CycleEnds p s (settleWords p e stuck s) :=
  (CycleEnds.modFlask s (g := fun f => f.modSlot f.cur (settleSlot e stuck (s.flask p).cyc)) fun _ => rfl).trans (.modCru _ _)

theorem settleCycle_ends (p : Nat) (e : FabEnv) (stuck : List Nat) (s : State) : CycleEnds p s (settleCycle p e stuck s) :=
  ((settleWords_ends p e stuck s).trans (.foldl (fun u c => deliverPops_ends p _ c 4 u) _ _)).trans (endMemories_ends p _)

/-- The cells that can fire and that no command has fired act at the end of the cycle (R62). -/
def actCells (p : Nat) (e : FabEnv) (stuck : List Nat) (s : State) : State :=
  (e.cells.filter (fun c => !stuck.contains c && !e.y.fired.contains c)).foldl (fun s c => fireCell p c s) s

/-- So do the ports of the block memories. -/
def actPorts (p : Nat) (e : FabEnv) (stuck : List Nat) (s : State) : State :=
  ([0, 1, 2, 3].filter (fun n => portOn e.y.ctx n && !stuck.contains (136 + n) && !e.y.fired.contains (136 + n))).foldl
    (fun s n => if portWrites e.y n then firePortWrite p n s else firePortRead p n s) s

/-- So do the lanes. -/
def actLanes (p : Nat) (e : FabEnv) (stuck : List Nat) (s : State) : State :=
  ((List.range 32).filter (fun sl => !e.y.fired.contains (140 + sl) && (lanesOf e.y.ctx (laneCell sl)).contains sl &&
    (regWord e.y (laneCell sl)).v && regMoves e stuck (laneCell sl))).foldl (fun s sl => crossLane p sl s) s

theorem endCycle_eq (p : Nat) (s : State) : endCycle p s = if !s.running p then endMemories p s else
    settleCycle p (fabEnv s p) (stuckNow s p) (actLanes p (fabEnv s p) (stuckNow s p) (actPorts p (fabEnv s p) (stuckNow s p)
      (actCells p (fabEnv s p) (stuckNow s p) s))) := rfl

theorem endCycle_ends (p : Nat) (s : State) : CycleEnds p s (endCycle p s) := by
  rw [endCycle_eq]
  split
  · exact endMemories_ends p s
  · refine CycleEnds.trans (CycleEnds.trans (CycleEnds.trans (.foldl ?cell _ s) (.foldl ?port _ _)) (.foldl ?lane _ _)) (settleCycle_ends ..)
    case cell => exact fun u c => .of_firing (fireCell_frame p c u)
    case port => exact fun u n => firePort_ends p n _ u
    case lane => exact fun u sl => .of_words (onlyWordsMoved_crossLane p sl u)

/-- The fabric trigger reaches the chill alone (R670). -/
theorem fabTrigger_ends (p : Nat) (s t : State) : CycleEnds p t (fabTrigger p s t) := by
  unfold fabTrigger
  dsimp only
  split
  · exact ⟨rfl, rfl, rfl, fun _ => rfl, rfl⟩
  · exact .refl p t

/-! ### The cycle that begins (R92, R94) -/

theorem beginCycle_flask (p : Nat) (s : State) :
    let f := s.flask p
    let g := (beginCycle p s).flask p
    g.role = f.role ∧ g.irqBlocked = f.irqBlocked ∧ g.cur = (if throttled s p then 16 else f.nxt) ∧ g.prev = f.cur ∧ g.cycles = f.cycles + 1 ∧
      g.switches = (if g.cur = f.cur then f.switches else f.switches + 1) ∧
      g.idleCycles = (if g.cur = 16 then f.idleCycles + 1 else f.idleCycles) := by
  dsimp only
  rw [beginCycle, State.modFlask_same]
  dsimp only
  generalize (if throttled s p then 16 else (s.flask p).nxt) = cur
  split
  · exact ⟨rfl, rfl, rfl, rfl, rfl, ite_not .., rfl⟩
  · exact ⟨rfl, rfl, rfl, rfl, rfl, ite_not .., rfl⟩

theorem beginCycle_flasks (p : Nat) (s : State) : beginCycle p s = { s with flasks := (beginCycle p s).flasks } := rfl

/-! ### The choice (R93, R104) -/

/-- Urgent conditions are true and slot 15 serves them. -/
theorem chooseSlot_urgent {s : State} {p : Nat} (live : s.flaskLive p = true) (free : s.heldStill p = false) (urgent : urgentTrue s p = true)
    (serves : (s.flask p).runnable 15 = true) : chooseSlot s p = 15 := by
  simp [chooseSlot, live, free, urgent, serves]

theorem eventSlot_runnable {s : State} {p n : Nat} (h : eventSlot s p = some n) : (s.flask p).runnable n = true := by
  obtain ⟨m, found, rfl⟩ := Option.map_eq_some_iff.1 h
  have := List.find?_some found
  simp only [Bool.and_eq_true] at this
  exact this.2

/-- The base source chooses runnable slots (R93). -/
theorem baseSlot_runnable {s : State} {p n : Nat} (h : baseSlot s p = some n) : (s.flask p).runnable n = true := by
  unfold baseSlot at h
  dsimp only at h
  split at h
  · split at h
    · next runs => cases h; exact runs
    · cases h
  · exact eventSlot_runnable h
  · split at h
    · split at h
      · split at h
        · next runs => cases h; exact runs
        · cases h
      · cases h
    · cases h

/-- What is chosen can run, or is none (R93). -/
theorem chooseSlot_runnable (s : State) (p : Nat) : chooseSlot s p = 16 ∨ (s.flask p).runnable (chooseSlot s p) = true := by
  unfold chooseSlot
  dsimp only
  split
  · exact .inl rfl
  split
  · next urgent => exact .inr (Bool.and_eq_true_iff.1 urgent).2
  split
  · next stays => exact .inr (Bool.and_eq_true_iff.1 stays).2
  split
  · next base => exact .inr (baseSlot_runnable base)
  split
  · next runs => exact .inr runs
  · exact .inl rfl

/-- Of a flask its choice, its count of urgent conditions, its dispatch FIFO and its engine's requests may have changed. -/
def Flask.Chosen (f g : Flask) : Prop := g = { f with nxt := g.nxt, irqBlocked := g.irqBlocked, fifo := g.fifo, eng := g.eng }

/-- Of the entries of a dispatch FIFO all but the mark of the fill that the first asks for. -/
def unasked (fifo : List DispEntry) : List DispEntry := fifo.map (fun d => { d with fillAsked := false })

theorem dispatchFill_flask (p : Nat) (s : State) : ∃ fifo eng, (dispatchFill p s).flask p = { s.flask p with fifo := fifo, eng := eng } ∧
    unasked fifo = unasked (s.flask p).fifo := by
  unfold dispatchFill
  dsimp only
  split
  · next d rest entries =>
    split
    · exact ⟨_, _, rfl, rfl⟩
    · exact ⟨_, _, State.modFlask_same .., by rw [entries]; rfl⟩
  · exact ⟨_, _, rfl, rfl⟩

theorem dispatchFill_flasks (p : Nat) (s : State) : dispatchFill p s = { s with flasks := (dispatchFill p s).flasks } := by
  unfold dispatchFill
  dsimp only
  split
  · split <;> rfl
  · rfl

/-- The choice is written, and an urgent condition that slot 15 cannot serve is counted (R104). -/
def noteChoice (n : Nat) (blocked : Bool) (f : Flask) : Flask :=
  { f with nxt := n, irqBlocked := if blocked then f.irqBlocked + 1 else f.irqBlocked }

theorem makeChoice_eq (p : Nat) (s : State) : makeChoice p s =
    dispatchFill p (s.modFlask p (noteChoice (chooseSlot s p) (urgentTrue s p && !(s.flask p).runnable 15))) := rfl

theorem makeChoice_flask (p : Nat) (s : State) :
    (s.flask p).Chosen ((makeChoice p s).flask p) ∧ ((makeChoice p s).flask p).nxt = chooseSlot s p ∧
      ((makeChoice p s).flask p).irqBlocked =
        (if urgentTrue s p && !(s.flask p).runnable 15 then (s.flask p).irqBlocked + 1 else (s.flask p).irqBlocked) := by
  rw [makeChoice_eq]
  obtain ⟨fifo, eng, flask, -⟩ :=
    dispatchFill_flask p (s.modFlask p (noteChoice (chooseSlot s p) (urgentTrue s p && !(s.flask p).runnable 15)))
  rw [flask, State.modFlask_same]
  exact ⟨rfl, rfl, rfl⟩

theorem makeChoice_flasks (p : Nat) (s : State) : makeChoice p s = { s with flasks := (makeChoice p s).flasks } := by
  rw [makeChoice_eq]
  exact dispatchFill_flasks p _

theorem Flask.Chosen.runnable {f g : Flask} (h : f.Chosen g) (n : Nat) : g.runnable n = f.runnable n := by
  unfold Flask.runnable Flask.slot; rw [h]

/-- No condition of the event table reads what a choice changes (R97). -/
theorem urgentTrue_chosen {s t : State} {p : Nat} (flasks : t = { s with flasks := t.flasks }) (chosen : (s.flask p).Chosen (t.flask p)) :
    urgentTrue t p = urgentTrue s p := by
  have settings : t.seqCfg p = s.seqCfg p ∧ t.eventEntry p = s.eventEntry p ∧ t.watchReg p = s.watchReg p := by
    rw [flasks]; exact ⟨rfl, rfl, rfl⟩
  have around : t.producer (t.flaskNode p) = s.producer (s.flaskNode p) ∧ t.cru p = s.cru p := by
    rw [flasks]; exact ⟨rfl, rfl⟩
  have own : (t.flask p).slot = (s.flask p).slot ∧ (t.flask p).watchNe = (s.flask p).watchNe ∧
      (t.flask p).credits = (s.flask p).credits ∧ (t.flask p).s = (s.flask p).s := by
    rw [chosen]; exact ⟨rfl, rfl, rfl, rfl⟩
  simp only [urgentTrue, entryTrue, condition, settings, around, own]

/-! ### SEQUENCER_CHOICE -/

/-- What the sequencer counts does not change at the end of a cycle. -/
theorem Flask.Settled.counts {f g : Flask} (h : f.Settled g) : g.cur = f.cur ∧ g.nxt = f.nxt ∧ g.cycles = f.cycles ∧ g.switches = f.switches ∧
    g.idleCycles = f.idleCycles ∧ g.irqBlocked = f.irqBlocked := by
  rw [h]; exact ⟨rfl, rfl, rfl, rfl, rfl, rfl⟩

/-- A choice leaves the cycle that has begun as it is. -/
theorem Flask.Chosen.counts {f g : Flask} (h : f.Chosen g) : g.cur = f.cur ∧ g.prev = f.prev ∧ g.cycles = f.cycles ∧ g.switches = f.switches ∧
    g.idleCycles = f.idleCycles := by
  rw [h]; exact ⟨rfl, rfl, rfl, rfl, rfl⟩

/-- The flask as its cycle has ended. -/
def cycleEnded (p : Nat) (s : State) : State := fabTrigger p s (endCycle p s)

theorem cycleEnded_ends (p : Nat) (s : State) : CycleEnds p s (cycleEnded p s) := (endCycle_ends p s).trans (fabTrigger_ends p s _)

/-- SEQUENCER_CHOICE with no parity error. -/
theorem exec_sequencerChoice {s : State} {p : Nat} (live : s.flaskLive p = true) : exec (.sequencerChoice p .clean) s =
    .next (if s.heldStill p then heldCycle p s else makeChoice p (beginCycle p (cycleEnded p s))) := by
  refine (event_of live _ _).trans (congrArg _ ?_)
  simp only [reduceCtorEq, decide_false, Bool.false_and, Bool.false_eq_true, if_false, cycleEnded]

/-- As the next cycle begins the flask is as live as it was. -/
theorem beginCycle_live (p : Nat) (s : State) : (beginCycle p s).flaskLive p = s.flaskLive p := by
  obtain ⟨role, -⟩ := beginCycle_flask p s
  have power : (beginCycle p s).domOn p = s.domOn p := rfl
  simp only [State.flaskLive, Flask.live, role, power]

theorem sequencerChoice_runs (s : State) (p : Nat) (live : s.flaskLive p = true) (free : s.heldStill p = false) :
    Answers (.sequencerChoice p .clean) s (fun t =>
      let f := s.flask p
      let g := t.flask p
      g.cur = (if throttled s p then 16 else f.nxt) ∧ g.prev = f.cur ∧ g.cycles = f.cycles + 1 ∧
      g.switches = (if g.cur = f.cur then f.switches else f.switches + 1) ∧ g.idleCycles = (if g.cur = 16 then f.idleCycles + 1 else f.idleCycles) ∧
      (urgentTrue t p = true → g.runnable 15 = true → g.nxt = 15) ∧
      (urgentTrue t p = true → g.runnable 15 = false → g.irqBlocked = f.irqBlocked + 1) ∧
      (g.nxt = 16 ∨ g.runnable g.nxt = true)) := by
  have ended := cycleEnded_ends p s
  have next := exec_sequencerChoice live
  rw [if_neg (by rw [free]; exact Bool.false_ne_true)] at next
  rw [← ended.throttled]
  rw [← ended.flaskLive] at live
  rw [← ended.heldStill] at free
  obtain ⟨oldCur, oldNxt, oldCycles, oldSwitches, oldIdle, oldIrq⟩ := ended.own.counts
  generalize cycleEnded p s = u at *
  obtain ⟨role, irq, cur, prev, cycles, switches, idle⟩ := beginCycle_flask p u
  have live' := (beginCycle_live p u).trans live
  have free' : (beginCycle p u).heldStill p = false := free
  generalize beginCycle p u = v at *
  obtain ⟨chosen, nxt, blocked⟩ := makeChoice_flask p v
  have urgent := urgentTrue_chosen (makeChoice_flasks p v) chosen
  obtain ⟨newCur, newPrev, newCycles, newSwitches, newIdle⟩ := chosen.counts
  refine ⟨_, next, ?_, ?_, ?_, ?_, ?_, fun true15 serves => ?_, fun true15 lacks => ?_, ?_⟩
  · rw [newCur, cur, oldNxt]
  · rw [newPrev, prev, oldCur]
  · rw [newCycles, cycles, oldCycles]
  · rw [newSwitches, newCur, switches, oldCur, oldSwitches]
  · rw [newIdle, newCur, idle, oldIdle]
  · rw [urgent] at true15
    rw [chosen.runnable] at serves
    rw [nxt, chooseSlot_urgent live' free' true15 serves]
  · rw [urgent] at true15
    rw [chosen.runnable] at lacks
    rw [blocked, true15, lacks, irq, oldIrq]
    rfl
  · rw [nxt, chosen.runnable]
    exact chooseSlot_runnable v p

/-! ### A flask that is held still (R93, R94, R129) -/

theorem sequencerChoice_holds (s : State) (p : Nat) (live : s.flaskLive p = true) (held : s.heldStill p = true) :
    Answers (.sequencerChoice p .clean) s (fun t =>
      let f := s.flask p
      let g := t.flask p
      g.cur = f.cur ∧ g.nxt = f.nxt ∧ g.cycles = f.cycles + 1 ∧ g.idleCycles = f.idleCycles + 1 ∧ t.running p = false ∧
        t = { s with flasks := t.flasks }) := by
  obtain ⟨cur, nxt, cycles, -, idle, -⟩ := (endMemories_ends p s).own.counts
  have next := exec_sequencerChoice live
  rw [if_pos held] at next
  refine ⟨heldCycle p s, next, ?_⟩
  have flask : (heldCycle p s).flask p = { (endMemories p s).flask p with
      cycles := ((endMemories p s).flask p).cycles + 1, idleCycles := ((endMemories p s).flask p).idleCycles + 1, cyc := .reset } := by
    rw [heldCycle, State.modFlask_same]
  have still : (heldCycle p s).heldStill p = true := held
  dsimp only
  rw [flask]
  exact ⟨cur, nxt, congrArg (· + 1) cycles, congrArg (· + 1) idle, by simp [State.running, still], rfl⟩

/-! ### The dispatch FIFO (R99-R102, R358) -/

theorem State.consume_changes (s : State) (dest src oclass : Nat) (b : Body) : ∃ n, s.consume dest src oclass b = { s with net := n } := by
  unfold State.consume
  split
  · split
    · exact ⟨_, rfl⟩
    · exact ⟨s.net, rfl⟩
  · exact ⟨s.net, rfl⟩

/-- A dispatch joins the FIFO, whose first entry asks for its fill (R99, R101). -/
def queueDispatch (p ctx run token : Nat) (s : State) : State :=
  dispatchFill p (s.modFlask p (fun f => { f with fifo := f.fifo ++
    [{ ctxId := ctx % 256, runCycles := run % 65536, token := token % 65536, ran := 0, fillAsked := false }] }))

theorem exec_flaskDispatchMsg {s : State} {p ctx run token core tag : Nat} (live : s.flaskLive p = true) (free : s.frozen p = false)
    (front : s.tagAtFront (s.flaskNode p) 80 0 tag (dispatchBody ctx run token core) = true) :
    exec (.flaskDispatchMsg p ctx run token core tag) s =
      .next (let u := s.consume (s.flaskNode p) 80 0 (dispatchBody ctx run token core)
        if seqBase (s.seqCfg p) ≠ 2 then u.answer (s.flaskNode p) 80 0 tag (.crsp .ok 2)
        else if 8 ≤ (s.flask p).fifo.length then u.answer (s.flaskNode p) 80 0 tag (.crsp .ok 1)
        else (queueDispatch p ctx run token u).answer (s.flaskNode p) 80 0 tag (.crsp .ok 0)) :=
  event_of (by rw [live, free, front]; rfl) _ _

/-- An answer to Cupola with the result `r` of a dispatch stands in the network. -/
def DispatchAnswered (t : State) (node tag r : Nat) : Prop :=
  ∃ x ∈ t.net.wire, x.pkt.src = node ∧ x.pkt.dest = 80 ∧ x.pkt.tag = tag ∧ x.pkt.body = .crsp .ok r

theorem answer_dispatchAnswered (s : State) (node tag r : Nat) : DispatchAnswered (s.answer node 80 0 tag (.crsp .ok r)) node tag r :=
  ⟨_, List.mem_append_right _ (List.mem_singleton_self _), rfl, rfl, rfl, rfl⟩

theorem unasked_last {fifo fifo' : List DispEntry} {d : DispEntry} (same : unasked fifo' = unasked (fifo ++ [d])) :
    fifo'.length = fifo.length + 1 ∧ ∃ e ∈ fifo'.getLast?, e.ctxId = d.ctxId ∧ e.runCycles = d.runCycles ∧ e.token = d.token ∧ e.ran = d.ran := by
  have length := congrArg List.length same
  have last := congrArg List.getLast? same
  simp only [unasked, List.length_map, List.length_append, List.length_singleton, List.getLast?_map, List.getLast?_append,
    List.getLast?_singleton, Option.some_or, Option.map_some, Option.map_eq_some_iff] at length last
  obtain ⟨e, stands, alike⟩ := last
  simp only [DispEntry.mk.injEq] at alike
  obtain ⟨ctxId, runCycles, token, ran, -⟩ := alike
  exact ⟨length, e, stands, ctxId, runCycles, token, ran⟩

theorem queueDispatch_queues (p ctx run token : Nat) (s : State) :
    ((queueDispatch p ctx run token s).flask p).fifo.length = (s.flask p).fifo.length + 1 ∧
      (∃ d ∈ ((queueDispatch p ctx run token s).flask p).fifo.getLast?,
        d.ctxId = ctx % 256 ∧ d.runCycles = run % 65536 ∧ d.token = token % 65536 ∧ d.ran = 0) ∧
      queueDispatch p ctx run token s = { s with flasks := (queueDispatch p ctx run token s).flasks } := by
  obtain ⟨fifo, eng, flask, entries⟩ := dispatchFill_flask p (s.modFlask p (fun f => { f with fifo := f.fifo ++
    [{ ctxId := ctx % 256, runCycles := run % 65536, token := token % 65536, ran := 0, fillAsked := false }] }))
  rw [State.modFlask_same] at entries
  obtain ⟨length, last⟩ := unasked_last entries
  have queue : ((queueDispatch p ctx run token s).flask p).fifo = fifo := by rw [queueDispatch, flask]
  rw [queue]
  exact ⟨length, last, dispatchFill_flasks p _⟩

theorem flaskDispatchMsg_answers (s : State) (p ctx run token core tag : Nat) (live : s.flaskLive p = true) (free : s.frozen p = false)
    (front : s.tagAtFront (s.flaskNode p) 80 0 tag (dispatchBody ctx run token core) = true) :
    Answers (.flaskDispatchMsg p ctx run token core tag) s (fun t =>
      let f := s.flask p
      let answered (r : Nat) : Prop := DispatchAnswered t (s.flaskNode p) tag r
      (seqBase (s.seqCfg p) ≠ 2 → answered 2 ∧ (t.flask p).fifo = f.fifo) ∧
      (seqBase (s.seqCfg p) = 2 → 8 ≤ f.fifo.length → answered 1 ∧ (t.flask p).fifo = f.fifo) ∧
      (seqBase (s.seqCfg p) = 2 → f.fifo.length < 8 → answered 0 ∧ (t.flask p).fifo.length = f.fifo.length + 1 ∧
        ∃ d ∈ (t.flask p).fifo.getLast?, d.ctxId = ctx % 256 ∧ d.runCycles = run % 65536 ∧ d.token = token % 65536 ∧ d.ran = 0) ∧
      t = { s with flasks := t.flasks, net := t.net }) := by
  have next := exec_flaskDispatchMsg live free front
  obtain ⟨n, taken⟩ := s.consume_changes (s.flaskNode p) 80 0 (dispatchBody ctx run token core)
  rw [taken] at next
  refine ⟨_, next, ?_⟩
  dsimp only
  split
  · next other =>
    exact ⟨fun _ => ⟨answer_dispatchAnswered .., rfl⟩, fun base => absurd base other, fun base => absurd base other, rfl⟩
  split
  · next base full =>
    exact ⟨fun other => absurd (not_not.1 base) other, fun _ _ => ⟨answer_dispatchAnswered .., rfl⟩,
      fun _ room => absurd full (Nat.not_le.2 room), rfl⟩
  · next base room =>
    obtain ⟨length, last, machine⟩ := queueDispatch_queues p ctx run token { s with net := n }
    refine ⟨fun other => absurd (not_not.1 base) other, fun _ full => absurd full room, fun _ _ => ⟨answer_dispatchAnswered .., length, last⟩, ?_⟩
    generalize queueDispatch p ctx run token { s with net := n } = u at machine
    rw [machine]
    rfl

/-! ### The end of a dispatch entry (R100, R102) -/

theorem dispatchEntryRetire_retires (s : State) (p : Nat) (d : DispEntry) (rest : List DispEntry) (live : s.flaskLive p = true)
    (head : (s.flask p).fifo = d :: rest) (due : (d.runCycles ≠ 0 ∧ d.runCycles ≤ d.ran) ∨ (d.runCycles = 0 ∧ rest ≠ [])) :
    Answers (.dispatchEntryRetire p) s (fun t =>
      let g := s.flaskNode p
      (t.flask p).fifo = rest ∧
      (d.token = 0 → t.net = s.net) ∧
      (d.token ≠ 0 → (t.gate g).waiting = (s.gate g).waiting ++
        [mkPacket g 80 0 0 (.internal msgCompletion [BitVec.ofNat 32 d.token, BitVec.ofNat 32 d.ctxId, 0])]) ∧
      t = { s with flasks := t.flasks, net := t.net }) := by
  have retires : headRetires (s.flask p) = true := by
    rw [headRetires, head]
    rcases due with ⟨timed, ran⟩ | ⟨untimed, waits⟩
    · simp [timed, ran]
    · simp [untimed, waits]
  have next : exec (.dispatchEntryRetire p) s = .next (postCompletion p false d (s.modFlask p (fun f => { f with fifo := rest }))) := by
    refine (event_of (by rw [live, retires]; rfl) _ _).trans ?_
    rw [head]
  refine ⟨_, next, ?_⟩
  have fifo : ((s.modFlask p (fun f => { f with fifo := rest })).flask p).fifo = rest := by rw [State.modFlask_same]
  unfold postCompletion
  split
  · next silent => exact ⟨fifo, fun _ => rfl, fun told => absurd silent told, rfl⟩
  · next told =>
    refine ⟨fifo, fun silent => absurd silent told, fun _ => ?_, rfl⟩
    exact congrArg Gate.waiting (State.modGate_same (s := s.modFlask p (fun f => { f with fifo := rest })) (i := s.flaskNode p) _)

/-! ### Words that cross a lane (R110-R114) -/

/-- Which slot holds a context does not change with its words. -/
theorem Flask.WordsMoved.residentSlot {f g : Flask} (h : f.WordsMoved g) (x : Nat) : g.residentSlot x = f.residentSlot x := by
  simp only [Flask.residentSlot, (h.2 _).st, (h.2 _).ctxId]

theorem laneCell_lt (sl : Nat) : laneCell sl < 64 := by
  have : sl % 8 < 8 := Nat.mod_lt _ (by decide)
  unfold laneCell
  dsimp only
  split <;> omega

/-- The reader of a cell's output register empties it, unless a new word has entered it. -/
theorem takeReg_cell {p r : Nat} (s : State) (cell : r < 64) : takeReg p s r = s.modFlask p (fun f => f.modRunning (fun x =>
    if (s.flask p).cyc.loaded.contains r then x else { x with out := Tab.set TWord.empty x.out r .empty })) := by
  unfold takeReg
  rw [if_neg (by simp; omega)]
  simp only [if_pos cell]

/-- A word has left its register for lane `sl` and uses a credit; its context's buffers and the others' stand as they did (R112, R113). -/
def leaveLane (p sl : Nat) (s : State) : State :=
  (takeReg p (markActed p (140 + sl) s) (laneCell sl)).modFlask p (fun f =>
    { f with credits := Tab.modify 4 f.credits (creditKey ((s.flask p).slot (s.flask p).cur).ctxId sl) (fun n => n - 1) })

theorem leaveLane_wordsMoved (p sl : Nat) (s : State) : OnlyWordsMoved s (leaveLane p sl s) := onlyWordsMoved_laneLeft ..

/-- A change of the running context that keeps the input buffers keeps every slot's. -/
theorem Flask.modRunning_inbuf (f : Flask) {g : Ctx → Ctx} (keeps : ∀ x, (g x).inbuf = x.inbuf) (n : Nat) :
    ((f.modRunning g).slot n).ctx.inbuf = (f.slot n).ctx.inbuf := by
  by_cases running : n = f.cur
  · subst running
    rw [Flask.modRunning_slot]
    exact keeps _
  · rw [Flask.modRunning_slot_ne _ _ _ running]

/-- To read a cell's register moves no boundary credit. -/
theorem takeReg_credits {p r : Nat} (s : State) (cell : r < 64) : ((takeReg p s r).flask p).credits = (s.flask p).credits := by
  rw [takeReg_cell s cell, State.modFlask_same]
  rfl

theorem takeReg_inbuf {p r : Nat} (s : State) (cell : r < 64) (q n : Nat) :
    (((takeReg p s r).flask q).slot n).ctx.inbuf = ((s.flask q).slot n).ctx.inbuf := by
  rw [takeReg_cell s cell]
  by_cases own : q = p
  · subst own
    rw [State.modFlask_same]
    exact Flask.modRunning_inbuf _ (fun x => by split <;> rfl) n
  · rw [State.modFlask_ne _ _ _ _ own]

/-- The record of what has acted in a cycle is neither a credit nor a slot. -/
theorem markActed_flask (p c : Nat) (s : State) (q : Nat) :
    ((markActed p c s).flask q).credits = (s.flask q).credits ∧ ((markActed p c s).flask q).slots = (s.flask q).slots := by
  rw [markActed]
  by_cases own : q = p
  · subst own
    rw [State.modFlask_same]
    exact ⟨rfl, rfl⟩
  · rw [State.modFlask_ne _ _ _ _ own]
    exact ⟨rfl, rfl⟩

theorem leaveLane_credits (p sl : Nat) (s : State) :
    ((leaveLane p sl s).flask p).credits =
      Tab.modify 4 (s.flask p).credits (creditKey ((s.flask p).slot (s.flask p).cur).ctxId sl) (fun n => n - 1) := by
  rw [leaveLane, State.modFlask_same]
  dsimp only
  rw [takeReg_credits _ (laneCell_lt sl), (markActed_flask ..).1]

theorem leaveLane_inbuf (p sl : Nat) (s : State) (q n : Nat) :
    (((leaveLane p sl s).flask q).slot n).ctx.inbuf = ((s.flask q).slot n).ctx.inbuf := by
  have taken : (((takeReg p (markActed p (140 + sl) s) (laneCell sl)).flask q).slot n).ctx.inbuf = ((s.flask q).slot n).ctx.inbuf := by
    rw [takeReg_inbuf _ (laneCell_lt sl), Flask.slot, (markActed_flask ..).2, ← Flask.slot]
  rw [leaveLane, ← taken]
  by_cases own : q = p
  · subst own
    rw [State.modFlask_same]
    rfl
  · rw [State.modFlask_ne _ _ _ _ own]

/-- The word at the head of lane `sl` joins the facing input buffer of the context in slot `n` of flask `q`. -/
def joinLane (q n sl : Nat) (w : TWord) (s : State) : State :=
  s.modFlask q (fun g => g.modCtx n (fun x => { x with inbuf := Tab.modify [] x.inbuf (8 * facing (sl / 8) + sl % 8) (· ++ [w]) }))

theorem joinLane_inbuf (q n sl : Nat) (w : TWord) (s : State) :
    Tab.get [] (((joinLane q n sl w s).flask q).slot n).ctx.inbuf (8 * facing (sl / 8) + sl % 8) =
      Tab.get [] ((s.flask q).slot n).ctx.inbuf (8 * facing (sl / 8) + sl % 8) ++ [w] := by
  rw [joinLane, State.modFlask_same, Flask.modCtx, Flask.modSlot_slot_same]
  dsimp only
  rw [Tab.get_modify_same]

theorem joinLane_credits (q n sl : Nat) (w : TWord) (s : State) (p : Nat) : ((joinLane q n sl w s).flask p).credits = (s.flask p).credits := by
  by_cases receiver : p = q
  · subst receiver
    rw [joinLane, State.modFlask_same]
    rfl
  · rw [joinLane, State.modFlask_ne _ _ _ _ receiver]

theorem crossLane_eq {s : State} {p sl k n : Nat} (side : neighbour (s.flask p).logical (sl / 8) = some k)
    (there : (s.flask (s.physOf k)).residentSlot (byteOf (s.flask p).cyc.ctx.dest (sl / 8)) = some n) :
    crossLane p sl s = joinLane (s.physOf k) n sl (regWord (s.flask p).cyc (laneCell sl)) (leaveLane p sl s) := by
  have moved := leaveLane_wordsMoved p sl s
  have phys : (leaveLane p sl s).physOf k = s.physOf k := by rw [moved.1]; rfl
  rw [← (moved.2 _).residentSlot, ← phys] at there
  rw [← phys]
  unfold crossLane
  dsimp only
  rw [side]
  change (match ((leaveLane p sl s).flask ((leaveLane p sl s).physOf k)).residentSlot _ with | none => _ | some n => _) = _
  rw [there]
  rfl

/-- Where a lane can cross, the sender has a credit for it (R113). -/
theorem laneCanCross_credit {s : State} {p sl k : Nat} (crosses : laneCanCross s p sl = true)
    (side : neighbour (s.flask p).logical (sl / 8) = some k) :
    0 < Tab.get 4 (s.flask p).credits (creditKey ((s.flask p).slot (s.flask p).cur).ctxId sl) := by
  simp only [laneCanCross, laneReady, side, Bool.and_eq_true, decide_eq_true_eq] at crosses
  obtain ⟨-, ⟨⟨credit, -⟩, -⟩, -⟩ := crosses
  exact credit

theorem boundaryCross_crosses (s : State) (p sl k n : Nat) (crosses : laneCanCross s p sl = true)
    (side : neighbour (s.flask p).logical (sl / 8) = some k)
    (there : (s.flask (s.physOf k)).residentSlot (byteOf (s.flask p).cyc.ctx.dest (sl / 8)) = some n) :
    Answers (.boundaryCross p sl false) s (fun t =>
      let q := s.physOf k
      let there := 8 * ((sl / 8 + 2) % 4) + sl % 8
      let key := 32 * ((s.flask p).slot (s.flask p).cur).ctxId + sl
      Tab.get [] ((t.flask q).slot n).ctx.inbuf there = Tab.get [] ((s.flask q).slot n).ctx.inbuf there ++ [regWord (s.flask p).cyc (laneCell sl)] ∧
      Tab.get 4 (t.flask p).credits key = Tab.get 4 (s.flask p).credits key - 1 ∧ 0 < Tab.get 4 (s.flask p).credits key ∧
      t = { s with flasks := t.flasks }) := by
  have next : exec (.boundaryCross p sl false) s = .next (crossLane p sl s) := event_of crosses _ _
  refine ⟨_, next, ?_⟩
  rw [crossLane_eq side there]
  refine ⟨?_, ?_, laneCanCross_credit crosses side, ?_⟩
  · refine (joinLane_inbuf ..).trans ?_
    rw [leaveLane_inbuf]
    rfl
  · rw [joinLane_credits, leaveLane_credits]
    exact Tab.get_modify_same ..
  · have machine := (leaveLane_wordsMoved p sl s).1
    generalize leaveLane p sl s = u at machine
    rw [machine]
    rfl

/-- Settles O7, a clause at a time: a cycle with a slot to run, a flask held still, a dispatch, the end of an entry, a crossing. -/
theorem sequencerDispatchAndCrossings : Obligations.SequencerDispatchAndCrossings := by
  unfold Obligations.SequencerDispatchAndCrossings
  exact ⟨⟨sequencerChoice_runs, sequencerChoice_holds⟩, ⟨flaskDispatchMsg_answers, dispatchEntryRetire_retires⟩, boundaryCross_crosses⟩

end Sys2Proof.Machine
end

section
/-! Proof of the values that the machine holds before the release of the power-on reset (R141, R616, R623, R681, R722, R751, R757, R771). -/

namespace Sys2Proof.Machine

/-- A setting that nothing has written holds its default (R623). -/
theorem settings_default : ∀ e ∈ [(0x2018, 1, 60), (0x2018, 2, 1000), (0x2140, 3, 105), (0x2140, 4, 4), (0x2200, 7, 1000), (0x2411, 1, 16), (0x3010, 2, 1000),
    (0x3300, 2, 10)], State.reset.settingN e.1 e.2.1 = e.2.2 := by
  decide

/-- Settles O53: what is held sparsely is empty at reset, and so reads as its reset value at every key. -/
theorem resetLeavesStatedValues : Obligations.ResetLeavesStatedValues := by
  unfold Obligations.ResetLeavesStatedValues
  exact ⟨rfl, rfl, fun _ => rfl, fun _ => rfl, fun _ => rfl, rfl, rfl, rfl, rfl, fun _ => rfl, fun _ => rfl, rfl, settings_default⟩

end Sys2Proof.Machine
end

section
/-! Proofs of 03_flask_contexts.md and 05_tundish_queues.md (R98, R223, R229, R258): a producer's gate. What one PUSH of the gathered words sends and
leaves is said once, for no words too; CREDIT, REVOKE, the watch and the PUSH follow. -/

namespace Sys2Proof.Machine

/-! ### The gates at the producers -/

theorem OnlyNet.gateClass {s t : State} (h : OnlyNet s t) (i q : Nat) : gateClass t i q = gateClass s i q := by rw [h]; rfl

theorem onlyNet_consume (s : State) (dest src oclass : Nat) (b : Body) : OnlyNet s (s.consume dest src oclass b) := by
  obtain ⟨n, taken⟩ := s.consume_changes dest src oclass b
  rw [taken]
  rfl

@[simp] theorem State.consume_producer (s : State) (dest src oclass : Nat) (b : Body) (i q : Nat) :
    (s.consume dest src oclass b).producer i q = s.producer i q := by
  rw [State.producer, State.consume_gate, ← State.producer]

theorem State.modProducer_gate_ne (s : State) {i j : Nat} (q : Nat) (g : Producer → Producer) (other : j ≠ i) :
    (s.modProducer i q g).gate j = s.gate j := State.modGate_ne _ _ _ _ other

theorem State.request_gate_ne (s : State) {i j : Nat} (dest oclass tc : Nat) (b : Body) (other : j ≠ i) :
    (s.request i dest oclass tc b).gate j = s.gate j := State.modGate_ne _ _ _ _ other

/-- The PUSH that carries the oldest 16 of the words gathered for a queue, where there are any (R232, R258). -/
def gatheredPush (s : State) (i q : Nat) : List Packet :=
  if (s.producer i q).gather = [] then []
  else [mkPacket i 81 0 (gateClass s i q) (.push q (!(s.producer i q).midPacket) ((s.producer i q).gather.take 16))]

theorem gateSend_idle {s : State} {i q : Nat} (none : (s.producer i q).gather = []) : gateSend i q s = s := by
  rw [gateSend_eq, none]
  rfl

theorem gateSend_busy {s : State} {i q : Nat} (some : (s.producer i q).gather ≠ []) : gateSend i q s =
    (ungather i q ((s.producer i q).gather.take 16) s).request i tundishNode 0 (gateClass s i q)
      (.push q (!(s.producer i q).midPacket) ((s.producer i q).gather.take 16)) := by
  rw [gateSend_eq, if_neg]
  simpa [List.isEmpty_iff, List.take_eq_nil_iff] using some

/-- What was gathered goes behind the requests that wait. -/
theorem gateSend_waiting (i q : Nat) (s : State) : ((gateSend i q s).gate i).waiting = (s.gate i).waiting ++ gatheredPush s i q := by
  rw [gatheredPush]
  split
  · next none => rw [gateSend_idle none, List.append_nil]
  · next some =>
    rw [gateSend_busy some, (request_at_gate (q := q) ..).1, ungather, State.modProducer_waiting]

theorem gateSend_producer (i q : Nat) (s : State) : (gateSend i q s).producer i q =
    { s.producer i q with
      midPacket := leavesOpen (s.producer i q).midPacket ((s.producer i q).gather.take 16)
      gather := (s.producer i q).gather.drop 16 } := by
  by_cases none : (s.producer i q).gather = []
  · rw [gateSend_idle none, none]
    cases held : s.producer i q
    rw [held] at none
    cases none
    rfl
  · rw [gateSend_busy none, (request_at_gate ..).2, ungather, State.modProducer_same]

theorem gateSend_gate_ne {i j : Nat} (q : Nat) (s : State) (other : j ≠ i) : (gateSend i q s).gate j = s.gate j := by
  by_cases none : (s.producer i q).gather = []
  · rw [gateSend_idle none]
  · rw [gateSend_busy none, State.request_gate_ne _ _ _ _ _ other, ungather, State.modProducer_gate_ne _ _ _ other]

/-! ### CREDIT, REVOKE, a watch and a PUSH -/

theorem gateCredit_adds (s : State) (i q n : Nat) (front : s.atFront i 81 0 (.credit q n) = true) :
    Answers (.gateCredit i q n) s (fun t =>
      (i < 82 ∨ 88 < i → t.producer i q = { s.producer i q with credits := (s.producer i q).credits + n } ∧ t = { s with net := t.net }) ∧
      (i = 88 → t.producer i q = { s.producer i q with granted := (s.producer i q).granted + n } ∧ t = { s with net := t.net })) := by
  refine ⟨_, event_of front _ _, fun gate => ?_, fun host => ?_⟩
  · have notPort : (82 ≤ i && i < 88) = false := by simp; omega
    have notHost : i ≠ 88 := by omega
    rw [if_neg (by simp [notPort]), State.modProducer_same, if_neg notHost, State.consume_producer]
    exact ⟨rfl, (onlyNet_consume ..).trans (.modGate ..)⟩
  · subst host
    rw [if_neg (by decide), State.modProducer_same, if_pos rfl, State.consume_producer]
    exact ⟨rfl, (onlyNet_consume ..).trans (.modGate ..)⟩

/-- The gate drops its credits for a revoked queue and hands them back in its acknowledgement (R229). -/
def giveBack (i q : Nat) (s : State) : State :=
  (s.modProducer i q (fun p => { p with credits := 0, granted := 0, midPacket := false })).request i 81 0 (gateClass s i q)
    (.revokeAck q ((s.producer i q).credits + (s.producer i q).granted))

theorem exec_gateRevoke {s : State} {i q : Nat} (noPort : i < 82 ∨ 88 ≤ i) (front : s.atFront i 81 0 (.revoke q) = true) :
    exec (.gateRevoke i q) s = .next (giveBack i q (gateSend i q (s.consume i 81 0 (.revoke q)))) := by
  have notPort : ¬ (82 ≤ i && i < 88) = true := by simp; omega
  refine (event_of front _ _).trans ?_
  rw [if_neg notPort]
  rfl

theorem gateRevoke_acknowledges (s : State) (i q : Nat) (noPort : i < 82 ∨ 88 ≤ i) (front : s.atFront i 81 0 (.revoke q) = true) :
    Answers (.gateRevoke i q) s (fun t =>
      let p := s.producer i q
      (t.producer i q).credits = 0 ∧ (t.producer i q).granted = 0 ∧ (t.producer i q).midPacket = false ∧
      (t.gate i).waiting = (s.gate i).waiting ++
        (if p.gather = [] then [] else [mkPacket i 81 0 (gateClass s i q) (.push q (!p.midPacket) (p.gather.take 16))]) ++
        [mkPacket i 81 0 (gateClass s i q) (.revokeAck q (p.credits + p.granted))] ∧
      (∀ j, j ≠ i → t.gate j = s.gate j) ∧ t = { s with net := t.net }) := by
  have taken := onlyNet_consume s i 81 0 (.revoke q)
  have producer := s.consume_producer i 81 0 (.revoke q) i q
  have gates := s.consume_gate i 81 0 (.revoke q)
  refine ⟨_, exec_gateRevoke noPort front, ?_⟩
  generalize s.consume i 81 0 (.revoke q) = u at taken producer gates
  have sent := onlyNet_gateSend i q u
  have kept := gateSend_producer i q u
  have waiting := gateSend_waiting i q u
  rw [gatheredPush, taken.gateClass, gates, producer] at waiting
  have class_eq := (taken.trans sent).gateClass i q
  have others := fun j (other : j ≠ i) => gateSend_gate_ne q u other
  generalize gateSend i q u = v at sent kept waiting class_eq others
  dsimp only
  rw [giveBack, (request_at_gate ..).2, (request_at_gate (q := q) ..).1, State.modProducer_same, State.modProducer_waiting, class_eq, waiting, kept, producer]
  refine ⟨rfl, rfl, rfl, rfl, fun j other => ?_, (taken.trans sent).trans ((OnlyNet.modGate ..).trans (.modGate ..))⟩
  rw [State.request_gate_ne _ _ _ _ _ other, State.modProducer_gate_ne _ _ _ other, others j other, gates]

theorem gateWatchState_tells (s : State) (i q ix : Nat) (ne : Bool) (flask : i < 72) (front : s.atFront i 81 0 (.watchState q ix ne) = true) :
    Answers (.gateWatchState i q ix ne) s (fun t => Tab.get false (t.flask (s.nodeFlask i)).watchNe ix = ne ∧
      (∀ p, p ≠ s.nodeFlask i → t.flask p = s.flask p) ∧ t = { s with flasks := t.flasks, net := t.net }) := by
  obtain ⟨n, taken⟩ := s.consume_changes i 81 0 (.watchState q ix ne)
  refine ⟨_, event_of (by rw [front]; simpa using flask) _ _, ?_⟩
  rw [taken]
  refine ⟨?_, fun p other => State.modFlask_ne _ _ _ _ other, rfl⟩
  rw [State.modFlask_same]
  exact Tab.get_set_same ..

theorem gatePushSend_sends (s : State) (i q : Nat) (some : (s.producer i q).gather ≠ []) :
    Answers (.gatePushSend i q) s (fun t =>
      let p := s.producer i q
      (t.producer i q).gather = p.gather.drop 16 ∧ (t.producer i q).credits = p.credits ∧
      (t.gate i).waiting = (s.gate i).waiting ++ [mkPacket i 81 0 (gateClass s i q) (.push q (!p.midPacket) (p.gather.take 16))] ∧
      (t.producer i q).midPacket = leavesOpen p.midPacket (p.gather.take 16) ∧ (∀ j, j ≠ i → t.gate j = s.gate j) ∧ t = { s with net := t.net }) := by
  refine ⟨_, event_of (by simpa [List.isEmpty_iff] using some) _ _, ?_⟩
  dsimp only
  rw [gateSend_producer, gateSend_waiting, gatheredPush, if_neg some]
  exact ⟨rfl, rfl, rfl, rfl, fun j other => gateSend_gate_ne q s other, onlyNet_gateSend i q s⟩

/-- Settles O21: a CREDIT, a REVOKE, a watch, a PUSH. -/
theorem producerGates : Obligations.ProducerGates := by
  unfold Obligations.ProducerGates
  exact ⟨gateCredit_adds, gateRevoke_acknowledges, gateWatchState_tells, gatePushSend_sends⟩

end Sys2Proof.Machine
end

section
/-! Proofs of 04_crucible.md (R132, R189-R191, R194): CRU_CMD, CRU_STICKY and the window. What an admitted command that changes its crucible alone leaves
unchanged is said once, and so is the cycle of a NOP with nothing under way, which STEP runs. -/

namespace Sys2Proof.Machine

/-! ### Commands that change a crucible alone -/

section
variable {s t : State}
theorem Answered.cru : Answered s t → ∀ p, t.cru p = s.cru p := by rintro ⟨_, _, _, _, rfl⟩ _; rfl
theorem Answered.cruSelected : Answered s t → ∀ path p, cruSelected t path p = cruSelected s path p := by rintro ⟨_, _, _, _, rfl⟩ _ _; rfl
theorem Answered.recasting : Answered s t → ∀ y, t.recasting y = s.recasting y := by rintro ⟨_, _, _, _, rfl⟩ _; rfl
end

/-- The access was answered, and of the machine the crucible of flask `p` alone may have changed. -/
def OnlyCruAnswered (s t : State) (p : Nat) : Prop :=
  (∀ q, q ≠ p → t.cru q = s.cru q) ∧ OnlyAnswered s t ∧ t = { s with crus := t.crus, dict := t.dict, net := t.net, out := t.out }

/-- An admitted command that changes its crucible alone. -/
theorem dictCommand_modCru {s : State} {path idx sub level p : Nat} {act : State → Except Word State} {g : Cru → Cru}
    (admitted : Admitted s path idx sub level) (acts : ∀ u, Answered s u → act u = .ok (u.modCru p g)) :
    ∃ t, dictCommand path idx sub level act s = .next t ∧ t.cru p = g (s.cru p) ∧ OnlyCruAnswered s t p := by
  obtain ⟨u, t, next, before, after, answered⟩ := dictCommand_acts (g := fun u => u.modCru p g) admitted acts (fun _ => ⟨rfl, rfl⟩)
  refine ⟨t, next, ?_, fun q other => ?_, answered, ?_⟩
  · rw [after.cru, State.modCru_same, before.cru]
  · rw [after.cru, State.modCru_ne _ _ _ _ other, before.cru]
  · rw [after.machine, before.machine]
    rfl

theorem atRest_of {c : Cru} (rest : c.st = .halted ∨ c.st = .error) : c.atRest = true := by simpa [Cru.atRest] using rest

/-- RUN's effect: ENTRY is taken where it is asked for, and the crucible runs. -/
def runFrom (useEntry : Bool) (entry : Nat) (c : Cru) : Cru :=
  { (if useEntry then startAt entry c else c) with st := .running, stall := false }

theorem cruCmdRun_starts {s : State} {p : Nat} (useEntry : Bool) (entry : Nat) (holds : recastHolds s p = false)
    (rest : (s.cru p).st = .halted ∨ (s.cru p).st = .error) : cruCmdRun p useEntry entry s = .ok (s.modCru p (runFrom useEntry entry)) :=
  need_ok (by rw [holds, atRest_of rest]; rfl)

theorem cruCmdClearPorts_clears {s : State} {p : Nat} (holds : recastHolds s p = false) (rest : (s.cru p).st = .halted ∨ (s.cru p).st = .error) :
    cruCmdClearPorts p s = .ok (s.modCru p (fun c => { c with si := [], so := [] })) := need_ok (by rw [holds, atRest_of rest]; rfl)

theorem cruCmdHalt_asks {s : State} {p : Nat} (holds : recastHolds s p = false) (running : (s.cru p).st = .running) :
    cruCmdHalt p s = .ok (s.modCru p (fun c => { c with haltAsked := true })) := need_ok (by rw [holds, running]; rfl)

/-! ### The cycle of a NOP (R153, R159, R181) -/

theorem landOne_regs (c : Cru) (l : LateWrite) : landOne c l = { c with regs := (landOne c l).regs } := by
  unfold landOne
  split <;> rfl

theorem landAll_regs : ∀ (l : List LateWrite) (c : Cru), l.foldl landOne c = { c with regs := (l.foldl landOne c).regs }
  | [], _ => rfl
  | x :: l, c => by
    rw [List.foldl_cons, landAll_regs l, landOne_regs]

/-- Late writes change registers alone. -/
theorem land_regs (c : Cru) : land c = { c with late := [], regs := (land c).regs } := landAll_regs c.late { c with late := [] }

theorem countHoldoff_counts (c : Cru) : countHoldoff c = { c with holdoff := (countHoldoff c).holdoff, holdLogged := (countHoldoff c).holdLogged } := by
  unfold countHoldoff
  split <;> rfl

/-- A cycle counts, and its late writes land; nothing of the flow moves. -/
theorem idleCycle_passes (c : Cru) :
    (idleCycle c).st = c.st ∧ (idleCycle c).pc = c.pc ∧ (idleCycle c).cycles = c.cycles + 1 ∧ (CruStraight c → CruStraight (idleCycle c)) := by
  rw [idleCycle, countHoldoff_counts, land_regs]
  exact ⟨rfl, rfl, rfl, id⟩

/-- With nothing under way execution moves on to the next address. -/
theorem moveOn_straight {c : Cru} (straight : CruStraight c) :
    (moveOn c).st = c.st ∧ (moveOn c).pc = (c.pc + 1) % 4096 ∧ (moveOn c).cycles = c.cycles := by
  obtain ⟨delay, repLeft, reps⟩ := straight
  have advances : moveOn c = advance c.pc { c with repLeft := 0 } := by
    unfold moveOn
    rw [if_neg (by rw [repLeft]; decide)]
    dsimp only
    rw [if_neg (by rw [delay]; decide), if_neg (by rw [delay]; decide)]
  have none : Cru.own { c with repLeft := 0 } = [] := by rw [Cru.own, reps, List.take_nil]
  rw [advances, advance, none]
  exact ⟨rfl, rfl, rfl⟩

/-- The MAC class holds no NOP. -/
theorem macOp_ne_nop (m1024 : Bool) (w : Word) : macOp m1024 w ≠ some .nop := by
  unfold macOp
  split
  · simp
  · split <;> cases m1024 <;> simp

/-- A NOP writes no memory word. -/
theorem cruWrites_nop {m1024 : Bool} {w : Word} (o : Cru) (nop : cruOp m1024 w = some .nop) : cruWrites o .nop w = [] := by
  have class_ne : (w.extractLsb' 28 4).toNat ≠ 4 := fun mac => macOp_ne_nop m1024 w (by rw [cruOp, mac] at nop; exact nop)
  unfold cruWrites
  rw [if_neg (by decide), if_neg class_ne]

/-- With nothing under way a NOP runs in its cycle. -/
theorem cruExecute_nop {s : State} {p : Nat} {m1024 : Bool} {w : Word} (nop : cruOp m1024 w = some .nop) :
    cruExecute p .nop w .clean s = s.draw.2.modCru p (fun c => moveOn (idleCycle c)) := by
  have fault : cruFault (s.cru p) .nop w = none := rfl
  have stalls : streamStalls (s.cru p) .nop w = false := rfl
  unfold cruExecute
  dsimp only
  rw [fault, stalls, cruWrites_nop _ nop]
  rfl

/-! ### STEP (R194) -/

/-- The crucible steps: it runs for the one instruction. -/
def beginStep (c : Cru) : Cru := { c with st := .running }

/-- The word at PC is issued. -/
def issueWord (p : Nat) (ev : CruEv) (s : State) : State :=
  match cruOp (stM1024 (s.cru p).status) (s.cru p).word with
  | some op => cruExecute p op (s.cru p).word ev s
  | none => cruIllegal p ev s

/-- The step ends, unless the instruction has ended the run. -/
def endStep (c : Cru) : Cru := if c.st = .running then { land c with st := .halted, cause := 6, shadow := [] } else c

theorem cruCmdStep_eq (p : Nat) (ev : CruEv) (s : State) : cruCmdStep p ev s =
    need ((s.cru p).st = .halted && !recastHolds s p) abortState (.ok ((issueWord p ev (s.modCru p beginStep)).modCru p endStep)) := rfl

/-- A step over a NOP. -/
def stepNop (p : Nat) (s : State) : State := ((s.modCru p beginStep).draw.2.modCru p (fun c => moveOn (idleCycle c))).modCru p endStep

theorem cruCmdStep_nop {s : State} {p : Nat} (holds : recastHolds s p = false) (halted : (s.cru p).st = .halted)
    (nop : cruOp (stM1024 (s.cru p).status) (s.cru p).word = some .nop) : cruCmdStep p .clean s = .ok (stepNop p s) := by
  have begun : (s.modCru p beginStep).cru p = beginStep (s.cru p) := State.modCru_same ..
  have nop' : cruOp (stM1024 (beginStep (s.cru p)).status) (beginStep (s.cru p)).word = some .nop := nop
  rw [cruCmdStep_eq, need_ok (by rw [halted, holds]; rfl), issueWord, begun, nop']
  dsimp only
  rw [cruExecute_nop nop', stepNop]

theorem stepNop_cru (p : Nat) (s : State) : (stepNop p s).cru p = endStep (moveOn (idleCycle (beginStep (s.cru p)))) := by
  have begun : (s.modCru p beginStep).draw.2.cru p = beginStep (s.cru p) := State.modCru_same s p beginStep
  rw [stepNop, State.modCru_same, State.modCru_same, begun]

/-- A step is no access of its own: the agent and the network stand. -/
theorem stepNop_agent (p : Nat) (s : State) : (stepNop p s).dict = s.dict ∧ (stepNop p s).net = s.net := by
  rw [stepNop, State.modCru_dict, State.modCru_dict, State.modCru_net, State.modCru_net]
  exact ⟨rfl, rfl⟩

theorem endStep_halts {c : Cru} (running : c.st = .running) :
    (endStep c).st = .halted ∧ (endStep c).cause = 6 ∧ (endStep c).pc = c.pc ∧ (endStep c).cycles = c.cycles := by
  rw [endStep, if_pos running, land_regs]
  exact ⟨rfl, rfl, rfl, rfl⟩

theorem stepNop_steps {s : State} {p : Nat} (straight : CruStraight (s.cru p)) :
    ((stepNop p s).cru p).st = .halted ∧ ((stepNop p s).cru p).cause = 6 ∧ ((stepNop p s).cru p).pc = ((s.cru p).pc + 1) % 4096 ∧
      ((stepNop p s).cru p).cycles = (s.cru p).cycles + 1 := by
  obtain ⟨st, pc, cycles, keeps⟩ := idleCycle_passes (beginStep (s.cru p))
  obtain ⟨st', pc', cycles'⟩ := moveOn_straight (keeps straight)
  obtain ⟨halted, cause, pc'', cycles''⟩ := endStep_halts (st'.trans st)
  rw [stepNop_cru]
  exact ⟨halted, cause, by rw [pc'', pc', pc]; rfl, by rw [cycles'', cycles', cycles]; rfl⟩

theorem cruCmdStep_steps {s : State} {path p : Nat} (holds : recastHolds s p = false) (admitted : Admitted s path (0x4100 + p) 4 2)
    (halted : (s.cru p).st = .halted) (nop : cruOp (stM1024 (s.cru p).status) (s.cru p).word = some .nop) (straight : CruStraight (s.cru p)) :
    Answers (.cruCmdStep path p .clean) s (fun t => (t.cru p).st = .halted ∧ (t.cru p).cause = 6 ∧ (t.cru p).pc = ((s.cru p).pc + 1) % 4096 ∧
      (t.cru p).cycles = (s.cru p).cycles + 1 ∧ OnlyAnswered s t) := by
  obtain ⟨u, t, next, before, after, answered⟩ := dictCommand_acts (g := stepNop p) admitted (fun u answered => cruCmdStep_nop
    (answered.recastHolds p ▸ holds) (answered.cru p ▸ halted) (answered.cru p ▸ nop)) (stepNop_agent p)
  obtain ⟨st, cause, pc, cycles⟩ := stepNop_steps (before.cru p ▸ straight)
  rw [← after.cru] at st cause pc cycles
  rw [before.cru] at pc cycles
  exact ⟨t, next, st, cause, pc, cycles, answered⟩

/-! ### The window (R189-R191) -/

/-- The word that the window selects takes the value, and the other memories stand. -/
theorem cruWinPut_writes (sp a : Nat) (v : Word) (c : Cru) :
    (sp = 0 → Tab.get 0 (cruWinPut sp a v c).pm a = v ∧ (cruWinPut sp a v c).x = c.x) ∧
      (sp = 1 → Tab.get 0 (cruWinPut sp a v c).x a = v ∧ (cruWinPut sp a v c).pm = c.pm) ∧
      (sp = 2 → Tab.get 0 (cruWinPut sp a v c).y a = v ∧ (cruWinPut sp a v c).pm = c.pm) ∧
      (sp = 3 → a < 8 → (cruWinPut sp a v c).d a = v ∧ (cruWinPut sp a v c).pm = c.pm) := by
  refine ⟨?_, ?_, ?_, ?_⟩
  · rintro rfl
    exact ⟨Tab.get_set_same .., rfl⟩
  · rintro rfl
    exact ⟨Tab.get_set_same .., rfl⟩
  · rintro rfl
    exact ⟨Tab.get_set_same .., rfl⟩
  · rintro rfl data
    have put : cruWinPut 3 a v c = c.setD a v := if_pos data
    rw [put]
    exact ⟨Tab.get_set_same .., rfl⟩

theorem cruWinWrite_writes {s : State} {path p : Nat} (v : Word) (holds : recastHolds s p = false) (rest : (s.cru p).st = .halted ∨ (s.cru p).st = .error)
    (selects : cruSelects (cruSelected s path p).1 (cruSelected s path p).2 = true) :
    cruWinWrite path p v s = .ok (s.modCru p (cruWinPut (cruSelected s path p).1 (cruSelected s path p).2 v)) :=
  need_ok (by rw [holds, atRest_of rest]; exact selects)

/-- A read of the window that finds a free cycle and a good word changes nothing (R191). -/
theorem cruWinData_clean {s : State} {path p : Nat} (apart : s.recasting (p / 9) = false) (memory : (cruSelected s path p).1 < 3) :
    cruWinData path p false .ok s =
      .ok ((cruWinRead (s.cru p) (cruSelected s path p).1 (cruSelected s path p).2).setWidth 64, s) := by
  have own : s.readFlaskOf p = p := by simp [State.readFlaskOf, apart]
  have selects : cruSelects (cruSelected s path p).1 (cruSelected s path p).2 = true := by simp [cruSelects, memory]
  unfold cruWinData
  rw [own]
  exact need_ok selects

theorem cruWinDataRead_answers {s : State} {p : Nat} (readable : Readable s 0x7F (0x4100 + p) 6 1) (free : (s.path 0x7F).held = none)
    (apart : s.recasting (p / 9) = false) (memory : (cruSelected s 0x7F p).1 < 3) :
    Answers (.cruWinDataRead 0x7F p false .ok) s (fun t =>
      t.out = s.out ++ [.sdoData (0x4100 + p) 6 (valueBytes 4 ((cruWinRead (s.cru p) (cruSelected s 0x7F p).1 (cruSelected s 0x7F p).2).setWidth 64))] ∧
      t = { s with dict := t.dict, out := t.out, net := t.net }) := by
  have touched := Answered.touchRead 0x7F s
  have acts := cruWinData_clean (s := touchRead 0x7F s) (path := 0x7F) (p := p) (by rw [touched.recasting]; exact apart)
    (by rw [touched.cruSelected]; exact memory)
  rw [touched.cruSelected, touched.cru] at acts
  refine ⟨_, dictRead_readable readable acts, ?_, (touched.trans (.answerRead ..)).machine⟩
  rw [answerRead_mailbox, touchRead_out free]

/-! ### CRU_STICKY (R148, R189) -/

/-- The bits of ST that CRU_STICKY names: its bits 0-3 name 20-23, 4-7 name 16-19 and 8 names 15. -/
theorem stickyMask_bit (w : Word) (b : Nat) (bit : b < 32) : (stickyMask w).getLsbD b =
    ((20 ≤ b && b < 24 && w.getLsbD (b - 20)) || (16 ≤ b && b < 20 && w.getLsbD (b - 12)) || (b = 15 && w.getLsbD 8)) := by
  unfold stickyMask
  interval_cases b <;> simp

theorem cruStickyClear_clears {s : State} {p : Nat} (w : Word) (holds : recastHolds s p = false) : cruStickyClear p w s = .ok (s.modCru p (fun c =>
    { c with status := c.status &&& ~~~(stickyMask w), hlimHit := c.hlimHit && !w.getLsbD 9 })) := need_ok (by rw [holds]; rfl)

/-- Settles O16: each command's own conditions hold after the access is taken up as before it, and it then changes its crucible alone. -/
theorem crucibleCommands : Obligations.CrucibleCommands := by
  unfold Obligations.CrucibleCommands
  intro s path p holds
  have held (u : State) (answered : Answered s u) : recastHolds u p = false := answered.recastHolds p ▸ holds
  refine ⟨?start, ?halt, ?step, ?write, ?read, ?sticky⟩
  case start =>
    intro admitted rest
    have starts (useEntry : Bool) (entry : Nat) := dictCommand_modCru admitted (fun u answered =>
      cruCmdRun_starts useEntry entry (held u answered) (answered.cru p ▸ rest))
    refine ⟨fun entry => ?_, fun entry => ?_, dictCommand_modCru admitted (fun u answered =>
      cruCmdClearPorts_clears (held u answered) (answered.cru p ▸ rest))⟩
    · obtain ⟨t, next, cru, only⟩ := starts true entry
      exact ⟨t, next, by rw [cru]; rfl, by rw [cru]; rfl, only⟩
    · obtain ⟨t, next, cru, only⟩ := starts false entry
      exact ⟨t, next, by rw [cru]; rfl, by rw [cru]; rfl, only⟩
  case halt =>
    intro admitted running
    exact dictCommand_modCru admitted (fun u answered => cruCmdHalt_asks (held u answered) (answered.cru p ▸ running))
  case step => exact fun admitted halted nop straight => cruCmdStep_steps holds admitted halted nop straight
  case write =>
    intro v admitted rest selects
    have acts (u : State) (answered : Answered s u) :
        cruWinWrite path p v u = .ok (u.modCru p (cruWinPut (cruSelected s path p).1 (cruSelected s path p).2 v)) := by
      rw [← answered.cruSelected] at selects ⊢
      exact cruWinWrite_writes v (held u answered) (answered.cru p ▸ rest) selects
    obtain ⟨t, next, cru, others, -⟩ := dictCommand_modCru admitted acts
    refine ⟨t, next, ?_⟩
    dsimp only
    rw [cru]
    obtain ⟨pm, x, y, data⟩ := cruWinPut_writes (cruSelected s path p).1 (cruSelected s path p).2 v (s.cru p)
    exact ⟨pm, x, y, data, others⟩
  case read => exact cruWinDataRead_answers
  case sticky =>
    intro w admitted
    obtain ⟨t, next, cru, only⟩ := dictCommand_modCru admitted (fun u answered => cruStickyClear_clears w (held u answered))
    refine ⟨t, next, fun b bit => ?_, by rw [cru], by rw [cru], only⟩
    rw [cru, ← stickyMask_bit w b bit]
    simp [bit]

end Sys2Proof.Machine
end

section
/-! Proofs of 05_tundish_queues.md: the tundish at work. What each of its shared operations (credits, slag, reports, watchers, cells and blocks) may
change is said once, in three frames: a message's own (`TundishOnly`), that of credits on their way to a producer (`CreditsSent`) and that of the moves
of a deep queue (`MovesBegun`). -/

namespace Sys2Proof.Machine

/-! ### Queues -/

@[simp] theorem State.modQueue_same (s : State) (q : Nat) (g : Queue → Queue) : (s.modQueue q g).queue q = g (s.queue q) :=
  Tab.get_modify_same ..

theorem State.modQueue_ne (s : State) {q j : Nat} (g : Queue → Queue) (other : j ≠ q) : (s.modQueue q g).queue j = s.queue j :=
  Tab.get_modify_ne _ _ _ _ _ other

theorem queue_congr {s t : State} (tun : t.tun = s.tun) (j : Nat) : t.queue j = s.queue j := by rw [State.queue, tun]; rfl

/-! ### What a message of the tundish may change -/

theorem TundishOnly.refl (s : State) : TundishOnly s s := ⟨rfl, rfl⟩

theorem TundishOnly.trans {s t u : State} (h : TundishOnly s t) (k : TundishOnly t u) : TundishOnly s u := by
  obtain ⟨machine, net⟩ := h
  obtain ⟨machine', net'⟩ := k
  exact ⟨by rw [machine', machine], by rw [net', net]⟩

theorem TundishOnly.modTun (s : State) (g : Tundish → Tundish) : TundishOnly s (s.modTun g) := ⟨rfl, rfl⟩

theorem TundishOnly.modQueue (s : State) (q : Nat) (g : Queue → Queue) : TundishOnly s (s.modQueue q g) := ⟨rfl, rfl⟩

theorem TundishOnly.answer (s : State) (src dest oclass tag : Nat) (b : Body) : TundishOnly s (s.answer src dest oclass tag b) := ⟨rfl, rfl⟩

theorem TundishOnly.reportQueue (code q src : Nat) (s : State) : TundishOnly s (reportQueue code q src s) := by
  rw [Machine.reportQueue, reportAt_machine]
  exact ⟨rfl, rfl⟩

/-- A packet has been taken from the network, if any. -/
def PacketTaken (s t : State) : Prop := ∃ w c, t = { s with net := { s.net with wire := w, credits := c } }

theorem packetTaken_consume (s : State) (dest src oclass : Nat) (b : Body) : PacketTaken s (s.consume dest src oclass b) := by
  unfold State.consume
  split
  · split
    · next f _ _ =>
      obtain ⟨c, dropped⟩ := s.net.drop_changes f
      rw [dropped]
      exact ⟨_, _, rfl⟩
    · exact ⟨_, _, rfl⟩
  · exact ⟨_, _, rfl⟩

theorem PacketTaken.only {s t : State} : PacketTaken s t → TundishOnly s t := by rintro ⟨_, _, rfl⟩; exact ⟨rfl, rfl⟩
theorem PacketTaken.tun {s t : State} : PacketTaken s t → t.tun = s.tun := by rintro ⟨_, _, rfl⟩; rfl
theorem PacketTaken.chill {s t : State} : PacketTaken s t → t.chill = s.chill := by rintro ⟨_, _, rfl⟩; rfl
theorem PacketTaken.queue {s t : State} (a : PacketTaken s t) (j : Nat) : t.queue j = s.queue j := queue_congr a.tun j

/-! ### The tundish's registers -/

@[simp] theorem endTunCycle_queue (s : State) (j : Nat) : (endTunCycle s).queue j = s.queue j := rfl
@[simp] theorem addSlag_queue (n : Nat) (s : State) (j : Nat) : (addSlag n s).queue j = s.queue j := rfl
@[simp] theorem freeCells_queue (cs : List Nat) (s : State) (j : Nat) : (freeCells cs s).queue j = s.queue j := rfl
@[simp] theorem answer_queue (src dest oclass tag : Nat) (b : Body) (s : State) (j : Nat) : (s.answer src dest oclass tag b).queue j = s.queue j := rfl

/-! ### Errors of a queue (R265) -/

@[simp] theorem reportQueue_tun (code q src : Nat) (s : State) : (reportQueue code q src s).tun = s.tun := reportAt_tun ..

@[simp] theorem reportQueue_queue (code q src : Nat) (s : State) (j : Nat) : (reportQueue code q src s).queue j = s.queue j :=
  queue_congr (reportQueue_tun ..) j

theorem reports_reportQueue (code q src : Nat) (s : State) : Reports s (reportQueue code q src s) code 4 q :=
  reports_reportAt code 4 q _ 0 s

/-! ### Watchers -/

/-- A watcher that is told has one packet more on its way to it. -/
theorem tellWatcher_sends (q before : Nat) (s : State) :
    ∃ w, tellWatcher q before s = { s with net := { s.net with wire := w } } := by
  unfold tellWatcher
  dsimp only
  split
  · split
    · exact ⟨_, rfl⟩
    · exact ⟨_, rfl⟩
  · exact ⟨_, rfl⟩

/-! ### Credits (R219, R226, R228) -/

/-- Credits of queue `q` have been granted, withheld or sent, and nothing else has changed. -/
structure CreditsSent (q : Nat) (s t : State) : Prop where
  machine : t = { s with tun := { s.tun with queues := t.tun.queues }, net := { s.net with wire := t.net.wire } }
  others : ∀ j, j ≠ q → t.queue j = s.queue j
  own : t.queue q = { s.queue q with creditOut := (t.queue q).creditOut, withheld := (t.queue q).withheld, accrued := (t.queue q).accrued }

namespace CreditsSent
variable {q : Nat} {s t u : State}

theorem refl (q : Nat) (s : State) : CreditsSent q s s := ⟨rfl, fun _ _ => rfl, rfl⟩

theorem trans (a : CreditsSent q s t) (b : CreditsSent q t u) : CreditsSent q s u where
  machine := by rw [b.machine, a.machine]
  others j other := (b.others j other).trans (a.others j other)
  own := by rw [b.own, a.own]

theorem modQueue (s : State) {g : Queue → Queue} (credits : ∀ x : Queue, g x =
    { x with creditOut := (g x).creditOut, withheld := (g x).withheld, accrued := (g x).accrued }) : CreditsSent q s (s.modQueue q g) where
  machine := rfl
  others _ other := s.modQueue_ne g other
  own := by rw [State.modQueue_same]; exact credits _

theorem of_wire {w : List Flight} (h : t = { s with net := { s.net with wire := w } }) : CreditsSent q s t := by
  subst h
  exact ⟨rfl, fun _ _ => rfl, rfl⟩

/-- What of the queue its credits have no part in stays. -/
theorem keeps {α : Type} (a : CreditsSent q s t) (f : Queue → α)
    (apart : ∀ (x : Queue) (out held due : Nat), f { x with creditOut := out, withheld := held, accrued := due } = f x) :
    f (t.queue q) = f (s.queue q) := by
  rw [a.own]
  exact apart ..

theorem tun (a : CreditsSent q s t) : t.tun = { s.tun with queues := t.tun.queues } := by rw [a.machine]

theorem chill (a : CreditsSent q s t) : t.chill = s.chill := by rw [a.machine]

theorem reports {r : State} {code kind oid : Nat} (a : CreditsSent q s t) (reported : Reports r s code kind oid) : Reports r t code kind oid :=
  reported.mono (Nat.le_of_eq (reportsOf_congr a.chill code kind oid).symm)

theorem only (a : CreditsSent q s t) : TundishOnly s t := by
  rw [a.machine]
  exact ⟨rfl, rfl⟩

end CreditsSent

theorem creditsSent_tellWatcher (q k before : Nat) (s : State) : CreditsSent q s (tellWatcher k before s) := by
  obtain ⟨w, sends⟩ := tellWatcher_sends k before s
  exact .of_wire sends

/-- CREDIT messages are packets, and no more. -/
theorem creditMessages_send (q dest : Nat) : ∀ (l : List Nat) (s : State),
    ∃ w, l.foldl (fun s k => s.answer tundishNode dest 0 0 (.credit q k)) s = { s with net := { s.net with wire := w } }
  | [], s => ⟨_, rfl⟩
  | k :: l, s => by
    obtain ⟨w, sends⟩ := creditMessages_send q dest l (s.answer tundishNode dest 0 0 (.credit q k))
    exact ⟨w, sends⟩

/-- Credits that are sent are outstanding (R228). -/
theorem sendCredits_sends (q n : Nat) (s : State) : CreditsSent q s (sendCredits q n s) ∧
    (sendCredits q n s).queue q = { s.queue q with creditOut := (s.queue q).creditOut + n } := by
  obtain ⟨w, sends⟩ := creditMessages_send q (s.queue q).producer (creditChunks n) (s.modQueue q (fun x => { x with creditOut := x.creditOut + n }))
  have sent : sendCredits q n s = _ := sends
  refine ⟨(CreditsSent.modQueue s fun _ => rfl).trans (.of_wire sent), ?_⟩
  rw [sent]
  exact State.modQueue_same ..

theorem creditsSent_grantWithheld (q : Nat) (s : State) : CreditsSent q s (grantWithheld q s) := by
  unfold grantWithheld
  dsimp only
  generalize (if (s.queue q).deep = true then _ else _) = n
  split
  · exact .refl q s
  · exact (CreditsSent.modQueue s fun _ => rfl).trans (sendCredits_sends ..).1

/-- A queue that has granted every credit it withheld. -/
def Queue.granted (x : Queue) : Queue := { x with creditOut := x.creditOut + x.withheld, withheld := 0 }

theorem Queue.granted_of_none {x : Queue} (none : x.withheld = 0) : x.granted = x := by
  cases x
  cases none
  rfl

theorem grantWithheld_shallow {q : Nat} {s : State} (shallow : (s.queue q).deep = false) : (grantWithheld q s).queue q = (s.queue q).granted := by
  unfold grantWithheld
  simp only [shallow, Bool.false_eq_true, if_false]
  split
  · next none => rw [Queue.granted_of_none none]
  · rw [(sendCredits_sends ..).2, State.modQueue_same, Nat.sub_self]
    rfl

theorem creditsSent_returnCredits (q n : Nat) (s : State) : CreditsSent q s (returnCredits q n s) :=
  (CreditsSent.modQueue s fun _ => rfl).trans (creditsSent_grantWithheld ..)

theorem returnCredits_shallow {q : Nat} (n : Nat) {s : State} (shallow : (s.queue q).deep = false) :
    (returnCredits q n s).queue q = Queue.granted { s.queue q with withheld := (s.queue q).withheld + n } := by
  rw [returnCredits, grantWithheld_shallow (by rwa [State.modQueue_same]), State.modQueue_same]

theorem creditsSent_sendAccrued (q : Nat) (s : State) : CreditsSent q s (sendAccrued q s) :=
  (CreditsSent.modQueue s fun _ => rfl).trans (creditsSent_returnCredits ..)

theorem creditsSent_accrueCredits (q n : Nat) (s : State) : CreditsSent q s (accrueCredits q n s) := by
  unfold accrueCredits
  dsimp only
  split
  · exact (CreditsSent.modQueue s fun _ => rfl).trans (creditsSent_sendAccrued ..)
  · exact .modQueue s fun _ => rfl

/-! ### How a message ends -/

theorem deepMoves_shallow {q : Nat} {s : State} (shallow : (s.queue q).deep = false) : deepMoves q s = s := if_pos (by simp [shallow])

theorem deepMoves_inactive {q : Nat} {s : State} (inactive : (s.queue q).st ≠ .active) : deepMoves q s = s := if_pos (by simp [inactive])

/-- How a PUSH or POP ends: the watcher is told, a deep queue moves, and credits withheld are granted. -/
def settleQueue (q before : Nat) (s : State) : State := grantWithheld q (deepMoves q (tellWatcher q before s))

theorem tellWatcher_queue (q before : Nat) (s : State) (j : Nat) : (tellWatcher q before s).queue j = s.queue j := by
  obtain ⟨w, sends⟩ := tellWatcher_sends q before s
  rw [sends]
  rfl

theorem settleQueue_still {q : Nat} (before : Nat) {s : State} (still : (s.queue q).st ≠ .active ∨ (s.queue q).deep = false) :
    settleQueue q before s = grantWithheld q (tellWatcher q before s) := by
  rw [← tellWatcher_queue q before] at still
  rw [settleQueue, still.elim deepMoves_inactive deepMoves_shallow]

theorem creditsSent_settleQueue {q : Nat} (before : Nat) {s : State} (still : (s.queue q).st ≠ .active ∨ (s.queue q).deep = false) :
    CreditsSent q s (settleQueue q before s) := by
  rw [settleQueue_still before still]
  exact (creditsSent_tellWatcher ..).trans (creditsSent_grantWithheld ..)

theorem settleQueue_shallow {q : Nat} (before : Nat) {s : State} (shallow : (s.queue q).deep = false) : (settleQueue q before s).queue q =
    (s.queue q).granted := by
  rw [settleQueue_still before (.inr shallow), grantWithheld_shallow (by rwa [tellWatcher_queue]), tellWatcher_queue]

end Sys2Proof.Machine
end

section
/-! Proofs of 05_tundish_queues.md (R211, R228, R231-R237, R247, R248): PUSH and REWIND. -/

namespace Sys2Proof.Machine

/-! ### Words and cells -/

/-- Cells have been taken for queue `q`, or words stored in those it holds, and nothing outside the tundish has changed. -/
structure CellsTaken (q : Nat) (s t : State) : Prop where
  machine : t = { s with tun := { s.tun with queues := t.tun.queues, freeCells := t.tun.freeCells, nextCell := t.tun.nextCell } }
  others : ∀ j, j ≠ q → t.queue j = s.queue j

namespace CellsTaken
variable {q : Nat} {s t u : State}

theorem refl (q : Nat) (s : State) : CellsTaken q s s := ⟨rfl, fun _ _ => rfl⟩

theorem trans (a : CellsTaken q s t) (b : CellsTaken q t u) : CellsTaken q s u :=
  ⟨by rw [b.machine, a.machine], fun j other => (b.others j other).trans (a.others j other)⟩

theorem modQueue (q : Nat) (s : State) (g : Queue → Queue) : CellsTaken q s (s.modQueue q g) := ⟨rfl, fun _ other => s.modQueue_ne g other⟩

theorem tun (a : CellsTaken q s t) : t.tun = { s.tun with queues := t.tun.queues, freeCells := t.tun.freeCells, nextCell := t.tun.nextCell } := by
  rw [a.machine]

theorem chill (a : CellsTaken q s t) : t.chill = s.chill := by rw [a.machine]

theorem only (a : CellsTaken q s t) : TundishOnly s t := by
  rw [a.machine]
  exact ⟨rfl, rfl⟩

end CellsTaken

theorem allocCell_takes (q : Nat) (s : State) : CellsTaken q s (allocCell s).2 ∧ ∀ j, (allocCell s).2.queue j = s.queue j := by
  unfold allocCell
  split
  · exact ⟨⟨rfl, fun _ _ => rfl⟩, fun _ => rfl⟩
  · exact ⟨⟨rfl, fun _ _ => rfl⟩, fun _ => rfl⟩

/-- A queue without a middle whose cells are `cs`, with one word of the open packet more among them. -/
def Queue.storing (x : Queue) (cs : List PoolCell) : Queue := { x with front := cs, opened := x.opened + 1 }

theorem Queue.tailCells_whole {x : Queue} (whole : x.mid = []) : x.tailCells = x.front := by rw [Queue.tailCells, whole]; rfl

theorem Queue.setTail_whole {x : Queue} (whole : x.mid = []) (cs : List PoolCell) : x.setTail cs = { x with front := cs } := by
  rw [Queue.setTail, whole]
  rfl

/-- The word joins the last cell where that has room, and has a cell of its own otherwise. -/
theorem storeWord_stores {q : Nat} (w : QWord) {s : State} (whole : (s.queue q).mid = []) : CellsTaken q s (storeWord q w s) ∧
    ∃ cs : List PoolCell, cs.flatMap (·.words) = (s.queue q).stored ++ [w] ∧ (storeWord q w s).queue q = (s.queue q).storing cs := by
  have tail := Queue.tailCells_whole whole
  have sets := Queue.setTail_whole whole
  obtain ⟨taken, queues⟩ := allocCell_takes q s
  have stored : (s.queue q).stored = (s.queue q).front.reverse.reverse.flatMap (·.words) := by rw [List.reverse_reverse]; rfl
  unfold storeWord
  dsimp only
  rw [tail, stored]
  split
  · next c r cells =>
    split
    · refine ⟨.modQueue .., r.reverse ++ [{ c with words := c.words ++ [w] }], by simp [cells], ?_⟩
      rw [State.modQueue_same, sets]
      rfl
    · refine ⟨taken.trans (.modQueue ..), (s.queue q).front ++ [{ idx := (allocCell s).1, gen := (s.queue q).gen, words := [w] }], by simp, ?_⟩
      rw [State.modQueue_same, queues, tail, sets]
      rfl
  · next none =>
    refine ⟨taken.trans (.modQueue ..), [{ idx := (allocCell s).1, gen := (s.queue q).gen, words := [w] }], by simp [none], ?_⟩
    rw [State.modQueue_same, queues, sets]
    rfl

/-! ### A whole packet (R231-R233) -/

/-- A word sent with `sop` begins a packet, or goes on with the open one (R232, R238). -/
abbrev Queue.Takes (x : Queue) (sop : Bool) : Prop :=
  x.st = .active ∧ x.mid = [] ∧ (sop = true → x.opened = 0) ∧ (sop = false → x.discard = false ∧ 0 < x.opened)

/-- The queue once a word has joined its cells, now `cs`. -/
def Queue.taking (x : Queue) (cs : List PoolCell) (w : QWord) : Queue :=
  { x with
    front := cs, creditOut := x.creditOut - 1, discard := false
    count := if w.l then x.count + (x.opened + 1) else x.count, opened := if w.l then 0 else x.opened + 1 }

theorem rewindOpen_closed {q : Nat} {s : State} (closed : (s.queue q).opened = 0) : rewindOpen q s = s := if_pos closed

/-- The packet that a word goes into stands open for it. -/
def openFor (q : Nat) (sop : Bool) (s : State) : State :=
  if sop then (rewindOpen q s).modQueue q (fun x => { x with discard := false }) else s

theorem openFor_opens {q : Nat} {sop : Bool} {s : State} (takes : (s.queue q).Takes sop) :
    CellsTaken q s (openFor q sop s) ∧ (openFor q sop s).queue q = { s.queue q with discard := false } := by
  obtain ⟨-, -, first, later⟩ := takes
  unfold openFor
  cases sop with
  | true =>
    rw [if_pos rfl, rewindOpen_closed (first rfl), State.modQueue_same]
    exact ⟨.modQueue .., rfl⟩
  | false =>
    refine ⟨.refl q s, ?_⟩
    obtain ⟨kept, -⟩ := later rfl
    rw [if_neg (by decide)]
    cases x : s.queue q
    rw [x] at kept
    cases kept
    rfl

theorem acceptWord_eq (src q : Nat) (sop : Bool) (w : QWord) (s : State) : acceptWord src q sop w s =
    let u := openFor q sop s
    let x := u.queue q
    if x.discard || (!sop && x.opened = 0) then accrueCredits q 1 (addSlag 1 u)
    else if w.p || 4096 ≤ x.opened then failPacket q src u
    else if w.l then commitPacket q (storeWord q w u) else storeWord q w u := rfl

theorem acceptWord_takes {src q : Nat} {sop : Bool} {w : QWord} {s : State} (takes : (s.queue q).Takes sop) (clean : w.p = false)
    (room : (s.queue q).opened < 4096) : CellsTaken q s (acceptWord src q sop w s) ∧
    ∃ cs : List PoolCell, cs.flatMap (·.words) = (s.queue q).stored ++ [w] ∧
      (acceptWord src q sop w s).queue q = { (s.queue q).taking cs w with creditOut := (s.queue q).creditOut } := by
  obtain ⟨opens, x⟩ := openFor_opens takes
  obtain ⟨-, whole, -, later⟩ := takes
  have goesOn : ¬ (((openFor q sop s).queue q).discard || (!sop && ((openFor q sop s).queue q).opened = 0)) = true := by
    rw [x]
    cases sop with
    | true => simp
    | false => have := (later rfl).2; simp; omega
  rw [acceptWord_eq]
  dsimp only
  rw [if_neg goesOn, if_neg (by rw [x]; simp [clean]; omega)]
  obtain ⟨stores, cs, words, y⟩ := storeWord_stores (q := q) w (s := openFor q sop s) (by rw [x]; exact whole)
  rw [x] at words y
  split
  · next last =>
    refine ⟨(opens.trans stores).trans (.modQueue ..), cs, words, ?_⟩
    rw [commitPacket, State.modQueue_same, y]
    simp [Queue.taking, Queue.storing, last]
  · next open' =>
    refine ⟨opens.trans stores, cs, words, ?_⟩
    rw [y]
    simp [Queue.taking, Queue.storing, open']

/-- A word that finds a credit uses it (R228). -/
def useCredit (q : Nat) (s : State) : State := s.modQueue q (fun x => { x with creditOut := x.creditOut - 1 })

@[simp] theorem useCredit_queue (q : Nat) (s : State) : (useCredit q s).queue q = { s.queue q with creditOut := (s.queue q).creditOut - 1 } :=
  State.modQueue_same ..

theorem cellsTaken_useCredit (q : Nat) (s : State) : CellsTaken q s (useCredit q s) := .modQueue ..

theorem pushWord_active {src q : Nat} {s : State} (active : (s.queue q).st = .active) (credit : 0 < (s.queue q).creditOut) (sop : Bool) (w : QWord) :
    pushWord src q sop w s = acceptWord src q sop w (useCredit q s) := by
  unfold pushWord
  dsimp only
  rw [if_neg (by omega), active]
  rfl

/-- One word of a packet uses one credit and joins the queue (R228, R231). -/
theorem pushWord_takes {src q : Nat} {sop : Bool} {w : QWord} {s : State} (takes : (s.queue q).Takes sop) (credit : 0 < (s.queue q).creditOut)
    (clean : w.p = false) (room : (s.queue q).opened < 4096) : CellsTaken q s (pushWord src q sop w s) ∧
    ∃ cs : List PoolCell, cs.flatMap (·.words) = (s.queue q).stored ++ [w] ∧ (pushWord src q sop w s).queue q = (s.queue q).taking cs w := by
  obtain ⟨accepts, cs, words, y⟩ := acceptWord_takes (src := src) (q := q) (sop := sop) (w := w) (s := useCredit q s)
    (by rw [useCredit_queue]; exact takes) clean (by rw [useCredit_queue]; exact room)
  rw [useCredit_queue] at words y
  rw [pushWord_active takes.1 credit]
  exact ⟨(cellsTaken_useCredit ..).trans accepts, cs, words, y⟩

/-- The queue once `n` words that end a packet have joined its cells, now `cs`. -/
def Queue.committing (x : Queue) (cs : List PoolCell) (n : Nat) : Queue :=
  { x with front := cs, creditOut := x.creditOut - n, discard := false, count := x.count + (x.opened + n), opened := 0 }

/-- The words that end a packet, the last of them with L. -/
abbrev EndsPacket (ws : List QWord) : Prop := (∀ w ∈ ws.dropLast, w.l = false) ∧ ∀ w ∈ ws.getLast?, w.l = true

theorem pushWords_commit {src q : Nat} : ∀ (ws : List QWord) {sop : Bool} {s : State}, ws ≠ [] → (s.queue q).Takes sop →
    ws.length ≤ (s.queue q).creditOut → (s.queue q).opened + ws.length ≤ 4096 → EndsPacket ws → (∀ w ∈ ws, w.p = false) →
    CellsTaken q s (pushWords src q sop ws s) ∧ ∃ cs : List PoolCell, cs.flatMap (·.words) = (s.queue q).stored ++ ws ∧
      (pushWords src q sop ws s).queue q = (s.queue q).committing cs ws.length
  | [], _, _, nonempty, _, _, _, _, _ => absurd rfl nonempty
  | [w], sop, s, _, takes, credit, room, ends, clean => by
    have last : w.l = true := ends.2 w rfl
    obtain ⟨taken, cs, words, y⟩ := pushWord_takes (src := src) takes credit (clean w (by simp)) (Nat.lt_of_succ_le room)
    refine ⟨taken, cs, words, y.trans ?_⟩
    simp [Queue.taking, Queue.committing, last]
  | w :: v :: ws, sop, s, _, takes, credit, room, ends, clean => by
    obtain ⟨inner, final⟩ := ends
    have more : w.l = false := inner w (by simp)
    simp only [List.length_cons] at credit room
    obtain ⟨taken, cs, words, y⟩ := pushWord_takes (src := src) (w := w) takes (by omega) (clean w (by simp)) (by omega)
    obtain ⟨taken', cs', words', y'⟩ := pushWords_commit (src := src) (v :: ws) (sop := w.l) (s := pushWord src q sop w s) (by simp)
      (by rw [y]; simpa [Queue.Takes, Queue.taking, more] using ⟨takes.1, takes.2.1⟩)
      (by rw [y]; simp only [Queue.taking, List.length_cons]; omega)
      (by rw [y]; simp [Queue.taking, more]; omega)
      ⟨fun u mem => inner u (by simp [List.dropLast_cons_of_ne_nil, mem]), fun u mem => final u (by simpa using mem)⟩
      (fun u mem => clean u (by simp [List.mem_cons.1 mem]))
    rw [y] at words' y'
    refine ⟨taken.trans taken', cs', ?_, y'.trans ?_⟩
    · rw [words']
      change cs.flatMap _ ++ _ = _
      rw [words, List.append_assoc]
      rfl
    · simp only [Queue.committing, Queue.taking, more, List.length_cons]
      simp
      omega

/-! ### PUSH -/

/-- Words of which none is found uncorrectable arrive as they are. -/
theorem markWords_none (ws : List QWord) : (ws.zipIdx).map (fun e => { e.1 with p := e.1.p || ([] : List Nat).contains e.2 }) = ws := by
  have same : (fun e : QWord × Nat => { e.1 with p := e.1.p || ([] : List Nat).contains e.2 }) = Prod.fst := by
    funext e
    simp
  rw [same, List.zipIdx_map_fst]

@[simp] theorem dataChecks_none (i dest addr : Nat) (s : State) : dataChecks i dest addr 0 0 s = s := rfl

theorem tunRuns_up {s : State} (runs : s.tunRuns = true) : s.tun.stopped = false := by
  simp only [State.tunRuns, Bool.and_eq_true, Bool.not_eq_true'] at runs
  exact runs.2

/-- A PUSH in which no check finds anything. -/
theorem exec_push {s : State} {src q : Nat} {sop : Bool} {ws : List QWord} (same : Bool) (runs : s.tunRuns = true) (first : PushFirst s src q sop ws) :
    exec (.push src q sop ws 0 [] .clean same) s = .next (endTunCycle ((if same then pushSameCycle else tunPush) src q sop ws
      (s.consume 81 src 0 (.push q sop ws)))) := by
  refine (event_of (by rw [runs]; exact first) _ _).trans ?_
  simp only [List.filter_nil, List.length_nil, markWords_none, dataChecks_none, tundishCheck, State.consume_tun, tunRuns_up runs, Bool.false_eq_true,
    if_false]
  cases same <;> rfl

theorem tunPush_refused {src q : Nat} {s : State} (refused : pushRefused (s.queue q) src = true) (sop : Bool) (ws : List QWord) :
    tunPush src q sop ws s = s.modTun (fun t => { t with protoRefused := t.protoRefused + 1 }) := if_pos refused

theorem tunPush_accepted {src q : Nat} {s : State} (accepted : pushRefused (s.queue q) src = false) (sop : Bool) (ws : List QWord) :
    tunPush src q sop ws s = settleQueue q (s.queue q).count (pushWords src q sop ws s) := if_neg (by rw [accepted]; decide)

/-- The producer of an ACTIVE queue is not refused (R211). -/
theorem pushRefused_producer {x : Queue} {src : Nat} (active : x.st = .active) (producer : x.producer = src) : pushRefused x src = false := by
  simp [pushRefused, active, producer]

theorem push_commits (s : State) (src q : Nat) (ws : List QWord) (runs : s.tunRuns = true) (some : ws ≠ []) (active : (s.queue q).st = .active)
    (producer : (s.queue q).producer = src) (shallow : (s.queue q).deep = false) (whole : (s.queue q).mid = []) (closed : (s.queue q).opened = 0)
    (credit : ws.length ≤ (s.queue q).creditOut) (room : ws.length ≤ 4096) (ends : EndsPacket ws) (clean : ∀ w ∈ ws, w.p = false)
    (first : PushFirst s src q true ws) : Answers (.push src q true ws 0 [] .clean false) s (fun t =>
      (t.queue q).stored = (s.queue q).stored ++ ws ∧ (t.queue q).count = (s.queue q).count + ws.length ∧ (t.queue q).opened = 0 ∧
      (t.queue q).creditOut = (s.queue q).creditOut - ws.length + (s.queue q).withheld ∧ (t.queue q).discard = false ∧
      (∀ j, j ≠ q → t.queue j = s.queue j) ∧ TundishOnly s t) := by
  refine ⟨_, exec_push false runs first, ?_⟩
  have packet := packetTaken_consume s 81 src 0 (.push q true ws)
  generalize s.consume 81 src 0 (.push q true ws) = u at packet
  have queues := packet.queue
  rw [← queues q] at active producer shallow whole closed credit ⊢
  obtain ⟨taken, cs, words, y⟩ := pushWords_commit (src := src) (sop := true) (s := u) ws some ⟨active, whole, fun _ => closed, nofun⟩ credit
    (by omega) ends clean
  rw [if_neg (by decide), tunPush_accepted (pushRefused_producer active producer)]
  generalize pushWords src q true ws u = v at taken y
  have settles := settleQueue_shallow (s := v) (u.queue q).count (by rw [y]; exact shallow)
  have sent := creditsSent_settleQueue (s := v) (u.queue q).count (.inr (by rw [y]; exact shallow))
  dsimp only
  rw [endTunCycle_queue, settles, y]
  refine ⟨words, by simp [Queue.granted, Queue.committing, closed], rfl, rfl, rfl, fun j other => ?_,
    ((packet.only.trans taken.only).trans sent.only).trans (.modTun ..)⟩
  exact (sent.others j other).trans ((taken.others j other).trans (queues j))

/-- A word that fails where no packet is open: its credit goes back, and what follows of its packet is discarded (R226, R237, R238). -/
theorem failPacket_discards {src q : Nat} {s : State} (closed : (s.queue q).opened = 0) :
    ∃ t, CreditsSent q (addSlag 1 s) t ∧ failPacket q src s = reportQueue 0x3304 q src (t.modQueue q (fun x => { x with discard := true })) :=
  ⟨_, creditsSent_accrueCredits .., by rw [failPacket, rewindOpen_closed closed]⟩

theorem pushWord_fails {src q : Nat} {w : QWord} {s : State} (takes : (s.queue q).Takes true) (credit : 0 < (s.queue q).creditOut)
    (poisoned : w.p = true) : ∃ u, CellsTaken q s u ∧ u.queue q = { s.queue q with creditOut := (s.queue q).creditOut - 1, discard := false } ∧
      pushWord src q true w s = failPacket q src u := by
  obtain ⟨opens, x⟩ := openFor_opens (q := q) (sop := true) (s := useCredit q s) (by rw [useCredit_queue]; exact takes)
  refine ⟨_, (cellsTaken_useCredit ..).trans opens, by rw [x, useCredit_queue], ?_⟩
  rw [pushWord_active takes.1 credit, acceptWord_eq]
  dsimp only
  rw [if_neg (by rw [x]; simp), if_pos (by simp [poisoned])]

/-- A poisoned word that begins a packet is slag and reported; of the queue, credits apart, DISCARD alone changes. -/
theorem pushWord_poisoned {src q : Nat} {w : QWord} {s : State} (takes : (s.queue q).Takes true) (credit : 0 < (s.queue q).creditOut)
    (poisoned : w.p = true) : ∃ t, pushWord src q true w s = t ∧ TundishOnly s t ∧ t.tun.slag = s.tun.slag + 1 ∧ Reports s t 0x3304 4 q ∧
      ∃ out held due, t.queue q = { s.queue q with creditOut := out, withheld := held, accrued := due, discard := true } := by
  obtain ⟨u, taken, x, fails⟩ := pushWord_fails (src := src) takes credit poisoned
  obtain ⟨r, returned, fails'⟩ := failPacket_discards (src := src) (q := q) (s := u) (by rw [x]; exact takes.2.2.1 rfl)
  refine ⟨_, fails.trans fails', ?_, ?_, ?_, (r.queue q).creditOut, (r.queue q).withheld, (r.queue q).accrued, ?_⟩
  · exact (taken.only.trans (.modTun ..)).trans ((returned.only.trans (.modQueue ..)).trans (.reportQueue ..))
  · rw [reportQueue_tun]
    show r.tun.slag = _
    rw [returned.tun]
    show u.tun.slag + _ = _
    rw [taken.tun]
    rfl
  · exact (reports_reportQueue 0x3304 q src (r.modQueue q _)).of_chill (returned.chill.trans taken.chill)
  · rw [reportQueue_queue, State.modQueue_same, returned.own, addSlag_queue, x]

theorem push_fails (s : State) (src q : Nat) (w : QWord) (runs : s.tunRuns = true) (active : (s.queue q).st = .active)
    (producer : (s.queue q).producer = src) (shallow : (s.queue q).deep = false) (whole : (s.queue q).mid = []) (closed : (s.queue q).opened = 0)
    (credit : 0 < (s.queue q).creditOut) (poisoned : w.p = true) (first : PushFirst s src q true [w]) :
    Answers (.push src q true [w] 0 [] .clean false) s (fun t =>
      (t.queue q).stored = (s.queue q).stored ∧ (t.queue q).count = (s.queue q).count ∧ (t.queue q).discard = true ∧ t.tun.slag = s.tun.slag + 1 ∧
      Reports s t 0x3304 4 q ∧ TundishOnly s t) := by
  refine ⟨_, exec_push false runs first, ?_⟩
  have packet := packetTaken_consume s 81 src 0 (.push q true [w])
  generalize s.consume 81 src 0 (.push q true [w]) = u at packet
  rw [← packet.queue q] at active producer shallow whole closed credit ⊢
  obtain ⟨v, run, only, slag, reported, out, held, due, own⟩ :=
    pushWord_poisoned (src := src) (s := u) ⟨active, whole, fun _ => closed, nofun⟩ credit poisoned
  rw [if_neg (by decide), tunPush_accepted (pushRefused_producer active producer), pushWords, run, pushWords]
  have sent := creditsSent_settleQueue (u.queue q).count (s := v) (.inr (by rw [own]; exact shallow))
  generalize settleQueue q (u.queue q).count v = t at sent
  dsimp only
  rw [endTunCycle_queue]
  refine ⟨?_, ?_, ?_, ?_, sent.reports (reported.of_chill packet.chill), ((packet.only.trans only).trans sent.only).trans (.modTun ..)⟩
  · rw [sent.keeps (·.stored) fun _ _ _ _ => rfl, own]
    rfl
  · rw [sent.keeps (·.count) fun _ _ _ _ => rfl, own]
  · rw [sent.keeps (·.discard) fun _ _ _ _ => rfl, own]
  · rw [← packet.tun, endTunCycle, State.modTun, sent.tun]
    exact slag

/-- A message that is refused is counted, and has no other effect (R211, R220). -/
theorem push_refused (s : State) (src q : Nat) (ws : List QWord) (runs : s.tunRuns = true)
    (refused : (s.queue q).st = .disabled ∨ ((s.queue q).st = .active ∧ (s.queue q).producer ≠ src)) (sop : Bool) (first : PushFirst s src q sop ws) :
    Answers (.push src q sop ws 0 [] .clean false) s (fun t =>
      t.tun = { s.tun with protoRefused := s.tun.protoRefused + 1, cycle := none } ∧ TundishOnly s t) := by
  refine ⟨_, exec_push false runs first, ?_⟩
  have packet := packetTaken_consume s 81 src 0 (.push q sop ws)
  generalize s.consume 81 src 0 (.push q sop ws) = u at packet
  rw [← packet.queue q] at refused
  rw [if_neg (by decide), tunPush_refused (by simpa [pushRefused] using refused), ← packet.tun]
  exact ⟨rfl, (packet.only.trans (.modTun ..)).trans (.modTun ..)⟩

/-! ### Words without a credit -/

/-- A violation is counted, and the first since the counter was read is logged (R228). -/
theorem violation_counts (src q : Nat) (s : State) :
    (violation src q s).tun = { s.tun with creditViol := s.tun.creditViol + 1, violLogged := true } ∧ TundishOnly s (violation src q s) ∧
      (s.tun.violLogged = false → Reports s (violation src q s) 0x3303 4 q) := by
  unfold violation
  dsimp only
  split
  · next logged => exact ⟨rfl, .modTun .., fun unlogged => absurd logged (by rw [unlogged]; decide)⟩
  · refine ⟨?_, (TundishOnly.reportQueue ..).trans (.modTun ..), fun _ => reports_reportQueue 0x3303 q src s⟩
    rw [State.modTun, reportQueue_tun]

theorem violation_queue (src q : Nat) (s : State) (j : Nat) : (violation src q s).queue j = s.queue j := by
  rw [State.queue, (violation_counts src q s).1]
  rfl

theorem push_violates (s : State) (src q : Nat) (w : QWord) (runs : s.tunRuns = true) (active : (s.queue q).st = .active)
    (producer : (s.queue q).producer = src) (shallow : (s.queue q).deep = false) (none : (s.queue q).creditOut = 0) (sop : Bool)
    (first : PushFirst s src q sop [w]) : Answers (.push src q sop [w] 0 [] .clean false) s (fun t =>
      (t.queue q).stored = (s.queue q).stored ∧ (t.queue q).count = (s.queue q).count ∧ t.tun.creditViol = s.tun.creditViol + 1 ∧
      (s.tun.violLogged = false → Reports s t 0x3303 4 q) ∧ TundishOnly s t) := by
  refine ⟨_, exec_push false runs first, ?_⟩
  have packet := packetTaken_consume s 81 src 0 (.push q sop [w])
  generalize s.consume 81 src 0 (.push q sop [w]) = u at packet
  rw [← packet.queue q] at active producer shallow none ⊢
  have run : pushWords src q sop [w] u = violation src q u := if_pos none
  rw [if_neg (by decide), tunPush_accepted (pushRefused_producer active producer), run]
  obtain ⟨counts, only, reports⟩ := violation_counts src q u
  have same := violation_queue src q u q
  generalize violation src q u = v at counts only reports same
  have sent := creditsSent_settleQueue (u.queue q).count (s := v) (.inr (by rw [same]; exact shallow))
  generalize settleQueue q (u.queue q).count v = t at sent
  dsimp only
  rw [endTunCycle_queue]
  refine ⟨?_, ?_, ?_, fun unlogged => ?_, ((packet.only.trans only).trans sent.only).trans (.modTun ..)⟩
  · rw [sent.keeps (·.stored) fun _ _ _ _ => rfl, same]
  · rw [sent.keeps (·.count) fun _ _ _ _ => rfl, same]
  · rw [← packet.tun, endTunCycle, State.modTun, sent.tun, counts]
  · rw [← packet.tun] at unlogged
    exact sent.reports ((reports unlogged).of_chill packet.chill)

theorem push_suspended (s : State) (src q : Nat) (w : QWord) (runs : s.tunRuns = true) (suspended : (s.queue q).st = .suspended)
    (credit : 0 < (s.queue q).creditOut) (sop : Bool) (first : PushFirst s src q sop [w]) :
    Answers (.push src q sop [w] 0 [] .clean false) s (fun t =>
      (t.queue q).stored = (s.queue q).stored ∧ (t.queue q).sweepHeld = (s.queue q).sweepHeld + 1 ∧ t.tun.slag = s.tun.slag + 1 ∧ TundishOnly s t) := by
  refine ⟨_, exec_push false runs first, ?_⟩
  have packet := packetTaken_consume s 81 src 0 (.push q sop [w])
  generalize s.consume 81 src 0 (.push q sop [w]) = u at packet
  rw [← packet.queue q] at suspended credit ⊢
  have run : pushWords src q sop [w] u = addSlag 1 ((useCredit q u).modQueue q (fun x => { x with sweepHeld := x.sweepHeld + 1 })) := by
    unfold pushWords pushWord
    dsimp only
    rw [if_neg (by omega), suspended]
    rfl
  have own : (addSlag 1 ((useCredit q u).modQueue q (fun x => { x with sweepHeld := x.sweepHeld + 1 }))).queue q =
      { u.queue q with creditOut := (u.queue q).creditOut - 1, sweepHeld := (u.queue q).sweepHeld + 1 } := by
    rw [addSlag_queue, State.modQueue_same, useCredit_queue]
  have only : TundishOnly u (addSlag 1 ((useCredit q u).modQueue q (fun x => { x with sweepHeld := x.sweepHeld + 1 }))) := ⟨rfl, rfl⟩
  have slag : (addSlag 1 ((useCredit q u).modQueue q (fun x => { x with sweepHeld := x.sweepHeld + 1 }))).tun.slag = s.tun.slag + 1 := by
    rw [← packet.tun]
    rfl
  rw [if_neg (by decide), tunPush_accepted (by simp [pushRefused, suspended]), run]
  generalize addSlag 1 ((useCredit q u).modQueue q (fun x => { x with sweepHeld := x.sweepHeld + 1 })) = v at own only slag
  have sent := creditsSent_settleQueue (u.queue q).count (s := v) (.inl (by rw [own]; simp [suspended]))
  generalize settleQueue q (u.queue q).count v = t at sent
  dsimp only
  rw [endTunCycle_queue]
  refine ⟨?_, ?_, ?_, ((packet.only.trans only).trans sent.only).trans (.modTun ..)⟩
  · rw [sent.keeps (·.stored) fun _ _ _ _ => rfl, own]
    rfl
  · rw [sent.keeps (·.sweepHeld) fun _ _ _ _ => rfl, own]
  · rw [endTunCycle, State.modTun, sent.tun]
    exact slag

/-- The cycle of the queue's flush or pop began without a credit (R247, R248). -/
theorem push_same_cycle (s : State) (src q : Nat) (w : QWord) (runs : s.tunRuns = true) (active : (s.queue q).st = .active)
    (producer : (s.queue q).producer = src) (shallow : (s.queue q).deep = false) (cycle : s.tun.cycle = some (q, 0)) (sop : Bool)
    (first : PushFirst s src q sop [w]) : Answers (.push src q sop [w] 0 [] .clean true) s (fun t =>
      (t.queue q).stored = (s.queue q).stored ∧ (t.queue q).count = (s.queue q).count ∧ t.tun.creditViol = s.tun.creditViol + 1 ∧ t.tun.cycle = none ∧
      TundishOnly s t) := by
  refine ⟨_, exec_push true runs first, ?_⟩
  have packet := packetTaken_consume s 81 src 0 (.push q sop [w])
  generalize s.consume 81 src 0 (.push q sop [w]) = u at packet
  rw [← packet.queue q] at active producer shallow ⊢
  rw [← packet.tun] at cycle ⊢
  have accepted := pushRefused_producer active producer
  have run : pushSameCycle src q sop [w] u = violation src q (settleQueue q (u.queue q).count u) := by
    unfold pushSameCycle
    rw [cycle]
    dsimp only
    rw [if_neg (by simp [accepted]), tunPush_accepted accepted]
    rfl
  have sent := creditsSent_settleQueue (u.queue q).count (s := u) (.inr shallow)
  rw [if_pos rfl, run]
  generalize settleQueue q (u.queue q).count u = v at sent
  obtain ⟨counts, only, -⟩ := violation_counts src q v
  dsimp only
  rw [endTunCycle_queue, violation_queue]
  refine ⟨sent.keeps (·.stored) fun _ _ _ _ => rfl, sent.keeps (·.count) fun _ _ _ _ => rfl, ?_, rfl,
    ((packet.only.trans sent.only).trans only).trans (.modTun ..)⟩
  rw [endTunCycle, State.modTun, counts, sent.tun]

/-! ### REWIND (R234, R235) -/

/-- What is trimmed off a list of cells, given last cell first, is its last words. -/
theorem trimCells_words : ∀ (cs : List PoolCell) (n : Nat), (trimCells n cs).1.reverse.flatMap (·.words) =
    (cs.reverse.flatMap (·.words)).take ((cs.reverse.flatMap (·.words)).length - n)
  | [], n => by simp [trimCells]
  | c :: cs, n => by
    have whole : (c :: cs).reverse.flatMap (·.words) = cs.reverse.flatMap (·.words) ++ c.words := by simp
    rw [whole, trimCells]
    split
    · next none => rw [none, Nat.sub_zero, List.take_length, whole]
    · split
      · next all =>
        have length : (cs.reverse.flatMap (·.words)).length + c.words.length - n = (cs.reverse.flatMap (·.words)).length - (n - c.words.length) := by
          omega
        rw [List.length_append, length, List.take_append_of_le_length (Nat.sub_le ..)]
        exact trimCells_words cs (n - c.words.length)
      · next part =>
        have length : (cs.reverse.flatMap (·.words)).length + c.words.length - n = (cs.reverse.flatMap (·.words)).length + (c.words.length - n) := by
          omega
        rw [List.length_append, length, List.take_length_add_append]
        simp

/-- A queue without a middle whose open packet has been rewound. -/
def Queue.rewound (x : Queue) : Queue := { x with front := (trimCells x.opened x.front.reverse).1.reverse, opened := 0 }

theorem Queue.rewound_stored (x : Queue) : x.rewound.stored = x.stored.take (x.stored.length - x.opened) := by
  have words := trimCells_words x.front.reverse x.opened
  rw [List.reverse_reverse] at words
  exact words

/-- The open packet's words leave the queue as slag, and their credits go back (R235). -/
theorem rewindOpen_opened {q : Nat} {s : State} (whole : (s.queue q).mid = []) (opened : (s.queue q).opened ≠ 0) :
    ∃ u, CreditsSent q u (rewindOpen q s) ∧ u.queue q = (s.queue q).rewound ∧ u.tun.slag = s.tun.slag + BitVec.ofNat 64 (s.queue q).opened ∧
      (∀ j, j ≠ q → u.queue j = s.queue j) ∧ TundishOnly s u := by
  have run : rewindOpen q s = returnCredits q (s.queue q).opened (addSlag (s.queue q).opened
      (freeCells (trimCells (s.queue q).opened (s.queue q).front.reverse).2 (s.modQueue q (fun _ => (s.queue q).rewound)))) := by
    unfold rewindOpen
    dsimp only
    rw [if_neg opened, Queue.tailCells_whole whole, Queue.setTail_whole whole]
    rfl
  rw [run]
  refine ⟨_, creditsSent_returnCredits .., ?_, rfl, fun j other => ?_, rfl, rfl⟩
  · rw [addSlag_queue, freeCells_queue, State.modQueue_same]
  · rw [addSlag_queue, freeCells_queue, s.modQueue_ne _ other]

theorem rewindOpen_rewinds {q : Nat} {s : State} (whole : (s.queue q).mid = []) :
    let x := s.queue q
    let t := rewindOpen q s
    (t.queue q).stored = x.stored.take (x.stored.length - x.opened) ∧ (t.queue q).opened = 0 ∧ (t.queue q).count = x.count ∧
      t.tun.slag = s.tun.slag + BitVec.ofNat 64 x.opened ∧ (∀ j, j ≠ q → t.queue j = s.queue j) ∧ TundishOnly s t := by
  dsimp only
  by_cases closed : (s.queue q).opened = 0
  · rw [rewindOpen_closed closed, closed]
    exact ⟨by simp, rfl, rfl, by simp, fun _ _ => rfl, .refl s⟩
  · obtain ⟨u, sent, own, slag, others, only⟩ := rewindOpen_opened whole closed
    refine ⟨?_, ?_, ?_, ?_, fun j other => (sent.others j other).trans (others j other), only.trans sent.only⟩
    · rw [sent.keeps (·.stored) fun _ _ _ _ => rfl, own, Queue.rewound_stored]
    · rw [sent.keeps (·.opened) fun _ _ _ _ => rfl, own]
      rfl
    · rw [sent.keeps (·.count) fun _ _ _ _ => rfl, own]
      rfl
    · rw [sent.tun]
      exact slag

theorem rewind_abandons (s : State) (src q : Nat) (runs : s.tunRuns = true) (active : (s.queue q).st = .active)
    (producer : (s.queue q).producer = src) (whole : (s.queue q).mid = []) (first : s.atFront 81 src 0 (.rewind q) = true) :
    Answers (.rewind src q .clean) s (fun t =>
      let x := s.queue q
      (t.queue q).stored = x.stored.take (x.stored.length - x.opened) ∧ (t.queue q).opened = 0 ∧ (t.queue q).count = x.count ∧
      t.tun.slag = s.tun.slag + BitVec.ofNat 64 x.opened ∧ (∀ j, j ≠ q → t.queue j = s.queue j) ∧ TundishOnly s t) := by
  have packet := packetTaken_consume s 81 src 0 (.rewind q)
  have run : exec (.rewind src q .clean) s = .next (endTunCycle (rewindOpen q (s.consume 81 src 0 (.rewind q)))) := by
    refine (event_of (by rw [runs]; exact first) _ _).trans ?_
    simp only [tundishCheck, State.consume_tun, tunRuns_up runs, packet.queue, pushRefused_producer active producer, active, Bool.false_eq_true,
      if_false, if_true]
  refine ⟨_, run, ?_⟩
  generalize s.consume 81 src 0 (.rewind q) = u at packet
  rw [← packet.queue q] at whole ⊢
  obtain ⟨stored, opened, count, slag, others, only⟩ := rewindOpen_rewinds whole
  rw [packet.tun] at slag
  exact ⟨stored, opened, count, slag, fun j other => (others j other).trans (packet.queue j), (packet.only.trans only).trans (.modTun ..)⟩

/-- Settles O17: a PUSH by what becomes of its words, and a REWIND. -/
theorem pushAndRewindPackets : Obligations.PushAndRewindPackets := by
  unfold Obligations.PushAndRewindPackets
  refine ⟨fun s src q ws runs some => ⟨fun active producer shallow whole closed credit room ends clean first =>
      push_commits s src q ws runs some active producer shallow whole closed credit room ends clean first, ?fails,
      fun refused sop first => push_refused s src q ws runs refused sop first, ?violates, ?suspended, ?cycle⟩,
    rewind_abandons⟩
  case fails => rintro w rfl; exact push_fails s src q w runs
  case violates => rintro w rfl active producer shallow none -; exact push_violates s src q w runs active producer shallow none
  case suspended => rintro w rfl suspended -; exact push_suspended s src q w runs suspended
  case cycle => rintro w rfl; exact push_same_cycle s src q w runs

end Sys2Proof.Machine
end

section
/-! Proofs of 05_tundish_queues.md (R239-R243): POP. -/

namespace Sys2Proof.Machine

/-! ### The cycle of a POP -/

/-- The POP has been taken from the network, and its cycle begun (R247). -/
def popTaken (src q max : Nat) (s : State) : State := beginTunCycle q (s.consume 81 src 0 (.pop q max))

theorem popTaken_only (src q max : Nat) (s : State) : TundishOnly s (popTaken src q max s) := 
  (packetTaken_consume s 81 src 0 (.pop q max)).only.trans ⟨rfl, rfl⟩

theorem popTaken_tun (src q max : Nat) (s : State) : (popTaken src q max s).tun = { s.tun with cycle := (popTaken src q max s).tun.cycle } := by
  rw [← (packetTaken_consume s 81 src 0 (.pop q max)).tun]
  rfl

theorem popTaken_chill (src q max : Nat) (s : State) : (popTaken src q max s).chill = s.chill := (packetTaken_consume s 81 src 0 (.pop q max)).chill

@[simp] theorem popTaken_queue (src q max : Nat) (s : State) (j : Nat) : (popTaken src q max s).queue j = s.queue j := by
  rw [State.queue, popTaken_tun]
  rfl

/-- A POP that the tundish answers at once, after what its checks have done. -/
theorem exec_pop_checked {s u t : State} {src q max tag : Nat} {ev : TunEv} {st : PopStatus} {ws : List QWord} (runs : s.tunRuns = true)
    (first : s.tagAtFront 81 src 0 tag (.pop q max) = true) (checked : tundishCheck q src ev (popTaken src q max s) = u)
    (goesOn : u.tun.stopped = false) (pops : tunPop src q max [] u = some (st, ws, t)) :
    exec (.pop src q max tag [] ev) s = .next (t.answer 81 src 0 tag (.popResp st ws)) := by
  unfold popTaken at checked
  refine (event_of (by rw [runs]; exact first) _ _).trans ?_
  simp only [checked, goesOn, pops, Bool.false_eq_true, if_false]

theorem exec_pop {s t : State} {src q max tag : Nat} {st : PopStatus} {ws : List QWord} (runs : s.tunRuns = true)
    (first : s.tagAtFront 81 src 0 tag (.pop q max) = true) (pops : tunPop src q max [] (popTaken src q max s) = some (st, ws, t)) :
    exec (.pop src q max tag [] .clean) s = .next (t.answer 81 src 0 tag (.popResp st ws)) :=
  exec_pop_checked runs first rfl (by rw [tundishCheck, popTaken_tun]; exact tunRuns_up runs) pops

theorem tundishAnswers_answer (t : State) (dest tag : Nat) (b : Body) : TundishAnswers (t.answer 81 dest 0 tag b) dest tag b :=
  List.getLast?_concat

/-! ### Words popped (R201, R239) -/

/-- A queue without a middle whose next `n` words have been taken: the cells used up are gone (R201). -/
def Queue.popping (x : Queue) (n : Nat) : Queue :=
  { x with count := x.count - n, front := x.front.drop ((x.headOfs + n) / 8), headOfs := (x.headOfs + n) % 8 }

theorem takeWords_still {q : Nat} (n : Nat) {s : State} (still : (s.queue q).moving = none) :
    takeWords q n s = freeCells (((s.queue q).front.take (((s.queue q).headOfs + n) / 8)).map (·.idx)) (s.modQueue q (·.popping n)) := by
  unfold takeWords
  dsimp only
  rw [still]
  rfl

/-- Words of which none is poisoned are answered as they stand, and taken; their credits accrue (R226). -/
theorem tunPop_takes {src q max : Nat} {s : State} (active : (s.queue q).st = .active) (consumer : (s.queue q).consumer = src)
    (whole : (s.queue q).mid = []) (asks : 0 < max) (some : 0 < (s.queue q).count) (clean : ∀ w ∈ (s.queue q).stored, w.p = false) :
    let n := min max (s.queue q).count
    tunPop src q max [] s = Option.some (.ok, (s.queue q).headWords n,
      settleQueue q (s.queue q).count (accrueCredits q n (takeWords q n s))) := by
  have avail : (s.queue q).avail = (s.queue q).count := by rw [Queue.avail, whole]; rfl
  have none : ((s.queue q).headWords (min max (s.queue q).count)).filter (·.p) = [] := by
    rw [List.filter_eq_nil_iff]
    intro w mem
    rw [clean w (List.mem_of_mem_drop (List.mem_of_mem_take mem))]
    decide
  have words (ws : List QWord) : markBad [] ws = ws := markWords_none ws
  unfold tunPop
  dsimp only
  rw [if_neg (by simp [active]), if_neg (by simp [consumer]), if_neg (by omega), avail, if_neg (by omega), words, none]
  rfl

theorem pop_takes (s : State) (src q max tag : Nat) (runs : s.tunRuns = true) (first : s.tagAtFront 81 src 0 tag (.pop q max) = true)
    (active : (s.queue q).st = .active) (consumer : (s.queue q).consumer = src) (shallow : (s.queue q).deep = false) (whole : (s.queue q).mid = [])
    (still : (s.queue q).moving = none) (asks : 0 < max) (some : 0 < (s.queue q).count) (clean : ∀ w ∈ (s.queue q).stored, w.p = false) :
    Answers (.pop src q max tag [] .clean) s (fun t =>
      let x := s.queue q
      let n := min max x.count
      (t.queue q).count = x.count - n ∧ (t.queue q).headOfs = (x.headOfs + n) % 8 ∧ (t.queue q).front = x.front.drop ((x.headOfs + n) / 8) ∧
      TundishAnswers t src tag (.popResp .ok ((x.stored.drop x.headOfs).take n)) ∧ (∀ j, j ≠ q → t.queue j = s.queue j) ∧ TundishOnly s t) := by
  have only := popTaken_only src q max s
  have queues := popTaken_queue src q max s
  have run := exec_pop (t := settleQueue q ((popTaken src q max s).queue q).count _) runs first
    (tunPop_takes (by rwa [queues]) (by rwa [queues]) (by rwa [queues]) asks (by rwa [queues]) (by rwa [queues]))
  refine ⟨_, run, ?_⟩
  generalize popTaken src q max s = u at only queues
  have q' := queues q
  rw [← q'] at shallow still ⊢
  dsimp only
  generalize min max (u.queue q).count = n
  have own : (takeWords q n u).queue q = (u.queue q).popping n := by rw [takeWords_still n still, freeCells_queue, State.modQueue_same]
  have others (j : Nat) (other : j ≠ q) : (takeWords q n u).queue j = u.queue j := by
    rw [takeWords_still n still, freeCells_queue, u.modQueue_ne _ other]
  have taken : TundishOnly u (takeWords q n u) := by
    rw [takeWords_still n still]
    exact ⟨rfl, rfl⟩
  generalize takeWords q n u = v at own others taken
  have accrued := creditsSent_accrueCredits q n v
  have sent := accrued.trans (creditsSent_settleQueue (u.queue q).count (.inr
    ((accrued.keeps (·.deep) fun _ _ _ _ => rfl).trans (by rw [own]; exact shallow))))
  generalize settleQueue q (u.queue q).count (accrueCredits q n v) = t at sent
  refine ⟨?_, ?_, ?_, tundishAnswers_answer .., fun j other => ?_, ((only.trans taken).trans sent.only).trans (.answer ..)⟩
  · rw [answer_queue, sent.keeps (·.count) fun _ _ _ _ => rfl, own]
    rfl
  · rw [answer_queue, sent.keeps (·.headOfs) fun _ _ _ _ => rfl, own]
    rfl
  · rw [answer_queue, sent.keeps (·.front) fun _ _ _ _ => rfl, own]
    rfl
  · rw [answer_queue, sent.others j other, others j other, queues]

/-! ### POPs that bring no word -/

/-- What a POP is answered that takes no word: an ACTIVE queue that is empty, or one that is not ACTIVE, answers its consumer and whoever asks. -/
theorem tunPop_empty {src q max : Nat} {s : State} (active : (s.queue q).st = .active) (consumer : (s.queue q).consumer = src)
    (none : (s.queue q).count = 0) : tunPop src q max [] s = if (s.queue q).deep
      then some (.idle, [{ d := (s.queue q).idleWord, l := (s.queue q).idleL, i := true, p := false }], s) else some (.empty, [], s) := by
  unfold tunPop
  dsimp only
  rw [if_neg (by simp [active]), if_neg (by simp [consumer]), if_pos none]

theorem tunPop_inactive {src q max : Nat} {s : State} (inactive : (s.queue q).st ≠ .active) : tunPop src q max [] s = some (.empty, [], s) := if_pos inactive

theorem tunPop_refused {src q max : Nat} {s : State} (active : (s.queue q).st = .active) (other : (s.queue q).consumer ≠ src) :
    tunPop src q max [] s = some (.refused, [], s.modTun (fun t => { t with protoRefused := t.protoRefused + 1 })) := by
  unfold tunPop
  dsimp only
  rw [if_neg (by simp [active]), if_pos other]

/-- A POP that leaves every register of the tundish but the cycle's. -/
theorem pop_brings_none {s : State} {src q max tag : Nat} {st : PopStatus} {ws : List QWord} (runs : s.tunRuns = true)
    (first : s.tagAtFront 81 src 0 tag (.pop q max) = true) (pops : tunPop src q max [] (popTaken src q max s) = some (st, ws, popTaken src q max s)) :
    Answers (.pop src q max tag [] .clean) s (fun t =>
      t.tun = { s.tun with cycle := t.tun.cycle } ∧ TundishOnly s t ∧ TundishAnswers t src tag (.popResp st ws)) :=
  ⟨_, exec_pop runs first pops, popTaken_tun src q max s, (popTaken_only ..).trans (.answer ..), tundishAnswers_answer ..⟩

theorem pop_empty (s : State) (src q max tag : Nat) (runs : s.tunRuns = true) (first : s.tagAtFront 81 src 0 tag (.pop q max) = true)
    (active : (s.queue q).st = .active) (consumer : (s.queue q).consumer = src) (none : (s.queue q).count = 0) :
    Answers (.pop src q max tag [] .clean) s (fun t => t.tun = { s.tun with cycle := t.tun.cycle } ∧ TundishOnly s t ∧
      TundishAnswers t src tag (if (s.queue q).deep
        then .popResp .idle [{ d := (s.queue q).idleWord, l := (s.queue q).idleL, i := true, p := false }] else .popResp .empty [])) := by
  have queue := popTaken_queue src q max s q
  have pops := tunPop_empty (src := src) (max := max) (s := popTaken src q max s) (by rwa [queue]) (by rwa [queue]) (by rwa [queue])
  rw [queue] at pops
  cases deep : (s.queue q).deep with
  | true => exact pop_brings_none runs first (pops.trans (if_pos deep))
  | false => exact pop_brings_none runs first (pops.trans (if_neg (by simp [deep])))

theorem pop_refused (s : State) (src q max tag : Nat) (runs : s.tunRuns = true) (first : s.tagAtFront 81 src 0 tag (.pop q max) = true)
    (active : (s.queue q).st = .active) (other : (s.queue q).consumer ≠ src) : Answers (.pop src q max tag [] .clean) s (fun t =>
      t.tun = { s.tun with protoRefused := s.tun.protoRefused + 1, cycle := t.tun.cycle } ∧ TundishOnly s t ∧
        TundishAnswers t src tag (.popResp .refused [])) := by
  have queue := popTaken_queue src q max s q
  refine ⟨_, exec_pop runs first (tunPop_refused (by rwa [queue]) (by rwa [queue])), ?_, ((popTaken_only ..).trans (.modTun ..)).trans (.answer ..),
    tundishAnswers_answer ..⟩
  have tun := popTaken_tun src q max s
  generalize popTaken src q max s = u at tun
  show { u.tun with protoRefused := u.tun.protoRefused + 1 } = { s.tun with protoRefused := s.tun.protoRefused + 1, cycle := u.tun.cycle }
  rw [tun]

/-- Settles O18: words, an empty queue, one that is not ACTIVE, and another initiator. -/
theorem popAnswersHeadWords : Obligations.PopAnswersHeadWords := by
  unfold Obligations.PopAnswersHeadWords
  intro s src q max tag runs first
  exact ⟨pop_takes s src q max tag runs first, pop_empty s src q max tag runs first,
    fun inactive => pop_brings_none runs first (tunPop_inactive (by rwa [popTaken_queue])), pop_refused s src q max tag runs first⟩

end Sys2Proof.Machine
end

section
/-! Proofs of 05_tundish_queues.md (R210, R215-R217, R225, R245): a queue enabled, disabled and flushed. -/

namespace Sys2Proof.Machine

/-! ### Blocks and their link entries (R792) -/

/-- Requests for deep memory have been made, answered or forgotten, and blocks taken or freed; nothing else has changed. -/
def BlocksMoved (s t : State) : Prop :=
  t = { s with tun := { s.tun with freeBlocks := t.tun.freeBlocks, nextBlock := t.tun.nextBlock }, net := t.net }

theorem BlocksMoved.refl (s : State) : BlocksMoved s s := rfl

theorem BlocksMoved.trans {s t u : State} (a : BlocksMoved s t) (b : BlocksMoved t u) : BlocksMoved s u := by
  unfold BlocksMoved at *
  rw [b, a]

theorem BlocksMoved.tun {s t : State} (a : BlocksMoved s t) :
    t.tun = { s.tun with freeBlocks := t.tun.freeBlocks, nextBlock := t.tun.nextBlock } := by rw [a]

theorem BlocksMoved.chill {s t : State} (a : BlocksMoved s t) : t.chill = s.chill := by rw [a]

theorem BlocksMoved.queue {s t : State} (a : BlocksMoved s t) (j : Nat) : t.queue j = s.queue j := by
  rw [State.queue, a.tun]
  rfl

theorem blocksMoved_foldl {α : Type} {step : State → α → State} (h : ∀ s a, BlocksMoved s (step s a)) :
    ∀ (l : List α) (s : State), BlocksMoved s (l.foldl step s)
  | [], s => .refl s
  | a :: l, s => (h s a).trans (blocksMoved_foldl h l _)

theorem blocksMoved_deepRequest (mark tc : Nat) (b : Body) (s : State) : BlocksMoved s (deepRequest mark tc b s) := rfl

theorem blocksMoved_dropDeep (mark : Nat) (s : State) : BlocksMoved s (dropDeep mark s) := rfl

theorem blocksMoved_freeBlock (s : State) (b : Nat) : BlocksMoved s (freeBlock s b) := rfl

theorem blocksMoved_dropMoves (q : Nat) (s : State) : BlocksMoved s (dropMoves q s) := by
  unfold dropMoves
  dsimp only
  split <;> split <;> rfl

/-! ### A flush (R245) -/

/-- A flushed queue. -/
def Queue.flushed (x : Queue) : Queue := { x.emptied with discard := true }

/-- The words of a flushed queue are slag. -/
theorem flushList_flushes (q : Nat) (s : State) : (flushList q s).queue q = (s.queue q).flushed ∧
    (∀ j, j ≠ q → (flushList q s).queue j = s.queue j) ∧
    (flushList q s).tun.slag = s.tun.slag + BitVec.ofNat 64 ((s.queue q).count + (s.queue q).opened) := by
  have freed := (blocksMoved_dropMoves q s).trans (blocksMoved_foldl blocksMoved_freeBlock (s.queue q).allBlocks _)
  have run : flushList q s = tellWatcher q (s.queue q).count ((addSlag ((s.queue q).count + (s.queue q).opened) (freeCells (s.queue q).allCells
    ((s.queue q).allBlocks.foldl freeBlock (dropMoves q s)))).modQueue q Queue.flushed) := rfl
  obtain ⟨w, tells⟩ := tellWatcher_sends q (s.queue q).count ((addSlag ((s.queue q).count + (s.queue q).opened) (freeCells (s.queue q).allCells
    ((s.queue q).allBlocks.foldl freeBlock (dropMoves q s)))).modQueue q Queue.flushed)
  refine ⟨?_, fun j other => ?_, ?_⟩
  · rw [run, tellWatcher_queue, State.modQueue_same, addSlag_queue, freeCells_queue, freed.queue]
  · rw [run, tellWatcher_queue, State.modQueue_ne _ _ other, addSlag_queue, freeCells_queue, freed.queue]
  · rw [run, tells]
    show ((s.queue q).allBlocks.foldl freeBlock (dropMoves q s)).tun.slag + _ = _
    rw [freed.tun]

/-! ### Commands of the agent on a queue -/

theorem Answered.tun {s t : State} : Answered s t → t.tun = s.tun := by rintro ⟨_, _, _, _, rfl⟩; rfl
theorem Answered.queue {s t : State} (a : Answered s t) (j : Nat) : t.queue j = s.queue j := queue_congr a.tun j
theorem Answered.settingOf {s t : State} : Answered s t → ∀ obj idx sub, t.settingOf obj idx sub = s.settingOf obj idx sub := by
  rintro ⟨_, _, _, _, rfl⟩ _ _ _; rfl
theorem Answered.enableRefused {s t : State} : Answered s t → ∀ x, enableRefused t x = enableRefused s x := by rintro ⟨_, _, _, _, rfl⟩ _; rfl

/-- The checks of the queue's words find nothing. -/
theorem queueChecked_clean (q : Nat) (act : State → Except Word State) (s : State) : queueChecked q .clean act s = act s := by
  unfold queueChecked
  split
  · rfl
  · next goesOn => exact if_neg goesOn

/-- An admitted command outside a transaction is applied to a machine that differs by the access alone, and so does its answer. -/
theorem rwtCommand_acts {s : State} {path obj idx sub level : Nat} {v : DWord} {bad : Option Word}
    {act : State → Except Word State} {g : State → State} (admitted : Admitted s path idx sub level) (apart : s.staging path = false) (good : bad = none)
    (acts : ∀ u, Answered s u → act u = .ok (g u)) :
    ∃ u, rwtCommand path obj idx sub level v bad act s = .next (accept path idx sub (g u)) ∧ Answered s u := by
  subst good
  exact ⟨_, rwtCommand_admitted admitted apart (acts _ (.touch path s)), .touch path s⟩

/-- A packet that waits at its source stays there while the agent answers (R627). -/
theorem accept_keeps_source {s : State} {f : Flight} (waits : f ∈ s.net.wire) (source : f.place = .source) (path idx sub : Nat) :
    f ∈ (accept path idx sub s).net.wire := by
  unfold accept
  split
  · exact waits
  · unfold netWack netReply
    split
    · exact waits
    · split
      · exact waits
      · next g front =>
        split
        · have arrived := List.find?_some front
          have apart : f ≠ g := by
            rintro rfl
            simp [flightArrived, source] at arrived
          obtain ⟨c, dropped⟩ := s.net.drop_changes g
          rw [dropped]
          exact List.mem_append_left _ ((List.mem_erase_of_ne apart).2 waits)
        · exact waits

/-! ### Enable -/

theorem queueEnable_enables {s : State} {q : Nat} {v : Word} (goesOn : s.tun.stopped = false) (off : (s.queue q).st = .disabled)
    (admits : enableRefused s (qcfgFields v (s.queue q)) = none) :
    queueEnable q v s = .ok (enableQueue q (qcfgFields v (s.queue q)) s) := by
  unfold queueEnable
  dsimp only
  rw [if_neg (by simp [goesOn]), off]
  dsimp only
  rw [admits]

theorem enableQueue_shallow {q : Nat} {x : Queue} (shallow : x.deep = false) (s : State) : (enableQueue q x s).queue q =
    { x with st := .active, limit := s.settingN 0x3200 0x10, onDie := (x.budget + 7) / 8 + 1, deepRes := 0, withheld := 0, accrued := 0, sweepHeld := 0,
             creditOut := x.budget, discard := false } := by
  have cells : wantsCells s x = (x.budget + 7) / 8 + 1 := by simp [wantsCells, shallow]
  have blocks : wantsBlocks x = 0 := by simp [wantsBlocks, shallow]
  unfold enableQueue
  rw [grantWithheld_shallow (by rw [State.modQueue_same]; exact shallow), State.modQueue_same, cells, blocks]
  simp [Queue.granted]

theorem queueEnable_activates (s : State) (path : Nat) (v : Word) (admitted : Admitted s path 0x3211 1 2) (apart : s.staging path = false)
    (goesOn : s.tun.stopped = false) :
    let w := v ||| 0x80000000#32
    let q := queueSelected s path
    let x := s.queue q
    qcfgBad w = none → x.st = .disabled → w.getLsbD 30 = false → enableRefused s (qcfgFields w x) = none → Answers (.queueEnable path v .clean) s (fun t =>
      (t.queue q).st = .active ∧ (t.queue q).producer = (w.extractLsb' 14 7).toNat ∧ (t.queue q).consumer = (w.extractLsb' 7 7).toNat ∧
      (t.queue q).creditOut = x.budget ∧ (t.queue q).onDie = (x.budget + 7) / 8 + 1 ∧ (∀ j, j ≠ q → t.queue j = s.queue j)) := by
  intro w q x good off shallow admits
  obtain ⟨u, run, before⟩ := rwtCommand_acts (obj := q) (v := w.setWidth 64) (act := queueChecked q .clean (queueEnable q w))
    (g := fun u => enableQueue q (qcfgFields w (u.queue q)) u) admitted apart good (fun u answered => by
      rw [queueChecked_clean, queueEnable_enables (by rwa [answered.tun]) (by rwa [answered.queue])
        (by rwa [answered.enableRefused, answered.queue])])
  rw [before.queue q] at run
  have after := Answered.accept path 0x3211 1 (enableQueue q (qcfgFields w (s.queue q)) u)
  refine ⟨_, run, ?_⟩
  have own := enableQueue_shallow (q := q) (x := qcfgFields w (s.queue q)) shallow u
  dsimp only
  rw [after.queue, own]
  refine ⟨rfl, rfl, rfl, rfl, rfl, fun j other => ?_⟩
  rw [after.queue, ← before.queue j]
  exact ((creditsSent_grantWithheld ..).others j other).trans (u.modQueue_ne _ other)

/-! ### Disable -/

theorem queueDisable_revokes {s : State} {q : Nat} {v : Word} (goesOn : s.tun.stopped = false) (active : (s.queue q).st = .active)
    (same : qcfgSame v (s.queue q) = true) :
    queueDisable q v s = .ok (revokeQueue q (flushList q (s.modQueue q (fun x => { x with idleL := v.getLsbD 29 })))) := by
  unfold queueDisable
  dsimp only
  rw [if_neg (by simp [goesOn]), active]
  exact need_ok same

/-- A queue whose credits are being withdrawn. -/
def Queue.revoked (x : Queue) : Queue := { x with st := .revoking, accrued := 0, withheld := 0, sweepHeld := 0 }

/-- REVOKE is on its way to the producer (R210). -/
theorem revokeQueue_revokes (q : Nat) (s : State) : (revokeQueue q s).queue q = (s.queue q).revoked ∧
    (∀ j, j ≠ q → (revokeQueue q s).queue j = s.queue j) ∧ (revokeQueue q s).tun.slag = s.tun.slag ∧
    sourceFlight 81 (mkPacket 81 (s.queue q).producer 0 0 (.revoke q)) ∈ (revokeQueue q s).net.wire := by
  have queues (j : Nat) : (revokeQueue q s).queue j = (s.modQueue q Queue.revoked).queue j := rfl
  exact ⟨(queues q).trans (s.modQueue_same ..), fun j other => (queues j).trans (s.modQueue_ne _ other), rfl,
    List.mem_append_right _ (List.mem_singleton.2 rfl)⟩

theorem queueDisable_flushes (s : State) (path : Nat) (v : Word) (admitted : Admitted s path 0x3211 1 2) (apart : s.staging path = false)
    (goesOn : s.tun.stopped = false) :
    let w := v &&& 0x7FFFFFFF#32
    let q := queueSelected s path
    let x := s.queue q
    qcfgBad w = none → x.st = .active → qcfgSame w x = true → Answers (.queueDisable path v .clean) s (fun t =>
      (t.queue q).st = .revoking ∧ (t.queue q).count = 0 ∧ (t.queue q).opened = 0 ∧ (t.queue q).stored = [] ∧
      t.tun.slag = s.tun.slag + BitVec.ofNat 64 (x.count + x.opened) ∧ (∀ j, j ≠ q → t.queue j = s.queue j) ∧
      sourceFlight 81 (mkPacket 81 x.producer 0 0 (.revoke q)) ∈ t.net.wire) := by
  intro w q x good active same
  obtain ⟨u, run, before⟩ := rwtCommand_acts (obj := q) (v := w.setWidth 64) (act := queueChecked q .clean (queueDisable q w))
    (g := fun u => revokeQueue q (flushList q (u.modQueue q (fun x => { x with idleL := w.getLsbD 29 })))) admitted apart good (fun u answered => by
      rw [queueChecked_clean, queueDisable_revokes (by rwa [answered.tun]) (by rwa [answered.queue]) (by rwa [answered.queue])])
  refine ⟨_, run, ?_⟩
  obtain ⟨own, others, slag⟩ := flushList_flushes q (u.modQueue q (fun x => { x with idleL := w.getLsbD 29 }))
  rw [State.modQueue_same, before.queue] at own slag
  obtain ⟨own', others', slag', sent⟩ := revokeQueue_revokes q (flushList q (u.modQueue q (fun x => { x with idleL := w.getLsbD 29 })))
  rw [own] at own' sent
  have kept := accept_keeps_source sent rfl path 0x3211 1
  have after := Answered.accept path 0x3211 1 (revokeQueue q (flushList q (u.modQueue q (fun x => { x with idleL := w.getLsbD 29 }))))
  rw [after.queue, own', after.tun, slag', slag, ← before.tun]
  refine ⟨rfl, rfl, rfl, rfl, rfl, fun j other => ?_, kept⟩
  rw [after.queue, others' j other, others j other, State.modQueue_ne _ _ other, before.queue]

/-! ### FLUSH -/

theorem flushQueue_returns {s : State} {q : Nat} (goesOn : s.tun.stopped = false) (active : (s.queue q).st = .active) :
    flushQueue q 1 s = .ok (returnCredits q ((s.queue q).count + (s.queue q).opened) (flushList q (beginTunCycle q (endTunCycle s)))) := by
  unfold flushQueue
  rw [need_ok (by simp [goesOn]), if_pos (by simp [active])]

theorem flush_empties (s : State) (path : Nat) (admitted : Admitted s path 0x3211 5 1) (goesOn : s.tun.stopped = false)
    (active : (s.queue (queueSelected s path)).st = .active) (shallow : (s.queue (queueSelected s path)).deep = false) :
    Answers (.flush path 1 .clean) s (fun t =>
      let q := queueSelected s path
      let x := s.queue q
      (t.queue q).count = 0 ∧ (t.queue q).opened = 0 ∧ (t.queue q).stored = [] ∧ (t.queue q).st = .active ∧ (t.queue q).discard = true ∧
      (t.queue q).creditOut = x.creditOut + x.withheld + x.count + x.opened ∧
      t.tun.slag = s.tun.slag + BitVec.ofNat 64 (x.count + x.opened) ∧ (∀ j, j ≠ q → t.queue j = s.queue j)) := by
  have before := Answered.touch path s
  refine ⟨_, dictCommand_admitted admitted (by
    rw [queueChecked_clean, flushQueue_returns (by rwa [before.tun]) (by rwa [before.queue])]), ?_⟩
  dsimp only
  generalize queueSelected s path = q at active shallow ⊢
  generalize touch path s = u at before
  rw [← before.queue q] at active shallow ⊢
  have begun (j : Nat) : (beginTunCycle q (endTunCycle u)).queue j = u.queue j := rfl
  obtain ⟨own, others, slag⟩ := flushList_flushes q (beginTunCycle q (endTunCycle u))
  rw [begun] at own slag
  have sent := creditsSent_returnCredits q ((u.queue q).count + (u.queue q).opened) (flushList q (beginTunCycle q (endTunCycle u)))
  have granted := returnCredits_shallow (q := q) ((u.queue q).count + (u.queue q).opened) (s := flushList q (beginTunCycle q (endTunCycle u)))
    (by rw [own]; exact shallow)
  rw [own] at granted
  have after := Answered.accept path 0x3211 5 (returnCredits q ((u.queue q).count + (u.queue q).opened) (flushList q (beginTunCycle q (endTunCycle u))))
  rw [after.queue, granted, after.tun, sent.tun]
  refine ⟨rfl, rfl, rfl, active, rfl, ?_, ?_, fun j other => ?_⟩
  · simp only [Queue.granted, Queue.flushed, Queue.emptied]
    omega
  · rw [← before.tun]
    exact slag
  · rw [after.queue, sent.others j other, others j other, begun, before.queue]

/-- Settles O20: the three commands, each applied between the access and its answer. -/
theorem queueEnableDisableFlush : Obligations.QueueEnableDisableFlush := by
  unfold Obligations.QueueEnableDisableFlush
  exact ⟨queueEnable_activates, queueDisable_flushes, flush_empties⟩

end Sys2Proof.Machine
end

section
/-! Proofs of 05_tundish_queues.md (R204, R208, R209, R249-R253, R265, R266, R792): the moves of deep queues and the resets and sweeps of the tundish. -/

namespace Sys2Proof.Machine

/-! ### Moves that begin (R204) -/

/-- A spill or a refill of queue `q` has begun, if any: of the queue what is in flight alone has changed. -/
structure MovesBegun (q : Nat) (s t : State) : Prop where
  machine : t = { s with
    tun := { s.tun with queues := t.tun.queues, freeBlocks := t.tun.freeBlocks, nextBlock := t.tun.nextBlock }, net := t.net }
  others : ∀ j, j ≠ q → t.queue j = s.queue j
  own : t.queue q = { s.queue q with moving := (t.queue q).moving, refilling := (t.queue q).refilling }

namespace MovesBegun
variable {q : Nat} {s t u : State}

theorem trans (a : MovesBegun q s t) (b : MovesBegun q t u) : MovesBegun q s u where
  machine := by rw [b.machine, a.machine]
  others j other := (b.others j other).trans (a.others j other)
  own := by rw [b.own, a.own]

theorem of_blocks (a : BlocksMoved s t) : MovesBegun q s t where
  machine := by rw [a]
  others j _ := a.queue j
  own := by rw [a.queue]

theorem modQueue (s : State) {g : Queue → Queue} (moves : ∀ x : Queue, g x = { x with moving := (g x).moving, refilling := (g x).refilling }) :
    MovesBegun q s (s.modQueue q g) where
  machine := rfl
  others _ other := s.modQueue_ne g other
  own := by rw [State.modQueue_same]; exact moves _

theorem keeps {α : Type} (a : MovesBegun q s t) (f : Queue → α) (apart : ∀ (x : Queue) (m : Option (Nat × List Nat)) (r : Bool),
    f { x with moving := m, refilling := r } = f x) : f (t.queue q) = f (s.queue q) := by
  rw [a.own]
  exact apart ..

end MovesBegun

theorem blocksMoved_allocBlock (s : State) : BlocksMoved s (allocBlock s).2 := by
  unfold allocBlock
  split <;> rfl

theorem movesBegun_startSpill (q : Nat) (x : Queue) (s : State) : MovesBegun q s (startSpill q x s) := by
  have begun : MovesBegun q s ((allocBlock s).2.modQueue q (fun y => { y with moving := some ((allocBlock s).1, y.spillCells.map (·.idx)) })) :=
    (MovesBegun.of_blocks (blocksMoved_allocBlock s)).trans (.modQueue _ fun _ => rfl)
  unfold startSpill
  exact begun.trans (.of_blocks ((blocksMoved_foldl (fun _ _ => blocksMoved_deepRequest ..) _ _).trans (blocksMoved_deepRequest ..)))

theorem movesBegun_startRefill (q b : Nat) (s : State) : MovesBegun q s (startRefill q b s) := by
  have begun : MovesBegun q s (s.modQueue q (fun x => { x with refilling := true })) := .modQueue s fun _ => rfl
  unfold startRefill
  exact begun.trans (.of_blocks ((blocksMoved_foldl (fun _ _ => blocksMoved_deepRequest ..) _ _).trans (blocksMoved_deepRequest ..)))

theorem movesBegun_deepMoves (q : Nat) (s : State) : MovesBegun q s (deepMoves q s) := by
  have none (s : State) : MovesBegun q s s := .of_blocks (.refl s)
  unfold deepMoves
  dsimp only
  split
  · exact none s
  · have spilled : MovesBegun q s (if ((s.queue q).limit - 24 < (s.queue q).onDieCells && (s.queue q).moving.isNone && (s.queue q).canSpill) = true
        then startSpill q (s.queue q) s else s) := by
      split
      · exact movesBegun_startSpill ..
      · exact none s
    split
    · split
      · exact spilled.trans (movesBegun_startRefill ..)
      · exact spilled
    · exact spilled

/-- Moves begin and credits withheld are granted: the end of every command that a deep queue has a part in. -/
theorem moveAndGrant_keeps {α : Type} (q : Nat) (s : State) (f : Queue → α) (credits : ∀ (x : Queue) (out held due : Nat),
    f { x with creditOut := out, withheld := held, accrued := due } = f x) (moves : ∀ (x : Queue) (m : Option (Nat × List Nat)) (r : Bool),
    f { x with moving := m, refilling := r } = f x) : f ((grantWithheld q (deepMoves q s)).queue q) = f (s.queue q) :=
  ((creditsSent_grantWithheld ..).keeps f credits).trans ((movesBegun_deepMoves q s).keeps f moves)

/-! ### A spill is answered -/

/-- A write of a spill was answered OK. -/
def writeGood (a : Option Body) : Bool :=
  match a with
  | some (.wack .ok _) => true
  | _ => false

theorem writeGood_iff (a : Option Body) : writeGood a = true ↔ ∃ c ∈ [false, true], a = some (.wack .ok c) := by
  constructor
  · intro good
    unfold writeGood at good
    split at good
    · next c => exact ⟨c, by simp, rfl⟩
    · cases good
  · rintro ⟨c, -, rfl⟩
    rfl

theorem spillGood_iff (s : State) (q : Nat) : SpillGood s q ↔ (List.range 5).all (fun k => writeGood (deepAnswer s (deepSpillMark q + k))) = true := by
  simp only [SpillGood, List.all_eq_true, writeGood_iff]

theorem exec_deepSpillAnswer {s : State} {q b : Nat} {cs : List Nat} (runs : s.tunRuns = true) (moving : (s.queue q).moving = some (b, cs))
    (answered : deepAnswered s (deepSpillMark q) = true) : exec (.deepSpillAnswer q .clean) s = .next (grantWithheld q (deepMoves q
      (if (List.range 5).all (fun k => writeGood (deepAnswer s (deepSpillMark q + k))) then linkBlock q b cs (dropDeep (deepSpillMark q) s)
        else abandonMove q s))) := by
  have effect : exec (.deepSpillAnswer q .clean) s = event (s.tunRuns && deepAnswered s (deepSpillMark q)) s
      (if s.tun.stopped || (s.queue q).moving.isNone then s else grantWithheld q (deepMoves q
        (if (List.range 5).all (fun k => writeGood (deepAnswer s (deepSpillMark q + k))) then linkBlock q b cs (dropDeep (deepSpillMark q) s)
          else abandonMove q s))) := by
    show execDeepSpillAnswer q .clean s = _
    unfold execDeepSpillAnswer
    rw [moving]
    dsimp only [tundishCheck]
    rw [moving]
    rfl
  rw [effect, event_of (by rw [runs, answered]; rfl), if_neg (by simp [tunRuns_up runs, moving])]

theorem abandonMove_frees {s : State} {q b : Nat} {cs : List Nat} (moving : (s.queue q).moving = some (b, cs)) :
    (abandonMove q s).queue q = { s.queue q with moving := none } ∧ (abandonMove q s).tun.freeBlocks = b :: s.tun.freeBlocks := by
  have run : abandonMove q s = (freeBlock (dropDeep (deepSpillMark q) s) b).modQueue q (fun x => { x with moving := none }) := by
    unfold abandonMove
    rw [moving]
  rw [run, State.modQueue_same]
  exact ⟨rfl, rfl⟩

theorem deepSpillAnswer_abandons (s : State) (q b : Nat) (cs : List Nat) (runs : s.tunRuns = true) (moving : (s.queue q).moving = some (b, cs))
    (answered : deepAnswered s (deepSpillMark q) = true) (bad : ¬ SpillGood s q) : Answers (.deepSpillAnswer q .clean) s (fun t =>
      (t.queue q).front = (s.queue q).front ∧ (t.queue q).mid = (s.queue q).mid ∧ (t.queue q).count = (s.queue q).count ∧
      ((s.queue q).st ≠ .active → (t.queue q).moving = none ∧ t.tun.freeBlocks = b :: s.tun.freeBlocks)) := by
  refine ⟨_, exec_deepSpillAnswer runs moving answered, ?_⟩
  rw [spillGood_iff] at bad
  rw [if_neg bad]
  obtain ⟨own, blocks⟩ := abandonMove_frees moving
  generalize abandonMove q s = u at own blocks
  refine ⟨?_, ?_, ?_, fun inactive => ?_⟩
  · rw [moveAndGrant_keeps q u (·.front) (fun _ _ _ _ => rfl) fun _ _ _ => rfl, own]
  · rw [moveAndGrant_keeps q u (·.mid) (fun _ _ _ _ => rfl) fun _ _ _ => rfl, own]
  · rw [moveAndGrant_keeps q u (·.count) (fun _ _ _ _ => rfl) fun _ _ _ => rfl, own]
  · rw [deepMoves_inactive (by rw [own]; exact inactive)]
    have sent := creditsSent_grantWithheld q u
    exact ⟨(sent.keeps (·.moving) fun _ _ _ _ => rfl).trans (by rw [own]), by rw [sent.tun]; exact blocks⟩

theorem blocksMoved_linkBehind (q b : Nat) (s : State) : BlocksMoved s (linkBehind q b s) := by
  unfold linkBehind
  split <;> rfl

/-- A block joins a middle that holds one already; the first of a middle divides the front besides. -/
theorem linkBlock_links {s : State} {q b : Nat} {cs : List Nat} (some : (s.queue q).mid ≠ []) : (linkBlock q b cs s).queue q =
    { s.queue q with moving := none, mid := (s.queue q).mid ++ [b], back := (s.queue q).back.filter (fun c => !cs.contains c.idx) } := by
  rw [linkBlock, freeCells_queue, State.modQueue_same, (blocksMoved_linkBehind q b s).queue, if_neg (by simpa [List.isEmpty_iff] using some)]

theorem deepSpillAnswer_links (s : State) (q b : Nat) (cs : List Nat) (runs : s.tunRuns = true) (moving : (s.queue q).moving = some (b, cs))
    (answered : deepAnswered s (deepSpillMark q) = true) (good : SpillGood s q) (some : (s.queue q).mid ≠ []) :
    Answers (.deepSpillAnswer q .clean) s (fun t => (t.queue q).mid = (s.queue q).mid ++ [b] ∧
      (t.queue q).back = (s.queue q).back.filter (fun c => !cs.contains c.idx) ∧ (t.queue q).front = (s.queue q).front ∧
      (t.queue q).count = (s.queue q).count) := by
  refine ⟨_, exec_deepSpillAnswer runs moving answered, ?_⟩
  rw [spillGood_iff] at good
  rw [if_pos good]
  have own : (linkBlock q b cs (dropDeep (deepSpillMark q) s)).queue q = _ := linkBlock_links (s := dropDeep (deepSpillMark q) s) some
  rw [(blocksMoved_dropDeep (deepSpillMark q) s).queue] at own
  generalize linkBlock q b cs (dropDeep (deepSpillMark q) s) = u at own
  refine ⟨?_, ?_, ?_, ?_⟩
  · rw [moveAndGrant_keeps q u (·.mid) (fun _ _ _ _ => rfl) fun _ _ _ => rfl, own]
  · rw [moveAndGrant_keeps q u (·.back) (fun _ _ _ _ => rfl) fun _ _ _ => rfl, own]
  · rw [moveAndGrant_keeps q u (·.front) (fun _ _ _ _ => rfl) fun _ _ _ => rfl, own]
  · rw [moveAndGrant_keeps q u (·.count) (fun _ _ _ _ => rfl) fun _ _ _ => rfl, own]

/-! ### A refill is answered -/

theorem deepWords_length (s : State) (mark n : Nat) : (deepWords s mark n).length = n := by
  unfold deepWords
  split <;> simp

theorem blockWords_length (s : State) (q : Nat) : (blockWords s q).length = 64 := by
  simp [blockWords, List.length_flatMap, deepWords_length]

/-- New cells hold the words in order (R208). -/
theorem fillCells_holds (q gen : Nat) : ∀ (n : Nat) (ws : List QWord) (s : State), CellsTaken q s (fillCells gen n ws s).2 ∧
    (∀ j, (fillCells gen n ws s).2.queue j = s.queue j) ∧ (fillCells gen n ws s).1.flatMap (·.words) = ws.take (8 * n)
  | 0, ws, s => ⟨.refl q s, fun _ => rfl, by simp [fillCells]⟩
  | n + 1, ws, s => by
    obtain ⟨taken, queues⟩ := allocCell_takes q s
    obtain ⟨taken', queues', words⟩ := fillCells_holds q gen n (ws.drop 8) (allocCell s).2
    refine ⟨taken.trans taken', fun j => (queues' j).trans (queues j), ?_⟩
    show ws.take 8 ++ (fillCells gen n (ws.drop 8) (allocCell s).2).1.flatMap (·.words) = _
    rw [words, show 8 * (n + 1) = 8 + 8 * n by omega, List.take_add]

/-- A refilled queue: the words of its oldest block stand behind its front, and with the last block its back joins them. -/
theorem refillFront_fills (q b : Nat) (rest : List Nat) (s : State) : ∃ cs : List PoolCell, cs.flatMap (·.words) = blockWords s q ∧
    (refillFront q b rest s).queue q = if rest.isEmpty
      then { s.queue q with refilling := false, mid := [], front := (s.queue q).front ++ cs ++ (s.queue q).back, back := [] }
      else { s.queue q with
        refilling := false, mid := nextBlockOf (deepWords s (deepRefillMark q + 4) 8) :: rest.drop 1, front := (s.queue q).front ++ cs } := by
  obtain ⟨-, queues, words⟩ := fillCells_holds q (s.queue q).gen 8 (blockWords s q) s
  refine ⟨_, words.trans (List.take_of_length_le (by rw [blockWords_length])), ?_⟩
  unfold refillFront
  dsimp only
  rw [State.modQueue_same, (blocksMoved_freeBlock ..).queue, (blocksMoved_dropDeep ..).queue, queues]

theorem exec_deepRefillAnswer {s : State} {q b : Nat} {rest : List Nat} (runs : s.tunRuns = true) (middle : (s.queue q).mid = b :: rest)
    (refilling : (s.queue q).refilling = true) (answered : deepAnswered s (deepRefillMark q) = true) :
    exec (.deepRefillAnswer q .clean) s = .next (if !linkGood q (s.queue q) (deepWords s (deepRefillMark q + 4) 8) then queueReset q 0x3302 0 s
      else grantWithheld q (deepMoves q (refillFront q b rest s))) := by
  have effect : exec (.deepRefillAnswer q .clean) s = event (s.tunRuns && (s.queue q).refilling && deepAnswered s (deepRefillMark q)) s
      (if s.tun.stopped || !(s.queue q).refilling then s
       else if !linkGood q (s.queue q) (deepWords s (deepRefillMark q + 4) 8) then queueReset q 0x3302 0 s
       else grantWithheld q (deepMoves q (refillFront q b rest s))) := by
    show execDeepRefillAnswer q .clean s = _
    unfold execDeepRefillAnswer
    rw [middle]
    rfl
  rw [effect, event_of (by rw [runs, answered, refilling]; rfl), if_neg (by simp [tunRuns_up runs, refilling])]

theorem deepRefillAnswer_refills (s : State) (q b : Nat) (rest : List Nat) (runs : s.tunRuns = true) (middle : (s.queue q).mid = b :: rest)
    (refilling : (s.queue q).refilling = true) (answered : deepAnswered s (deepRefillMark q) = true)
    (good : linkGood q (s.queue q) (deepWords s (deepRefillMark q + 4) 8) = true) : Answers (.deepRefillAnswer q .clean) s (fun t =>
      (t.queue q).count = (s.queue q).count ∧
      (rest ≠ [] → (t.queue q).mid = nextBlockOf (deepWords s (deepRefillMark q + 4) 8) :: rest.drop 1 ∧
        (t.queue q).stored = (s.queue q).stored ++ blockWords s q) ∧
      (rest = [] → (t.queue q).mid = [] ∧ (t.queue q).stored = (s.queue q).stored ++ blockWords s q ++ (s.queue q).back.flatMap (·.words))) := by
  refine ⟨_, exec_deepRefillAnswer runs middle refilling answered, ?_⟩
  rw [if_neg (by simp [good])]
  obtain ⟨cs, words, own⟩ := refillFront_fills q b rest s
  generalize refillFront q b rest s = u at own
  rw [moveAndGrant_keeps q u (·.count) (fun _ _ _ _ => rfl) fun _ _ _ => rfl, moveAndGrant_keeps q u (·.mid) (fun _ _ _ _ => rfl) fun _ _ _ => rfl,
    moveAndGrant_keeps q u (·.stored) (fun _ _ _ _ => rfl) fun _ _ _ => rfl, own]
  cases rest with
  | nil => exact ⟨rfl, fun some => absurd rfl some, fun _ => ⟨rfl, by simp [Queue.stored, words]⟩⟩
  | cons c rest => exact ⟨rfl, fun _ => ⟨rfl, by simp [Queue.stored, words]⟩, fun none => nomatch none⟩

end Sys2Proof.Machine
end

section
/-! Proofs of 05_tundish_queues.md (R209, R226, R229, R244, R249-R253, R265, R266): resets of queues, the stop of the tundish, sweeps, and the messages
and commands of deep queues. -/

namespace Sys2Proof.Machine

/-! ### Reports of a reset (R28, R265) -/

theorem reports_report (e : ErrRep) (s : State) : Reports s (report e s) e.code e.kind e.oid := by
  intro room
  have entered : (report e s).chill.intake.Perm (e :: s.chill.intake) := by
    unfold report
    dsimp only
    rw [if_pos room]
    exact enterIntake_perm _ _
  simp [reportsOf, entered.countP_eq]

theorem reports_reportRecovering (e : ErrRep) (s : State) : Reports s (reportRecovering e s) e.code e.kind e.oid :=
  reports_report { e with recovery := s.chill.recoveries + 1 } s

/-- A reset that goes on to a sweep is that of a pointer mismatch. -/
theorem resetRecovers_code {code q : Nat} {held : Bool} {s : State} (recovers : resetRecovers code q held s = true) : resetCode code q s = code := by
  simp only [resetRecovers, resetCode, Bool.and_eq_true, decide_eq_true_eq] at recovers ⊢
  split at recovers
  · exact absurd recovers.1 (by decide)
  · next apart => rw [if_neg apart]

@[simp] theorem reportReset_tun (code q src : Nat) (held : Bool) (s : State) : (reportReset code q src held s).tun = s.tun := by
  unfold reportReset
  split
  · exact reportRecovering_tun ..
  · exact reportQueue_tun ..

theorem reports_reportReset (code q src : Nat) (held : Bool) (s : State) :
    Reports s (reportReset code q src held s) (resetCode code q s) 4 q := by
  unfold reportReset
  split
  · next recovers =>
    rw [resetRecovers_code recovers]
    exact reports_reportRecovering { code := code, kind := 4, oid := q, aux := BitVec.ofNat 32 src, detail := 0 } s
  · exact reports_reportQueue (resetCode code q s) q src s

/-- What a reset queue's code is hangs on its recoveries alone. -/
theorem resetCode_congr {s t : State} (same : t.chill = s.chill) (code q : Nat) : resetCode code q t = resetCode code q s := by
  rw [resetCode, State.recovering, same]
  rfl

/-! ### A queue reset (R250, R251) -/

/-- An ACTIVE queue after a reset: SUSPENDED where sixteen of its generations await sweeps. -/
def Queue.afterReset (full : Bool) (x : Queue) : Queue :=
  { x.emptied with gen := (x.gen + 1) % 16, resets := x.resets + 1, discard := true, st := if full then .suspended else .active }

theorem enterSweep_enters (r : Reclaim) (s : State) :
    ∃ a b n, enterSweep r s = s.modTun (fun t => { t with sweeping := a, waiting := b, sweepAt := n }) := by
  unfold enterSweep State.modTun
  dsimp only
  split
  · exact ⟨_, s.tun.waiting, _, rfl⟩
  · exact ⟨s.tun.sweeping, _, s.tun.sweepAt, rfl⟩

/-- The queue is empty and of the next generation, its cells wait for a sweep, and its words are slag; nothing has been reported yet. -/
def beginReset (code q : Nat) (s : State) : State :=
  let x := s.queue q
  let held := !x.allCells.isEmpty || !x.allBlocks.isEmpty
  (enterSweep { q := q, cells := x.allCells, blocks := x.allBlocks, credits := x.count + x.opened, recovers := resetRecovers code q held s }
    ((addSlag (x.count + x.opened) (dropMoves q s)).modTun (fun t => { t with queueResets := t.queueResets + 1 }))).modQueue q
      (Queue.afterReset (decide (15 ≤ x.resets)))

theorem beginReset_resets (code q : Nat) (s : State) : (beginReset code q s).queue q = (s.queue q).afterReset (decide (15 ≤ (s.queue q).resets)) ∧
    (beginReset code q s).tun.queueResets = s.tun.queueResets + 1 ∧
    (beginReset code q s).tun.slag = s.tun.slag + BitVec.ofNat 64 ((s.queue q).count + (s.queue q).opened) ∧
    (beginReset code q s).tun.stopped = s.tun.stopped ∧ (beginReset code q s).chill = s.chill := by
  have dropped := blocksMoved_dropMoves q s
  unfold beginReset
  dsimp only
  obtain ⟨a, b, n, enters⟩ := enterSweep_enters
    { q := q, cells := (s.queue q).allCells, blocks := (s.queue q).allBlocks, credits := (s.queue q).count + (s.queue q).opened,
      recovers := resetRecovers code q (!(s.queue q).allCells.isEmpty || !(s.queue q).allBlocks.isEmpty) s }
    ((addSlag ((s.queue q).count + (s.queue q).opened) (dropMoves q s)).modTun (fun t => { t with queueResets := t.queueResets + 1 }))
  rw [enters]
  generalize dropMoves q s = u at dropped ⊢
  refine ⟨?_, ?_, ?_, ?_, dropped.chill⟩
  · rw [State.modQueue_same]
    exact congrArg (Queue.afterReset _) (dropped.queue q)
  · show u.tun.queueResets + 1 = _
    rw [dropped.tun]
  · show u.tun.slag + _ = _
    rw [dropped.tun]
  · show u.tun.stopped = _
    rw [dropped.tun]

theorem queueReset_active {code q src : Nat} {s : State} (active : (s.queue q).st = .active) : queueReset q code src s =
    let u := reportReset code q src (!(s.queue q).allCells.isEmpty || !(s.queue q).allBlocks.isEmpty) (beginReset code q s)
    tellWatcher q (s.queue q).count (if decide (15 ≤ (s.queue q).resets) then reportQueue 0x3306 q src u else u) := if_neg (by simp [active])

/-- A reset of an ACTIVE queue changes its registers and reports its code. -/
theorem queueReset_resets {code q src : Nat} {s : State} (active : (s.queue q).st = .active) :
    (queueReset q code src s).tun = (beginReset code q s).tun ∧ Reports s (queueReset q code src s) (resetCode code q s) 4 q := by
  obtain ⟨-, -, -, -, chill⟩ := beginReset_resets code q s
  rw [queueReset_active active]
  generalize (!(s.queue q).allCells.isEmpty || !(s.queue q).allBlocks.isEmpty) = held
  have tun := reportReset_tun code q src held (beginReset code q s)
  have reported := (reports_reportReset code q src held (beginReset code q s)).of_chill chill
  rw [resetCode_congr chill] at reported
  generalize reportReset code q src held (beginReset code q s) = u at tun reported ⊢
  have logged : (if decide (15 ≤ (s.queue q).resets) then reportQueue 0x3306 q src u else u).tun = u.tun ∧
      Reports s (if decide (15 ≤ (s.queue q).resets) then reportQueue 0x3306 q src u else u) (resetCode code q s) 4 q := by
    split
    · exact ⟨reportQueue_tun .., reported.mono (reportsOf_le_report ..)⟩
    · exact ⟨rfl, reported⟩
  dsimp only
  generalize (if decide (15 ≤ (s.queue q).resets) then reportQueue 0x3306 q src u else u) = v at logged
  obtain ⟨w, tells⟩ := tellWatcher_sends q (s.queue q).count v
  rw [tells]
  exact ⟨logged.1.trans tun, logged.2⟩

/-- A reset empties its queue, whatever its state, and its code is reported. -/
theorem queueReset_empties (q code src : Nat) (s : State) (other : code ≠ 0x2301) : ((queueReset q code src s).queue q).count = 0 ∧
    ((queueReset q code src s).queue q).mid = [] ∧ Reports s (queueReset q code src s) code 4 q := by
  by_cases active : (s.queue q).st = .active
  · obtain ⟨tun, reported⟩ := queueReset_resets (code := code) (src := src) active
    have same : resetCode code q s = code := if_neg (by simp [other])
    rw [same] at reported
    rw [queue_congr tun, (beginReset_resets code q s).1]
    exact ⟨rfl, rfl, reported⟩
  · have run : queueReset q code src s = (reportQueue code q src s).modQueue q Queue.emptied := if_pos active
    rw [run, State.modQueue_same]
    exact ⟨rfl, rfl, reports_reportQueue code q src s⟩

theorem deepRefillAnswer_resets (s : State) (q b : Nat) (rest : List Nat) (runs : s.tunRuns = true) (middle : (s.queue q).mid = b :: rest)
    (refilling : (s.queue q).refilling = true) (answered : deepAnswered s (deepRefillMark q) = true)
    (bad : linkGood q (s.queue q) (deepWords s (deepRefillMark q + 4) 8) = false) : Answers (.deepRefillAnswer q .clean) s (fun t =>
      (t.queue q).count = 0 ∧ (t.queue q).mid = [] ∧ Reports s t 0x3302 4 q) := by
  refine ⟨_, exec_deepRefillAnswer runs middle refilling answered, ?_⟩
  rw [if_pos (by simp [bad])]
  exact queueReset_empties q 0x3302 0 s (by decide)

/-- A POP of an empty shallow queue takes no word, whoever asks. -/
theorem tunPop_none {src q : Nat} (max : Nat) {s : State} (active : (s.queue q).st = .active) (shallow : (s.queue q).deep = false)
    (none : (s.queue q).count = 0) : ∃ st ws t, tunPop src q max [] s = some (st, ws, t) ∧
      t.queue q = s.queue q ∧ t.tun.queueResets = s.tun.queueResets ∧ t.tun.slag = s.tun.slag ∧ t.chill = s.chill := by
  by_cases consumer : (s.queue q).consumer = src
  · exact ⟨_, _, _, (tunPop_empty active consumer none).trans (if_neg (by simp [shallow])), rfl, rfl, rfl, rfl⟩
  · exact ⟨_, _, _, tunPop_refused active consumer, rfl, rfl, rfl, rfl⟩

/-- The POP whose check resets the queue finds it empty (R249, R250). -/
theorem pop_resets (s : State) (src q max tag : Nat) (runs : s.tunRuns = true) (active : (s.queue q).st = .active) (few : (s.queue q).resets < 15)
    (shallow : (s.queue q).deep = false) (recovered : s.recovering 4 q = false) (first : s.tagAtFront 81 src 0 tag (.pop q max) = true) :
    Answers (.pop src q max tag [] .pointers) s (fun t =>
      (t.queue q).count = 0 ∧ (t.queue q).opened = 0 ∧ (t.queue q).front = [] ∧ (t.queue q).gen = ((s.queue q).gen + 1) % 16 ∧
      (t.queue q).resets = (s.queue q).resets + 1 ∧ t.tun.queueResets = s.tun.queueResets + 1 ∧
      t.tun.slag = s.tun.slag + BitVec.ofNat 64 ((s.queue q).count + (s.queue q).opened) ∧ Reports s t 0x2301 4 q) := by
  have queues := popTaken_queue src q max s
  have tun := popTaken_tun src q max s
  have chill := popTaken_chill src q max s
  have checked : tundishCheck q src .pointers (popTaken src q max s) = queueReset q 0x2301 src (popTaken src q max s) := rfl
  obtain ⟨reset, reported⟩ := queueReset_resets (code := 0x2301) (q := q) (src := src) (s := popTaken src q max s) (by rwa [queues])
  obtain ⟨own, resets, slag, goesOn, -⟩ := beginReset_resets 0x2301 q (popTaken src q max s)
  have code : resetCode 0x2301 q (popTaken src q max s) = 0x2301 := (resetCode_congr chill ..).trans (if_neg (by simp [recovered]))
  rw [← queue_congr reset q, queues, decide_eq_false (by omega)] at own
  rw [← reset, tun] at resets slag goesOn
  rw [queues] at slag
  rw [code] at reported
  generalize queueReset q 0x2301 src (popTaken src q max s) = u at checked reported own resets slag goesOn
  obtain ⟨st, ws, t, pops, queue', resets', slag', chill'⟩ := tunPop_none (src := src) (q := q) max (s := u)
    (by rw [own]; rfl) (by rw [own]; exact shallow) (by rw [own]; rfl)
  refine ⟨_, exec_pop_checked runs first checked (goesOn.trans (tunRuns_up runs)) pops, ?_⟩
  dsimp only
  rw [answer_queue, queue', own]
  exact ⟨rfl, rfl, rfl, rfl, rfl, resets'.trans resets, slag'.trans slag,
    (reported.of_chill chill).mono (Nat.le_of_eq (reportsOf_congr chill'.symm ..))⟩

/-! ### The tundish stops (R266) -/

theorem tundishStop_stops (q src : Nat) (s : State) : (tundishStop q src s).tun = { s.tun with stopped := true } ∧
    Reports s (tundishStop q src s) 0x4301 4 q := by
  have reported := reports_reportQueue 0x4301 q src (s.modTun (fun t => { t with stopped := true }))
  have tun := reportQueue_tun 0x4301 q src (s.modTun (fun t => { t with stopped := true }))
  have closes : OnlyNet _ (tundishStop q src s) := onlyNet_closePort 10 10 (reportQueue 0x4301 q src (s.modTun (fun t => { t with stopped := true })))
  generalize reportQueue 0x4301 q src (s.modTun (fun t => { t with stopped := true })) = u at reported tun closes
  rw [closes]
  exact ⟨tun, reported⟩

theorem push_stops (s : State) (src q : Nat) (sop : Bool) (ws : List QWord) (runs : s.tunRuns = true) (first : PushFirst s src q sop ws) :
    Answers (.push src q sop ws 0 [] .fatal false) s (fun t =>
      t.tun = { s.tun with stopped := true } ∧ Reports s t 0x4301 4 q ∧ t.tunRuns = false) := by
  have packet := packetTaken_consume s 81 src 0 (.push q sop ws)
  obtain ⟨tun, reported⟩ := tundishStop_stops q src (s.consume 81 src 0 (.push q sop ws))
  have run : exec (.push src q sop ws 0 [] .fatal false) s = .next (tundishStop q src (s.consume 81 src 0 (.push q sop ws))) := by
    refine (event_of (by rw [runs]; exact first) _ _).trans ?_
    simp only [List.filter_nil, List.length_nil, dataChecks_none, tundishCheck, tun, if_true]
  rw [packet.tun] at tun
  exact ⟨_, run, tun, reported.of_chill packet.chill, by simp [State.tunRuns, tun]⟩

/-! ### The deep region (R209) -/

@[simp] theorem State.putSettingOf_same (s : State) (obj idx sub : Nat) (v : DWord) : (s.putSettingOf obj idx sub v).settingOf obj idx sub = v :=
  Tab.get_set_same ..

/-- Every block is FREE, and for a value that is not 0 the link table is initialised anew. -/
def resizeDeep (v : Word) (s : State) : State :=
  (s.putSetting 0x3200 9 (v.setWidth 64)).modTun (fun t =>
    let swept (r : Reclaim) : Reclaim := { r with blocks := [] }
    { t with deepInit := v ≠ 0, deepReady := false, initAt := 0, freeBlocks := [], nextBlock := 0
             sweeping := t.sweeping.map swept, waiting := t.waiting.map swept })

theorem deepBlocksWrite_initialises (s : State) (path : Nat) (v : Word) (admitted : Admitted s path 0x3200 9 2) (apart : s.staging path = false)
    (fits : v.toNat ≤ 268435455) (none : deepEnabled s = 0) : Answers (.deepBlocksWrite path v) s (fun t =>
      t.settingN 0x3200 9 = v.toNat ∧ t.tun.deepInit = decide (v ≠ 0) ∧ t.tun.deepReady = false ∧ t.tun.queues = s.tun.queues) := by
  obtain ⟨u, run, before⟩ := rwtCommand_acts (obj := 0) (v := v.setWidth 64) (bad := deepBlocksBad v) (act := deepBlocksApply v) (g := resizeDeep v)
    admitted apart (if_neg (by omega)) (fun u answered => need_ok (by rw [deepEnabled, answered.tun]; exact decide_eq_true none))
  have after := Answered.accept path 0x3200 9 (resizeDeep v u)
  have stored : (resizeDeep v u).settingOf 0 0x3200 9 = v.setWidth 64 := u.putSettingOf_same 0 0x3200 9 _
  refine ⟨_, run, ?_⟩
  dsimp only
  rw [State.settingN, State.setting, after.settingOf, stored, after.tun]
  refine ⟨?_, rfl, rfl, (congrArg Tundish.queues before.tun :)⟩
  rw [BitVec.toNat_setWidth]
  omega

theorem deepInitComplete_readies (s : State) (runs : s.tunRuns = true) (under : s.tun.deepInit = true) (asked : linkPairs s ≤ s.tun.initAt)
    (answered : deepDone s initMark = true) : Answers .deepInitComplete s (fun t =>
      t = { s with tun := { s.tun with deepInit := false, deepReady := true } }) :=
  ⟨_, event_of (by simp [runs, under, asked, answered]) _ _, rfl⟩

/-! ### CR_WAIT, a REVOKE_ACK and a WATCH_SET -/

theorem crWaitExpiry_sends (s : State) (q : Nat) (runs : s.tunRuns = true) (some : 0 < (s.queue q).accrued) (shallow : (s.queue q).deep = false) :
    Answers (.crWaitExpiry q) s (fun t =>
      (t.queue q).accrued = 0 ∧ (t.queue q).withheld = 0 ∧ (t.queue q).creditOut = (s.queue q).creditOut + (s.queue q).withheld + (s.queue q).accrued ∧
      (∀ j, j ≠ q → t.queue j = s.queue j) ∧ TundishOnly s t) := by
  refine ⟨_, event_of (by simp [runs, some]) _ _, ?_⟩
  have sent := creditsSent_sendAccrued q s
  have own : (sendAccrued q s).queue q = _ := returnCredits_shallow (q := q) (s.queue q).accrued (s := s.modQueue q (fun x => { x with accrued := 0 }))
    (by rw [State.modQueue_same]; exact shallow)
  rw [State.modQueue_same] at own
  dsimp only
  rw [own]
  exact ⟨rfl, rfl, (Nat.add_assoc ..).symm, sent.others, sent.only⟩

/-- A reservation that is released, or held for cells that await a sweep (R210, R217). -/
theorem releaseQueue_releases (q : Nat) (s : State) :
    (∃ a b, (releaseQueue q s).queue q = { s.queue q with onDie := 0, deepRes := 0, oldOnDie := a, oldDeep := b }) ∧
    (∀ j, j ≠ q → (releaseQueue q s).queue j = s.queue j) ∧ TundishOnly s (releaseQueue q s) := by
  unfold releaseQueue
  dsimp only
  split
  · exact ⟨⟨_, _, s.modQueue_same ..⟩, fun _ other => s.modQueue_ne _ other, .modQueue ..⟩
  · exact ⟨⟨_, _, State.modQueue_same ..⟩, fun _ other => State.modQueue_ne _ _ other, (TundishOnly.modTun ..).trans (.modQueue ..)⟩

theorem revokeAck_disables (s : State) (src q n : Nat) (runs : s.tunRuns = true) (revoking : (s.queue q).st = .revoking)
    (producer : (s.queue q).producer = src) (first : s.atFront 81 src 0 (.revokeAck q n) = true) : Answers (.revokeAck src q n .clean) s (fun t =>
      (t.queue q).st = .disabled ∧ (t.queue q).creditOut = 0 ∧ (t.queue q).onDie = 0 ∧ (t.queue q).stored = (s.queue q).stored ∧
      (∀ j, j ≠ q → t.queue j = s.queue j) ∧ TundishOnly s t) := by
  have packet := packetTaken_consume s 81 src 0 (.revokeAck q n)
  have run : exec (.revokeAck src q n .clean) s = .next ((releaseQueue q (s.consume 81 src 0 (.revokeAck q n))).modQueue q (fun x =>
      { x with st := .disabled, creditOut := 0, withheld := 0, accrued := 0, sweepHeld := 0 })) := by
    refine (event_of (by rw [runs]; exact first) _ _).trans ?_
    simp [tundishCheck, tunRuns_up runs, revoking, producer]
  refine ⟨_, run, ?_⟩
  obtain ⟨⟨a, b, own⟩, others, only⟩ := releaseQueue_releases q (s.consume 81 src 0 (.revokeAck q n))
  rw [State.modQueue_same, own, packet.queue]
  exact ⟨rfl, rfl, rfl, rfl, fun j other => (State.modQueue_ne _ _ other).trans ((others j other).trans (packet.queue j)),
    (packet.only.trans only).trans (.modQueue ..)⟩

theorem watchSet_registers (s : State) (src q i : Nat) (en : Bool) (runs : s.tunRuns = true) (consumer : (s.queue q).consumer = src)
    (free : ∀ g ∈ (s.queue q).watcher, g.1 = src) (first : s.atFront 81 src 0 (.watchSet q i en) = true) :
    Answers (.watchSet src q i en) s (fun t => (t.queue q).watcher = (if en then some (src, i) else none) ∧ (t.queue q).count = (s.queue q).count ∧
      TundishAnswers t src 0 (.watchState q i (decide ((s.queue q).count ≠ 0))) ∧ TundishOnly s t) := by
  have packet := packetTaken_consume s 81 src 0 (.watchSet q i en)
  have run : exec (.watchSet src q i en) s = .next (((s.consume 81 src 0 (.watchSet q i en)).modQueue q (fun x =>
      { x with watcher := if en then some (src, i) else none })).answer 81 src 0 0 (.watchState q i (decide ((s.queue q).count ≠ 0)))) := by
    refine (event_of (by rw [runs]; exact first) _ _).trans ?_
    cases watcher : (s.queue q).watcher with
    | none => simp [consumer]
    | some g => simp [consumer, free g (by rw [watcher]; rfl)]
  refine ⟨_, run, ?_⟩
  dsimp only
  rw [answer_queue, State.modQueue_same, packet.queue]
  exact ⟨rfl, rfl, tundishAnswers_answer .., (packet.only.trans (.modQueue ..)).trans (.answer ..)⟩

/-! ### Sweeps (R252, R253) -/

/-- The queue of a reset that is swept, apart from its credits. -/
def Queue.swept (r : Reclaim) (x : Queue) : Queue :=
  { x with resets := x.resets - 1, st := if x.st = .suspended then .active else x.st, sweepHeld := 0
           oldOnDie := x.oldOnDie - r.onDie, oldDeep := x.oldDeep - r.deepRes }

/-- What a sweep frees of one reset before it returns the credits. -/
def sweepReset (r : Reclaim) (s : State) : State :=
  (freeCells r.cells (r.blocks.foldl freeBlock s)).modQueue r.q (Queue.swept r)

theorem reclaimOne_tun (s : State) (r : Reclaim) :
    (reclaimOne s r).tun = (returnCredits r.q (r.credits + (s.queue r.q).sweepHeld) (sweepReset r s)).tun := by
  have freed := blocksMoved_foldl blocksMoved_freeBlock r.blocks s
  rw [← freed.queue]
  unfold reclaimOne
  dsimp only
  split
  · exact recoveryEnds_tun ..
  · rfl

/-- What a sweep frees of one reset, and what it leaves of its queue. -/
theorem reclaimOne_reclaims (s : State) (r : Reclaim) : (reclaimOne s r).tun.waiting = s.tun.waiting ∧
    (reclaimOne s r).tun.freeCells = r.cells ++ s.tun.freeCells ∧ ((reclaimOne s r).queue r.q).resets = (s.queue r.q).resets - 1 ∧
    ((reclaimOne s r).queue r.q).sweepHeld = 0 ∧ ((s.queue r.q).st = .suspended → ((reclaimOne s r).queue r.q).st = .active) := by
  have freed := blocksMoved_foldl blocksMoved_freeBlock r.blocks s
  have tun := reclaimOne_tun s r
  have returned := creditsSent_returnCredits r.q (r.credits + (s.queue r.q).sweepHeld) (sweepReset r s)
  have own : (sweepReset r s).queue r.q = Queue.swept r (s.queue r.q) := by
    rw [sweepReset, State.modQueue_same, freeCells_queue, freed.queue]
  have waiting : (sweepReset r s).tun.waiting = s.tun.waiting := (congrArg Tundish.waiting freed.tun :)
  have free : (sweepReset r s).tun.freeCells = r.cells ++ s.tun.freeCells := (congrArg (fun x => r.cells ++ x.freeCells) freed.tun :)
  rw [queue_congr tun, tun, returned.keeps Queue.resets (fun _ _ _ _ => rfl), returned.keeps Queue.sweepHeld (fun _ _ _ _ => rfl),
    returned.keeps Queue.st (fun _ _ _ _ => rfl), own, returned.tun]
  exact ⟨waiting, free, rfl, rfl, fun suspended => if_pos suspended⟩

theorem reclaimAll_waiting : ∀ (l : List Reclaim) (s : State), (l.foldl reclaimOne s).tun.waiting = s.tun.waiting
  | [], _ => rfl
  | r :: l, s => (reclaimAll_waiting l _).trans (reclaimOne_reclaims s r).1

theorem tundishSweepComplete_sweeps (s : State) (q : Nat) (runs : s.tunRuns = true) (some : s.tun.sweeping ≠ []) (read : linkPairs s ≤ s.tun.sweepAt)
    (answered : deepDone s sweepMark = true) : Answers (.tundishSweepComplete q .clean) s (fun t =>
      t.tun.sweeping = s.tun.waiting ∧ t.tun.waiting = [] ∧
      (∀ r, s.tun.sweeping = [r] → (t.queue r.q).resets = (s.queue r.q).resets - 1 ∧ (t.queue r.q).sweepHeld = 0 ∧
        ((s.queue r.q).st = .suspended → (t.queue r.q).st = .active) ∧ (r.blocks = [] → t.tun.freeCells = r.cells ++ s.tun.freeCells))) := by
  have run : exec (.tundishSweepComplete q .clean) s = .next ((s.tun.sweeping.foldl reclaimOne s).modTun (fun t =>
      { t with sweeping := t.waiting, waiting := [], sweepAt := 0 })) := by
    refine (event_of (by simp [runs, some, read, answered]) _ _).trans ?_
    simp [tundishCheck, tunRuns_up runs]
  refine ⟨_, run, reclaimAll_waiting .., rfl, fun r single => ?_⟩
  obtain ⟨-, free, resets, held, active⟩ := reclaimOne_reclaims s r
  rw [single]
  exact ⟨resets, held, active, fun _ => free⟩

/-- Settles O19: each move of a deep queue, and each of the tundish's own events, has its lemma above. -/
theorem deepQueuesCreditsAndSweeps : Obligations.DeepQueuesCreditsAndSweeps :=
  ⟨⟨fun s q b cs runs moving answered =>
      ⟨deepSpillAnswer_abandons s q b cs runs moving answered, deepSpillAnswer_links s q b cs runs moving answered⟩,
    fun s q b rest runs middle refilling answered =>
      ⟨deepRefillAnswer_refills s q b rest runs middle refilling answered, deepRefillAnswer_resets s q b rest runs middle refilling answered⟩,
    deepBlocksWrite_initialises, deepInitComplete_readies⟩,
   crWaitExpiry_sends, revokeAck_disables, watchSet_registers, pop_resets, push_stops, tundishSweepComplete_sweeps⟩

end Sys2Proof.Machine
end

section
/-! Proofs of 05_tundish_queues.md and 15_host_interfaces.md (R222, R259, R708-R713): the endpoint's requests and their answers, and the DMA engines.
What an answer of the network and a word of an engine change is said once. -/

namespace Sys2Proof.Machine

/-! ### Requests of the endpoint and their answers (R393, R707) -/

theorem hostRequest_asks (who dest tc : Nat) (b : Body) (s : State) :
    GateAsked s (hostRequest who dest tc b s) 88 { mkPacket 88 dest 0 tc b with who := who } :=
  ⟨by rw [hostRequest, State.modGate_same], fun _ other => State.modGate_ne _ _ _ _ other⟩

/-- An answer has been taken from the network: what waits at the gates, and the machine outside the network, are as they were. -/
structure AnswerTaken (s t : State) : Prop where
  only : OnlyNet s t
  waiting : ∀ j, (t.gate j).waiting = (s.gate j).waiting

namespace AnswerTaken
variable {s t : State}

theorem dma (a : AnswerTaken s t) (e : Nat) : t.dma e = s.dma e := by rw [a.only]; rfl
theorem dmaSq (a : AnswerTaken s t) (e : Nat) : dmaSq t e = dmaSq s e := by rw [a.only]; rfl
theorem out (a : AnswerTaken s t) : t.out = s.out := by rw [a.only]
theorem pcie (a : AnswerTaken s t) : t.pcie = s.pcie := by rw [a.only]

end AnswerTaken

/-- A change of a gate that leaves what waits at it. -/
theorem State.modGate_waiting (s : State) (i : Nat) {g : Gate → Gate} (kept : ∀ x, (g x).waiting = x.waiting) (j : Nat) :
    ((s.modGate i g).gate j).waiting = (s.gate j).waiting := by
  by_cases same : j = i
  · rw [same, State.modGate_same, kept]
  · rw [State.modGate_ne _ _ _ _ same]

theorem dropFlight_gate (s : State) (f : Flight) (j : Nat) : (s.dropFlight f).gate j = s.gate j := by
  obtain ⟨c, dropped⟩ := s.net.drop_changes f
  rw [State.dropFlight, dropped]
  rfl

theorem countLatency_waiting (i lat : Nat) (s : State) (j : Nat) : ((countLatency i lat s).gate j).waiting = (s.gate j).waiting := by
  unfold countLatency
  apply State.modGate_waiting
  exact fun _ => rfl

/-- The answer to a POP of the endpoint reaches what sent it. -/
theorem gateAnswer_answers {s : State} {pkt : Packet} {who : Nat} {st : PopStatus} {ws : List QWord} (lat : Nat)
    (answered : HostAnswered s pkt who (.popResp st ws)) :
    ∃ u, exec (.gateAnswer 88 pkt 0 [] lat) s = .next (hostAnswer who (.popResp st ws) u) ∧ AnswerTaken s u := by
  obtain ⟨on, -, first, body, asked⟩ := answered
  obtain ⟨o, found, rfl⟩ := Option.map_eq_some_iff.1 asked
  unfold State.packetAt at first
  rw [body] at first
  split at first
  · next f front =>
    have run : exec (.gateAnswer 88 pkt 0 [] lat) s = .next (hostAnswer o.who (.popResp st ws)
        (countLatency 88 lat ((s.dropFlight f).modGate 88 (fun g => { g with outstanding := g.outstanding.erase o })))) := by
      have front : s.net.front 88 pkt.src pkt.oclass 1 = some f := front
      have same : poisonBody [] (.popResp st ws) = .popResp st ws := by rw [poisonBody, markWords_none]
      simp only [exec, execGateAnswer, front, found, body, List.filter_nil, List.length_nil, dataChecks_none, same]
      exact event_of (by simpa [on, isAnswer] using first) _ _
    refine ⟨_, run, rfl, fun j => ?_⟩
    rw [countLatency_waiting, State.modGate_waiting _ _ (g := fun g => { g with outstanding := g.outstanding.erase o }) fun _ => rfl, dropFlight_gate]
  · cases first

/-! ### Engines -/

@[simp] theorem State.modDma_same (s : State) (e : Nat) (g : Dma → Dma) : (s.modDma e g).dma e = g (s.dma e) := Tab.get_modify_same ..

theorem State.modDma_ne (s : State) {e i : Nat} (g : Dma → Dma) (other : i ≠ e) : (s.modDma e g).dma i = s.dma i :=
  Tab.get_modify_ne _ _ _ _ _ other

/-- The answer to a POP of engine `e` reaches it. -/
theorem gateAnswer_dma {s : State} {pkt : Packet} {e : Nat} {st : PopStatus} {ws : List QWord} (lat : Nat) (engine : e < 64)
    (answered : HostAnswered s pkt (1 + e) (.popResp st ws)) :
    ∃ u, exec (.gateAnswer 88 pkt 0 [] lat) s = .next (dmaPopAnswer e st ws u) ∧ AnswerTaken s u := by
  obtain ⟨u, run, taken⟩ := gateAnswer_answers lat answered
  have reaches : hostAnswer (1 + e) (.popResp st ws) u = dmaPopAnswer e st ws u := by
    rw [hostAnswer, if_neg (show ¬1 + e = 101 by omega), if_pos (by simp; omega), Nat.add_sub_cancel_left]
  exact ⟨u, reaches ▸ run, taken⟩

/-! ### EN of DMA_CFG (R708, R713) -/

theorem Answered.dma {s t : State} : Answered s t → ∀ e, t.dma e = s.dma e := by rintro ⟨_, _, _, _, rfl⟩ _; rfl
theorem Answered.dmaSq {s t : State} (a : Answered s t) (e : Nat) : dmaSq t e = dmaSq s e := by rw [Machine.dmaSq, a.settingOf]; rfl
theorem Answered.dmaCq {s t : State} (a : Answered s t) (e : Nat) : dmaCq t e = dmaCq s e := by rw [Machine.dmaCq, a.settingOf]; rfl

/-- Engine `e` enabled on submission queue `q`. -/
def engineEnabled (e q : Nat) (s : State) : State :=
  (s.putSettingOf e 0x2610 1 (BitVec.ofNat 64 q)).modDma e (fun d => { d with en := true })

theorem engineEnabled_queues {e q : Nat} (s : State) (fits : q < 2 ^ 18) :
    dmaSq (engineEnabled e q s) e = q ∧ dmaCq (engineEnabled e q s) e = dmaCq s e := by
  have sq : (engineEnabled e q s).settingOf e 0x2610 1 = BitVec.ofNat 64 q := s.putSettingOf_same ..
  have cq : (engineEnabled e q s).settingOf e 0x2610 2 = s.settingOf e 0x2610 2 :=
    Tab.get_set_ne _ _ _ _ _ (by unfold entryKey; omega)
  rw [dmaSq, dmaCq, sq, cq, BitVec.toNat_ofNat]
  exact ⟨by omega, rfl⟩

theorem dmaEnable_enables (s : State) (path q : Nat) (admitted : Admitted s path 0x2610 1 2) (apart : s.staging path = false) (fits : q < 2 ^ 18)
    (off : (s.dma (dmaSelected s path)).en = false) (consumer : (s.queue q).consumer = 88)
    (producer : (s.queue (dmaCq s (dmaSelected s path))).producer = 88) : Answers (.dmaEnable path q) s (fun t =>
      t.dma (dmaSelected s path) = { s.dma (dmaSelected s path) with en := true } ∧ dmaSq t (dmaSelected s path) = q ∧
      dmaCq t (dmaSelected s path) = dmaCq s (dmaSelected s path) ∧ (∀ i, i ≠ dmaSelected s path → t.dma i = s.dma i)) := by
  generalize selected : dmaSelected s path = e at off producer
  have en : (0x80000000#32 + BitVec.ofNat 32 (q % 2 ^ 18)).getLsbD 31 = true := by
    rw [← BitVec.msb_eq_getLsbD_last, BitVec.msb_eq_decide]
    simp
    omega
  have named : (0x80000000#32 + BitVec.ofNat 32 (q % 2 ^ 18)).toNat % 2 ^ 18 = q := by
    rw [BitVec.toNat_add, BitVec.toNat_ofNat, BitVec.toNat_ofNat]
    omega
  obtain ⟨u, run, before⟩ := rwtCommand_acts (obj := e) (v := (0x80000000#32 + BitVec.ofNat 32 (q % 2 ^ 18)).setWidth 64) (bad := none)
    (act := dmaApply e 1 (0x80000000#32 + BitVec.ofNat 32 (q % 2 ^ 18))) (g := engineEnabled e q) admitted apart rfl (fun u answered => by
      rw [dmaApply, if_pos rfl, if_pos en, named, dmaEnable, if_neg (by rw [answered.dma, off]; decide)]
      exact need_ok (by simp [dmaBound, answered.queue, answered.dmaCq, consumer, producer]))
  have after := Answered.accept path 0x2610 1 (engineEnabled e q u)
  obtain ⟨sq, cq⟩ := engineEnabled_queues (e := e) u fits
  have others (i : Nat) (other : i ≠ e) : (engineEnabled e q u).dma i = u.dma i := State.modDma_ne _ _ other
  have own : (engineEnabled e q u).dma e = { u.dma e with en := true } := State.modDma_same ..
  refine ⟨_, (congrArg (fun e => dmaCommand path e 1 _ s) selected).trans run, ?_⟩
  dsimp only
  rw [after.dma, after.dmaSq, after.dmaCq, own, sq, cq, before.dma, before.dmaCq]
  exact ⟨rfl, rfl, rfl, fun i other => by rw [after.dma, others i other, before.dma]⟩

/-- An engine with EN written 0: a descriptor in progress ends ABORTED. -/
def Dma.stopped (d : Dma) : Dma :=
  { d with en := false, finished := d.finished || d.desc.isSome, status := if d.desc.isSome then .aborted else d.status }

theorem dmaStop_dma {e : Nat} {s : State} (on : (s.dma e).en = true) :
    (dmaStop e s).dma e = (s.dma e).stopped ∧ (∀ i, i ≠ e → (dmaStop e s).dma i = s.dma i) := by
  unfold dmaStop
  dsimp only
  rw [on]
  exact ⟨State.modDma_same (g := Dma.stopped) .., fun i other => State.modDma_ne (g := Dma.stopped) _ other⟩

theorem dmaDisable_aborts (s : State) (path q : Nat) (admitted : Admitted s path 0x2610 1 2) (apart : s.staging path = false) (fits : q < 2 ^ 18)
    (on : (s.dma (dmaSelected s path)).en = true) (same : dmaSq s (dmaSelected s path) = q) : Answers (.dmaDisable path q) s (fun t =>
      (t.dma (dmaSelected s path)).en = false ∧ (t.dma (dmaSelected s path)).desc = (s.dma (dmaSelected s path)).desc ∧
      (t.dma (dmaSelected s path)).moved = (s.dma (dmaSelected s path)).moved ∧
      ((s.dma (dmaSelected s path)).desc.isSome = true →
        (t.dma (dmaSelected s path)).finished = true ∧ (t.dma (dmaSelected s path)).status = .aborted) ∧
      (∀ i, i ≠ dmaSelected s path → t.dma i = s.dma i)) := by
  generalize selected : dmaSelected s path = e at on same
  have off : (BitVec.ofNat 32 (q % 2 ^ 18)).getLsbD 31 = false := by
    rw [← BitVec.msb_eq_getLsbD_last, BitVec.msb_eq_decide]
    simp
    omega
  have named : (BitVec.ofNat 32 (q % 2 ^ 18)).toNat % 2 ^ 18 = q := by
    rw [BitVec.toNat_ofNat]
    omega
  obtain ⟨u, run, before⟩ := rwtCommand_acts (obj := e) (v := (BitVec.ofNat 32 (q % 2 ^ 18)).setWidth 64) (bad := none)
    (act := dmaApply e 1 (BitVec.ofNat 32 (q % 2 ^ 18))) (g := dmaStop e) admitted apart rfl (fun u answered => by
      rw [dmaApply, if_pos rfl, if_neg (by rw [off]; decide), named, dmaDisable, if_pos (by rw [answered.dma, on])]
      exact need_ok (by simp [answered.dmaSq, same]))
  have after := Answered.accept path 0x2610 1 (dmaStop e u)
  obtain ⟨own, others⟩ := dmaStop_dma (e := e) (s := u) (by rw [before.dma, on])
  refine ⟨_, (congrArg (fun e => dmaCommand path e 1 _ s) selected).trans run, ?_⟩
  dsimp only
  rw [after.dma, own, before.dma]
  exact ⟨rfl, rfl, rfl, fun busy => by simp [Dma.stopped, busy], fun i other => by rw [after.dma, others i other, before.dma]⟩

/-! ### POPs of an engine (R222, R259, R710) -/

theorem dmaDescriptorPop_asks (s : State) (e : Nat) (idle : dmaIdle s e = true) : Answers (.dmaDescriptorPop e) s (fun t =>
    GateAsked s t 88 { mkPacket 88 81 0 1 (.pop (dmaSq s e) 1) with who := 1 + e } ∧ t = { s with net := t.net }) :=
  ⟨_, event_of idle _ _, hostRequest_asks .., rfl⟩

theorem dmaQ2hRepop_asks (s : State) (e : Nat) (x : DmaDesc) (up : s.hostOpen = true) (on : (s.dma e).en = true) (desc : (s.dma e).desc = some x)
    (op : x.op = .q2h) (runs : (s.dma e).finished = false) (quiet : dmaQuiet s e = true) : Answers (.dmaQ2hRepop e) s (fun t =>
      GateAsked s t 88 { mkPacket 88 81 0 1 (.pop (x.dev % 2 ^ 18) 1) with who := 1 + e } ∧ t = { s with net := t.net }) := by
  have run : exec (.dmaQ2hRepop e) s = .next (dmaPop e (x.dev % 2 ^ 18) s) := by
    simp only [exec, execDmaQ2hRepop, desc]
    exact event_of (by simp [up, on, runs, op, quiet]) _ _
  exact ⟨_, run, hostRequest_asks .., rfl⟩

theorem dmaWord_pops (s : State) (e lat : Nat) (pkt : Packet) (w : QWord) (engine : e < 64) (answered : HostAnswered s pkt (1 + e) (.popResp .ok [w]))
    (desc : (s.dma e).desc = none) (on : (s.dma e).en = true) (more : w.l = false) (few : (s.dma e).words.length < 9) :
    Answers (.gateAnswer 88 pkt 0 [] lat) s (fun t =>
      t.dma e = { s.dma e with words := (s.dma e).words ++ [(w.d, w.p)] } ∧
      (t.gate 88).waiting = (s.gate 88).waiting ++ [{ mkPacket 88 81 0 1 (.pop (dmaSq s e) 1) with who := 1 + e }] ∧ t.out = s.out ∧
      (∀ i, i ≠ e → t.dma i = s.dma i)) := by
  obtain ⟨u, run, taken⟩ := gateAnswer_dma lat engine answered
  rw [← taken.dma] at desc on few
  have pops : dmaPopAnswer e .ok [w] u = dmaPop e (dmaSq u e) (u.modDma e (fun d => { d with words := keepWords d.words w })) := by
    simp [dmaPopAnswer, desc, dmaWord, more, on]
    rfl
  rw [pops] at run
  refine ⟨_, run, ?_, ?_, taken.out, fun i other => (State.modDma_ne _ _ other).trans (taken.dma i)⟩
  · refine (State.modDma_same ..).trans ?_
    rw [keepWords, if_pos few, taken.dma]
  · refine (hostRequest_asks ..).1.trans ?_
    rw [← taken.waiting, taken.dmaSq]
    rfl

end Sys2Proof.Machine
end

section
/-! Proofs of 15_host_interfaces.md (R709-R713): what a DMA engine does with a descriptor, from its last word to its completion packet. -/

namespace Sys2Proof.Machine

/-! ### Data an engine moves (R712) -/

/-- An engine that has moved `n` bytes more, poisoned or not. -/
def Dma.took (n : Nat) (poisoned : Bool) (d : Dma) : Dma :=
  { d with moved := d.moved + n, status := if poisoned && d.status = .ok then .poison else d.status }

/-- The machine in which engine `e` has. -/
def engineTook (e n : Nat) (poisoned : Bool) (s : State) : State := dmaPoison e poisoned (s.modDma e (fun d => { d with moved := d.moved + n }))

@[simp] theorem engineTook_same (e n : Nat) (poisoned : Bool) (s : State) : (engineTook e n poisoned s).dma e = (s.dma e).took n poisoned := by
  rw [engineTook, dmaPoison, State.modDma_same, State.modDma_same]
  rfl

theorem engineTook_ne {e i : Nat} (n : Nat) (poisoned : Bool) (s : State) (other : i ≠ e) : (engineTook e n poisoned s).dma i = s.dma i :=
  (State.modDma_ne _ _ other).trans (State.modDma_ne _ _ other)

/-- An engine whose descriptor has ended with a status. -/
def Dma.ended (st : DmaStatus) (d : Dma) : Dma := { d with finished := true, status := if st = .ok then d.status else st }

@[simp] theorem dmaFinish_same (e : Nat) (st : DmaStatus) (s : State) : (dmaFinish e st s).dma e = (s.dma e).ended st := State.modDma_same ..

theorem dmaFinish_ne {e i : Nat} (st : DmaStatus) (s : State) (other : i ≠ e) : (dmaFinish e st s).dma i = s.dma i := State.modDma_ne _ _ other

theorem toHost_up {s : State} (up : s.pcie.linkUp = true) (o : Out) : s.toHost o = s.emit o := if_pos up

/-- An H2C descriptor asks the host for its next piece, or waits for answers only. -/
theorem dmaNext_h2c {e : Nat} {x : DmaDesc} {s : State} (op : x.op = .h2c) (runs : (s.dma e).finished = false) :
    dmaNext e x s = if x.len ≤ (s.dma e).moved then dmaFinish e .ok s else s.emit (.hostRead e (dmaHost (s.dma e) x) (dmaPiece (s.dma e) x)) := by
  rw [dmaNext, op, runs]
  rfl

theorem dmaNext_finished {e : Nat} {x : DmaDesc} {s : State} (ended : (s.dma e).finished = true) : dmaNext e x s = s := if_pos ended

/-! ### The last word of a descriptor (R709-R711) -/

/-- The descriptor of the words `w` of its packet. -/
def descOf (w : Nat → Word) : DmaDesc :=
  { op := .h2c, len := (w 1).toNat, host := (w 3).toNat * 2 ^ 32 + (w 2).toNat, dev := (w 5).toNat * 2 ^ 32 + (w 4).toNat
    vector := (w 6).toNat % 2048, irq := (w 6).getLsbD 31, cookie := w 7 }

/-- The eight words of a descriptor packet. -/
def descWords (w : Nat → Word) : List (Word × Bool) := (List.range 7).map (fun i => (w i, false)) ++ [(w 7, false)]

theorem word_append_toNat (a b : Word) : (a ++ b : DWord).toNat = a.toNat * 2 ^ 32 + b.toNat := by
  rw [BitVec.toNat_append, ← Nat.shiftLeft_add_eq_or_of_lt b.isLt, Nat.shiftLeft_eq]

theorem dmaDescOf_h2c {w : Nat → Word} (op : (w 0).toNat / 2 ^ 28 = 1) (fits : dmaLenFits (descOf w).len = true) :
    dmaDescOf (descWords w) = (descOf w, false) := by
  have kind : dmaOp ((w 0).toNat >>> 28) = some .h2c := by rw [Nat.shiftRight_eq_div_pow, op]; rfl
  have fits : dmaLenFits (w 1).toNat = true := fits
  simp [dmaDescOf, descWords, List.range_succ, kind, fits, word_append_toNat, descOf]

theorem dmaDescOf_reserved {w : Nat → Word} (op : (w 0).toNat / 2 ^ 28 = 0) : dmaDescOf (descWords w) = (descOf w, true) := by
  have kind : dmaOp ((w 0).toNat >>> 28) = none := by rw [Nat.shiftRight_eq_div_pow, op]; rfl
  simp [dmaDescOf, descWords, List.range_succ, kind, word_append_toNat, descOf]

/-- Engine `e` begins descriptor `x`, or ends it as MALFORMED. -/
def Dma.begun (x : DmaDesc) (malformed : Bool) (d : Dma) : Dma :=
  { d with words := [], desc := some x, moved := 0, finished := malformed || !d.en
           status := if malformed then .malformed else if d.en then .ok else .aborted }

/-- The last word of a descriptor packet has come. -/
theorem gateAnswer_begins (s : State) (e lat : Nat) (pkt : Packet) (w : Nat → Word) (i : Bool) (engine : e < 64)
    (answered : HostAnswered s pkt (1 + e) (.popResp .ok [{ d := w 7, l := true, i := i, p := false }])) (desc : (s.dma e).desc = none)
    (words : (s.dma e).words = (List.range 7).map (fun i => (w i, false))) {x : DmaDesc} {malformed : Bool}
    (reads : dmaDescOf (descWords w) = (x, malformed)) :
    ∃ u, exec (.gateAnswer 88 pkt 0 [] lat) s = .next (dmaNext e x u) ∧ u.dma e = (s.dma e).begun x malformed ∧ u.out = s.out := by
  obtain ⟨u, run, taken⟩ := gateAnswer_dma lat engine answered
  rw [← taken.dma] at desc words
  have kept : keepWords (u.dma e).words { d := w 7, l := true, i := i, p := false } = descWords w := by
    rw [words]
    rfl
  have starts : dmaPopAnswer e .ok [{ d := w 7, l := true, i := i, p := false }] u =
      dmaNext e x ((u.modDma e (fun d => { d with words := keepWords d.words { d := w 7, l := true, i := i, p := false } })).modDma e
        (Dma.begun x malformed)) := by
    simp only [dmaPopAnswer, desc, dmaWord, if_true, dmaStart, State.modDma_same, kept, reads]
    rfl
  refine ⟨_, run.trans (congrArg Host.Outcome.next starts), ?_, taken.out⟩
  rw [State.modDma_same, State.modDma_same, taken.dma]
  rfl

theorem gateAnswer_startsH2c (s : State) (e lat : Nat) (pkt : Packet) (w : Nat → Word) (i : Bool) (engine : e < 64)
    (answered : HostAnswered s pkt (1 + e) (.popResp .ok [{ d := w 7, l := true, i := i, p := false }])) (desc : (s.dma e).desc = none)
    (on : (s.dma e).en = true) (words : (s.dma e).words = (List.range 7).map (fun i => (w i, false))) (op : (w 0).toNat / 2 ^ 28 = 1)
    (whole : (descOf w).len % 4 = 0) (least : 4 ≤ (descOf w).len) (most : (descOf w).len ≤ 16777216) :
    Answers (.gateAnswer 88 pkt 0 [] lat) s (fun t =>
      (t.dma e).desc = some (descOf w) ∧ (t.dma e).words = [] ∧ (t.dma e).moved = 0 ∧ (t.dma e).finished = false ∧ (t.dma e).status = .ok ∧
      t.out = s.out ++ [.hostRead e ((descOf w).host % 2 ^ 64) (min (descOf w).len (64 - (descOf w).dev / 4 * 4 % 64))]) := by
  obtain ⟨u, run, own, out⟩ := gateAnswer_begins s e lat pkt w i engine answered desc words
    (dmaDescOf_h2c op (by simp [dmaLenFits, whole, least, most]))
  have runs : ((s.dma e).begun (descOf w) false).finished = false := by rw [Dma.begun, on]; rfl
  have status : ((s.dma e).begun (descOf w) false).status = .ok := by rw [Dma.begun, on]; rfl
  have unmoved : ((s.dma e).begun (descOf w) false).moved = 0 := rfl
  have asks := dmaNext_h2c (e := e) (x := descOf w) (s := u) rfl (by rw [own, runs])
  rw [own, unmoved, if_neg (by omega)] at asks
  rw [asks] at run
  refine ⟨_, run, ?_⟩
  have kept (o : Out) : (u.emit o).dma e = (s.dma e).begun (descOf w) false := own
  dsimp only
  rw [kept, State.emit, out, dmaHost, dmaPiece, unmoved, Nat.add_zero, Nat.add_zero, Nat.sub_zero]
  exact ⟨rfl, rfl, rfl, runs, status, by rw [Nat.mod_mod_of_dvd _ (show 64 ∣ 2 ^ 42 by decide)]⟩

theorem gateAnswer_malformed (s : State) (e lat : Nat) (pkt : Packet) (w : Nat → Word) (i : Bool) (engine : e < 64)
    (answered : HostAnswered s pkt (1 + e) (.popResp .ok [{ d := w 7, l := true, i := i, p := false }])) (desc : (s.dma e).desc = none)
    (words : (s.dma e).words = (List.range 7).map (fun i => (w i, false))) (op : (w 0).toNat / 2 ^ 28 = 0) :
    Answers (.gateAnswer 88 pkt 0 [] lat) s (fun t =>
      (t.dma e).desc = some (descOf w) ∧ (t.dma e).finished = true ∧ (t.dma e).status = .malformed ∧ t.out = s.out) := by
  obtain ⟨u, run, own, out⟩ := gateAnswer_begins s e lat pkt w i engine answered desc words (dmaDescOf_reserved op)
  rw [dmaNext_finished (by rw [own]; rfl)] at run
  refine ⟨_, run, ?_⟩
  dsimp only
  rw [own]
  exact ⟨rfl, rfl, rfl, out⟩

/-! ### H2C: what the host returns (R712) -/

theorem dmaHostReadCompletion_writes (s : State) (e : Nat) (x : DmaDesc) (ws : List Word) (ep : Bool) (up : s.hostUp = true)
    (desc : (s.dma e).desc = some x) (op : x.op = .h2c) (runs : (s.dma e).finished = false) (whole : 4 * ws.length = dmaPiece (s.dma e) x) :
    Answers (.dmaHostReadCompletion e ws ep false) s (fun t =>
      GateAsked s t 88 { mkPacket 88 127 0 1 (.wr ((x.dev / 4 * 4 + (s.dma e).moved) % 2 ^ 42) 0xF 0xF (ws.map (fun w => { d := w, p := ep }))) with
        who := 1 + e } ∧
      (t.dma e).moved = (s.dma e).moved + 4 * ws.length ∧ (t.dma e).desc = some x ∧
      (x.len ≤ (s.dma e).moved + 4 * ws.length → (t.dma e).finished = true ∧ t.out = s.out) ∧
      (ep = true → (s.dma e).status = .ok → (t.dma e).status = .poison) ∧ (∀ i, i ≠ e → t.dma i = s.dma i)) := by
  have asked := hostRequest_asks (whoDma e) unresolved 1 (.wr (dmaDev (s.dma e) x) 0xF 0xF (ws.map (fun w => { d := w, p := ep }))) s
  have run : exec (.dmaHostReadCompletion e ws ep false) s = .next (dmaNext e x (engineTook e (4 * ws.length) ep (hostRequest (whoDma e) unresolved 1
      (.wr (dmaDev (s.dma e) x) 0xF 0xF (ws.map (fun w => { d := w, p := ep }))) s))) := by
    simp only [exec, execDmaHostReadCompletion, desc]
    exact event_of (by simp [up, runs, op, whole]) _ _
  generalize asks : hostRequest (whoDma e) unresolved 1 (.wr (dmaDev (s.dma e) x) 0xF 0xF (ws.map (fun w => { d := w, p := ep }))) s = u at asked run
  have same (i : Nat) : u.dma i = s.dma i := by rw [← asks]; rfl
  have out : u.out = s.out := by rw [← asks]; rfl
  have took : (engineTook e (4 * ws.length) ep u).dma e = (s.dma e).took (4 * ws.length) ep := by rw [engineTook_same, same]
  have others (i : Nat) (other : i ≠ e) : (engineTook e (4 * ws.length) ep u).dma i = s.dma i := (engineTook_ne _ _ _ other).trans (same i)
  have poisons : ep = true → (s.dma e).status = .ok → ((s.dma e).took (4 * ws.length) ep).status = .poison := by
    rintro rfl clean
    rw [Dma.took, clean]
    rfl
  rw [dmaNext_h2c op (by rw [took]; exact runs), took] at run
  split at run
  · refine ⟨_, run, asked, ?_⟩
    rw [dmaFinish_same, took]
    exact ⟨rfl, desc, fun _ => ⟨rfl, out⟩, poisons, fun i other => (dmaFinish_ne _ _ other).trans (others i other)⟩
  · next more =>
    refine ⟨_, run, asked, ?_⟩
    have kept (o : Out) (i : Nat) : ((engineTook e (4 * ws.length) ep u).emit o).dma i = (engineTook e (4 * ws.length) ep u).dma i := rfl
    rw [kept, took]
    exact ⟨rfl, desc, fun enough => absurd enough more, poisons, others⟩

theorem dmaHostReadCompletion_fails (s : State) (e : Nat) (x : DmaDesc) (ws : List Word) (ep : Bool) (up : s.hostUp = true)
    (desc : (s.dma e).desc = some x) (op : x.op = .h2c) (runs : (s.dma e).finished = false) :
    Answers (.dmaHostReadCompletion e ws ep true) s (fun t =>
      (t.dma e) = { s.dma e with finished := true, status := .error } ∧ t = { s with pcie := t.pcie }) := by
  have run : exec (.dmaHostReadCompletion e ws ep true) s = .next (dmaFinish e .error s) := by
    simp only [exec, execDmaHostReadCompletion, desc]
    exact event_of (by simp [up, runs, op]) _ _
  exact ⟨_, run, dmaFinish_same .., rfl⟩

/-! ### Q2H: a word of the queue (R712) -/

theorem gateAnswer_movesQ2h (s : State) (e lat : Nat) (pkt : Packet) (x : DmaDesc) (w : QWord) (engine : e < 64)
    (answered : HostAnswered s pkt (1 + e) (.popResp .ok [w])) (desc : (s.dma e).desc = some x) (runs : (s.dma e).finished = false)
    (clean : w.p = false) : Answers (.gateAnswer 88 pkt 0 [] lat) s (fun t =>
      t.out = s.out ++ [.hostWrite ((x.host + (s.dma e).moved) % 2 ^ 64) [w.d] false] ∧ (t.dma e).moved = (s.dma e).moved + 4 ∧
      (w.l = true → (t.dma e).finished = true ∧ (t.dma e).status = (s.dma e).status) ∧
      (w.l = false → x.len ≤ (s.dma e).moved + 4 → (t.dma e).finished = true ∧ (t.dma e).status = .oversize) ∧
      (w.l = false → (s.dma e).moved + 4 < x.len → t.dma e = { s.dma e with moved := (s.dma e).moved + 4 } ∧
        (t.gate 88).waiting = (s.gate 88).waiting ++ [{ mkPacket 88 81 0 1 (.pop (x.dev % 2 ^ 18) 1) with who := 1 + e }]) ∧
      (∀ i, i ≠ e → t.dma i = s.dma i)) := by
  obtain ⟨u, run, taken⟩ := gateAnswer_dma lat engine answered
  have up : u.pcie.linkUp = true := by rw [taken.pcie]; exact answered.2.1
  have word : q2hWord e x w u = engineTook e 4 false (u.emit (.hostWrite (dmaHost (s.dma e) x) [w.d] false)) := by
    rw [q2hWord, toHost_up up, clean, taken.dma]
    rfl
  have answer : dmaPopAnswer e .ok [w] u = q2hAnswer e x w u := by
    simp only [dmaPopAnswer, taken.dma, desc]
  have own : (q2hWord e x w u).dma e = { s.dma e with moved := (s.dma e).moved + 4 } := by
    rw [word, engineTook_same]
    exact congrArg (Dma.took 4 false) (taken.dma e)
  have others (i : Nat) (other : i ≠ e) : (q2hWord e x w u).dma i = s.dma i := by
    rw [word]
    exact (engineTook_ne _ _ _ other).trans (taken.dma i)
  have out : (q2hWord e x w u).out = s.out ++ [.hostWrite ((x.host + (s.dma e).moved) % 2 ^ 64) [w.d] false] := by
    rw [word, ← taken.out]
    rfl
  have waiting : ((q2hWord e x w u).gate 88).waiting = (s.gate 88).waiting := by
    rw [word, ← taken.waiting]
    rfl
  rw [answer, q2hAnswer] at run
  generalize q2hWord e x w u = v at run own others out waiting
  simp only [own, runs, Bool.false_eq_true, if_false] at run
  split at run
  · next last =>
    refine ⟨_, run, out, ?_⟩
    rw [dmaFinish_same, own]
    exact ⟨rfl, fun _ => ⟨rfl, rfl⟩, fun more => absurd last (by simp [more]), fun more => absurd last (by simp [more]),
      fun i other => (dmaFinish_ne _ _ other).trans (others i other)⟩
  · next more =>
    split at run
    · next full =>
      refine ⟨_, run, out, ?_⟩
      rw [dmaFinish_same, own]
      exact ⟨rfl, fun last => absurd last more, fun _ _ => ⟨rfl, rfl⟩, fun _ room => absurd full (Nat.not_le.2 room),
        fun i other => (dmaFinish_ne _ _ other).trans (others i other)⟩
    · next room =>
      have kept (i : Nat) : (dmaPop e (x.dev % 2 ^ 18) v).dma i = v.dma i := rfl
      refine ⟨_, run, out, ?_⟩
      rw [kept, own]
      exact ⟨rfl, fun last => absurd last more, fun _ full => absurd full room,
        fun _ _ => ⟨rfl, (hostRequest_asks ..).1.trans (by rw [waiting]; rfl)⟩, others⟩

/-! ### The completion packet (R710) -/

/-- Words that do not fill a PUSH are gathered, for one credit each. -/
theorem gatePushes_gather {i q : Nat} : ∀ (ws : List QWord) (s : State), (s.producer i q).gather.length + ws.length < 16 →
    (ws.foldl (fun s w => gatePush i q w s) s).producer i q =
      { s.producer i q with credits := (s.producer i q).credits - ws.length, gather := (s.producer i q).gather ++ ws } ∧
    ((ws.foldl (fun s w => gatePush i q w s) s).gate i).waiting = (s.gate i).waiting ∧
    (∀ j, j ≠ i → (ws.foldl (fun s w => gatePush i q w s) s).gate j = s.gate j) ∧ OnlyNet s (ws.foldl (fun s w => gatePush i q w s) s)
  | [], s, _ => ⟨by simp, rfl, fun _ _ => rfl, .refl s⟩
  | w :: ws, s, few => by
    rw [List.length_cons] at few
    have short : ((s.producer i q).gather ++ [w]).length < 16 := by rw [List.length_append, List.length_singleton]; omega
    obtain ⟨own, waiting⟩ := gatePush_gathers short
    have apart (j : Nat) (other : j ≠ i) : (gatePush i q w s).gate j = s.gate j := by
      rw [gatePush_eq, if_neg (by rw [gatherWord, State.modProducer_same]; exact Nat.not_le.2 short), gatherWord, State.modProducer_gate_ne _ _ _ other]
    obtain ⟨own', waiting', apart', only'⟩ := gatePushes_gather ws (gatePush i q w s) (by
      rw [own]
      simp only [List.length_append, List.length_singleton]
      omega)
    refine ⟨?_, waiting'.trans waiting, fun j other => (apart' j other).trans (apart j other), OnlyNet.trans (gatePush_machine i q w s) only'⟩
    refine own'.trans ?_
    rw [own]
    simp [Nat.sub_sub, Nat.add_comm]

/-- A vector touches no gate and no engine. -/
theorem msixSend_keeps (v : Nat) (s : State) : (msixSend v s).net = s.net ∧ ∀ i, (msixSend v s).dma i = s.dma i := by
  unfold msixSend
  dsimp only
  split <;> exact ⟨rfl, fun _ => rfl⟩

/-- What a completion queue's producer does for a packet that has its credits. -/
def creditsTaken (q n : Nat) (s : State) : State := s.modProducer hostNode q (fun p => { p with granted := p.granted - n, credits := p.credits + n })

/-- An engine whose descriptor has completed. -/
def Dma.completed (d : Dma) : Dma := { d with desc := none, moved := 0, finished := false, status := .ok, last := d.status, done := d.done + 1 }

/-- Descriptor `x` of engine `e` completes with a status: the vector it names is sent if it asks for one and was not aborted. -/
def engineCompletes (e : Nat) (x : DmaDesc) (st : DmaStatus) (s : State) : State :=
  let s := s.modDma e (fun d => { d with desc := none, moved := 0, finished := false, status := .ok, last := d.status, done := d.done + 1 })
  if x.irq && st ≠ .aborted then msixSend x.vector s else s

theorem engineCompletes_keeps (e : Nat) (x : DmaDesc) (st : DmaStatus) (s : State) : (engineCompletes e x st s).net = s.net ∧
    ∀ i, (engineCompletes e x st s).dma i = (s.modDma e Dma.completed).dma i := by
  unfold engineCompletes
  dsimp only
  split
  · exact msixSend_keeps x.vector (s.modDma e Dma.completed)
  · exact ⟨rfl, fun _ => rfl⟩

/-- A completion queue's packets are in the DMA engines' class (R402). -/
theorem gateClass_dma {s : State} {e : Nat} (engine : e < 64) (busy : (s.dma e).desc.isSome = true) : gateClass s 88 (dmaCq s e) = 1 := by
  rw [gateClass, if_neg (by decide), if_pos]
  refine List.any_eq_true.2 ⟨e, List.mem_range.2 engine, ?_⟩
  have busy : (Tab.get Dma.reset s.pcie.engines e).desc.isSome = true := busy
  simp [busy, dmaCq]

theorem completion_sent (s : State) (q : Nat) (ws : List QWord) (few : ws.length < 16) (some : ws ≠ []) (none : (s.producer 88 q).gather = []) :
    let t := gateSend 88 q (ws.foldl (fun s w => gatePush 88 q w s) (creditsTaken q ws.length s))
    GateAsked s t 88 (mkPacket 88 81 0 (gateClass s 88 q) (.push q (!(s.producer 88 q).midPacket) ws)) ∧
    (t.producer 88 q).granted = (s.producer 88 q).granted - ws.length ∧ (t.producer 88 q).credits = (s.producer 88 q).credits ∧ OnlyNet s t := by
  have taken : (creditsTaken q ws.length s).producer 88 q =
      { s.producer 88 q with granted := (s.producer 88 q).granted - ws.length, credits := (s.producer 88 q).credits + ws.length } :=
    State.modProducer_same ..
  obtain ⟨own, waiting, others, only⟩ := gatePushes_gather (i := 88) (q := q) ws (creditsTaken q ws.length s) (by rw [taken, none]; simpa using few)
  rw [taken, none, List.nil_append, Nat.add_sub_cancel] at own
  have class_eq := (OnlyNet.trans (show OnlyNet s (creditsTaken q ws.length s) from rfl) only).gateClass 88 q
  dsimp only
  refine ⟨⟨?_, fun j other => ?_⟩, ?_, ?_, ?_⟩
  · rw [gateSend_waiting, waiting, creditsTaken, State.modProducer_waiting, ← creditsTaken, gatheredPush, own, if_neg some, class_eq,
      List.take_of_length_le (Nat.le_of_lt few)]
  · rw [gateSend_gate_ne _ _ other, others j other, creditsTaken, State.modProducer_gate_ne _ _ _ other]
  · rw [gateSend_producer, own]
  · rw [gateSend_producer, own]
  · exact OnlyNet.trans (OnlyNet.trans (show OnlyNet s (creditsTaken q ws.length s) from rfl) only) (onlyNet_gateSend ..)

theorem dmaDescriptorComplete_completes (s : State) (e : Nat) (x : DmaDesc) (desc : (s.dma e).desc = some x) (ended : (s.dma e).finished = true)
    (engine : e < 64) (on : s.domOn 87 = true) (quiet : dmaQuiet s e = true) (credits : 4 ≤ (s.producer 88 (dmaCq s e)).granted)
    (none : (s.producer 88 (dmaCq s e)).gather = []) : Answers (.dmaDescriptorComplete e) s (fun t =>
      GateAsked s t 88 (mkPacket 88 81 0 1 (.push (dmaCq s e) (!(s.producer 88 (dmaCq s e)).midPacket) (dmaCompletion e (s.dma e) x))) ∧
      (t.producer 88 (dmaCq s e)).granted = (s.producer 88 (dmaCq s e)).granted - 4 ∧
      (t.producer 88 (dmaCq s e)).credits = (s.producer 88 (dmaCq s e)).credits ∧
      (t.dma e).desc = Option.none ∧ (t.dma e).last = (s.dma e).status ∧ (t.dma e).done = (s.dma e).done + 1 ∧
      (∀ i, i ≠ e → t.dma i = s.dma i)) := by
  obtain ⟨asked, granted, used, only⟩ := completion_sent s (dmaCq s e) (dmaCompletion e (s.dma e) x) (Nat.le_of_ble_eq_true rfl)
    (by simp [dmaCompletion]) none
  rw [gateClass_dma engine (by rw [desc]; rfl)] at asked
  have run : exec (.dmaDescriptorComplete e) s = .next (engineCompletes e x (s.dma e).status
      (gateSend hostNode (dmaCq s e) ((dmaCompletion e (s.dma e) x).foldl (fun u w => gatePush hostNode (dmaCq s e) w u)
        (creditsTaken (dmaCq s e) 4 s)))) := by
    simp only [exec, execDmaDescriptorComplete, desc]
    exact event_of (by simp [engine, on, ended, quiet, credits]) _ _
  have four : (dmaCompletion e (s.dma e) x).length = 4 := rfl
  rw [four] at asked granted used only
  generalize gateSend 88 (dmaCq s e) _ = u at asked granted used only run
  obtain ⟨net, dma⟩ := engineCompletes_keeps e x (s.dma e).status u
  have same (i : Nat) : u.dma i = s.dma i := by rw [only]; rfl
  have gate (i : Nat) : (engineCompletes e x (s.dma e).status u).gate i = u.gate i := by rw [State.gate, net]; rfl
  refine ⟨_, run, ?_⟩
  simp only [GateAsked, State.producer, gate, dma, State.modDma_same, same]
  exact ⟨asked, granted, used, rfl, rfl, rfl, fun i other => (State.modDma_ne _ _ other).trans (same i)⟩

/-- Settles O28: each command of an engine, and each answer that reaches one, has its lemma above. -/
theorem dmaEngines : Obligations.DmaEngines :=
  ⟨fun s path q admitted apart fits => ⟨dmaEnable_enables s path q admitted apart fits, dmaDisable_aborts s path q admitted apart fits⟩,
   dmaDescriptorPop_asks, dmaWord_pops,
   fun s e lat pkt w i engine answered desc on words => ⟨gateAnswer_startsH2c s e lat pkt w i engine answered desc on words,
     gateAnswer_malformed s e lat pkt w i engine answered desc words⟩,
   fun s e x ws ep up desc op runs =>
     ⟨dmaHostReadCompletion_writes s e x ws ep up desc op runs, dmaHostReadCompletion_fails s e x ws ep up desc op runs⟩,
   dmaQ2hRepop_asks, gateAnswer_movesQ2h, dmaDescriptorComplete_completes⟩

end Sys2Proof.Machine
end

section
/-! Proofs of 05_tundish_queues.md and 15_host_interfaces.md (R260-R262, R704-R707, R713, R714, R716): the host's windows, the link and its resets, and
the vectors. -/

namespace Sys2Proof.Machine

theorem State.hostOpen_iff (s : State) : s.hostOpen = true ↔ s.pcie.linkUp = true ∧ s.domOn 87 = true ∧ s.loader.released = true := by
  simp [State.hostOpen, State.hostUp, and_assoc]

/-! ### BAR2 (R705-R707) -/

theorem bar2Read_asks (s : State) (a n : Nat) (up : s.hostUp = true) (aligned : a % 4 = 0) (some : 1 ≤ n) (few : n ≤ 64)
    (inside : a + 4 * n ≤ 2 ^ barLog2 s) : Answers (.bar2Read a n) s (fun t =>
      (s.loader.released = true → GateAsked s t 88 { mkPacket 88 127 0 0 (.rd a n) with who := 100 } ∧ t = { s with net := t.net }) ∧
      (s.loader.released = false → t = { s with out := s.out ++ [.hostCpl (List.replicate n 0xFFFFFFFF#32) false false] })) := by
  refine ⟨_, event_of (by simp [up, inBar2, aligned, some, few, inside]) _ _, ?_⟩
  cases s.loader.released with
  | true => exact ⟨fun _ => ⟨hostRequest_asks .., rfl⟩, nofun⟩
  | false => exact ⟨nofun, fun _ => rfl⟩

theorem bar2Write_asks (s : State) (a : Nat) (f l : BitVec 4) (ws : List Word) (ep : Bool) (up : s.hostUp = true) (aligned : a % 4 = 0)
    (some : ws ≠ []) (few : ws.length ≤ 64) (inside : a + 4 * ws.length ≤ 2 ^ barLog2 s) : Answers (.bar2Write a f l ws ep) s (fun t =>
      (s.loader.released = true → GateAsked s t 88 { mkPacket 88 127 0 0 (.wr a f l (ws.map (fun w => { d := w, p := ep }))) with who := 100 } ∧
        t = { s with net := t.net }) ∧
      (s.loader.released = false → t = s)) := by
  have least : 1 ≤ ws.length := List.length_pos_of_ne_nil some
  refine ⟨_, event_of (by simp [up, inBar2, aligned, least, few, inside]) _ _, ?_⟩
  cases s.loader.released with
  | true => exact ⟨fun _ => ⟨hostRequest_asks .., rfl⟩, nofun⟩
  | false => exact ⟨nofun, fun _ => rfl⟩

/-! ### BAR4 (R260-R262) -/

theorem bar4Queue_of_lt {q : Nat} (fits : q < 2 ^ 18) : bar4Queue q = true := decide_eq_true fits

/-- A word that is pushed where none is gathered leaves at once. -/
theorem bar4Push_leaves (q : Nat) (v : Word) (l : Bool) (s : State) (none : (s.producer 88 q).gather = []) :
    (bar4Push q v l s).producer 88 q = { s.producer 88 q with credits := (s.producer 88 q).credits - 1, midPacket := !l } ∧
    GateAsked s (bar4Push q v l s) 88
      (mkPacket 88 81 0 (gateClass s 88 q) (.push q (!(s.producer 88 q).midPacket) [{ d := v, l := l, i := false, p := false }])) ∧
    OnlyNet s (bar4Push q v l s) := by
  obtain ⟨own, waiting, others, only⟩ := gatePushes_gather (i := 88) (q := q) [{ d := v, l := l, i := false, p := false }] s
    (by rw [none]; exact Nat.le_of_ble_eq_true rfl)
  rw [none] at own
  have class_eq := only.gateClass 88 q
  simp only [List.foldl_cons, List.foldl_nil] at own waiting others only class_eq
  refine ⟨?_, ⟨?_, fun j other => ?_⟩, only.trans (onlyNet_gateSend ..)⟩
  · rw [bar4Push, gateSend_producer, own]
    exact congrArg (Producer.mk _ _ _) none.symm
  · rw [bar4Push, gateSend_waiting, waiting, gatheredPush, own, if_neg (by simp), class_eq]
    rfl
  · exact (gateSend_gate_ne _ _ other).trans (others j other)

theorem bar4Push_pushes (s : State) (q : Nat) (v : Word) (l : Bool) (up : s.hostOpen = true) (fits : q < 2 ^ 18) (none : (s.producer 88 q).gather = []) :
    Answers (if l then .bar4PushLast q v else .bar4Push q v) s (fun t =>
      t.producer 88 q = { s.producer 88 q with credits := (s.producer 88 q).credits - 1, midPacket := !l } ∧
      GateAsked s t 88 (mkPacket 88 81 0 (gateClass s 88 q) (.push q (!(s.producer 88 q).midPacket) [{ d := v, l := l, i := false, p := false }])) ∧
      t = { s with net := t.net }) := by
  have leaves := bar4Push_leaves q v l s none
  cases l with
  | true => exact ⟨_, event_of (by simp [up, bar4Queue_of_lt fits]) _ _, leaves⟩
  | false => exact ⟨_, event_of (by simp [up, bar4Queue_of_lt fits]) _ _, leaves⟩

theorem bar4PushAbandon_rewinds (s : State) (q : Nat) (up : s.hostOpen = true) (fits : q < 2 ^ 18) : Answers (.bar4PushAbandon q 8) s (fun t =>
    t.producer 88 q = { s.producer 88 q with midPacket := false } ∧ GateAsked s t 88 (mkPacket 88 81 0 (gateClass s 88 q) (.rewind q)) ∧
    t = { s with net := t.net }) := by
  refine ⟨_, event_of (by simp [up, bar4Queue_of_lt fits, bar4Own]) _ _, ?_, ⟨?_, fun j other => ?_⟩, rfl⟩
  · exact (request_at_gate ..).2.trans (State.modProducer_same ..)
  · refine (request_at_gate (q := q) ..).1.trans ?_
    rw [State.modProducer_waiting]
  · exact (State.request_gate_ne _ _ _ _ _ other).trans (State.modProducer_gate_ne _ _ _ other)

theorem bar4PushAbandon_ignores (s : State) (q ofs : Nat) (up : s.hostOpen = true) (fits : q < 2 ^ 18) (free : bar4Own ofs = false) (other : ofs ≠ 8) :
    exec (.bar4PushAbandon q ofs) s = .next s :=
  (event_of (by simp [up, bar4Queue_of_lt fits, free]) _ _).trans (congrArg _ (if_neg other))

theorem bar4CreditTake_takes (s : State) (q : Nat) (up : s.hostOpen = true) (fits : q < 2 ^ 18) : Answers (.bar4CreditTake q 0x10) s (fun t =>
    t.producer 88 q = { s.producer 88 q with granted := 0, credits := (s.producer 88 q).credits + (s.producer 88 q).granted } ∧
    t.out = s.out ++ [.hostCpl [BitVec.ofNat 32 (s.producer 88 q).granted] false false] ∧ (∀ i, i ≠ 88 → t.gate i = s.gate i) ∧
    t = { s with net := t.net, out := t.out }) := by
  obtain ⟨link, on, image⟩ := s.hostOpen_iff.1 up
  have run : exec (.bar4CreditTake q 0x10) s = .next ((s.modProducer 88 q (fun p =>
      { p with granted := 0, credits := p.credits + (s.producer 88 q).granted })).emit
        (.hostCpl [BitVec.ofNat 32 (s.producer 88 q).granted] false false)) := by
    refine (event_of (by simp [State.hostUp, link, on, bar4Queue_of_lt fits, bar4Own]) _ _).trans ?_
    rw [image]
    rfl
  exact ⟨_, run, State.modProducer_same .., rfl, fun i other => State.modProducer_gate_ne _ _ _ other, rfl⟩

theorem bar4CreditTake_reads (s : State) (q ofs : Nat) (up : s.hostOpen = true) (fits : q < 2 ^ 18) (free : bar4Own ofs = false) (other : ofs ≠ 0x10) :
    exec (.bar4CreditTake q ofs) s =
      .next (s.emit (.hostCpl [if ofs = 0x20 then BitVec.ofNat 32 (s.queue q).count else 0] false false)) := by
  obtain ⟨link, on, image⟩ := s.hostOpen_iff.1 up
  refine (event_of (by simp [State.hostUp, link, on, bar4Queue_of_lt fits, free]) _ _).trans ?_
  rw [image, if_neg (by decide), if_neg other]

theorem bar4Pop_asks (s : State) (q : Nat) (up : s.hostOpen = true) (fits : q < 2 ^ 18) : Answers (.bar4Pop q) s (fun t =>
    GateAsked s t 88 { mkPacket 88 81 0 2 (.pop q 1) with who := 101 } ∧ t = { s with net := t.net }) := by
  obtain ⟨link, on, image⟩ := s.hostOpen_iff.1 up
  have run : exec (.bar4Pop q) s = .next (hostRequest whoBar4 tundishNode 2 (.pop q 1) s) := by
    refine (event_of (by simp [State.hostUp, link, on, bar4Queue_of_lt fits]) _ _).trans ?_
    rw [image]
    rfl
  exact ⟨_, run, hostRequest_asks .., rfl⟩

theorem ite_eq_mul_toNat (n : Nat) (b : Bool) : (if b then n else 0) = n * b.toNat := by
  cases b with
  | true => exact (Nat.mul_one n).symm
  | false => rfl

/-- The tags of the word a POP read returns (R260). -/
theorem bar4Words_tags (w : QWord) : bar4Words [w] = [w.d, BitVec.ofNat 32 (1 + 2 * w.l.toNat + 4 * w.i.toNat + 8 * w.p.toNat)] := by
  rw [← ite_eq_mul_toNat, ← ite_eq_mul_toNat, ← ite_eq_mul_toNat]
  rfl

theorem gateAnswer_bar4 (s : State) (pkt : Packet) (st : PopStatus) (ws : List QWord) (lat : Nat) (answered : HostAnswered s pkt 101 (.popResp st ws)) :
    Answers (.gateAnswer 88 pkt 0 [] lat) s (fun t =>
      (∀ w, st = .ok → ws = [w] → t.out = s.out ++ [.hostCpl [w.d, BitVec.ofNat 32 (1 + 2 * w.l.toNat + 4 * w.i.toNat + 8 * w.p.toNat)] false false]) ∧
      (st = .empty ∨ st = .refused → t.out = s.out ++ [.hostCpl [0, 0] false false]) ∧
      (st = .offline → t.out = s.out ++ [.hostCpl [] false true] ∧ t.pcie.rdAborts = s.pcie.rdAborts + 1) ∧
      (st ≠ .offline → t.pcie = s.pcie) ∧ t = { s with net := t.net, out := t.out, pcie := t.pcie }) := by
  obtain ⟨u, run, taken⟩ := gateAnswer_answers lat answered
  have up : u.pcie.linkUp = true := by rw [taken.pcie]; exact answered.2.1
  have only := taken.only
  have reaches : hostAnswer 101 (.popResp st ws) u = bar4Answer st ws u := by rw [hostAnswer, if_pos rfl]
  rw [reaches] at run
  refine ⟨_, run, ?_⟩
  cases st with
  | ok =>
    simp only [bar4Answer, toHost_up up]
    exact ⟨fun w _ one => by rw [one, bar4Words_tags, State.emit, taken.out], nofun, nofun, fun _ => taken.pcie, by rw [only]; rfl⟩
  | idle =>
    simp only [bar4Answer, toHost_up up]
    exact ⟨nofun, nofun, nofun, fun _ => taken.pcie, by rw [only]; rfl⟩
  | empty =>
    simp only [bar4Answer, toHost_up up]
    exact ⟨nofun, fun _ => congrArg (· ++ _) taken.out, nofun, fun _ => taken.pcie, by rw [only]; rfl⟩
  | refused =>
    simp only [bar4Answer, toHost_up up]
    exact ⟨nofun, fun _ => congrArg (· ++ _) taken.out, nofun, fun _ => taken.pcie, by rw [only]; rfl⟩
  | offline =>
    simp only [bar4Answer, hostAborts, toHost_up up]
    exact ⟨nofun, nofun, fun _ => ⟨congrArg (· ++ _) taken.out, congrArg (·.rdAborts + 1) taken.pcie⟩, fun online => absurd rfl online,
      by rw [only]; rfl⟩

/-! ### The link (R704, R706, R716) -/

theorem pciePerstRelease_loads (s : State) (on : s.domOn 87 = true) (low : s.pcie.perstHigh = false) : Answers .pciePerstRelease s (fun t =>
    t = { s with pcie := { s.pcie with perstHigh := true, bar2Log2 := s.settingN 0x2600 2 % 64 } }) :=
  ⟨_, event_of (by simp [on, low]) _ _, rfl⟩

theorem pcieStatus_up {p : Pcie} (up : p.linkUp = true) (rate : p.rate ≤ 5) (width : p.width ≤ 16) :
    pcieStatus p = 2 ^ 31 + p.rate * 2 ^ 24 + p.width * 2 ^ 16 + p.busMaster.toNat := by
  rw [pcieStatus, up, if_pos rfl, Nat.mod_eq_of_lt (show p.rate < 8 by omega), Nat.mod_eq_of_lt (show p.width < 32 by omega)]
  cases p.busMaster <;> rfl

theorem pcieLinkUp_trains (s : State) (r w : Nat) (bm msix : Bool) (on : s.domOn 87 = true) (high : s.pcie.perstHigh = true) (least : 1 ≤ r)
    (most : r ≤ 5) (some : 1 ≤ w) (widest : w ≤ 16) : Answers (.pcieLinkUp r w bm msix) s (fun t =>
      t = { s with pcie := { s.pcie with linkUp := true, rate := r, width := w, busMaster := bm, msixOn := msix } } ∧
      pcieStatus t.pcie = 2 ^ 31 + r * 2 ^ 24 + w * 2 ^ 16 + bm.toNat) :=
  ⟨_, event_of (by simp [on, high, least, most, some, widest]) _ _, rfl, pcieStatus_up rfl most widest⟩

/-! ### Resets of the link (R713) -/

/-- An engine that a reset has met. -/
def Dma.halted (d : Dma) : Dma := if d.en then d.stopped else d

theorem Dma.halted_en (d : Dma) : d.halted.en = false := by
  unfold Dma.halted
  split
  · rfl
  · next off => exact Bool.eq_false_iff.2 off

theorem Dma.halted_halted (d : Dma) : d.halted.halted = d.halted := if_neg (by simp [d.halted_en])

theorem dmaStop_engines (e : Nat) (s : State) (i : Nat) : (dmaStop e s).dma i = if i = e then (s.dma i).halted else s.dma i := by
  cases on : (s.dma e).en with
  | true =>
    obtain ⟨own, others⟩ := dmaStop_dma on
    split
    · next same => rw [same, own, Dma.halted, if_pos on]
    · next other => exact others i other
  | false =>
    have still : dmaStop e s = s := if_pos (by rw [on]; rfl)
    rw [still]
    split
    · next same => rw [same, Dma.halted, if_neg (by simp [on])]
    · rfl

theorem stopEngines_dma : ∀ (l : List Nat) (s : State) (i : Nat),
    (l.foldl (fun s e => dmaStop e s) s).dma i = if i ∈ l then (s.dma i).halted else s.dma i
  | [], _, _ => rfl
  | e :: l, s, i => by
    rw [List.foldl_cons, stopEngines_dma l, dmaStop_engines]
    by_cases same : i = e
    · simp [same, Dma.halted_halted]
    · simp [same]

/-- Engines have been stopped, and nothing has changed but them and what waits at the endpoint's gate. -/
def EnginesStopped (s t : State) : Prop := t = { s with pcie := { s.pcie with engines := t.pcie.engines }, net := t.net }

theorem EnginesStopped.trans {s t u : State} (a : EnginesStopped s t) (b : EnginesStopped t u) : EnginesStopped s u := by
  unfold EnginesStopped at *
  rw [b, a]

theorem EnginesStopped.tun {s t : State} (a : EnginesStopped s t) : t.tun = s.tun := by rw [a]
theorem EnginesStopped.dram {s t : State} (a : EnginesStopped s t) : t.dram = s.dram := by rw [a]
theorem EnginesStopped.out {s t : State} (a : EnginesStopped s t) : t.out = s.out := by rw [a]

theorem enginesStopped_dmaStop (e : Nat) (s : State) : EnginesStopped s (dmaStop e s) := by
  unfold dmaStop
  dsimp only
  split <;> rfl

theorem enginesStopped_foldl : ∀ (l : List Nat) (s : State), EnginesStopped s (l.foldl (fun s e => dmaStop e s) s)
  | [], _ => rfl
  | e :: l, s => (enginesStopped_dmaStop e s).trans (enginesStopped_foldl l _)

/-- A session that closes changes the agent's state and the log (R658). -/
theorem closeSession_machine (n : Nat) (s : State) :
    closeSession n s = { s with dict := (closeSession n s).dict, chill := (closeSession n s).chill } := by
  unfold closeSession
  dsimp only
  split
  · rfl
  · split
    · rw [reportAt_machine]
      rfl
    · rfl

theorem pathReset_machine (path : Nat) (s : State) :
    pathReset path s = { s with dict := (pathReset path s).dict, chill := (pathReset path s).chill } := by
  unfold pathReset
  dsimp only
  rw [closeSession_machine]
  rfl

/-- What a reset of the endpoint leaves of its registers. -/
def Pcie.cleared (p : Pcie) : Pcie := { p with vectors := [], pendingBits := [], msixOn := false, msixMask := false, busMaster := false }

theorem pcieReset_clears (s : State) : (pcieReset s).pcie = Pcie.cleared { s.pcie with engines := (pcieReset s).pcie.engines } ∧
    (∀ e, e < 64 → (pcieReset s).dma e = (s.dma e).halted) ∧
    (pcieReset s).tun = s.tun ∧ (pcieReset s).dram = s.dram ∧ (pcieReset s).out = s.out := by
  have stopped := enginesStopped_foldl (List.range 64) s
  have engines := stopEngines_dma (List.range 64) s
  have reset : pcieReset s = pathReset hostNode (((List.range 64).foldl (fun s e => dmaStop e s) s).modPcie Pcie.cleared) := rfl
  rw [reset]
  generalize (List.range 64).foldl (fun s e => dmaStop e s) s = u at stopped engines
  have after := pathReset_machine hostNode (u.modPcie Pcie.cleared)
  generalize pathReset hostNode (u.modPcie Pcie.cleared) = t at after
  have pcie : t.pcie = Pcie.cleared u.pcie := congrArg State.pcie after
  have dma (e : Nat) : t.dma e = u.dma e := by rw [State.dma, pcie]; rfl
  refine ⟨?_, fun e engine => ?_, (congrArg State.tun after).trans stopped.tun,
    (congrArg State.dram after).trans stopped.dram, (congrArg State.out after).trans stopped.out⟩
  · rw [pcie]
    exact congrArg Pcie.cleared (congrArg State.pcie stopped)
  · rw [dma, engines, if_pos (List.mem_range.2 engine)]

/-- The endpoint with its reset input and its link in a state. -/
def Pcie.linkNow (high up : Bool) (rate width : Nat) (p : Pcie) : Pcie := { p with perstHigh := high, linkUp := up, rate := rate, width := width }

theorem linkNow_down {s : State} (high : s.pcie.perstHigh = true) :
    s.modPcie (fun p => { p with linkUp := false, rate := 0, width := 0 }) = s.modPcie (Pcie.linkNow true false 0 0) := by
  rw [← high]
  rfl

theorem linkNow_still (s : State) : s = s.modPcie (Pcie.linkNow s.pcie.perstHigh s.pcie.linkUp s.pcie.rate s.pcie.width) := rfl

theorem pcieReset_link (s : State) (down perst : Bool) (on : s.domOn 87 = true) (high : s.pcie.perstHigh = true) :
    ∃ r w, exec (.pcieReset down perst) s = .next ((pcieReset s).modPcie (Pcie.linkNow (!perst) (s.pcie.linkUp && !down && !perst) r w)) := by
  obtain ⟨pcie, -⟩ := pcieReset_clears s
  have input : (pcieReset s).pcie.perstHigh = true := by rw [pcie]; exact high
  have link : (pcieReset s).pcie.linkUp = s.pcie.linkUp := by rw [pcie]; rfl
  have run (t : State) : event (s.pcie.perstHigh && s.domOn 87) s t = .next t := event_of (by rw [high, on]; rfl) _ _
  cases perst with
  | true => exact ⟨0, 0, by rw [Bool.not_true, Bool.and_false]; exact run _⟩
  | false =>
    cases down with
    | true =>
      refine ⟨0, 0, (run _).trans (congrArg _ ((linkNow_down input).trans ?_))⟩
      rw [Bool.not_true, Bool.and_false, Bool.false_and, Bool.not_false]
    | false =>
      have still := linkNow_still (pcieReset s)
      rw [input, link] at still
      refine ⟨(pcieReset s).pcie.rate, (pcieReset s).pcie.width, (run _).trans (congrArg _ (still.trans ?_))⟩
      rw [Bool.not_false, Bool.and_true, Bool.and_true]

theorem pcieReset_ends (s : State) (down perst : Bool) (on : s.domOn 87 = true) (high : s.pcie.perstHigh = true) :
    Answers (.pcieReset down perst) s (fun t =>
      t.pcie.linkUp = (s.pcie.linkUp && !down && !perst) ∧ t.pcie.perstHigh = !perst ∧ t.pcie.busMaster = false ∧ t.pcie.msixOn = false ∧
      t.pcie.pendingBits = [] ∧ (∀ v, (Tab.get MsixVec.reset t.pcie.vectors v).masked = true) ∧
      (∀ e, e < 64 → (t.dma e).en = false ∧
        ((s.dma e).en = true → (s.dma e).desc.isSome = true → (t.dma e).finished = true ∧ (t.dma e).status = .aborted)) ∧
      t.tun = s.tun ∧ t.dram = s.dram ∧ t.out = s.out) := by
  obtain ⟨pcie, engines, tun, dram, out⟩ := pcieReset_clears s
  have ends (e : Nat) (engine : e < 64) : ((pcieReset s).dma e).en = false ∧ ((s.dma e).en = true → (s.dma e).desc.isSome = true →
      ((pcieReset s).dma e).finished = true ∧ ((pcieReset s).dma e).status = .aborted) := by
    rw [engines e engine]
    refine ⟨Dma.halted_en _, fun en busy => ?_⟩
    rw [Dma.halted, if_pos en]
    simp [Dma.stopped, busy]
  obtain ⟨r, w, run⟩ := pcieReset_link s down perst on high
  generalize pcieReset s = u at pcie ends tun dram out run
  refine ⟨_, run, rfl, rfl, ?_⟩
  have kept : (u.modPcie (Pcie.linkNow (!perst) (s.pcie.linkUp && !down && !perst) r w)).pcie =
      Pcie.linkNow (!perst) (s.pcie.linkUp && !down && !perst) r w (Pcie.cleared { s.pcie with engines := u.pcie.engines }) :=
    congrArg (Pcie.linkNow (!perst) (s.pcie.linkUp && !down && !perst) r w) pcie
  rw [kept]
  exact ⟨rfl, rfl, rfl, fun _ => rfl, ends, tun, dram, out⟩

/-! ### Vectors (R714) -/

/-- Entry `v` of the table and the function's enable and mask, as the host writes them. -/
def Pcie.written (v : Nat) (x : MsixVec) (on mask : Bool) (p : Pcie) : Pcie :=
  { p with vectors := Tab.set .reset p.vectors v x, msixOn := on, msixMask := mask }

/-- The machine as the host has written the entry, before any vector is sent. -/
def msixWritten (v : Nat) (x : MsixVec) (on mask : Bool) (s : State) : State := s.modPcie (Pcie.written v x on mask)

theorem exec_msixUnmask {s : State} {v : Nat} (addr : DWord) (data : Word) (m on mask : Bool) (up : s.hostOpen = true) (fits : v < 2048) :
    exec (.msixUnmask v addr data m on mask) s = .next (msixDrain (msixWritten v { addr := addr, data := data, masked := m } on mask s)) :=
  event_of (by simp [up, fits]) _ _

theorem msixDrain_idle {s : State} (none : s.pcie.pendingBits = []) : msixDrain s = s := by
  rw [msixDrain, none]
  rfl

theorem msixDrain_one {s : State} {v : Nat} (pending : s.pcie.pendingBits = [(v, true)]) : msixDrain s =
    if msixOpen s.pcie v then msixSend v (s.modPcie (fun p => { p with pendingBits := Tab.set false p.pendingBits v false })) else s := by
  rw [msixDrain, pending]
  rfl

theorem pendingClears {s : State} {v : Nat} (pending : s.pcie.pendingBits = [(v, true)]) : Tab.set false s.pcie.pendingBits v false = [] := by
  rw [pending, Tab.set, if_pos rfl, Tab.erase, if_pos rfl]
  rfl

theorem msixUnmask_writes (s : State) (v : Nat) (addr : DWord) (data : Word) (m on mask : Bool) (up : s.hostOpen = true) (fits : v < 2048)
    (none : s.pcie.pendingBits = []) : Answers (.msixUnmask v addr data m on mask) s (fun t =>
      Tab.get MsixVec.reset t.pcie.vectors v = { addr := addr, data := data, masked := m } ∧
      (∀ u, u ≠ v → Tab.get MsixVec.reset t.pcie.vectors u = Tab.get MsixVec.reset s.pcie.vectors u) ∧
      t.pcie.msixOn = on ∧ t.pcie.msixMask = mask ∧ t = { s with pcie := t.pcie }) := by
  have run := exec_msixUnmask addr data m on mask up fits
  rw [msixDrain_idle (show (msixWritten v _ on mask s).pcie.pendingBits = [] from none)] at run
  exact ⟨_, run, Tab.get_set_same .., fun u other => Tab.get_set_ne _ _ _ _ _ other, rfl, rfl, rfl⟩

/-- A vector that may be sent, and whose pending bit clears, is a message with what its entry holds. -/
theorem msixSend_open {s : State} {v : Nat} (link : s.pcie.linkUp = true) (sendable : msixOpen s.pcie v = true) :
    msixSend v (s.modPcie (fun p => { p with pendingBits := Tab.set false p.pendingBits v false })) =
      (s.modPcie (fun p => { p with pendingBits := Tab.set false p.pendingBits v false })).emit
        (.msix (Tab.get MsixVec.reset s.pcie.vectors v).addr (Tab.get MsixVec.reset s.pcie.vectors v).data) :=
  if_pos (Bool.and_eq_true_iff.2 ⟨link, sendable⟩)

theorem msixUnmask_sends (s : State) (v : Nat) (addr : DWord) (data : Word) (m on mask : Bool) (up : s.hostOpen = true) (fits : v < 2048)
    (pending : s.pcie.pendingBits = [(v, true)]) : Answers (.msixUnmask v addr data m on mask) s (fun t =>
      (m = false → on = true → mask = false → t.out = s.out ++ [.msix addr data] ∧ t.pcie.pendingBits = []) ∧
      (m = true ∨ on = false ∨ mask = true → t.out = s.out ∧ t.pcie.pendingBits = [(v, true)])) := by
  have run := exec_msixUnmask addr data m on mask up fits
  have entry : Tab.get MsixVec.reset (msixWritten v { addr := addr, data := data, masked := m } on mask s).pcie.vectors v =
      { addr := addr, data := data, masked := m } := Tab.get_set_same ..
  have sendable : msixOpen (msixWritten v { addr := addr, data := data, masked := m } on mask s).pcie v = (on && !mask && !m) := by
    rw [msixOpen, entry]
    rfl
  have still : (msixWritten v { addr := addr, data := data, masked := m } on mask s).pcie.pendingBits = [(v, true)] := pending
  have link : (msixWritten v { addr := addr, data := data, masked := m } on mask s).pcie.linkUp = true := (s.hostOpen_iff.1 up).1
  have out : (msixWritten v { addr := addr, data := data, masked := m } on mask s).out = s.out := rfl
  rw [msixDrain_one still] at run
  generalize msixWritten v _ on mask s = u at run entry sendable still link out
  refine ⟨_, run, ?_⟩
  dsimp only
  split
  · next sends =>
    rw [msixSend_open link sends, entry, ← out]
    rw [sendable] at sends
    exact ⟨fun _ _ _ => ⟨rfl, pendingClears still⟩, fun held => absurd sends (by rcases held with h | h | h <;> simp [h])⟩
  · next held =>
    rw [sendable] at held
    exact ⟨fun shown enabled free => absurd held (by simp [shown, enabled, free]), fun _ => ⟨out, still⟩⟩

/-- Settles O29: each access of the host, each event of the link and each write of a vector has its lemma above. -/
theorem hostWindowsLinkAndVectors : Obligations.HostWindowsLinkAndVectors :=
  ⟨⟨bar2Read_asks, bar2Write_asks,
    fun s q v l up fits => ⟨bar4Push_pushes s q v l up fits, bar4PushAbandon_rewinds s q up fits, fun ofs => bar4PushAbandon_ignores s q ofs up fits⟩,
    fun s q up fits => ⟨bar4CreditTake_takes s q up fits, ⟨_, bar4CreditTake_reads s q 0x20 up fits rfl (by decide), rfl⟩,
      fun ofs free credits count => ⟨_, bar4CreditTake_reads s q ofs up fits free credits, by rw [if_neg count]; rfl⟩, bar4Pop_asks s q up fits⟩,
    gateAnswer_bar4⟩,
   pciePerstRelease_loads, pcieLinkUp_trains, pcieReset_ends,
   fun s v addr data m on mask up fits => ⟨msixUnmask_writes s v addr data m on mask up fits, msixUnmask_sends s v addr data m on mask up fits⟩⟩

end Sys2Proof.Machine
end

section
/-! Proofs of 06_ladle_cores.md: what a ladle core's operations make of its core, and that the boundary after an instruction changes nothing where nothing
waits for it. -/

namespace Sys2Proof.Machine

/-! ### Banks, registers and CSRs (R279, R284) -/

section
variable (k : LcCore)

@[simp] theorem LcCore.modBank_same (b : Nat) (g : Bank → Bank) : (k.modBank b g).bank b = g (k.bank b) := Tab.get_modify_same ..

theorem LcCore.modBank_ne {b j : Nat} (g : Bank → Bank) (other : j ≠ b) : (k.modBank b g).bank j = k.bank j := Tab.get_modify_ne _ _ _ _ _ other

@[simp] theorem LcCore.setCsr_same (n : Nat) (v : Word) : (k.setCsr n v).csrOf n = v := Tab.get_set_same ..

theorem LcCore.setCsr_ne {n m : Nat} (v : Word) (other : m ≠ n) : (k.setCsr n v).csrOf m = k.csrOf m := Tab.get_set_ne _ _ _ _ _ other

theorem LcCore.setReg_banks (r : Nat) (v : Word) : k.setReg r v = { k with banks := (k.setReg r v).banks } := by
  unfold LcCore.setReg; split <;> rfl

theorem LcCore.setReg_bank_ne {r b : Nat} (v : Word) (other : b ≠ k.cur) : (k.setReg r v).bank b = k.bank b := by
  unfold LcCore.setReg; split
  · rfl
  · exact k.modBank_ne _ other

theorem LcCore.setReg_bank_cur (r : Nat) (v : Word) :
    (k.setReg r v).bank k.cur = if r = 0 then k.bank k.cur else { k.bank k.cur with x := Tab.set 0 (k.bank k.cur).x r v } := by
  unfold LcCore.setReg; split
  · rfl
  · exact k.modBank_same ..

theorem LcCore.setReg_reg (r j : Nat) (v : Word) : (k.setReg r v).reg j = if j = r ∧ r ≠ 0 then v else k.reg j := by
  have cur : (k.setReg r v).cur = k.cur := by rw [k.setReg_banks]
  rw [LcCore.reg, cur, k.setReg_bank_cur, LcCore.reg]
  by_cases none : r = 0
  · simp [none]
  · by_cases same : j = r
    · simp [same, none]
    · simp [same, none, Tab.get_set_ne]

end

/-! ### A core, and what stands beside it -/

@[simp] theorem State.modCore_same (s : State) (c : Nat) (g : LcCore → LcCore) : (s.modCore c g).core c = g (s.core c) := Tab.get_modify_same ..

theorem State.modCore_ne (s : State) {c d : Nat} (g : LcCore → LcCore) (other : d ≠ c) : (s.modCore c g).core d = s.core d :=
  Tab.get_modify_ne _ _ _ _ _ other

/-- Core `c` has become `k`, and nothing beside it changed. -/
structure CoreBecame (s t : State) (c : Nat) (k : LcCore) : Prop where
  core : t.core c = k
  others : OtherCores s t c
  only : t = { s with cores := t.cores }

theorem CoreBecame.modCore {s t : State} {c : Nat} {k : LcCore} (h : CoreBecame s t c k) (g : LcCore → LcCore) : CoreBecame s (t.modCore c g) c (g k) where
  core := by rw [State.modCore_same, h.core]
  others d other := by rw [State.modCore_ne _ _ other, h.others d other]
  only := by
    rw [h.only]
    rfl

theorem CoreBecame.refl (s : State) (c : Nat) : CoreBecame s s c (s.core c) := ⟨rfl, fun _ _ => rfl, rfl⟩

theorem coreBecame_modCore (s : State) (c : Nat) (g : LcCore → LcCore) : CoreBecame s (s.modCore c g) c (g (s.core c)) := (CoreBecame.refl s c).modCore g

theorem coreBecame_lcRetire (s : State) (c len : Nat) : CoreBecame s (lcRetire c len s) c
    { s.core c with pc := (s.core c).pc + BitVec.ofNat 32 len, minstret := (s.core c).minstret + 1 } := coreBecame_modCore ..

theorem coreBecame_lcWrite (s : State) (c len rd : Nat) (v : Word) : CoreBecame s (lcWrite c len rd v s) c
    { (s.core c).setReg rd v with pc := (s.core c).pc + BitVec.ofNat 32 len, minstret := (s.core c).minstret + 1 } := by
  have wrote := (coreBecame_modCore s c (fun k => k.setReg rd v)).modCore
    (fun k => { k with pc := k.pc + BitVec.ofNat 32 len, minstret := k.minstret + 1 })
  rw [(s.core c).setReg_banks] at wrote ⊢
  exact wrote

/-! ### The boundary after an instruction (R278, R316, R323) -/

/-- What the boundary after an instruction of core `c` looks at stands as it stood. -/
structure BoundaryKept (s t : State) (c : Nat) : Prop where
  threads : t.cup.threads = s.cup.threads
  faultDue : (t.core c).faultDue = (s.core c).faultDue
  st : (t.core c).st = (s.core c).st
  levelMode : (t.core c).levelMode = (s.core c).levelMode

theorem BoundaryKept.refl (s : State) (c : Nat) : BoundaryKept s s c := ⟨rfl, rfl, rfl, rfl⟩

theorem CoreBecame.kept {s t : State} {c : Nat} {k : LcCore} (h : CoreBecame s t c k) (faultDue : k.faultDue = (s.core c).faultDue)
    (st : k.st = (s.core c).st) (levelMode : k.levelMode = (s.core c).levelMode) : BoundaryKept s t c where
  threads := by rw [h.only]
  faultDue := by rw [h.core, faultDue]
  st := by rw [h.core, st]
  levelMode := by rw [h.core, levelMode]

/-- No cancel is asked for: none takes effect. -/
theorem settleCancels_none {s : State} (none : ∀ e ∈ s.cup.threads, e.2.cancelAsked = false) : settleCancels s = s := by
  have nobody : s.cup.threads.filter (fun e => e.2.cancelAsked) = [] := List.filter_eq_nil_iff.2 (fun e listed => by simp [none e listed])
  rw [settleCancels, nobody]
  rfl

/-- No bank fault waits and the core does not park: its boundary passes. -/
theorem settleCore_none {s : State} {c : Nat} (none : (s.core c).faultDue = none) (stays : (s.core c).st = .running ∨ (s.core c).levelMode = true) :
    settleCore c s = s := by
  rcases stays with running | level
  · simp [settleCore, none, running]
  · simp [settleCore, none, level]

/-- Where nothing waited for the boundary, the effect of the instruction is all there is. -/
theorem lcSettle_kept {s t : State} {c : Nat} (quiet : LcQuiet s c) (kept : BoundaryKept s t c) : lcSettle c t = t := by
  obtain ⟨cancels, due, stays⟩ := quiet
  rw [lcSettle, settleCancels_none (by rw [kept.threads]; exact cancels), settleCore_none (by rw [kept.faultDue, due]) (by rwa [kept.st, kept.levelMode])]

/-- An instruction of its row that nothing stops has its effect, and no other where nothing waits for its boundary. -/
theorem lcRow_acts {s : State} {c len : Nat} {i : LcKind} {act : LcKind → Nat → Option (State → State)} {f : State → State} (at' : LcAt s c i len)
    (acts : act i len = some f) (kept : BoundaryKept s (f s) c) : lcRow c .clean act s = .next (f s) := by
  obtain ⟨runs, kind, quiet⟩ := at'
  rw [lcRow, kind]
  dsimp only
  rw [acts]
  dsimp only
  rw [event_of runs]
  exact congrArg Host.Outcome.next (lcSettle_kept quiet kept)

/-! ### Traps (R307, R308) -/

/-- A core that enters a trap in its current bank. -/
def LcCore.trapped (k : LcCore) (cause tval vector : Word) : LcCore :=
  let m := k.csrOf 0x300
  let k := (((k.setCsr 0x341 k.pc).setCsr 0x342 cause).setCsr 0x343 tval).setCsr 0x300 (if m.getLsbD 3 then 0x80 else 0)
  let k := (k.setCsr 0x7C1 (k.bank k.cur).bprog).modBank k.cur (fun b => { b with bprog := 0 })
  { k with pc := vector, stall := .none }

theorem LcCore.trapped_keeps (k : LcCore) (cause tval vector : Word) : k.trapped cause tval vector =
    { k with csr := (k.trapped cause tval vector).csr, banks := (k.trapped cause tval vector).banks, pc := vector, stall := .none } := by
  dsimp only [LcCore.trapped, LcCore.modBank, LcCore.setCsr]

/-- mepc, mcause, mtval, mstatus and XBTPROG of the trap. -/
theorem LcCore.trapped_csrs (k : LcCore) (cause tval vector : Word) :
    (k.trapped cause tval vector).csrOf 0x341 = k.pc ∧ (k.trapped cause tval vector).csrOf 0x342 = cause ∧
      (k.trapped cause tval vector).csrOf 0x343 = tval ∧ (k.trapped cause tval vector).csrOf 0x300 = (if k.mie then 0x80#32 else 0#32) ∧
      (k.trapped cause tval vector).csrOf 0x7C1 = (k.bank k.cur).bprog := by
  simp [LcCore.trapped, LcCore.csrOf, LcCore.setCsr, LcCore.modBank, LcCore.bank, LcCore.mie, Tab.get_set_ne]

theorem coreBecame_enterTrap (s : State) (c : Nat) (cause tval vector : Word) :
    CoreBecame s (enterTrap c cause tval vector s) c ((s.core c).trapped cause tval vector) :=
  coreBecame_modCore s c (fun k => k.trapped cause tval vector)

theorem coreBecame_lcTrap {s : State} {c : Nat} (cause tval : Word) (thread : (s.core c).cur ≠ 0) :
    CoreBecame s (lcTrap c cause tval s) c ((s.core c).trapped cause tval (s.core c).trapBase) := by
  rw [lcTrap, if_neg thread]
  exact coreBecame_enterTrap ..

theorem trapped_of_core {s t : State} {c : Nat} {cause tval vector : Word} (core : t.core c = (s.core c).trapped cause tval vector)
    (others : OtherCores s t c) : Trapped s t c cause tval vector := by
  obtain ⟨epc, why, value, status, held⟩ := (s.core c).trapped_csrs cause tval vector
  rw [Trapped, core]
  refine ⟨epc, why, value, status, held, ?_, ?_, ?_, ?_, ?_, fun r => ?_, ?_, others⟩
  · simp [LcCore.trapped, LcCore.bank, LcCore.setCsr, LcCore.modBank]
  · rw [LcCore.trapped_keeps]
  · rw [LcCore.trapped_keeps]
  · rw [LcCore.trapped_keeps]
  · rw [LcCore.trapped_keeps]
  · simp [LcCore.trapped, LcCore.reg, LcCore.bank, LcCore.setCsr, LcCore.modBank]
  · rw [LcCore.trapped_keeps]

theorem CoreBecame.trapped {s t : State} {c : Nat} {cause tval vector : Word} (h : CoreBecame s t c ((s.core c).trapped cause tval vector)) :
    Trapped s t c cause tval vector := trapped_of_core h.core h.others

theorem CoreBecame.trapKept {s t : State} {c : Nat} {cause tval vector : Word} (h : CoreBecame s t c ((s.core c).trapped cause tval vector)) :
    BoundaryKept s t c := by
  rw [LcCore.trapped_keeps] at h
  exact h.kept rfl rfl rfl

/-- What beside the cores differs does not matter to a trap. -/
theorem Trapped.of_cores {s u t : State} {c : Nat} {cause tval vector : Word} (h : Trapped u t c cause tval vector) (same : u.cores = s.cores) :
    Trapped s t c cause tval vector := by
  unfold Trapped OtherCores State.core at h ⊢
  rwa [same] at h

@[simp] theorem reportCore_cores (code c : Nat) (detail : Word) (s : State) : (reportCore code c detail s).cores = s.cores := reportAt_cores ..
@[simp] theorem reportCore_cup (code c : Nat) (detail : Word) (s : State) : (reportCore code c detail s).cup = s.cup := reportAt_cup ..
@[simp] theorem reportCore_core (code c : Nat) (detail : Word) (s : State) (d : Nat) : (reportCore code c detail s).core d = s.core d := by
  rw [State.core, reportCore_cores, State.core]

theorem reports_reportCore (code c : Nat) (detail : Word) (s : State) : Reports s (reportCore code c detail s) code 7 c := reports_reportAt code 7 c _ _ s

/-- An exception with an error entry of its own (R321): the trap is taken, and the error reported. -/
theorem lcFault_faults {s : State} {c : Nat} (code : Nat) (cause tval : Word) (thread : (s.core c).cur ≠ 0) :
    Trapped s (lcFault c code cause tval s) c cause tval (s.core c).trapBase ∧ Reports s (lcFault c code cause tval s) code 7 c ∧
      BoundaryKept s (lcFault c code cause tval s) c := by
  have taken := coreBecame_lcTrap (s := reportCore code c tval s) (c := c) cause tval (by rwa [reportCore_core])
  have kept := taken.trapKept
  have same := reportCore_core code c tval s c
  refine ⟨?_, fun room => ?_, ⟨kept.threads.trans ?_, kept.faultDue.trans ?_, kept.st.trans ?_, kept.levelMode.trans ?_⟩⟩
  · rw [← same]; exact taken.trapped.of_cores (reportCore_cores ..)
  · rw [lcFault, taken.only]; exact reports_reportCore code c tval s room
  · rw [reportCore_cup]
  all_goals rw [same]

end Sys2Proof.Machine
end

section
/-! Proofs of 06_ladle_cores.md (R267-R272, R321): the plain instructions of a ladle core. -/

namespace Sys2Proof.Machine

theorem Answers.imp {i : Instr} {s : State} {P Q : State → Prop} (h : Answers i s P) (imp : ∀ t, P t → Q t) : Answers i s Q := by
  obtain ⟨t, ran, holds⟩ := h
  exact ⟨t, ran, imp t holds⟩

/-! ### What is plain (R267) -/

/-- Neither the queues, nor the runner window, nor a Cupola register lies in local memory or shared SRAM (R268). -/
theorem inOneMemory_outside {a n : Nat} (inside : inOneMemory a n) (some : 1 ≤ n) : inWindow a = false ∧ inQueues a = false ∧ inCupola a = false := by
  simp only [inWindow, inQueues, inCupola, Bool.and_eq_false_iff, decide_eq_false_iff_not]
  unfold inOneMemory at inside
  omega

theorem inOneMemory_inside {a n : Nat} (inside : inOneMemory a n) (some : 1 ≤ n) : (inLocal a || inSram a) = true := by
  simp only [inLocal, inSram, Bool.or_eq_true, Bool.and_eq_true, decide_eq_true_eq]
  unfold inOneMemory at inside
  omega

theorem loadKind_plain {k : LcCore} {w : Word} (word : rvF3 w = 2)
    (other : (loadAddr k w).toNat % 4 ≠ 0 ∨ inOneMemory (loadAddr k w).toNat 4) : loadKind k w = .plain := by
  unfold loadKind
  rw [word]
  rcases other with misaligned | inside
  · exact if_pos misaligned
  · obtain ⟨window, _, cupola⟩ := inOneMemory_outside inside (by decide)
    have attn : (loadAddr k w).toNat ≠ 0x02000080 := fun same => by rw [same] at cupola; exact absurd cupola (by decide)
    simp [rvLoadKind, window, attn]

theorem storeKind_plain {k : LcCore} {w : Word} (word : rvF3 w = 2) (inside : inOneMemory (storeAddr k w).toNat 4) : storeKind k w = .plain := by
  obtain ⟨window, queues, cupola⟩ := inOneMemory_outside inside (by decide)
  have op : (storeAddr k w).toNat ≠ 0x02000020 := fun same => by rw [same] at cupola; exact absurd cupola (by decide)
  have done : (storeAddr k w).toNat ≠ 0x02000040 := fun same => by rw [same] at cupola; exact absurd cupola (by decide)
  unfold storeKind
  rw [word]
  simp [rvStoreSize, window, queues, op, done]

theorem kindOf_plain {k : LcCore} {w : Word} {op : Nat} (opcode : rvOpcode w = op) (apart : op ∉ [0x03, 0x23, 0x0F, 0x0B, 0x73]) :
    kindOf k w = .plain := by
  simp only [List.mem_cons, List.not_mem_nil, or_false, not_or] at apart
  obtain ⟨load, store, fence, xbank, system⟩ := apart
  unfold kindOf
  split <;> simp_all

theorem kindOf_load {k : LcCore} {w : Word} (opcode : rvOpcode w = 0x03) : kindOf k w = loadKind k w := by simp [kindOf, opcode]

theorem kindOf_store {k : LcCore} {w : Word} (opcode : rvOpcode w = 0x23) : kindOf k w = storeKind k w := by simp [kindOf, opcode]

theorem kindOf_ecall (k : LcCore) : kindOf k 0x00000073#32 = .plain := rfl

/-! ### The row LC_INSTRUCTION -/

section
variable {s : State} {c len : Nat} {w : Word}

theorem lcKind_instr (fetched : lcFetch s c = .instr w len) : lcKind s c = (kindOf (s.core c) w, len) := by rw [lcKind, fetched]

/-- A plain instruction does what `lcPlain` says. -/
theorem exec_lcInstruction (runs : s.lcRuns c = true) (fetched : lcFetch s c = .instr w len) (quiet : LcQuiet s c)
    (plain : kindOf (s.core c) w = .plain) (kept : BoundaryKept s (lcPlain c len w false s) c) :
    exec (.lcInstruction c .clean) s = .next (lcPlain c len w false s) := by
  have effect : lcExecute c false s = lcPlain c len w false s := by rw [lcExecute, fetched]
  rw [← effect] at kept ⊢
  exact lcRow_acts (act := fun i _ => if i = .plain then some (lcExecute c false) else none)
    ⟨runs, (lcKind_instr fetched).trans (by rw [plain]), quiet⟩ (if_pos rfl) kept

/-- A plain instruction that changes its core alone. -/
theorem lcInstruction_becomes {k : LcCore} (runs : s.lcRuns c = true) (fetched : lcFetch s c = .instr w len) (quiet : LcQuiet s c)
    (plain : kindOf (s.core c) w = .plain) (became : CoreBecame s (lcPlain c len w false s) c k) (faultDue : k.faultDue = (s.core c).faultDue)
    (st : k.st = (s.core c).st) (levelMode : k.levelMode = (s.core c).levelMode) : Answers (.lcInstruction c .clean) s (fun t => CoreBecame s t c k) :=
  ⟨_, exec_lcInstruction runs fetched quiet plain (became.kept faultDue st levelMode), became⟩

/-- A plain instruction that writes a register. -/
theorem lcInstruction_writes {rd : Nat} {v : Word} (runs : s.lcRuns c = true) (fetched : lcFetch s c = .instr w len) (quiet : LcQuiet s c)
    (plain : kindOf (s.core c) w = .plain) (writes : lcPlain c len w false s = lcWrite c len rd v s) :
    Answers (.lcInstruction c .clean) s (fun t => LcWent s t c len ((s.core c).setReg rd v) ∧ t = { s with cores := t.cores }) := by
  have became := coreBecame_lcWrite s c len rd v
  have kept : BoundaryKept s (lcWrite c len rd v s) c := by
    rw [(s.core c).setReg_banks] at became
    exact became.kept rfl rfl rfl
  exact ⟨_, (exec_lcInstruction runs fetched quiet plain (by rwa [writes])).trans (by rw [writes]), ⟨became.core, became.others⟩, became.only⟩

/-- A plain instruction that traps without an error entry. -/
theorem lcInstruction_traps {cause tval : Word} (runs : s.lcRuns c = true) (fetched : lcFetch s c = .instr w len) (quiet : LcQuiet s c)
    (plain : kindOf (s.core c) w = .plain) (thread : (s.core c).cur ≠ 0) (traps : lcPlain c len w false s = lcTrap c cause tval s) :
    Answers (.lcInstruction c .clean) s (fun t => Trapped s t c cause tval (s.core c).trapBase ∧ t = { s with cores := t.cores }) := by
  have taken := coreBecame_lcTrap cause tval thread
  exact ⟨_, (exec_lcInstruction runs fetched quiet plain (by rw [traps]; exact taken.trapKept)).trans (by rw [traps]), taken.trapped, taken.only⟩

end

/-! ### What each opcode does -/

theorem mergeStore_word (w v : Word) {a : Nat} (aligned : a % 4 = 0) : mergeStore w v a 4 = v := by
  have ones : ∀ x : Word, x &&& 0xFFFFFFFF#32 = x := fun x => BitVec.and_allOnes
  simp [mergeStore, aligned, ones]

section
variable (s : State) (c len : Nat) (w : Word)

theorem lcPlain_addi (opcode : rvOpcode w = 0x13) (f3 : rvF3 w = 0) :
    lcPlain c len w false s = lcWrite c len (rvRd w) ((s.core c).reg (rvRs1 w) + immI w) s := by
  simp [lcPlain, opcode, opImm, f3, rvAlu, lcResult]

theorem lcPlain_op {v : Word} (opcode : rvOpcode w = 0x33) (gives : opReg w ((s.core c).reg (rvRs1 w)) ((s.core c).reg (rvRs2 w)) = some v) :
    lcPlain c len w false s = lcWrite c len (rvRd w) v s := by
  simp [lcPlain, opcode, gives, lcResult]

theorem lcPlain_load (opcode : rvOpcode w = 0x03) : lcPlain c len w false s = lcLoad c len w false s := by simp [lcPlain, opcode]

variable {s c len w}

theorem lcLoad_word (f3 : rvF3 w = 2) (aligned : (loadAddr (s.core c) w).toNat % 4 = 0) (inside : inOneMemory (loadAddr (s.core c) w).toNat 4) :
    lcLoad c len w false s = if (lcWord s c (loadAddr (s.core c) w).toNat).p then lcFault c 0x3501 5 (loadAddr (s.core c) w) s
      else lcWrite c len (rvRd w) (lcWord s c (loadAddr (s.core c) w).toNat).d s := by
  simp [lcLoad, f3, rvLoadKind, aligned, inOneMemory_inside inside (by decide), loadValue]

theorem lcLoad_misaligned (f3 : rvF3 w = 2) (misaligned : (loadAddr (s.core c) w).toNat % 4 ≠ 0) :
    lcLoad c len w false s = lcTrap c 4 (loadAddr (s.core c) w) s := by
  simp [lcLoad, f3, rvLoadKind, misaligned]

/-- SW to local memory. -/
theorem coreBecame_storeWord (opcode : rvOpcode w = 0x23) (f3 : rvF3 w = 2) (aligned : (storeAddr (s.core c) w).toNat % 4 = 0)
    (inside : (storeAddr (s.core c) w).toNat + 4 ≤ 0x10000) : CoreBecame s (lcPlain c len w false s) c
      { s.core c with
        lmem := Tab.set 0 (s.core c).lmem ((storeAddr (s.core c) w).toNat / 4) ((s.core c).reg (rvRs2 w))
        pc := (s.core c).pc + BitVec.ofNat 32 len, minstret := (s.core c).minstret + 1 } := by
  have local' : inLocal (storeAddr (s.core c) w).toNat = true := decide_eq_true (by omega)
  have stores : lcPlain c len w false s = lcRetire c len (s.modCore c (fun k =>
      { k with lmem := Tab.set 0 k.lmem ((storeAddr (s.core c) w).toNat / 4) ((s.core c).reg (rvRs2 w)) })) := by
    simp [lcPlain, opcode, lcPut, f3, rvStoreSize, aligned, local', lcStore, mergeStore_word _ _ aligned]
  rw [stores]
  exact (coreBecame_modCore s c _).modCore _

/-- BEQ. -/
theorem coreBecame_beq (opcode : rvOpcode w = 0x63) (f3 : rvF3 w = 0) : CoreBecame s (lcPlain c len w false s) c
    { s.core c with
      pc := if (s.core c).reg (rvRs1 w) = (s.core c).reg (rvRs2 w) then ((s.core c).pc + immB w) &&& 0xFFFFFFFE#32
        else (s.core c).pc + BitVec.ofNat 32 len
      minstret := (s.core c).minstret + 1 } := by
  have branches : lcPlain c len w false s = lcBranch c len w s := by simp [lcPlain, opcode]
  rw [branches, lcBranch, f3]
  by_cases same : (s.core c).reg (rvRs1 w) = (s.core c).reg (rvRs2 w)
  · simp only [rvBranch, same, decide_true, if_true]
    exact coreBecame_modCore ..
  · simp only [rvBranch, same, decide_false, if_false]
    exact coreBecame_lcRetire ..

end

/-- An uncorrectable instruction word stops the instruction (R272). -/
theorem lcInstruction_fetchBad {s : State} {c len : Nat} {w : Word} (runs : s.lcRuns c = true) (fetched : lcFetch s c = .instr w len)
    (quiet : LcQuiet s c) (thread : (s.core c).cur ≠ 0) (plain : kindOf (s.core c) w = .plain) : Answers (.lcInstruction c .fetchBad) s (fun t =>
      Trapped s t c 1 (s.core c).pc (s.core c).trapBase ∧ Reports s t 0x3502 7 c) := by
  obtain ⟨taken, reported, kept⟩ := lcFault_faults 0x3502 1 (s.core c).pc thread
  have row : execLcInstruction c .fetchBad s = event (s.lcRuns c) s (lcSettle c (lcFault c 0x3502 1 (s.core c).pc s)) := by
    rw [execLcInstruction, lcRow, lcKind_instr fetched, plain]
    rfl
  exact ⟨_, row.trans (by rw [event_of runs, lcSettle_kept quiet kept]), taken, reported⟩

/-! ### The statement -/

/-- Settles O24: what each instruction makes of its core stands above, and nothing waits for the boundary after it. -/
theorem ladlePlainInstructions : Obligations.LadlePlainInstructions := by
  intro s c len w runs fetched quiet
  refine ⟨fun lui => ?_, fun auipc => ?_, fun opcode f3 => ?_, fun opcode f3 f7 => ?_, fun opcode f3 f7 => ?_, fun opcode f3 f7 => ?_,
    fun opcode f3 f7 => ?_, fun opcode f3 => ?_, fun opcode f3 aligned inside => ⟨fun clean => ?_, fun poisoned thread => ?_⟩,
    fun opcode f3 aligned inside => ?_, fun ecall thread => ?_, fun opcode f3 misaligned thread => ?_,
    fun thread plain => lcInstruction_fetchBad runs fetched quiet thread plain⟩
  · exact lcInstruction_writes runs fetched quiet (kindOf_plain lui (by decide)) (by simp [lcPlain, lui])
  · exact lcInstruction_writes runs fetched quiet (kindOf_plain auipc (by decide)) (by simp [lcPlain, auipc])
  · exact lcInstruction_writes runs fetched quiet (kindOf_plain opcode (by decide)) (lcPlain_addi s c len w opcode f3)
  · exact lcInstruction_writes runs fetched quiet (kindOf_plain opcode (by decide))
      (lcPlain_op s c len w opcode (by simp [opReg, f3, f7, rvAlu]))
  · exact lcInstruction_writes runs fetched quiet (kindOf_plain opcode (by decide))
      (lcPlain_op s c len w opcode (by simp [opReg, f3, f7, rvAlu]))
  · exact lcInstruction_writes runs fetched quiet (kindOf_plain opcode (by decide))
      (lcPlain_op s c len w opcode (by simp [opReg, f3, f7, rvMul]))
  · refine lcInstruction_writes runs fetched quiet (kindOf_plain opcode (by decide)) (lcPlain_op s c len w opcode ?_)
    simp [opReg, f3, f7, rvMul, ← BitVec.toNat_inj]
  · exact (lcInstruction_becomes runs fetched quiet (kindOf_plain opcode (by decide)) (coreBecame_beq opcode f3) rfl rfl rfl).imp
      (fun t became => ⟨became.core, became.others, became.only⟩)
  · exact lcInstruction_writes runs fetched quiet ((kindOf_load opcode).trans (loadKind_plain f3 (.inr inside)))
      ((lcPlain_load s c len w opcode).trans ((lcLoad_word f3 aligned inside).trans (if_neg (by simpa [loadAddr] using clean))))
  · obtain ⟨taken, reported, kept⟩ := lcFault_faults 0x3501 5 (loadAddr (s.core c) w) thread
    have faults : lcPlain c len w false s = lcFault c 0x3501 5 (loadAddr (s.core c) w) s :=
      (lcPlain_load s c len w opcode).trans ((lcLoad_word f3 aligned inside).trans (if_pos poisoned))
    rw [← faults] at taken reported kept
    exact ⟨_, exec_lcInstruction runs fetched quiet ((kindOf_load opcode).trans (loadKind_plain f3 (.inr inside))) kept, taken, reported⟩
  · refine (lcInstruction_becomes runs fetched quiet ((kindOf_store opcode).trans (storeKind_plain f3 (.inl inside)))
      (coreBecame_storeWord opcode f3 aligned inside) rfl rfl rfl).imp (fun t became => ⟨⟨?_, became.others⟩, fun j => ?_, became.only⟩)
    · rw [became.core]
    · rw [became.core]
      by_cases here : j = (storeAddr (s.core c) w).toNat / 4
      · rw [here, Tab.get_set_same]
        exact (if_pos rfl).symm
      · exact (Tab.get_set_ne _ _ _ _ _ here).trans (if_neg here).symm
  · subst ecall
    exact lcInstruction_traps runs fetched quiet (kindOf_ecall _) thread rfl
  · exact lcInstruction_traps runs fetched quiet ((kindOf_load opcode).trans (loadKind_plain f3 (.inl misaligned))) thread
      ((lcPlain_load s c len w opcode).trans (lcLoad_misaligned f3 misaligned))

end Sys2Proof.Machine
end

section
/-! Proofs of 06_ladle_cores.md (R284, R285, R290-R293, R307, R311): returns, XBREADY and XBWDATA, and the two ways a local source is taken. -/

namespace Sys2Proof.Machine

theorem LcCore.reg_congr {k h : LcCore} (x : (h.bank h.cur).x = (k.bank k.cur).x) (r : Nat) : h.reg r = k.reg r := by
  rw [LcCore.reg, LcCore.reg, x]

/-! ### BRET (R293, R311) -/

/-- Bank 0 returns to the bank and address that its bank fault names. -/
def LcCore.resumed (k : LcCore) : LcCore :=
  let k := k.modBank 0 (fun b => { b with bpc := k.pc + 4 })
  let b := fld (k.csrOf 0x7C5) 4 0
  { k with cur := b, pc := k.csrOf 0x7C6, idle := k.faultIdle || k.bankSt b = .free, minstret := k.minstret + 1 }

/-- A level returns to the one below it. -/
def LcCore.lowered (k : LcCore) : LcCore :=
  let k := k.modBank k.cur (fun b => { b with bpc := k.pc + 4 })
  let l := k.stack.headD 0
  { k with level := l, stack := k.stack.drop 1, cur := l + 1, pc := (k.bank (l + 1)).bpc, minstret := k.minstret + 1 }

theorem LcCore.resumed_keeps (k : LcCore) : k.resumed = { k with
    banks := k.resumed.banks, cur := fld (k.csrOf 0x7C5) 4 0, pc := k.csrOf 0x7C6, idle := k.resumed.idle, minstret := k.minstret + 1 } := by
  dsimp only [LcCore.resumed, LcCore.modBank, LcCore.csrOf]

theorem LcCore.lowered_keeps (k : LcCore) : k.lowered = { k with
    banks := k.lowered.banks, level := k.stack.headD 0, stack := k.stack.drop 1, cur := k.stack.headD 0 + 1, pc := k.lowered.pc
    minstret := k.minstret + 1 } := by
  dsimp only [LcCore.lowered, LcCore.modBank]

/-- Bank 0 is RESIDENT whatever is written to it (R282). -/
theorem LcCore.modBank_zero_bankSt (k : LcCore) (g : Bank → Bank) (b : Nat) : (k.modBank 0 g).bankSt b = k.bankSt b := by
  unfold LcCore.bankSt
  split
  · rfl
  · next other => rw [k.modBank_ne _ other]

theorem fld_low (w : Word) (n : Nat) : fld w n 0 = w.toNat % 2 ^ (n + 1) := by simp [fld]

theorem exec_bret {s : State} {c len : Nat} (at' : LcAt s c .bret len) (kept : BoundaryKept s (lcBret c s) c) :
    exec (.bret c .clean) s = .next (lcBret c s) := by
  show execBret c .clean s = _
  unfold execBret
  exact lcRow_acts at' (if_pos rfl) kept

theorem bret_resumes (s : State) (c len : Nat) (at' : LcAt s c .bret len) (bank0 : (s.core c).cur = 0) : Answers (.bret c .clean) s (fun t =>
    let k := s.core c
    let h := t.core c
    h.cur = (k.csrOf 0x7C5).toNat % 32 ∧ h.pc = k.csrOf 0x7C6 ∧ h.minstret = k.minstret + 1 ∧ (h.bank 0) = { k.bank 0 with bpc := k.pc + 4 } ∧
    (∀ b, b ≠ 0 → h.bank b = k.bank b) ∧ h.csr = k.csr ∧ h.idle = (k.faultIdle || decide (k.bankSt ((k.csrOf 0x7C5).toNat % 32) = .free)) ∧
    OtherCores s t c ∧ t = { s with cores := t.cores }) := by
  have effect : lcBret c s = s.modCore c LcCore.resumed := if_pos bank0
  have became : CoreBecame s (lcBret c s) c (s.core c).resumed := effect ▸ coreBecame_modCore s c LcCore.resumed
  have bank : fld ((s.core c).csrOf 0x7C5) 4 0 = ((s.core c).csrOf 0x7C5).toNat % 32 := fld_low _ 4
  have kept : BoundaryKept s (lcBret c s) c := by
    rw [LcCore.resumed_keeps] at became
    exact became.kept rfl rfl rfl
  refine ⟨_, exec_bret at' kept, ?_⟩
  dsimp only
  rw [became.core, LcCore.resumed_keeps]
  refine ⟨bank, rfl, rfl, ?_, fun b other => ?_, rfl, ?_, became.others, became.only⟩
  · simp [LcCore.resumed, LcCore.bank, LcCore.modBank]
  · simp [LcCore.resumed, LcCore.bank, LcCore.modBank, Tab.get_modify_ne, other]
  · rw [← bank, ← LcCore.modBank_zero_bankSt _ (fun b => { b with bpc := (s.core c).pc + 4 })]
    rfl

theorem bret_lowers (s : State) (c len : Nat) (at' : LcAt s c .bret len) (thread : (s.core c).cur ≠ 0) (mode : (s.core c).levelMode = true)
    (level : (s.core c).level ≠ 0) (other : (s.core c).stack.headD 0 + 1 ≠ (s.core c).cur) : Answers (.bret c .clean) s (fun t =>
    let k := s.core c
    let h := t.core c
    h.level = k.stack.headD 0 ∧ h.stack = k.stack.tail ∧ h.cur = k.stack.headD 0 + 1 ∧ h.pc = (k.bank (k.stack.headD 0 + 1)).bpc ∧
    h.bank k.cur = { k.bank k.cur with bpc := k.pc + 4 } ∧ OtherCores s t c ∧ t = { s with cores := t.cores }) := by
  have effect : lcBret c s = s.modCore c LcCore.lowered := by
    rw [lcBret, if_neg thread, if_pos (by simp [mode, level])]
    rfl
  have became : CoreBecame s (lcBret c s) c (s.core c).lowered := effect ▸ coreBecame_modCore s c LcCore.lowered
  have kept : BoundaryKept s (lcBret c s) c := by
    rw [LcCore.lowered_keeps] at became
    exact became.kept rfl rfl rfl
  refine ⟨_, exec_bret at' kept, ?_⟩
  dsimp only
  rw [became.core, LcCore.lowered_keeps]
  refine ⟨rfl, List.drop_one, rfl, congrArg Bank.bpc (LcCore.modBank_ne _ _ other), ?_, became.others, became.only⟩
  simp [LcCore.lowered, LcCore.bank, LcCore.modBank]

theorem bret_illegal (s : State) (c len : Nat) (at' : LcAt s c .bret len) (thread : (s.core c).cur ≠ 0)
    (base : (s.core c).levelMode = false ∨ (s.core c).level = 0) :
    Answers (.bret c .clean) s (fun t => ∃ v, Trapped s t c 2 v (s.core c).trapBase) := by
  have effect : lcBret c s = lcIllegal c s := by
    rw [lcBret, if_neg thread, if_neg (by rcases base with h | h <;> simp [h])]
  have taken := coreBecame_lcTrap (s := s.draw.2) (c := c) 2 (s.draw.1.setWidth 32) thread
  have illegal : CoreBecame s.draw.2 (lcBret c s) c ((s.core c).trapped 2 (s.draw.1.setWidth 32) (s.core c).trapBase) := effect ▸ taken
  exact ⟨_, exec_bret at' ⟨illegal.trapKept.threads, illegal.trapKept.faultDue, illegal.trapKept.st, illegal.trapKept.levelMode⟩,
    _, illegal.trapped.of_cores rfl⟩

/-! ### MRET (R307) -/

/-- A core that returns from a trap. -/
def LcCore.returned (k : LcCore) : LcCore :=
  let k := (k.setCsr 0x300 (if (k.csrOf 0x300).getLsbD 7 then 0x88 else 0x80)).modBank k.cur (fun b => { b with bprog := k.csrOf 0x7C1 })
  { k with pc := k.csrOf 0x341, minstret := k.minstret + 1 }

theorem LcCore.returned_keeps (k : LcCore) : k.returned = { k with
    banks := k.returned.banks, csr := k.returned.csr, pc := k.returned.pc, minstret := k.minstret + 1 } := by
  dsimp only [LcCore.returned, LcCore.modBank, LcCore.setCsr]

theorem exec_mret {s : State} {c len : Nat} (at' : LcAt s c .mret len) (kept : BoundaryKept s (lcMret c s) c) :
    exec (.mret c .clean) s = .next (lcMret c s) := by
  show execMret c .clean s = _
  unfold execMret
  exact lcRow_acts at' (if_pos rfl) kept

theorem mret_returns (s : State) (c len : Nat) (at' : LcAt s c .mret len) : Answers (.mret c .clean) s (fun t =>
    let k := s.core c
    let h := t.core c
    h.pc = k.csrOf 0x341 ∧ h.csrOf 0x300 = (if (k.csrOf 0x300).getLsbD 7 then 0x88#32 else 0x80#32) ∧ (h.bank k.cur).bprog = k.csrOf 0x7C1 ∧ h.cur = k.cur ∧
    h.minstret = k.minstret + 1 ∧ (∀ r, h.reg r = k.reg r) ∧ OtherCores s t c ∧ t = { s with cores := t.cores }) := by
  have became : CoreBecame s (lcMret c s) c (s.core c).returned := coreBecame_modCore s c LcCore.returned
  have kept : BoundaryKept s (lcMret c s) c := by
    rw [LcCore.returned_keeps] at became
    exact became.kept rfl rfl rfl
  refine ⟨_, exec_mret at' kept, ?_⟩
  dsimp only
  rw [became.core, LcCore.returned_keeps]
  refine ⟨?_, ?_, ?_, rfl, rfl, fun r => LcCore.reg_congr ?_ r, became.others, became.only⟩
  · simp [LcCore.returned, LcCore.modBank, LcCore.csrOf, LcCore.setCsr, Tab.get_set_ne]
  · simp [LcCore.returned, LcCore.modBank, LcCore.csrOf, LcCore.setCsr]
  · simp [LcCore.returned, LcCore.bank, LcCore.modBank, LcCore.csrOf, LcCore.setCsr]
  · simp [LcCore.returned, LcCore.bank, LcCore.modBank, LcCore.setCsr]

/-! ### XBREADY (R285) -/

/-- A core that has written 1 to XBREADY: in THREAD mode its boot context ends. -/
def LcCore.madeReady (k : LcCore) : LcCore :=
  let k := k.setCsr 0x7C9 1
  if k.levelMode || k.booted then k
  else
    let k : LcCore := { k.modBank 1 (fun b => ({ b with bpc := if k.cur = 1 then k.pc else b.bpc } : Bank).freed) with booted := true }
    if k.cur = 1 then { k with idle := true } else k

theorem LcCore.madeReady_ready {k : LcCore} (ready : k.levelMode = true ∨ k.booted = true) : k.madeReady = k.setCsr 0x7C9 1 := by
  have on : ((k.setCsr 0x7C9 1).levelMode || (k.setCsr 0x7C9 1).booted) = true := by rw [Bool.or_eq_true]; exact ready
  exact if_pos on

theorem LcCore.madeReady_boot {k : LcCore} (thread : k.levelMode = false) (boot : k.booted = false) :
    ∃ bpc : Bank → Word, k.madeReady = { (k.setCsr 0x7C9 1).modBank 1 (fun b => ({ b with bpc := bpc b } : Bank).freed) with
      booted := true, idle := decide (k.cur = 1) || k.idle } := by
  have off : ¬((k.setCsr 0x7C9 1).levelMode || (k.setCsr 0x7C9 1).booted) = true := by
    rw [Bool.or_eq_true]
    rintro (h | h)
    · exact absurd (thread.symm.trans h) (by decide)
    · exact absurd (boot.symm.trans h) (by decide)
  refine ⟨fun b => if k.cur = 1 then k.pc else b.bpc, (if_neg off).trans ?_⟩
  by_cases one : k.cur = 1
  · rw [decide_eq_true one]
    exact if_pos one
  · rw [decide_eq_false one]
    exact if_neg one

theorem LcCore.madeReady_keeps (k : LcCore) : k.madeReady =
    { k with csr := Tab.set 0 k.csr 0x7C9 1, banks := k.madeReady.banks, booted := k.madeReady.booted, idle := k.madeReady.idle } := by
  by_cases ready : k.levelMode = true ∨ k.booted = true
  · rw [LcCore.madeReady_ready ready]
    rfl
  · simp only [not_or, Bool.not_eq_true] at ready
    obtain ⟨bpc, boot⟩ := LcCore.madeReady_boot ready.1 ready.2
    rw [boot]
    rfl

theorem LcCore.madeReady_csrOf (k : LcCore) : k.madeReady.csrOf 0x7C9 = 1 := by
  rw [LcCore.madeReady_keeps, LcCore.csrOf, Tab.get_set_same]

theorem exec_xbreadyWrite {s : State} {c len rd : Nat} (at' : LcAt s c (.xbready rd) len) (kept : BoundaryKept s (lcReady c len rd s) c) :
    exec (.xbreadyWrite c .clean) s = .next (lcReady c len rd s) := by
  show execXbreadyWrite c .clean s = _
  unfold execXbreadyWrite
  exact lcRow_acts at' rfl kept

theorem xbreadyWrite_readies (s : State) (c len rd : Nat) (at' : LcAt s c (.xbready rd) len) : Answers (.xbreadyWrite c .clean) s (fun t =>
    let k := s.core c
    let h := t.core c
    h.csrOf 0x7C9 = 1 ∧ h.pc = k.pc + BitVec.ofNat 32 len ∧ OtherCores s t c ∧ t = { s with cores := t.cores } ∧
    (k.levelMode = true ∨ k.booted = true → (∀ r, r < 32 → h.reg r = if r = rd ∧ rd ≠ 0 then k.csrOf 0x7C9 else k.reg r) ∧ h.idle = k.idle) ∧
    (k.levelMode = false → k.booted = false → h.booted = true ∧ (h.bank 1).st = .free ∧ (h.bank 1).thread = none ∧ h.idle = decide (k.cur = 1))) := by
  have fields := (s.core c).setReg_banks rd ((s.core c).csrOf 0x7C9)
  have regs := (s.core c).setReg_reg rd
  have wrote := coreBecame_lcWrite s c len rd ((s.core c).csrOf 0x7C9)
  have busy : (s.core c).idle = false := by
    obtain ⟨runs, _⟩ := at'
    simp only [State.lcRuns, Bool.and_eq_true, Bool.not_eq_true'] at runs
    exact runs.1.2
  generalize written : (s.core c).setReg rd ((s.core c).csrOf 0x7C9) = w at fields wrote
  have became : CoreBecame s (lcReady c len rd s) c _ := wrote.modCore LcCore.madeReady
  refine ⟨_, exec_xbreadyWrite at' ?_, ?_⟩
  · rw [LcCore.madeReady_keeps, fields] at became
    exact became.kept rfl rfl rfl
  · dsimp only
    rw [became.core]
    refine ⟨LcCore.madeReady_csrOf _, ?_, became.others, became.only, fun ready => ?_, fun thread boot => ?_⟩
    · rw [LcCore.madeReady_keeps]
    · rw [LcCore.madeReady_ready (by rw [fields]; exact ready)]
      refine ⟨fun r _ => ?_, by rw [fields]; rfl⟩
      rw [← regs r, written]
      exact LcCore.reg_congr rfl r
    · obtain ⟨bpc, freed⟩ := LcCore.madeReady_boot
        (k := { w with pc := (s.core c).pc + BitVec.ofNat 32 len, minstret := (s.core c).minstret + 1 }) (by rw [fields]; exact thread)
        (by rw [fields]; exact boot)
      rw [freed]
      refine ⟨rfl, ?_, ?_, ?_⟩
      · simp [LcCore.bank, LcCore.modBank, Bank.freed]
      · simp [LcCore.bank, LcCore.modBank, Bank.freed]
      · rw [fields]
        dsimp only
        rw [busy, Bool.or_false]

/-! ### XBWDATA (R284) -/

theorem putBankItem_keeps (v : Word) (k : LcCore) : putBankItem v k = { k with banks := (putBankItem v k).banks } := rfl

theorem putBankItem_bank_ne (v : Word) (k : LcCore) {j : Nat} (other : j ≠ fld (k.csrOf 0x7C7) 12 8) : (putBankItem v k).bank j = k.bank j :=
  k.modBank_ne _ other

/-- The item that XBWSEL names takes the value written. -/
theorem putBankItem_item (v : Word) (k : LcCore) {i : Nat} (item : fld (k.csrOf 0x7C7) 5 0 = i) :
    let h := (putBankItem v k).bank (fld (k.csrOf 0x7C7) 12 8)
    (i = 0 → h.bpc = v) ∧ (1 ≤ i → i < 32 → Tab.get 0 h.x i = v) ∧ (i = 32 → h.bprog = v &&& 0xFFFFFFFE#32) ∧ (i = 33 → h.bwin = v &&& 0x3FFFF#32) := by
  dsimp only
  rw [putBankItem, LcCore.modBank_same, item]
  refine ⟨fun h => by subst h; rfl, fun least most => ?_, fun h => by subst h; rfl, fun h => by subst h; rfl⟩
  split
  · omega
  · omega
  · omega
  · rw [if_pos most]
    exact Tab.get_set_same ..

theorem exec_xbwdataWrite {s : State} {c len rd : Nat} {v : Word} (at' : LcAt s c (.xbwdata rd v) len)
    (kept : BoundaryKept s ((lcWrite c len rd (bankItem (s.core c)) s).modCore c (putBankItem v)) c) :
    exec (.xbwdataWrite c .clean) s = .next ((lcWrite c len rd (bankItem (s.core c)) s).modCore c (putBankItem v)) := by
  show execXbwdataWrite c .clean s = _
  unfold execXbwdataWrite
  exact lcRow_acts (f := fun s => (lcWrite c len rd (bankItem (s.core c)) s).modCore c (putBankItem v)) at' rfl kept

theorem xbwdataWrite_writes (s : State) (c len rd : Nat) (v : Word) (at' : LcAt s c (.xbwdata rd v) len) : Answers (.xbwdataWrite c .clean) s (fun t =>
    let k := s.core c
    let h := t.core c
    let b := (k.csrOf 0x7C7).toNat / 256 % 32
    let i := (k.csrOf 0x7C7).toNat % 64
    (i = 0 → (h.bank b).bpc = v) ∧ (1 ≤ i → i < 32 → Tab.get 0 (h.bank b).x i = v) ∧ (i = 32 → (h.bank b).bprog = v &&& 0xFFFFFFFE#32) ∧
    (i = 33 → (h.bank b).bwin = v &&& 0x3FFFF#32) ∧ (∀ j, j ≠ b → j ≠ k.cur → h.bank j = k.bank j) ∧ h.pc = k.pc + BitVec.ofNat 32 len ∧
    (rd ≠ 0 → b ≠ k.cur → h.reg rd = bankItem k) ∧ OtherCores s t c ∧ t = { s with cores := t.cores }) := by
  have fields := (s.core c).setReg_banks rd (bankItem (s.core c))
  have regs := (s.core c).setReg_reg rd rd (bankItem (s.core c))
  have banks := fun j => (s.core c).setReg_bank_ne (r := rd) (b := j) (bankItem (s.core c))
  have wrote := coreBecame_lcWrite s c len rd (bankItem (s.core c))
  generalize (s.core c).setReg rd (bankItem (s.core c)) = w at fields wrote regs banks
  have became : CoreBecame s ((lcWrite c len rd (bankItem (s.core c)) s).modCore c (putBankItem v)) c _ := wrote.modCore (putBankItem v)
  have csr : w.csrOf 0x7C7 = (s.core c).csrOf 0x7C7 := by rw [fields]; rfl
  have cur : w.cur = (s.core c).cur := by rw [fields]
  have sel : fld (w.csrOf 0x7C7) 12 8 = ((s.core c).csrOf 0x7C7).toNat / 256 % 32 := by rw [csr]; rfl
  refine ⟨_, exec_xbwdataWrite at' ?_, ?_⟩
  · rw [putBankItem_keeps, fields] at became
    exact became.kept rfl rfl rfl
  · dsimp only
    rw [became.core, ← sel]
    obtain ⟨bpc, x, bprog, bwin⟩ := putBankItem_item v
      { w with pc := (s.core c).pc + BitVec.ofNat 32 len, minstret := (s.core c).minstret + 1 } (i := ((s.core c).csrOf 0x7C7).toNat % 64)
      (by rw [← csr]; exact fld_low _ 5)
    refine ⟨bpc, x, bprog, bwin, fun j other notCur => (putBankItem_bank_ne v _ other).trans (banks j notCur), rfl, fun some other => ?_, became.others,
      became.only⟩
    rw [← (regs.trans (if_pos ⟨rfl, some⟩))]
    refine LcCore.reg_congr (congrArg Bank.x (putBankItem_bank_ne v _ ?_)) rd
    rw [← cur] at other
    exact other.symm

/-! ### Local sources (R290-R292) -/

/-- Taking a source ends none but the process data's, for its core (log 32). -/
theorem sourceTaken_keeps (c n : Nat) (s : State) : sourceTaken c n s = { s with pdoIrq := (sourceTaken c n s).pdoIrq } := by
  unfold sourceTaken; split <;> rfl

theorem sourceTaken_pdoIrq (c : Nat) (s : State) : (sourceTaken c 19 s).pdoIrq.getLsbD c = false := by
  show (s.pdoIrq &&& ~~~(1#8 <<< c)).getLsbD c = false
  by_cases low : c < 8 <;> simp [low]

theorem sourceTaken_other {c n : Nat} (s : State) (other : n ≠ 19) : sourceTaken c n s = s := if_neg other

/-- A source's entry changes its core and, of the other sources, at most the process data's. -/
theorem sourceTaken_became {s t : State} {c : Nat} {k : LcCore} (became : CoreBecame s t c k) (n : Nat) : (sourceTaken c n t).core c = k ∧
    OtherCores s (sourceTaken c n t) c ∧ sourceTaken c n t = { s with cores := (sourceTaken c n t).cores, pdoIrq := (sourceTaken c n t).pdoIrq } := by
  rw [sourceTaken_keeps]
  refine ⟨became.core, became.others, ?_⟩
  rw [became.only]

theorem lcSourceTrap_traps (s : State) (c src : Nat) (mode : (s.core c).levelMode = false) (wins : sourceWins s c src = true) :
    Answers (.lcSourceTrap c src) s (fun t =>
      let k := s.core c
      Trapped s t c (BitVec.ofNat 32 (0x80000000 + 16 + src)) 0 (if (k.csrOf 0x305).getLsbD 0 then k.trapBase + BitVec.ofNat 32 (4 * (16 + src)) else k.trapBase) ∧
      t = { s with cores := t.cores, pdoIrq := t.pdoIrq } ∧ (src ≠ 19 → t.pdoIrq = s.pdoIrq) ∧ (src = 19 → t.pdoIrq.getLsbD c = false)) := by
  have became := coreBecame_enterTrap s c (BitVec.ofNat 32 (0x80000000 + 16 + src)) 0 (trapVector (s.core c) (some (16 + src)))
  obtain ⟨core, others, only⟩ := sourceTaken_became became src
  refine ⟨_, event_of (by simp [mode, wins]) _ _, trapped_of_core core others, only, fun other => ?_, fun process => ?_⟩
  · rw [sourceTaken_other _ other, became.only]
  · subst process
    exact sourceTaken_pdoIrq ..

/-- A core that enters the level of a source. -/
def LcCore.raised (src : Nat) (k : LcCore) : LcCore :=
  let l := sourceLevel k src
  let k := (k.modBank k.cur (fun b => { b with bpc := k.pc })).modBank (l + 1) (fun b => { b with st := .resident })
  { k with stack := k.level :: k.stack, level := l, cur := l + 1,
           pc := (k.csrOf 0x305 &&& 0xFFFFFFFC#32) + BitVec.ofNat 32 (4 * (16 + src)) }

theorem lcLevelEntry_raises (s : State) (c src : Nat) (mode : (s.core c).levelMode = true) (wins : sourceWins s c src = true)
    (other : sourceLevel (s.core c) src + 1 ≠ (s.core c).cur) : Answers (.lcLevelEntry c src) s (fun t =>
      let k := s.core c
      let h := t.core c
      h.level = sourceLevel k src ∧ h.stack = k.level :: k.stack ∧ h.cur = sourceLevel k src + 1 ∧ h.bank k.cur = { k.bank k.cur with bpc := k.pc } ∧
      h.bank (sourceLevel k src + 1) = { k.bank (sourceLevel k src + 1) with st := .resident } ∧
      h.pc = k.trapBase + BitVec.ofNat 32 (4 * (16 + src)) ∧ h.csr = k.csr ∧ OtherCores s t c ∧ t = { s with cores := t.cores, pdoIrq := t.pdoIrq }) := by
  obtain ⟨core, others, only⟩ := sourceTaken_became (coreBecame_modCore s c (LcCore.raised src)) src
  have run : exec (.lcLevelEntry c src) s = .next (sourceTaken c src (s.modCore c (LcCore.raised src))) := event_of (by simp [mode, wins]) _ _
  refine ⟨_, run, ?_⟩
  dsimp only
  rw [core]
  refine ⟨rfl, rfl, rfl, ?_, ?_, rfl, rfl, others, only⟩
  · simp [LcCore.raised, LcCore.bank, LcCore.modBank, Tab.get_modify_ne, other.symm]
  · simp [LcCore.raised, LcCore.bank, LcCore.modBank, Tab.get_modify_ne, other]

end Sys2Proof.Machine
end

section
/-! Proofs of 06_ladle_cores.md (R286, R294-R301, R308): a dispatch that a core takes up, and the spill unit. -/

namespace Sys2Proof.Machine

@[simp] theorem State.modThread_same (s : State) (t : Nat) (g : Thread → Thread) : (s.modThread t g).thread t = g (s.thread t) := Tab.get_modify_same ..

theorem State.modThread_ne (s : State) {t u : Nat} (g : Thread → Thread) (other : u ≠ t) : (s.modThread t g).thread u = s.thread u :=
  Tab.get_modify_ne _ _ _ _ _ other

/-- Core `c` has become `k` and thread `u` has become `x`; of the rest of the cores and threads nothing changed, and nothing outside Cupola. -/
structure CoreTook (s t : State) (c : Nat) (k : LcCore) (u : Nat) (x : Thread) : Prop where
  core : t.core c = k
  others : OtherCores s t c
  thread : t.thread u = x
  threads : ∀ v, v ≠ u → t.thread v = s.thread v
  only : t = { s with cores := t.cores, cup := t.cup }

theorem coreTook (s : State) (c : Nat) (g : LcCore → LcCore) (u : Nat) (f : Thread → Thread) :
    CoreTook s ((s.modCore c g).modThread u f) c (g (s.core c)) u (f (s.thread u)) where
  core := s.modCore_same c g
  others _ other := s.modCore_ne g other
  thread := (s.modCore c g).modThread_same u f
  threads _ other := (s.modCore c g).modThread_ne f other
  only := rfl

theorem CoreTook.modCup {s t : State} {c u : Nat} {k : LcCore} {x : Thread} (h : CoreTook s t c k u x) (f : Cupola → Cupola)
    (keeps : ∀ y, (f y).threads = y.threads) : CoreTook s (t.modCup f) c k u x where
  core := h.core
  others := h.others
  thread := (congrArg (Tab.get Thread.reset · u) (keeps t.cup)).trans h.thread
  threads v other := (congrArg (Tab.get Thread.reset · v) (keeps t.cup)).trans (h.threads v other)
  only := by
    rw [h.only]
    rfl

/-! ### A dispatch accepted by an idle core (R286, R299) -/

/-- A core that takes up thread `x` in bank `b`. -/
def LcCore.switched (b : Nat) (x : Thread) (k : LcCore) : LcCore :=
  let k := k.modBank b (fun y => { y with
    x := x.held.foldl (fun m e => Tab.set 0 m e.1 e.2) y.x
    result := match x.result with
      | some r => r.1
      | none => y.result
    rval := match x.result with
      | some r => r.2
      | none => y.rval
    last := k.clock + 1 })
  { k with cur := b, idle := false, pc := if x.fresh then x.entry else (k.bank b).bpc, clock := k.clock + 1, waiting := none }

/-- A thread that runs in bank `b` of core `c`. -/
def Thread.runsIn (c b : Nat) (x : Thread) : Thread :=
  { x with st := .running, fresh := false, held := [], operands := 0, result := none, home := c, bank := some (c, b) }

theorem preemptCurrent_idle {s : State} {c : Nat} (idle : (s.core c).idle = true) : preemptCurrent c s = s := by
  simp [preemptCurrent, LcCore.thread, idle]

/-- An idle core leaves no thread. -/
theorem lcSwitch_idle {s : State} {c : Nat} (t b : Nat) (idle : (s.core c).idle = true) : lcSwitch c t b s =
    ((s.modCore c (LcCore.switched b (s.thread t))).modThread t (Thread.runsIn c b)).modCup (fun u =>
      { u with dispatches := u.dispatches + 1, sent := Tab.set none u.sent c none }) := by
  rw [lcSwitch, preemptCurrent_idle idle]
  rfl

section
variable {s : State} {c u : Nat}

/-- The conditions under which an idle core takes up what it is to take up. -/
theorem exec_lcDispatchAccept (next : nextThread s c = some u) (on : s.domOn 86 = true) (core : c < 8) (runs : (s.core c).st = .running)
    (mode : (s.core c).levelMode = false) (booted : (s.core c).booted = true) (idle : (s.core c).idle = true) (boundary : (s.core c).boundary = true) :
    (∀ b, (s.thread u).bank = some (c, b) → ((s.core c).bank b).st = .resident → ((s.core c).bank b).filling = false →
      exec (.lcDispatchAccept c) s = .next (lcSwitch c u b s)) ∧
    ((s.thread u).bank = none → (s.core c).banksIn .free ≠ [] → exec (.lcDispatchAccept c) s =
      .next ((s.modCore c (fun k => { k with waiting := some u })).modCup (fun x => { x with sent := Tab.set none x.sent c none }))) := by
  have open' : (s.domOn 86 && decide (c < 8) && decide ((s.core c).st = .running) && !(s.core c).levelMode && (s.core c).booted && (s.core c).boundary &&
      !(sourcePending s c && !(s.core c).idle)) = true := by
    simp [on, core, runs, mode, booted, idle, boundary]
  refine ⟨fun b bank resident filled => ?_, fun bank free => ?_⟩
  · show execLcDispatchAccept c s = _
    simp only [execLcDispatchAccept, next, bank]
    rw [event_of open', if_pos trivial, if_pos (by simp [resident, filled])]
  · show execLcDispatchAccept c s = _
    simp only [execLcDispatchAccept, next, bank]
    rw [event_of open', if_neg (by simp [free])]

theorem lcDispatchAccept_resumes {b : Nat} (idle : (s.core c).idle = true) (run : exec (.lcDispatchAccept c) s = .next (lcSwitch c u b s)) :
    Answers (.lcDispatchAccept c) s (fun t =>
      let k := s.core c
      let h := t.core c
      let x := s.thread u
      h.cur = b ∧ h.idle = false ∧ h.waiting = none ∧ h.pc = (if x.fresh then x.entry else (k.bank b).bpc) ∧
      (x.held = [] → (h.bank b).x = (k.bank b).x) ∧
      (t.thread u).st = .running ∧ (t.thread u).fresh = false ∧ (t.thread u).held = [] ∧ (t.thread u).bank = some (c, b) ∧ (t.thread u).home = c ∧
      (∀ v, v ≠ u → t.thread v = s.thread v) ∧ t.cup.dispatches = s.cup.dispatches + 1 ∧ (∀ j, j ≠ b → h.bank j = k.bank j) ∧ OtherCores s t c ∧
      t = { s with cores := t.cores, cup := t.cup }) := by
  rw [lcSwitch_idle u b idle] at run
  have took := (coreTook s c (LcCore.switched b (s.thread u)) u (Thread.runsIn c b)).modCup
    (fun u => { u with dispatches := u.dispatches + 1, sent := Tab.set none u.sent c none }) (fun _ => rfl)
  refine ⟨_, run, ?_⟩
  dsimp only
  rw [took.core, took.thread]
  refine ⟨rfl, rfl, rfl, ?_, fun none => ?_, rfl, rfl, rfl, rfl, rfl, took.threads, rfl, fun j other => ?_, took.others, took.only⟩
  · simp [LcCore.switched, LcCore.bank, LcCore.modBank]
  · simp [LcCore.switched, LcCore.bank, LcCore.modBank, none]
  · simp [LcCore.switched, LcCore.bank, LcCore.modBank, Tab.get_modify_ne, other]

theorem lcDispatchAccept_waits (run : exec (.lcDispatchAccept c) s =
      .next ((s.modCore c (fun k => { k with waiting := some u })).modCup (fun x => { x with sent := Tab.set none x.sent c none }))) :
    Answers (.lcDispatchAccept c) s (fun t =>
      t.core c = { s.core c with waiting := some u } ∧ Tab.get none t.cup.sent c = none ∧ OtherCores s t c ∧ (∀ v, t.thread v = s.thread v) ∧
      t = { s with cores := t.cores, cup := t.cup }) := by
  have became := coreBecame_modCore s c (fun k => { k with waiting := some u })
  exact ⟨_, run, became.core, Tab.get_set_same none none s.cup.sent c, became.others, fun _ => rfl, rfl⟩

end

/-! ### Words of shared SRAM that the spill unit writes (R294, R296) -/

/-- What becomes of a value that stands in the table and is not the default, before or after. -/
theorem Tab.get_mapVals {α : Type} [DecidableEq α] {d : α} {g : Nat → α → α} : ∀ {t : Tab α} {k : Nat}, Tab.get d t k ≠ d → g k (Tab.get d t k) ≠ d →
    Tab.get d (Tab.mapVals d g t) k = g k (Tab.get d t k)
  | [], _, stands, _ => absurd rfl stands
  | (j, v) :: t, k, stands, stays => by
    by_cases here : k = j
    · subst here
      simp only [Tab.get, if_true] at stays ⊢
      rw [Tab.mapVals, if_neg stays, Tab.get, if_pos rfl]
    · simp only [Tab.get, here, if_false] at stands stays ⊢
      rw [Tab.mapVals]
      split
      · exact Tab.get_mapVals stands stays
      · rw [Tab.get, if_neg here]
        exact Tab.get_mapVals stands stays

/-- What the keys given hold, and the others. -/
theorem Tab.get_ofFn {α : Type} [DecidableEq α] (d : α) (g : Nat → α) (k : Nat) :
    ∀ ks : List Nat, Tab.get d (Tab.ofFn d g ks) k = if k ∈ ks then g k else d
  | [] => rfl
  | j :: ks => by
    have rest := Tab.get_ofFn d g k ks
    rw [Tab.ofFn]
    by_cases here : k = j
    · subst here
      rw [if_pos List.mem_cons_self]
      split
      · next default => rw [rest, default, ite_self]
      · exact if_pos rfl
    · simp only [List.mem_cons, here, false_or]
      split
      · exact rest
      · exact (if_neg here).trans rest

section
variable (s : State) (c i : Nat) (v : NWord)

@[simp] theorem State.sramPut_same : (s.sramPut c i v).sramWord i = v := Tab.get_set_same ..

theorem State.sramPut_ne {j : Nat} (other : j ≠ i) : (s.sramPut c i v).sramWord j = s.sramWord j := Tab.get_set_ne _ _ _ _ _ other

/-- A core whose spill unit works loses at most its reservation. -/
theorem State.sramPut_core {d : Nat} (works : (s.core d).unit' ≠ .idle) :
    ∃ r, (s.sramPut c i v).core d = { s.core d with resv := r } := by
  have stands : s.core d ≠ LcCore.reset := fun same => works (by rw [same]; rfl)
  have only : ∀ (p : Prop) [Decidable p] (k : LcCore), k.unit' ≠ .idle → (if p then { k with resv := none } else k) ≠ LcCore.reset := by
    intro p _ k busy same
    have idle := congrArg LcCore.unit' same
    split at idle <;> exact busy idle
  have mapped : (s.sramPut c i v).core d = _ := Tab.get_mapVals stands (only _ _ works)
  rw [mapped]
  split
  · exact ⟨none, rfl⟩
  · exact ⟨(s.core d).resv, rfl⟩

end

/-- The spill unit writes words of shared SRAM, each at its place. -/
def spillWords (place : Nat → Nat) (w : Nat → NWord) (l : List Nat) (s : State) : State := l.foldl (fun s i => s.sramPut 8 (place i) (w i)) s

section
variable (place : Nat → Nat) (w : Nat → NWord)

theorem spillWords_cons (i : Nat) (l : List Nat) (s : State) : spillWords place w (i :: l) s = spillWords place w l (s.sramPut 8 (place i) (w i)) := rfl

theorem spillWords_only (l : List Nat) (s : State) :
    spillWords place w l s = { s with cores := (spillWords place w l s).cores, sram := (spillWords place w l s).sram } := by
  induction l generalizing s with
  | nil => rfl
  | cons i l rest =>
    rw [spillWords_cons]
    exact rest (s.sramPut 8 (place i) (w i))

theorem spillWords_ne {j : Nat} (l : List Nat) (s : State) (apart : ∀ i ∈ l, j ≠ place i) : (spillWords place w l s).sramWord j = s.sramWord j := by
  induction l generalizing s with
  | nil => rfl
  | cons i l rest =>
    rw [spillWords_cons, rest _ (fun k listed => apart k (List.mem_cons_of_mem i listed)), s.sramPut_ne 8 _ _ (apart i List.mem_cons_self)]

theorem spillWords_same {i : Nat} (l : List Nat) (s : State) (listed : i ∈ l) (distinct : ∀ k ∈ l, place k = place i → k = i) :
    (spillWords place w l s).sramWord (place i) = w i := by
  induction l generalizing s with
  | nil => exact absurd listed List.not_mem_nil
  | cons k l rest =>
    rw [spillWords_cons]
    by_cases later : i ∈ l
    · exact rest _ later (fun j listed => distinct j (List.mem_cons_of_mem k listed))
    · obtain rfl : i = k := (List.mem_cons.1 listed).resolve_right later
      have apart : ∀ j ∈ l, place i ≠ place j := fun j listed same => later (distinct j (List.mem_cons_of_mem i listed) same.symm ▸ listed)
      rw [spillWords_ne place w l _ apart, s.sramPut_same]

theorem spillWords_core {c : Nat} (l : List Nat) (s : State) (works : (s.core c).unit' ≠ .idle) :
    ∃ r, (spillWords place w l s).core c = { s.core c with resv := r } := by
  induction l generalizing s with
  | nil => exact ⟨(s.core c).resv, rfl⟩
  | cons i l rest =>
    obtain ⟨first, lost⟩ := s.sramPut_core 8 (place i) (w i) works
    obtain ⟨r, after⟩ := rest (s.sramPut 8 (place i) (w i)) (by rw [lost]; exact works)
    rw [lost] at after
    exact ⟨r, after⟩

end

theorem saveIndex_low (u : Nat) {i : Nat} (low : i < 32) : saveIndex u i = 32 * u + i := if_pos low

theorem saveIndex_high (u : Nat) {i : Nat} (high : 32 ≤ i) : saveIndex u i = 0x20000 + 2 * u + (i - 32) := if_neg (Nat.not_lt.2 high)

/-- The places of a thread's 34 words are apart. -/
theorem saveIndex_inj {u i j : Nat} (thread : u < 4096) (hi : i < 34) (hj : j < 34) (same : saveIndex u i = saveIndex u j) : i = j := by
  unfold saveIndex at same
  split at same <;> split at same <;> omega

theorem bankWord_reg (y : Bank) {i : Nat} (least : 1 ≤ i) (most : i < 32) : bankWord y i = Tab.get 0 y.x i := by
  unfold bankWord
  split
  · omega
  · omega
  · omega
  · rfl

/-! ### Spills (R296-R298, R301) -/

/-- A core whose spill unit starts the spill of bank `b`. -/
def LcCore.spillBegun (b : Nat) (k : LcCore) : LcCore := { k.modBank b (fun y => { y with st := .spilling }) with unit' := .spilling b }

/-- A core whose spill unit has written bank `b`. -/
def LcCore.spillEnded (b : Nat) (k : LcCore) : LcCore := { k.modBank b Bank.freed with unit' := .idle, spills := k.spills + 1 }

/-- A thread without a bank. -/
def Thread.bankless (x : Thread) : Thread := { x with bank := none }

theorem bankSpill_starts (s : State) (c b : Nat) (on : s.domOn 86 = true) (choice : spillChoice s c = some b) :
    Answers (.bankSpill c) s (fun t =>
      (t.core c).unit' = .spilling b ∧ (t.core c).bank b = { (s.core c).bank b with st := .spilling } ∧ (∀ j, j ≠ b → (t.core c).bank j = (s.core c).bank j) ∧
      OtherCores s t c ∧ t = { s with cores := t.cores }) := by
  have became := coreBecame_modCore s c (LcCore.spillBegun b)
  have run : exec (.bankSpill c) s = .next (s.modCore c (LcCore.spillBegun b)) := by
    show execBankSpill c s = _
    rw [execBankSpill, choice]
    exact event_of on _ _
  refine ⟨_, run, ?_⟩
  dsimp only
  rw [became.core]
  refine ⟨rfl, ?_, fun j other => ?_, became.others, became.only⟩
  · simp [LcCore.spillBegun, LcCore.bank, LcCore.modBank]
  · simp [LcCore.spillBegun, LcCore.bank, LcCore.modBank, Tab.get_modify_ne, other]

/-- What a spill of bank `y` writes for word `i`, where the words `bad` are uncorrectable. -/
def spilledWord (y : Bank) (bad : List Nat) (i : Nat) : NWord := { d := bankWord y i, p := bad.contains i }

/-- The save area and the status pair of thread `u` hold bank `y` (R294), and no other word changed. -/
theorem spillWords_bank {u : Nat} (y : Bank) (bad : List Nat) (s : State) (thread : u < 4096) :
    let t := spillWords (saveIndex u) (spilledWord y bad) (List.range 34) s
    t.sramWord (32 * u) = { d := y.bpc, p := bad.contains 0 } ∧
    (∀ i, 1 ≤ i → i < 32 → t.sramWord (32 * u + i) = { d := Tab.get 0 y.x i, p := bad.contains i }) ∧
    t.sramWord (0x20000 + 2 * u) = { d := y.bprog, p := bad.contains 32 } ∧ t.sramWord (0x20001 + 2 * u) = { d := y.bwin, p := bad.contains 33 } ∧
    (∀ j, (j < 32 * u ∨ 32 * u + 32 ≤ j) → j ≠ 0x20000 + 2 * u → j ≠ 0x20001 + 2 * u → t.sramWord j = s.sramWord j) := by
  intro t
  have holds : ∀ i, i < 34 → t.sramWord (saveIndex u i) = spilledWord y bad i := fun i low =>
    spillWords_same _ _ _ s (List.mem_range.2 low) (fun k listed => saveIndex_inj thread (List.mem_range.1 listed) low)
  have low : ∀ i, i < 32 → t.sramWord (32 * u + i) = spilledWord y bad i := fun i h => by rw [← saveIndex_low u h, holds i (by omega)]
  have high : ∀ i, i < 2 → t.sramWord (0x20000 + 2 * u + i) = spilledWord y bad (32 + i) := fun i h => by
    rw [← holds (32 + i) (by omega), saveIndex_high u (by omega), Nat.add_sub_cancel_left]
  refine ⟨low 0 (by decide), fun i least most => ?_, high 0 (by decide), ?_, fun j area pair pair' => ?_⟩
  · rw [low i most, spilledWord, bankWord_reg y least most]
  · rw [show 0x20001 + 2 * u = 0x20000 + 2 * u + 1 by omega, high 1 (by decide)]
    rfl
  · refine spillWords_ne _ _ _ s fun i listed same => ?_
    have few := List.mem_range.1 listed
    unfold saveIndex at same
    split at same <;> omega

theorem bankSpillComplete_writes (s : State) (c b u : Nat) (bad : List Nat) (spilling : (s.core c).unit' = .spilling b)
    (bound : ((s.core c).bank b).thread = some u) (thread : u < 4096) : Answers (.bankSpillComplete c [] bad) s (fun t =>
      let y := (s.core c).bank b
      t.sramWord (32 * u) = { d := y.bpc, p := bad.contains 0 } ∧
      (∀ i, 1 ≤ i → i < 32 → t.sramWord (32 * u + i) = { d := Tab.get 0 y.x i, p := bad.contains i }) ∧
      t.sramWord (0x20000 + 2 * u) = { d := y.bprog, p := bad.contains 32 } ∧ t.sramWord (0x20001 + 2 * u) = { d := y.bwin, p := bad.contains 33 } ∧
      (∀ j, (j < 32 * u ∨ 32 * u + 32 ≤ j) → j ≠ 0x20000 + 2 * u → j ≠ 0x20001 + 2 * u → t.sramWord j = s.sramWord j) ∧
      (t.core c).unit' = .idle ∧ ((t.core c).bank b).st = .free ∧ (t.core c).spills = (s.core c).spills + 1 ∧ t.thread u = { s.thread u with bank := none } ∧
      (∀ v, v ≠ u → t.thread v = s.thread v) ∧ t = { s with cores := t.cores, sram := t.sram, cup := t.cup }) := by
  obtain ⟨bpc, regs, bprog, bwin, rest⟩ := spillWords_bank ((s.core c).bank b) bad s thread
  have only := spillWords_only (saveIndex u) (spilledWord ((s.core c).bank b) bad) (List.range 34) s
  obtain ⟨r, core⟩ := spillWords_core (c := c) (saveIndex u) (spilledWord ((s.core c).bank b) bad) (List.range 34) s
    (by rw [spilling]; exact SpillUnit.noConfusion)
  have run : exec (.bankSpillComplete c [] bad) s = .next (((spillWords (saveIndex u) (spilledWord ((s.core c).bank b) bad) (List.range 34) s).modCore c
      (LcCore.spillEnded b)).modThread u Thread.bankless) := by
    show execBankSpillComplete c [] bad s = _
    simp only [execBankSpillComplete, spilling, bound]
    rfl
  generalize spillWords (saveIndex u) (spilledWord ((s.core c).bank b) bad) (List.range 34) s = m at bpc regs bprog bwin rest only core run
  have took := coreTook m c (LcCore.spillEnded b) u Thread.bankless
  have threads : ∀ v, m.thread v = s.thread v := fun v => by rw [only]; rfl
  refine ⟨_, run, bpc, regs, bprog, bwin, rest, ?_⟩
  rw [took.core, took.thread, core, threads]
  refine ⟨rfl, ?_, rfl, rfl, fun v other => (took.threads v other).trans (threads v), ?_⟩
  · simp [LcCore.spillEnded, LcCore.bank, LcCore.modBank, Bank.freed]
  · obtain ⟨cores, sram, rfl⟩ : ∃ x y, m = { s with cores := x, sram := y } := ⟨_, _, only⟩
    rfl

/-! ### Fills (R296, R297, R300, R301, R308) -/

/-- A core whose spill unit starts the fill of bank `b` for thread `u`. -/
def LcCore.fillBegun (b u : Nat) (k : LcCore) : LcCore :=
  { k.modBank b (fun y => { y with st := .resident, thread := some u, filling := true }) with unit' := .filling b }

theorem bankFill_starts (s : State) (c u b : Nat) (r : List Nat) (on : s.domOn 86 = true) (idle : (s.core c).unit' = .idle)
    (runs : (s.core c).st = .running) (waits : (s.core c).waiting = some u) (free : (s.core c).banksIn .free = b :: r) (bank : (s.thread u).bank = none) :
    Answers (.bankFill c) s (fun t =>
      (t.core c).unit' = .filling b ∧ (t.core c).bank b = { (s.core c).bank b with st := .resident, thread := some u, filling := true } ∧
      t.thread u = { s.thread u with bank := some (c, b) } ∧ OtherCores s t c ∧ t = { s with cores := t.cores, cup := t.cup }) := by
  have took := coreTook s c (LcCore.fillBegun b u) u (fun x => { x with bank := some (c, b) })
  have run : exec (.bankFill c) s = .next ((s.modCore c (LcCore.fillBegun b u)).modThread u (fun x => { x with bank := some (c, b) })) := by
    show execBankFill c s = _
    simp only [execBankFill, waits, free, List.head?_cons]
    exact event_of (by simp [on, idle, runs, bank]) _ _
  refine ⟨_, run, ?_⟩
  dsimp only
  rw [took.core, took.thread]
  refine ⟨rfl, ?_, rfl, took.others, took.only⟩
  simp [LcCore.fillBegun, LcCore.bank, LcCore.modBank]

/-- A core whose spill unit has read bank `b` of thread `u`. -/
def LcCore.fillEnded (s : State) (b u : Nat) (k : LcCore) : LcCore := { k.modBank b (filledBank s u) with unit' := .idle, fills := k.fills + 1 }

theorem bankFillComplete_reads {s : State} {c b u : Nat} (filling : (s.core c).unit' = .filling b) (bound : ((s.core c).bank b).thread = some u)
    (clean : ∀ i, i < 34 → (s.sramWord (saveIndex u i)).p = false) : Answers (.bankFillComplete c [] []) s (fun t =>
      let w (i : Nat) : NWord := s.sramWord (saveIndex u i)
      let y := (t.core c).bank b
      y.bpc = (w 0).d ∧ (∀ i, 1 ≤ i → i < 32 → Tab.get 0 y.x i = (w i).d) ∧ y.bprog = (w 32).d &&& 0xFFFFFFFE#32 ∧ y.bwin = (w 33).d &&& 0x3FFFF#32 ∧
      y.filling = false ∧ y.thread = some u ∧ (t.core c).unit' = .idle ∧ (t.core c).fills = (s.core c).fills + 1 ∧
      (∀ j, j ≠ b → (t.core c).bank j = (s.core c).bank j) ∧ OtherCores s t c ∧ t = { s with cores := t.cores }) := by
  have became := coreBecame_modCore s c (LcCore.fillEnded s b u)
  have none : (List.range 34).find? (fun i => (s.sramWord (saveIndex u i)).p || ([] : List Nat).contains i) = none :=
    List.find?_eq_none.2 fun i listed => by simp [clean i (List.mem_range.1 listed)]
  have run : exec (.bankFillComplete c [] []) s = .next (s.modCore c (LcCore.fillEnded s b u)) := by
    show execBankFillComplete c [] [] s = _
    simp only [execBankFillComplete, filling, bound, List.filter_nil, List.foldl_nil, none]
    rfl
  have regs : (List.range 32).drop 1 = List.range' 1 31 := rfl
  have bank : ((s.core c).fillEnded s b u).bank b = filledBank s u ((s.core c).bank b) := by simp [LcCore.fillEnded, LcCore.bank, LcCore.modBank]
  refine ⟨_, run, ?_⟩
  dsimp only
  rw [became.core, bank]
  refine ⟨rfl, fun i least most => ?_, rfl, rfl, rfl, bound, rfl, rfl, fun j other => ?_, became.others, became.only⟩
  · exact (Tab.get_ofFn ..).trans (if_pos (by rw [regs]; exact List.mem_range'_1.2 ⟨least, most⟩))
  · simp [LcCore.fillEnded, LcCore.bank, LcCore.modBank, Tab.get_modify_ne, other]

/-- A core whose fill of bank `b` has met a poisoned word. -/
def LcCore.fillLost (b : Nat) (k : LcCore) : LcCore := { k.modBank b Bank.freed with unit' := .idle, waiting := none }

/-- A core that enters a bank fault with XBFAULT word `w` (R308). -/
def LcCore.faulted (w : Word) (k : LcCore) : LcCore :=
  let k := if k.idle then k else k.modBank k.cur (fun b => { b with bpc := k.pc })
  let pc := if k.idle then (k.bank k.cur).bpc else k.pc
  { (k.setCsr 0x7C5 w).setCsr 0x7C6 pc with
    cur := 0, pc := k.csrOf 0x7C4, bankFaults := k.bankFaults + 1, lastBfault := w, faultIdle := k.idle, idle := false, stall := .none }

/-- An idle core enters bank 0 after a fill has been lost; the bank it was for is FREE. -/
theorem LcCore.fillLost_faulted {k : LcCore} (b : Nat) (w : Word) (idle : k.idle = true) :
    let h := (k.fillLost b).faulted w
    h.cur = 0 ∧ h.idle = false ∧ h.pc = k.csrOf 0x7C4 ∧ h.bankFaults = k.bankFaults + 1 ∧ h.csrOf 0x7C5 = w ∧ (h.bank b).st = .free := by
  have idle' : (k.fillLost b).idle = true := idle
  refine ⟨rfl, rfl, ?_, ?_, ?_, ?_⟩
  · simp only [LcCore.faulted, idle', if_true]
    rfl
  · simp only [LcCore.faulted, idle', if_true]
    rfl
  · simp [LcCore.faulted, LcCore.csrOf, LcCore.setCsr, Tab.get_set_ne]
  · simp [LcCore.faulted, idle, LcCore.fillLost, LcCore.setCsr, LcCore.bank, LcCore.modBank, Bank.freed]

/-- The word XBFAULT gets (R284). -/
def faultWord (u cause cur : Nat) : Word := BitVec.ofNat 32 (u * 2 ^ 20 + cause * 2 ^ 8 + cur)

theorem bankFault_idle {s : State} {c : Nat} (cause u : Nat) (idle : (s.core c).idle = true) : bankFault c cause (some u) s =
    (reportCore 0x3505 c (s.core c).pc s).modCore c (LcCore.faulted (faultWord u cause (s.core c).cur)) := by
  rw [bankFault, if_neg (by simp [idle])]
  rfl

/-- An idle core enters the bank fault of a fill at once (R278, R301). -/
theorem fillFault_idle {s : State} {c : Nat} (u : Nat) (idle : (s.core c).idle = true) (free : (s.core c).stall = .none) : fillFault c u s =
    (reportCore 0x3505 c (s.core c).pc s).modCore c (LcCore.faulted (faultWord u 2 (s.core c).cur)) := by
  rw [fillFault, if_pos (by simp [free]), bankFault_idle 2 u idle]

theorem bankFillComplete_faults {s : State} {c b u : Nat} (filling : (s.core c).unit' = .filling b) (bound : ((s.core c).bank b).thread = some u)
    (poisoned : ∃ i, i < 34 ∧ (s.sramWord (saveIndex u i)).p = true) (idle : (s.core c).idle = true) (free : (s.core c).stall = .none) :
    Answers (.bankFillComplete c [] []) s (fun t =>
      let h := t.core c
      h.cur = 0 ∧ h.idle = false ∧ h.pc = (s.core c).csrOf 0x7C4 ∧ h.bankFaults = (s.core c).bankFaults + 1 ∧
      h.csrOf 0x7C5 = faultWord u 2 (s.core c).cur ∧ (b ≠ 0 → (h.bank b).st = .free) ∧ (t.thread u).bank = none ∧ Reports s t 0x3504 7 c) := by
  obtain ⟨i, met⟩ : ∃ i, (List.range 34).find? (fun i => (s.sramWord (saveIndex u i)).p || ([] : List Nat).contains i) = some i := by
    obtain ⟨i, low, bad⟩ := poisoned
    refine Option.isSome_iff_exists.1 (List.find?_isSome.2 ⟨i, List.mem_range.2 low, ?_⟩)
    rw [bad, Bool.true_or]
  have took := coreTook s c (LcCore.fillLost b) u Thread.bankless
  have run : exec (.bankFillComplete c [] []) s =
      .next (fillFault c u (reportUnit 0x3504 c u (saveAddr u i) ((s.modCore c (LcCore.fillLost b)).modThread u Thread.bankless))) := by
    show execBankFillComplete c [] [] s = _
    simp only [execBankFillComplete, filling, bound, List.filter_nil, List.foldl_nil, met]
    rfl
  have chill : ((s.modCore c (LcCore.fillLost b)).modThread u Thread.bankless).chill = s.chill := rfl
  generalize (s.modCore c (LcCore.fillLost b)).modThread u Thread.bankless = m at took run chill
  have reported : Reports s (reportUnit 0x3504 c u (saveAddr u i) m) 0x3504 7 c := (reports_reportAt 0x3504 7 c _ _ m).of_chill chill
  have core : (reportUnit 0x3504 c u (saveAddr u i) m).core c = (s.core c).fillLost b := by
    rw [← took.core, State.core, reportUnit, reportAt_cores, State.core]
  have thread : (reportUnit 0x3504 c u (saveAddr u i) m).thread u = (s.thread u).bankless := by
    rw [← took.thread, State.thread, reportUnit, reportAt_cup, State.thread]
  generalize reportUnit 0x3504 c u (saveAddr u i) m = n at reported core thread run
  rw [fillFault_idle u (by rw [core]; exact idle) (by rw [core]; exact free)] at run
  obtain ⟨cur, busy, pc, faults, fault, bank⟩ := LcCore.fillLost_faulted b (faultWord u 2 (n.core c).cur) idle
  refine ⟨_, run, ?_⟩
  dsimp only
  have freed : ((reportCore 0x3505 c (n.core c).pc n).modCore c (LcCore.faulted (faultWord u 2 (n.core c).cur))).thread u = (s.thread u).bankless := by
    rw [← thread, State.thread, State.thread]
    exact congrArg (fun x : Cupola => Tab.get Thread.reset x.threads u) (reportCore_cup ..)
  rw [freed, State.modCore_same, reportCore_core]
  rw [core] at cur busy pc faults fault bank ⊢
  exact ⟨cur, busy, pc, faults, fault, fun _ => bank, rfl, reported.mono (reportsOf_le_report _ n 0x3504 7 c)⟩

/-! ### The statement -/

/-- Settles O26: each return, source, dispatch, spill and fill has its lemma above. -/
theorem ladleReturnsSourcesAndBanks : Obligations.LadleReturnsSourcesAndBanks :=
  ⟨⟨fun s c len at' => ⟨bret_resumes s c len at', bret_lowers s c len at', bret_illegal s c len at'⟩, mret_returns, xbreadyWrite_readies,
    xbwdataWrite_writes, lcSourceTrap_traps, lcLevelEntry_raises⟩,
   fun _ _ _ _ next on core runs mode booted idle boundary =>
    have accepts := exec_lcDispatchAccept next on core runs mode booted idle boundary
    ⟨fun bank resident filled => lcDispatchAccept_resumes idle (accepts.1 _ bank resident filled),
      fun bank free => lcDispatchAccept_waits (accepts.2 bank free)⟩,
   fun s c b on _ choice => bankSpill_starts s c b on choice,
   bankSpillComplete_writes,
   bankFill_starts,
   fun _ _ _ _ filling bound => ⟨fun clean => bankFillComplete_reads filling bound clean,
    fun poisoned idle free => bankFillComplete_faults filling bound poisoned idle free⟩⟩

end Sys2Proof.Machine
end

section
/-! Two statements of 06_ladle_cores.md that fail, each in a state written out: what the command sends, or leaves, is evaluated there. -/

namespace Sys2Proof.Machine

/-! ### A push store of core 16 (R274, R707) -/

/-- Core 16, which the device does not have and the statement does not exclude: it runs, and its stalled push store has got a credit. The node of its
gate, 72 + 16, is the endpoint's. -/
def endpointCoreStalls : State :=
  { State.reset with
    power := { PowerState.reset with pllLocked := true, doms := [(86, { Dom.reset with st := .on })] }
    cores := [(16, { LcCore.reset with st := .running, stall := .push 5 0 false 4 })]
    net := { RunnerState.reset with gates := [(88, { Gate.reset with prod := [(5, { Producer.reset with credits := 1 })] })] } }

/-- The traffic classes of what waits at gate `i` after a command. -/
def classesAfter (i : Nat) (r : Result) : List Nat :=
  match r with
  | .next t => (t.gate i).waiting.map (·.tc)
  | _ => []

/-- The endpoint's queue messages go in TC2 where no DMA engine has the queue (R707). -/
theorem endpointCoreStalls_sends : classesAfter 88 (exec (.lcQueuePush 16 .clean) endpointCoreStalls) = [2] := by decide +kernel

/-- Refutes O25: the stalled push store of `endpointCoreStalls` is sent in TC2, and the statement, which bounds no core number where a store is stalled, says
TC0. -/
theorem not_ladleQueuesWindowAndMultiples : ¬ Obligations.LadleQueuesWindowAndMultiples := by
  rintro ⟨⟨push, _⟩, _⟩
  obtain ⟨_, _, stalled, _⟩ := push endpointCoreStalls 16 5 4 0 false
  obtain ⟨t, ran, _, ⟨waits, _⟩, _⟩ := stalled rfl rfl ⟨by decide, rfl, .inl rfl⟩ (by decide) rfl
  have run : exec (.lcQueuePush 16 .clean) endpointCoreStalls = .next t := ran
  have sends := endpointCoreStalls_sends
  rw [run, classesAfter, waits] at sends
  exact absurd sends (by decide)

/-! ### RESTART of a halted core whose CANCEL store still waits (R278, R312, R315) -/

/-- Core 0 is HALTED and its threads are still to be placed, but its CANCEL store still waits for thread 5, whose cancel may take effect, and behind the
store a bank fault of bank 0. -/
def haltedCoreCancels : State :=
  { State.reset with
    power := { PowerState.reset with pllLocked := true, doms := [(86, { Dom.reset with st := .on })] }
    dict := { DictState.reset with
      paths := [(127, { Path.reset with session := 1 })]
      sessions := [(1, { Session.reset with isOpen := true, path := 127, level := 2 })] }
    ecat := { Ecat.reset with al := .preop }
    loader := { Loader.reset with
      released := true, actValid := true
      slots := [(0, { MouldSlot.reset with areas := [(1, { MouldArea.reset with st := .valid })] })] }
    cup := { Cupola.reset with threads := [(5, { Thread.reset with cancelAsked := true })] }
    cores := [(0, { LcCore.reset with st := .halted, placeDue := true, stall := .cancel 5, faultDue := some 6 })] }

/-- Whether the threads of core `c` are to be placed after a command. -/
def placeDueAfter (c : Nat) (r : Result) : Bool :=
  match r with
  | .next t => (t.core c).placeDue
  | _ => false

/-- The placement lets the cancel take effect, the store completes, and the bank fault behind it is a double fault, which makes a placement due again. -/
theorem haltedCoreCancels_faults : placeDueAfter 0 (exec (.lcCmdRestart 127 0 false) haltedCoreCancels) = true := by decide +kernel

/-- Refutes O27: the restart of `haltedCoreCancels` leaves a placement due, and the statement says that none is. -/
theorem not_ladleLoadsAndCommands : ¬ Obligations.LadleLoadsAndCommands := by
  rintro ⟨_, commands, _⟩
  obtain ⟨_, _, _, _, restart⟩ := commands haltedCoreCancels 127 0 ⟨by decide +kernel, by decide +kernel, by decide +kernel⟩ (by decide)
  obtain ⟨t, ran, _, _, _, _, placed⟩ := restart false rfl (by decide +kernel)
  have faults := haltedCoreCancels_faults
  rw [ran, placeDueAfter, placed] at faults
  exact absurd faults (by decide)

end Sys2Proof.Machine
end

section
/-! Proofs of 07_cupola_scheduler.md (R356-R358): a core's store to Cupola, the boundary after it, and how it ends. -/

namespace Sys2Proof.Machine

/-! ### The boundary after an operation (R278, R316, R323) -/

/-- Where nothing waits for the boundary of a core, the boundary changes nothing. -/
theorem lcSettle_quiet {s : State} {c : Nat} (quiet : LcQuiet s c) : lcSettle c s = s := by
  obtain ⟨cancels, due, stays⟩ := quiet
  rw [lcSettle, settleCancels_none cancels, settleCore_none due stays]

/-- No cancel waits for a boundary. -/
abbrev NoCancel (s : State) : Prop := ∀ e ∈ s.cup.threads, e.2.cancelAsked = false

theorem NoCancel.thread {s : State} (none : NoCancel s) (u : Nat) : (s.thread u).cancelAsked = false := by
  have listed : ∀ l : Tab Thread, (∀ e ∈ l, e.2.cancelAsked = false) → (Tab.get Thread.reset l u).cancelAsked = false := by
    intro l
    induction l with
    | nil => exact fun _ => rfl
    | cons e l ih =>
      intro all
      rw [Tab.get]
      split
      · exact all e List.mem_cons_self
      · exact ih (fun x listed => all x (List.mem_cons_of_mem e listed))
  exact listed s.cup.threads none

theorem Tab.mem_insert {α : Type} {e : Nat × α} {k : Nat} {v : α} : ∀ {t : Tab α}, e ∈ Tab.insert t k v → e = (k, v) ∨ e ∈ t
  | [], listed => .inl (List.mem_singleton.1 listed)
  | (j, w) :: t, listed => by
    rw [Tab.insert] at listed
    split at listed
    · exact List.mem_cons.1 listed
    · split at listed
      · exact (List.mem_cons.1 listed).imp_right (List.mem_cons_of_mem _)
      · rcases List.mem_cons.1 listed with first | later
        · exact .inr (first ▸ List.mem_cons_self)
        · exact (Tab.mem_insert later).imp_right (List.mem_cons_of_mem _)

theorem Tab.mem_erase {α : Type} {e : Nat × α} {k : Nat} : ∀ {t : Tab α}, e ∈ Tab.erase t k → e ∈ t
  | [], listed => listed
  | (j, w) :: t, listed => by
    rw [Tab.erase] at listed
    split at listed
    · exact List.mem_cons_of_mem _ (Tab.mem_erase listed)
    · exact (List.mem_cons.1 listed).elim (fun first => first ▸ List.mem_cons_self) (fun later => List.mem_cons_of_mem _ (Tab.mem_erase later))

theorem Tab.mem_set {α : Type} [DecidableEq α] {d v : α} {e : Nat × α} {k : Nat} {t : Tab α} (listed : e ∈ Tab.set d t k v) : e = (k, v) ∨ e ∈ t := by
  rw [Tab.set] at listed
  split at listed
  · exact .inr (Tab.mem_erase listed)
  · exact Tab.mem_insert listed

theorem NoCancel.modThread {s : State} (none : NoCancel s) {u : Nat} {g : Thread → Thread} (keeps : (g (s.thread u)).cancelAsked = false) :
    NoCancel (s.modThread u g) := fun e listed => by
  rcases Tab.mem_set listed with new | old
  · rw [new]; exact keeps
  · exact none e old

/-! ### A change of one thread -/

/-- Outside Cupola nothing changed, of its threads only `u`, which has become `x`, and no cancel has come to wait. -/
structure ThreadBecame (s t : State) (u : Nat) (x : Thread) : Prop where
  thread : t.thread u = x
  others : OtherThreads s t u
  only : t = { s with cup := t.cup }
  noCancel : NoCancel s → NoCancel t

namespace ThreadBecame
variable {s t : State} {u : Nat} {x : Thread}

theorem refl (s : State) (u : Nat) : ThreadBecame s s u (s.thread u) := ⟨rfl, fun _ _ => rfl, rfl, id⟩

theorem modThread (b : ThreadBecame s t u x) (g : Thread → Thread) (keeps : x.cancelAsked = false → (g x).cancelAsked = false) :
    ThreadBecame s (t.modThread u g) u (g x) where
  thread := by rw [State.modThread_same, b.thread]
  others v other := by rw [State.modThread_ne _ _ other, b.others v other]
  only := by rw [b.only]; rfl
  noCancel none := by
    have still := b.noCancel none
    exact still.modThread (by rw [b.thread]; exact keeps (b.thread ▸ still.thread u))

theorem modCup (b : ThreadBecame s t u x) (f : Cupola → Cupola) (keeps : ∀ y, (f y).threads = y.threads) : ThreadBecame s (t.modCup f) u x where
  thread := (congrArg (Tab.get Thread.reset · u) (keeps t.cup)).trans b.thread
  others v other := (congrArg (Tab.get Thread.reset · v) (keeps t.cup)).trans (b.others v other)
  only := by rw [b.only]; rfl
  noCancel none := by
    rw [NoCancel, show (t.modCup f).cup.threads = t.cup.threads from keeps t.cup]
    exact b.noCancel none

theorem toTail (b : ThreadBecame s t u x) (st : ThSt) : ThreadBecame s (toTail u st t) u { x with st := st, order := t.cup.readyHi } :=
  (b.modThread (fun x => { x with st := st, order := t.cup.readyHi }) id).modCup (fun c => { c with readyHi := c.readyHi + 1 }) fun _ => rfl

theorem toHead (b : ThreadBecame s t u x) : ThreadBecame s (toHead u t) u { x with st := .ready, order := t.cup.readyLo - 1 } :=
  (b.modThread (fun x => { x with st := .ready, order := t.cup.readyLo - 1 }) id).modCup (fun c => { c with readyLo := c.readyLo - 1 }) fun _ => rfl

/-- Slots change nothing of the threads. -/
theorem foldl_setSlot {step : State → Nat → State} (sets : ∀ s n, ∃ y, step s n = s.setSlot n y) :
    ∀ (ns : List Nat) {t : State}, ThreadBecame s t u x → ThreadBecame s (ns.foldl step t) u x
  | [], _, b => b
  | n :: ns, t, b => by
    obtain ⟨y, set⟩ := sets t n
    rw [List.foldl_cons, set]
    exact foldl_setSlot sets ns (b.modCup _ fun _ => rfl)

theorem cores (b : ThreadBecame s t u x) : t.cores = s.cores := by rw [b.only]
theorem core (b : ThreadBecame s t u x) (c : Nat) : t.core c = s.core c := by rw [State.core, b.cores]; rfl

end ThreadBecame

/-! ### How a store ends (R324, R356, R358) -/

/-- A core whose store completed with RESULT `r` and RVAL `v`. -/
def LcCore.opEnded (len r : Nat) (v : Word) (k : LcCore) : LcCore :=
  { k.modBank k.cur (fun b => { b with result := r, rval := v }) with pc := k.pc + BitVec.ofNat 32 len, minstret := k.minstret + 1 }

/-- A core that its thread left behind a store. -/
def LcCore.opLeft (len : Nat) (k : LcCore) : LcCore :=
  { k.modBank k.cur (fun b => { b with bpc := k.pc + BitVec.ofNat 32 len }) with
    pc := k.pc + BitVec.ofNat 32 len, minstret := k.minstret + 1, idle := true, stall := .none }

theorem coreBecame_opEnd (s : State) (c len r : Nat) (v : Word) : CoreBecame s (opEnd c len r v s) c ((s.core c).opEnded len r v) :=
  (coreBecame_modCore s c (fun k => k.modBank k.cur (fun b => { b with result := r, rval := v }))).modCore
    (fun k => { k with pc := k.pc + BitVec.ofNat 32 len, minstret := k.minstret + 1 })

theorem coreBecame_opLeave (s : State) (c len : Nat) : CoreBecame s (opLeave c len s) c ((s.core c).opLeft len) :=
  (coreBecame_lcRetire s c len).modCore (fun k => { k.modBank k.cur (fun b => { b with bpc := k.pc }) with idle := true, stall := .none })

/-- A store that changes no thread completes. -/
theorem CoreBecame.opEnded {s t : State} {c len r : Nat} {v : Word} (b : CoreBecame s t c ((s.core c).opEnded len r v)) : OpEnded s t c len r v :=
  ⟨b.core, b.others⟩

theorem CoreTook.opEnded {s t : State} {c len r u : Nat} {v : Word} {x : Thread} (b : CoreTook s t c ((s.core c).opEnded len r v) u x) :
    OpEnded s t c len r v := ⟨b.core, b.others⟩

theorem CoreTook.opLeft {s t : State} {c len u : Nat} {x : Thread} (running : (s.core c).stall = .none)
    (b : CoreTook s t c ((s.core c).opLeft len) u x) : OpLeft s t c len := by
  refine ⟨b.core.trans ?_, b.others⟩
  rw [LcCore.opLeft, ← running]
  rfl

/-- A core whose bank, program counter and progress alone changed has its boundary as it was. -/
theorem LcQuiet.became {s t : State} {c : Nat} {k : LcCore} (quiet : LcQuiet s c) (b : CoreBecame s t c k) (faultDue : k.faultDue = (s.core c).faultDue)
    (st : k.st = (s.core c).st) (levelMode : k.levelMode = (s.core c).levelMode) : LcQuiet t c := by
  obtain ⟨cancels, due, stays⟩ := quiet
  refine ⟨?_, by rw [b.core, faultDue, due], by rwa [b.core, st, levelMode]⟩
  rw [b.only]
  exact cancels

theorem LcQuiet.modCore {s : State} {c : Nat} (quiet : LcQuiet s c) (g : LcCore → LcCore) (faultDue : (g (s.core c)).faultDue = (s.core c).faultDue)
    (st : (g (s.core c)).st = (s.core c).st) (levelMode : (g (s.core c)).levelMode = (s.core c).levelMode) : LcQuiet (s.modCore c g) c :=
  quiet.became (coreBecame_modCore s c g) faultDue st levelMode

theorem ThreadBecame.quiet {s t : State} {c u : Nat} {x : Thread} (b : ThreadBecame s t u x) (quiet : LcQuiet s c) : LcQuiet t c := by
  obtain ⟨cancels, due, stays⟩ := quiet
  exact ⟨b.noCancel cancels, by rw [b.core, due], by rwa [b.core]⟩

theorem LcQuiet.opEnd {s : State} {c : Nat} (quiet : LcQuiet s c) (len r : Nat) (v : Word) : LcQuiet (opEnd c len r v s) c :=
  quiet.became (coreBecame_opEnd s c len r v) rfl rfl rfl

theorem LcQuiet.opLeave {s : State} {c : Nat} (quiet : LcQuiet s c) (len : Nat) : LcQuiet (opLeave c len s) c :=
  quiet.became (coreBecame_opLeave s c len) rfl rfl rfl

/-- A thread changes, and then a core. -/
theorem ThreadBecame.coreTook {s t t' : State} {c u : Nat} {x : Thread} {f : LcCore → LcCore} (b : ThreadBecame s t u x)
    (became : CoreBecame t t' c (f (t.core c))) : CoreTook s t' c (f (s.core c)) u x where
  core := by rw [became.core, b.core]
  others d other := by rw [became.others d other, b.core]
  thread := by rw [← b.thread, became.only]; rfl
  threads v other := by rw [← b.others v other, became.only]; rfl
  only := by
    rw [became.only, b.only]

theorem ThreadBecame.opEnd {s t : State} {u : Nat} {x : Thread} (b : ThreadBecame s t u x) (c len r : Nat) (v : Word) :
    CoreTook s (Machine.opEnd c len r v t) c ((s.core c).opEnded len r v) u x := b.coreTook (coreBecame_opEnd t c len r v)

theorem ThreadBecame.opLeave {s t : State} {u : Nat} {x : Thread} (b : ThreadBecame s t u x) (c len : Nat) :
    CoreTook s (Machine.opLeave c len t) c ((s.core c).opLeft len) u x := b.coreTook (coreBecame_opLeave t c len)

/-! ### The store (R356) -/

/-- A store to Cupola of its kind has its effect, and no other where nothing waits for the boundary after it. -/
theorem cupStore_acts {s : State} {c len : Nat} {kind : LcKind} {act : Nat → State → State} (at' : LcAt s c kind len) (up : s.cupRuns = true)
    (quiet : LcQuiet (act len s) c) : cupStore c kind .clean .clean act s = .next (act len s) := by
  obtain ⟨runs, at'', -⟩ := at'
  have guard (f : State → State) : lcGuard c .clean f s = lcSettle c (f s) := rfl
  rw [cupStore, lcRow, at'']
  dsimp only
  rw [if_pos rfl]
  dsimp only [cupCheck]
  rw [event_of runs, guard]
  simp only [runs, up, Bool.not_true, Bool.false_eq_true, if_false]
  rw [lcSettle_quiet quiet]

theorem opRow_acts {s : State} {c code len : Nat} {act : Nat → State → State} (at' : OpAt s c code len) (quiet : LcQuiet (act len s) c) :
    opRow c code .clean .clean act s = .next (act len s) := cupStore_acts at'.1 at'.2 quiet

/-- A store that gives only a result. -/
theorem cupStore_ends {s : State} {c len r : Nat} {v : Word} {kind : LcKind} {act : Nat → State → State} (at' : LcAt s c kind len)
    (up : s.cupRuns = true) (ends : act len s = opEnd c len r v s) :
    cupStore c kind .clean .clean act s = .next (opEnd c len r v s) := by
  rw [cupStore_acts at' up (by rw [ends]; exact at'.2.2.opEnd len r v), ends]

/-- What a store that gives only a result leaves. -/
theorem answers_opEnd {i : Instr} {s : State} {c len r : Nat} {v : Word} (run : exec i s = .next (opEnd c len r v s)) :
    Answers i s (fun t => OpEnded s t c len r v ∧ t = { s with cores := t.cores }) :=
  have became := coreBecame_opEnd s c len r v
  ⟨_, run, became.opEnded, became.only⟩

end Sys2Proof.Machine
end

section
/-! Proofs of 07_cupola_scheduler.md (R323, R334, R335, R348, R349, R358, R359, R363, R364): the life of a thread, by a core's store and by T_CMD. -/

namespace Sys2Proof.Machine

/-! ### CREATE and RESTART (R323) -/

/-- A thread that starts anew at its entry address. -/
def Thread.created (x : Thread) : Thread :=
  { x with fresh := true, item := none, held := [], operands := 0, result := none, tags := [], bank := none }

theorem createThread_readies {s : State} {u : Nat} (rests : (s.thread u).st = .free ∨ (s.thread u).st = .cancelled) (group : (s.thread u).group = 63) :
    createThread u s = (resOk, toTail u .ready (s.modThread u Thread.created)) := by
  rw [createThread]
  dsimp only
  rw [if_pos (by simpa using rests), if_pos group]
  rfl

theorem createThread_refuses {s : State} {u : Nat} (free : (s.thread u).st ≠ .free) (cancelled : (s.thread u).st ≠ .cancelled) :
    createThread u s = (resState, s) := by
  rw [createThread]
  dsimp only
  rw [if_neg (by simp [free, cancelled])]

/-- The state with thread `u` created. -/
theorem threadBecame_created (s : State) (u : Nat) : ThreadBecame s (toTail u .ready (s.modThread u Thread.created)) u
    { (s.thread u).created with st := .ready, order := s.cup.readyHi } :=
  ((ThreadBecame.refl s u).modThread Thread.created id).toTail .ready

/-- A faulted thread that starts again, with what its item delivers. -/
def Thread.restarted (regs : List (Nat × Word)) (x : Thread) : Thread := { x with fresh := true, held := regs, operands := 0, result := none }

/-- What RESTART delivers again: the words of the thread's item. -/
def itemAgain (s : State) (u : Nat) : List (Nat × Word) :=
  match (s.thread u).item with
  | some n => match s.item n with
    | some i => itemRegs i
    | none => []
  | none => []

theorem restartThread_readies {s : State} {u : Nat} (faulted : (s.thread u).st = .faulted) :
    restartThread u s = (resOk, toTail u .ready ((releaseSlots u s).modThread u (Thread.restarted (itemAgain s u)))) := by
  rw [restartThread]
  dsimp only
  rw [if_neg (not_not.2 faulted)]
  rfl

theorem restartThread_refuses {s : State} {u : Nat} (other : (s.thread u).st ≠ .faulted) : restartThread u s = (resState, s) := if_pos other

/-- The slots of a waiter, and which they are, are all that its release changes (R323). -/
theorem threadBecame_releaseSlots (s : State) (u : Nat) : ThreadBecame s (releaseSlots u s) u { s.thread u with tags := [] } := by
  refine (ThreadBecame.foldl_setSlot (fun s n => ?_) (s.thread u).tags (.refl s u)).modThread (fun x => { x with tags := [] }) id
  dsimp only
  split
  · exact ⟨_, rfl⟩
  · exact ⟨_, rfl⟩

theorem foldl_setSlot_readyHi {step : State → Nat → State} (sets : ∀ s n, ∃ y, step s n = s.setSlot n y) :
    ∀ (ns : List Nat) (s : State), (ns.foldl step s).cup.readyHi = s.cup.readyHi
  | [], _ => rfl
  | n :: ns, s => by
    obtain ⟨y, set⟩ := sets s n
    rw [List.foldl_cons, set]
    exact foldl_setSlot_readyHi sets ns _

theorem releaseSlots_readyHi (s : State) (u : Nat) : (releaseSlots u s).cup.readyHi = s.cup.readyHi := by
  refine foldl_setSlot_readyHi (fun s n => ?_) (s.thread u).tags s
  dsimp only
  split
  · exact ⟨_, rfl⟩
  · exact ⟨_, rfl⟩

theorem threadBecame_restarted (s : State) (u : Nat) (regs : List (Nat × Word)) :
    ThreadBecame s (toTail u .ready ((releaseSlots u s).modThread u (Thread.restarted regs))) u
      { (s.thread u).restarted regs with tags := [], st := .ready, order := s.cup.readyHi } := by
  have readied := ((threadBecame_releaseSlots s u).modThread (Thread.restarted regs) id).toTail .ready
  rw [show ((releaseSlots u s).modThread u (Thread.restarted regs)).cup.readyHi = s.cup.readyHi from releaseSlots_readyHi s u] at readied
  exact readied

/-- The thread that the low bits of ARG0 name. -/
theorem fld_thread (w : Word) : fld w 11 0 = w.toNat % 4096 := fld_low w 11

section
variable (s : State) (c len : Nat)

theorem create_readies (at' : OpAt s c 7 len) :
    let u := ((s.core c).arg 0).toNat % 4096
    ((s.thread u).st = .free ∨ (s.thread u).st = .cancelled) → (s.thread u).group = 63 → (s.core c).thread ≠ some u →
    Answers (.create c .clean .clean) s (fun t => OpEnded s t c len 0 0 ∧ (t.thread u).st = .ready ∧ (t.thread u).fresh = true ∧
      (t.thread u).entry = (s.thread u).entry ∧ OtherThreads s t u ∧ CupolaOnly s t) := by
  intro u rests group _
  have effect : opCreate c len s = opEnd c len resOk 0 (toTail u .ready (s.modThread u Thread.created)) := by
    rw [opCreate, fld_thread, createThread_readies rests group]
  have readied := threadBecame_created s u
  have took := readied.opEnd c len resOk 0
  rw [← effect] at took
  refine ⟨_, opRow_acts at' (effect ▸ (readied.quiet at'.1.2.2).opEnd ..), took.opEnded, congrArg Thread.st took.thread,
    congrArg Thread.fresh took.thread, (congrArg Thread.entry took.thread).trans rfl, took.threads, took.only⟩

theorem create_refuses (at' : OpAt s c 7 len) :
    let u := ((s.core c).arg 0).toNat % 4096
    (s.thread u).st ≠ .free → (s.thread u).st ≠ .cancelled →
    Answers (.create c .clean .clean) s (fun t => OpEnded s t c len 2 0 ∧ t = { s with cores := t.cores }) := by
  intro u free cancelled
  exact answers_opEnd (cupStore_ends at'.1 at'.2 (by rw [opCreate, fld_thread, createThread_refuses free cancelled]))

theorem restart_readies (at' : OpAt s c 10 len) :
    let u := ((s.core c).arg 0).toNat % 4096
    (s.thread u).st = .faulted → (s.thread u).item = none → Answers (.restart c .clean .clean) s (fun t =>
      OpEnded s t c len 0 0 ∧
      t.thread u = { s.thread u with st := .ready, order := s.cup.readyHi, fresh := true, held := [], operands := 0, tags := [], result := none } ∧
      OtherThreads s t u ∧ CupolaOnly s t) := by
  intro u faulted free
  have regs : itemAgain s u = [] := by rw [itemAgain, free]
  have effect : opRestart c len s = opEnd c len resOk 0 (toTail u .ready ((releaseSlots u s).modThread u (Thread.restarted []))) := by
    rw [opRestart, fld_thread, restartThread_readies faulted, regs]
  have readied := threadBecame_restarted s u []
  have took := readied.opEnd c len resOk 0
  rw [← effect] at took
  exact ⟨_, opRow_acts at' (effect ▸ (readied.quiet at'.1.2.2).opEnd ..), took.opEnded, took.thread, took.threads, took.only⟩

theorem restart_refuses (at' : OpAt s c 10 len) :
    let u := ((s.core c).arg 0).toNat % 4096
    (s.thread u).st ≠ .faulted → Answers (.restart c .clean .clean) s (fun t => OpEnded s t c len 2 0 ∧ t = { s with cores := t.cores }) := by
  intro u other
  exact answers_opEnd (cupStore_ends at'.1 at'.2 (by rw [opRestart, fld_thread, restartThread_refuses other]))

end

/-! ### CANCEL (R348, R349) -/

/-- A thread that no core runs, awaits or holds a bank of has nothing to give up there. -/
theorem dropBank_alone {s : State} {u : Nat} (alone : AloneThread s u) : dropBank u s = s := by
  obtain ⟨-, -, -, bank, apart, waits⟩ := alone
  have still : (List.range 8).foldl (fun s c => if (s.core c).waiting = some u then s.modCore c (fun k => { k with waiting := none }) else s) s = s :=
    List.foldlRecOn (motive := (· = s)) _ _ rfl fun t same c core => by
      rw [same]
      exact if_neg (waits c (List.mem_range.1 core)).1
  rw [dropBank, apart]
  dsimp only
  rw [still, bank]

/-- No store waits for its cancel. -/
theorem cancelCompletes_alone {s : State} {u : Nat} (rval : Nat) (free : ∀ c, c < 8 → (s.core c).stall ≠ .cancel u) : cancelCompletes u rval s = s :=
  List.foldlRecOn (motive := (· = s)) _ _ rfl fun t same c core => by
    rw [same]
    exact if_neg (free c (List.mem_range.1 core))

/-- A thread whose cancel took effect (R323). -/
def Thread.cancelDone (x : Thread) : Thread :=
  { x with st := .cancelled, tags := [], held := [], operands := 0, timeout := 0, result := none, cancelAsked := false, bank := none }

/-- The RVAL of a thread cancelled in DELAY that holds nothing (R349). -/
abbrev delayRval : Nat := 5 * 2 ^ 27

/-- What a cancel counts and withdraws of such a thread: no operand is lost, and nothing is sent. -/
def Cupola.withdrawn (u : Nat) (c : Cupola) : Cupola :=
  { c with discarded := c.discarded + BitVec.ofNat 32 0, sent := c.sent.filter (fun e => e.2 ≠ some u) }

theorem cancelThread_delay {s : State} {u : Nat} (delay : (s.thread u).st = .delay) (alone : AloneThread s u) :
    cancelThread u s = (delayRval, (s.modCup (Cupola.withdrawn u)).modThread u Thread.cancelDone) := by
  obtain ⟨item, operands, tags, -⟩ := alone
  have ended : endService u (s.modCup (Cupola.withdrawn u)) = (none, s.modCup (Cupola.withdrawn u)) := by
    rw [endService, show ((s.modCup (Cupola.withdrawn u)).thread u).item = none from item]
  have lost : s.modCup (fun c => { c with
      discarded := c.discarded + BitVec.ofNat 32 0
      itemsCancelled := c.itemsCancelled
      sent := c.sent.filter (fun e => e.2 ≠ some u) }) = s.modCup (Cupola.withdrawn u) := rfl
  simp only [cancelThread, delay, item, operands, tags, List.filter_nil, List.length_nil, List.foldl_nil, Option.isSome_none, Bool.false_eq_true,
    if_false, reduceCtorEq, Nat.add_zero, Nat.zero_add, Nat.zero_mod, Nat.zero_mul, lost, ended, assignMaybe]
  rfl
/-- What a cancel that took effect answers to the T_CMD that asked for it (R364). -/
def Thread.cancelAnswered (rval : Nat) (x : Thread) : Thread :=
  { x with tAsked := false, tResult := if x.tAsked then BitVec.ofNat 32 rval else x.tResult }

/-- The machine with such a thread cancelled. -/
def delayCancelled (u : Nat) (s : State) : State :=
  ((s.modCup (Cupola.withdrawn u)).modThread u Thread.cancelDone).modThread u (Thread.cancelAnswered delayRval)

theorem threadBecame_delayCancelled (s : State) (u : Nat) :
    ThreadBecame s (delayCancelled u s) u ((s.thread u).cancelDone.cancelAnswered delayRval) :=
  (((ThreadBecame.refl s u).modCup (Cupola.withdrawn u) fun _ => rfl).modThread Thread.cancelDone fun _ => rfl).modThread
    (Thread.cancelAnswered delayRval) id

theorem cancelNowOrAsk_delay {s : State} {u : Nat} (delay : (s.thread u).st = .delay) (alone : AloneThread s u) :
    cancelNowOrAsk u s = some (true, delayRval, delayCancelled u s) := by
  obtain ⟨-, -, -, -, -, waits⟩ := id alone
  have done : cancelWith u s = (delayRval, delayCancelled u s) := by
    have free (c : Nat) (core : c < 8) : ((delayCancelled u s).core c).stall ≠ .cancel u := (waits c core).2
    rw [cancelWith, dropBank_alone alone, cancelThread_delay delay alone]
    show (delayRval, cancelCompletes u delayRval (delayCancelled u s)) = _
    rw [cancelCompletes_alone delayRval free]
  have now : cancelOpen s u = true := by simp [cancelOpen, delay]
  rw [cancelNowOrAsk, if_neg (by simp [delay]), if_pos now, done]

theorem cancelNowOrAsk_refuses {s : State} {u : Nat} (rests : (s.thread u).st = .free ∨ (s.thread u).st = .cancelled) : cancelNowOrAsk u s = none :=
  if_pos (by simpa using rests)

theorem lcRuns_core {s : State} {c : Nat} (runs : s.lcRuns c = true) : c < 8 := by
  simp only [State.lcRuns, Bool.and_eq_true, decide_eq_true_eq] at runs
  exact runs.1.1.1.2

theorem lcRuns_free {s : State} {c : Nat} (runs : s.lcRuns c = true) : (s.core c).stall = .none := by
  simp only [State.lcRuns, Bool.and_eq_true, decide_eq_true_eq] at runs
  exact runs.2

/-- No core runs the thread. -/
theorem runningOn_none {s : State} {u c : Nat} (none : runningOn s u = none) (core : c < 8) : (s.core c).thread ≠ some u := by
  simpa using List.find?_eq_none.1 none c (List.mem_range.2 core)

section
variable (s : State) (c len : Nat)

theorem cancel_refuses (at' : OpAt s c 6 len) :
    let u := ((s.core c).arg 0).toNat % 4096
    ((s.thread u).st = .free ∨ (s.thread u).st = .cancelled) → (s.core c).thread ≠ some u →
    Answers (.cancel c .clean .clean) s (fun t => OpEnded s t c len 2 0 ∧ t = { s with cores := t.cores }) := by
  intro u rests other
  refine answers_opEnd (cupStore_ends at'.1 at'.2 ?_)
  simp only [opCancel, fld_thread, if_neg other, u, cancelNowOrAsk_refuses rests]

theorem cancel_cancels (at' : OpAt s c 6 len) :
    let u := ((s.core c).arg 0).toNat % 4096
    (s.thread u).st = .delay → AloneThread s u → Answers (.cancel c .clean .clean) s (fun t =>
      OpEnded s t c len 0 (BitVec.ofNat 32 (5 * 2 ^ 27)) ∧ (t.thread u).st = .cancelled ∧ (t.thread u).timeout = 0 ∧ OtherThreads s t u ∧
      t.cup.items = s.cup.items ∧ t.cup.slots = s.cup.slots ∧ CupolaOnly s t) := by
  intro u delay alone
  obtain ⟨-, -, -, -, apart, -⟩ := id alone
  have other : (s.core c).thread ≠ some u := runningOn_none apart (lcRuns_core at'.1.1)
  have effect : opCancel c len s = opEnd c len resOk (BitVec.ofNat 32 delayRval) (delayCancelled u s) := by
    simp only [opCancel, fld_thread, if_neg other, u, cancelNowOrAsk_delay delay alone]
  have cancelled := threadBecame_delayCancelled s u
  have took := cancelled.opEnd c len resOk (BitVec.ofNat 32 delayRval)
  have run : exec (.cancel c .clean .clean) s = .next (opCancel c len s) := opRow_acts at' (effect ▸ (cancelled.quiet at'.1.2.2).opEnd ..)
  rw [effect] at run
  exact ⟨_, run, took.opEnded, congrArg Thread.st took.thread, congrArg Thread.timeout took.thread, took.threads, rfl, rfl, took.only⟩

end

/-! ### ABANDON (R323, R359) -/

/-- Only what the intake holds afterwards counts. -/
theorem Reports.to_chill {s t t' : State} {code kind oid : Nat} (h : Reports s t code kind oid) (same : t'.chill = t.chill) :
    Reports s t' code kind oid := h.mono (le_of_eq (by rw [reportsOf, reportsOf, same]))

theorem AloneThread.congr {s t : State} {u : Nat} (alone : AloneThread s u) (cup : t.cup = s.cup) (cores : t.cores = s.cores) : AloneThread t u := by
  unfold AloneThread runningOn State.core State.thread at *
  rwa [cup, cores]

theorem CoreTook.chill {s t : State} {c u : Nat} {k : LcCore} {x : Thread} (b : CoreTook s t c k u x) : t.chill = s.chill := by rw [b.only]

theorem OpEnded.of_cores {s u t : State} {c len r : Nat} {v : Word} (ended : OpEnded u t c len r v) (same : u.cores = s.cores) : OpEnded s t c len r v := by
  unfold OpEnded LcWent OtherCores State.core at ended ⊢
  rwa [same] at ended

/-- No dispatch of thread `u` stands. -/
def Cupola.unsent (u : Nat) (c : Cupola) : Cupola := { c with sent := c.sent.filter (fun e => e.2 ≠ some u) }

/-- A thread that Cupola takes to FAULTED, in no core's hands. -/
def faultedOut (u : Nat) (s : State) : State := faultThread u ((s.modCup (Cupola.unsent u)).modThread u (fun x => { x with timeout := 0 }))

theorem threadBecame_faultedOut (s : State) (u : Nat) : ThreadBecame s (faultedOut u s) u { s.thread u with timeout := 0, st := .faulted } :=
  have due := ((ThreadBecame.refl s u).modCup (Cupola.unsent u) fun _ => rfl).modThread (fun x => { x with timeout := 0 }) id
  (due.modThread (fun x => { x with st := .faulted }) id).modCup (fun c => { c with abandoned := true }) fun _ => rfl

theorem faultOut_alone {s : State} {u : Nat} (none : NoCancel s) (alone : AloneThread s u) : faultOut u s = faultedOut u s := by
  rw [faultOut, dropBank_alone alone]
  exact settleCancels_none ((threadBecame_faultedOut s u).noCancel none)

section
variable (s : State) (c len : Nat)

theorem abandon_refuses (at' : OpAt s c 9 len) (thread : (s.core c).cur ≠ 0) :
    Answers (.abandon c .clean .clean) s (fun t => OpEnded s t c len 3 0 ∧ t = { s with cores := t.cores }) :=
  answers_opEnd (cupStore_ends at'.1 at'.2 (by rw [opAbandon, if_pos thread]))

/-- The machine with the ABANDON of a thread reported (R359). -/
def abandonReported (c u : Nat) (s : State) : State := reportAt 0x3405 5 u (BitVec.ofNat 32 c) (BitVec.ofNat 64 (threadFlow s u)) s

theorem reports_abandonReported (u : Nat) : Reports s (abandonReported c u s) 0x3405 5 u :=
  reports_reportAt 0x3405 5 u (BitVec.ofNat 32 c) (BitVec.ofNat 64 (threadFlow s u)) s

theorem abandon_faults (at' : OpAt s c 9 len) :
    let u := ((s.core c).arg 0).toNat % 4096
    (s.core c).cur = 0 → (s.thread u).st = .ready → AloneThread s u → Answers (.abandon c .clean .clean) s (fun t =>
      OpEnded s t c len 0 0 ∧ (t.thread u).st = .faulted ∧ t.cup.abandoned = true ∧ Reports s t 0x3405 5 u ∧ OtherThreads s t u) := by
  intro u bank0 ready alone
  have cup : (abandonReported c u s).cup = s.cup := reportAt_cup ..
  have cores : (abandonReported c u s).cores = s.cores := reportAt_cores ..
  have reported : Reports s (abandonReported c u s) 0x3405 5 u := reports_abandonReported s c u
  have quiet : LcQuiet (abandonReported c u s) c := by
    unfold LcQuiet State.core
    rw [cup, cores]
    exact at'.1.2.2
  have effect : opAbandon c len s = opEnd c len resOk 0 (faultedOut u (abandonReported c u s)) := by
    rw [← faultOut_alone quiet.1 (alone.congr cup cores), opAbandon, if_neg (not_not.2 bank0), fld_thread, if_pos (by simp [u, ready])]
    rfl
  have faulted := threadBecame_faultedOut (abandonReported c u s) u
  have took := faulted.opEnd c len resOk 0
  have run : exec (.abandon c .clean .clean) s = .next (opAbandon c len s) := opRow_acts at' (effect ▸ (faulted.quiet quiet).opEnd ..)
  rw [effect] at run
  refine ⟨_, run, took.opEnded.of_cores cores, congrArg Thread.st took.thread, rfl, ?_, fun v other => ?_⟩
  · exact reported.to_chill took.chill
  · rw [took.threads v other, State.thread, cup, State.thread]

end

/-! ### DONE (R330, R334, R335) -/

/-- The service of item `n` ended, and no item of its flow waits. -/
def serviceEnded (u n : Nat) (s : State) : State :=
  (s.modCup (fun c => { c with items := Tab.set none c.items n none })).modThread u (fun x => { x with item := none })

theorem threadBecame_serviceEnded (s : State) (u n : Nat) : ThreadBecame s (serviceEnded u n s) u { s.thread u with item := none } :=
  ((ThreadBecame.refl s u).modCup (fun c => { c with items := Tab.set none c.items n none }) fun _ => rfl).modThread (fun x => { x with item := none }) id

theorem itemsWhere_nil {s : State} {g : Item → Bool} : itemsWhere s g = [] ↔ ∀ e ∈ s.cup.items, ∀ i, e.2 = some i → g i = false := by
  refine List.filterMap_eq_nil_iff.trans (forall₂_congr fun e _ => ?_)
  cases e.2 with
  | none => simp
  | some i => simp

/-- Where every item is in service, the end of one leaves none that is not. -/
theorem itemsWhere_serviceEnded {s : State} (u n : Nat) (served : itemsWhere s (fun i => i.st ≠ .service) = []) (g : Item → Bool)
    (apart : ∀ i : Item, i.st = .service → g i = false) : itemsWhere (serviceEnded u n s) g = [] :=
  itemsWhere_nil.2 fun e listed i held => by
    rcases Tab.mem_set (t := s.cup.items) (k := n) (v := none) (d := none) listed with gone | old
    · rw [gone] at held
      cases held
    · exact apart i (by simpa using itemsWhere_nil.1 served e old i held)

theorem endService_last {s : State} {u n : Nat} (item : (s.thread u).item = some n) (served : itemsWhere s (fun i => i.st ≠ .service) = []) :
    endService u s = (none, serviceEnded u n s) := by
  have none (f : Nat) : itemsWhere (serviceEnded u n s) (fun i => i.st = .waiting && itemFlow i.header = f) = [] :=
    itemsWhere_serviceEnded u n served _ fun i service => by simp [service]
  unfold endService
  simp only [item]
  split
  · next waits => exact absurd (waits.symm.trans (none _)) (List.cons_ne_nil _ _)
  · rfl

section
variable (s : State) (c len u n : Nat)

theorem done_refuses (at' : LcAt s c .done len) (up : s.cupRuns = true) (runs : (s.core c).thread = some u) (free : (s.thread u).item = none) :
    Answers (.done c false .clean .clean) s (fun t => OpEnded s t c len 2 0 ∧ t = { s with cores := t.cores }) := by
  refine answers_opEnd (cupStore_ends at' up ?_)
  simp only [opDone, runs, free, Option.isNone_none, if_true]

/-- The last item of Cupola's is done: no item is left to take, and the thread leaves its core. -/
theorem opDone_last {s : State} {c len u n : Nat} (runs : (s.core c).thread = some u) (item : (s.thread u).item = some n)
    (served : itemsWhere s (fun i => i.st ≠ .service) = []) (asks : (s.thread u).cancelAsked = false) :
    opDone c false len s = opLeave c len (toTail u .idle (serviceEnded u n s)) := by
  have none (g : Nat) : itemsWhere (serviceEnded u n s) (fun i => i.st = .eligible && itemGroup i.header = g) = [] :=
    itemsWhere_serviceEnded u n served _ fun i service => by simp [service]
  have goes : ((serviceEnded u n s).thread u).cancelAsked = false := by rw [(threadBecame_serviceEnded s u n).thread]; exact asks
  simp only [opDone, runs, item, Option.isNone_some, Bool.false_eq_true, if_false, endService_last item served, assignMaybe, goes, Bool.or_self, none, bestItem]
  rfl

theorem done_idles (at' : LcAt s c .done len) (up : s.cupRuns = true) (runs : (s.core c).thread = some u) (item : (s.thread u).item = some n)
    (served : itemsWhere s (fun i => i.st ≠ .service) = []) : Answers (.done c false .clean .clean) s (fun t =>
      OpLeft s t c len ∧ t.item n = none ∧ (t.thread u).st = .idle ∧ (t.thread u).item = none ∧ OtherThreads s t u ∧
      (∀ m, m ≠ n → t.item m = s.item m) ∧ CupolaOnly s t) := by
  obtain ⟨core, -, quiet⟩ := id at'
  have effect := opDone_last (len := len) runs item served (NoCancel.thread quiet.1 u)
  have idles := (threadBecame_serviceEnded s u n).toTail .idle
  have took := idles.opLeave c len
  have run : exec (.done c false .clean .clean) s = .next (opDone c false len s) := cupStore_acts at' up (effect ▸ (idles.quiet quiet).opLeave ..)
  rw [effect] at run
  have items : (opLeave c len (toTail u .idle (serviceEnded u n s))).cup.items = Tab.set none s.cup.items n none := rfl
  refine ⟨_, run, took.opLeft (lcRuns_free core), ?_, congrArg Thread.st took.thread, congrArg Thread.item took.thread, took.threads,
    fun m other => ?_, took.only⟩
  · rw [State.item, items, Tab.get_set_same]
  · rw [State.item, items, Tab.get_set_ne _ _ _ _ _ other, State.item]

end

/-! ### FDISPATCH (R99, R358) -/

/-- A gate that `who` handed a request to. -/
theorem requestBy_asks (s : State) (who src dest oclass tc : Nat) (b : Body) :
    GateAsked s (s.requestBy who src dest oclass tc b) src { mkPacket src dest oclass tc b with who := who } :=
  ⟨by rw [State.requestBy, State.modGate_same], fun _ other => State.modGate_ne _ _ _ _ other⟩

theorem fdispatch_asks (s : State) (c len : Nat) (at' : OpAt s c 8 len) : Answers (.fdispatch c .clean .clean) s (fun t =>
    let k := s.core c
    GateAsked s t 80 { mkPacket 80 ((k.arg 0).toNat / 2 ^ 16 % 64) 0 0 (.internal msgDispatch [BitVec.ofNat 32 ((k.arg 0).toNat % 256),
      BitVec.ofNat 32 ((k.arg 1).toNat / 2 ^ 16), BitVec.ofNat 32 ((k.arg 1).toNat % 2 ^ 16), BitVec.ofNat 32 c]) with who := 33 + k.ask } ∧
    t.core c = { k with ask := k.ask + 1, stall := .fdispatch } ∧ OtherCores s t c ∧ t = { s with cores := t.cores, net := t.net }) := by
  have flask (w : Word) : fld w 21 16 = w.toNat / 2 ^ 16 % 64 := rfl
  have context (w : Word) : fld w 7 0 = w.toNat % 256 := fld_low w 7
  have token (w : Word) : fld w 15 0 = w.toNat % 2 ^ 16 := fld_low w 15
  have cycles (w : Word) : fld w 31 16 = w.toNat / 2 ^ 16 := Nat.mod_eq_of_lt (Nat.div_lt_of_lt_mul w.isLt)
  have mark : whoDispatch ((s.core c).ask + 1) = 33 + (s.core c).ask := by rw [whoDispatch]; omega
  have quiet : LcQuiet (opFdispatch c s) c := at'.1.2.2.modCore _ rfl rfl rfl
  have run : exec (.fdispatch c .clean .clean) s = .next (opFdispatch c s) := opRow_acts (act := fun _ => opFdispatch c) at' quiet
  refine ⟨_, run, ?_⟩
  have asked := requestBy_asks s (33 + (s.core c).ask) 80 (((s.core c).arg 0).toNat / 2 ^ 16 % 64) 0 0 (.internal msgDispatch
    [BitVec.ofNat 32 (((s.core c).arg 0).toNat % 256), BitVec.ofNat 32 (((s.core c).arg 1).toNat / 2 ^ 16),
      BitVec.ofNat 32 (((s.core c).arg 1).toNat % 2 ^ 16), BitVec.ofNat 32 c])
  rw [opFdispatch]
  dsimp only
  rw [flask, context, token, cycles, mark, dispatchBody]
  exact ⟨asked, State.modCore_same .., fun d other => State.modCore_ne _ _ other, rfl⟩

/-! ### T_CMD (R363, R364) -/

theorem Answered.cup {s t : State} : Answered s t → t.cup = s.cup := by rintro ⟨_, _, _, _, rfl⟩; rfl
theorem Answered.cores {s t : State} : Answered s t → t.cores = s.cores := by rintro ⟨_, _, _, _, rfl⟩; rfl
theorem Answered.cupRuns {s t : State} : Answered s t → t.cupRuns = s.cupRuns := by rintro ⟨_, _, _, _, rfl⟩; rfl
theorem Answered.thread {s t : State} (a : Answered s t) (u : Nat) : t.thread u = s.thread u := by rw [State.thread, a.cup, State.thread]
theorem Answered.selThread {s t : State} : Answered s t → ∀ path, selThread t path = selThread s path := by rintro ⟨_, _, _, _, rfl⟩ _; rfl

section
variable {s : State} {path : Nat}

/-- An admitted T_CMD acts on the thread selected, on a machine that differs by the access alone. -/
theorem tCommand_acts {act : Nat → State → Except Word State} {g : State → State} (admitted : Admitted s path 0x3310 4 2) (up : s.cupRuns = true)
    (acts : ∀ v, Answered s v → act (selThread s path) v = .ok (g v)) :
    ∃ v, tCommand path act s = .next (accept path 0x3310 4 (g v)) ∧ Answered s v := by
  have touched := Answered.touch path s
  refine ⟨touch path s, dictCommand_admitted admitted ?_, touched⟩
  rw [need_ok (touched.cupRuns.trans up), touched.selThread, acts _ touched]

/-- What such a command leaves that changes one thread. -/
theorem answers_tCommand {i : Instr} {v t : State} {u : Nat} {x : Thread} (run : exec i s = .next (accept path 0x3310 4 t)) (reached : Answered s v)
    (b : ThreadBecame v t u x) : Answers i s (fun r => r.thread u = x ∧ OtherThreads s r u ∧ OnlyAnswered s r) := by
  have answered := Answered.accept path 0x3310 4 t
  refine ⟨_, run, (answered.thread u).trans b.thread, fun w other => ?_, ?_⟩
  · rw [answered.thread, b.others w other, reached.thread]
  · have dict : t.dict = v.dict := by rw [b.only]
    have net : t.net = v.net := by rw [b.only]
    obtain ⟨taken, carried⟩ := reached.onlyAnswered
    obtain ⟨given, sent⟩ := answered.onlyAnswered
    exact ⟨by rw [given, dict, taken], by rw [sent, net, carried]⟩

/-- T_RESULT takes a value after the command's own effect. -/
theorem ThreadBecame.tResult {v t : State} {u : Nat} {x : Thread} (b : ThreadBecame v t u x) (w : Word) :
    ThreadBecame v (tResult u w t) u { x with tResult := w } := b.modThread (fun x => { x with tResult := w }) id

theorem tCmdCreate_readies (admitted : Admitted s path 0x3310 4 2) (up : s.cupRuns = true) :
    let u := selThread s path
    ((s.thread u).st = .free ∨ (s.thread u).st = .cancelled) → (s.thread u).group = 63 → Answers (.tCmdCreate path) s (fun t =>
      (t.thread u).st = .ready ∧ (t.thread u).fresh = true ∧ (t.thread u).tResult = 0 ∧ OtherThreads s t u ∧ OnlyAnswered s t) := by
  intro u rests group
  have acts : ∃ v, execTCmdCreate path s = .next (accept path 0x3310 4 (tResult u 0 (toTail u .ready (v.modThread u Thread.created)))) ∧
      Answered s v := by
    unfold execTCmdCreate
    refine tCommand_acts admitted up fun v reached => ?_
    dsimp only
    rw [createThread_readies (by rwa [reached.thread]) (by rwa [reached.thread])]
    rfl
  obtain ⟨v, run, reached⟩ := acts
  refine (answers_tCommand (i := .tCmdCreate path) run reached ((threadBecame_created v u).tResult 0)).imp fun t ⟨thread, others, answered⟩ => ?_
  exact ⟨congrArg Thread.st thread, congrArg Thread.fresh thread, congrArg Thread.tResult thread, others, answered⟩

theorem tCmdCancel_cancels (admitted : Admitted s path 0x3310 4 2) (up : s.cupRuns = true) :
    let u := selThread s path
    (s.thread u).st = .delay → AloneThread s u → Answers (.tCmdCancel path) s (fun t =>
      (t.thread u).st = .cancelled ∧ (t.thread u).tResult = BitVec.ofNat 32 (5 * 2 ^ 27) ∧ OtherThreads s t u ∧ OnlyAnswered s t) := by
  intro u delay alone
  have acts : ∃ v, execTCmdCancel path s = .next (accept path 0x3310 4 (tResult u (BitVec.ofNat 32 delayRval) (delayCancelled u v))) ∧
      Answered s v := by
    unfold execTCmdCancel
    refine tCommand_acts (g := fun v => tResult u (BitVec.ofNat 32 delayRval) (delayCancelled u v)) admitted up fun v reached => ?_
    rw [cancelNowOrAsk_delay (by rwa [reached.thread]) (alone.congr reached.cup reached.cores)]
  obtain ⟨v, run, reached⟩ := acts
  refine (answers_tCommand (i := .tCmdCancel path) run reached ((threadBecame_delayCancelled v u).tResult (BitVec.ofNat 32 delayRval))).imp
    fun t ⟨thread, others, answered⟩ => ?_
  exact ⟨congrArg Thread.st thread, congrArg Thread.tResult thread, others, answered⟩

theorem tCmdRestart_readies (admitted : Admitted s path 0x3310 4 2) (up : s.cupRuns = true) :
    let u := selThread s path
    (s.thread u).st = .faulted → Answers (.tCmdRestart path) s (fun t =>
      (t.thread u).st = .ready ∧ (t.thread u).fresh = true ∧ (t.thread u).tResult = 0 ∧ OtherThreads s t u ∧ OnlyAnswered s t) := by
  intro u faulted
  have acts : ∃ v, execTCmdRestart path s = .next (accept path 0x3310 4
      (tResult u 0 (toTail u .ready ((releaseSlots u v).modThread u (Thread.restarted (itemAgain v u)))))) ∧ Answered s v := by
    unfold execTCmdRestart
    refine tCommand_acts (g := fun v => tResult u 0 (toTail u .ready ((releaseSlots u v).modThread u (Thread.restarted (itemAgain v u)))))
      admitted up fun v reached => ?_
    dsimp only
    rw [restartThread_readies (by rwa [reached.thread])]
    rfl
  obtain ⟨v, run, reached⟩ := acts
  refine (answers_tCommand (i := .tCmdRestart path) run reached ((threadBecame_restarted v u (itemAgain v u)).tResult 0)).imp
    fun t ⟨thread, others, answered⟩ => ?_
  exact ⟨congrArg Thread.st thread, congrArg Thread.fresh thread, congrArg Thread.tResult thread, others, answered⟩

theorem tCmdRelease_frees (admitted : Admitted s path 0x3310 4 2) (up : s.cupRuns = true) :
    let u := selThread s path
    (s.thread u).st = .cancelled → Answers (.tCmdRelease path) s (fun t =>
      t.thread u = { s.thread u with st := .free, tResult := 0 } ∧ OtherThreads s t u ∧ OnlyAnswered s t) := by
  intro u cancelled
  have acts : ∃ v, execTCmdRelease path s =
      .next (accept path 0x3310 4 (tResult u 0 (v.modThread u (fun x => { x with st := .free })))) ∧ Answered s v := by
    unfold execTCmdRelease
    exact tCommand_acts (g := fun v => tResult u 0 (v.modThread u (fun x => { x with st := .free }))) admitted up fun v reached =>
      need_ok (decide_eq_true ((congrArg Thread.st (reached.thread u)).trans cancelled))
  obtain ⟨v, run, reached⟩ := acts
  refine (answers_tCommand (i := .tCmdRelease path) run reached (((ThreadBecame.refl v u).modThread (fun x => { x with st := .free }) id).tResult 0)).imp
    fun t ⟨thread, others, answered⟩ => ?_
  exact ⟨by rw [thread, reached.thread], others, answered⟩

end

end Sys2Proof.Machine
end

section
/-! Proofs of 07_cupola_scheduler.md (R338, R339, R346, R352-R356, R360): the dispatch cycle, the input rings, completions, the placement of a halted
core's threads and ATTN. -/

namespace Sys2Proof.Machine

/-! ### The dispatch cycle (R336-R339) -/

/-- A fold that keeps one of two ends at a member. -/
theorem foldl_pick_mem {α : Type} {pick : α → α → α} (either : ∀ a b, pick a b = a ∨ pick a b = b) (l : List α) (a : α) : l.foldl pick a ∈ a :: l :=
  List.foldlRecOn (motive := (· ∈ a :: l)) l pick List.mem_cons_self fun b member x listed => by
    rcases either b x with first | second
    · rw [first]; exact member
    · rw [second]; exact List.mem_cons_of_mem a listed

/-- A core is sent one dispatch a cycle. -/
theorem targetCore_unused {s : State} {used : List Nat} {x : Thread} {c : Nat} (target : targetCore s used x = some c) : c ∉ used := by
  rw [targetCore] at target
  split at target
  · cases target
  · next d r cores =>
    have chosen : c ∈ d :: r := by
      rw [← Option.some.inj target]
      exact foldl_pick_mem (fun a b => by split <;> simp) r d
    rw [← cores, List.mem_filter] at chosen
    simp only [Bool.and_eq_true] at chosen
    simpa using chosen.2.1.1.2

theorem dispatchChoice_unused {s : State} {used : List Nat} {u c : Nat} (choice : dispatchChoice s used = some (u, c)) : c ∉ used := by
  rw [dispatchChoice] at choice
  dsimp only at choice
  split at choice
  · cases choice
  · next e r threads =>
    have chosen := foldl_pick_mem (pick := fun (m : Nat × Thread × Nat) e =>
      if s.effPrio e.2.1 < s.effPrio m.2.1 || (s.effPrio e.2.1 = s.effPrio m.2.1 && e.2.1.order < m.2.1.order) then e else m)
      (fun a b => by split <;> simp) r e
    rw [← threads, List.mem_filterMap] at chosen
    obtain ⟨y, -, given⟩ := chosen
    split at given
    · obtain ⟨d, target, same⟩ := Option.map_eq_some_iff.1 given
      have core : c = d := by
        rw [← (Prod.mk.inj (Option.some.inj choice)).2, ← same]
      exact core ▸ targetCore_unused target
    · cases given

/-- A dispatch sent to core `c`. -/
def Cupola.sends (u c : Nat) (x : Cupola) : Cupola := { x with sent := Tab.set none x.sent c (some u) }

/-- A cycle changes no more than what is sent, and nothing of the cores already used. -/
theorem dispatchCycle_sends : ∀ (n : Nat) (used : List Nat) (s : State),
    dispatchCycle n used s = { s with cup := { s.cup with sent := (dispatchCycle n used s).cup.sent } } ∧
      ∀ c ∈ used, Tab.get none (dispatchCycle n used s).cup.sent c = Tab.get none s.cup.sent c
  | 0, _, _ => ⟨rfl, fun _ _ => rfl⟩
  | n + 1, used, s => by
    rw [dispatchCycle]
    split
    · next u c choice =>
      obtain ⟨only, kept⟩ := dispatchCycle_sends n (c :: used) (s.modCup (Cupola.sends u c))
      refine ⟨only, fun d before => (kept d (List.mem_cons_of_mem c before)).trans ?_⟩
      exact Tab.get_set_ne none (some u) s.cup.sent c d fun same => dispatchChoice_unused choice (same ▸ before)
    · exact ⟨rfl, fun _ _ => rfl⟩

theorem exec_cupolaDispatch {s : State} (up : s.cupRuns = true) : exec (.cupolaDispatch .clean) s = .next (dispatchCycle 8 [] s) := by
  show event s.cupRuns s (if s.cupRuns then dispatchCycle 8 [] s else s) = _
  rw [event_of up, if_pos up]

theorem cupolaDispatch_sends (s : State) (u c : Nat) (up : s.cupRuns = true) (choice : dispatchChoice s [] = some (u, c)) :
    Answers (.cupolaDispatch .clean) s (fun t => Tab.get none t.cup.sent c = some u ∧ t.cup.threads = s.cup.threads ∧
      t = { s with cup := { s.cup with sent := t.cup.sent } }) := by
  have first : dispatchCycle 8 [] s = dispatchCycle 7 [c] (s.modCup (Cupola.sends u c)) := by
    rw [dispatchCycle, choice]
    rfl
  obtain ⟨only, kept⟩ := dispatchCycle_sends 7 [c] (s.modCup (Cupola.sends u c))
  rw [← first] at only kept
  exact ⟨_, exec_cupolaDispatch up, (kept c (List.mem_singleton_self c)).trans (Tab.get_set_same none (some u) s.cup.sent c), by rw [only]; rfl, only⟩

theorem cupolaDispatch_idles (s : State) (up : s.cupRuns = true) (none : dispatchChoice s [] = none) : exec (.cupolaDispatch .clean) s = .next s := by
  rw [exec_cupolaDispatch up, dispatchCycle, none]

theorem dispatchWithdraw_withdraws (s : State) (c : Nat) : Answers (.dispatchWithdraw c) s (fun t =>
    Tab.get none t.cup.sent c = none ∧ (∀ d, d ≠ c → Tab.get none t.cup.sent d = Tab.get none s.cup.sent d) ∧
    t = { s with cup := { s.cup with sent := t.cup.sent } }) :=
  ⟨_, rfl, Tab.get_set_same none none s.cup.sent c, fun d other => Tab.get_set_ne none none s.cup.sent c d other, rfl⟩

/-! ### Items that wait for their flow (R326, R327, R330) -/

/-- A posted item that waits. -/
def Cupola.waitingItem (h : Word) (ws : List Word) (c : Cupola) : Cupola :=
  { c with items := Tab.set none c.items c.nextItem (some { st := .waiting, header := h, payload := ws, thread := 0 }), nextItem := c.nextItem + 1 }

/-- A refused item is counted (R351). -/
def Cupola.postRefused (c : Cupola) : Cupola := { c with postsRefused := c.postsRefused + 1 }

/-- With no item ELIGIBLE in its group, a group is assigned nothing. -/
theorem assignGroup_none {g : Nat} {s : State} (unready : itemsWhere s (fun x => x.st = .eligible && itemGroup x.header = g) = []) : assignGroup g s = s := by
  rw [assignGroup, unready]
  rfl

theorem acceptItem_waits {h : Word} {ws : List Word} {s : State} (busy : flowBusy s (itemFlow h) = true)
    (unready : itemsWhere s (fun x => x.st = .eligible && itemGroup x.header = itemGroup h) = []) :
    acceptItem h ws s = s.modCup (Cupola.waitingItem h ws) := by
  have still : itemsWhere (s.modCup (Cupola.waitingItem h ws)) (fun x => x.st = .eligible && itemGroup x.header = itemGroup h) = [] :=
    itemsWhere_nil.2 fun e listed i held => by
      rcases Tab.mem_set (t := s.cup.items) (k := s.cup.nextItem) (d := Option.none)
        (v := some { st := .waiting, header := h, payload := ws, thread := 0 }) listed with new | old
      · rw [new] at held
        simp [← Option.some.inj held]
      · exact itemsWhere_nil.1 unready e old i held
  rw [acceptItem, busy, Bool.true_or, if_pos rfl]
  exact assignGroup_none still

section
variable {h : Word} {ws : List Word} {s : State}

/-- An item that POST does not refuse as malformed. -/
theorem itemFits (group : itemGroup h ≠ 63) (item : h.getLsbD 31 = false) (fits : ws.length ≤ 4) :
    (decide (itemGroup h = 63) || h.getLsbD 31 || decide (4 < ws.length)) = false := by
  rw [decide_eq_false group, item, decide_eq_false (Nat.not_lt.2 fits)]
  rfl

theorem cupPost_waits (group : itemGroup h ≠ 63) (item : h.getLsbD 31 = false) (fits : ws.length ≤ 4) (room : s.cup.items.length < 524288)
    (busy : flowBusy s (itemFlow h) = true) (unready : itemsWhere s (fun x => x.st = .eligible && itemGroup x.header = itemGroup h) = []) :
    cupPost h ws s = (resOk, s.modCup (Cupola.waitingItem h ws)) := by
  rw [cupPost, itemFits group item fits, if_neg Bool.false_ne_true, if_neg (Nat.not_le.2 room), acceptItem_waits busy unready]

theorem cupPost_full (group : itemGroup h ≠ 63) (item : h.getLsbD 31 = false) (fits : ws.length ≤ 4) (full : 524288 ≤ s.cup.items.length) :
    cupPost h ws s = (resRefused, s.modCup Cupola.postRefused) := by
  rw [cupPost, itemFits group item fits, if_neg Bool.false_ne_true, if_pos full]
  rfl

end

/-! ### The input rings (R352-R354) -/

@[simp] theorem State.modRing_same (s : State) (r : Nat) (g : Ring → Ring) : (s.modRing r g).ring r = g (s.ring r) := Tab.get_modify_same ..

theorem State.modRing_ne (s : State) {r q : Nat} (g : Ring → Ring) (other : q ≠ r) : (s.modRing r g).ring q = s.ring q :=
  Tab.get_modify_ne _ _ _ _ _ other

/-- A packet of an item is posted (R353): it is held where it is refused. -/
theorem takePacket_item {r : Nat} {h : QWord} {rest : List QWord} {s : State} (clean : (h :: rest).all (fun x => !x.p) = true)
    (item : h.d.getLsbD 31 = false) (group : itemGroup h.d ≠ 63) (fits : rest.length ≤ 4) :
    takePacket r (h :: rest) s = (decide ((cupPost h.d (rest.map (·.d)) s).1 ≠ resRefused), (cupPost h.d (rest.map (·.d)) s).2) := by
  have sound : (h :: rest).any (·.p) = false := by simpa using clean
  simp only [takePacket, sound, List.map_cons, item, group, List.length_map, Nat.not_lt.2 fits, Bool.false_eq_true, if_false, Bool.not_false, if_true,
    decide_false, Bool.or_self]

theorem offerPacket_taken {r : Nat} {ws : List QWord} {s t : State} (taken : takePacket r ws s = (true, t)) :
    offerPacket r ws s = t.modRing r (fun x => { x with staged := none }) := by
  rw [offerPacket, taken]
  rfl

theorem offerPacket_held {r : Nat} {ws : List QWord} {s t : State} (refused : takePacket r ws s = (false, t)) :
    offerPacket r ws s = (t.modRing r (fun x => { x with staged := some ws })).modCup (fun u => { u with ringStall := true }) := by
  rw [offerPacket, refused]
  rfl

/-- A packet of ring `r` has posted an item that waits. -/
def Cupola.packetPosted (r : Nat) (h : Word) (ws : List Word) (c : Cupola) : Cupola :=
  { c with
    items := Tab.set none c.items c.nextItem (some { st := .waiting, header := h, payload := ws, thread := 0 })
    nextItem := c.nextItem + 1
    rings := Tab.modify Ring.reset c.rings r (fun x => { x with staged := none }) }

/-- A packet of ring `r` is held, and that stalls the ring. -/
def Cupola.packetHeld (r : Nat) (ws : List QWord) (c : Cupola) : Cupola :=
  { c with
    postsRefused := c.postsRefused + 1
    rings := Tab.modify Ring.reset c.rings r (fun x => { x with staged := some ws })
    ringStall := true }

section
variable (r : Nat) (s : State)

theorem packetPosted_ring (h : Word) (ws : List Word) : (s.modCup (Cupola.packetPosted r h ws)).ring r = { s.ring r with staged := none } :=
  State.modRing_same (s.modCup (Cupola.waitingItem h ws)) r (fun x => { x with staged := none })

theorem packetPosted_item (h : Word) (ws : List Word) : (s.modCup (Cupola.packetPosted r h ws)).item s.cup.nextItem =
    some { st := .waiting, header := h, payload := ws, thread := 0 } :=
  Tab.get_set_same none (some ({ st := .waiting, header := h, payload := ws, thread := 0 } : Item)) s.cup.items s.cup.nextItem

theorem packetHeld_ring (ws : List QWord) : (s.modCup (Cupola.packetHeld r ws)).ring r = { s.ring r with staged := some ws } :=
  State.modRing_same s r (fun x => { x with staged := some ws })

end

/-- A packet that posts an item whose flow is busy is taken. -/
theorem offerPacket_posts {r : Nat} {h : QWord} {rest : List QWord} {s : State} (clean : (h :: rest).all (fun x => !x.p) = true)
    (item : h.d.getLsbD 31 = false) (group : itemGroup h.d ≠ 63) (fits : rest.length ≤ 4) (room : s.cup.items.length < 524288)
    (busy : flowBusy s (itemFlow h.d) = true) (unready : itemsWhere s (fun x => x.st = .eligible && itemGroup x.header = itemGroup h.d) = []) :
    offerPacket r (h :: rest) s = s.modCup (Cupola.packetPosted r h.d (rest.map (·.d))) := by
  refine (offerPacket_taken (t := s.modCup (Cupola.waitingItem h.d (rest.map (·.d)))) ?_).trans rfl
  rw [takePacket_item clean item group fits, cupPost_waits group item (by rwa [List.length_map]) room busy unready]
  rfl

/-- One that item memory has no slot for is held. -/
theorem offerPacket_stalls {r : Nat} {h : QWord} {rest : List QWord} {s : State} (clean : (h :: rest).all (fun x => !x.p) = true)
    (item : h.d.getLsbD 31 = false) (group : itemGroup h.d ≠ 63) (fits : rest.length ≤ 4) (full : 524288 ≤ s.cup.items.length) :
    offerPacket r (h :: rest) s = s.modCup (Cupola.packetHeld r (h :: rest)) := by
  refine (offerPacket_held (t := s.modCup Cupola.postRefused) ?_).trans rfl
  rw [takePacket_item clean item group fits, cupPost_full group item (by rwa [List.length_map]) full]
  rfl

theorem exec_ringPop_answer {s : State} {r : Nat} {st : PopStatus} {ws : List QWord} (up : s.cupRuns = true) (reply : ringReply s = some (r, st, ws)) :
    exec (.ringPop .clean) s = .next (ringAnswer r st ws (s.takeAnswer 80 (1 + r) (.popResp st ws))) := by
  show execRingPop .clean s = _
  simp only [execRingPop, cupCheck, reply, up, Bool.not_true, Bool.false_eq_true, if_false, whoRing]
  exact event_of rfl _ _

theorem ringPop_pops (s : State) (r : Nat) (up : s.cupRuns = true) (none : ringReply s = none) (free : ringBusy s = false) (turn : ringTurn s = some r) :
    Answers (.ringPop .clean) s (fun t => GateAsked s t 80 { mkPacket 80 81 0 0 (.pop (ringQueue s r) 1) with who := 1 + r } ∧
      t = { s with cup := { s.cup with nextRing := r }, net := t.net }) := by
  have run : exec (.ringPop .clean) s =
      .next ((s.modCup (fun u => { u with nextRing := r })).requestBy (1 + r) 80 81 0 0 (.pop (ringQueue s r) 1)) := by
    show execRingPop .clean s = _
    simp only [execRingPop, cupCheck, none, free, turn, up, Bool.not_true, Bool.false_eq_true, if_false, whoRing]
    exact event_of rfl _ _
  exact ⟨_, run, requestBy_asks (s.modCup (fun u => { u with nextRing := r })) (1 + r) 80 81 0 0 (.pop (ringQueue s r) 1), rfl⟩

theorem ringPop_joins (s : State) (r : Nat) (w : QWord) (up : s.cupRuns = true) (reply : ringReply s = some (r, .ok, [w])) (more : w.l = false) :
    Answers (.ringPop .clean) s (fun t =>
      t.ring r = { s.ring r with partialWords := (s.ring r).partialWords ++ [w] } ∧ (∀ q, q ≠ r → t.ring q = s.ring q) ∧
      t = { s with cup := { s.cup with rings := t.cup.rings }, net := t.net }) := by
  have run := exec_ringPop_answer up reply
  simp only [ringAnswer, more, Bool.false_eq_true, if_false] at run
  exact ⟨_, run, State.modRing_same .., fun q other => State.modRing_ne _ _ other, rfl⟩

/-- The words of the packet of ring `r` are taken from it, and the turn passes on. -/
def Cupola.packetCame (r : Nat) (c : Cupola) : Cupola :=
  { c with rings := Tab.modify Ring.reset c.rings r (fun x => { x with partialWords := [] }), nextRing := (r + 1) % 16 }

/-- The machine that offers a packet whose last word, `w`, came. -/
def packetDone (r : Nat) (w : QWord) (s : State) : State := (s.takeAnswer 80 (1 + r) (.popResp .ok [w])).modCup (Cupola.packetCame r)

theorem packetDone_ring (r : Nat) (w : QWord) (s : State) : (packetDone r w s).ring r = { s.ring r with partialWords := [] } :=
  State.modRing_same (s.takeAnswer 80 (1 + r) (.popResp .ok [w])) r (fun x => { x with partialWords := [] })

theorem exec_ringPop_last {s : State} {r : Nat} {w h : QWord} {rest : List QWord} (gets : RingGets s r w h rest) :
    exec (.ringPop .clean) s = .next (offerPacket r (h :: rest) (packetDone r w s)) := by
  obtain ⟨up, reply, last, packet, -⟩ := gets
  have words : ((s.takeAnswer 80 (1 + r) (.popResp .ok [w])).ring r).partialWords ++ [w] = h :: rest := packet
  have run := exec_ringPop_answer up reply
  simp only [ringAnswer, last, if_true, words] at run
  exact run

theorem ringPop_posts (s : State) (r : Nat) (w h : QWord) (rest : List QWord) (gets : RingGets s r w h rest) (room : s.cup.items.length < 524288) :
    Answers (.ringPop .clean) s (fun t =>
      t.item s.cup.nextItem = some { st := .waiting, header := h.d, payload := rest.map (·.d), thread := 0 } ∧
      t.ring r = { s.ring r with partialWords := [], staged := none } ∧ t.cup.nextRing = (r + 1) % 16 ∧ t.cup.threads = s.cup.threads ∧
      t = { s with cup := t.cup, net := t.net }) := by
  have run := exec_ringPop_last gets
  obtain ⟨-, -, -, -, clean, item, group, fits, busy, unready⟩ := gets
  rw [offerPacket_posts (s := packetDone r w s) clean item group fits room busy unready] at run
  refine ⟨_, run, packetPosted_item r (packetDone r w s) h.d (rest.map fun x : QWord => x.d), ?_, rfl, rfl, rfl⟩
  rw [packetPosted_ring, packetDone_ring]

theorem ringPop_stalls (s : State) (r : Nat) (w h : QWord) (rest : List QWord) (gets : RingGets s r w h rest) (full : 524288 ≤ s.cup.items.length) :
    Answers (.ringPop .clean) s (fun t =>
      t.ring r = { s.ring r with partialWords := [], staged := some (h :: rest) } ∧ t.cup.ringStall = true ∧ t.cup.items = s.cup.items ∧
      t.cup.postsRefused = s.cup.postsRefused + 1 ∧ t = { s with cup := t.cup, net := t.net }) := by
  have run := exec_ringPop_last gets
  obtain ⟨-, -, -, -, clean, item, group, fits, -⟩ := gets
  rw [offerPacket_stalls (s := packetDone r w s) clean item group fits full] at run
  refine ⟨_, run, ?_, rfl, rfl, rfl, rfl⟩
  rw [packetHeld_ring, packetDone_ring]

theorem ringRetry_posts (s : State) (r : Nat) (w : QWord) (up : s.cupRuns = true) (on : (ringCfg s r).getLsbD 31 = true)
    (staged : (s.ring r).staged = some [w]) (clean : w.p = false) (item : w.d.getLsbD 31 = false) (group : itemGroup w.d ≠ 63)
    (room : s.cup.items.length < 524288) (busy : flowBusy s (itemFlow w.d) = true)
    (unready : itemsWhere s (fun x => x.st = .eligible && itemGroup x.header = itemGroup w.d) = []) : Answers (.ringRetry r) s (fun t =>
      t.item s.cup.nextItem = some { st := .waiting, header := w.d, payload := [], thread := 0 } ∧ (t.ring r).staged = none ∧
      t.cup.threads = s.cup.threads ∧ t = { s with cup := t.cup }) := by
  have run : exec (.ringRetry r) s = .next (offerPacket r [w] s) := by
    show execRingRetry r s = _
    simp only [execRingRetry, staged]
    exact event_of (by rw [up, on]; rfl) _ _
  rw [offerPacket_posts (by simp [clean]) item group (Nat.zero_le _) room busy unready] at run
  refine ⟨_, run, packetPosted_item r s w.d [], ?_, rfl, rfl⟩
  rw [packetPosted_ring]

/-! ### Completions of flasks (R346, R351) -/

theorem cupSend_holds {s : State} {tag v : Word} {n : Nat} (new : slotOfTag s tag = none) (free : freeSlot s = some n) :
    cupSend tag v s = (resOk, n, s.setSlot n { st := .held, tag := tag, operand := v, waiter := 0, pos := 0 }) := by
  rw [cupSend, new]
  dsimp only
  rw [free]

theorem State.setSlot_same (s : State) (n : Nat) (x : MatchSlot) : (s.setSlot n x).slotAt n = x := Tab.get_set_same MatchSlot.reset x s.cup.slots n

theorem State.setSlot_ne (s : State) {n m : Nat} (x : MatchSlot) (other : m ≠ n) : (s.setSlot n x).slotAt m = s.slotAt m :=
  Tab.get_set_ne MatchSlot.reset x s.cup.slots n m other

theorem flaskCompletion_holds (s : State) (k x tok n : Nat) (cut : Bool) (up : s.cupRuns = true) (flask : k < 64) (ctx : x < 256) (asked : 0 < tok)
    (token : tok < 65536) :
    let tag := BitVec.ofNat 32 (0xF0000000 + k * 2 ^ 16 + tok)
    s.atFront 80 k 0 (.internal msgCompletion [BitVec.ofNat 32 tok, BitVec.ofNat 32 x, BitVec.ofNat 32 cut.toNat]) = true →
    slotOfTag s tag = none → freeSlot s = some n → Answers (.flaskCompletion k x tok cut .clean) s (fun t =>
      t.slotAt n = { st := .held, tag := tag, operand := BitVec.ofNat 32 (x + 256 * cut.toNat), waiter := 0, pos := 0 } ∧
      (∀ m, m ≠ n → t.slotAt m = s.slotAt m) ∧ t.cup.threads = s.cup.threads ∧ t = { s with cup := t.cup, net := t.net }) := by
  intro tag front new free
  have flag : (if cut then 1 else 0 : Word) = BitVec.ofNat 32 cut.toNat := by cases cut <;> rfl
  have operand : x % 256 + (if cut then 256 else 0) = x + 256 * cut.toNat := by
    rw [Nat.mod_eq_of_lt ctx]
    cases cut <;> rfl
  have word : BitVec.ofNat 32 (0xF0000000 + k % 64 * 2 ^ 16 + tok % 2 ^ 16) = tag := by
    rw [Nat.mod_eq_of_lt flask, Nat.mod_eq_of_lt (show tok < 2 ^ 16 from token)]
  have marked : tok % 2 ^ 16 ≠ 0 := by omega
  have holds := cupSend_holds (v := BitVec.ofNat 32 (x + 256 * cut.toNat)) new free
  have run : exec (.flaskCompletion k x tok cut .clean) s =
      .next ((s.setSlot n { st := .held, tag := tag, operand := BitVec.ofNat 32 (x + 256 * cut.toNat), waiter := 0, pos := 0 }).consume 80 k 0
        (.internal msgCompletion [BitVec.ofNat 32 tok, BitVec.ofNat 32 x, BitVec.ofNat 32 cut.toNat])) := by
    show execFlaskCompletion k x tok cut .clean s = _
    simp only [execFlaskCompletion, cupCheck, flag, operand, word, holds, up, front, Bool.not_true, Bool.false_eq_true, if_false, Bool.true_and, Bool.and_true]
    exact event_of (decide_eq_true marked) _ _
  have taken := onlyNet_consume (s.setSlot n { st := .held, tag := tag, operand := BitVec.ofNat 32 (x + 256 * cut.toNat), waiter := 0, pos := 0 }) 80 k 0
    (.internal msgCompletion [BitVec.ofNat 32 tok, BitVec.ofNat 32 x, BitVec.ofNat 32 cut.toNat])
  refine ⟨_, run, ?_⟩
  generalize State.consume _ 80 k 0 _ = t at taken
  rw [taken]
  exact ⟨State.setSlot_same .., fun m other => State.setSlot_ne _ _ other, rfl, rfl⟩

/-! ### The threads of a halted core (R313, R360) -/

/-- The machine once the placement of core `c`'s threads is reported and recorded. -/
def placementDone (c n : Nat) (s : State) : State :=
  (reportAt 0x2401 7 c 0xFFFFFFFF (BitVec.ofNat 64 n) s).modCore c (fun k => { k with placing := [], placeDue := false })

theorem cupolaHaltPlacement_places (s : State) (c u : Nat) (up : s.cupRuns = true) (due : (s.core c).placeDue = true) (free : (s.core c).banks = [])
    (idle : (s.core c).unit' = .idle) (placing : (s.core c).placing = [u]) (running : (s.thread u).st = .running)
    (cancels : ∀ e ∈ s.cup.threads, e.2.cancelAsked = false) : Answers (.cupolaHaltPlacement c .clean) s (fun t =>
      t.thread u = { s.thread u with st := .ready, order := s.cup.readyLo - 1 } ∧ OtherThreads s t u ∧
      t.core c = { s.core c with placing := [], placeDue := false } ∧ OtherCores s t c ∧ Reports s t 0x2401 7 c) := by
  have bound : (List.range 32).any (fun b => (((s.core c).bank b).thread).isSome) = false := by
    simp [LcCore.bank, free, Bank.reset]
  have headed := (ThreadBecame.refl s u).toHead
  have cup : (placementDone c 1 (toHead u s)).cup = (toHead u s).cup := reportAt_cup ..
  have cores : (reportAt 0x2401 7 c 0xFFFFFFFF (BitVec.ofNat 64 1) (toHead u s)).cores = s.cores := (reportAt_cores ..).trans headed.cores
  have places : placeThreads c s = placementDone c 1 (toHead u s) := by
    have settled : settleCancels (placementDone c 1 (toHead u s)) = placementDone c 1 (toHead u s) :=
      settleCancels_none (by rw [cup]; exact headed.noCancel cancels)
    have heads : [u].reverse.foldl (fun s t => if (s.thread t).st = .running then toHead t s else s) s = toHead u s := if_pos running
    rw [← settled, placeThreads, placing, heads]
    rfl
  have run : exec (.cupolaHaltPlacement c .clean) s = .next (placeThreads c s) := by
    show event (s.cupRuns && (s.core c).placeDue && !(List.range 32).any (fun b => (((s.core c).bank b).thread).isSome) &&
      decide ((s.core c).unit' = .idle)) s (if s.cupRuns then placeThreads c s else s) = _
    rw [event_of (by simp only [up, due, bound, idle]; rfl), if_pos up]
  rw [places] at run
  have reported : Reports (toHead u s) (reportAt 0x2401 7 c 0xFFFFFFFF (BitVec.ofNat 64 1) (toHead u s)) 0x2401 7 c :=
    reports_reportAt 0x2401 7 c 0xFFFFFFFF (BitVec.ofNat 64 1) (toHead u s)
  refine ⟨_, run, ?_, fun v other => ?_, ?_, fun d other => ?_, ?_⟩
  · rw [State.thread, cup]; exact headed.thread
  · rw [State.thread, cup]; exact headed.others v other
  · rw [placementDone, State.modCore_same, State.core, cores]; rfl
  · rw [placementDone, State.modCore_ne _ _ other, State.core, cores]; rfl
  · exact (reported.of_chill (by rw [headed.only])).to_chill rfl

/-! ### ATTN (R356) -/

theorem attnWord_bits (s : State) :
    attnWord s = BitVec.ofNat 32 (4 * s.cup.abandoned.toNat + 2 * s.cup.coreHalted.toNat + s.cup.ringStall.toNat) := by
  rw [attnWord]
  cases s.cup.abandoned <;> cases s.cup.coreHalted <;> cases s.cup.ringStall <;> rfl

theorem LcWent.to_cores {s t t' : State} {c len : Nat} {k : LcCore} (went : LcWent s t c len k) (same : t'.cores = t.cores) : LcWent s t' c len k := by
  unfold LcWent OtherCores State.core at *
  rwa [same]

/-- The read of ATTN into register `rd`. -/
def readAttn (c len rd : Nat) (s : State) : State :=
  (lcWrite c len rd (attnWord s) s).modCup (fun u => { u with abandoned := false, coreHalted := false, ringStall := false })

theorem attnRead_clears (s : State) (c len rd : Nat) (at' : LcAt s c (.attn rd) len) : Answers (.attnRead c .clean) s (fun t =>
    LcWent s t c len ((s.core c).setReg rd (BitVec.ofNat 32 (4 * s.cup.abandoned.toNat + 2 * s.cup.coreHalted.toNat + s.cup.ringStall.toNat))) ∧
    t = { s with cores := t.cores, cup := { s.cup with abandoned := false, coreHalted := false, ringStall := false } }) := by
  have wrote := coreBecame_lcWrite s c len rd (attnWord s)
  have kept : BoundaryKept s (lcWrite c len rd (attnWord s) s) c := by
    rw [(s.core c).setReg_banks] at wrote
    exact wrote.kept rfl rfl rfl
  have run : exec (.attnRead c .clean) s = .next (readAttn c len rd s) := by
    show execAttnRead c .clean s = _
    unfold execAttnRead
    exact lcRow_acts at' rfl ⟨kept.threads, kept.faultDue, kept.st, kept.levelMode⟩
  have went : LcWent s (lcWrite c len rd (attnWord s) s) c len ((s.core c).setReg rd (attnWord s)) := ⟨wrote.core, wrote.others⟩
  refine ⟨_, run, ?_, ?_⟩
  · rw [← attnWord_bits]
    exact went.to_cores rfl
  · rw [readAttn, wrote.only]
    rfl

/-! ### The statement -/

/-- Settles O31: each command has its lemma. -/
theorem threadsInputsAndDispatch : Obligations.ThreadsInputsAndDispatch :=
  ⟨⟨fun s c len at' => ⟨create_readies s c len at', create_refuses s c len at'⟩,
    fun s c len at' => ⟨restart_readies s c len at', restart_refuses s c len at'⟩,
    fun s c len at' => ⟨cancel_refuses s c len at', cancel_cancels s c len at'⟩,
    fun s c len at' => ⟨abandon_refuses s c len at', abandon_faults s c len at'⟩,
    fun s c len u n at' up runs => ⟨done_refuses s c len u at' up runs, done_idles s c len u n at' up runs⟩,
    fdispatch_asks,
    fun _ _ admitted up => ⟨tCmdCreate_readies admitted up, tCmdCancel_cancels admitted up, tCmdRestart_readies admitted up,
      tCmdRelease_frees admitted up⟩⟩,
   cupolaDispatch_sends, cupolaDispatch_idles, dispatchWithdraw_withdraws, ringPop_pops, ringPop_joins,
   fun s r w h rest gets => ⟨ringPop_posts s r w h rest gets, ringPop_stalls s r w h rest gets⟩,
   ringRetry_posts, flaskCompletion_holds, cupolaHaltPlacement_places, attnRead_clears⟩

end Sys2Proof.Machine
end

section
/-! Refutation of a statement of 07_cupola_scheduler.md: WAIT_MATCH over a match store that holds more slots than R341 gives it, in a state written out. -/

namespace Sys2Proof.Machine

/-! ### WAIT_MATCH over an overfull store (R341, R343, R351) -/

/-- A WAIT_MATCH of one tag that is HELD is refused where the store lists more than its 65,536 slots: the check counts the slots first. -/
theorem waitRefused_overfull {s : State} {tag : Word} {n : Nat} (found : slotOfTag s tag = some n) (held : (s.slotAt n).st = .held)
    (overfull : matchSlots < s.cup.slots.length) : waitRefused s [tag] = some resRefused := by
  have single : [tag].eraseDups = [tag] := by simp [List.eraseDups_cons]
  simp [waitRefused, single, found, held, overfull]

theorem waitMatch_overfull {s : State} {c len u n : Nat} (at' : OpAt s c 3 len) (runs : (s.core c).thread = some u)
    (one : fld ((s.core c).arg 0) 2 0 = 1) (found : slotOfTag s ((s.core c).arg 1) = some n) (held : (s.slotAt n).st = .held)
    (overfull : matchSlots < s.cup.slots.length) : exec (.waitMatch c .clean .clean) s =
      .next (opEnd c len resRefused 0 (s.modCup (fun u => { u with matchRefused := u.matchRefused + 1 }))) := by
  have tags : (List.range (fld ((s.core c).arg 0) 2 0)).map (fun j => (s.core c).arg (1 + j)) = [(s.core c).arg 1] := by rw [one]; rfl
  have effect : opWait c len s = opEnd c len resRefused 0 (s.modCup (fun u => { u with matchRefused := u.matchRefused + 1 })) := by
    simp only [opWait, runs, tags, waitRefused_overfull found held overfull, if_true]
  have counted := (ThreadBecame.refl s 0).modCup (fun u => { u with matchRefused := u.matchRefused + 1 }) fun _ => rfl
  exact (opRow_acts at' (effect ▸ (counted.quiet at'.1.2.2).opEnd ..)).trans (congrArg _ effect)

/-- Slot `n` holds an operand under the tag `n`. -/
def heldEntry (n : Nat) : Nat × MatchSlot := (n, { MatchSlot.reset with st := .held, tag := BitVec.ofNat 32 n })

/-- Core 0 stands at a store of 3 to OP, a WAIT_MATCH of one tag, 0, by thread 7, and the match store lists the first `n` slots, each HELD. -/
def waitsOver (n : Nat) : State :=
  { State.reset with
    power := { PowerState.reset with pllLocked := true, doms := [(86, { Dom.reset with st := .on }), (87, { Dom.reset with st := .on })] }
    loader := { Loader.reset with released := true }
    cup := { Cupola.reset with slots := (List.range n).map heldEntry }
    cores := [(0, { LcCore.reset with
      st := .running, booted := true, cur := 1, lmem := [(0, 0x0107A023)]
      banks := [(1, { Bank.reset with st := .resident, thread := some 7, x := [(15, 0x02000020), (16, 3)], args := [(0, 1)] })] })] }

theorem waitsOver_length (n : Nat) : (waitsOver n).cup.slots.length = n := by
  rw [waitsOver, List.length_map, List.length_range]

/-- Slot 0 is the first, and holds tag 0. -/
theorem waitsOver_slots (n : Nat) : (waitsOver (n + 1)).cup.slots = heldEntry 0 :: ((List.range n).map Nat.succ).map heldEntry := by
  rw [waitsOver, List.range_succ_eq_map]
  rfl

theorem waitsOver_found (n : Nat) : slotOfTag (waitsOver (n + 1)) 0 = some 0 := by
  rw [slotOfTag, waitsOver_slots]
  rfl

theorem waitsOver_held (n : Nat) : ((waitsOver (n + 1)).slotAt 0).st = .held := by
  rw [State.slotAt, waitsOver_slots]
  rfl

/-- The store lists 65,537 slots, one more than R341 gives it. -/
def overfullStore : State := waitsOver (matchSlots + 1)

/-- Refutes O30: the WAIT_MATCH of `overfullStore` is refused, and the statement, which bounds the slots only where none has the tag, says that it
goes on with the operand. -/
theorem not_itemsMatchesAndDelays : ¬ Obligations.ItemsMatchesAndDelays := by
  rintro ⟨-, -, wait, -⟩
  have at' : OpAt overfullStore 0 3 4 := by decide +kernel
  obtain ⟨goesOn, -⟩ := wait overfullStore 0 4 7 at' rfl rfl (by decide)
  have found : slotOfTag overfullStore ((overfullStore.core 0).arg 1) = some 0 := waitsOver_found matchSlots
  have held : (overfullStore.slotAt 0).st = .held := waitsOver_held matchSlots
  have overfull : matchSlots < overfullStore.cup.slots.length := (waitsOver_length _).symm ▸ Nat.lt_succ_self matchSlots
  obtain ⟨t, ran, -, -, result, -⟩ := goesOn 0 found held
  have refused := waitMatch_overfull at' rfl rfl found held overfull
  have same : t = _ := Host.Outcome.next.inj (ran.symm.trans refused)
  have refusal := congrArg (fun k => (LcCore.bank k 1).result) (coreBecame_opEnd
    (overfullStore.modCup (fun u => { u with matchRefused := u.matchRefused + 1 })) 0 4 resRefused 0).core
  rw [same] at result
  exact absurd (result.symm.trans refusal) (by decide)

end Sys2Proof.Machine
end

section
/-! Proofs of 08_runner_network.md (R384-R387): flits on the links. What a header that enters a link changes of the network is said once: its packet,
now behind the others, and hop credits; a packet of one flit uses one credit and gives one back. -/

namespace Sys2Proof.Machine

/-! ### Hop credits (R385) -/

/-- Of the network nothing has changed but hop credits. -/
def OnlyCredits (m n : RunnerState) : Prop := n = { m with credits := n.credits }

theorem OnlyCredits.refl (n : RunnerState) : OnlyCredits n n := rfl

theorem OnlyCredits.trans {l m n : RunnerState} (h : OnlyCredits l m) (k : OnlyCredits m n) : OnlyCredits l n := by
  unfold OnlyCredits at *; rw [k, h]

theorem onlyCredits_moveFlits (src key m : Nat) (n : RunnerState) : OnlyCredits n (moveFlits src key m n) := by
  obtain ⟨c, left⟩ := leaveStore_credits src m n
  rw [moveFlits, left]
  unfold enterStore
  split_ifs <;> rfl

@[simp] theorem hopCredits_modCredits_same (n : RunnerState) (k : Nat) (g : Nat → Nat) : (n.modCredits k g).hopCredits k = g (n.hopCredits k) :=
  Tab.get_modify_same ..

theorem hopCredits_modCredits_ne (n : RunnerState) {k j : Nat} (g : Nat → Nat) (other : j ≠ k) :
    (n.modCredits k g).hopCredits j = n.hopCredits j := by
  unfold RunnerState.hopCredits RunnerState.modCredits Tab.modify Tab.set
  dsimp only
  split
  · exact Tab.get_erase_ne _ _ _ _ other
  · exact Tab.get_insert_ne _ _ _ _ _ other

/-- A change that changes no number of credits. -/
theorem hopCredits_modCredits_id (n : RunnerState) (k j : Nat) {g : Nat → Nat} (same : ∀ x, g x = x) :
    (n.modCredits k g).hopCredits j = n.hopCredits j := by
  by_cases at' : j = k
  · rw [at', hopCredits_modCredits_same, same]
  · exact hopCredits_modCredits_ne n g at'

theorem moveFlits_none (src key : Nat) (n : RunnerState) (j : Nat) : (moveFlits src key 0 n).hopCredits j = n.hopCredits j := by
  have left : (leaveStore src 0 n).hopCredits j = n.hopCredits j := by
    unfold leaveStore
    split
    · exact hopCredits_modCredits_id _ _ _ Nat.add_zero
    · rfl
  rw [moveFlits, ← left]
  unfold enterStore
  split_ifs
  · exact hopCredits_modCredits_id _ _ _ Nat.add_zero
  · rfl
  · exact hopCredits_modCredits_id _ _ _ Nat.sub_zero
  · rfl
  · exact hopCredits_modCredits_id _ _ _ Nat.sub_zero

theorem storeRoom_none (n : RunnerState) (key own : Nat) : storeRoom n key own 0 = 0 := by
  unfold storeRoom
  split_ifs <;> simp

/-! ### Flits that follow their header (R386) -/

/-- The header's store only gains flits. -/
theorem pullFrom_head (a : Nat × Nat) (l : List (Nat × Nat)) (n : RunnerState) : ∃ m rest, (pullFrom a l n).1 = (a.1, a.2 + m) :: rest := by
  cases l with
  | nil => exact ⟨0, [], rfl⟩
  | cons b rest => exact ⟨_, _, rfl⟩

theorem pullPasses_head (k : Nat) (a : Nat × Nat) (l : List (Nat × Nat)) (n : RunnerState) :
    ∃ m rest, (pullPasses k (a :: l) n).1 = (a.1, a.2 + m) :: rest := by
  induction k generalizing a l n with
  | zero => exact ⟨0, l, rfl⟩
  | succ k ih =>
    obtain ⟨m, rest, pulled⟩ := pullFrom_head a l n
    obtain ⟨m', rest', passed⟩ := ih (a.1, a.2 + m) rest (pullFrom a l n).2
    refine ⟨m + m', rest', ?_⟩
    rw [pullPasses, pullStores]
    dsimp only
    rw [pulled, passed, Nat.add_assoc]

theorem onlyCredits_pullFrom (a : Nat × Nat) (l : List (Nat × Nat)) (n : RunnerState) : OnlyCredits n (pullFrom a l n).2 := by
  induction l generalizing a n with
  | nil => exact .refl n
  | cons b rest ih => exact (onlyCredits_moveFlits ..).trans (ih ..)

theorem onlyCredits_pullPasses (k : Nat) (l : List (Nat × Nat)) (n : RunnerState) : OnlyCredits n (pullPasses k l n).2 := by
  induction k generalizing l n with
  | zero => exact .refl n
  | succ k ih =>
    cases l with
    | nil => exact ih ..
    | cons a l => exact (onlyCredits_pullFrom a l n).trans (ih ..)

/-- Stores behind the header's that hold no flit let nothing follow. -/
theorem pullFrom_idle (a : Nat × Nat) (l : List (Nat × Nat)) (n : RunnerState) (empty : ∀ e ∈ l, e.2 = 0) :
    (pullFrom a l n).1 = a :: l ∧ ∀ j, (pullFrom a l n).2.hopCredits j = n.hopCredits j := by
  induction l generalizing a n with
  | nil => exact ⟨rfl, fun _ => rfl⟩
  | cons b rest ih =>
    obtain ⟨b1, b2⟩ := b
    obtain ⟨none, others⟩ := List.forall_mem_cons.1 empty
    obtain rfl : b2 = 0 := none
    have step : pullFrom a ((b1, 0) :: rest) n =
        (a :: (pullFrom (b1, 0) rest (moveFlits b1 a.1 0 n)).1, (pullFrom (b1, 0) rest (moveFlits b1 a.1 0 n)).2) := by
      rw [pullFrom, storeRoom_none]
      rfl
    obtain ⟨kept, credits⟩ := ih (b1, 0) (moveFlits b1 a.1 0 n) others
    rw [step]
    exact ⟨by rw [kept], fun j => by rw [credits, moveFlits_none]⟩

theorem pullPasses_idle (k : Nat) (a : Nat × Nat) (l : List (Nat × Nat)) (n : RunnerState) (empty : ∀ e ∈ l, e.2 = 0) (j : Nat) :
    (pullPasses k (a :: l) n).2.hopCredits j = n.hopCredits j := by
  induction k generalizing n with
  | zero => rfl
  | succ k ih =>
    obtain ⟨kept, credits⟩ := pullFrom_idle a l n empty
    rw [pullPasses, pullStores]
    dsimp only
    rw [kept, ih, credits]

/-- The packet put behind the others: its header stands where it stood, and at least its flits there still do. -/
theorem addFollowed_adds (n : RunnerState) (f : Flight) : ∃ c h tl, f.here ≤ h ∧
    n.addFollowed f = { n with credits := c, wire := n.wire ++ [{ f with here := h, tail := tl }] } := by
  obtain ⟨m, rest, pulled⟩ := pullPasses_head (flightStores f).length (flightStore f, f.here) f.tail n
  have only := onlyCredits_pullPasses (flightStores f).length (flightStores f) n
  change (pullPasses (flightStores f).length (flightStores f) n).1 = _ at pulled
  rw [RunnerState.addFollowed]
  generalize pullPasses (flightStores f).length (flightStores f) n = r at pulled only
  obtain ⟨l, n'⟩ := r
  dsimp only at pulled only ⊢
  rw [pulled, only]
  exact ⟨n'.credits, f.here + m, trimStores rest, Nat.le_add_right .., rfl⟩

/-- Where nothing is left behind the header, no credit is used. -/
theorem addFollowed_hopCredits (n : RunnerState) (f : Flight) (empty : ∀ e ∈ f.tail, e.2 = 0) (j : Nat) :
    (n.addFollowed f).hopCredits j = n.hopCredits j :=
  pullPasses_idle (flightStores f).length (flightStore f, f.here) f.tail n empty j

/-! ### A header that moves (R385-R387) -/

/-- A header has left its store for the input `inp` of `x`: of the network its packet has changed, which is now the last, and hop credits. -/
def HeaderMoved (m n : RunnerState) (f : Flight) (x inp : Nat) (pkt : Packet) (place : Place) : Prop :=
  ∃ c h tl, 1 ≤ h ∧ n = { m with credits := c, wire := m.wire.erase f ++ [{ at' := x, inp := inp, pkt := pkt, place := place, here := h, tail := tl }] }

theorem headerMoved_addFollowed {n m : RunnerState} {f g : Flight} (left : OnlyCredits { n with wire := n.wire.erase f } m) (one : 1 ≤ g.here) :
    HeaderMoved n (m.addFollowed g) f g.at' g.inp g.pkt g.place := by
  obtain ⟨c, h, tl, more, added⟩ := addFollowed_adds m g
  exact ⟨c, h, tl, one.trans more, by rw [added, left]⟩

/-- Where a header that enters a link stands: in the link's bridge, or else in its input buffer. -/
def linkPlace (x inp vc : Nat) : Place := if linkBridged (linkKey x inp vc) then .bridge else .buffer

/-- A packet whose header has entered a link, its other flits still in the store it left. -/
def linkEntered (f : Flight) (x inp : Nat) (pkt : Packet) : Flight :=
  { f with at' := x, inp := inp, pkt := pkt, here := 1, tail := (flightStore f, f.here - 1) :: f.tail, place := linkPlace x inp (channelOf f.pkt.body) }

theorem enterHop_eq (f : Flight) (x inp : Nat) (pkt : Packet) (n : RunnerState) : enterHop f x inp pkt n =
    (moveFlits (flightStore f) (firstStore x inp (channelOf f.pkt.body)) 1 { n with wire := n.wire.erase f }).addFollowed (linkEntered f x inp pkt) := rfl

/-- The same of one that has left its bridge. -/
def bridgeLeft (f : Flight) : Flight := { f with place := .buffer, here := 1, tail := (flightStore f, f.here - 1) :: f.tail }

theorem leaveBridge_eq (f : Flight) (n : RunnerState) : leaveBridge f n =
    (moveFlits (flightStore f) (flightStore (bridgeLeft f)) 1 { n with wire := n.wire.erase f }).addFollowed (bridgeLeft f) := rfl

theorem enterHop_moves (f : Flight) (x inp : Nat) (pkt : Packet) (n : RunnerState) :
    HeaderMoved n (enterHop f x inp pkt n) f x inp pkt (linkPlace x inp (channelOf f.pkt.body)) := by
  rw [enterHop_eq]
  exact headerMoved_addFollowed (g := linkEntered f x inp pkt) (onlyCredits_moveFlits ..) (Nat.le_refl 1)

theorem leaveBridge_moves (f : Flight) (n : RunnerState) : HeaderMoved n (leaveBridge f n) f f.at' f.inp f.pkt .buffer := by
  rw [leaveBridge_eq]
  exact headerMoved_addFollowed (g := bridgeLeft f) (onlyCredits_moveFlits ..) (Nat.le_refl 1)

/-! ### Links between routers (R370, R385) -/

theorem linkKey_unfolds {x inp vc : Nat} (input : inp < 256) (channel : vc ≤ 1) :
    linkKey x inp vc / 512 = x ∧ linkKey x inp vc / 2 % 256 = inp := by
  unfold linkKey
  omega

theorem linkKey_lt {x inp vc : Nat} (router : x < 13) (input : inp < 256) (channel : vc ≤ 1) : linkKey x inp vc < 2 ^ 16 := by
  unfold linkKey
  omega

/-- A link between routers has no bridge. -/
theorem linkBridged_router {x inp vc : Nat} (router : x < 13) (input : inp < 16) (channel : vc ≤ 1) : linkBridged (linkKey x inp vc) = false := by
  obtain ⟨receiver, port⟩ := linkKey_unfolds (x := x) (by omega : inp < 256) channel
  have none : linkNode x inp = none := by
    rw [linkNode, if_neg (by omega), if_neg (by omega)]
  rw [linkBridged, receiver, port, none]

theorem channelOf_le (b : Body) : channelOf b ≤ 1 := by
  unfold channelOf
  split <;> decide

/-- One flit goes from the input buffer of a router's link to that of another: it uses a credit of the one and gives back one of the other. -/
theorem moveFlits_between {src key : Nat} (n : RunnerState) (buffer : src < 2 ^ 16) (next : key < 2 ^ 16) (bare : linkBridged key = false)
    (apart : key ≠ src) :
    (moveFlits src key 1 n).hopCredits key = n.hopCredits key - 1 ∧ (moveFlits src key 1 n).hopCredits src = n.hopCredits src + 1 := by
  have moved : moveFlits src key 1 n = (n.modCredits src (· + 1)).modCredits key (· - 1) := by
    rw [moveFlits, leaveStore, if_pos buffer, enterStore, if_neg (by omega), if_neg (by omega), bare]
    rfl
  rw [moved, hopCredits_modCredits_same, hopCredits_modCredits_ne _ _ apart, hopCredits_modCredits_ne _ _ apart.symm, hopCredits_modCredits_same]
  exact ⟨rfl, rfl⟩

/-- A packet of one flit goes from the input buffer of a router to that of the next. -/
theorem enterHop_credits {f : Flight} {x inp : Nat} (pkt : Packet) (n : RunnerState) (place : f.place = .buffer) (one : f.here = 1) (whole : f.tail = [])
    (router : f.at' < 13) (input : f.inp < 256) (next : x < 13) (port : inp < 16)
    (apart : linkKey x inp (channelOf f.pkt.body) ≠ linkKey f.at' f.inp (channelOf f.pkt.body)) :
    (enterHop f x inp pkt n).hopCredits (linkKey x inp (channelOf f.pkt.body)) = n.hopCredits (linkKey x inp (channelOf f.pkt.body)) - 1 ∧
    (enterHop f x inp pkt n).hopCredits (linkKey f.at' f.inp (channelOf f.pkt.body)) = n.hopCredits (linkKey f.at' f.inp (channelOf f.pkt.body)) + 1 := by
  have channel := channelOf_le f.pkt.body
  have bare := linkBridged_router next port channel
  have store : flightStore f = linkKey f.at' f.inp (channelOf f.pkt.body) := by
    rw [flightStore, place]
    simp [Nat.ne_of_lt router]
  have first : firstStore x inp (channelOf f.pkt.body) = linkKey x inp (channelOf f.pkt.body) := by
    rw [firstStore, bare]
    simp [Nat.ne_of_lt next]
  have empty : ∀ e ∈ (linkEntered f x inp pkt).tail, e.2 = 0 := by
    simp [linkEntered, one, whole]
  rw [enterHop_eq, addFollowed_hopCredits _ _ empty, addFollowed_hopCredits _ _ empty, store, first]
  exact moveFlits_between _ (linkKey_lt router input channel) (linkKey_lt next (by omega) channel) bare apart

end Sys2Proof.Machine
end

section
/-! Proofs of 08_runner_network.md (R381, R385-R387, R395-R397, R399, R405, R408): a router and the headers that stand at it. -/

namespace Sys2Proof.Machine

/-! ### A header in flight -/

theorem dropFlight_changes (s : State) (f : Flight) : ∃ c, s.dropFlight f = { s with net := { s.net with wire := s.net.wire.erase f, credits := c } } := by
  obtain ⟨c, dropped⟩ := s.net.drop_changes f
  exact ⟨c, by rw [State.dropFlight, dropped]⟩

/-- The packet's header has moved, whatever its router notes of the turn. -/
theorem HeaderMoved.packetMoved {s : State} {n : RunnerState} {f : Flight} {x inp : Nat} {pkt : Packet} {place : Place} (rs : Tab Router)
    (moved : HeaderMoved { s.net with routers := rs } n f x inp pkt place) : PacketMoved s { s with net := n } f x inp pkt place := by
  obtain ⟨c, h, tl, one, rfl⟩ := moved
  exact ⟨⟨_, rfl, rfl, rfl, rfl, rfl, one⟩, rfl⟩

/-- The header of packet `f`, the `k`-th in flight, stands at a router, or in the link to it, which runs. -/
structure HopAt (s : State) (k : Nat) (f : Flight) : Prop where
  wire : s.net.wire[k]? = some f
  router : f.at' < 13
  power : s.domOn 87 = true
  runs : (s.router (min f.at' 11)).stopped = false

section
variable {s : State} {k : Nat} {f : Flight}

theorem HopAt.up (h : HopAt s k f) : (s.domOn 87 && !(decide (f.at' < 13) && (s.router (min f.at' 11)).stopped)) = true := by
  rw [h.power, h.runs]
  simp

theorem exec_hop_source (h : HopAt s k f) (place : f.place = .source) (oldest : oldestHere s.net f = true)
    (enters : canEnter s.net f f.at' f.inp = true) :
    exec (.runnerHop k .clean) s = .next { s with net := enterHop f f.at' f.inp f.pkt s.net } := by
  show execRunnerHop k .clean s = _
  simp only [execRunnerHop, h.wire, place]
  exact event_of (by rw [h.up, oldest, enters]; rfl) _ _

theorem exec_hop_bridge (h : HopAt s k f) (place : f.place = .bridge) (oldest : oldestHere s.net f = true) :
    exec (.runnerHop k .clean) s = .next { s with net := leaveBridge f s.net } := by
  show execRunnerHop k .clean s = _
  simp only [execRunnerHop, h.wire, place]
  exact event_of (by rw [h.up, oldest]; rfl) _ _

end

/-- The router corrects the header and logs it (R395). -/
def headerCorrected (f : Flight) (s : State) : State :=
  (reportRouter 0x1601 f.at' f.pkt s).modRouter (min f.at' 11) (fun x => { x with hdrCorrected := x.hdrCorrected + 1 })

/-- The router drops the packet, which it logs and counts, and sends its source a notice if it can read the source (R396). -/
def headerDropped (f : Flight) (src tag : Bool) (s : State) : State :=
  let t := (reportRouter 0x3601 f.at' f.pkt (s.dropFlight f)).modRouter (min f.at' 11) (fun x => { x with hdrDropped := x.hdrDropped + 1 })
  if src then t.addFlight (replyAt t f.at' f.inp f.pkt (.headerNotice (if tag then f.pkt.tag else 255))) else t

/-- What a router makes of a header that stands at it, by what its check finds. -/
def headerMet (f : Flight) (s : State) : HopEv → State
  | .clean => forward f s
  | .corrected => forward f (headerCorrected f s)
  | .drop src tag => headerDropped f src tag s
  | .fatal => routerStop f.at' f.pkt s

/-- When it does: a header that is forwarded has an output and has won it; any other has only to be the next of its input. -/
def headerDue (s : State) (f : Flight) : HopEv → Bool
  | .clean => hopReady s f && hopWins s f
  | .corrected => hopReady s f && hopWins s f
  | .drop _ _ => oldestHere s.net f
  | .fatal => oldestHere s.net f

theorem exec_hop_inside {s : State} {k : Nat} {f : Flight} {ev : HopEv} (h : HopAt s k f) (inside : f.place = .buffer ∨ f.place = .own)
    (due : headerDue s f ev = true) : exec (.runnerHop k ev) s = .next (headerMet f s ev) := by
  have up := h.up
  have router := decide_eq_true h.router
  show execRunnerHop k ev s = _
  have any : execRunnerHop k ev s = event (decide (f.at' < 13) && (s.domOn 87 && !(decide (f.at' < 13) && (s.router (min f.at' 11)).stopped)) &&
      headerDue s f ev) s (headerMet f s ev) := by
    rcases inside with place | place <;> cases ev <;> simp only [execRunnerHop, h.wire, place, headerDue, Bool.and_assoc] <;> rfl
  rw [any]
  exact event_of (by rw [up, router, due]; rfl) _ _

/-! ### Where a header goes (R381, R405, R408) -/

/-- A port toward a router leads to an input between routers. -/
theorem portTo_router {r n x inp : Nat} (goes : portTo r n = .router x inp) : x < 13 ∧ inp < 16 := by
  unfold portTo at goes
  split_ifs at goes <;> simp only [PortTo.router.injEq] at goes <;> omega

section
variable {s : State} {f : Flight}

theorem hopTo_router {x inp : Nat} (goes : portTo f.at' (lookAhead s f.at' f.pkt.dest) = .router x inp) (runs : (s.router (min x 11)).stopped = false) :
    hopTo s f = .link x inp := by
  simp [hopTo, goes, runs]

theorem hopTo_opened (goes : portTo f.at' (lookAhead s f.at' f.pkt.dest) = .node)
    (port : s.port (portKey f.at' (lookAhead s f.at' f.pkt.dest)).1 (portKey f.at' (lookAhead s f.at' f.pkt.dest)).2 = .opened) :
    hopTo s f = .link 13 (s.portNode (portKey f.at' (lookAhead s f.at' f.pkt.dest)).1 (portKey f.at' (lookAhead s f.at' f.pkt.dest)).2) := by
  simp only [hopTo, goes, port]

theorem hopTo_closed (goes : portTo f.at' (lookAhead s f.at' f.pkt.dest) = .node)
    (port : s.port (portKey f.at' (lookAhead s f.at' f.pkt.dest)).1 (portKey f.at' (lookAhead s f.at' f.pkt.dest)).2 = .closed) :
    hopTo s f = .refused := by
  simp only [hopTo, goes, port]

/-- The router notes whose turn it was at an output channel (R386). -/
def turnTaken (f : Flight) (s : State) : State :=
  let out := (if f.at' = 12 then 32 else 0) + 2 * lookAhead s f.at' f.pkt.dest + channelOf f.pkt.body
  s.modRouter (min f.at' 11) (fun y => { y with lastIn := Tab.set 255 y.lastIn out f.inp })

theorem forward_link {x inp : Nat} (goes : hopTo s f = .link x inp) : forward f s =
    { s with net := enterHop f x inp (if x = 13 then f.pkt else { f.pkt with la := lookAhead s x f.pkt.dest }) (turnTaken f s).net } := by
  simp only [forward, goes]
  rfl

theorem forward_refused (goes : hopTo s f = .refused) : forward f s = portRefuses f.at' f.inp f.pkt (s.dropFlight f) := by
  simp only [forward, goes]

theorem forward_noroute (goes : hopTo s f = .noroute) : forward f s = if isRequest f.pkt.body
    then routerAnswers f.at' f.inp .noroute f.pkt (reportRouter 0x3603 f.at' f.pkt (s.dropFlight f))
    else reportRouter 0x3603 f.at' f.pkt (s.dropFlight f) := by
  simp only [forward, goes]

/-! ### Headers that are forwarded, answered or discarded -/

theorem forward_moves {x inp : Nat} (goes : hopTo s f = .link x inp) : PacketMoved s (forward f s) f x inp
    (if x = 13 then f.pkt else { f.pkt with la := lookAhead s x f.pkt.dest }) (linkPlace x inp (channelOf f.pkt.body)) := by
  rw [forward_link goes]
  exact (enterHop_moves ..).packetMoved (turnTaken f s).net.routers

theorem forward_hopCredits {x inp : Nat} (goes : hopTo s f = .link x inp) (router : f.at' < 13) (next : x < 13) (port : inp < 16) (place : f.place = .buffer)
    (one : f.here = 1) (whole : f.tail = []) (input : f.inp < 256)
    (apart : linkKey x inp (channelOf f.pkt.body) ≠ linkKey f.at' f.inp (channelOf f.pkt.body)) :
    (forward f s).net.hopCredits (linkKey x inp (channelOf f.pkt.body)) = s.net.hopCredits (linkKey x inp (channelOf f.pkt.body)) - 1 ∧
    (forward f s).net.hopCredits (linkKey f.at' f.inp (channelOf f.pkt.body)) = s.net.hopCredits (linkKey f.at' f.inp (channelOf f.pkt.body)) + 1 := by
  rw [forward_link goes]
  exact enterHop_credits _ (turnTaken f s).net place one whole router input next port apart

theorem addFlight_router (s : State) (f : Flight) (r : Nat) : (s.addFlight f).router r = s.router r := rfl

/-- A router that has dropped a packet puts its answer behind the others. -/
theorem addFlight_answers {u : State} (v : State) (b : Body) (dropped : u.net.wire = s.net.wire.erase f) :
    PacketAnswered s (u.addFlight (replyAt v f.at' f.inp f.pkt b)) f b :=
  ⟨replyAt v f.at' f.inp f.pkt b, congrArg (· ++ [replyAt v f.at' f.inp f.pkt b]) dropped, rfl, rfl, rfl, rfl, rfl⟩

theorem portRefuses_request (request : isRequest f.pkt.body = true) : let t := portRefuses f.at' f.inp f.pkt (s.dropFlight f)
    PacketAnswered s t f (networkAnswer .offline f.pkt.body) ∧
    (t.router (min f.at' 11)).offlineAnswers = (s.router (min f.at' 11)).offlineAnswers + 1 ∧ t = { s with net := t.net } := by
  obtain ⟨c, dropped⟩ := dropFlight_changes s f
  rw [portRefuses, if_pos request, dropped, routerAnswers]
  refine ⟨addFlight_answers _ _ rfl, ?_, rfl⟩
  rw [State.modRouter_same]
  rfl

theorem portRefuses_response (response : isRequest f.pkt.body = false) : let t := portRefuses f.at' f.inp f.pkt (s.dropFlight f)
    t.net.wire = s.net.wire.erase f ∧
    (t.router (min f.at' 11)).closedDrops = (s.router (min f.at' 11)).closedDrops + 1 ∧ t = { s with net := t.net } := by
  obtain ⟨c, dropped⟩ := dropFlight_changes s f
  rw [portRefuses, response, dropped]
  refine ⟨rfl, ?_, rfl⟩
  rw [if_neg (by decide), closedDrop, State.modRouter_same]
  rfl

end

/-! ### What a hop leaves (R395) -/

/-- Outside the network and the log nothing has changed; no report was taken back, and no router's count of corrected headers changed. -/
structure HopKept (s t : State) : Prop where
  only : t = { s with net := t.net, chill := t.chill }
  reports : ∀ code kind oid, reportsOf s code kind oid ≤ reportsOf t code kind oid
  corrected : ∀ r, (t.router r).hdrCorrected = (s.router r).hdrCorrected

namespace HopKept
variable {s t u : State}

theorem refl (s : State) : HopKept s s := ⟨rfl, fun _ _ _ => Nat.le_refl _, fun _ => rfl⟩

theorem trans (h : HopKept s t) (k : HopKept t u) : HopKept s u :=
  ⟨by rw [k.only, h.only], fun _ _ _ => (h.reports ..).trans (k.reports ..), fun r => (k.corrected r).trans (h.corrected r)⟩

/-- Packets in flight and credits count for nothing. -/
theorem net (s : State) (w : List Flight) (c : Tab Nat) : HopKept s { s with net := { s.net with wire := w, credits := c } } :=
  ⟨rfl, fun _ _ _ => Nat.le_refl _, fun _ => rfl⟩

theorem dropFlight (s : State) (f : Flight) : HopKept s (s.dropFlight f) := by
  obtain ⟨c, dropped⟩ := dropFlight_changes s f
  rw [dropped]
  exact net ..

theorem modRouter (s : State) (r : Nat) {g : Router → Router} (kept : ∀ x, (g x).hdrCorrected = x.hdrCorrected) : HopKept s (s.modRouter r g) := by
  refine ⟨rfl, fun _ _ _ => Nat.le_refl _, fun j => ?_⟩
  by_cases same : j = r
  · rw [same, State.modRouter_same, kept]
  · rw [State.modRouter_ne _ _ _ _ same]

theorem reportRouter (code r : Nat) (p : Packet) (s : State) : HopKept s (reportRouter code r p s) := by
  refine ⟨?_, reportsOf_le_report _ s, fun j => ?_⟩
  · rw [Machine.reportRouter, reportAt_machine]
  · rw [Machine.reportRouter, reportAt_machine]
    rfl

theorem routerAnswers (r inp : Nat) (st : NetStatus) (p : Packet) (s : State) : HopKept s (routerAnswers r inp st p s) :=
  (net s _ _).trans (modRouter _ _ fun _ => rfl)

theorem enterHop (s : State) (f : Flight) (x inp : Nat) (pkt : Packet) : HopKept s { s with net := enterHop f x inp pkt s.net } := by
  obtain ⟨c, h, tl, one, moved⟩ := enterHop_moves f x inp pkt s.net
  rw [moved]
  exact net ..

theorem portRefuses (r inp : Nat) (p : Packet) (s : State) : HopKept s (portRefuses r inp p s) := by
  unfold Machine.portRefuses
  split
  · exact routerAnswers ..
  · exact modRouter _ _ fun _ => rfl

theorem forward (f : Flight) (s : State) : HopKept s (forward f s) := by
  cases goes : hopTo s f with
  | link x inp =>
    rw [forward_link goes]
    exact (modRouter s _ fun _ => rfl : HopKept s (turnTaken f s)).trans (enterHop ..)
  | refused =>
    rw [forward_refused goes]
    exact (dropFlight s f).trans (portRefuses ..)
  | noroute =>
    rw [forward_noroute goes]
    have dropped := (dropFlight s f).trans (reportRouter 0x3603 f.at' f.pkt _)
    split
    · exact dropped.trans (routerAnswers ..)
    · exact dropped

end HopKept

/-! ### Headers with errors (R395, R396, R416) -/

theorem reports_reportRouter (code r : Nat) (p : Packet) (s : State) : Reports s (reportRouter code r p s) code 8 (min r 11) :=
  reports_reportAt code 8 (min r 11) _ _ s

theorem reportRouter_machine (code r : Nat) (p : Packet) (s : State) :
    reportRouter code r p s = { s with chill := (reportRouter code r p s).chill } := reportAt_machine ..

theorem headerCorrected_counts (s : State) (f : Flight) : let t := forward f (headerCorrected f s)
    (t.router (min f.at' 11)).hdrCorrected = (s.router (min f.at' 11)).hdrCorrected + 1 ∧ Reports s t 0x1601 8 (min f.at' 11) ∧
    t = { s with net := t.net, chill := t.chill } := by
  have kept := HopKept.forward f (headerCorrected f s)
  have reported : Reports s (headerCorrected f s) 0x1601 8 (min f.at' 11) :=
    Reports.to_chill (reports_reportRouter 0x1601 f.at' f.pkt s) rfl
  refine ⟨?_, reported.mono (kept.reports ..), ?_⟩
  · rw [kept.corrected, headerCorrected, State.modRouter_same, reportRouter_machine]
    rfl
  · have only := kept.only
    rw [only, headerCorrected, reportRouter_machine]
    rfl

theorem headerDropped_notifies (s : State) (f : Flight) (tag : Bool) : let t := headerDropped f true tag s
    PacketAnswered s t f (.headerNotice (if tag then f.pkt.tag else 255)) ∧
    (t.router (min f.at' 11)).hdrDropped = (s.router (min f.at' 11)).hdrDropped + 1 ∧ Reports s t 0x3601 8 (min f.at' 11) ∧
    t = { s with net := t.net, chill := t.chill } := by
  obtain ⟨c, dropped⟩ := dropFlight_changes s f
  have reported : Reports s (reportRouter 0x3601 f.at' f.pkt (s.dropFlight f)) 0x3601 8 (min f.at' 11) :=
    (reports_reportRouter 0x3601 f.at' f.pkt (s.dropFlight f) : Reports (s.dropFlight f) _ _ _ _).of_chill (by rw [dropped])
  rw [headerDropped, if_pos rfl]
  refine ⟨addFlight_answers _ _ ?_, ?_, reported.to_chill rfl, ?_⟩
  · rw [reportRouter_machine, dropped]
    rfl
  · rw [addFlight_router, State.modRouter_same, reportRouter_machine, dropped]
    rfl
  · rw [reportRouter_machine, dropped]
    rfl

/-- Packets that leave the network whole leave one after another. -/
theorem dropAll_changes (l : List Flight) (n : RunnerState) : ∃ c, l.foldl RunnerState.drop n = { n with wire := n.wire.diff l, credits := c } := by
  induction l generalizing n with
  | nil => exact ⟨n.credits, rfl⟩
  | cons f l ih =>
    obtain ⟨c, dropped⟩ := n.drop_changes f
    obtain ⟨c', left⟩ := ih (n.drop f)
    rw [List.foldl_cons, left, dropped]
    exact ⟨c', by rw [List.diff_cons]⟩

/-- What was taken out is gone, however often it stood there. -/
theorem not_mem_diff_filter {α : Type} [DecidableEq α] {l : List α} {p : α → Bool} {a : α} (took : p a = true) : a ∉ l.diff (l.filter p) := by
  rw [← List.count_eq_zero, List.count_diff, List.count_filter took, Nat.sub_self]

/-- A packet is inside router `r`: its header stands there, or flits of it do. -/
def flightInside (r : Nat) (f : Flight) : Bool := (f.at' = r && f.place ≠ .source) || f.tail.any (fun e => e.1 < 2 ^ 16 && e.1 / 512 = r)

/-- The router has logged the fault that stops it. -/
def stopLogged (r : Nat) (p : Packet) (s : State) : State :=
  (reportRouter 0x4601 r p s).modRouter (min r 11) (fun x => { x with stopped := true })

theorem routerStop_eq (r : Nat) (p : Packet) (s : State) : routerStop r p s = { stopLogged r p s with
    net := ((stopLogged r p s).net.wire.filter (flightInside r)).foldl RunnerState.drop (stopLogged r p s).net } := rfl

theorem routerStop_stops (s : State) (r : Nat) (p : Packet) : let t := routerStop r p s
    (t.router (min r 11)).stopped = true ∧ (∀ g ∈ t.net.wire, g.at' = r → g.place = .source) ∧ Reports s t 0x4601 8 (min r 11) ∧
    t = { s with net := t.net, chill := t.chill } := by
  have reported : Reports s (stopLogged r p s) 0x4601 8 (min r 11) := Reports.to_chill (reports_reportRouter 0x4601 r p s) rfl
  have stopped : ((stopLogged r p s).router (min r 11)).stopped = true := congrArg Router.stopped (State.modRouter_same _ _ _)
  have only : stopLogged r p s = { s with net := (stopLogged r p s).net, chill := (stopLogged r p s).chill } := by
    rw [stopLogged, reportRouter_machine]
    rfl
  rw [routerStop_eq]
  generalize stopLogged r p s = u at reported stopped only
  obtain ⟨c, lost⟩ := dropAll_changes (u.net.wire.filter (flightInside r)) u.net
  rw [lost]
  refine ⟨stopped, fun g left here => ?_, reported.to_chill rfl, by rw [only]⟩
  by_contra elsewhere
  have inside : flightInside r g = true := by simp [flightInside, here, elsewhere]
  exact not_mem_diff_filter inside left

/-! ### RUNNER_HOP -/

section
variable {s : State} {k : Nat} {f : Flight}

theorem runnerHop_enters (h : HopAt s k f) (place : f.place = .source) (oldest : oldestHere s.net f = true) (enters : canEnter s.net f f.at' f.inp = true) :
    Answers (.runnerHop k .clean) s (fun t => PacketMoved s t f f.at' f.inp f.pkt (linkPlace f.at' f.inp (channelOf f.pkt.body))) :=
  ⟨_, exec_hop_source h place oldest enters, (enterHop_moves ..).packetMoved s.net.routers⟩

theorem runnerHop_leavesBridge (h : HopAt s k f) (place : f.place = .bridge) (oldest : oldestHere s.net f = true) :
    Answers (.runnerHop k .clean) s (fun t => PacketMoved s t f f.at' f.inp f.pkt .buffer) :=
  ⟨_, exec_hop_bridge h place oldest, (leaveBridge_moves ..).packetMoved s.net.routers⟩

/-- A header that has won its output goes where `hopTo` says. -/
theorem runnerHop_forwards (h : HopAt s k f) (inside : f.place = .buffer ∨ f.place = .own) (ready : hopReady s f = true) (wins : hopWins s f = true) :
    exec (.runnerHop k .clean) s = .next (forward f s) :=
  exec_hop_inside h inside (Bool.and_eq_true_iff.2 ⟨ready, wins⟩)

/-- To the next router it goes with the look-ahead port of that router. -/
theorem runnerHop_toRouter (h : HopAt s k f) (inside : f.place = .buffer ∨ f.place = .own) (ready : hopReady s f = true) (wins : hopWins s f = true)
    {x inp : Nat} (leads : portTo f.at' (lookAhead s f.at' f.pkt.dest) = .router x inp) (runs : (s.router (min x 11)).stopped = false) :
    Answers (.runnerHop k .clean) s (fun t =>
      PacketMoved s t f x inp { f.pkt with la := lookAhead s x f.pkt.dest } (linkPlace x inp (channelOf f.pkt.body)) ∧
      (f.place = .buffer → f.here = 1 → f.tail = [] → f.inp < 256 →
        linkKey x inp (channelOf f.pkt.body) ≠ linkKey f.at' f.inp (channelOf f.pkt.body) →
        t.net.hopCredits (linkKey x inp (channelOf f.pkt.body)) = s.net.hopCredits (linkKey x inp (channelOf f.pkt.body)) - 1 ∧
        t.net.hopCredits (linkKey f.at' f.inp (channelOf f.pkt.body)) = s.net.hopCredits (linkKey f.at' f.inp (channelOf f.pkt.body)) + 1)) := by
  obtain ⟨next, port⟩ := portTo_router leads
  have goes := hopTo_router leads runs
  have moved := forward_moves goes
  rw [if_neg (Nat.ne_of_lt next)] at moved
  exact ⟨_, runnerHop_forwards h inside ready wins, moved, fun place one whole input apart =>
    forward_hopCredits goes h.router next port place one whole input apart⟩

end

end Sys2Proof.Machine
end

section
/-! Proofs of 08_runner_network.md (R404-R407, R409-R412): the ports of a router and the change of its table. -/

namespace Sys2Proof.Machine

/-! ### Ports (R404-R407) -/

@[simp] theorem State.setPort_port_same (s : State) (r n : Nat) (p : PortSt) : (s.setPort r n p).port r n = p := by
  rw [State.port, State.setPort, State.modRouter_same]
  exact Tab.get_set_same ..

theorem State.setPort_port_ne (s : State) (r : Nat) {n m : Nat} (p : PortSt) (other : m ≠ n) : (s.setPort r n p).port r m = s.port r m := by
  rw [State.port, State.setPort, State.modRouter_same]
  exact Tab.get_set_ne _ _ _ _ _ other

theorem State.setPort_router_ne (s : State) {r q : Nat} (n : Nat) (p : PortSt) (other : q ≠ r) : (s.setPort r n p).router q = s.router q :=
  State.modRouter_ne _ _ _ _ other

theorem portDrained_closes (s : State) (r n : Nat) (closing : s.port r n = .closing) (none : (s.gate (s.portNode r n)).outstanding = [])
    (runs : endpointStopped s r n = false) (taken : pendingAt s (s.portNode r n) = []) (sent : rewindsWait s (s.portNode r n) = false)
    (empty : linkEmpty s (s.portNode r n) = true) : Answers (.portDrained r n) s (fun t =>
      t.port r n = .closed ∧ (∀ m, m ≠ n → t.port r m = s.port r m) ∧ (∀ q, q ≠ r → t.router q = s.router q) ∧
      t.net.wire = s.net.wire ∧ t = { s with net := t.net }) := by
  refine ⟨_, event_of (by rw [closing, none, runs, taken, sent, empty]; rfl) _ _, ?_⟩
  rw [runs]
  exact ⟨s.setPort_port_same .., fun m other => s.setPort_port_ne r _ other, fun q other => s.setPort_router_ne n _ other, rfl, rfl⟩

theorem closeTimeout_logs (s : State) (r n : Nat) (closing : s.port r n = .closing) (first : n ∉ (s.router r).closeLogged) :
    Answers (.closeTimeout r n) s (fun t =>
      n ∈ (t.router r).closeLogged ∧ t.port r n = .closing ∧ Reports s t 0x3605 8 r ∧ t = { s with net := t.net, chill := t.chill }) := by
  have reported := reports_reportAt 0x3605 8 r 0 0 s
  refine ⟨_, event_of (by simp [closing, first]) _ _, ?_, ?_, reported.to_chill rfl, ?_⟩
  · rw [State.modRouter_same]
    exact List.mem_cons_self
  · rw [State.port, State.modRouter_same, reportAt_machine]
    exact closing
  · rw [reportAt_machine]
    rfl

theorem portCreditsExchanged_opens (s : State) (r n : Nat) (opening : s.port r n = .opening) : Answers (.portCreditsExchanged r n) s (fun t =>
    t.port r n = .opened ∧ (∀ m, m ≠ n → t.port r m = s.port r m) ∧ (∀ q, q ≠ r → t.router q = s.router q) ∧ t = { s with net := t.net }) :=
  ⟨_, event_of (decide_eq_true opening) _ _, s.setPort_port_same .., fun _ other => s.setPort_port_ne r _ other,
    fun _ other => s.setPort_router_ne n _ other, rfl⟩

/-! ### Tables (R409-R412) -/

theorem Answered.router {s t : State} : Answered s t → ∀ r, t.router r = s.router r := by rintro ⟨_, _, _, _, rfl⟩ _; rfl

/-- An admitted command that changes one router alone. -/
theorem dictCommand_modRouter {s : State} {path idx sub level r : Nat} {act : State → Except Word State} {g : Router → Router}
    (admitted : Admitted s path idx sub level) (acts : ∀ u, Answered s u → act u = .ok (u.modRouter r g)) :
    ∃ t, dictCommand path idx sub level act s = .next t ∧ t.router r = g (s.router r) ∧ ∀ q, q ≠ r → t.router q = s.router q := by
  have touched := Answered.touch path s
  have answered := Answered.accept path idx sub ((touch path s).modRouter r g)
  refine ⟨_, dictCommand_admitted admitted (acts _ touched), ?_, fun q other => ?_⟩
  · rw [answered.router, State.modRouter_same, touched.router]
  · rw [answered.router, State.modRouter_ne _ _ _ _ other, touched.router]

theorem rtrCmdApply_pends (s : State) (path r : Nat) (admitted : Admitted s path (0x3000 + r) 2 3) (table : r < 11)
    (first : (s.router r).applyPending = false) (still : r < 8 → s.recasting r = false) : Answers (.rtrCmdApply path r) s (fun t =>
      t.router r = { s.router r with applyPending := true } ∧ ∀ q, q ≠ r → t.router q = s.router q) := by
  have acts (u : State) (answered : Answered s u) : need (r < 11 && !(u.router r).applyPending && !(r < 8 && u.recasting r)) abortState
      (.ok (u.modRouter r (fun x => { x with applyPending := true }))) = .ok (u.modRouter r (fun x => { x with applyPending := true })) := by
    refine if_pos ?_
    rw [answered.router, answered.recasting, first, decide_eq_true table]
    by_cases row : r < 8
    · simp [still row]
    · simp [row]
  exact dictCommand_modRouter admitted acts

theorem routeTableSwitch_switches (s : State) (r : Nat) (pending : (s.router r).applyPending = true) (tick : s.tickFree = true)
    (free : ∀ f ∈ s.net.wire, f.at' = r → f.place ≠ .buffer ∧ f.place ≠ .own) : Answers (.routeTableSwitch r) s (fun t =>
      t.router r = { s.router r with applyPending := false, route := (s.router r).stage } ∧ (∀ id, liveRoute t r id = stagedRoute s r id) ∧
      t = { s with net := t.net }) := by
  have none : s.net.wire.any (fun f => decide (f.at' = r) && (decide (f.place = .buffer) || decide (f.place = .own))) = false := by
    simp only [List.any_eq_false, Bool.and_eq_true, Bool.or_eq_true, decide_eq_true_eq, not_and, not_or]
    exact free
  refine ⟨_, event_of (by rw [pending, tick, none]; rfl) _ _, State.modRouter_same .., fun id => ?_, rfl⟩
  rw [liveRoute, State.modRouter_same, stagedRoute]

theorem rtrCmdDiscard_copies (s : State) (path r : Nat) (admitted : Admitted s path (0x3000 + r) 2 3) (table : r < 11)
    (none : (s.router r).applyPending = false) : Answers (.rtrCmdDiscard path r) s (fun t =>
      t.router r = { s.router r with stage := (s.router r).route } ∧ ∀ q, q ≠ r → t.router q = s.router q) := by
  have acts (u : State) (answered : Answered s u) : need (r < 11 && !(u.router r).applyPending) abortState
      (.ok (u.modRouter r (fun x => { x with stage := x.route }))) = .ok (u.modRouter r (fun x => { x with stage := x.route })) := by
    refine if_pos ?_
    rw [answered.router, none, decide_eq_true table]
    rfl
  exact dictCommand_modRouter admitted acts

/-! ### The statement -/

/-- Settles O23: a header at its source, in a bridge and in a router by where it goes and what the router finds; then the ports and the tables. -/
theorem routersPortsAndTables : Obligations.RoutersPortsAndTables := by
  refine ⟨fun s k f wire router power runs => ?_, portDrained_closes, closeTimeout_logs, portCreditsExchanged_opens, rtrCmdApply_pends,
    routeTableSwitch_switches, rtrCmdDiscard_copies⟩
  have h : HopAt s k f := ⟨wire, router, power, runs⟩
  refine ⟨runnerHop_enters h, runnerHop_leavesBridge h, fun inside => ⟨fun ready wins => ?_, fun tag oldest => ?_, fun oldest => ?_⟩⟩
  · have forwards := runnerHop_forwards h inside ready wins
    refine ⟨fun x inp leads up => runnerHop_toRouter h inside ready wins leads up, fun leads opened => ?_, fun leads closed request => ?_,
      fun leads closed response => ?_, ?_⟩
    · exact ⟨_, forwards, forward_moves (hopTo_opened leads opened)⟩
    · exact ⟨_, forwards, forward_refused (hopTo_closed leads closed) ▸ portRefuses_request request⟩
    · exact ⟨_, forwards, forward_refused (hopTo_closed leads closed) ▸ portRefuses_response response⟩
    · exact ⟨_, exec_hop_inside h inside (Bool.and_eq_true_iff.2 ⟨ready, wins⟩), headerCorrected_counts s f⟩
  · exact ⟨_, exec_hop_inside h inside oldest, headerDropped_notifies s f tag⟩
  · exact ⟨_, exec_hop_inside h inside oldest, routerStop_stops s f.at' f.pkt⟩

end Sys2Proof.Machine
end

section
/-! Proofs of 08_runner_network.md (R373, R385, R389-R393, R397, R400, R401): the gates of the initiators. What a request that is injected changes of its
gate, and what a flask's gate makes of an answer, is said once. -/

namespace Sys2Proof.Machine

/-! ### Injection (R373, R385, R389, R400, R401) -/

/-- The tag that a request goes under: the lowest free one where it is answered (R389). -/
def requestTag (g : Gate) (b : Body) : Nat := if isCall b then (freeTag g).getD 0 else 0

/-- The packet as it enters the network: its target resolved, under its tag, with the look-ahead port of its first router. -/
def sentPacket (i dest : Nat) (p : Packet) (s : State) : Packet :=
  { p with dest := dest, tag := requestTag (s.gate i) p.body, la := lookAhead s (entryRouter i) dest }

/-- What the gate notes of a request that it has sent. -/
def requestNoted (i tc dest : Nat) (p : Packet) (s : State) (g : Gate) : Gate :=
  { g with
    outstanding := if isCall p.body then
        g.outstanding ++ [{ tag := requestTag (s.gate i) p.body, who := p.who, dest := dest, addr := packetAddr p.body, body := p.body }]
      else g.outstanding
    lastTc := tc
    spent := if rateOf s i tc = 0 then g.spent else Tab.modify 0 g.spent tc (fun d => d + chargeOf p.body * 1600)
    reqCount := g.reqCount + 1
    byteCount := g.byteCount + BitVec.ofNat 64 (chargeOf p.body) }

section
variable {i tc : Nat} (dest : Nat) {p : Packet} {s : State} (g : Gate)

theorem requestNoted_call (call : isCall p.body = true) : (requestNoted i tc dest p s g).outstanding = g.outstanding ++
    [{ tag := requestTag (s.gate i) p.body, who := p.who, dest := dest, addr := packetAddr p.body, body := p.body }] := if_pos call

theorem requestNoted_message (message : isCall p.body = false) : (requestNoted i tc dest p s g).outstanding = g.outstanding :=
  if_neg (by rw [message]; decide)

theorem requestNoted_spent (regulated : rateOf s i tc ≠ 0) :
    Tab.get 0 (requestNoted i tc dest p s g).spent tc = Tab.get 0 g.spent tc + chargeOf p.body * 1600 := by
  have spent : (requestNoted i tc dest p s g).spent = Tab.modify 0 g.spent tc (fun d => d + chargeOf p.body * 1600) := if_neg regulated
  rw [spent, Tab.get_modify_same]

end

theorem injectPacket_eq (i tc dest : Nat) (p : Packet) (s : State) : injectPacket i tc dest p s =
    (s.modGate i (requestNoted i tc dest p s)).modNet
      (enterHop (sourceFlight i (sentPacket i dest p s)) (entryRouter i) (nodeInput i) (sentPacket i dest p s)) := rfl

/-- A request that is injected: its header is the last packet of the network, and its gate has noted it. -/
theorem injectPacket_sends {i tc dest : Nat} {p : Packet} {s : State} (request : isRequest p.body = true)
    (none : ∀ f ∈ s.net.wire, f.place = .source → isRequest f.pkt.body = false) : let t := injectPacket i tc dest p s
    (∃ f, t.net.wire = s.net.wire ++ [f] ∧ f.at' = entryRouter i ∧ f.inp = nodeInput i ∧ 1 ≤ f.here ∧ f.pkt = sentPacket i dest p s) ∧
    t.gate i = requestNoted i tc dest p s (s.gate i) ∧ (∀ j, j ≠ i → t.gate j = s.gate j) ∧ OnlyNet s t ∧ t.net.routers = s.net.routers := by
  obtain ⟨c, h, tl, one, moved⟩ := enterHop_moves (sourceFlight i (sentPacket i dest p s)) (entryRouter i) (nodeInput i) (sentPacket i dest p s)
    (s.modGate i (requestNoted i tc dest p s)).net
  have absent : sourceFlight i (sentPacket i dest p s) ∉ s.net.wire := fun stands => by
    have answer := none _ stands rfl
    exact absurd (request.symm.trans answer) (by decide)
  rw [State.modGate_net_wire, List.erase_of_not_mem absent] at moved
  rw [injectPacket_eq, State.modNet, moved]
  exact ⟨⟨_, rfl, rfl, rfl, one, rfl⟩, s.modGate_same i _, fun j other => s.modGate_ne i _ j other, rfl, rfl⟩

/-- Request `p` is the oldest of its class at gate `i`, whose port is OPEN. -/
structure GateFirst (s : State) (i tc : Nat) (p : Packet) : Prop where
  oldest : (s.gate i).waiting.find? (fun x => x.tc = tc) = some p
  power : s.domOn 87 = true
  opened : s.port (s.nodePort i).1 (s.nodePort i).2 = .opened
  free : requestHeld s p.body = false

/-- The request waits no more. -/
def requestTaken (i : Nat) (p : Packet) (s : State) : State := s.modGate i (fun g => { g with waiting := g.waiting.erase p })

theorem requestTaken_gate (i : Nat) (p : Packet) (s : State) :
    (requestTaken i p s).gate i = { s.gate i with waiting := (s.gate i).waiting.erase p } := s.modGate_same i _

section
variable {s : State} {i tc : Nat} {p : Packet}

theorem GateFirst.goes (h : GateFirst s i tc p) :
    (s.domOn 87 && (decide (s.port (s.nodePort i).1 (s.nodePort i).2 = .opened) || stoppingSend s i p.body) && !requestHeld s p.body) = true := by
  rw [h.power, h.opened, h.free]
  rfl

theorem exec_gateInject_sends {dest : Nat} (h : GateFirst s i tc p) (resolved : resolveDest s p = some dest)
    (tag : isCall p.body = true → (freeTag (s.gate i)).isSome = true) (bucket : bucketAllows s i tc p.body = true) (turn : classWins s i tc = true)
    (enters : canEnter s.net (sourceFlight i { p with dest := dest }) (entryRouter i) (nodeInput i) = true) :
    exec (.gateInject i tc) s = .next (injectPacket i tc dest p (requestTaken i p s)) := by
  have tagged : (!isCall p.body || (freeTag (s.gate i)).isSome) = true := by
    cases call : isCall p.body with
    | false => rfl
    | true => exact tag call
  show execGateInject i tc s = _
  simp only [execGateInject, h.oldest, resolved]
  rw [event_of h.goes, if_pos (by rw [tagged, bucket, turn, enters]; rfl)]
  rfl

theorem exec_gateInject_drops (h : GateFirst s i tc p) (unresolved : resolveDest s p = none) (message : isCall p.body = false) :
    exec (.gateInject i tc) s = .next (requestTaken i p s) := by
  show execGateInject i tc s = _
  simp only [execGateInject, h.oldest, unresolved]
  rw [event_of h.goes, message]
  rfl

theorem exec_gateInject_noroute (h : GateFirst s i tc p) (unresolved : resolveDest s p = none) (call : isCall p.body = true) :
    exec (.gateInject i tc) s = .next (deliverAnswer i p.who p.body (networkAnswer .noroute p.body) (requestTaken i p s)) := by
  show execGateInject i tc s = _
  simp only [execGateInject, h.oldest, unresolved]
  rw [event_of h.goes, call]
  rfl

theorem gateInject_sends {dest : Nat} (h : GateFirst s i tc p) (resolved : resolveDest s p = some dest) (request : isRequest p.body = true)
    (none : ∀ f ∈ s.net.wire, f.place = .source → isRequest f.pkt.body = false)
    (tag : isCall p.body = true → (freeTag (s.gate i)).isSome = true) (bucket : bucketAllows s i tc p.body = true) (turn : classWins s i tc = true)
    (enters : canEnter s.net (sourceFlight i { p with dest := dest }) (entryRouter i) (nodeInput i) = true) : Answers (.gateInject i tc) s (fun t =>
      let g := s.gate i
      let h := t.gate i
      h.waiting = g.waiting.erase p ∧ h.reqCount = g.reqCount + 1 ∧ h.byteCount = g.byteCount + BitVec.ofNat 64 (chargeOf p.body) ∧ h.lastTc = tc ∧
      (∃ f, t.net.wire = s.net.wire ++ [f] ∧ f.at' = entryRouter i ∧ f.inp = nodeInput i ∧ 1 ≤ f.here ∧ f.pkt.dest = dest ∧ f.pkt.src = p.src ∧
        f.pkt.body = p.body ∧
        (isCall p.body = true → freeTag g = some f.pkt.tag ∧
          h.outstanding = g.outstanding ++ [{ tag := f.pkt.tag, who := p.who, dest := dest, addr := packetAddr p.body, body := p.body }]) ∧
        (isCall p.body = false → h.outstanding = g.outstanding)) ∧
      (rateOf s i tc ≠ 0 → Tab.get 0 h.spent tc = Tab.get 0 g.spent tc + chargeOf p.body * 1600) ∧
      (∀ j, j ≠ i → t.gate j = s.gate j) ∧ t = { s with net := t.net } ∧ t.net.routers = s.net.routers) := by
  have taken := requestTaken_gate i p s
  obtain ⟨⟨f, wire, router, input, one, packet⟩, gate, others, only, routers⟩ :=
    injectPacket_sends (i := i) (tc := tc) (dest := dest) (p := p) (s := requestTaken i p s) request none
  have under : f.pkt.tag = requestTag (s.gate i) p.body := by
    rw [packet, sentPacket, taken]
    rfl
  have carries : f.pkt.dest = dest ∧ f.pkt.src = p.src ∧ f.pkt.body = p.body := by
    rw [packet]
    exact ⟨rfl, rfl, rfl⟩
  obtain ⟨target, source, body⟩ := carries
  refine ⟨_, exec_gateInject_sends h resolved tag bucket turn enters, ?_⟩
  dsimp only
  rw [gate, taken]
  refine ⟨rfl, rfl, rfl, rfl, ⟨f, wire, router, input, one, target, source, body, fun call => ⟨?_, ?_⟩, fun message => ?_⟩, fun regulated => ?_,
    fun j other => (others j other).trans (s.modGate_ne i _ j other), only, routers⟩
  · rw [under, requestTag, if_pos call]
    obtain ⟨n, lowest⟩ := Option.isSome_iff_exists.1 (tag call)
    rw [lowest]
    rfl
  · rw [under, requestNoted_call _ _ call, taken]
    rfl
  · exact requestNoted_message _ _ message
  · exact requestNoted_spent dest _ (s := requestTaken i p s) regulated

theorem gateInject_drops (h : GateFirst s i tc p) (unresolved : resolveDest s p = none) (message : isCall p.body = false) :
    Answers (.gateInject i tc) s (fun t => (t.gate i).waiting = (s.gate i).waiting.erase p ∧ t.net.wire = s.net.wire ∧ t = { s with net := t.net }) := by
  refine ⟨_, exec_gateInject_drops h unresolved message, ?_⟩
  dsimp only
  rw [requestTaken_gate]
  exact ⟨rfl, rfl, rfl⟩

end

/-! ### What a flask's gate makes of an answer (R390, R393) -/

/-- The answers that the gate of a flask keeps for its block. -/
def answerKept (b : Body) : Bool :=
  match b with
  | .rdata _ _ => true
  | .wack _ _ => true
  | .popResp _ _ => true
  | _ => false

/-- Of the machine, the answers that stand at gate `i` alone have changed: `l` stands behind them. -/
structure GateHanded (i : Nat) (l : List Packet) (s t : State) : Prop where
  only : OnlyNet s t
  gate : t.gate i = { s.gate i with answers := (s.gate i).answers ++ l }
  others : ∀ j, j ≠ i → t.gate j = s.gate j
  wire : t.net.wire = s.net.wire
  lost : t.net.lostCount = s.net.lostCount

section
variable {i : Nat} (flask : i < 72) (who : Nat) (request : Body) {answer : Body} (s : State)
include flask

theorem deliverAnswer_keeps (kept : answerKept answer = true) : deliverAnswer i who request answer s =
    s.modGate i (fun g => { g with answers := g.answers ++ [{ mkPacket i i 0 0 answer with who := who }] }) := by
  have block : keptAnswer i who = true := by simp [keptAnswer, flask]
  have host : i ≠ hostNode := by unfold hostNode; omega
  cases answer with
  | rdata st ws => simp only [deliverAnswer, block, if_true]
  | wack st r => simp only [deliverAnswer, block, if_true]
  | popResp st ws => simp only [deliverAnswer, if_neg host]
  | _ => simp [answerKept] at kept

theorem deliverAnswer_passes (passes : answerKept answer = false) : deliverAnswer i who request answer s = s := by
  have cupola : i ≠ cupolaNode := by unfold cupolaNode; omega
  cases answer with
  | rdata st ws => simp [answerKept] at passes
  | wack st r => simp [answerKept] at passes
  | popResp st ws => simp [answerKept] at passes
  | crsp st r => cases request <;> simp [deliverAnswer, cupola]
  | _ => rfl

theorem deliverAnswer_hands (answer : Body) : GateHanded i (if answerKept answer then [{ mkPacket i i 0 0 answer with who := who }] else []) s
    (deliverAnswer i who request answer s) := by
  cases kept : answerKept answer with
  | true =>
    rw [deliverAnswer_keeps flask who request s kept]
    exact ⟨rfl, s.modGate_same i _, fun j other => s.modGate_ne i _ j other, rfl, rfl⟩
  | false =>
    rw [deliverAnswer_passes flask who request s kept]
    exact ⟨rfl, by rw [if_neg (by decide), List.append_nil], fun _ _ => rfl, rfl, rfl⟩

end

theorem answerKept_of {b : Body} (answer : isAnswer b = true) (other : ∀ st r, b ≠ .crsp st r) : answerKept b = true := by
  cases b with
  | rdata st ws => rfl
  | wack st r => rfl
  | popResp st ws => rfl
  | crsp st r => exact absurd rfl (other st r)
  | _ => simp [isAnswer] at answer

/-- A read to an address without a target is answered by the gate itself (R373). -/
theorem gateInject_noroute {s : State} {i tc a n : Nat} {p : Packet} (h : GateFirst s i tc p) (flask : i < 72) (unresolved : resolveDest s p = none)
    (read : p.body = .rd a n) : Answers (.gateInject i tc) s (fun t =>
      (t.gate i).waiting = (s.gate i).waiting.erase p ∧
      (t.gate i).answers = (s.gate i).answers ++ [{ mkPacket i i 0 0 (.rdata .noroute []) with who := p.who }] ∧
      (t.gate i).outstanding = (s.gate i).outstanding ∧ t.net.wire = s.net.wire ∧ t = { s with net := t.net }) := by
  have run := exec_gateInject_noroute h unresolved (by rw [read]; rfl)
  rw [read] at run
  have handed := deliverAnswer_hands flask p.who (.rd a n) (requestTaken i p s) (.rdata .noroute [])
  refine ⟨_, run, ?_⟩
  dsimp only [networkAnswer]
  rw [handed.gate, requestTaken_gate, handed.wire]
  exact ⟨rfl, rfl, rfl, rfl, handed.only⟩

/-! ### Answers (R389, R390, R392) -/

theorem State.modNet_gate (s : State) {g : RunnerState → RunnerState} (same : ∀ n, (g n).gates = n.gates) (j : Nat) : (s.modNet g).gate j = s.gate j := by
  rw [State.gate, State.modNet, same, State.gate]

theorem channelOf_answer {b : Body} (answer : isAnswer b = true) : channelOf b = 1 := by
  cases b with
  | rdata st ws => rfl
  | wack st r => rfl
  | popResp st ws => rfl
  | crsp st r => rfl
  | _ => simp [isAnswer] at answer

theorem poisonWords_none (ws : List NWord) : poisonWords [] ws = ws := by
  have same : (fun e : NWord × Nat => { e.1 with p := e.1.p || ([] : List Nat).contains e.2 }) = Prod.fst := by
    funext e
    simp
  rw [poisonWords, same, List.zipIdx_map_fst]

theorem poisonBody_none (b : Body) : poisonBody [] b = b := by
  cases b with
  | rdata st ws => rw [poisonBody, poisonWords_none]
  | wr a m n ws => rw [poisonBody, poisonWords_none]
  | fold a c ws => rw [poisonBody, poisonWords_none]
  | push q sop ws => rw [poisonBody, markWords_none]
  | popResp st ws => rw [poisonBody, markWords_none]
  | _ => rfl

theorem packetAt_answer {s : State} {i : Nat} {pkt : Packet} (answer : isAnswer pkt.body = true) (at' : s.packetAt i pkt = true) :
    ∃ f, s.net.front i pkt.src pkt.oclass 1 = some f ∧ f.pkt = pkt := by
  rw [State.packetAt, channelOf_answer answer] at at'
  cases first : s.net.front i pkt.src pkt.oclass 1 with
  | none => rw [first] at at'; cases at'
  | some f => rw [first] at at'; exact ⟨f, rfl, of_decide_eq_true at'⟩

section
variable {s : State} {i : Nat} {pkt : Packet}

/-- The answer's transaction is no longer outstanding, its latency has been counted, and the packet has left the network (R389, R403). -/
def answerTaken (i lat : Nat) (o : Outstanding) (f : Flight) (s : State) : State :=
  countLatency i lat ((s.dropFlight f).modGate i (fun g => { g with outstanding := g.outstanding.erase o }))

/-- No transaction is outstanding under the answer's tag: it is late, and its tag may be used again (R392). -/
def lateTaken (i tag : Nat) (f : Flight) (s : State) : State :=
  ((s.dropFlight f).modGate i (fun g => { g with quarantine := g.quarantine.erase tag })).modNet (fun n => { n with lateAnswers := n.lateAnswers + 1 })

theorem exec_gateAnswer_completes (lat : Nat) {o : Outstanding} (power : s.domOn 87 = true) (answer : isAnswer pkt.body = true)
    (at' : s.packetAt i pkt = true) (asked : (s.gate i).outstanding.find? (fun x => x.tag = pkt.tag) = some o) :
    ∃ f, exec (.gateAnswer i pkt 0 [] lat) s = .next (deliverAnswer i o.who o.body pkt.body (answerTaken i lat o f s)) := by
  obtain ⟨f, first, same⟩ := packetAt_answer answer at'
  refine ⟨f, ?_⟩
  show execGateAnswer i pkt 0 [] lat s = _
  simp only [execGateAnswer, first, asked, answer, same, List.filter_nil, List.length_nil, dataChecks_none, poisonBody_none]
  exact event_of (by rw [power]; simp) _ _

theorem exec_gateAnswer_late (lat : Nat) (power : s.domOn 87 = true) (answer : isAnswer pkt.body = true)
    (at' : s.packetAt i pkt = true) (asked : (s.gate i).outstanding.find? (fun x => x.tag = pkt.tag) = none) :
    ∃ f, exec (.gateAnswer i pkt 0 [] lat) s = .next (lateTaken i pkt.tag f s) := by
  obtain ⟨f, first, same⟩ := packetAt_answer answer at'
  refine ⟨f, ?_⟩
  show execGateAnswer i pkt 0 [] lat s = _
  simp only [execGateAnswer, first, asked, answer, same]
  exact event_of (by rw [power]; simp) _ _

end

theorem onlyNet_dropFlight (s : State) (f : Flight) : OnlyNet s (s.dropFlight f) := rfl

/-- The gate has counted a latency (R403). -/
def latencyCounted (lat : Nat) (g : Gate) : Gate :=
  let v : Word := BitVec.ofNat 32 lat
  { g with
    latMin := if v.ult g.latMin then v else g.latMin
    latMax := if g.latMax.ult v then v else g.latMax
    hist := Tab.modify 0 g.hist (latencyBin lat) (fun n => n + 1) }

theorem countLatency_eq (i lat : Nat) (s : State) : countLatency i lat s = s.modGate i (latencyCounted lat) := rfl

theorem answerTaken_gate (i lat : Nat) (o : Outstanding) (f : Flight) (s : State) : (answerTaken i lat o f s).gate i =
    latencyCounted lat { s.gate i with outstanding := (s.gate i).outstanding.erase o } := by
  rw [answerTaken, countLatency_eq, State.modGate_same, State.modGate_same, dropFlight_gate]

theorem answerTaken_gate_ne {i j : Nat} (lat : Nat) (o : Outstanding) (f : Flight) (s : State) (other : j ≠ i) :
    (answerTaken i lat o f s).gate j = s.gate j := by
  rw [answerTaken, countLatency_eq, State.modGate_ne _ _ _ _ other, State.modGate_ne _ _ _ _ other, dropFlight_gate]

theorem onlyNet_answerTaken (i lat : Nat) (o : Outstanding) (f : Flight) (s : State) : OnlyNet s (answerTaken i lat o f s) :=
  (onlyNet_dropFlight s f).trans ((OnlyNet.modGate ..).trans (.modGate ..))

theorem gateAnswer_completes (s : State) (i : Nat) (pkt : Packet) (lat : Nat) (o : Outstanding) (flask : i < 72) (power : s.domOn 87 = true)
    (answer : isAnswer pkt.body = true) (at' : s.packetAt i pkt = true)
    (asked : (s.gate i).outstanding.find? (fun x => x.tag = pkt.tag) = some o) : Answers (.gateAnswer i pkt 0 [] lat) s (fun t =>
      (t.gate i).outstanding = (s.gate i).outstanding.erase o ∧ (t.gate i).quarantine = (s.gate i).quarantine ∧
      Tab.get 0 (t.gate i).hist (latencyBin lat) = Tab.get 0 (s.gate i).hist (latencyBin lat) + 1 ∧
      ((∀ st r, pkt.body ≠ .crsp st r) → (t.gate i).answers = (s.gate i).answers ++ [{ mkPacket i i 0 0 pkt.body with who := o.who }]) ∧
      (∀ j, j ≠ i → t.gate j = s.gate j) ∧ t = { s with net := t.net }) := by
  obtain ⟨f, run⟩ := exec_gateAnswer_completes lat power answer at' asked
  have handed := deliverAnswer_hands flask o.who o.body (answerTaken i lat o f s) pkt.body
  refine ⟨_, run, ?_⟩
  dsimp only
  rw [handed.gate, answerTaken_gate]
  refine ⟨rfl, rfl, Tab.get_modify_same 0 (s.gate i).hist (latencyBin lat) (· + 1), fun other => ?_, fun j other => ?_,
    (onlyNet_answerTaken ..).trans handed.only⟩
  · rw [if_pos (answerKept_of answer other)]
    rfl
  · rw [handed.others j other, answerTaken_gate_ne lat o f s other]

theorem gateAnswer_late (s : State) (i : Nat) (pkt : Packet) (lat : Nat) (power : s.domOn 87 = true) (answer : isAnswer pkt.body = true)
    (at' : s.packetAt i pkt = true) (none : (s.gate i).outstanding.find? (fun x => x.tag = pkt.tag) = none) :
    Answers (.gateAnswer i pkt 0 [] lat) s (fun t => t.net.lateAnswers = s.net.lateAnswers + 1 ∧
      (t.gate i).quarantine = (s.gate i).quarantine.erase pkt.tag ∧ (t.gate i).outstanding = (s.gate i).outstanding ∧ t = { s with net := t.net }) := by
  obtain ⟨f, run⟩ := exec_gateAnswer_late lat power answer at' none
  have gate : (lateTaken i pkt.tag f s).gate i = { s.gate i with quarantine := (s.gate i).quarantine.erase pkt.tag } := by
    rw [lateTaken, State.modNet_gate, State.modGate_same, dropFlight_gate]
    exact fun _ => rfl
  refine ⟨_, run, ?_⟩
  dsimp only
  rw [gate]
  refine ⟨?_, rfl, rfl, (onlyNet_dropFlight s f).trans rfl⟩
  obtain ⟨c, dropped⟩ := dropFlight_changes s f
  rw [lateTaken, dropped]
  rfl

/-! ### Lost transactions (R392, R397) -/

/-- A transaction is no longer outstanding, its tag waits, and it is counted LOST. -/
def tagLost (i : Nat) (o : Outstanding) (s : State) : State :=
  (s.modGate i (fun g => { g with outstanding := g.outstanding.erase o, quarantine := g.quarantine ++ [o.tag] })).modNet
    (fun n => { n with lostCount := n.lostCount + 1 })

theorem loseOne_eq (i : Nat) (s : State) (o : Outstanding) :
    loseOne i s o = deliverAnswer i o.who o.body (networkAnswer .lost o.body) (tagLost i o s) := rfl

theorem loseOne_loses {i : Nat} (flask : i < 72) (s : State) (o : Outstanding) : let t := loseOne i s o
    (t.gate i).outstanding = (s.gate i).outstanding.erase o ∧ (t.gate i).quarantine = (s.gate i).quarantine ++ [o.tag] ∧
    t.net.lostCount = s.net.lostCount + 1 ∧ t.chill = s.chill := by
  have handed := deliverAnswer_hands flask o.who o.body (tagLost i o s) (networkAnswer .lost o.body)
  have gate : (tagLost i o s).gate i = { s.gate i with outstanding := (s.gate i).outstanding.erase o, quarantine := (s.gate i).quarantine ++ [o.tag] } := by
    rw [tagLost, State.modNet_gate, State.modGate_same]
    exact fun _ => rfl
  rw [loseOne_eq]
  dsimp only
  rw [handed.gate, gate, handed.lost, handed.only.chill]
  exact ⟨rfl, rfl, rfl, rfl⟩

theorem rspTimeout_loses (s : State) (i tag : Nat) (o : Outstanding) (flask : i < 72) (power : s.domOn 87 = true)
    (asked : (s.gate i).outstanding.find? (fun x => x.tag = tag) = some o) : Answers (.rspTimeout i tag) s (fun t =>
      (t.gate i).outstanding = (s.gate i).outstanding.erase o ∧ (t.gate i).quarantine = (s.gate i).quarantine ++ [o.tag] ∧
      t.net.lostCount = s.net.lostCount + 1 ∧ Reports s t 0x3604 9 i) := by
  have run : exec (.rspTimeout i tag) s = .next (loseOne i (reportGate 0x3604 i o.dest o.addr s) o) := by
    show execRspTimeout i tag s = _
    simp only [execRspTimeout, asked]
    exact event_of power _ _
  have reported : Reports s (reportGate 0x3604 i o.dest o.addr s) 0x3604 9 i := reports_reportAt 0x3604 9 i _ _ s
  have net : (reportGate 0x3604 i o.dest o.addr s).net = s.net := reportAt_net ..
  have gate : (reportGate 0x3604 i o.dest o.addr s).gate i = s.gate i := by rw [State.gate, net, State.gate]
  obtain ⟨outstanding, quarantine, lost, chill⟩ := loseOne_loses flask (reportGate 0x3604 i o.dest o.addr s) o
  rw [gate] at outstanding quarantine
  rw [net] at lost
  exact ⟨_, run, outstanding, quarantine, lost, reported.to_chill chill⟩

theorem tagQuarantineEnd_frees (s : State) (i tag : Nat) (waits : tag ∈ (s.gate i).quarantine) : Answers (.tagQuarantineEnd i tag) s (fun t =>
    (t.gate i).quarantine = (s.gate i).quarantine.erase tag ∧ (t.gate i).outstanding = (s.gate i).outstanding ∧ (∀ j, j ≠ i → t.gate j = s.gate j) ∧
    t = { s with net := t.net }) := by
  refine ⟨_, event_of (List.contains_iff_mem.2 waits) _ _, ?_⟩
  dsimp only
  rw [State.modGate_same]
  exact ⟨rfl, rfl, fun j other => State.modGate_ne _ _ _ _ other, rfl⟩

theorem gateDropNotice_loses (s : State) (i tag : Nat) (o : Outstanding) (flask : i < 72) (power : s.domOn 87 = true) (readable : tag ≠ 255)
    (told : ∃ f ∈ s.net.wire, flightArrived f = true ∧ f.inp = i ∧ f.pkt.body = .headerNotice tag)
    (one : (s.gate i).outstanding.filter (fun x => x.tag = tag) = [o]) : Answers (.gateDropNotice i tag) s (fun t =>
      (t.gate i).outstanding = (s.gate i).outstanding.erase o ∧ (t.gate i).quarantine = (s.gate i).quarantine ++ [tag] ∧
      t.net.lostCount = s.net.lostCount + 1 ∧ t.chill = s.chill) := by
  obtain ⟨g, stands, arrived, node, body⟩ := told
  have tagged : o.tag = tag := by
    have asked : o ∈ (s.gate i).outstanding.filter (fun x => x.tag = tag) := by rw [one]; exact List.mem_singleton_self o
    exact of_decide_eq_true (List.mem_filter.1 asked).2
  obtain ⟨f, first⟩ : ∃ f, s.net.wire.find? (fun f => flightArrived f && decide (f.inp = i) && decide (f.pkt.body = .headerNotice tag)) = some f :=
    Option.isSome_iff_exists.1 (List.find?_isSome.2 ⟨g, stands, by rw [arrived, decide_eq_true node, decide_eq_true body]; rfl⟩)
  have run : exec (.gateDropNotice i tag) s = .next (loseOne i (s.dropFlight f) o) := by
    show execGateDropNotice i tag s = _
    simp only [execGateDropNotice, first, if_neg readable, one]
    exact event_of power _ _
  obtain ⟨outstanding, quarantine, lost, chill⟩ := loseOne_loses flask (s.dropFlight f) o
  rw [dropFlight_gate] at outstanding quarantine
  rw [tagged] at quarantine
  obtain ⟨c, dropped⟩ := dropFlight_changes s f
  exact ⟨_, run, outstanding, quarantine, by rw [lost, dropped], by rw [chill, dropped]⟩

/-! ### The statement -/

/-- Settles O22: a request that is sent, or has no target; an answer with and without its transaction; and the three ways a tag is lost or freed. -/
theorem gateRequestsAndAnswers : Obligations.GateRequestsAndAnswers := by
  refine ⟨fun s i tc p oldest power opened free => ?_, gateAnswer_completes, gateAnswer_late, rspTimeout_loses, tagQuarantineEnd_frees,
    gateDropNotice_loses⟩
  have h : GateFirst s i tc p := ⟨oldest, power, opened, free⟩
  exact ⟨fun _ resolved request none tag bucket turn enters => gateInject_sends h resolved request none tag bucket turn enters,
    fun _ unresolved message => gateInject_drops h unresolved message, fun _ _ flask unresolved read => gateInject_noroute h flask unresolved read⟩

end Sys2Proof.Machine
end

section
/-! Proofs of 09_catch_memory.md: what a change of one channel leaves of the others, and what a write of a line leaves of memory. -/

namespace Sys2Proof.Machine

/-! ### Channels -/

@[simp] theorem State.modChan_same (s : State) (n : Nat) (g : Channel → Channel) : (s.modChan n g).chan n = g (s.chan n) := Tab.get_modify_same ..

theorem State.modChan_ne (s : State) {n m : Nat} (g : Channel → Channel) (other : m ≠ n) : (s.modChan n g).chan m = s.chan m :=
  Tab.get_modify_ne _ _ _ _ _ other

theorem State.modChan_other (s : State) (n : Nat) (g : Channel → Channel) : ∀ m, m ≠ n → (s.modChan n g).chan m = s.chan m :=
  fun _ other => s.modChan_ne g other

@[simp] theorem State.modChan_chill (s : State) (n : Nat) (g : Channel → Channel) : (s.modChan n g).chill = s.chill := rfl
@[simp] theorem State.modChan_dram (s : State) (n : Nat) (g : Channel → Channel) : (s.modChan n g).dram = s.dram := rfl
@[simp] theorem State.modChan_dramWord (s : State) (n : Nat) (g : Channel → Channel) (j : Nat) : (s.modChan n g).dramWord j = s.dramWord j := rfl

theorem chan_congr {s t : State} (same : t.catch' = s.catch') (n : Nat) : t.chan n = s.chan n := by rw [State.chan, State.chan, same]

@[simp] theorem reportAt_chan (code kind oid : Nat) (aux : Word) (detail : DWord) (s : State) (n : Nat) :
    (reportAt code kind oid aux detail s).chan n = s.chan n := chan_congr (reportAt_catch ..) n

@[simp] theorem State.consume_chan (s : State) (dest src oclass : Nat) (b : Body) (n : Nat) : (s.consume dest src oclass b).chan n = s.chan n :=
  chan_congr (s.consume_catch ..) n

@[simp] theorem reportChan_chan (code n addr : Nat) (s : State) (m : Nat) : (reportChan code n addr s).chan m = s.chan m := reportAt_chan ..

theorem reportChan_changes (code n addr : Nat) (s : State) : ∃ c, reportChan code n addr s = { s with chill := c } := reportAt_changes ..

theorem reports_reportChan (code n addr : Nat) (s : State) : Reports s (reportChan code n addr s) code 10 n :=
  reports_reportAt code 10 n _ _ s

/-- Nothing but the catch controller has changed. -/
def OnlyCatch (s t : State) : Prop := ∃ c, t = { s with catch' := c }

namespace OnlyCatch
variable {s t u : State}

theorem modCatch (s : State) (g : CatchState → CatchState) : OnlyCatch s (s.modCatch g) := ⟨_, rfl⟩
theorem modChan (s : State) (n : Nat) (g : Channel → Channel) : OnlyCatch s (s.modChan n g) := ⟨_, rfl⟩
theorem trans : OnlyCatch s t → OnlyCatch t u → OnlyCatch s u := by rintro ⟨_, rfl⟩ ⟨_, rfl⟩; exact ⟨_, rfl⟩
theorem machine : OnlyCatch s t → t = { s with catch' := t.catch' } := by rintro ⟨_, rfl⟩; rfl
theorem dram : OnlyCatch s t → t.dram = s.dram := by rintro ⟨_, rfl⟩; rfl
theorem dict : OnlyCatch s t → t.dict = s.dict := by rintro ⟨_, rfl⟩; rfl
theorem net : OnlyCatch s t → t.net = s.net := by rintro ⟨_, rfl⟩; rfl

end OnlyCatch

/-! ### Words of memory -/

@[simp] theorem State.dramPut_same (s : State) (w : Nat) (v : NWord) : (s.dramPut w v).dramWord w = v := by
  rw [State.dramWord, State.dramPut, Tab.get_set_same]

theorem State.dramPut_ne (s : State) {w j : Nat} (v : NWord) (other : j ≠ w) : (s.dramPut w v).dramWord j = s.dramWord j := by
  rw [State.dramWord, State.dramPut, Tab.get_set_ne _ _ _ _ _ other, State.dramWord]

theorem State.dramWrite_changes : ∀ (ws : List NWord) (s : State) (w : Nat), ∃ d, s.dramWrite w ws = { s with dram := d }
  | [], s, _ => ⟨s.dram, rfl⟩
  | v :: vs, s, w => by
    obtain ⟨d, written⟩ := State.dramWrite_changes vs (s.dramPut w v) (w + 1)
    exact ⟨d, written⟩

/-- A run of words written: the words of the run hold what was written, the others what they held. -/
theorem State.dramWrite_word : ∀ (ws : List NWord) (s : State) (w j : Nat),
    (s.dramWrite w ws).dramWord j = if w ≤ j then (ws[j - w]?).getD (s.dramWord j) else s.dramWord j
  | [], s, w, j => by simp [State.dramWrite]
  | v :: vs, s, w, j => by
    rw [State.dramWrite, State.dramWrite_word vs]
    rcases Nat.lt_trichotomy j w with below | rfl | above
    · rw [if_neg (by omega), if_neg (by omega), s.dramPut_ne v (by omega)]
    · rw [if_neg (by omega), if_pos (Nat.le_refl _), s.dramPut_same]
      simp
    · rw [if_pos (by omega), if_pos (by omega), s.dramPut_ne v (by omega), show j - w = j - (w + 1) + 1 by omega, List.getElem?_cons_succ]

@[simp] theorem State.dramRead_getElem? (s : State) : ∀ (n w k : Nat), (s.dramRead w n)[k]? = if k < n then some (s.dramWord (w + k)) else none
  | 0, _, _ => rfl
  | n + 1, w, 0 => by simp [State.dramRead]
  | n + 1, w, k + 1 => by
    rw [State.dramRead, List.getElem?_cons_succ, s.dramRead_getElem? n, show w + 1 + k = w + (k + 1) by omega]
    simp

theorem readLine_getElem? (s : State) (line k : Nat) : (readLine s line)[k]? = if k < 16 then some (s.dramWord (16 * line + k)) else none :=
  s.dramRead_getElem? ..

theorem readLine_congr {s t : State} (same : t.dram = s.dram) (line : Nat) : readLine t line = readLine s line := by
  have words (j : Nat) : t.dramWord j = s.dramWord j := by rw [State.dramWord, State.dramWord, same]
  refine List.ext_getElem? fun k => ?_
  rw [readLine_getElem?, readLine_getElem?, words]

theorem writeLine_changes (line : Nat) (ws : List NWord) (s : State) : ∃ d, writeLine line ws s = { s with dram := d } :=
  State.dramWrite_changes ..

/-- A line written: its sixteen words, and no other. -/
theorem writeLine_word (line : Nat) (g : Nat → NWord) (s : State) (j : Nat) :
    (writeLine line ((List.range 16).map g) s).dramWord j =
      if 16 * line ≤ j ∧ j < 16 * line + 16 then g (j - 16 * line) else s.dramWord j := by
  rw [writeLine, State.dramWrite_word]
  by_cases from' : 16 * line ≤ j
  · by_cases below : j - 16 * line < 16
    · rw [if_pos from', if_pos ⟨from', by omega⟩, List.getElem?_map, List.getElem?_range below]; rfl
    · rw [if_pos from', if_neg (by omega), List.getElem?_eq_none (by simpa using below)]; rfl
  · rw [if_neg from', if_neg (fun within => from' within.1)]

/-- Outside the evacuation's switch a write of a line is that line's alone (R460). -/
theorem writeBoth_unswitched {s : State} (unswitched : s.catch'.evac ≠ .switch) (addr line : Nat) (ws : List NWord) :
    writeBoth addr line ws s = writeLine line ws s := by simp [writeBoth, unswitched]

/-! ### Runs of keys -/

/-- A table in which a run of keys has been set in turn. -/
theorem Tab.get_setRun {α : Type} [DecidableEq α] (d : α) (v : Nat → α) (b k : Nat) (t : Tab α) : ∀ count,
    Tab.get d ((List.range count).foldl (fun t p => Tab.set d t (b + p) (v p)) t) k = if b ≤ k ∧ k < b + count then v (k - b) else Tab.get d t k
  | 0 => by rw [if_neg (by omega)]; rfl
  | count + 1 => by
    rw [List.range_succ, List.foldl_append, List.foldl_cons, List.foldl_nil]
    rcases eq_or_ne k (b + count) with rfl | other
    · rw [Tab.get_set_same, if_pos (by omega), Nat.add_sub_cancel_left]
    · rw [Tab.get_set_ne _ _ _ _ _ other, Tab.get_setRun d v b k t count]
      by_cases within : b ≤ k ∧ k < b + count
      · rw [if_pos within, if_pos (by omega)]
      · rw [if_neg within, if_neg (by omega)]

end Sys2Proof.Machine
end

section
/-! Proofs of 09_catch_memory.md (R435, R436, R438, R439, R442, R443): requests at a catch channel that serves. A request of one line needs one operation,
and on a line where none stands the operation joins the others behind them. -/

namespace Sys2Proof.Machine

/-! ### Runs of words in one line -/

theorem linesOf_inLine {a count : Nat} (inLine : InLine a count) : linesOf a count = [a / 64 * 64] := by
  obtain ⟨aligned, some', fits⟩ := inLine
  rw [linesOf, if_neg (by omega), show (a % 64 + 4 * count + 63) / 64 = 1 by omega]
  simp

theorem posIn_inLine {a count : Nat} (inLine : InLine a count) :
    posIn a count (a / 64 * 64) = (List.range count).map (fun p => (p, a % 64 / 4 + p)) := by
  obtain ⟨aligned, some', fits⟩ := inLine
  have near (p : Nat) (lt : p < count) : (a + 4 * p) / 64 * 64 = a / 64 * 64 ∧ (a + 4 * p) % 64 / 4 = a % 64 / 4 + p := by omega
  rw [posIn, List.filter_eq_self.2 fun p mem => decide_eq_true (near p (List.mem_range.1 mem)).1]
  exact List.map_congr_left fun p mem => by rw [(near p (List.mem_range.1 mem)).2]

/-! ### Packets whose words pass their checks (R398) -/

theorem poisonWords_nil (ws : List NWord) : poisonWords [] ws = ws := by
  refine List.ext_getElem? fun k => ?_
  rw [poisonWords, List.getElem?_map, List.getElem?_zipIdx]
  cases ws[k]? <;> simp

theorem requestChecks_clean (n : Nat) (pkt : Packet) (count : Nat) (s : State) : requestChecks n pkt count 0 [] s = s := rfl

/-! ### Requests that join -/

/-- On a line where no operation stands, another changes none of those that wait. -/
theorem arriveBehind_free {ops : List LineOp} {line : Nat} (free : ∀ o ∈ ops, o.line ≠ line) (write : Bool) : arriveBehind line write ops = ops := by
  have kept : ops.filter (fun o => !(write && decide (o.line = line) && (match o.kind with
      | .scrub _ => true
      | _ => false))) = ops := List.filter_eq_self.2 fun o mem => by simp [free o mem]
  refine (congrArg (List.map _) kept).trans ?_
  exact (List.map_congr_left fun o mem => if_neg (free o mem)).trans (List.map_id' ops)

theorem addRequest_chan (n : Nat) (pkt : Packet) (write : Bool) (o : LineOp) (s : State) (free : LineFree s n o.line) :
    (addRequest n pkt write [o] s).chan n = { s.chan n with
      ops := (s.chan n).ops ++ [{ o with reqs := [(s.chan n).nextReq] }]
      reqs := (s.chan n).reqs ++ [{ id := (s.chan n).nextReq, pkt := pkt, left := 1, words := [], rejected := false }]
      nextReq := (s.chan n).nextReq + 1 } := by
  rw [addRequest, State.modChan_same]
  simp [arriveBehind_free free]

/-- A request of one line, taken off the network, joins its channel. -/
theorem addRequest_joins {s u : State} (taken : ∃ w, u = { s with net := w }) (n : Nat) (pkt : Packet) (write : Bool) {o : LineOp}
    (free : LineFree s n o.line) : RequestJoined s (addRequest n pkt write [o] u) n pkt o := by
  obtain ⟨w, rfl⟩ := taken
  have joined := addRequest_chan n pkt write o { s with net := w } free
  exact ⟨congrArg Channel.ops joined, congrArg Channel.reqs joined, congrArg Channel.nextReq joined,
    fun m other => State.modChan_ne _ _ other, rfl, rfl⟩

theorem rd_joins (s : State) (n a count : Nat) (pkt : Packet) (body : pkt.body = .rd a count) (serves : s.chanServes n = true)
    (at' : s.packetAt (96 + n) pkt = true) (inLine : InLine a count) (free : LineFree s n (lineAt s n (a / 64 * 64)))
    (room : queueRoom (s.chan n) false [lineAt s n (a / 64 * 64)] = true) : Answers (.rd n pkt) s (fun t => RequestJoined s t n pkt
      { addr := a / 64 * 64, line := lineAt s n (a / 64 * 64), kind := .read ((List.range count).map (fun p => (p, a % 64 / 4 + p))), reqs := [] }) := by
  refine ⟨_, ?_, addRequest_joins (s.consume_changes (96 + n) pkt.src pkt.oclass pkt.body) n pkt false free⟩
  show execRd n pkt s = _
  simp only [execRd, body, linesOf_inLine inLine, posIn_inLine inLine, List.map_cons, List.map_nil]
  exact event_of (by rw [serves, at', room]; rfl) _ _

/-- The words of a write by their numbers in the line, with the bytes that each enables (R377). -/
def writeTab (a : Nat) (f l : BitVec 4) (ws : List NWord) : Tab (BitVec 4 × NWord) :=
  (List.range ws.length).foldl (fun t p => Tab.set (0, { d := 0, p := false }) t (a % 64 / 4 + p)
    (wordEnables f l ws.length p, ws.getD p { d := 0, p := false })) []

theorem wr_joins (s : State) (n a : Nat) (f l : BitVec 4) (ws : List NWord) (pkt : Packet) (body : pkt.body = .wr a f l ws)
    (serves : s.chanServes n = true) (at' : s.packetAt (96 + n) pkt = true) (inLine : InLine a ws.length)
    (free : LineFree s n (lineAt s n (a / 64 * 64))) (room : queueRoom (s.chan n) true [lineAt s n (a / 64 * 64)] = true) :
    Answers (.wr n pkt 0 []) s (fun t =>
      ∃ tab, RequestJoined s t n pkt { addr := a / 64 * 64, line := lineAt s n (a / 64 * 64), kind := .write tab, reqs := [] } ∧
        ∀ k, Tab.get (0, { d := 0, p := false }) tab k = if a % 64 / 4 ≤ k ∧ k < a % 64 / 4 + ws.length then
          (wordEnables f l ws.length (k - a % 64 / 4), ws.getD (k - a % 64 / 4) { d := 0, p := false }) else (0, { d := 0, p := false })) := by
  refine ⟨_, ?_, writeTab a f l ws, addRequest_joins (s.consume_changes (96 + n) pkt.src pkt.oclass pkt.body) n pkt true free, fun k => ?_⟩
  · show execWr n pkt 0 [] s = _
    simp only [execWr, body, poisonBody, poisonWords_nil, linesOf_inLine inLine, posIn_inLine inLine, List.map_cons, List.map_nil, List.foldl_map,
      requestChecks_clean]
    exact event_of (by rw [serves, at', room]; rfl) _ _
  · exact (Tab.get_setRun _ (fun p => (wordEnables f l ws.length p, ws.getD p { d := 0, p := false })) ..).trans rfl

/-! ### Folds -/

/-- The words of an entry that the operands of a fold join where it holds none yet. -/
theorem get_joinWords {code : Nat} (plain : code ≠ 5) : ∀ (ws : List NWord) (t : Tab (Option NWord)) (b : Nat),
    (∀ k, b ≤ k → Tab.get none t k = none) → ∀ k, Tab.get none (joinWords code t b ws) k =
      if b ≤ k ∧ k < b + ws.length then ws[k - b]? else Tab.get none t k
  | [], t, b, _, k => by rw [if_neg (by simp)]; rfl
  | w :: ws, t, b, empty, k => by
    have start : joinWords code t b (w :: ws) = joinWords code (Tab.set none t b (some w)) (b + 1) ws := by
      simp only [joinWords, empty b (Nat.le_refl b), foldStart, if_neg plain]
    have empty' (j : Nat) (above : b + 1 ≤ j) : Tab.get none (Tab.set none t b (some w)) j = none := by
      rw [Tab.get_set_ne _ _ _ _ _ (by omega), empty j (by omega)]
    rw [start, get_joinWords plain ws _ _ empty' k, List.length_cons]
    rcases Nat.lt_trichotomy k b with below | rfl | above
    · rw [if_neg (by omega), if_neg (by omega), Tab.get_set_ne _ _ _ _ _ (by omega)]
    · rw [if_neg (by omega), if_pos (by omega), Tab.get_set_same]
      simp
    · rw [Tab.get_set_ne _ _ _ _ _ (by omega), show k - b = k - (b + 1) + 1 by omega, List.getElem?_cons_succ]
      exact if_congr (by omega) rfl rfl

/-- On a line where no operation stands there is no entry to join. -/
theorem joinable_free {ops : List LineOp} {line : Nat} (free : ∀ o ∈ ops, o.line ≠ line) (code : Nat) : joinable ops line code = false := by
  have none' : ops.filter (fun o => o.line = line) = [] := List.filter_eq_nil_iff.2 fun o mem => by simpa using free o mem
  rw [joinable, none']; rfl

/-- A channel after a fold that writes nothing (R439), after one that joins the youngest operation on its line (R442), and with one more counted. -/
def Channel.foldRejected (pkt : Packet) (c : Channel) : Channel :=
  { c with reqs := c.reqs ++ [{ id := c.nextReq, pkt := pkt, left := 0, words := [], rejected := true }], nextReq := c.nextReq + 1 }
def Channel.foldJoined (line b : Nat) (pkt : Packet) (ws : List NWord) (c : Channel) : Channel :=
  { c with
    ops := joinYoungest line c.nextReq b ws c.ops
    reqs := c.reqs ++ [{ id := c.nextReq, pkt := pkt, left := 1, words := [], rejected := false }]
    nextReq := c.nextReq + 1, folds := c.folds + 1 }
def Channel.foldCounted (c : Channel) : Channel := { c with folds := c.folds + 1 }

/-- The request is off the network. -/
abbrev catchTaken (s : State) (n : Nat) (pkt : Packet) : State := s.consume (96 + n) pkt.src pkt.oclass pkt.body

/-- The entry that a fold opens. -/
abbrev foldOpened (s : State) (n a code : Nat) (ws : List NWord) : LineOp :=
  { addr := a / 64 * 64, line := lineAt s n (a / 64 * 64), kind := .fold code (joinWords code [] (a % 64 / 4) ws) false, reqs := [] }

/-- FOLD by its cases: it is rejected, joins an entry, or opens one where there is room. -/
theorem exec_fold {s : State} {n a code : Nat} {ws : List NWord} {pkt : Packet} (body : pkt.body = .fold a code ws) (serves : s.chanServes n = true)
    (at' : s.packetAt (96 + n) pkt = true) : exec (.fold n pkt 0 []) s =
      if foldBad a code ws then .next ((reportChan 0x3702 n a (catchTaken s n pkt)).modChan n (.foldRejected pkt))
      else if joinable (s.chan n).ops (lineAt s n (a / 64 * 64)) code then
        .next ((catchTaken s n pkt).modChan n (.foldJoined (lineAt s n (a / 64 * 64)) (a % 64 / 4) pkt ws))
      else event (decide (((s.chan n).ops.filter LineOp.isFold).length < 512)) s
        ((addRequest n pkt true [foldOpened s n a code ws] (catchTaken s n pkt)).modChan n .foldCounted) := by
  show execFold n pkt 0 [] s = _
  simp only [execFold, body, poisonBody, poisonWords_nil, requestChecks_clean, serves, at', Bool.and_self, Bool.true_and, catchTaken]
  rfl

theorem fold_enters (s : State) (n a code : Nat) (ws : List NWord) (pkt : Packet) (body : pkt.body = .fold a code ws) (serves : s.chanServes n = true)
    (at' : s.packetAt (96 + n) pkt = true) (least : 1 ≤ code) (most : code ≤ 4) (inLine : InLine a ws.length)
    (free : LineFree s n (lineAt s n (a / 64 * 64))) (room : ((s.chan n).ops.filter LineOp.isFold).length < 512) : Answers (.fold n pkt 0 []) s (fun t =>
      (∃ tab, (t.chan n).ops = (s.chan n).ops ++
          [{ addr := a / 64 * 64, line := lineAt s n (a / 64 * 64), kind := .fold code tab false, reqs := [(s.chan n).nextReq] }] ∧
        ∀ k, Tab.get none tab k = if a % 64 / 4 ≤ k ∧ k < a % 64 / 4 + ws.length then ws[k - a % 64 / 4]? else none) ∧
      (t.chan n).folds = (s.chan n).folds + 1 ∧ t.dram = s.dram) := by
  obtain ⟨aligned, some', fits⟩ := inLine
  have good : foldBad a code ws = false := by
    have filled : ws ≠ [] := List.ne_nil_of_length_pos some'
    simp only [foldBad, Bool.or_eq_false_iff, decide_eq_false_iff_not, List.isEmpty_eq_false_iff]
    exact ⟨⟨⟨⟨by omega, by omega⟩, filled⟩, by omega⟩, by omega⟩
  have run : exec (.fold n pkt 0 []) s = .next ((addRequest n pkt true [foldOpened s n a code ws] (catchTaken s n pkt)).modChan n .foldCounted) := by
    rw [exec_fold body serves at', good, joinable_free free, if_neg Bool.false_ne_true, if_neg Bool.false_ne_true]
    exact event_of (decide_eq_true room) _ _
  have free' : LineFree (catchTaken s n pkt) n (foldOpened s n a code ws).line := by rw [LineFree, State.consume_chan]; exact free
  refine ⟨_, run, ⟨joinWords code [] (a % 64 / 4) ws, ?_, get_joinWords (by omega) ws [] _ fun _ _ => rfl⟩, ?_, State.consume_dram ..⟩
  · rw [State.modChan_same, addRequest_chan n pkt true _ _ free', State.consume_chan]; rfl
  · rw [State.modChan_same, addRequest_chan n pkt true _ _ free', State.consume_chan]; rfl

theorem fold_rejected (s : State) (n a code : Nat) (ws : List NWord) (pkt : Packet) (body : pkt.body = .fold a code ws) (serves : s.chanServes n = true)
    (at' : s.packetAt (96 + n) pkt = true) (bad : code = 0 ∨ 5 < code ∨ ws = [] ∨ 16 < a % 64 / 4 + ws.length) : Answers (.fold n pkt 0 []) s (fun t =>
      (t.chan n).ops = (s.chan n).ops ∧
      (t.chan n).reqs = (s.chan n).reqs ++ [{ id := (s.chan n).nextReq, pkt := pkt, left := 0, words := [], rejected := true }] ∧
      Reports s t 0x3702 10 n ∧ t.dram = s.dram) := by
  have rejected : foldBad a code ws = true := by
    simp only [foldBad, Bool.or_eq_true, decide_eq_true_eq, List.isEmpty_iff]
    tauto
  have reported := reports_reportChan 0x3702 n a (s.consume (96 + n) pkt.src pkt.oclass pkt.body)
  refine ⟨_, by rw [exec_fold body serves at', rejected, if_pos rfl], ?_, ?_, ?_, ?_⟩
  · rw [State.modChan_same, reportChan_chan, State.consume_chan]; rfl
  · rw [State.modChan_same, reportChan_chan, State.consume_chan]; rfl
  · exact (reported.of_chill (State.consume_chill ..)).to_chill rfl
  · exact (reportAt_dram ..).trans (State.consume_dram ..)

/-- One more word joins the entry that stands alone on its line. -/
theorem fold_joins (s : State) (n a code : Nat) (ws : List NWord) (pkt : Packet) (body : pkt.body = .fold a code ws) (serves : s.chanServes n = true)
    (at' : s.packetAt (96 + n) pkt = true) (w v : NWord) (o : LineOp) (one : ws = [w]) (or : code = 1) (_ : a % 4 = 0) (ops : (s.chan n).ops = [o])
    (line : o.line = lineAt s n (a / 64 * 64)) (kind : o.kind = .fold 1 [(a % 64 / 4, some v)] false) : Answers (.fold n pkt 0 []) s (fun t =>
      (t.chan n).ops = [{ o with kind := .fold 1 [(a % 64 / 4, some { d := v.d ||| w.d, p := v.p || w.p })] false, reqs := o.reqs ++ [(s.chan n).nextReq] }] ∧
      (t.chan n).folds = (s.chan n).folds + 1 ∧ t.dram = s.dram) := by
  subst one or
  have good : foldBad a 1 [w] = false := by
    have inside : ¬ 16 < a % 64 / 4 + 1 := by omega
    simp [foldBad, inside]
  have joins : joinable (s.chan n).ops (lineAt s n (a / 64 * 64)) 1 = true := by simp [joinable, ops, line, kind]
  refine ⟨_, by rw [exec_fold body serves at', good, joins, if_neg Bool.false_ne_true, if_pos rfl], ?_, ?_, ?_⟩
  · rw [State.modChan_same, State.consume_chan]
    simp [Channel.foldJoined, joinYoungest, ops, line, kind, joinWords, Tab.get, Tab.set, Tab.insert, foldStart, foldJoin]
  · rw [State.modChan_same, State.consume_chan]; rfl
  · exact State.consume_dram ..

theorem foldEntryIssue_issues (s : State) (n line code : Nat) (o : LineOp) (tab : Tab (Option NWord)) (serves : s.chanServes n = true)
    (ops : (s.chan n).ops = [o]) (stands : o.line = line) (kind : o.kind = .fold code tab false) : Answers (.foldEntryIssue n line) s (fun t =>
      (t.chan n).ops = [{ o with kind := .fold code tab true }] ∧ (t.chan n).reqs = (s.chan n).reqs ∧
      (∀ m, m ≠ n → t.chan m = s.chan m) ∧ t = { s with catch' := t.catch' }) := by
  refine ⟨_, event_of serves _ _, ?_, by rw [State.modChan_same], s.modChan_other n _, rfl⟩
  rw [State.modChan_same]
  simp [issueEntry, ops, kind, stands]

end Sys2Proof.Machine
end

section
/-! Proofs of 09_catch_memory.md (R421-R425, R433-R438): the access of a line. The scheduler takes the only operation there is, and performing it
reads the line, merges what it writes, and tells the request that waits. -/

namespace Sys2Proof.Machine

/-! ### The bytes and halves of a word (R438) -/

/-- Values that fit in `c` bits, put side by side: each stands at its place. -/
theorem extract_sideBySide {c : Nat} (x : Nat → Nat) (fits : ∀ k, x k < 2 ^ c) (b : Nat) : ∀ n, c * n ≤ 32 →
    ((List.range n).foldl (fun w k => w ||| (BitVec.ofNat 32 (x k) <<< (c * k))) (0 : Word)).extractLsb' (c * b) c =
      if b < n then BitVec.ofNat c (x b) else 0
  | 0, _ => by simp
  | n + 1, wide => by
    have room : c * n + c ≤ 32 := by rw [← Nat.mul_succ]; exact wide
    rw [List.range_succ, List.foldl_append, List.foldl_cons, List.foldl_nil, BitVec.extractLsb'_or,
      extract_sideBySide x fits b n (by omega)]
    rcases Nat.lt_trichotomy b n with below | rfl | above
    · have gap : c * b + c ≤ c * n := by rw [← Nat.mul_succ]; exact Nat.mul_le_mul_left c below
      have none : (BitVec.ofNat 32 (x n) <<< (c * n)).extractLsb' (c * b) c = 0 := by
        refine BitVec.eq_of_getLsbD_eq fun i lt => ?_
        rw [BitVec.getLsbD_extractLsb', BitVec.getLsbD_shiftLeft, decide_eq_true (show c * b + i < c * n by omega)]
        simp
      rw [none, if_pos below, if_pos (by omega)]
      exact BitVec.or_zero
    · have here : (BitVec.ofNat 32 (x b) <<< (c * b)).extractLsb' (c * b) c = BitVec.ofNat c (x b) := by
        refine BitVec.eq_of_getLsbD_eq fun i lt => ?_
        rw [BitVec.getLsbD_extractLsb', BitVec.getLsbD_shiftLeft, BitVec.getLsbD_ofNat, BitVec.getLsbD_ofNat, Nat.add_sub_cancel_left,
          decide_eq_true lt, decide_eq_true (show c * b + i < 32 by omega), decide_eq_false (show ¬ c * b + i < c * b by omega),
          decide_eq_true (show i < 32 by omega)]
        rfl
      rw [here, if_neg (by omega), if_pos (by omega)]
      exact BitVec.zero_or
    · have gap : c * n + c ≤ c * b := by rw [← Nat.mul_succ]; exact Nat.mul_le_mul_left c above
      have none : (BitVec.ofNat 32 (x n) <<< (c * n)).extractLsb' (c * b) c = 0 := by
        refine BitVec.eq_of_getLsbD_eq fun i lt => ?_
        have small : (x n).testBit (c * b + i - c * n) = false :=
          Nat.testBit_lt_two_pow ((fits n).trans_le (Nat.pow_le_pow_right (by omega) (by omega)))
        rw [BitVec.getLsbD_extractLsb', BitVec.getLsbD_shiftLeft, BitVec.getLsbD_ofNat, small]
        simp
      rw [none, if_neg (by omega), if_neg (by omega)]
      exact BitVec.or_zero

/-- The chunk `b` of `c` bits of a word, as a number. -/
theorem extract_toNat (w : Word) (c b : Nat) : (w.extractLsb' (c * b) c).toNat = w.toNat / 2 ^ (c * b) % 2 ^ c := by
  rw [BitVec.extractLsb'_toNat, Nat.shiftRight_eq_div_pow]

theorem byteAt_extract (w : Word) (b : Nat) : byteAt w b = (w.extractLsb' (8 * b) 8).toNat := (extract_toNat w 8 b).symm

theorem byteAt_mapBytes {g : Nat → Nat → Nat} (fits : ∀ x y, g x y < 256) (v w : Word) {b : Nat} (lt : b < 4) :
    byteAt (mapBytes g v w) b = g (byteAt v b) (byteAt w b) := by
  have chunk := extract_sideBySide (c := 8) (fun k => g (v.extractLsb' (8 * k) 8).toNat (w.extractLsb' (8 * k) 8).toNat) (fun _ => fits _ _) b 4
    (Nat.le_refl _)
  have value := congrArg BitVec.toNat chunk
  rw [if_pos lt, BitVec.toNat_ofNat, Nat.mod_eq_of_lt (fits _ _)] at value
  rw [byteAt_extract, byteAt_extract, byteAt_extract]
  exact value

theorem half_mapHalves {g : Nat → Nat → Nat} (fits : ∀ x y, g x y < 65536) (v w : Word) {h : Nat} (lt : h < 2) :
    (mapHalves g v w).toNat / 2 ^ (16 * h) % 65536 = g (v.toNat / 2 ^ (16 * h) % 65536) (w.toNat / 2 ^ (16 * h) % 65536) := by
  have chunk := extract_sideBySide (c := 16) (fun k => g (v.extractLsb' (16 * k) 16).toNat (w.extractLsb' (16 * k) 16).toNat) (fun _ => fits _ _) h 2
    (Nat.le_refl _)
  have value := congrArg BitVec.toNat chunk
  rw [if_pos lt, BitVec.toNat_ofNat, Nat.mod_eq_of_lt (fits _ _), extract_toNat v, extract_toNat w] at value
  exact (extract_toNat _ 16 h).symm.trans value

/-! ### A word of which some bytes are written (R425) -/

/-- The bits of the bytes that are enabled. -/
def byteMask (e : BitVec 4) : Word := (List.range 4).foldl (fun m k => if e.getLsbD k then m ||| (0xFF#32 <<< (8 * k)) else m) 0

theorem byteMask_extract : ∀ e : BitVec 4, ∀ b < 4, (byteMask e).extractLsb' (8 * b) 8 = if e.getLsbD b then BitVec.allOnes 8 else 0#8 := by decide

theorem byteAt_masked (e : BitVec 4) (old new : Word) {b : Nat} (lt : b < 4) :
    byteAt ((old &&& ~~~ byteMask e) ||| (new &&& byteMask e)) b = if e.getLsbD b then byteAt new b else byteAt old b := by
  have other : (~~~ byteMask e).extractLsb' (8 * b) 8 = ~~~ (byteMask e).extractLsb' (8 * b) 8 := by
    refine BitVec.eq_of_getLsbD_eq fun i small => ?_
    rw [BitVec.getLsbD_not, BitVec.getLsbD_extractLsb', BitVec.getLsbD_extractLsb', BitVec.getLsbD_not, decide_eq_true small,
      decide_eq_true (show 8 * b + i < 32 by omega)]
    rfl
  rw [byteAt_extract, byteAt_extract, byteAt_extract, BitVec.extractLsb'_or, BitVec.extractLsb'_and, BitVec.extractLsb'_and,
    other, byteMask_extract e b lt]
  generalize old.extractLsb' (8 * b) 8 = x
  generalize new.extractLsb' (8 * b) 8 = y
  rw [← apply_ite BitVec.toNat]
  congr 1
  cases e.getLsbD b with
  | false => rw [if_neg Bool.false_ne_true, if_neg Bool.false_ne_true, BitVec.not_zero, BitVec.and_allOnes, BitVec.and_zero, BitVec.or_zero]
  | true => rw [if_pos rfl, if_pos rfl, BitVec.not_allOnes, BitVec.and_allOnes, BitVec.and_zero, BitVec.zero_or]

/-- A word after a write of some of its bytes. -/
theorem mergedWord_bytes (old : NWord) (e : BitVec 4 × NWord) :
    (∀ b, b < 4 → byteAt (mergedWord old e).d b = if e.1.getLsbD b then byteAt e.2.d b else byteAt old.d b) ∧
    (mergedWord old e).p = (if e.1 = 0xF then e.2.p else if e.1 = 0 then old.p else old.p || e.2.p) := by
  obtain ⟨en, new⟩ := e
  rcases eq_or_ne en 0xF with rfl | some'
  · have all : ∀ b < 4, (0xF : BitVec 4).getLsbD b = true := by decide
    exact ⟨fun b lt => by rw [all b lt]; rfl, rfl⟩
  · rcases eq_or_ne en 0 with rfl | any
    · exact ⟨fun b lt => by simp [mergedWord], rfl⟩
    · have merged : mergedWord old (en, new) = { d := (old.d &&& ~~~ byteMask en) ||| (new.d &&& byteMask en), p := old.p || new.p } :=
        (if_neg some').trans (if_neg any)
      exact ⟨fun b lt => by rw [merged]; exact byteAt_masked en old.d new.d lt, by rw [merged, if_neg some', if_neg any]⟩

/-! ### The words that a read sees (R423, R424) -/

theorem checkedWords_getElem? (ws : List NWord) (errs : LineErrs) (k : Nat) :
    (checkedWords ws errs)[k]? = ws[k]?.map (fun v => { v with p := v.p || errs.any (fun x => x.1 = k && x.2.isNone) }) := by
  rw [checkedWords, List.getElem?_map, List.getElem?_zipIdx, Nat.zero_add, Option.map_map]
  rfl

/-- Words that all pass their checks are delivered as they are stored. -/
theorem checkedWords_clean (ws : List NWord) : checkedWords ws [] = ws := by
  refine List.ext_getElem? fun k => ?_
  rw [checkedWords_getElem?]
  cases ws[k]? <;> simp

/-- A line rebuilt word by word. -/
theorem readLine_zipIdx (s : State) (line : Nat) (g : NWord × Nat → NWord) :
    (readLine s line).zipIdx.map g = (List.range 16).map (fun k => g (s.dramWord (16 * line + k), k)) := by
  refine List.ext_getElem? fun k => ?_
  rw [List.getElem?_map, List.getElem?_zipIdx, readLine_getElem?, List.getElem?_map]
  by_cases lt : k < 16
  · rw [if_pos lt, List.getElem?_range lt, Nat.zero_add]; rfl
  · rw [if_neg lt, List.getElem?_eq_none (by simpa using lt)]; rfl

/-! ### The operation that the scheduler takes (R435) -/

theorem issuable_only {s : State} {n sub : Nat} {o : LineOp} {r : CatchReq} (only : OnlyOp s n sub o r) (queued : (o.isRead || o.isWrite) = true) :
    issuable s n sub [] = [o] := by
  obtain ⟨-, ops, -, -, sub', -, calm⟩ := only
  simp only [issuable, ops, List.foldl_cons, List.foldl_nil, queued, calm, sub']
  simp

/-- The only operation there is, is chosen, whichever of reads and writes are. -/
theorem chosenOp_only {s : State} {n sub : Nat} {o : LineOp} {r : CatchReq} (only : OnlyOp s n sub o r) (queued : (o.isRead || o.isWrite) = true) :
    chosenOp s n sub [] = some o := by
  rw [chosenOp, issuable_only only queued]
  cases nextWriting s n sub <;> cases hr : o.isRead <;> cases hw : o.isWrite <;> simp [hr, hw]

/-- The channel without the operation that is taken. -/
def opTaken (n sub : Nat) (o : LineOp) (s : State) : State :=
  s.modChan n (fun c => { c with
    ops := c.ops.erase o
    writing := if nextWriting s n sub then c.writing ||| (1#2 <<< sub) else c.writing &&& ~~~(1#2 <<< sub) })

theorem exec_lineAccessIssue {s : State} {n sub : Nat} {o : LineOp} {r : CatchReq} (only : OnlyOp s n sub o r)
    (queued : (o.isRead || o.isWrite) = true) (errs : LineErrs) :
    exec (.lineAccessIssue n sub [] errs [] false) s = .next (performOp n o errs [] (opTaken n sub o s)) := by
  show execLineAccessIssue n sub [] errs [] false s = _
  rw [execLineAccessIssue, chosenOp_only only queued]
  exact event_of only.1 _ _

theorem opTaken_onlyCatch (n sub : Nat) (o : LineOp) (s : State) : OnlyCatch s (opTaken n sub o s) := .modChan ..

theorem opTaken_readLine (n sub : Nat) (o : LineOp) (s : State) (line : Nat) : readLine (opTaken n sub o s) line = readLine s line :=
  readLine_congr (opTaken_onlyCatch n sub o s).dram line

theorem opTaken_chan {s : State} {n sub : Nat} {o : LineOp} {r : CatchReq} (only : OnlyOp s n sub o r) :
    ((opTaken n sub o s).chan n).ops = [] ∧ ((opTaken n sub o s).chan n).reqs = [r] ∧ ((opTaken n sub o s).chan n).ue = (s.chan n).ue ∧
      ((opTaken n sub o s).chan n).foldLines = (s.chan n).foldLines := by
  obtain ⟨-, ops, reqs, -⟩ := only
  rw [opTaken, State.modChan_same]
  simp [ops, reqs]

/-! ### What an operation counts and tells (R423, R424, R437) -/

/-- What the reads of a line leave: only channel `n` and the log change; its queues stay, and so does the count of fold entries. -/
structure Counted (n : Nat) (s t : State) : Prop where
  machine : t = { s with catch' := t.catch', chill := t.chill }
  evac : t.catch'.evac = s.catch'.evac
  others : ∀ m, m ≠ n → t.chan m = s.chan m
  ops : (t.chan n).ops = (s.chan n).ops
  reqs : (t.chan n).reqs = (s.chan n).reqs
  foldLines : (t.chan n).foldLines = (s.chan n).foldLines

theorem Counted.refl (n : Nat) (s : State) : Counted n s s := ⟨rfl, rfl, fun _ _ => rfl, rfl, rfl, rfl⟩

theorem Counted.modChan {n : Nat} {s u : State} (counted : Counted n s u) {g : Channel → Channel} (ops : ∀ c, (g c).ops = c.ops)
    (reqs : ∀ c, (g c).reqs = c.reqs) (lines : ∀ c, (g c).foldLines = c.foldLines) : Counted n s (u.modChan n g) where
  machine := congrArg (fun t : State => { t with catch' := (u.modChan n g).catch' }) counted.machine
  evac := counted.evac
  others := fun m other => (u.modChan_ne g other).trans (counted.others m other)
  ops := by rw [State.modChan_same, ops, counted.ops]
  reqs := by rw [State.modChan_same, reqs, counted.reqs]
  foldLines := by rw [State.modChan_same, lines, counted.foldLines]

theorem countErrs_clean (n : Nat) (o : LineOp) (ws : List NWord) (s : State) :
    countErrs n o ws [] s = s.modChan n (fun c => { c with poisonReads := c.poisonReads + BitVec.ofNat 32 (ws.filter (·.p)).length }) := rfl

theorem countErrs_onlyCatch (n : Nat) (o : LineOp) (ws : List NWord) (s : State) : OnlyCatch s (countErrs n o ws [] s) := .modChan ..

theorem countErrs_counted (n : Nat) (o : LineOp) (ws : List NWord) (s : State) : Counted n s (countErrs n o ws [] s) := by
  rw [countErrs_clean]
  exact (Counted.refl n s).modChan (fun _ => rfl) (fun _ => rfl) fun _ => rfl

/-- A line that is done: of the only request, which waits for it. -/
theorem lineDone_only {s : State} {n : Nat} {ids : List Nat} {r : CatchReq} (reqs : (s.chan n).reqs = [r]) (ids' : ids = [r.id]) (g : CatchReq → CatchReq) :
    ((lineDone n ids g s).chan n).reqs = [{ g r with left := r.left - 1 }] := by
  rw [lineDone, State.modChan_same]
  simp [reqs, ids']

theorem lineDone_onlyCatch (n : Nat) (ids : List Nat) (g : CatchReq → CatchReq) (s : State) : OnlyCatch s (lineDone n ids g s) := .modChan ..

theorem lineDone_ne {s : State} {n m : Nat} (ids : List Nat) (g : CatchReq → CatchReq) (other : m ≠ n) : (lineDone n ids g s).chan m = s.chan m :=
  s.modChan_ne _ other

theorem lineDone_chill (n : Nat) (ids : List Nat) (g : CatchReq → CatchReq) (s : State) : (lineDone n ids g s).chill = s.chill := rfl
theorem lineDone_dram (n : Nat) (ids : List Nat) (g : CatchReq → CatchReq) (s : State) : (lineDone n ids g s).dram = s.dram := rfl
theorem lineDone_dramWord (n : Nat) (ids : List Nat) (g : CatchReq → CatchReq) (s : State) (j : Nat) : (lineDone n ids g s).dramWord j = s.dramWord j := rfl

end Sys2Proof.Machine
end

section
/-! Proofs of 09_catch_memory.md (R421-R425, R433-R443): what LINE_ACCESS_ISSUE reads and writes, and the answers that leave. -/

namespace Sys2Proof.Machine

/-! ### Reads -/

/-- A read that corrects no word queues no write-back. -/
theorem queueScrub_uncorrected (n : Nat) (o : LineOp) (ws : List NWord) (errs : LineErrs) (none : errs.any (fun e => e.2.isSome) = false) (s : State) :
    queueScrub n o ws errs s = s := by simp [queueScrub, none]

/-- The words of a run that go to a request. -/
theorem deliverWords_run (a m : Nat) (seen : List NWord) (r : CatchReq) : ∃ ws,
    deliverWords ((List.range m).map (fun p => (p, a + p))) seen r = { r with words := ws } ∧
    ∀ p, p < m → Tab.get none ws p = some (seen.getD (a + p) { d := 0, p := true }) := by
  refine ⟨_, rfl, fun p lt => ?_⟩
  have run := Tab.get_setRun none (fun p => some (seen.getD (a + p) { d := 0, p := true })) 0 p r.words m
  simp only [Nat.zero_add, Nat.zero_le, true_and, if_pos lt, Nat.sub_zero] at run
  rw [List.foldl_map]
  exact run

theorem lineRead_delivers (s : State) (n sub a m : Nat) (o : LineOp) (r : CatchReq) (only : OnlyOp s n sub o r)
    (kind : o.kind = .read ((List.range m).map (fun p => (p, a + p)))) (fits : a + m ≤ 16) : Answers (.lineAccessIssue n sub [] [] [] false) s (fun t =>
      (∃ ws, (t.chan n).reqs = [{ r with left := r.left - 1, words := ws }] ∧ ∀ p, p < m → Tab.get none ws p = some (s.dramWord (16 * o.line + a + p))) ∧
      (t.chan n).ops = [] ∧ t.dram = s.dram ∧ (∀ j, j ≠ n → t.chan j = s.chan j) ∧ t = { s with catch' := t.catch' }) := by
  have run := exec_lineAccessIssue only (by simp [LineOp.isRead, kind]) []
  obtain ⟨ops, reqs, -⟩ := opTaken_chan only
  rw [performOp, kind, opTaken_readLine] at run
  simp only [queueScrub_uncorrected n o _ [] rfl, checkedWords_clean] at run
  obtain ⟨ws, delivered, words⟩ := deliverWords_run a m (readLine s o.line) r
  have counted := countErrs_counted n o (readLine s o.line) (opTaken n sub o s)
  have only' := ((opTaken_onlyCatch n sub o s).trans (countErrs_onlyCatch n o (readLine s o.line) _)).trans (lineDone_onlyCatch n o.reqs
    (deliverWords ((List.range m).map (fun p => (p, a + p))) (readLine s o.line)) _)
  refine ⟨_, run, ⟨ws, ?_, fun p lt => ?_⟩, ?_, only'.dram, fun j other => ?_, only'.machine⟩
  · rw [lineDone_only (counted.reqs.trans reqs) only.2.2.2.1, delivered]
  · rw [words p lt, List.getD_eq_getElem?_getD, readLine_getElem?, if_pos (by omega), Nat.add_assoc, Option.getD_some]
  · rw [lineDone, State.modChan_same]
    exact counted.ops.trans ops
  · rw [lineDone_ne _ _ other, counted.others j other, opTaken, State.modChan_ne _ _ other]

/-- A word that fails its check is counted and logged (R424). -/
theorem countErrs_uncorrectable {n : Nat} {o : LineOp} {ws : List NWord} {k : Nat} (clean : (ws.getD k { d := 0, p := false }).p = false) (s : State) :
    countErrs n o ws [(k, none)] s = ((reportChan 0x3701 n (o.addr + 4 * k) s).modChan n (fun c => { c with ue := c.ue + 1 })).modChan n (fun c =>
      { c with poisonReads := c.poisonReads + BitVec.ofNat 32 (ws.filter (·.p)).length }) := by
  rw [countErrs, logErrs, List.foldl_cons, List.foldl_nil, clean]
  rfl

theorem lineRead_poisons (s : State) (n sub a m : Nat) (o : LineOp) (r : CatchReq) (only : OnlyOp s n sub o r)
    (kind : o.kind = .read ((List.range m).map (fun p => (p, a + p)))) (fits : a + m ≤ 16) (k : Nat) (from' : a ≤ k) (before : k < a + m)
    (clean : (s.dramWord (16 * o.line + k)).p = false) : Answers (.lineAccessIssue n sub [] [(k, none)] [] false) s (fun t =>
      (∃ ws, (t.chan n).reqs = [{ r with left := r.left - 1, words := ws }] ∧
        Tab.get none ws (k - a) = some { d := (s.dramWord (16 * o.line + k)).d, p := true }) ∧
      (t.chan n).ue = (s.chan n).ue + 1 ∧ Reports s t 0x3701 10 n ∧ t.dram = s.dram) := by
  have run := exec_lineAccessIssue only (by simp [LineOp.isRead, kind]) [(k, none)]
  obtain ⟨ops, reqs, ue, -⟩ := opTaken_chan only
  have stored : (readLine s o.line)[k]? = some (s.dramWord (16 * o.line + k)) := by rw [readLine_getElem?, if_pos (by omega)]
  have clean' : ((readLine s o.line).getD k { d := 0, p := false }).p = false := by rw [List.getD_eq_getElem?_getD, stored]; exact clean
  rw [performOp, kind, opTaken_readLine] at run
  simp only [queueScrub_uncorrected n o _ [(k, none)] rfl, countErrs_uncorrectable (n := n) (o := o) clean'] at run
  obtain ⟨ws, delivered, words⟩ := deliverWords_run a m (checkedWords (readLine s o.line) [(k, none)]) r
  refine ⟨_, run, ⟨ws, ?_, ?_⟩, ?_, ?_, ?_⟩
  · rw [lineDone_only (r := r) ?_ only.2.2.2.1, delivered]
    rw [State.modChan_same, State.modChan_same, reportChan_chan]
    exact reqs
  · rw [words (k - a) (by omega), show a + (k - a) = k by omega, List.getD_eq_getElem?_getD, checkedWords_getElem?, stored]
    simp
  · rw [lineDone, State.modChan_same, State.modChan_same, State.modChan_same, reportChan_chan]
    exact congrArg (· + 1) ue
  · refine ((reports_reportChan 0x3701 n (o.addr + 4 * k) (opTaken n sub o s)).of_chill rfl).to_chill ?_
    rw [lineDone_chill, State.modChan_chill, State.modChan_chill]
  · rw [lineDone_dram, State.modChan_dram, State.modChan_dram]
    exact reportAt_dram ..

/-! ### Writes -/

/-- Of a line and a request that it completes, after a write of the line. -/
structure LineWritten (s t : State) (n line : Nat) (g : Nat → NWord) (r : CatchReq) : Prop where
  words : ∀ k, k < 16 → t.dramWord (16 * line + k) = g k
  outside : ∀ j, (j < 16 * line ∨ 16 * line + 16 ≤ j) → t.dramWord j = s.dramWord j
  ops : (t.chan n).ops = []
  reqs : (t.chan n).reqs = [{ r with left := r.left - 1 }]
  others : ∀ j, j ≠ n → t.chan j = s.chan j
  foldLines : (t.chan n).foldLines = (s.chan n).foldLines

/-- The words of a line, each from what it held, are written outside the evacuation's switch, and the request has its line. -/
theorem lineWritten {s u : State} {n sub : Nat} {o : LineOp} {r : CatchReq} (only : OnlyOp s n sub o r) (unswitched : s.catch'.evac ≠ .switch)
    (counted : Counted n (opTaken n sub o s) u) (g : NWord × Nat → NWord) :
    LineWritten s (lineDone n o.reqs id (writeBoth o.addr o.line ((readLine s o.line).zipIdx.map g) u)) n o.line
      (fun k => g (s.dramWord (16 * o.line + k), k)) r := by
  obtain ⟨ops, reqs, -, lines⟩ := opTaken_chan only
  have evac : u.catch'.evac ≠ .switch := by rw [counted.evac]; exact unswitched
  have words (j : Nat) : u.dramWord j = s.dramWord j := by rw [counted.machine]; rfl
  rw [writeBoth_unswitched evac, readLine_zipIdx]
  have word := writeLine_word o.line (fun k => g (s.dramWord (16 * o.line + k), k)) u
  obtain ⟨d, written⟩ := writeLine_changes o.line ((List.range 16).map fun k => g (s.dramWord (16 * o.line + k), k)) u
  have chan (j : Nat) : (writeLine o.line ((List.range 16).map fun k => g (s.dramWord (16 * o.line + k), k)) u).chan j = u.chan j := by
    rw [written]; rfl
  refine ⟨fun k lt => ?_, fun j out => ?_, ?_, ?_, fun j other => ?_, ?_⟩
  · rw [lineDone_dramWord, word, if_pos (by omega), Nat.add_sub_cancel_left]
  · rw [lineDone_dramWord, word, if_neg (by omega), words]
  · rw [lineDone, State.modChan_same, chan]
    exact counted.ops.trans ops
  · refine lineDone_only ?_ only.2.2.2.1 id
    rw [chan]
    exact counted.reqs.trans reqs
  · rw [lineDone_ne _ _ other, chan, counted.others j other, opTaken, State.modChan_ne _ _ other]
  · rw [lineDone, State.modChan_same, chan]
    exact counted.foldLines.trans lines

theorem lineWrite_merges (s : State) (n sub : Nat) (o : LineOp) (r : CatchReq) (tab : Tab (BitVec 4 × NWord)) (only : OnlyOp s n sub o r)
    (kind : o.kind = .write tab) (unswitched : s.catch'.evac ≠ .switch) : Answers (.lineAccessIssue n sub [] [] [] false) s (fun t =>
      LineWritten s t n o.line (fun k => mergedWord (s.dramWord (16 * o.line + k)) (Tab.get (0, { d := 0, p := false }) tab k)) r) := by
  have run := exec_lineAccessIssue only (by simp [LineOp.isWrite, kind]) []
  rw [performOp, kind, opTaken_readLine] at run
  simp only [checkedWords_clean, ite_self] at run
  refine ⟨_, run, lineWritten only unswitched ?_ fun e => mergedWord e.1 (Tab.get (0, { d := 0, p := false }) tab e.2)⟩
  split
  · exact .refl ..
  · exact (countErrs_counted ..).modChan (fun _ => rfl) (fun _ => rfl) fun _ => rfl

/-- A word of a fold: the operand's result on a word without poison, poison otherwise (R438, R439). -/
def foldedWord (code : Nat) (old : NWord) (v : Option NWord) : NWord :=
  match v with
  | some v => if old.p || v.p then { old with p := true } else { d := foldResult code old.d v.d, p := false }
  | none => old

theorem lineFold_folds (s : State) (n sub code : Nat) (o : LineOp) (r : CatchReq) (tab : Tab (Option NWord)) (only : OnlyOp s n sub o r)
    (kind : o.kind = .fold code tab true) (unswitched : s.catch'.evac ≠ .switch) : ∃ u, exec (.lineAccessIssue n sub [] [] [] false) s =
        .next (u.modChan n (fun c => { c with foldLines := c.foldLines + 1 })) ∧
      LineWritten s u n o.line (fun k => foldedWord code (s.dramWord (16 * o.line + k)) (Tab.get none tab k)) r := by
  have run := exec_lineAccessIssue only (by simp [LineOp.isWrite, kind]) []
  rw [performOp, kind, opTaken_readLine] at run
  simp only [checkedWords_clean, List.filter_nil, List.foldl_nil, List.contains_nil, Bool.or_false] at run
  exact ⟨_, run, lineWritten only unswitched (countErrs_counted ..) fun e => foldedWord code e.1 (Tab.get none tab e.2)⟩

/-- The result of each fold on a word (R438). -/
theorem foldResult_spec (code : Nat) (w op : Word) :
    (code = 1 → foldResult code w op = w ||| op) ∧ (code = 2 → foldResult code w op = w &&& ~~~op) ∧
    (code = 4 → (foldResult code w op).toNat = max w.toNat op.toNat) ∧
    (code = 3 → ∀ h, h < 2 → (foldResult code w op).toNat / 2 ^ (16 * h) % 65536 =
      min (w.toNat / 2 ^ (16 * h) % 65536 + op.toNat / 2 ^ (16 * h) % 65536) 65535) ∧
    (code = 5 → ∀ b, b < 4 → byteAt (foldResult code w op) b = min (byteAt w b + byteAt op b) 255) := by
  refine ⟨fun is => by subst is; rfl, fun is => by subst is; rfl, fun is => ?_, fun is h lt => ?_, fun is b lt => ?_⟩
  · subst is
    rw [show foldResult 4 w op = if w.ult op then op else w from rfl, BitVec.ult]
    by_cases less : w.toNat < op.toNat
    · rw [if_pos (decide_eq_true less), Nat.max_eq_right (Nat.le_of_lt less)]
    · rw [if_neg (by simpa using less), Nat.max_eq_left (Nat.le_of_not_lt less)]
  · subst is
    exact half_mapHalves (fun x y => Nat.lt_of_le_of_lt (Nat.min_le_right _ _) (by decide)) w op lt
  · subst is
    exact byteAt_mapBytes (fun x y => Nat.lt_of_le_of_lt (Nat.min_le_right _ _) (by decide)) w op lt

/-! ### Answers (R437, R439) -/

/-- The only request, with its lines done, is answered and leaves. -/
theorem answerReq_leaves {s : State} {n : Nat} {r : CatchReq} (reqs : (s.chan n).reqs = [r]) (b : Body) :
    (∃ f, (answerReq n r b s).net.wire = s.net.wire ++ [f] ∧ f.pkt.dest = r.pkt.src ∧ f.pkt.src = 96 + n ∧ f.pkt.tag = r.pkt.tag ∧ f.pkt.body = b) ∧
    ((answerReq n r b s).chan n).reqs = [] ∧
    answerReq n r b s = { s with catch' := (answerReq n r b s).catch', net := (answerReq n r b s).net } := by
  refine ⟨⟨_, rfl, rfl, rfl, rfl, rfl⟩, ?_, rfl⟩
  show ((s.modChan n _).chan n).reqs = []
  rw [State.modChan_same]
  simp [reqs]

theorem rdataSend_answers (s : State) (n a count : Nat) (r : CatchReq) (serves : s.chanServes n = true) (reqs : (s.chan n).reqs = [r])
    (done : r.left = 0) (body : r.pkt.body = .rd a count) : Answers (.rdataSend n) s (fun t =>
      (∃ f, t.net.wire = s.net.wire ++ [f] ∧ f.pkt.dest = r.pkt.src ∧ f.pkt.src = 96 + n ∧ f.pkt.tag = r.pkt.tag ∧
        f.pkt.body = .rdata .ok ((List.range count).map (fun p => (Tab.get none r.words p).getD { d := 0, p := true }))) ∧
      (t.chan n).reqs = [] ∧ t = { s with catch' := t.catch', net := t.net }) := by
  have words : rdWords r = (List.range count).map (fun p => (Tab.get none r.words p).getD { d := 0, p := true }) := by rw [rdWords, body]
  have first : answerable CatchReq.isRd (s.chan n).reqs [] = some r := by simp [reqs, answerable, done, CatchReq.isRd, body]
  refine ⟨answerReq n r (.rdata .ok (rdWords r)) s, ?_, words ▸ answerReq_leaves reqs _⟩
  show execRdataSend n s = _
  rw [execRdataSend, first]
  exact event_of serves _ _

theorem wackSend_answers (s : State) (n : Nat) (r : CatchReq) (serves : s.chanServes n = true) (reqs : (s.chan n).reqs = [r])
    (done : r.left = 0) (write : r.isRd = false) : Answers (.wackSend n) s (fun t =>
      (∃ f, t.net.wire = s.net.wire ++ [f] ∧ f.pkt.dest = r.pkt.src ∧ f.pkt.src = 96 + n ∧ f.pkt.tag = r.pkt.tag ∧ f.pkt.body = .wack .ok r.rejected) ∧
      (t.chan n).reqs = [] ∧ t = { s with catch' := t.catch', net := t.net }) := by
  have first : answerable (fun r => !r.isRd) (s.chan n).reqs [] = some r := by simp [reqs, answerable, done, write]
  refine ⟨answerReq n r (.wack .ok r.rejected) s, ?_, answerReq_leaves reqs _⟩
  show execWackSend n s = _
  rw [execWackSend, first]
  exact event_of serves _ _

/-! ### The statement -/

/-- Settles O32: requests as they join their channel; then the line of the only operation, read, written or folded, and the two answers. -/
theorem catchRequestsAndLineAccess : Obligations.CatchRequestsAndLineAccess := by
  refine ⟨⟨rd_joins, wr_joins, fun s n a code ws pkt body serves at' => ⟨fold_enters s n a code ws pkt body serves at',
    fold_rejected s n a code ws pkt body serves at', fold_joins s n a code ws pkt body serves at'⟩, foldEntryIssue_issues⟩,
    fun s n sub a m o r only kind fits => ⟨lineRead_delivers s n sub a m o r only kind fits, lineRead_poisons s n sub a m o r only kind fits⟩,
    fun s n sub o r tab only kind unswitched => ?_, fun s n sub code o r tab only kind _ _ unswitched => ?_, rdataSend_answers, wackSend_answers⟩
  · obtain ⟨t, run, written⟩ := lineWrite_merges s n sub o r tab only kind unswitched
    refine ⟨t, run, fun k lt => ?_, written.outside, written.ops, written.reqs, written.others⟩
    dsimp only
    rw [written.words k lt]
    exact mergedWord_bytes ..
  · obtain ⟨u, run, written⟩ := lineFold_folds s n sub code o r tab only kind unswitched
    refine ⟨_, run, fun k lt => ?_, written.outside, ?_, ?_⟩
    · dsimp only
      rw [State.modChan_dramWord, written.words k lt]
      refine ⟨fun none' => by rw [none']; rfl, fun v some' => ?_⟩
      rw [some']
      refine ⟨fun poisoned => ?_, fun clean clean' => ?_⟩
      · rw [foldedWord, if_pos (by simpa using poisoned)]
        exact ⟨rfl, rfl⟩
      · rw [foldedWord, clean, clean', if_neg (by simp)]
        exact ⟨rfl, foldResult_spec ..⟩
    · rw [State.modChan_same]
      exact congrArg (· + 1) written.foldLines
    · rw [State.modChan_same]
      exact written.reqs

end Sys2Proof.Machine
end

section
/-! Proofs of 09_catch_memory.md (R419, R444, R445, R447-R457, R472, R473): refresh, the states of a channel, and the commands and events that move it
between them. -/

namespace Sys2Proof.Machine

theorem Answered.catch' {s t : State} : Answered s t → t.catch' = s.catch' := by rintro ⟨_, _, _, _, rfl⟩; rfl
theorem Answered.dram {s t : State} : Answered s t → t.dram = s.dram := by rintro ⟨_, _, _, _, rfl⟩; rfl
theorem Answered.loader {s t : State} : Answered s t → t.loader = s.loader := by rintro ⟨_, _, _, _, rfl⟩; rfl
theorem Answered.power {s t : State} : Answered s t → t.power = s.power := by rintro ⟨_, _, _, _, rfl⟩; rfl
theorem Answered.chan {s t : State} (a : Answered s t) (n : Nat) : t.chan n = s.chan n := chan_congr a.catch' n
theorem Answered.domOn {s t : State} (a : Answered s t) (d : Nat) : t.domOn d = s.domOn d := by rw [State.domOn, State.dom, a.power]; rfl
theorem Answered.settings {s t : State} : Answered s t → t.dict.settings = s.dict.settings := by rintro ⟨_, _, _, _, rfl⟩; rfl
theorem Answered.dramWord {s t : State} (a : Answered s t) (w : Nat) : t.dramWord w = s.dramWord w := by rw [State.dramWord, State.dramWord, a.dram]
theorem Answered.port {s t : State} (a : Answered s t) (r n : Nat) : t.port r n = s.port r n := by rw [State.port, State.port, a.router]

/-! ### What the catch may touch -/

/-- Nothing but the catch controller, memory, the network and the counter of free values has changed. -/
def CatchMoves (s t : State) : Prop := ∃ c d w f, t = { s with catch' := c, dram := d, net := w, fresh := f }

namespace CatchMoves
variable {s t u : State}

theorem refl (s : State) : CatchMoves s s := ⟨_, _, _, _, rfl⟩
theorem trans : CatchMoves s t → CatchMoves t u → CatchMoves s u := by rintro ⟨_, _, _, _, rfl⟩ ⟨_, _, _, _, rfl⟩; exact ⟨_, _, _, _, rfl⟩
theorem ofCatch : OnlyCatch s t → CatchMoves s t := by rintro ⟨_, rfl⟩; exact ⟨_, _, _, _, rfl⟩
theorem ofNet (only : OnlyNet s t) : CatchMoves s t := by rw [OnlyNet] at only; rw [only]; exact ⟨_, _, _, _, rfl⟩
theorem ofMemory (s : State) (d : Tab (Option NWord)) (f : Nat) : CatchMoves s { s with dram := d, fresh := f } := ⟨_, _, _, _, rfl⟩
theorem chill : CatchMoves s t → t.chill = s.chill := by rintro ⟨_, _, _, _, rfl⟩; rfl

end CatchMoves

/-! ### Refresh (R444, R445) -/

/-- A group of the geometry of a channel that serves. -/
theorem refreshObligation_owes (s : State) (n cs cid bank : Nat) (serves : s.chanServes n = true) (cs' : cs < 2 ^ csBits (chCfg s n))
    (cid' : cid < 2 ^ cidBits (chCfg s n)) (bank' : bank < 4) (calm : refUrgent s n (cs * 16 + cid * 4 + bank) = false) :
    Answers (.refreshObligation n cs cid bank) s (fun t =>
      Tab.get 0 (t.chan n).refresh (cs * 16 + cid * 4 + bank) = Tab.get 0 (s.chan n).refresh (cs * 16 + cid * 4 + bank) + 1 ∧
      (t.chan n).refUrgent = (if refUrgent t n (cs * 16 + cid * 4 + bank) then (s.chan n).refUrgent + 1 else (s.chan n).refUrgent) ∧
      t = { s with catch' := t.catch' }) := by
  refine ⟨_, event_of (by rw [serves, calm, decide_eq_true cs', decide_eq_true cid', decide_eq_true bank']; rfl) _ _, ?_, ?_,
    (OnlyCatch.modChan s n _).machine⟩
  · rw [State.modChan_same, Tab.get_set_same]
  · rw [refUrgent, State.modChan_same, Tab.get_set_same]
    exact if_congr decide_eq_true_iff.symm rfl rfl

theorem refsbIssue_pays (s : State) (n cs cid bank : Nat) (serves : s.chanServes n = true)
    (owed : Tab.get 0 (s.chan n).refresh (cs * 16 + cid * 4 + bank) ≠ 0) (idle : (s.chan n).ops = []) : Answers (.refsbIssue n cs cid bank) s (fun t =>
      Tab.get 0 (t.chan n).refresh (cs * 16 + cid * 4 + bank) = Tab.get 0 (s.chan n).refresh (cs * 16 + cid * 4 + bank) - 1 ∧
      (t.chan n).refUrgent = (s.chan n).refUrgent ∧ t = { s with catch' := t.catch' }) := by
  refine ⟨_, event_of (by simp [serves, owed, idle]) _ _, ?_, ?_, (OnlyCatch.modChan s n _).machine⟩
  · rw [State.modChan_same, Tab.get_modify_same]
  · rw [State.modChan_same]

/-! ### ONLINE and GATHERING (R447, R449) -/

theorem OnlyNet.catch' {s t : State} (h : OnlyNet s t) : t.catch' = s.catch' := by rw [h]
theorem OnlyNet.dram {s t : State} (h : OnlyNet s t) : t.dram = s.dram := by rw [h]
theorem OnlyNet.chan {s t : State} (h : OnlyNet s t) (n : Nat) : t.chan n = s.chan n := chan_congr h.catch' n
theorem onlyNet_setPort (s : State) (r n : Nat) (p : PortSt) : OnlyNet s (s.setPort r n p) := rfl
theorem onlyNet_linkFresh (node : Nat) (s : State) : OnlyNet s (linkFresh node s) := rfl

/-- A link that begins afresh loses the packets on it and takes its credits back: the routers stand as they did (R404). -/
theorem linkFresh_port (node : Nat) (s : State) (r n : Nat) : (linkFresh node s).port r n = s.port r n := by
  obtain ⟨c, dropped⟩ := dropAll_changes (s.net.wire.filter (fun f => (flightStores f).any (fun e =>
    ([0, 1].flatMap (fun vc => [linkKey 13 node vc, linkKey (entryRouter node) (nodeInput node) vc])).contains e.1 ||
      ([0, 1].flatMap (fun vc => [linkKey 13 node vc, linkKey (entryRouter node) (nodeInput node) vc])).any (fun k => e.1 = bridgeKey k)))) s.net
  rw [linkFresh, dropped]
  rfl

/-- The injection program that a channel runs as it comes ONLINE changes that channel and takes free values. -/
theorem runProgram_changes (n : Nat) (s : State) : ∃ f g, runProgram n s = ({ s with fresh := f } : State).modChan n g := ⟨_, _, rfl⟩

/-- A channel that comes ONLINE (R447): nothing else of the controller changes, nor does memory. -/
structure CameOnline (n : Nat) (s t : State) : Prop where
  moves : CatchMoves s t
  st : (t.chan n).st = .online
  waiting : (t.chan n).waiting = .none
  refresh : (t.chan n).refresh = []
  held : (t.chan n).held = false
  others : ∀ m, m ≠ n → t.chan m = s.chan m
  port : t.port 10 (2 + n) = .opening
  dram : t.dram = s.dram

/-- A channel that stands ONLINE, before its port opens. -/
abbrev chanServing (n : Nat) (s : State) : State := s.modChan n (fun c => { c with st := .online, waiting := .none, refresh := [], held := false })

theorem chanOnline_enters (n : Nat) (s : State) : CameOnline n s (chanOnline n s) := by
  obtain ⟨f, g, ran⟩ := runProgram_changes n s
  have opens : chanOnline n s = linkFresh (96 + n) ((chanServing n (({ s with fresh := f } : State).modChan n g)).setPort 10 (2 + n) .opening) := by
    rw [chanOnline, ran]
  have network : OnlyNet (chanServing n (({ s with fresh := f } : State).modChan n g)) (chanOnline n s) := by
    rw [opens]
    exact (onlyNet_setPort ..).trans (onlyNet_linkFresh ..)
  have here : (chanOnline n s).chan n = _ := (network.chan n).trans (State.modChan_same ..)
  exact {
    moves := ((CatchMoves.ofMemory s s.dram f).trans (.ofCatch ((OnlyCatch.modChan ..).trans (OnlyCatch.modChan ..)))).trans (.ofNet network)
    st := congrArg Channel.st here
    waiting := congrArg Channel.waiting here
    refresh := congrArg Channel.refresh here
    held := congrArg Channel.held here
    others := fun m other => (network.chan m).trans ((State.modChan_ne _ _ other).trans (State.modChan_ne _ _ other))
    port := by rw [opens, linkFresh_port, State.setPort_port_same]
    dram := network.dram }

theorem chanGather_chan (n : Nat) (s : State) :
    (chanGather n s).chan n = { s.chan n with st := .gathering, waiting := .none, staged := (s.chan n).live } := State.modChan_same ..

/-- Entries of a table that are kept by their keys. -/
theorem Tab.get_filter {α : Type} (d : α) {p : Nat × α → Bool} {k : Nat} (kept : ∀ v, p (k, v) = true) : ∀ t : Tab α,
    Tab.get d (t.filter p) k = Tab.get d t k
  | [] => rfl
  | (j, v) :: t => by
    rw [List.filter_cons]
    rcases eq_or_ne k j with rfl | other
    · rw [if_pos (kept v)]
      simp [Tab.get]
    · have rest : Tab.get d ((j, v) :: t) k = Tab.get d t k := if_neg other
      split
      · exact (if_neg other).trans ((Tab.get_filter d kept t).trans rest.symm)
      · exact (Tab.get_filter d kept t).trans rest.symm

/-- A word of memory is what stands under its number. -/
theorem dramWord_of_get {s t : State} {w : Nat} (same : Tab.get none t.dram w = Tab.get none s.dram w) : t.dramWord w = s.dramWord w := by
  rw [State.dramWord, State.dramWord, same]

/-- The words of other channels outlast a channel's gathering (R449). -/
theorem chanGather_dramWord (n : Nat) (s : State) {w : Nat} (elsewhere : w / 2 ^ 37 ≠ n) : (chanGather n s).dramWord w = s.dramWord w :=
  dramWord_of_get (Tab.get_filter none (p := fun e : Nat × Option NWord => decide (e.1 / 2 ^ 37 ≠ n)) (fun _ => decide_eq_true elsewhere) s.dram)

/-! ### The PHY PLL (R419) and its loss (R473) -/

/-- The channel with its PHY locked. -/
abbrev phyLocked (n : Nat) (s : State) : State := s.modChan n (fun c => { c with locked := true })

theorem phyLocked_waiting (n : Nat) (s : State) : ((phyLocked n s).chan n).waiting = (s.chan n).waiting := by rw [State.modChan_same]

/-- What a channel waited for goes on. -/
def phyProceeds (n : Nat) (s : State) : State :=
  match (s.chan n).waiting with
  | .online => chanOnline n s
  | .gather => chanGather n s
  | .none => s

theorem exec_phyPllLock {s : State} {n : Nat} (channel : n < 8) (power : s.domOn (78 + n) = true) :
    exec (.phyPllLock n) s = .next (phyProceeds n (phyLocked n s)) := event_of (by rw [power, decide_eq_true channel]; rfl) _ _

theorem phyPllLock_locks (s : State) (n : Nat) (channel : n < 8) (power : s.domOn (78 + n) = true) (waits : (s.chan n).waiting = .none) :
    Answers (.phyPllLock n) s (fun t => t.chan n = { s.chan n with locked := true } ∧ t = { s with catch' := t.catch' }) :=
  ⟨_, by rw [exec_phyPllLock channel power, phyProceeds, phyLocked_waiting, waits], State.modChan_same .., (OnlyCatch.modChan ..).machine⟩

theorem phyPllLock_online (s : State) (n : Nat) (channel : n < 8) (power : s.domOn (78 + n) = true) (waits : (s.chan n).waiting = .online) :
    Answers (.phyPllLock n) s (fun t =>
      (t.chan n).st = .online ∧ (t.chan n).waiting = .none ∧ (t.chan n).refresh = [] ∧ t.port 10 (2 + n) = .opening ∧ t.dram = s.dram) := by
  have online := chanOnline_enters n (phyLocked n s)
  exact ⟨_, by rw [exec_phyPllLock channel power, phyProceeds, phyLocked_waiting, waits], online.st, online.waiting, online.refresh, online.port, online.dram⟩

theorem phyPllLock_gathers (s : State) (n : Nat) (channel : n < 8) (power : s.domOn (78 + n) = true) (waits : (s.chan n).waiting = .gather) :
    Answers (.phyPllLock n) s (fun t => (t.chan n).st = .gathering ∧ (t.chan n).staged = (s.chan n).live) := by
  refine ⟨_, by rw [exec_phyPllLock channel power, phyProceeds, phyLocked_waiting, waits], ?_, ?_⟩
  · rw [chanGather_chan]
  · rw [chanGather_chan, State.modChan_same]

end Sys2Proof.Machine
end

section
/-! Proofs of 09_catch_memory.md (R447, R462, R463, R472, R473, R795): the early end of a zeroing and of an evacuation, and the fault of a channel. -/

namespace Sys2Proof.Machine

/-! ### Zeroing and evacuation leave the channels (R462, R795) -/

/-- Memory, the counter of free values and what the controller says of the zeroing and the evacuation may have changed: no channel has. -/
def MemoryMoves (s t : State) : Prop := ∃ c d f, t = { s with catch' := c, dram := d, fresh := f } ∧ c.chans = s.catch'.chans

namespace MemoryMoves
variable {s t u : State}

theorem refl (s : State) : MemoryMoves s s := ⟨_, _, _, rfl, rfl⟩
theorem trans : MemoryMoves s t → MemoryMoves t u → MemoryMoves s u := by
  rintro ⟨_, _, _, rfl, same⟩ ⟨_, _, _, rfl, same'⟩
  exact ⟨_, _, _, rfl, same'.trans same⟩
theorem ofMemory {d : Tab (Option NWord)} {f : Nat} (h : t = { s with dram := d, fresh := f }) : MemoryMoves s t := ⟨_, _, _, h, rfl⟩
theorem modCatch (s : State) (g : CatchState → CatchState) (same : (g s.catch').chans = s.catch'.chans) : MemoryMoves s (s.modCatch g) :=
  ⟨_, _, _, rfl, same⟩
theorem chan : MemoryMoves s t → ∀ n, t.chan n = s.chan n := by
  rintro ⟨c, _, _, rfl, same⟩ n
  exact congrArg (fun t => Tab.get Channel.reset t n) same
theorem moves : MemoryMoves s t → CatchMoves s t := by rintro ⟨_, _, _, rfl, _⟩; exact ⟨_, _, _, _, rfl⟩
theorem dict : MemoryMoves s t → t.dict = s.dict := by rintro ⟨_, _, _, rfl, _⟩; rfl
theorem net : MemoryMoves s t → t.net = s.net := by rintro ⟨_, _, _, rfl, _⟩; rfl

end MemoryMoves

theorem writeBoth_changes (addr line : Nat) (ws : List NWord) (s : State) : ∃ d, writeBoth addr line ws s = { s with dram := d } := by
  obtain ⟨d, written⟩ := writeLine_changes line ws s
  rw [writeBoth, written]
  split
  · obtain ⟨d', copied⟩ := writeLine_changes (evacLine s addr) ws { s with dram := d }
    exact ⟨d', copied⟩
  · exact ⟨d, rfl⟩

theorem zeroWalk_changes : ∀ (as : List Nat) (left : Tab Nat) (s : State), ∃ d, (zeroWalk as left s).2 = { s with dram := d }
  | [], _, s => ⟨s.dram, rfl⟩
  | a :: as, left, s => by
    rw [zeroWalk]
    dsimp only
    split
    · exact zeroWalk_changes as left s
    · obtain ⟨d, written⟩ := writeBoth_changes a (lineOf s a) zeroLine s
      obtain ⟨d', rest⟩ := zeroWalk_changes as (Tab.set 0 left (lineOf s a / 2 ^ 33) (Tab.get 0 left (lineOf s a / 2 ^ 33) - 1)) { s with dram := d }
      rw [written]
      exact ⟨d', rest⟩

theorem drawCounts_changes (bound : Nat) : ∀ (n : Nat) (s : State), ∃ f, (drawCounts bound n s).2 = { s with fresh := f }
  | 0, s => ⟨s.fresh, rfl⟩
  | n + 1, s => by
    obtain ⟨f, drawn⟩ := drawCounts_changes bound n s
    exact ⟨f + 1, by rw [drawCounts]; dsimp only; rw [drawn]; rfl⟩

/-- What a zeroing leaves of its lines once it ends early. -/
theorem zeroEnds_busy {s : State} (cancelled : Bool) (busy : s.catch'.zeroBusy = true) : ∃ u n, MemoryMoves s u ∧ zeroEnds cancelled s =
    u.modCatch (fun c => { c with zeroBusy := false, zeroCancelled := cancelled, zeroInterrupted := !cancelled, zeroLines := n }) := by
  obtain ⟨f, drawn⟩ := drawCounts_changes (zeroLinesOf s).length 8 s
  obtain ⟨d, walked⟩ := zeroWalk_changes (zeroLinesOf s) (drawCounts (zeroLinesOf s).length 8 s).1 { s with fresh := f }
  refine ⟨_, (zeroWalk (zeroLinesOf s) (drawCounts (zeroLinesOf s).length 8 s).1 { s with fresh := f }).1, .ofMemory walked, ?_⟩
  rw [zeroEnds, busy, if_neg (by decide)]
  dsimp only
  rw [drawn]

theorem zeroEnds_moves (cancelled : Bool) (s : State) : MemoryMoves s (zeroEnds cancelled s) := by
  cases busy : s.catch'.zeroBusy with
  | false => rw [zeroEnds, busy]; exact .refl s
  | true =>
    obtain ⟨u, n, moves, ends⟩ := zeroEnds_busy cancelled busy
    rw [ends]
    exact moves.trans (.modCatch u _ rfl)

theorem evacAbort_moves (result : Nat) (s : State) : MemoryMoves s (evacAbort result s) := by
  unfold evacAbort
  split
  · exact .refl s
  · exact ⟨_, _, _, rfl, rfl⟩

theorem chanLeaves_moves (n : Nat) (s : State) : MemoryMoves s (chanLeaves n s) := by
  have interrupted : MemoryMoves s (if zeroUses s n then zeroEnds false s else s) := by
    split
    · exact zeroEnds_moves false s
    · exact .refl s
  unfold chanLeaves
  dsimp only
  generalize (if zeroUses s n then zeroEnds false s else s) = u at interrupted
  split
  · exact interrupted.trans (evacAbort_moves 2 _)
  · exact interrupted

/-! ### The stop of a channel (R447, R473) -/

theorem onlyNet_routerAnswers (r inp : Nat) (st : NetStatus) (p : Packet) (s : State) : OnlyNet s (routerAnswers r inp st p s) := rfl

theorem onlyNet_answerPending (r n node : Nat) (s : State) : OnlyNet s (answerPending r n node s) :=
  (onlyNet_foldl onlyNet_dropFlight _ s).trans (onlyNet_foldl (fun _ _ => onlyNet_routerAnswers ..) _ _)

theorem onlyNet_answer (src dest oclass tag : Nat) (b : Body) (s : State) : OnlyNet s (s.answer src dest oclass tag b) := rfl

theorem answerOffline_moves (n : Nat) (s : State) : CatchMoves s (answerOffline n s) ∧
    (answerOffline n s).chan n = { s.chan n with reqs := [], ops := [] } := by
  have answered := onlyNet_foldl (step := fun s r => s.answer (96 + n) r.pkt.src r.pkt.oclass r.pkt.tag
    (if r.left = 0 then (if r.isRd then .rdata .ok (rdWords r) else .wack .ok r.rejected)
      else if r.isRd then .rdata .offline [] else .wack .offline false)) (fun _ _ => onlyNet_answer ..) (s.chan n).reqs s
  refine ⟨(CatchMoves.ofNet answered).trans (.ofCatch (OnlyCatch.modChan ..)), (State.modChan_same ..).trans ?_⟩
  rw [answered.chan]

/-- A channel off line by a fault: of the machine no more has changed than a stop may. -/
structure FaultStops (n : Nat) (s t : State) : Prop where
  moves : CatchMoves s t
  st : (t.chan n).st = .offline
  fault : (t.chan n).fault = true
  locked : (t.chan n).locked = (s.chan n).locked

theorem chanStop_stops (n : Nat) (s : State) : FaultStops n s (chanStop n s) := by
  have aborted : MemoryMoves s (if evacUses s n then evacAbort 3 s else s) := by
    split
    · exact evacAbort_moves 3 s
    · exact .refl s
  have left := aborted.trans (chanLeaves_moves n _)
  unfold chanStop
  dsimp only
  generalize chanLeaves n _ = u at left
  split
  · exact ⟨left.moves.trans (.ofCatch (OnlyCatch.modChan ..)), by rw [State.modChan_same], by rw [State.modChan_same], by rw [State.modChan_same, left.chan]⟩
  · obtain ⟨offline, requests⟩ := answerOffline_moves n u
    have pending := onlyNet_answerPending 10 (2 + n) (96 + n) (answerOffline n u)
    have stops := onlyNet_setPort ((answerPending 10 (2 + n) (96 + n) (answerOffline n u)).modChan n
      (fun c => { c with st := .offline, fault := true, refresh := [], waiting := .none })) 10 (2 + n) .closed
    have here := (stops.chan n).trans (State.modChan_same ..)
    rw [pending.chan, requests, left.chan] at here
    exact ⟨(left.moves.trans (offline.trans (.ofNet pending))).trans ((CatchMoves.ofCatch (OnlyCatch.modChan ..)).trans (.ofNet stops)),
      by rw [here], by rw [here], by rw [here]⟩

theorem phyClockLoss_stops (s : State) (n : Nat) (channel : n < 8) (power : s.domOn (78 + n) = true) : Answers (.phyClockLoss n) s (fun t =>
    (t.chan n).st = .offline ∧ (t.chan n).fault = true ∧ (t.chan n).locked = false ∧ Reports s t 0x4701 10 n) := by
  have stopped := chanStop_stops n (reportChan 0x4701 n 0 (s.modChan n (fun c => { c with locked := false })))
  refine ⟨_, event_of (by rw [power, decide_eq_true channel]; rfl) _ _, stopped.st, stopped.fault, ?_, ?_⟩
  · rw [chanFatal, stopped.locked, reportChan_chan, State.modChan_same]
  · exact ((reports_reportChan 0x4701 n 0 _).of_chill (State.modChan_chill ..)).mono (reportsOf_congr stopped.moves.chill 0x4701 10 n).ge

end Sys2Proof.Machine
end

section
/-! Proofs of 09_catch_memory.md (R419, R447-R457, R472): the settings and the commands of a channel, its runs, and the saving of its delays. -/

namespace Sys2Proof.Machine

/-! ### Stored words of the dictionary -/

@[simp] theorem State.putSetting_settingW_same (s : State) (idx sub : Nat) (v : Word) :
    (s.putSetting idx sub (v.setWidth 64)).settingW idx sub = v :=
  (congrArg (BitVec.setWidth 32) (s.putSettingOf_same 0 idx sub (v.setWidth 64))).trans (BitVec.setWidth_setWidth_of_le v (by decide))

/-- A value reads as it did after a change at another key, whatever stands there by default. -/
theorem Tab.get_set_elsewhere {α : Type} [DecidableEq α] (d e v : α) (t : Tab α) {k j : Nat} (other : j ≠ k) :
    Tab.get e (Tab.set d t k v) j = Tab.get e t j := by
  unfold Tab.set
  split
  · exact Tab.get_erase_ne e t k j other
  · exact Tab.get_insert_ne e v t k j other

theorem State.putSetting_setting_ne (s : State) {idx sub i j : Nat} (v : DWord) (other : 256 * i + j ≠ 256 * idx + sub) :
    (s.putSetting idx sub v).setting i j = s.setting i j :=
  Tab.get_set_elsewhere (entryDefault idx sub) (entryDefault i j) v s.dict.settings (by unfold entryKey; omega)

theorem Answered.setting {s t : State} (a : Answered s t) (idx sub : Nat) : t.setting idx sub = s.setting idx sub := a.settingOf 0 idx sub
theorem Answered.settingW {s t : State} (a : Answered s t) (idx sub : Nat) : t.settingW idx sub = s.settingW idx sub :=
  congrArg (BitVec.setWidth 32) (a.setting idx sub)
theorem Answered.settingN {s t : State} (a : Answered s t) (idx sub : Nat) : t.settingN idx sub = s.settingN idx sub :=
  congrArg BitVec.toNat (a.setting idx sub)

/-! ### CH_CFG (R448) -/

theorem chCfg_mask {n : Nat} (channel : n < 8) : (entryMask (chIdx n) 2).setWidth 32 = 0xFFC00000#32 := by
  interval_cases n <;> rfl

/-- A change of speed asks for a new lock, and one of speed or geometry for new delays. -/
def cfgTaken (old v : Word) (c : Channel) : Channel :=
  { c with locked := c.locked && v.toNat / 2 ^ 30 = old.toNat / 2 ^ 30, dlyValid := c.dlyValid && v = old }

theorem chCfgApply_takes {s : State} {n : Nat} {v : Word} (channel : n < 8) (st : (s.chan n).st = .offline) (waits : (s.chan n).waiting = .none)
    (good : chCfgBad (v &&& 0xFFC00000#32) = none) : chCfgApply n v s =
      .ok ((s.putSetting (chIdx n) 2 ((v &&& 0xFFC00000#32).setWidth 64)).modChan n (cfgTaken (chCfg s n) (v &&& 0xFFC00000#32))) := by
  unfold chCfgApply
  dsimp only
  rw [chCfg_mask channel, good]
  exact need_ok (by rw [st, waits]; decide)

theorem chCfgWrite_takes (s : State) (path n : Nat) (v : Word) (admitted : Admitted s path (0x3100 + 0x10 * n) 2 2) (channel : n < 8)
    (st : (s.chan n).st = .offline) (waits : (s.chan n).waiting = .none) (good : chCfgBad (v &&& 0xFFC00000#32) = none) :
    Answers (.chCfgWrite path n v) s (fun t =>
      let w := v &&& 0xFFC00000#32
      chCfg t n = w ∧ (t.chan n).dlyValid = ((s.chan n).dlyValid && decide (w = chCfg s n)) ∧
      (t.chan n).locked = ((s.chan n).locked && decide (w.toNat / 2 ^ 30 = (chCfg s n).toNat / 2 ^ 30)) ∧ (t.chan n).st = .offline) := by
  have touched := Answered.touch path s
  refine ⟨_, dictCommand_admitted admitted (chCfgApply_takes channel (by rw [touched.chan, st]) (by rw [touched.chan, waits]) good), ?_⟩
  generalize taken : State.modChan _ n _ = u
  have answered := Answered.accept path (chIdx n) 2 u
  have here : u.chan n = cfgTaken (chCfg s n) (v &&& 0xFFC00000#32) (s.chan n) := by
    rw [← taken, State.modChan_same, ← touched.chan, show chCfg (touch path s) n = chCfg s n from touched.settingW ..]
    rfl
  rw [answered.chan, here]
  refine ⟨?_, rfl, rfl, st⟩
  rw [chCfg, answered.settingW, ← taken]
  exact State.putSetting_settingW_same ..

/-! ### CH_CMD (R447) -/

section
variable {s : State} {path n : Nat} {act : Channel → State → Except Word State}

/-- A word of CH_CMD that the agent admits while none waits, and whose own conditions hold. -/
theorem chCommand_admitted {g : State → State} (admitted : Admitted s path (0x3100 + 0x10 * n) 3 2) (channel : n < 8)
    (ready : (s.chan n).waiting = .none) (acts : ∀ u, Answered s u → act (s.chan n) u = .ok (g u)) :
    ∃ u t, chCommand path n act s = .next t ∧ Answered s u ∧ Answered (g u) t := by
  have touched := Answered.touch path s
  refine ⟨_, _, dictCommand_admitted admitted ?_, touched, Answered.accept path (chIdx n) 3 (g (touch path s))⟩
  rw [touched.chan, need_ok (by rw [ready, decide_eq_true channel]; rfl)]
  exact acts _ touched

/-- The answers of a command that leaves the agent and the network alone. -/
theorem onlyAnswered_around {t u v : State} (before : Answered s u) (dict : v.dict = u.dict) (net : v.net = u.net) (after : Answered v t) :
    OnlyAnswered s t := by
  obtain ⟨dict', net'⟩ := before.onlyAnswered
  obtain ⟨dict'', net''⟩ := after.onlyAnswered
  exact ⟨by rw [dict'', dict, dict'], by rw [net'', net, net']⟩

/-- A word of CH_CMD that changes its channel alone. -/
theorem chCommand_becomes {h : Channel → Channel} (admitted : Admitted s path (0x3100 + 0x10 * n) 3 2) (channel : n < 8)
    (ready : (s.chan n).waiting = .none) (acts : ∀ u, Answered s u → act (s.chan n) u = .ok (u.modChan n h)) :
    ∃ t, chCommand path n act s = .next t ∧ t.chan n = h (s.chan n) ∧ (∀ m, m ≠ n → t.chan m = s.chan m) ∧ t.dram = s.dram ∧ OnlyAnswered s t := by
  obtain ⟨u, t, run, touched, answered⟩ := chCommand_admitted admitted channel ready acts
  refine ⟨t, run, ?_, fun m other => ?_, ?_, onlyAnswered_around touched (OnlyCatch.modChan ..).dict (OnlyCatch.modChan ..).net answered⟩
  · rw [answered.chan, State.modChan_same, touched.chan]
  · rw [answered.chan, State.modChan_ne _ _ other, touched.chan]
  · rw [answered.dram, State.modChan_dram, touched.dram]

end

theorem whenLocked_goes {s : State} {n : Nat} (w : ChWait) (go : Nat → State → State) (locked : (s.chan n).locked = true)
    (power : s.domOn (78 + n) = true) : whenLocked n w go s = go n s := if_pos (by rw [locked, power]; rfl)

theorem whenLocked_waits {s : State} {n : Nat} (w : ChWait) (go : Nat → State → State) (unlocked : (s.chan n).locked = false) :
    whenLocked n w go s = s.modChan n (fun c => { c with waiting := w }) := if_neg (by rw [unlocked]; exact Bool.false_ne_true)

section
variable (s : State) (path n : Nat) (admitted : Admitted s path (0x3100 + 0x10 * n) 3 2) (channel : n < 8) (ready : (s.chan n).waiting = .none)
include admitted channel ready

/-- What most words of CH_CMD come to: their channel is another, nothing else is. -/
abbrev Becomes (s : State) (n : Nat) (op : Instr) (d : Channel) : Prop :=
  Answers op s (fun t => t.chan n = d ∧ (∀ m, m ≠ n → t.chan m = s.chan m) ∧ t.dram = s.dram ∧ OnlyAnswered s t)

theorem chCmdOnline_enters (st : (s.chan n).st = .offline) (delays : (s.chan n).dlyValid = true) (sound : (s.chan n).fault = false)
    (free : (s.chan n).held = false) (locked : (s.chan n).locked = true) (power : s.domOn (78 + n) = true) :
    Answers (.chCmdOnline path n) s (fun t => (t.chan n).st = .online ∧ t.port 10 (2 + n) = .opening) := by
  obtain ⟨u, t, run, touched, answered⟩ := chCommand_admitted
    (act := fun c s => need (c.st = .offline && c.dlyValid && !c.fault && !c.held) abortState (.ok (whenLocked n .online chanOnline s)))
    admitted channel ready (fun u touched => (need_ok (by rw [st, delays, sound, free]; rfl)).trans
      (congrArg Except.ok (whenLocked_goes .online chanOnline (by rw [touched.chan, locked]) (by rw [touched.domOn, power]))))
  have online := chanOnline_enters n u
  exact ⟨t, run, by rw [answered.chan, online.st], by rw [answered.port, online.port]⟩

theorem chCmdOnline_waits (st : (s.chan n).st = .offline) (delays : (s.chan n).dlyValid = true) (sound : (s.chan n).fault = false)
    (free : (s.chan n).held = false) (unlocked : (s.chan n).locked = false) :
    Becomes s n (.chCmdOnline path n) { s.chan n with waiting := .online } :=
  chCommand_becomes (act := fun c s => need (c.st = .offline && c.dlyValid && !c.fault && !c.held) abortState (.ok (whenLocked n .online chanOnline s)))
    admitted channel ready (fun u touched => (need_ok (by rw [st, delays, sound, free]; rfl)).trans
      (congrArg Except.ok (whenLocked_waits .online chanOnline (by rw [touched.chan, unlocked]))))

theorem chCmdGather_enters (st : (s.chan n).st = .offline ∨ (s.chan n).st = .failedTrain) (free : (s.chan n).held = false)
    (locked : (s.chan n).locked = true) (power : s.domOn (78 + n) = true) : Answers (.chCmdGather path n) s (fun t =>
      t.chan n = { s.chan n with st := .gathering, staged := (s.chan n).live } ∧ (∀ w, w / 2 ^ 37 ≠ n → t.dramWord w = s.dramWord w)) := by
  obtain ⟨u, t, run, touched, answered⟩ := chCommand_admitted
    (act := fun c s => need ((c.st = .offline || c.st = .failedTrain) && !c.held) abortState (.ok (whenLocked n .gather chanGather s)))
    admitted channel ready (fun u touched => (need_ok (by rcases st with st | st <;> rw [st, free] <;> rfl)).trans
      (congrArg Except.ok (whenLocked_goes .gather chanGather (by rw [touched.chan, locked]) (by rw [touched.domOn, power]))))
  refine ⟨t, run, ?_, fun w elsewhere => ?_⟩
  · rw [answered.chan, chanGather_chan, touched.chan, ← ready]
  · rw [answered.dramWord, chanGather_dramWord n u elsewhere, touched.dramWord]

theorem chCmdGather_waits (st : (s.chan n).st = .offline ∨ (s.chan n).st = .failedTrain) (free : (s.chan n).held = false)
    (unlocked : (s.chan n).locked = false) : Becomes s n (.chCmdGather path n) { s.chan n with waiting := .gather } :=
  chCommand_becomes (act := fun c s => need ((c.st = .offline || c.st = .failedTrain) && !c.held) abortState (.ok (whenLocked n .gather chanGather s)))
    admitted channel ready (fun u touched => (need_ok (by rcases st with st | st <;> rw [st, free] <;> rfl)).trans
      (congrArg Except.ok (whenLocked_waits .gather chanGather (by rw [touched.chan, unlocked]))))

end

end Sys2Proof.Machine
end

section
/-! Proofs of 09_catch_memory.md (R447, R452-R457, R472): the drain of a channel, its runs and sweeps, the saving of its delays and its alerts. -/

namespace Sys2Proof.Machine

theorem Answered.chanMapped {s t : State} : Answered s t → ∀ n, chanMapped t n = chanMapped s n := by rintro ⟨_, _, _, _, rfl⟩ _; rfl
theorem Answered.evacUses {s t : State} : Answered s t → ∀ n, evacUses t n = evacUses s n := by rintro ⟨_, _, _, _, rfl⟩ _; rfl

/-- The map and the line of an address are the stored settings' alone (R428, R431). -/
theorem settingOf_congr {s t : State} (same : t.dict.settings = s.dict.settings) (obj idx sub : Nat) :
    t.settingOf obj idx sub = s.settingOf obj idx sub := by rw [State.settingOf, State.settingOf, same]

theorem settingW_congr {s t : State} (same : t.dict.settings = s.dict.settings) (idx sub : Nat) : t.settingW idx sub = s.settingW idx sub :=
  congrArg (BitVec.setWidth 32) (settingOf_congr same 0 idx sub)

theorem mapIn_congr {s t : State} (same : t.dict.settings = s.dict.settings) (w a : Nat) : mapIn t w a = mapIn s w a := by
  unfold mapIn State.settingN State.setting
  rw [settingW_congr same, settingW_congr same, settingOf_congr same]

theorem windowCovers_congr {s t : State} (same : t.dict.settings = s.dict.settings) (w a : Nat) : windowCovers t w a = windowCovers s w a := by
  unfold windowCovers
  rw [settingW_congr same]

theorem windowOf_congr {s t : State} (same : t.dict.settings = s.dict.settings) (a : Nat) : windowOf t a = windowOf s a := by
  simp only [windowOf, windowCovers_congr same]

theorem inWin_congr {s t : State} (same : t.dict.settings = s.dict.settings) (w a : Nat) : inWin t w a = inWin s w a := by
  unfold inWin winBase winSize
  rw [settingW_congr same]

theorem lineOf_congr {s t : State} (same : t.dict.settings = s.dict.settings) (a : Nat) : lineOf t a = lineOf s a := by
  simp only [lineOf, windowOf_congr same, inWin_congr same, mapIn_congr same]

theorem Answered.zeroUses {s t : State} (a : Answered s t) (n : Nat) : zeroUses t n = zeroUses s n := by
  simp only [Machine.zeroUses, zeroLinesOf, a.catch', lineOf_congr a.settings]

theorem Answered.sweepRun {s t : State} : Answered s t → ∀ n, sweepRun t n = sweepRun s n := by rintro ⟨_, _, _, _, rfl⟩ _; rfl

section
variable (s : State) (path n : Nat) (admitted : Admitted s path (0x3100 + 0x10 * n) 3 2) (channel : n < 8) (ready : (s.chan n).waiting = .none)
include admitted channel ready

theorem chCmdOffline_drains (st : (s.chan n).st = .online) (unmapped : chanMapped s n = false) (still : evacUses s n = false)
    (calm : zeroUses s n = false) : Becomes s n (.chCmdOffline path n) { s.chan n with st := .draining } :=
  chCommand_becomes (act := fun c s => need (c.st = .online && !chanMapped s n && !evacUses s n && !zeroUses s n) abortState
      (.ok (s.modChan n (fun c => { c with st := .draining }))))
    admitted channel ready (fun u touched => need_ok (by rw [st, touched.chanMapped, unmapped, touched.evacUses, still, touched.zeroUses, calm]; rfl))

/-! ### What a channel that gathers takes (R452, R455-R457) -/

section
variable (st : (s.chan n).st = .gathering)
include st

/-- A channel that gathers and runs nothing. -/
theorem chCommand_gathered {h : Channel → Channel} (idle : (s.chan n).run = .none) :
    ∃ t, chCommand path n (fun c s => need (c.st = .gathering && c.run = .none) abortState (.ok (s.modChan n h))) s = .next t ∧
      t.chan n = h (s.chan n) ∧ (∀ m, m ≠ n → t.chan m = s.chan m) ∧ t.dram = s.dram ∧ OnlyAnswered s t :=
  chCommand_becomes admitted channel ready (fun u _ => need_ok (by rw [st, idle]; rfl))

theorem chCmdRunInj_runs (idle : (s.chan n).run = .none) : Becomes s n (.chCmdRunInj path n) { s.chan n with run := .inj, result := 0 } :=
  chCommand_gathered s path n admitted channel ready st idle

theorem chCmdSweep_runs (idle : (s.chan n).run = .none) :
    Becomes s n (.chCmdSweep path n) { s.chan n with run := .sweep, result := 0, passA := [], passB := [], errs := [] } :=
  chCommand_gathered s path n admitted channel ready st idle

theorem chCmdEndGatherAccept_takes (idle : (s.chan n).run = .none) : Becomes s n (.chCmdEndGatherAccept path n)
    { s.chan n with st := .offline, live := (s.chan n).staged, staged := [], dlyValid := true, fault := false } :=
  chCommand_gathered s path n admitted channel ready st idle

theorem chCmdEndGatherFail_fails (idle : (s.chan n).run = .none) :
    Becomes s n (.chCmdEndGatherFail path n) { s.chan n with st := .failedTrain, staged := [] } :=
  chCommand_gathered s path n admitted channel ready st idle

theorem chCmdAbortRun_ends (runs : (s.chan n).run ≠ .none) :
    Becomes s n (.chCmdAbortRun path n []) { s.chan n with run := .none, result := 3 } :=
  chCommand_becomes (h := fun c => { c with run := .none, result := 3 })
    (act := fun c s => need (c.st = .gathering && c.run ≠ .none) abortState (.ok (if c.run = .inj then endInj n [] 3 s
      else s.modChan n (fun c => { sweepRun s n ((sweepPoints s n).take 0) [] c with run := .none, result := 3 }))))
    admitted channel ready (fun u _ => by
      refine (need_ok (by rw [st, decide_eq_true runs]; rfl)).trans ?_
      split
      · rfl
      · rfl)

end

end

section
variable (s : State) (slot code n : Nat)

/-! ### Saved delays (R453) -/

theorem State.modArea_mould (g : MouldArea → MouldArea) : (s.modArea slot code g).mould slot =
    { s.mould slot with areas := Tab.modify MouldArea.reset (s.mould slot).areas code g } :=
  Tab.get_modify_same MouldSlot.reset s.loader.slots slot (fun m => { m with areas := Tab.modify MouldArea.reset m.areas code g })

theorem wearSlot_mould : (wearSlot slot s).mould slot = { s.mould slot with wear := (s.mould slot).wear + 1 } :=
  Tab.get_modify_same MouldSlot.reset s.loader.slots slot (fun m => { m with wear := m.wear + 1 })

theorem mould_congr {s t : State} (same : t.loader.slots = s.loader.slots) (slot : Nat) : t.mould slot = s.mould slot := by
  rw [State.mould, State.mould, same]

theorem State.modArea_changes (g : MouldArea → MouldArea) : ∃ m, s.modArea slot code g = { s with loader := { s.loader with slots := m } } := ⟨_, rfl⟩
theorem wearSlot_changes : ∃ m, wearSlot slot s = { s with loader := { s.loader with slots := m } } := ⟨_, rfl⟩

/-- A save of channel `n` is under way. -/
def saveBegins (n : Nat) (s : State) : State := { s with loader := { s.loader with saving := some n } }

/-- The active slot takes the delays of channel `n` (R584, R586). -/
def savesDelays (n : Nat) (s : State) : State :=
  saveBegins n (wearSlot s.loader.actSlot (s.modArea s.loader.actSlot (8 + n) (fun a => { a with st := .writing })))

theorem savesDelays_changes : ∃ l, savesDelays n s = { s with loader := l } ∧ l.saving = some n ∧ l.actValid = s.loader.actValid ∧
    l.actSlot = s.loader.actSlot := by
  obtain ⟨m, marked⟩ := State.modArea_changes s s.loader.actSlot (8 + n) (fun a => { a with st := .writing })
  obtain ⟨m', worn⟩ := wearSlot_changes { s with loader := { s.loader with slots := m } } s.loader.actSlot
  rw [savesDelays, marked, worn]
  exact ⟨_, rfl, rfl, rfl, rfl⟩

theorem savesDelays_mould : (savesDelays n s).mould s.loader.actSlot = { s.mould s.loader.actSlot with
    areas := Tab.modify MouldArea.reset (s.mould s.loader.actSlot).areas (8 + n) (fun a => { a with st := .writing }),
    wear := (s.mould s.loader.actSlot).wear + 1 } := by
  have begins (u : State) : (saveBegins n u).mould s.loader.actSlot = u.mould s.loader.actSlot := rfl
  rw [savesDelays, begins, wearSlot_mould, State.modArea_mould]

end

theorem delayArea_mould {s : State} (n : Nat) (slot : s.loader.actValid = true) : delayArea s n = (s.mould s.loader.actSlot).area (8 + n) :=
  if_pos slot

theorem chCmdSaveDelays_saves {s : State} {path n : Nat} (admitted : Admitted s path (0x3100 + 0x10 * n) 3 2) (channel : n < 8)
    (ready : (s.chan n).waiting = .none) (delays : (s.chan n).dlyValid = true) (slot : s.loader.actValid = true) (apart : s.loader.session = none)
    (free : s.loader.saving = none) (fresh : wornOut s s.loader.actSlot = false) :
    ∃ u t, exec (.chCmdSaveDelays path n) s = .next t ∧ Answered s u ∧ Answered (savesDelays n u) t := by
  refine chCommand_admitted (act := fun c s => need (c.dlyValid && s.loader.actValid && s.loader.session.isNone && s.loader.saving.isNone) abortState
    (need (!wornOut s s.loader.actSlot) 0x06008901#32 (.ok (savesDelays n s)))) admitted channel ready (fun u touched => ?_)
  have lasts : wornOut u u.loader.actSlot = false := by rw [wornOut, touched.loader]; exact fresh
  refine (need_ok (by rw [touched.loader, delays, slot, apart, free]; rfl)).trans ?_
  exact need_ok (by rw [lasts]; rfl)

theorem chCmdSaveDelays_writes (s : State) (path n : Nat) (admitted : Admitted s path (0x3100 + 0x10 * n) 3 2) (channel : n < 8)
    (ready : (s.chan n).waiting = .none) (delays : (s.chan n).dlyValid = true) (slot : s.loader.actValid = true) (apart : s.loader.session = none)
    (free : s.loader.saving = none) (fresh : wornOut s s.loader.actSlot = false) : Answers (.chCmdSaveDelays path n) s (fun t =>
      t.loader.saving = some n ∧ (delayArea t n).st = .writing ∧ (t.mould s.loader.actSlot).wear = (s.mould s.loader.actSlot).wear + 1 ∧
      OnlyAnswered s t) := by
  obtain ⟨u, t, run, touched, answered⟩ := chCmdSaveDelays_saves admitted channel ready delays slot apart free fresh
  obtain ⟨l, changes, saving, valid, active⟩ := savesDelays_changes u n
  have loader : t.loader = l := by rw [answered.loader, changes]
  have mould : t.mould s.loader.actSlot = (savesDelays n u).mould u.loader.actSlot := by
    rw [← touched.loader]
    exact mould_congr (by rw [answered.loader]) _
  have same : u.mould s.loader.actSlot = s.mould s.loader.actSlot := mould_congr (by rw [touched.loader]) _
  rw [savesDelays_mould, touched.loader, same] at mould
  refine ⟨t, run, by rw [loader, saving], ?_, by rw [mould], onlyAnswered_around touched (by rw [changes]) (by rw [changes]) answered⟩
  rw [delayArea_mould n (by rw [loader, valid, touched.loader, slot]), loader, active, touched.loader, mould, MouldSlot.area, Tab.get_modify_same]

theorem saveDelaysComplete_saves (s : State) (n : Nat) (saves : s.loader.saving = some n) : Answers (.saveDelaysComplete n) s (fun t =>
    t.loader.saving = none ∧ ((t.mould s.loader.actSlot).area (8 + n)).st = .valid ∧ t = { s with loader := t.loader }) := by
  refine ⟨_, event_of (decide_eq_true saves) _ _, rfl, ?_, rfl⟩
  refine (congrArg (fun m : MouldSlot => (m.area (8 + n)).st) (State.modArea_mould s s.loader.actSlot (8 + n)
    (fun a => { st := .valid, words := Tab.setList 0 a.words 0 (blockWithHeader (delayContent s n)) }))).trans ?_
  rw [MouldSlot.area, Tab.get_modify_same]

/-! ### Events of a channel -/

theorem channelDrainComplete_ends (s : State) (n : Nat) (st : (s.chan n).st = .draining) (reqs : (s.chan n).reqs = []) (ops : (s.chan n).ops = [])
    (empty : pendingAt s (96 + n) = []) : Answers (.channelDrainComplete n) s (fun t =>
      t.chan n = { s.chan n with st := .offline, refresh := [] } ∧ t.port 10 (2 + n) = .closed ∧ t = { s with catch' := t.catch', net := t.net }) :=
  ⟨_, event_of (by rw [st, reqs, ops, empty]; rfl) _ _, ((onlyNet_setPort ..).chan n).trans (State.modChan_same ..), State.setPort_port_same .., rfl⟩

/-- An INJ_LEN of 0 issues nothing. -/
theorem injEntries_empty {s : State} {n : Nat} (none : s.settingN (0x3102 + 0x10 * n) 4 = 0) : injEntries s n = ([], false) := by
  have none' : s.settingN (chIdx n + 2) 4 = 0 := by
    rw [show chIdx n + 2 = 0x3102 + 0x10 * n by unfold chIdx; omega, none]
  rw [injEntries, none']
  rfl

theorem injRunComplete_ends (s : State) (n : Nat) (runs : (s.chan n).run = .inj) (none : s.settingN (0x3102 + 0x10 * n) 4 = 0) :
    Answers (.injRunComplete n []) s (fun t => t.chan n = { s.chan n with run := .none, result := 0 } ∧ t = { s with catch' := t.catch' }) := by
  refine ⟨s.modChan n (fun c => { c with run := .none, result := 0 }), ?_, State.modChan_same .., (OnlyCatch.modChan ..).machine⟩
  show execInjRunComplete n [] s = _
  rw [execInjRunComplete, injEntries_empty none]
  exact event_of (decide_eq_true runs) _ _

theorem trainSweepComplete_ends (s : State) (n : Nat) (caps : List (List (List DWord × List DWord))) (runs : (s.chan n).run = .sweep)
    (bad : (injEntries s n).2 = true) (none : captureEntries (injEntries s n).1 = []) : Answers (.trainSweepComplete n caps) s (fun t =>
      t.chan n = { s.chan n with run := .none, result := 1 } ∧ t = { s with catch' := t.catch' }) := by
  refine ⟨s.modChan n (fun c => { c with run := .none, result := 1 }), ?_, State.modChan_same .., (OnlyCatch.modChan ..).machine⟩
  show execTrainSweepComplete n caps s = _
  unfold execTrainSweepComplete
  dsimp only
  rw [bad, none]
  exact event_of (decide_eq_true runs) _ _

theorem catchAlert_first (s : State) (n : Nat) (channel : n < 8) (power : s.domOn 87 = true) (first : (s.chan n).alerts = [])
    (limit : 1 ≤ s.settingN 0x3192 7) : Answers (.catchAlert n) s (fun t =>
      t.chan n = { s.chan n with alerts := [s.power.pour] } ∧ Reports s t 0x2701 10 n ∧ t = { s with catch' := t.catch', chill := t.chill }) := by
  obtain ⟨c, reported⟩ := reportChan_changes 0x2701 n 0 s
  have recent : ((s.chan n).alerts ++ [s.power.pour]).filter (fun t => s.power.pour.toNat < t.toNat + ticksPerMs) = [s.power.pour] := by
    rw [first]
    exact List.filter_cons_of_pos (decide_eq_true (Nat.lt_add_of_pos_right (by decide)))
  refine ⟨(reportChan 0x2701 n 0 s).modChan n (fun c => { c with alerts := [s.power.pour] }), ?_, ?_, ?_, ?_⟩
  · refine (event_of (by rw [power, decide_eq_true channel]; rfl) _ _).trans (congrArg Host.Outcome.next ?_)
    dsimp only
    rw [recent, reported]
    exact if_neg (Nat.not_lt.mpr limit)
  · rw [State.modChan_same, reportChan_chan]
  · exact (reports_reportChan 0x2701 n 0 s).to_chill (State.modChan_chill ..)
  · rw [reported]
    rfl

end Sys2Proof.Machine
end

section
/-! Proofs of 09_catch_memory.md (R429, R431): the windows of the map are enabled and disabled by their entry. What the map gives follows from the stored
settings alone. -/

namespace Sys2Proof.Machine

section
variable {s t : State} (same : t.dict.settings = s.dict.settings)
include same

theorem settingN_congr (idx sub : Nat) : t.settingN idx sub = s.settingN idx sub := congrArg BitVec.toNat (settingOf_congr same 0 idx sub)
theorem winEnabled_congr (w : Nat) : winEnabled t w = winEnabled s w := by rw [winEnabled, winEnabled, settingW_congr same]
theorem winBase_congr (w : Nat) : winBase t w = winBase s w := by rw [winBase, winBase, settingW_congr same]
theorem winSize_congr (w : Nat) : winSize t w = winSize s w := by rw [winSize, winSize, settingW_congr same]
theorem winChannels_congr (w : Nat) : winChannels t w = winChannels s w := by
  unfold winChannels
  rw [settingW_congr same, settingW_congr same]

theorem enabledBut_congr (out : List Nat) : enabledBut t out = enabledBut s out := by simp only [enabledBut, winEnabled_congr same]

theorem localOverlap_congr (w v : Nat) : localOverlap t w v = localOverlap s w v := by
  unfold localOverlap
  simp only [winChannels_congr same, settingW_congr same, settingN_congr same]

theorem placementFits_congr (w : Nat) (others : List Nat) : placementFits t w others = placementFits s w others := by
  unfold placementFits chCfg
  simp only [winChannels_congr same, settingW_congr same, settingN_congr same, localOverlap_congr same]

end

theorem Answered.putSetting {s t : State} (a : Answered s t) (idx sub : Nat) (v : DWord) :
    (t.putSetting idx sub v).dict.settings = (s.putSetting idx sub v).dict.settings :=
  congrArg (fun table => Tab.set (entryDefault idx sub) table (entryKey 0 idx sub) v) a.settings

/-! ### The fields of MAP_CFG -/

theorem extractLsb'_toNat_div (v : Word) (lo len : Nat) : (v.extractLsb' lo len).toNat = v.toNat / 2 ^ lo % 2 ^ len := by
  rw [BitVec.extractLsb'_toNat, Nat.shiftRight_eq_div_pow]

/-- A field whose bits a mask lets through. -/
theorem extractLsb'_masked {v m : Word} {lo len : Nat} (through : m.extractLsb' lo len = BitVec.allOnes len) :
    (v &&& m).extractLsb' lo len = v.extractLsb' lo len := by
  rw [BitVec.extractLsb'_and, through, BitVec.and_allOnes]

theorem mapCfg_mask {w : Nat} (window : w < 16) : (entryMask (0x3180 + w) 1).setWidth 32 = 0xFBFFEFFF#32 := by
  interval_cases w <;> rfl

theorem mapCfgBad_none {v : Word} (least : 1 ≤ v.toNat / 2 ^ 13 % 2 ^ 13) (most : v.toNat / 2 ^ 13 % 2 ^ 13 ≤ 4096) (unit : v.toNat / 2 ^ 29 % 4 ≠ 3) :
    mapCfgBad v = none := by
  unfold mapCfgBad
  rw [extractLsb'_toNat_div, extractLsb'_toNat_div]
  dsimp only
  rw [if_neg (by omega), if_neg (by omega)]
  exact if_neg unit

/-- The reserved bits decide nothing. -/
theorem mapCfgBad_masked (v : Word) : mapCfgBad (v &&& 0xFBFFEFFF#32) = mapCfgBad v := by
  unfold mapCfgBad
  rw [extractLsb'_masked (by decide), extractLsb'_masked (by decide)]

/-- Nor does EN. -/
theorem mapCfgBad_enabling (v : Word) : mapCfgBad (v ||| 0x80000000#32) = mapCfgBad v := by
  unfold mapCfgBad
  rw [BitVec.extractLsb'_or, BitVec.extractLsb'_or, show (0x80000000#32).extractLsb' 13 13 = 0#13 from rfl,
    show (0x80000000#32).extractLsb' 29 2 = 0#2 from rfl, BitVec.or_zero, BitVec.or_zero]

/-! ### MAP_ENABLE (R429) -/

/-- MAP_CFG of window `w` holds `x`. -/
abbrev mapCfgStored (w : Nat) (x : Word) (s : State) : State := s.putSetting (0x3180 + w) 1 (x.setWidth 64)

theorem winEnabled_stored (s : State) (w : Nat) (x : Word) : winEnabled (mapCfgStored w x s) w = x.getLsbD 31 := by
  rw [winEnabled, State.putSetting_settingW_same]

theorem winEnabled_stored_ne (s : State) {w u : Nat} (x : Word) (other : u ≠ w) : winEnabled (mapCfgStored w x s) u = winEnabled s u :=
  congrArg (fun y : DWord => (y.setWidth 32).getLsbD 31) (s.putSetting_setting_ne (x.setWidth 64) (by omega))

/-- The tests of R429 for a window that is to be enabled with the value `x`, against the windows that are. -/
structure WindowFits (s : State) (w : Nat) (x : Word) : Prop where
  below : x.toNat % 4096 + x.toNat / 2 ^ 13 % 2 ^ 13 ≤ 4096
  placement : placementFits (mapCfgStored w x s) w (enabledBut s [w]) = true
  apart : ∀ u ∈ enabledBut s [w], winBase (mapCfgStored w x s) u + winSize (mapCfgStored w x s) u ≤ winBase (mapCfgStored w x s) w ∨
    winBase (mapCfgStored w x s) w + winSize (mapCfgStored w x s) w ≤ winBase (mapCfgStored w x s) u
  online : ∀ n ∈ winChannels (mapCfgStored w x s) w, (s.chan n).st = .online

theorem WindowFits.answered {s t : State} {w : Nat} {x : Word} (fits : WindowFits s w x) (a : Answered s t) : WindowFits t w x := by
  have same := a.putSetting (0x3180 + w) 1 (x.setWidth 64)
  obtain ⟨below, placement, apart, online⟩ := fits
  constructor
  · exact below
  · rw [placementFits_congr same, enabledBut_congr a.settings, placement]
  · simpa only [enabledBut_congr a.settings, winBase_congr same, winSize_congr same] using apart
  · simpa only [winChannels_congr same, a.chan] using online

section
variable {s : State} {w : Nat} {v x : Word} (window : w < 16) (masked : v &&& 0xFBFFEFFF#32 = x)
  (least : 1 ≤ x.toNat / 2 ^ 13 % 2 ^ 13) (most : x.toNat / 2 ^ 13 % 2 ^ 13 ≤ 4096) (unit : x.toNat / 2 ^ 29 % 4 ≠ 3)
include window masked least most unit

theorem mapCfgApply_enables (enables : x.getLsbD 31 = true) (disabled : winEnabled s w = false) (fits : WindowFits s w x) :
    mapCfgApply w v s = .ok (mapCfgStored w x s) := by
  obtain ⟨below, placement, apart, online⟩ := fits
  have base : (x.extractLsb' 0 12).toNat = x.toNat % 4096 := congrArg (· % 4096) (Nat.shiftRight_zero)
  have tests : (decide ((x.extractLsb' 0 12).toNat + (x.extractLsb' 13 13).toNat ≤ 4096) && placementFits (mapCfgStored w x s) w (enabledBut s [w]) &&
      (enabledBut s [w]).all (fun u =>
        winBase (mapCfgStored w x s) u + winSize (mapCfgStored w x s) u ≤ winBase (mapCfgStored w x s) w ||
          winBase (mapCfgStored w x s) w + winSize (mapCfgStored w x s) w ≤ winBase (mapCfgStored w x s) u)) = true := by
    rw [placement, base, extractLsb'_toNat_div, decide_eq_true below, Bool.true_and, Bool.true_and, List.all_eq_true]
    exact fun u enabled => by simpa using apart u enabled
  have serves : (winChannels (mapCfgStored w x s) w).all (fun n => (s.chan n).st = .online) = true :=
    List.all_eq_true.mpr (fun n named => decide_eq_true (online n named))
  unfold mapCfgApply
  dsimp only
  rw [mapCfg_mask window, masked, if_neg (by rw [extractLsb'_toNat_div]; omega), if_neg (by rw [extractLsb'_toNat_div]; omega),
    if_neg (by rw [extractLsb'_toNat_div]; exact unit), show (s.settingW (0x3180 + w) 1).getLsbD 31 = false from disabled, enables]
  exact (if_neg Bool.false_ne_true).trans ((if_neg Bool.false_ne_true).trans ((if_pos rfl).trans ((need_ok tests).trans (need_ok serves))))

/-! ### MAP_DISABLE (R431) -/

theorem mapCfgApply_disables (cleared : x.getLsbD 31 = false) (rest : x &&& 0x7FFFFFFF#32 = s.settingW (0x3180 + w) 1 &&& 0x7FFFFFFF#32)
    (enabled : winEnabled s w = true) (calm : s.catch'.zeroBusy = false) : mapCfgApply w v s = .ok (mapCfgStored w x s) := by
  unfold mapCfgApply
  dsimp only
  rw [mapCfg_mask window, masked, if_neg (by rw [extractLsb'_toNat_div]; omega), if_neg (by rw [extractLsb'_toNat_div]; omega),
    if_neg (by rw [extractLsb'_toNat_div]; exact unit), show (s.settingW (0x3180 + w) 1).getLsbD 31 = true from enabled, cleared, rest, calm]
  simp

end

/-- What a write of MAP_CFG comes to once its value stands. -/
theorem mapCfg_written {s u t : State} {w : Nat} {x : Word} (touched : Answered s u) (answered : Answered (mapCfgStored w x u) t) :
    t.settingW (0x3180 + w) 1 = x ∧ winEnabled t w = x.getLsbD 31 ∧ (∀ v, v ≠ w → winEnabled t v = winEnabled s v) ∧ t.dram = s.dram ∧
      t.catch' = s.catch' := by
  refine ⟨?_, ?_, fun v other => ?_, answered.dram.trans touched.dram, answered.catch'.trans touched.catch'⟩
  · rw [answered.settingW, State.putSetting_settingW_same]
  · rw [winEnabled_congr answered.settings, winEnabled_stored]
  · rw [winEnabled_congr answered.settings, winEnabled_stored_ne u x other, winEnabled_congr touched.settings]

theorem mapEnable_enables (s : State) (path w : Nat) (v : Word) (admitted : Admitted s path (0x3180 + w) 1 2) (direct : s.staging path = false)
    (window : w < 16) {x : Word} (masked : (v ||| 0x80000000#32) &&& 0xFBFFEFFF#32 = x) (disabled : winEnabled s w = false)
    (least : 1 ≤ x.toNat / 2 ^ 13 % 2 ^ 13) (most : x.toNat / 2 ^ 13 % 2 ^ 13 ≤ 4096) (unit : x.toNat / 2 ^ 29 % 4 ≠ 3) (fits : WindowFits s w x) :
    Answers (.mapEnable path w v) s (fun t =>
      t.settingW (0x3180 + w) 1 = x ∧ winEnabled t w = true ∧ (∀ u, u ≠ w → winEnabled t u = winEnabled s u) ∧ t.dram = s.dram ∧ t.catch' = s.catch') := by
  have enables : x.getLsbD 31 = true := by rw [← masked]; simp
  have good : mapCfgBad v = none := by
    rw [← mapCfgBad_enabling, ← mapCfgBad_masked, masked]
    exact mapCfgBad_none least most unit
  obtain ⟨u, run, touched⟩ := rwtCommand_acts (obj := 0) (v := (v ||| 0x80000000#32).setWidth 64) (act := mapCfgApply w (v ||| 0x80000000#32))
    (g := mapCfgStored w x) admitted direct good
    (fun u touched => mapCfgApply_enables window masked least most unit enables (by rw [winEnabled_congr touched.settings, disabled]) (fits.answered touched))
  have written := mapCfg_written touched (.accept path (0x3180 + w) 1 (mapCfgStored w x u))
  rw [enables] at written
  exact ⟨_, run, written⟩

theorem mapDisable_disables (s : State) (path w : Nat) (admitted : Admitted s path (0x3180 + w) 1 2) (direct : s.staging path = false)
    (window : w < 16) (enabled : winEnabled s w = true) (least : 1 ≤ (s.settingW (0x3180 + w) 1).toNat / 2 ^ 13 % 2 ^ 13)
    (most : (s.settingW (0x3180 + w) 1).toNat / 2 ^ 13 % 2 ^ 13 ≤ 4096) (unit : (s.settingW (0x3180 + w) 1).toNat / 2 ^ 29 % 4 ≠ 3)
    (reserved : s.settingW (0x3180 + w) 1 &&& 0x04001000#32 = 0) (calm : s.catch'.zeroBusy = false) :
    Answers (.mapDisable path w) s (fun t => t.settingW (0x3180 + w) 1 = s.settingW (0x3180 + w) 1 &&& 0x7FFFFFFF#32 ∧ winEnabled t w = false ∧
      (∀ u, u ≠ w → winEnabled t u = winEnabled s u) ∧ t.dram = s.dram ∧ t.catch' = s.catch') := by
  generalize stood : s.settingW (0x3180 + w) 1 = x at *
  have field (lo len : Nat) (through : (0x7FFFFFFF#32).extractLsb' lo len = BitVec.allOnes len) :
      (x &&& 0x7FFFFFFF#32).toNat / 2 ^ lo % 2 ^ len = x.toNat / 2 ^ lo % 2 ^ len := by
    rw [← extractLsb'_toNat_div, extractLsb'_masked through, extractLsb'_toNat_div]
  have size := field 13 13 (by decide)
  have cleared : (x &&& 0x7FFFFFFF#32).getLsbD 31 = false := by simp
  have masked : (x &&& 0x7FFFFFFF#32) &&& 0xFBFFEFFF#32 = x &&& 0x7FFFFFFF#32 := by
    have split : x &&& 0x7FFFFFFF#32 = x &&& (0x7BFFEFFF#32 ||| 0x04001000#32) := rfl
    rw [BitVec.and_assoc, split, BitVec.and_or_distrib_left, show x &&& 0x04001000#32 = 0#32 from reserved, BitVec.or_zero]
    rfl
  have least' := least.trans_eq size.symm
  have most' := size.trans_le most
  have unit' : (x &&& 0x7FFFFFFF#32).toNat / 2 ^ 29 % 4 ≠ 3 := fun three => unit ((field 29 2 (by decide)).symm.trans three)
  obtain ⟨u, run, touched⟩ := rwtCommand_acts (obj := 0) (v := (x &&& 0x7FFFFFFF#32).setWidth 64) (act := mapCfgApply w (x &&& 0x7FFFFFFF#32))
    (g := mapCfgStored w (x &&& 0x7FFFFFFF#32)) admitted direct (mapCfgBad_none least' most' unit')
    (fun u touched => mapCfgApply_disables window masked least' most' unit' cleared (by rw [touched.settingW, stood, BitVec.and_assoc, BitVec.and_self])
      (by rw [winEnabled_congr touched.settings, enabled]) (by rw [touched.catch', calm]))
  have written := mapCfg_written touched (.accept path (0x3180 + w) 1 (mapCfgStored w (x &&& 0x7FFFFFFF#32) u))
  rw [cleared] at written
  subst stood
  exact ⟨_, run, written⟩

end Sys2Proof.Machine
end

section
/-! Proofs of 09_catch_memory.md (R458-R462): an evacuation starts, is cancelled, copies the words of its source and switches the placements. -/

namespace Sys2Proof.Machine

theorem offsetIn_congr {s t : State} (same : t.dict.settings = s.dict.settings) (w word : Nat) : offsetIn t w word = offsetIn s w word := by
  unfold offsetIn
  simp only [settingW_congr same, settingN_congr same, winChannels_congr same, winSize_congr same]

theorem Answered.evacuating {s t : State} (a : Answered s t) : t.evacuating = s.evacuating := by rw [State.evacuating, a.catch']; rfl

/-! ### Start and cancel (R458, R462) -/

/-- The controller copies window `src` to the placement of window `dst`. -/
def evacCopies (src dst : Nat) (c : CatchState) : CatchState :=
  { c with evac := .copy, evacResult := 0, evacSrc := src, evacDst := dst, evacPoisoned := 0, evacMiB := 0 }

theorem evacStart_copies {s : State} {src dst : Nat} (source : src < 16) (dest : dst < 16) (apart : src ≠ dst) (enabled : winEnabled s src = true)
    (disabled : winEnabled s dst = false) (sizes : winSize s src = winSize s dst) (fits : placementFits s dst (enabledBut s [src]) = true)
    (online : ∀ n ∈ winChannels s dst, (s.chan n).st = .online) (still : s.evacuating = false) :
    evacStart src dst s = .ok (s.modCatch (evacCopies src dst)) := by
  have serves : (winChannels s dst).all (fun n => (s.chan n).st = .online) = true :=
    List.all_eq_true.mpr (fun n named => decide_eq_true (online n named))
  exact need_ok (by rw [decide_eq_true source, decide_eq_true dest, decide_eq_true apart, enabled, disabled, decide_eq_true sizes, fits, serves, still]; rfl)

theorem evacCmdStart_copies (s : State) (path src dst : Nat) (admitted : Admitted s path 0x3190 1 2) (source : src < 16) (dest : dst < 16)
    (apart : src ≠ dst) (enabled : winEnabled s src = true) (disabled : winEnabled s dst = false) (sizes : winSize s src = winSize s dst)
    (fits : placementFits s dst (enabledBut s [src]) = true) (online : ∀ n ∈ winChannels s dst, (s.chan n).st = .online)
    (still : s.evacuating = false) : Answers (.evacCmdStart path src dst) s (fun t =>
      t.catch' = { s.catch' with evac := .copy, evacResult := 0, evacSrc := src, evacDst := dst, evacPoisoned := 0, evacMiB := 0 } ∧
      OnlyAnswered s t ∧ t.dram = s.dram) := by
  have acts (u : State) (touched : Answered s u) : evacStart src dst u = .ok (u.modCatch (evacCopies src dst)) := by
    have same := touched.settings
    refine evacStart_copies source dest apart (by rw [winEnabled_congr same, enabled]) (by rw [winEnabled_congr same, disabled])
      (by rw [winSize_congr same, winSize_congr same, sizes]) (by rw [enabledBut_congr same, placementFits_congr same, fits]) ?_
      (by rw [touched.evacuating, still])
    simpa only [winChannels_congr same, touched.chan] using online
  obtain ⟨u, t, run, touched, answered, only⟩ := dictCommand_acts admitted acts (fun _ => ⟨rfl, rfl⟩)
  refine ⟨t, run, ?_, only, answered.dram.trans touched.dram⟩
  rw [answered.catch', State.modCatch, touched.catch']
  rfl

theorem evacAbort_aborts (result : Nat) {s : State} (under : s.evacuating = true) :
    (evacAbort result s).catch' = { s.catch' with evac := .aborted, evacResult := result } ∧ (evacAbort result s).dict = s.dict ∧
      (evacAbort result s).net = s.net ∧ (evacAbort result s).dram = (clearPlacement s.catch'.evacDst s).dram := by
  rw [evacAbort, if_neg (by rw [under]; decide)]
  exact ⟨rfl, rfl, rfl, rfl⟩

/-- The words outside a placement outlast its clearing. -/
theorem clearPlacement_dramWord (w : Nat) (s : State) {word : Nat} (outside : offsetIn s w word = none) :
    (clearPlacement w s).dramWord word = s.dramWord word :=
  dramWord_of_get (Tab.get_filter none (p := fun e : Nat × Option NWord => (offsetIn s w e.1).isNone) (fun _ => by rw [outside]; rfl) s.dram)

theorem dramWord_congr {s t : State} (same : t.dram = s.dram) (w : Nat) : t.dramWord w = s.dramWord w := dramWord_of_get (by rw [same])

theorem evacCmdCancel_aborts (s : State) (path : Nat) (admitted : Admitted s path 0x3190 1 2) (under : s.evacuating = true) :
    Answers (.evacCmdCancel path) s (fun t => t.catch' = { s.catch' with evac := .aborted, evacResult := 1 } ∧ OnlyAnswered s t ∧
      (∀ w, offsetIn s s.catch'.evacDst w = none → t.dramWord w = s.dramWord w)) := by
  have touched := Answered.touch path s
  have run := dictCommand_admitted (act := evacCancel) admitted (need_ok (by rw [touched.evacuating, under]))
  generalize touch path s = u at touched run
  obtain ⟨catch', dict, net, dram⟩ := evacAbort_aborts 1 (touched.evacuating.trans under)
  have answered := Answered.accept path 0x3190 1 (evacAbort 1 u)
  refine ⟨_, run, ?_, onlyAnswered_around touched dict net answered, fun w outside => ?_⟩
  · rw [answered.catch', catch', touched.catch']
  · rw [answered.dramWord, dramWord_congr dram, clearPlacement_dramWord, touched.dramWord]
    rw [offsetIn_congr touched.settings, touched.catch', outside]

/-! ### The copy (R459) -/

/-- The controller whose channels are `chans`. -/
def withChans (chans : Tab Channel) (s : State) : State := s.modCatch (fun c => { c with chans := chans })

theorem withChans_settings (chans : Tab Channel) (s : State) : (withChans chans s).dict.settings = s.dict.settings := rfl
theorem withChans_dram (chans : Tab Channel) (s : State) : (withChans chans s).dram = s.dram := rfl

section
variable {s : State} {key o : Nat} {v : NWord} (holds : s.dram = [(key, some v)])
include holds

/-- The one word that memory holds lies in the source window: no more than its channel's counts may change. -/
theorem copyErrs_counts {src : Nat} (source : offsetIn s src key = some o) : ∃ chans, copyErrs src [] s = withChans chans s := by
  unfold copyErrs
  dsimp only [List.foldl_nil]
  rw [holds, List.foldl_cons, List.foldl_nil, source]
  dsimp only
  split
  · exact ⟨_, rfl⟩
  · exact ⟨s.catch'.chans, rfl⟩

/-- It does not lie in the destination's placement, which is empty. -/
theorem clearPlacement_empty {dst : Nat} (outside : offsetIn s dst key = none) : clearPlacement dst s = s := by
  rw [clearPlacement, holds, List.filter_cons_of_pos (by rw [outside]; rfl), List.filter_nil, ← holds]

theorem evacCopy_copies (source : offsetIn s s.catch'.evacSrc key = some o) (outside : offsetIn s s.catch'.evacDst key = none) :
    ∃ chans, let u := withChans chans s
      let p := mapIn u s.catch'.evacDst (winBase u s.catch'.evacDst + o)
      evacCopy [] s = (u.dramPut (dramKey p.1 p.2) v).modCatch (fun c => { c with evacPoisoned := if v.p then 1 else 0 }) := by
  obtain ⟨chans, counted⟩ := copyErrs_counts holds source
  have cleared : clearPlacement s.catch'.evacDst (withChans chans s) = withChans chans s :=
    clearPlacement_empty ((withChans_dram chans s).trans holds) ((offsetIn_congr (withChans_settings chans s) _ _).trans outside)
  refine ⟨chans, ?_⟩
  unfold evacCopy
  dsimp only
  rw [counted, cleared, holds, List.filterMap_cons]
  dsimp only
  rw [source]
  obtain ⟨d, p⟩ := v
  cases p
  · rfl
  · rfl

end

theorem evacCopyComplete_copies (s : State) (key o : Nat) (v : NWord) (copies : s.catch'.evac = .copy) (holds : s.dram = [(key, some v)])
    (source : offsetIn s s.catch'.evacSrc key = some o) (outside : offsetIn s s.catch'.evacDst key = none) :
    Answers (.evacCopyComplete []) s (fun t =>
      let p := mapIn s s.catch'.evacDst (winBase s s.catch'.evacDst + o)
      t.dramWord (dramKey p.1 p.2) = v ∧ t.catch'.evac = .switch ∧ t.catch'.evacPoisoned = (if v.p then 1 else 0) ∧
      t.catch'.evacMiB = BitVec.ofNat 32 (winSize s s.catch'.evacSrc / 2 ^ 20) ∧ t = { s with catch' := t.catch', dram := t.dram }) := by
  obtain ⟨chans, copied⟩ := evacCopy_copies holds source outside
  refine ⟨_, event_of (decide_eq_true copies) _ _, ?_⟩
  dsimp only at copied ⊢
  rw [copied, mapIn_congr (withChans_settings chans s), winBase_congr (withChans_settings chans s)]
  generalize mapIn s s.catch'.evacDst (winBase s s.catch'.evacDst + o) = p
  have put := State.dramPut_same (withChans chans s) (dramKey p.1 p.2) v
  generalize written : (withChans chans s).dramPut (dramKey p.1 p.2) v = u at *
  have changes : ∃ d, u = { withChans chans s with dram := d } := ⟨_, written.symm⟩
  obtain ⟨d, rfl⟩ := changes
  refine ⟨put, rfl, rfl, ?_, rfl⟩
  exact congrArg (fun n => BitVec.ofNat 32 (n / 2 ^ 20)) (winSize_congr rfl _)

/-! ### The switch (R461) -/

/-- MAP_CFG of the source with the interleave of the destination. -/
def switchedCfg (c d : Word) : Word := (c &&& 0x87FFFFFF#32) ||| (d &&& 0x78000000#32)

/-- A field of the switched MAP_CFG that both masks give to one of the two. -/
theorem switchedCfg_kept (c d : Word) {lo len : Nat} (keeps : (0x87FFFFFF#32).extractLsb' lo len = BitVec.allOnes len)
    (drops : (0x78000000#32).extractLsb' lo len = 0#len) : (switchedCfg c d).extractLsb' lo len = c.extractLsb' lo len := by
  rw [switchedCfg, BitVec.extractLsb'_or, BitVec.extractLsb'_and, BitVec.extractLsb'_and, keeps, drops, BitVec.and_allOnes, BitVec.and_zero, BitVec.or_zero]

theorem switchedCfg_taken (c d : Word) {lo len : Nat} (drops : (0x87FFFFFF#32).extractLsb' lo len = 0#len)
    (takes : (0x78000000#32).extractLsb' lo len = BitVec.allOnes len) : (switchedCfg c d).extractLsb' lo len = d.extractLsb' lo len := by
  rw [switchedCfg, BitVec.extractLsb'_or, BitVec.extractLsb'_and, BitVec.extractLsb'_and, drops, takes, BitVec.and_allOnes, BitVec.and_zero, BitVec.zero_or]

theorem switchedCfg_enabled (c d : Word) : (switchedCfg c d).getLsbD 31 = c.getLsbD 31 := by
  simp [switchedCfg]

/-- Window `src` takes the placement of window `dst`. -/
def takesPlacement (src dst : Nat) (s : State) : State :=
  ((s.putSetting (0x3180 + src) 1 ((switchedCfg (s.settingW (0x3180 + src) 1) (s.settingW (0x3180 + dst) 1)).setWidth 64)).putSetting (0x3180 + src) 2
    (s.setting (0x3180 + dst) 2)).putSetting (0x3180 + src) 3 (s.setting (0x3180 + dst) 3)

section
variable (s : State) (src dst : Nat)

theorem takesPlacement_cfg : (takesPlacement src dst s).settingW (0x3180 + src) 1 =
    switchedCfg (s.settingW (0x3180 + src) 1) (s.settingW (0x3180 + dst) 1) := by
  rw [State.settingW, takesPlacement, State.putSetting_setting_ne _ _ (by omega), State.putSetting_setting_ne _ _ (by omega)]
  exact State.putSetting_settingW_same ..

theorem takesPlacement_chan : (takesPlacement src dst s).settingW (0x3180 + src) 2 = s.settingW (0x3180 + dst) 2 := by
  rw [State.settingW, takesPlacement, State.putSetting_setting_ne _ _ (by omega)]
  exact congrArg (BitVec.setWidth 32) (State.putSettingOf_same ..)

theorem takesPlacement_local : (takesPlacement src dst s).settingW (0x3180 + src) 3 = s.settingW (0x3180 + dst) 3 :=
  congrArg (BitVec.setWidth 32) (State.putSettingOf_same ..)

theorem takesPlacement_other {w : Nat} (other : w ≠ src) : (takesPlacement src dst s).settingW (0x3180 + w) 1 = s.settingW (0x3180 + w) 1 := by
  rw [State.settingW, takesPlacement, State.putSetting_setting_ne _ _ (by omega), State.putSetting_setting_ne _ _ (by omega),
    State.putSetting_setting_ne _ _ (by omega)]
  rfl

theorem takesPlacement_catch' : (takesPlacement src dst s).catch' = s.catch' := by
  rw [takesPlacement, State.putSetting_catch, State.putSetting_catch, State.putSetting_catch]

theorem takesPlacement_dram : (takesPlacement src dst s).dram = s.dram := by
  rw [takesPlacement, State.putSetting_dram, State.putSetting_dram, State.putSetting_dram]

/-- The windows of a machine whose map says what the switch has made of it. -/
theorem takesPlacement_windows (apart : src ≠ dst) {t : State} (same : t.dict.settings = (takesPlacement src dst s).dict.settings) :
    winChannels t src = winChannels s dst ∧ t.settingW (0x3180 + src) 3 = s.settingW (0x3180 + dst) 3 ∧ winBase t src = winBase s src ∧
      winSize t src = winSize s src ∧ winEnabled t src = winEnabled s src ∧ t.settingW (0x3180 + dst) 1 = s.settingW (0x3180 + dst) 1 := by
  have cfg := takesPlacement_cfg s src dst
  refine ⟨?_, ?_, ?_, ?_, ?_, ?_⟩
  · rw [winChannels_congr same, winChannels, cfg, switchedCfg_taken _ _ rfl rfl, takesPlacement_chan]
    rfl
  · rw [settingW_congr same, takesPlacement_local]
  · rw [winBase_congr same, winBase, cfg, switchedCfg_kept _ _ rfl rfl]
    rfl
  · rw [winSize_congr same, winSize, cfg, switchedCfg_kept _ _ rfl rfl]
    rfl
  · rw [winEnabled_congr same, winEnabled, cfg, switchedCfg_enabled]
    rfl
  · rw [settingW_congr same, takesPlacement_other s src dst apart.symm]

end

theorem evacSwitch_switches (s : State) (copied : s.catch'.evac = .switch) (tick : s.power.pllLocked = true) (free : windowBusy s s.catch'.evacSrc = false)
    (apart : s.catch'.evacSrc ≠ s.catch'.evacDst) : Answers .evacSwitch s (fun t =>
      let src := s.catch'.evacSrc
      let dst := s.catch'.evacDst
      winChannels t src = winChannels s dst ∧ t.settingW (0x3180 + src) 3 = s.settingW (0x3180 + dst) 3 ∧ winBase t src = winBase s src ∧
      winSize t src = winSize s src ∧ winEnabled t src = winEnabled s src ∧ t.settingW (0x3180 + dst) 1 = s.settingW (0x3180 + dst) 1 ∧
      t.catch' = { s.catch' with evac := .done } ∧ t.dram = s.dram) := by
  refine ⟨(takesPlacement s.catch'.evacSrc s.catch'.evacDst s).modCatch (fun c => { c with evac := .done }),
    event_of (by rw [copied, tick, free]; rfl) _ _, ?_⟩
  obtain ⟨channels, place, base, size, enabled, dest⟩ := takesPlacement_windows s _ _ apart
    (t := (takesPlacement s.catch'.evacSrc s.catch'.evacDst s).modCatch (fun c => { c with evac := .done })) rfl
  refine ⟨channels, place, base, size, enabled, dest, ?_, ?_⟩
  · rw [State.modCatch, takesPlacement_catch']
  · exact (OnlyCatch.modCatch ..).dram.trans (takesPlacement_dram ..)

end Sys2Proof.Machine
end

section
/-! Proofs of 09_catch_memory.md (R463, R795): zeroing; and the statement of the family on channels and the map. -/

namespace Sys2Proof.Machine

/-! ### ZERO_CMD (R463, R795) -/

/-- The controller has begun to zero the range that its entries name. -/
def zeroBegins (s : State) : State := s.modCatch (fun c => { c with
  zeroBusy := true, zeroCancelled := false, zeroInterrupted := false, zeroBase := s.settingN 0x3191 1, zeroLen := s.settingN 0x3191 3, zeroLines := 0 })

theorem zeroStart_begins {s : State} (idle : s.catch'.zeroBusy = false)
    (covered : ∀ j, j < s.settingN 0x3191 3 / 64 → (windowOf s (s.settingN 0x3191 1 + 64 * j)).isSome = true) : zeroStart s = .ok (zeroBegins s) := by
  have lines : (zeroLinesOf (zeroBegins s)).all (fun a => (windowOf s a).isSome) = true := by
    refine List.all_eq_true.mpr (fun a member => ?_)
    obtain ⟨j, below, rfl⟩ := List.mem_map.mp member
    exact covered j (List.mem_range.mp below)
  exact need_ok (by rw [idle]; exact lines)

theorem zeroCmdStart_begins (s : State) (path : Nat) (admitted : Admitted s path 0x3191 5 2) (idle : s.catch'.zeroBusy = false)
    (covered : ∀ j, j < s.settingN 0x3191 3 / 64 → (windowOf s (s.settingN 0x3191 1 + 64 * j)).isSome = true) :
    Answers (.zeroCmdStart path) s (fun t =>
      t.catch' = { s.catch' with zeroBusy := true, zeroCancelled := false, zeroInterrupted := false, zeroBase := s.settingN 0x3191 1, zeroLen := s.settingN 0x3191 3, zeroLines := 0 } ∧
      t.dram = s.dram ∧ OnlyAnswered s t) := by
  obtain ⟨u, t, run, touched, answered, only⟩ := dictCommand_acts admitted (act := zeroStart) (g := zeroBegins) (fun u touched =>
    zeroStart_begins (by rw [touched.catch', idle]) (by simpa only [touched.settingN, windowOf_congr touched.settings] using covered))
    (fun _ => ⟨rfl, rfl⟩)
  refine ⟨t, run, ?_, answered.dram.trans ((OnlyCatch.modCatch ..).dram.trans touched.dram), only⟩
  rw [answered.catch', zeroBegins, State.modCatch, touched.catch', touched.settingN, touched.settingN]

theorem zeroCmdCancel_cancels (s : State) (path : Nat) (admitted : Admitted s path 0x3191 5 2) (busy : s.catch'.zeroBusy = true) :
    Answers (.zeroCmdCancel path) s (fun t => t.catch'.zeroBusy = false ∧ t.catch'.zeroCancelled = true ∧ t.catch'.zeroInterrupted = false ∧
      OnlyAnswered s t) := by
  have touched := Answered.touch path s
  have busy' : (touch path s).catch'.zeroBusy = true := by rw [touched.catch', busy]
  have run := dictCommand_admitted (act := zeroCancel) admitted (need_ok busy')
  have moves := zeroEnds_moves true (touch path s)
  obtain ⟨u, n, _, ends⟩ := zeroEnds_busy true busy'
  have answered := Answered.accept path 0x3191 5 (zeroEnds true (touch path s))
  refine ⟨_, run, ?_, ?_, ?_, onlyAnswered_around touched moves.dict moves.net answered⟩
  · rw [answered.catch', ends]; rfl
  · rw [answered.catch', ends]; rfl
  · rw [answered.catch', ends]; rfl

/-! ### ZERO_COMPLETE (R463) -/

/-- The value of a zeroed word. -/
abbrev zeroWord : NWord := { d := 0, p := false }

theorem writeLine_zero (line : Nat) (s : State) (j : Nat) :
    (writeLine line zeroLine s).dramWord j = if 16 * line ≤ j ∧ j < 16 * line + 16 then zeroWord else s.dramWord j :=
  writeLine_word line (fun _ => zeroWord) s j

/-- Zeros to a line: the line is zero, and what was zero is. -/
theorem writeBoth_zero (addr line : Nat) (s : State) : (∀ k, k < 16 → (writeBoth addr line zeroLine s).dramWord (16 * line + k) = zeroWord) ∧
    (∀ j, s.dramWord j = zeroWord → (writeBoth addr line zeroLine s).dramWord j = zeroWord) := by
  have keeps (l : Nat) (u : State) (j : Nat) (zero : u.dramWord j = zeroWord) : (writeLine l zeroLine u).dramWord j = zeroWord := by
    rw [writeLine_zero, zero, ite_self]
  have first (k : Nat) (inside : k < 16) : (writeLine line zeroLine s).dramWord (16 * line + k) = zeroWord := by
    rw [writeLine_zero, if_pos (by omega)]
  unfold writeBoth
  dsimp only
  split
  · exact ⟨fun k inside => keeps _ _ _ (first k inside), fun j zero => keeps _ _ _ (keeps _ _ _ zero)⟩
  · exact ⟨first, fun j zero => keeps _ _ _ zero⟩

theorem chanServes_lt {s : State} {n : Nat} (serves : s.chanServes n = true) : n < 8 := by
  unfold State.chanServes at serves
  rw [Bool.and_eq_true, Bool.and_eq_true, decide_eq_true_eq] at serves
  exact serves.1.2

/-- Where every channel serves and has as many lines allowed to it as there are, the walk writes them all. -/
theorem zeroWalk_zeroes : ∀ (as : List Nat) (left : Tab Nat) (s : State), (∀ a ∈ as, s.chanServes (lineOf s a / 2 ^ 33) = true) →
    (∀ n, n < 8 → as.length ≤ Tab.get 0 left n) →
    (zeroWalk as left s).1 = as.length ∧ (∀ a ∈ as, ∀ k, k < 16 → (zeroWalk as left s).2.dramWord (16 * lineOf s a + k) = zeroWord) ∧
      ∀ j, s.dramWord j = zeroWord → (zeroWalk as left s).2.dramWord j = zeroWord
  | [], _, _, _, _ => ⟨rfl, fun _ none => absurd none List.not_mem_nil, fun _ zero => zero⟩
  | a :: as, left, s, serves, allowed => by
    have here := serves a List.mem_cons_self
    have channel := chanServes_lt here
    obtain ⟨d, written⟩ := writeBoth_changes a (lineOf s a) zeroLine s
    obtain ⟨line, kept⟩ := writeBoth_zero a (lineOf s a) s
    have same : (writeBoth a (lineOf s a) zeroLine s).dict.settings = s.dict.settings := by rw [written]
    have serves' (n : Nat) : (writeBoth a (lineOf s a) zeroLine s).chanServes n = s.chanServes n := by rw [written]; rfl
    have more := allowed _ channel
    rw [List.length_cons] at more
    obtain ⟨count, rest, outlasts⟩ := zeroWalk_zeroes as (Tab.set 0 left (lineOf s a / 2 ^ 33) (Tab.get 0 left (lineOf s a / 2 ^ 33) - 1))
      (writeBoth a (lineOf s a) zeroLine s)
      (fun b member => by rw [lineOf_congr same, serves']; exact serves b (List.mem_cons_of_mem a member))
      (fun n below => by
        rcases eq_or_ne n (lineOf s a / 2 ^ 33) with rfl | other
        · rw [Tab.get_set_same]; omega
        · rw [Tab.get_set_ne _ _ _ _ _ other]
          exact (Nat.le_succ _).trans (allowed n below))
    rw [zeroWalk]
    dsimp only
    rw [if_neg (by rw [here, decide_eq_false (by omega)]; decide)]
    refine ⟨congrArg (· + 1) count, fun b member k inside => ?_, fun j zero => outlasts j (kept j zero)⟩
    rcases List.mem_cons.mp member with rfl | later
    · exact outlasts _ (line k inside)
    · have zero := rest b later k inside
      rw [lineOf_congr same] at zero
      exact zero

theorem zeroComplete_zeroes (s : State) (busy : s.catch'.zeroBusy = true)
    (serves : ∀ a ∈ zeroLinesOf s, lineOf s a < 2 ^ 36 ∧ s.chanServes (lineOf s a / 2 ^ 33) = true) : Answers .zeroComplete s (fun t =>
      (∀ a ∈ zeroLinesOf s, ∀ k, k < 16 → t.dramWord (16 * lineOf s a + k) = { d := 0, p := false }) ∧ t.catch'.zeroBusy = false ∧
      t.catch'.zeroLines = s.catch'.zeroLen / 64 ∧ t = { s with catch' := t.catch', dram := t.dram }) := by
  have allowed (n : Nat) (channel : n < 8) :
      (zeroLinesOf s).length ≤ Tab.get 0 ((List.range 8).map (fun n => (n, (zeroLinesOf s).length + 1)) : Tab Nat) n := by
    interval_cases n <;> exact Nat.le_succ _
  obtain ⟨count, zero, _⟩ := zeroWalk_zeroes (zeroLinesOf s) _ s (fun a member => (serves a member).2) allowed
  obtain ⟨d, walked⟩ := zeroWalk_changes (zeroLinesOf s) ((List.range 8).map (fun n => (n, (zeroLinesOf s).length + 1)) : Tab Nat) s
  refine ⟨_, event_of busy _ _, zero, rfl, ?_, ?_⟩
  · refine count.trans ?_
    rw [zeroLinesOf, List.length_map, List.length_range]
  · dsimp only
    rw [walked]
    rfl

/-- Settles O33, command by command: a channel's commands and events by what becomes of that channel, the map's by what the stored settings give, the
ends of a copy and a zeroing by the words they write. -/
theorem catchChannelsAndMap : Obligations.CatchChannelsAndMap := by
  unfold Obligations.CatchChannelsAndMap
  refine ⟨⟨fun s n cs cid bank serves cs' cid' bank' => ?refresh, fun s n channel power => ?phy, chCfgWrite_takes,
      fun s path n admitted channel ready => ?commands, channelDrainComplete_ends, injRunComplete_ends, trainSweepComplete_ends,
      saveDelaysComplete_saves, catchAlert_first⟩,
    fun s path w v admitted direct window => ?enable, mapDisable_disables, evacCmdStart_copies, evacCmdCancel_aborts, evacCopyComplete_copies,
    fun s copied tick free apart _ _ => evacSwitch_switches s copied tick free apart,
    fun s path admitted => ⟨zeroCmdStart_begins s path admitted, zeroCmdCancel_cancels s path admitted⟩, zeroComplete_zeroes⟩
  case refresh => exact ⟨refreshObligation_owes s n cs cid bank serves cs' cid' bank', refsbIssue_pays s n cs cid bank serves⟩
  case phy =>
    exact ⟨phyPllLock_locks s n channel power, phyPllLock_online s n channel power, phyPllLock_gathers s n channel power,
      phyClockLoss_stops s n channel power⟩
  case commands =>
    refine ⟨fun st delays sound free => ⟨?_, ?_⟩, chCmdOffline_drains s path n admitted channel ready, fun st free => ⟨?_, ?_⟩,
      fun st idle => ⟨?_, ?_, ?_, ?_⟩, chCmdAbortRun_ends s path n admitted channel ready,
      chCmdSaveDelays_writes s path n admitted channel ready⟩
    · exact chCmdOnline_enters s path n admitted channel ready st delays sound free
    · exact chCmdOnline_waits s path n admitted channel ready st delays sound free
    · exact chCmdGather_enters s path n admitted channel ready st free
    · exact chCmdGather_waits s path n admitted channel ready st free
    · exact chCmdRunInj_runs s path n admitted channel ready st idle
    · exact chCmdSweep_runs s path n admitted channel ready st idle
    · exact chCmdEndGatherAccept_takes s path n admitted channel ready st idle
    · exact chCmdEndGatherFail_fails s path n admitted channel ready st idle
  case enable =>
    exact fun disabled least most unit below placement apart online =>
      mapEnable_enables s path w v admitted direct window rfl disabled least most unit ⟨below, placement, apart, online⟩

end Sys2Proof.Machine
end

section
/-! Proofs of 17_clocks_power_startup.md (R760, R761): what management holds outlasts every step of a core reset before the domains lose their power. -/

namespace Sys2Proof.Machine

/-- What no step of a core reset touches before the domains lose their power: power itself, the loader, EtherCAT, the pins, the keys, the log and
the ladle. -/
structure ManagementView where
  power : PowerState
  loader : Loader
  ecat : Ecat
  pins : PinState
  keys : Tab KeySlot
  ring : List LogEntry
  cores : Tab LcCore
  sram : Tab NWord

def managementView (s : State) : ManagementView :=
  { power := s.power, loader := s.loader, ecat := s.ecat, pins := s.pins, keys := s.dict.keys, ring := s.chill.ring, cores := s.cores, sram := s.sram }

theorem managementView_foldl {α : Type} {step : State → α → State} (keeps : ∀ s a, managementView (step s a) = managementView s) :
    ∀ (l : List α) (s : State), managementView (l.foldl step s) = managementView s
  | [], _ => rfl
  | a :: l, s => (managementView_foldl keeps l (step s a)).trans (keeps s a)

theorem OnlyNet.managementView {s t : State} (only : OnlyNet s t) : managementView t = managementView s := by rw [only]; rfl

theorem CatchMoves.managementView {s t : State} : CatchMoves s t → managementView t = managementView s := by rintro ⟨_, _, _, _, rfl⟩; rfl

section
variable (s : State)

theorem report_managementView (e : ErrRep) : managementView (report e s) = managementView s := by
  unfold report
  dsimp only
  split
  · rfl
  · rfl

theorem recoveryEnds_managementView (code kind oid : Nat) (good : Bool) : managementView (recoveryEnds code kind oid good s) = managementView s := by
  unfold recoveryEnds
  split
  · rfl
  · rfl

theorem modHeat_managementView (n sl : Nat) (g : Heat → Heat) : managementView (s.modHeat n sl g) = managementView s := rfl
theorem modVPort_managementView (n : Nat) (g : VPort → VPort) : managementView (s.modVPort n g) = managementView s := rfl
theorem modSession_managementView (n : Nat) (g : Session → Session) : managementView (s.modSession n g) = managementView s := rfl
theorem modPath_managementView (path : Nat) (g : Path → Path) : managementView (s.modPath path g) = managementView s := rfl
theorem txLeaves_managementView (n : Nat) (st : TxSt) (res : TxResult) : managementView (txLeaves n st res s) = managementView s := rfl

/-! ### A heat that ends (R548, R552) -/

theorem failHeatTx_managementView (n sl : Nat) : managementView (failHeatTx n sl s) = managementView s := by
  refine managementView_foldl (fun u k => ?_) _ s
  dsimp only
  split
  · exact txLeaves_managementView ..
  · rfl

theorem pushDue_managementView (n sl q : Nat) (poison : Bool) (ws : List Word) : managementView (pushDue n sl q poison ws s) = managementView s := by
  unfold pushDue
  split
  · rfl
  · rfl

theorem onlyNet_modProducer (i q : Nat) (g : Producer → Producer) : OnlyNet s (s.modProducer i q g) := rfl

theorem onlyNet_gatePush (i q : Nat) (w : QWord) : OnlyNet s (gatePush i q w s) := by
  unfold gatePush
  dsimp only
  split
  · exact (onlyNet_modProducer ..).trans (onlyNet_gateSend ..)
  · exact onlyNet_modProducer ..

theorem onlyNet_sendGathered (i : Nat) : OnlyNet s (sendGathered i s) := onlyNet_foldl (fun u q => onlyNet_gateSend i q u) _ s

end

theorem drainDue_managementView (n : Nat) : ∀ (ds : List Due) (s : State), managementView (drainDue n ds s).2 = managementView s
  | [], _ => rfl
  | d :: ds, s => by
    rw [drainDue]
    split
    · refine (drainDue_managementView n ds _).trans ?_
      split
      · exact modHeat_managementView ..
      · rfl
    · split
      · exact (drainDue_managementView n ds _).trans (onlyNet_gatePush ..).managementView
      · rfl

theorem drain_managementView (n : Nat) (s : State) : managementView (drain n s) = managementView s := by
  unfold drain
  exact (onlyNet_sendGathered _ (managerNode n)).managementView.trans ((modVPort_managementView ..).trans (drainDue_managementView n (s.vport n).backlog s))

/-- The heat stops and the answer to its POP is stale. -/
def heatStopped (n sl : Nat) (st : HeatSt) (cause : Nat) (s : State) : State :=
  (s.modHeat n sl (fun h => { h with st := st, cause := cause, voidIndex := h.applied, cur := [], built := [], voidPend := false })).modVPort n
    (fun p => { p with popOut := if p.popOut = some sl then some 2 else p.popOut, retry := false })

/-- The front end is told of an abort, and entry into VOIDED is logged. -/
def heatTold (n sl : Nat) (st : HeatSt) (cause : Nat) (abort : Bool) (s : State) : State :=
  let s := if abort then heatMsg n sl 0x06 [BitVec.ofNat 32 cause] s else s
  if st = .voided then reportHeat 0x3806 n sl (s.heat n sl).voidIndex s else s

theorem endHeat_eq (n sl : Nat) (st : HeatSt) (cause : Nat) (abort : Bool) (s : State) : endHeat n sl st cause abort s =
    drain n (stateEvent n sl (failHeatTx n sl (heatTold n sl st cause abort (heatStopped n sl st cause s)))) := rfl

theorem heatStopped_managementView (n sl : Nat) (st : HeatSt) (cause : Nat) (s : State) :
    managementView (heatStopped n sl st cause s) = managementView s := (modVPort_managementView ..).trans (modHeat_managementView ..)

theorem heatTold_managementView (n sl : Nat) (st : HeatSt) (cause : Nat) (abort : Bool) (s : State) :
    managementView (heatTold n sl st cause abort s) = managementView s := by
  have told : managementView (if abort then heatMsg n sl 0x06 [BitVec.ofNat 32 cause] s else s) = managementView s := by
    split
    · exact modVPort_managementView ..
    · rfl
  unfold heatTold
  dsimp only
  generalize (if abort then heatMsg n sl 0x06 [BitVec.ofNat 32 cause] s else s) = u at told
  split
  · exact (report_managementView ..).trans told
  · exact told

theorem stateEvent_managementView (n sl : Nat) (s : State) : managementView (stateEvent n sl s) = managementView s := pushDue_managementView ..

theorem endHeat_managementView (n sl : Nat) (st : HeatSt) (cause : Nat) (abort : Bool) (s : State) :
    managementView (endHeat n sl st cause abort s) = managementView s := by
  rw [endHeat_eq, drain_managementView, stateEvent_managementView, failHeatTx_managementView, heatTold_managementView, heatStopped_managementView]

theorem voidHeat_managementView (n sl cause : Nat) (abort : Bool) (s : State) : managementView (voidHeat n sl cause abort s) = managementView s := by
  unfold voidHeat
  split
  · exact endHeat_managementView ..
  · rfl

theorem voidAllHeats_managementView (cause : Nat) (s : State) : managementView (voidAllHeats cause s) = managementView s :=
  managementView_foldl (fun u n => (voidHeat_managementView n 1 cause false _).trans (voidHeat_managementView n 0 cause false u)) _ s

/-! ### The queued work of a channel (R761) -/

/-- An operation that the checks find nothing in: memory and its own channel. -/
structure ChanWorks (n : Nat) (s t : State) : Prop where
  moves : CatchMoves s t
  others : ∀ m, m ≠ n → t.chan m = s.chan m

namespace ChanWorks
variable {n : Nat} {s t u : State}

theorem refl (n : Nat) (s : State) : ChanWorks n s s := ⟨.refl s, fun _ _ => rfl⟩
theorem trans (h : ChanWorks n s t) (k : ChanWorks n t u) : ChanWorks n s u :=
  ⟨h.moves.trans k.moves, fun m other => (k.others m other).trans (h.others m other)⟩
theorem modChan (n : Nat) (s : State) (g : Channel → Channel) : ChanWorks n s (s.modChan n g) := ⟨.ofCatch (.modChan ..), State.modChan_other s n g⟩
theorem ofMemory {d : Tab (Option NWord)} (h : t = { s with dram := d }) : ChanWorks n s t := by subst h; exact ⟨⟨_, _, _, _, rfl⟩, fun _ _ => rfl⟩
theorem foldl {α : Type} {step : State → α → State} (works : ∀ s a, ChanWorks n s (step s a)) : ∀ (l : List α) (s : State), ChanWorks n s (l.foldl step s)
  | [], s => .refl n s
  | a :: l, s => (works s a).trans (foldl works l (step s a))

end ChanWorks

theorem countErrs_works (n : Nat) (o : LineOp) (ws : List NWord) (s : State) : ChanWorks n s (countErrs n o ws [] s) := .modChan ..
theorem lineDone_works (n : Nat) (ids : List Nat) (g : CatchReq → CatchReq) (s : State) : ChanWorks n s (lineDone n ids g s) := .modChan ..

theorem writeLine_works (n line : Nat) (ws : List NWord) (s : State) : ChanWorks n s (writeLine line ws s) := by
  obtain ⟨d, written⟩ := writeLine_changes line ws s
  exact .ofMemory written

theorem writeBoth_works (n addr line : Nat) (ws : List NWord) (s : State) : ChanWorks n s (writeBoth addr line ws s) := by
  obtain ⟨d, written⟩ := writeBoth_changes addr line ws s
  exact .ofMemory written

theorem performOp_works (n : Nat) (o : LineOp) (s : State) : ChanWorks n s (performOp n o [] [] s) := by
  unfold performOp
  dsimp only
  split
  · rw [queueScrub_uncorrected n o _ [] rfl]
    exact (countErrs_works ..).trans (lineDone_works ..)
  · exact writeLine_works ..
  · refine ChanWorks.trans ?_ ((writeBoth_works n ..).trans (lineDone_works ..))
    split
    · exact .refl n s
    · exact (countErrs_works ..).trans (.modChan ..)
  · rw [List.filter_nil, List.foldl_nil]
    exact (countErrs_works ..).trans ((writeBoth_works n ..).trans ((lineDone_works ..).trans (.modChan ..)))

theorem drainOps_works (n : Nat) (s : State) : ChanWorks n s (drainOps n s) :=
  (ChanWorks.modChan ..).trans (.foldl (fun u o => performOp_works n o u) _ _)

/-! ### The agent's paths (R658) -/

theorem closeSession_managementView (n : Nat) (s : State) : managementView (closeSession n s) = managementView s := by
  unfold closeSession
  dsimp only
  split
  · rfl
  · refine (modSession_managementView ..).trans ((modPath_managementView ..).trans ?_)
    split
    · exact (modSession_managementView ..).trans (report_managementView ..)
    · rfl

theorem pathReset_managementView (path : Nat) (s : State) : managementView (pathReset path s) = managementView s :=
  (modPath_managementView ..).trans (closeSession_managementView ..)

theorem EnginesStopped.managementView {s t : State} (stopped : EnginesStopped s t) : managementView t = managementView s := by rw [stopped]; rfl

theorem pcieReset_managementView (s : State) : managementView (pcieReset s) = managementView s := by
  have stopped := (enginesStopped_foldl (List.range 64) s).managementView
  have reset : pcieReset s = pathReset hostNode (((List.range 64).foldl (fun s e => dmaStop e s) s).modPcie Pcie.cleared) := rfl
  rw [reset, pathReset_managementView]
  generalize (List.range 64).foldl (fun s e => dmaStop e s) s = u at stopped
  exact stopped

theorem dropRecoveries_managementView (s : State) : managementView (dropRecoveries s) = managementView s := by
  refine managementView_foldl (fun u r => ?_) _ s
  split
  · rfl
  · exact recoveryEnds_managementView ..

end Sys2Proof.Machine
end

section
/-! Proofs of 17_clocks_power_startup.md (R760-R763): the core reset and the management reset. -/

namespace Sys2Proof.Machine

/-! ### Tables whose every value changes -/

section
variable {α : Type} [DecidableEq α] {d : α} {g : Nat → α → α}

/-- What holds of the default and of every value that is made holds of every value. -/
theorem Tab.mapVals_all {P : α → Prop} (default : P d) (made : ∀ k v, P (g k v)) : ∀ (t : Tab α) (k : Nat), P (Tab.get d (Tab.mapVals d g t) k)
  | [], _ => default
  | (j, v) :: t, k => by
    rw [Tab.mapVals]
    split
    · exact Tab.mapVals_all default made t k
    · rw [Tab.get]
      split
      · exact made j v
      · exact Tab.mapVals_all default made t k

/-- A table in canonical form has each value's image, where the default is its own. -/
theorem Tab.get_mapVals_wf (fixed : ∀ k, g k d = d) (k : Nat) : ∀ t : Tab α, Tab.wf d t = true → Tab.get d (Tab.mapVals d g t) k = g k (Tab.get d t k)
  | [], _ => (fixed k).symm
  | (j, v) :: t, canonical => by
    obtain ⟨-, above, rest⟩ := (Tab.wf_cons ..).1 canonical
    have image := Tab.get_mapVals_wf fixed k t rest
    rw [Tab.mapVals]
    rcases eq_or_ne k j with rfl | other
    · rw [show Tab.get d ((k, v) :: t) k = v from if_pos rfl]
      split
      · next lost => rw [lost, image, Tab.get_above d t k above, fixed]
      · exact if_pos rfl
    · rw [show Tab.get d ((j, v) :: t) k = Tab.get d t k from if_neg other]
      split
      · exact image
      · exact (if_neg other).trans image

end

/-! ### The core domain without power (R755, R761) -/

/-- The loader without a load: the slots stand unless delays were being saved. -/
structure LoaderIdle (l m : Loader) : Prop where
  st : m.st = .idle
  session : m.session = l.session
  released : m.released = l.released
  slots : l.saving = none → m.slots = l.slots

theorem loaderIdle_changes (s : State) : ∃ l, loaderIdle s = { s with loader := l } ∧ LoaderIdle s.loader l := by
  unfold loaderIdle
  cases saving : s.loader.saving with
  | none => exact ⟨_, rfl, rfl, rfl, rfl, fun _ => rfl⟩
  | some n => exact ⟨_, rfl, rfl, rfl, rfl, fun none => absurd (saving.symm.trans none) (Option.some_ne_none n)⟩

/-- The core domain has lost what it held; management's blocks stand. -/
structure CoreCleared (s t : State) : Prop where
  power : t.power = s.power
  ecat : t.ecat = s.ecat
  pins : t.pins = s.pins
  keys : t.dict.keys = s.dict.keys
  ring : t.chill.ring = s.chill.ring
  cores : t.cores = s.cores
  sram : t.sram = s.sram
  tun : t.tun = .reset
  cup : t.cup = .reset
  recasts : t.recasts = []
  lmap : t.lmap = []
  loader : t.loader.st = .idle ∧ t.loader.released = false ∧ (s.loader.saving = none → t.loader.slots = s.loader.slots)

theorem coreOff_clears (s : State) : CoreCleared s (coreOff s) := by
  have view : managementView (dropRecoveries (pcieReset s)) = managementView s :=
    (dropRecoveries_managementView ..).trans (pcieReset_managementView s)
  unfold coreOff
  dsimp only
  generalize dropRecoveries (pcieReset s) = u at view
  obtain ⟨l, changes, idle⟩ := loaderIdle_changes ((u.clearSettings 0x3000 0x4FFF).clearSettings 0x2600 0x26FF)
  rw [changes]
  have loader : u.loader = s.loader := congrArg ManagementView.loader view
  exact {
    power := congrArg ManagementView.power view
    ecat := congrArg ManagementView.ecat view
    pins := congrArg ManagementView.pins view
    keys := congrArg ManagementView.keys view
    ring := congrArg ManagementView.ring view
    cores := congrArg ManagementView.cores view
    sram := congrArg ManagementView.sram view
    tun := rfl
    cup := rfl
    recasts := rfl
    lmap := rfl
    loader := ⟨idle.st, rfl, fun none => (idle.slots ((congrArg Loader.saving loader).trans none)).trans (congrArg Loader.slots loader)⟩ }

theorem ladleOff_changes (s : State) : ∃ d, ladleOff s = { s with dict := { s.dict with settings := d }, cores := [], sram := [], pdoIrq := 0 } := ⟨_, rfl⟩

/-- Every domain is off, but for those of management. -/
def domsOff (t : Tab Dom) : Tab Dom := Tab.mapVals Dom.reset (fun _ x => { x with st := .off, granted := false, holdRet := false }) t

theorem domsOff_off (t : Tab Dom) (d : Nat) : (Tab.get Dom.reset (domsOff t) d).st = .off :=
  Tab.mapVals_all (P := fun x : Dom => x.st = .off) rfl (fun _ _ => rfl) t d

/-- Everything outside management has lost its power. -/
structure AllOff (s t : State) : Prop where
  power : t.power = { s.power with doms := domsOff s.power.doms, wanted := 0 }
  ecat : t.ecat = s.ecat
  pins : t.pins = s.pins
  keys : t.dict.keys = s.dict.keys
  ring : t.chill.ring = s.chill.ring
  blocks : t.flasks = [] ∧ t.crus = [] ∧ t.cores = [] ∧ t.sram = [] ∧ t.tun = .reset ∧ t.cup = .reset ∧ t.villet = .reset ∧ t.recasts = [] ∧ t.lmap = []
  loader : t.loader.released = false ∧ t.loader.st = .idle ∧ (s.loader.saving = none → t.loader.slots = s.loader.slots)

theorem allOff_off (s : State) : AllOff s (allOff s) := by
  obtain ⟨d, ladle⟩ := ladleOff_changes s
  have core := coreOff_clears (ladleOff s)
  unfold allOff
  dsimp only
  generalize coreOff (ladleOff s) = u at core
  rw [ladle] at core
  obtain ⟨power, ecat, pins, keys, ring, cores, sram, tun, cup, recasts, lmap, idle, released, slots⟩ := core
  exact {
    power := congrArg (fun p : PowerState => { p with doms := domsOff p.doms, wanted := 0 }) power
    ecat := ecat
    pins := pins
    keys := keys
    ring := ring
    blocks := ⟨rfl, rfl, cores, sram, tun, cup, rfl, recasts, lmap⟩
    loader := ⟨released, idle, slots⟩ }

/-! ### The core domain starts again (R758, R761) -/

theorem rampDomain_dom (d : Nat) (s : State) : (rampDomain d s).dom d = { s.dom d with st := .ramping, granted := false } :=
  State.modDom_same ..

theorem rampDomain_dom_ne {d e : Nat} (s : State) (other : e ≠ d) : (rampDomain d s).dom e = s.dom e :=
  State.modDom_ne _ _ _ _ other

theorem powerUp_core (s : State) (off : (s.dom 87).st = .off) : powerUp 87 s = if s.power.good1 then rampDomain 87 s else s := by
  have supply : supplied s 87 = s.power.good1 := Bool.and_true _
  rw [powerUp, supply, off]
  cases s.power.good1
  · rfl
  · rfl

/-- The core domain ramps where the PLL is locked and its supply is good; nothing else changes. -/
structure CoreStarts (s t : State) : Prop where
  changes : ∃ d, t = { s with power := { s.power with doms := d } }
  core : (t.dom 87).st = if s.power.good1 && s.power.pllLocked then .ramping else .off
  others : ∀ d, d ≠ 87 → t.dom d = s.dom d

theorem startCore_starts (s : State) (off : (s.dom 87).st = .off) : CoreStarts s (startCore s) := by
  rw [startCore, powerUp_core s off]
  cases locked : s.power.pllLocked with
  | false => exact ⟨⟨s.power.doms, rfl⟩, by rw [locked, Bool.and_false]; exact off, fun _ _ => rfl⟩
  | true =>
    cases good : s.power.good1 with
    | false => exact ⟨⟨s.power.doms, rfl⟩, by rw [good, Bool.false_and]; exact off, fun _ _ => rfl⟩
    | true =>
      rw [if_pos rfl, if_pos rfl]
      refine ⟨⟨_, rfl⟩, ?_, fun d other => rampDomain_dom_ne s other⟩
      rw [good, locked, rampDomain_dom]
      rfl

/-! ### The core reset (R760, R761) -/

/-- The reset is counted with its cause, and a device in Hold leaves it (R761, R766). -/
def coreCounted (cause : Nat) (p : PowerState) : PowerState :=
  let q := { p with coreCause := BitVec.ofNat 4 cause, coreResets := p.coreResets + 1 }
  if q.hold = .running then q else { q with hold := .exiting, dimmPwren := 0xFF, dimmWait := true }

theorem coreCounted_fields (cause : Nat) (p : PowerState) : (coreCounted cause p).coreCause = BitVec.ofNat 4 cause ∧
    (coreCounted cause p).coreResets = p.coreResets + 1 ∧ (coreCounted cause p).doms = p.doms ∧ (coreCounted cause p).mgmtResets = p.mgmtResets ∧
    (coreCounted cause p).hold = if p.hold = .running then .running else .exiting := by
  unfold coreCounted
  dsimp only
  split
  · next running => exact ⟨rfl, rfl, rfl, rfl, running⟩
  · exact ⟨rfl, rfl, rfl, rfl, rfl⟩

/-- The heats are voided, and the channels that can drain have. -/
def coreDrained (undrained : List Nat) (s : State) : State :=
  (List.range 8).foldl (fun s n => if chanActive s n && !undrained.contains n then drainOps n s else s) (voidAllHeats 8 s)

theorem coreDrained_managementView (undrained : List Nat) (s : State) : managementView (coreDrained undrained s) = managementView s := by
  refine (managementView_foldl (fun u n => ?_) _ _).trans (voidAllHeats_managementView 8 s)
  split
  · exact (drainOps_works n u).moves.managementView
  · rfl

theorem coreReset_eq (cause : Nat) (undrained : List Nat) (s : State) : coreReset cause undrained s =
    startCore ((allOff (coreDrained undrained s)).modPower (coreCounted cause)) := by
  have counted (u : State) : (if (u.modPower (fun p => { p with coreCause := BitVec.ofNat 4 cause, coreResets := p.coreResets + 1 })).power.hold = .running
      then u.modPower (fun p => { p with coreCause := BitVec.ofNat 4 cause, coreResets := p.coreResets + 1 })
      else (u.modPower (fun p => { p with coreCause := BitVec.ofNat 4 cause, coreResets := p.coreResets + 1 })).modPower
        (fun p => { p with hold := .exiting, dimmPwren := 0xFF, dimmWait := true })) = u.modPower (coreCounted cause) := by
    unfold coreCounted
    split
    · next running => exact congrArg (fun p => { u with power := p }) (if_pos running).symm
    · next held => exact congrArg (fun p => { u with power := p }) (if_neg held).symm
  unfold coreReset coreDrained
  exact congrArg startCore (counted _)

theorem coreReset_resets (cause : Nat) (undrained : List Nat) (s : State) : CoreWasReset s (coreReset cause undrained s) cause ∧
    (coreReset cause undrained s).power.hold = (if s.power.hold = .running then .running else .exiting) := by
  have view := coreDrained_managementView undrained s
  have off := allOff_off (coreDrained undrained s)
  rw [coreReset_eq]
  generalize coreDrained undrained s = u at view off
  generalize allOff u = v at off
  have power : u.power = s.power := congrArg ManagementView.power view
  have loader : u.loader = s.loader := congrArg ManagementView.loader view
  obtain ⟨offPower, ecat, pins, keys, ring, ⟨flasks, crus, cores, sram, tun, cup, villet, recasts, lmap⟩, released, idle, slots⟩ := off
  obtain ⟨causes, counts, doms, mgmt, hold⟩ := coreCounted_fields cause v.power
  have allOff (d : Nat) : ((v.modPower (coreCounted cause)).dom d).st = .off := by
    rw [State.dom, show (v.modPower (coreCounted cause)).power.doms = v.power.doms from doms, offPower]
    exact domsOff_off ..
  obtain ⟨⟨d, changes⟩, core, others⟩ := startCore_starts (v.modPower (coreCounted cause)) (allOff 87)
  generalize startCore (v.modPower (coreCounted cause)) = t at changes core others
  have resets : v.power.coreResets = s.power.coreResets := by rw [offPower, power]
  have mgmtResets : v.power.mgmtResets = s.power.mgmtResets := by rw [offPower, power]
  have held : v.power.hold = s.power.hold := by rw [offPower, power]
  rw [held] at hold
  have offs (e : Nat) (gated : e < 87) : (t.dom e).st = .off := by rw [others e (by omega), allOff e]
  subst changes
  refine ⟨⟨causes, counts.trans (congrArg (· + 1) resets), offs, core, flasks, crus, cores, sram, tun, cup, villet, recasts, lmap, released, idle, fun none => ?_,
    ecat.trans (congrArg ManagementView.ecat view), pins.trans (congrArg ManagementView.pins view), keys.trans (congrArg ManagementView.keys view),
    ring.trans (congrArg ManagementView.ring view), mgmt.trans mgmtResets⟩, hold⟩
  exact (slots ((congrArg Loader.saving loader).trans none)).trans (congrArg Loader.slots loader)

theorem Answered.keys {s t : State} : Answered s t → t.dict.keys = s.dict.keys := by rintro ⟨_, _, _, _, rfl⟩; rfl

/-- An access of the agent around a reset touches nothing that the reset is said to leave. -/
theorem CoreWasReset.answered {s u v t : State} {cause : Nat} (reset : CoreWasReset u v cause) : Answered s u → Answered v t → CoreWasReset s t cause := by
  rintro ⟨_, _, _, _, rfl⟩ ⟨_, _, _, _, rfl⟩
  exact reset

theorem rstCmdCore_resets {s : State} {path : Nat} (undrained : List Nat) (admitted : Admitted s path 0x2120 1 2) :
    Answers (.rstCmdCore path undrained) s (fun t => CoreWasReset s t 1 ∧ t.power.hold = (if s.power.hold = .running then .running else .exiting)) := by
  have touched := Answered.touch path s
  have run : exec (.rstCmdCore path undrained) s = _ := dictCommand_admitted (act := fun s => .ok (coreReset 1 undrained s)) admitted rfl
  generalize touch path s = u at touched run
  obtain ⟨reset, hold⟩ := coreReset_resets 1 undrained u
  have answered := Answered.accept path 0x2120 1 (coreReset 1 undrained u)
  exact ⟨_, run, reset.answered touched answered, by rw [answered.power, hold, touched.power]⟩

/-! ### The management reset (R760, R762) -/

theorem clearSettings_changes (s : State) (lo hi : Nat) : ∃ d, s.clearSettings lo hi = { s with dict := { s.dict with settings := d } } := ⟨_, rfl⟩

theorem mgmtSettings_changes (s : State) : ∃ d, mgmtSettings s = { s with dict := { s.dict with settings := d } } := by
  unfold mgmtSettings
  obtain ⟨d, first⟩ := clearSettings_changes s 0x1000 0x20FF
  obtain ⟨d', second⟩ := clearSettings_changes { s with dict := { s.dict with settings := d } } 0x2200 0x23FF
  obtain ⟨d'', third⟩ := clearSettings_changes { s with dict := { s.dict with settings := d' } } 0x2400 0x240F
  rw [first, second, third]
  exact clearSettings_changes { s with dict := { s.dict with settings := d'' } } 0x6000 0x6FFF

/-- A load session is lost with what it had written (R762). -/
def sessionLost (s : State) : State :=
  match s.loader.session with
  | some e => s.modArea e.slot e.area (fun a => { a with st := .invalid })
  | none => s

theorem sessionLost_changes (s : State) : ∃ m, sessionLost s = { s with loader := { s.loader with slots := m } } := by
  unfold sessionLost
  split
  · exact State.modArea_changes ..
  · exact ⟨s.loader.slots, rfl⟩

theorem keysKept_key {ks : Tab KeySlot} (canonical : Tab.wf KeySlot.reset ks = true) (k : Nat) :
    Tab.get KeySlot.reset (keysKept ks) k = { Tab.get KeySlot.reset ks k with data := [] } :=
  Tab.get_mapVals_wf (fun _ => rfl) k ks canonical

theorem mgmtReset_resets {s : State} (cause : Nat) (canonical : Tab.wf KeySlot.reset s.dict.keys = true) :
    ManagementWasReset s (mgmtReset cause s) cause := by
  obtain ⟨m, lost⟩ := sessionLost_changes s
  obtain ⟨d, cleared⟩ := mgmtSettings_changes { s with loader := { s.loader with slots := m } }
  obtain ⟨l, changes, idle⟩ := loaderIdle_changes
    { s with loader := { s.loader with slots := m }, dict := { s.dict with settings := d } }
  have resets : mgmtReset cause s =
      { (((loaderIdle (mgmtSettings (sessionLost s))).modLoader
          (fun l => { l with session := none, error := 0, releases := 0, scpRetries := 0, frames := 0 })).modPower
            (fun p => { p with mgmtCause := BitVec.ofNat 4 cause, mgmtResets := p.mgmtResets + 1 })) with
        dict := { DictState.reset with
          keys := keysKept (loaderIdle (mgmtSettings (sessionLost s))).dict.keys, settings := (loaderIdle (mgmtSettings (sessionLost s))).dict.settings }
        chill := .reset
        ecat := { Ecat.reset with sii := (loaderIdle (mgmtSettings (sessionLost s))).ecat.sii, links := (loaderIdle (mgmtSettings (sessionLost s))).ecat.links }
        dcRunning := false, dcTime := 0, dcQuarter := 0 } := rfl
  rw [resets, lost, cleared, changes]
  refine ⟨rfl, rfl, rfl, fun k => ?_, rfl, rfl, rfl, idle.st, rfl, idle.released, rfl⟩
  show (Tab.get KeySlot.reset (keysKept s.dict.keys) k).key = _ ∧ (Tab.get KeySlot.reset (keysKept s.dict.keys) k).level = _ ∧
    (Tab.get KeySlot.reset (keysKept s.dict.keys) k).data = _
  rw [keysKept_key canonical]
  exact ⟨rfl, rfl, rfl⟩

theorem ManagementWasReset.answered {s u v t : State} {cause : Nat} (reset : ManagementWasReset u v cause) :
    Answered s u → Answered v t → ManagementWasReset s t cause := by
  rintro ⟨_, _, _, _, rfl⟩ ⟨_, _, _, _, rfl⟩
  obtain ⟨power, stopped, sessions, keys, chill, ecat, dc, idle, session, released, machine⟩ := reset
  refine ⟨power, stopped, sessions, keys, chill, ecat, dc, idle, session, released, ?_⟩
  rw [machine]

theorem rstCmdMgmt_resets {s : State} {path : Nat} (admitted : Admitted s path 0x2120 1 2) (canonical : Tab.wf KeySlot.reset s.dict.keys = true) :
    Answers (.rstCmdMgmt path) s (fun t => ManagementWasReset s t 1) := by
  have touched := Answered.touch path s
  have run : exec (.rstCmdMgmt path) s = _ := dictCommand_admitted (act := fun s => .ok (mgmtReset 1 s)) admitted rfl
  have reset := mgmtReset_resets (s := touch path s) 1 (by rw [touched.keys]; exact canonical)
  generalize touch path s = u at touched run reset
  exact ⟨_, run, reset.answered touched (.accept path 0x2120 1 _)⟩

theorem mgmtAutoReset_resets (s : State) (stopped : s.dict.stopped = true) (canonical : Tab.wf KeySlot.reset s.dict.keys = true) :
    Answers .mgmtAutoReset s (fun t => ManagementWasReset s t 2) :=
  ⟨_, event_of stopped _ _, mgmtReset_resets 2 canonical⟩

end Sys2Proof.Machine
end

section
/-! Proofs of 17_clocks_power_startup.md (R764-R766) and 09_catch_memory.md (R464, R465): Hold is entered and left. -/

namespace Sys2Proof.Machine

/-! ### A refused access (R633, R636) -/

/-- An access that comes while the path holds no half of another is taken up with no answer of its own. -/
theorem touch_free {s : State} {path : Nat} (free : (s.path path).held = none) :
    touch path s = s.modPath path (fun p => { p with held := none, stream := none, lastAccess := s.power.pour }) := by
  rw [touch, free]

theorem refused_touch {s : State} {path : Nat} (free : (s.path path).held = none) (idx sub : Nat) (code : Word) :
    Refused s (refuse path idx sub code (touch path s)) path idx sub code := by
  refine ⟨fun mailbox => ?_, fun bus => ?_, ((Answered.touch path s).trans (.refuse ..)).onlyAnswered⟩
  · have sent : (refuse path idx sub code (touch path s)).out = s.out ++ [.sdoAbort idx sub code] := by
      rw [refuse, if_pos mailbox, touch_free free]
      rfl
    rw [sent, List.drop_left]
    exact List.mem_singleton_self _
  · have taken : (touch path s).path path = { s.path path with held := none, stream := none, lastAccess := s.power.pour } := by
      rw [touch_free free, State.modPath_same]
    rw [refuse, if_neg bus, State.modPath_same, netWack_path, taken]
    exact ⟨rfl, rfl, rfl⟩

/-- An access that its own conditions refuse: nothing of the machine changes but the agent's answer. -/
theorem dictCommand_refuses {s : State} {path idx sub level : Nat} {act : State → Except Word State} {code : Word}
    (admitted : Admitted s path idx sub level) (free : (s.path path).held = none) (refuses : ∀ u, Answered s u → act u = .error code) :
    ∃ t, dictCommand path idx sub level act s = .next t ∧ Refused s t path idx sub code ∧ Answered s t := by
  obtain ⟨reaches, gate, _⟩ := admitted
  have touched := Answered.touch path s
  exact ⟨_, dictCommand_refused reaches (.inr ⟨gate, refuses _ touched⟩), refused_touch free idx sub code, touched.trans (.refuse ..)⟩

theorem need_error {α : Type} {c : Bool} {code : Word} {k : Except Word α} (fails : c = false) : need c code k = .error code :=
  if_neg (by rw [fails]; exact Bool.false_ne_true)

/-! ### Objects changed in turn -/

section
variable {β : Type} {get : State → Nat → β} {step : State → Nat → State} (others : ∀ s a n, n ≠ a → get (step s a) n = get s n)
include others

theorem foldl_apart {n : Nat} (l : List Nat) (s : State) (apart : n ∉ l) : get (l.foldl step s) n = get s n := by
  induction l generalizing s with
  | nil => rfl
  | cons a l ih =>
    have other : n ≠ a := fun same => apart (same ▸ List.mem_cons_self)
    exact (ih (step s a) (fun member => apart (List.mem_cons_of_mem a member))).trans (others s a n other)

/-- Where each step of a fold concerns one object and leaves the others, every object named once stands as its own step has made it. -/
theorem foldl_each {P : Nat → β → β → Prop} (here : ∀ s a, P a (get s a) (get (step s a) a)) {n : Nat} (l : List Nat) (s : State)
    (distinct : l.Nodup) (member : n ∈ l) : P n (get s n) (get (l.foldl step s) n) := by
  induction l generalizing s with
  | nil => exact absurd member List.not_mem_nil
  | cons a l ih =>
    obtain ⟨apart, distinct'⟩ := List.nodup_cons.mp distinct
    rw [List.foldl_cons]
    rcases List.mem_cons.mp member with rfl | later
    · rw [foldl_apart others l _ apart]
      exact here s n
    · have other : n ≠ a := fun same => apart (same ▸ later)
      rw [← others s a n other]
      exact ih (step s a) distinct' later

/-- The numbers below a bound, each in turn. -/
theorem foldl_range {P : Nat → β → β → Prop} (here : ∀ s a, P a (get s a) (get (step s a) a)) {n count : Nat} (below : n < count) (s : State) :
    P n (get s n) (get ((List.range count).foldl step s) n) :=
  foldl_each others here _ s List.nodup_range (List.mem_range.mpr below)

end

end Sys2Proof.Machine
end

section
/-! Proofs of 17_clocks_power_startup.md (R764, R765) and 09_catch_memory.md (R464): Hold is entered. Its links are disabled, then its channels are held, then its
domains close: each step concerns one port, one channel or one domain. -/

namespace Sys2Proof.Machine

/-! ### Links (R765) -/

/-- Link `n` and the log may have changed. -/
structure LinkOnly (n : Nat) (s t : State) : Prop where
  changes : ∃ c v, t = { s with chill := c, villet := v }
  others : ∀ m, m ≠ n → t.vport m = s.vport m

namespace LinkOnly
variable {n : Nat} {s t u : State}

theorem refl (n : Nat) (s : State) : LinkOnly n s s := ⟨⟨_, _, rfl⟩, fun _ _ => rfl⟩
theorem trans : LinkOnly n s t → LinkOnly n t u → LinkOnly n s u := by
  rintro ⟨⟨_, _, rfl⟩, others⟩ ⟨⟨_, _, rfl⟩, others'⟩
  exact ⟨⟨_, _, rfl⟩, fun m other => (others' m other).trans (others m other)⟩
theorem modVPort (n : Nat) (s : State) (g : VPort → VPort) : LinkOnly n s (s.modVPort n g) :=
  ⟨⟨_, _, rfl⟩, fun _ other => Tab.get_modify_ne _ _ _ _ _ other⟩
theorem recoveryEnds (n code kind oid : Nat) (good : Bool) (s : State) : LinkOnly n s (recoveryEnds code kind oid good s) := by
  unfold Machine.recoveryEnds
  split
  · exact ⟨⟨_, _, rfl⟩, fun _ _ => rfl⟩
  · exact .refl n s
theorem foldl {α : Type} {step : State → α → State} (only : ∀ s a, LinkOnly n s (step s a)) (l : List α) (s : State) : LinkOnly n s (l.foldl step s) := by
  induction l generalizing s with
  | nil => exact .refl n s
  | cons a l ih => exact (only s a).trans (ih (step s a))
theorem endRecs (n : Nat) (good : Bool) (which : Nat × Nat → Bool) (s : State) : LinkOnly n s (endRecs n good which s) :=
  (LinkOnly.foldl (fun u (r : Nat × Nat) => .recoveryEnds n r.1 0x0B n good u) _ s).trans (.modVPort ..)
theorem linkReset (n : Nat) (s : State) : LinkOnly n s (linkReset n s) := (LinkOnly.endRecs ..).trans (.modVPort ..)
theorem enterLink (n : Nat) (st : LinkSt) (s : State) : LinkOnly n s (enterLink n st s) := by
  unfold Machine.enterLink
  refine LinkOnly.trans ?_ (.modVPort ..)
  split
  · exact .endRecs ..
  · exact .refl n s

end LinkOnly

theorem enterLink_st (n : Nat) (st : LinkSt) (s : State) : ((enterLink n st s).vport n).st = st :=
  congrArg VPort.st (Tab.get_modify_same VPort.reset _ n (fun p => { p with st := st, resend := [], replayAck := none }))

/-- Every link is reset and disabled. -/
def linksDisabled (s : State) : State := (List.range 6).foldl (fun s n => enterLink n .disabled (linkReset n s)) s

theorem linkDisabled_only (n : Nat) (s : State) : LinkOnly n s (enterLink n .disabled (linkReset n s)) := (LinkOnly.linkReset ..).trans (.enterLink ..)

theorem linksDisabled_changes (s : State) : ∃ c v, linksDisabled s = { s with chill := c, villet := v } := by
  unfold linksDisabled
  induction List.range 6 generalizing s with
  | nil => exact ⟨_, _, rfl⟩
  | cons n l ih =>
    obtain ⟨c, v, first⟩ := (linkDisabled_only n s).changes
    rw [List.foldl_cons, first]
    obtain ⟨c', v', rest⟩ := ih { s with chill := c, villet := v }
    exact ⟨c', v', rest⟩

theorem linksDisabled_st (s : State) {n : Nat} (port : n < 6) : ((linksDisabled s).vport n).st = .disabled :=
  foldl_range (get := State.vport) (fun u a m other => (linkDisabled_only a u).others m other) (P := fun _ _ p => p.st = .disabled)
    (fun _ _ => enterLink_st ..) port s

/-! ### Channels (R447, R464) -/

theorem MemoryMoves.works {s t : State} (n : Nat) (moves : MemoryMoves s t) : ChanWorks n s t := ⟨moves.moves, fun m _ => moves.chan m⟩
theorem OnlyNet.works {s t : State} (n : Nat) (only : OnlyNet s t) : ChanWorks n s t := ⟨.ofNet only, fun m _ => only.chan m⟩

theorem answerOffline_works (n : Nat) (s : State) : ChanWorks n s (answerOffline n s) :=
  ((onlyNet_foldl (fun _ _ => onlyNet_answer ..) _ s).works n).trans (.modChan ..)

theorem drainChannel_works (n : Nat) (s : State) : ChanWorks n s (drainChannel n s) := by
  unfold drainChannel
  split
  · exact .refl n s
  · exact (drainOps_works n s).trans (((chanLeaves_moves n _).works n).trans ((answerOffline_works n _).trans
      ((ChanWorks.modChan ..).trans ((onlyNet_setPort ..).works n))))

theorem holdChannel_works (n : Nat) (s : State) : ChanWorks n s (holdChannel s n) := (drainChannel_works n s).trans (.modChan ..)

/-- Every channel is drained and held. -/
def channelsHeld (s : State) : State := (List.range 8).foldl holdChannel s

theorem channelsHeld_moves (s : State) : CatchMoves s (channelsHeld s) := by
  unfold channelsHeld
  induction List.range 8 generalizing s with
  | nil => exact .refl s
  | cons n l ih => exact (holdChannel_works n s).moves.trans (ih _)

theorem channelsHeld_held (s : State) {n : Nat} (channel : n < 8) :
    ((channelsHeld s).chan n).held = true ∧ ((channelsHeld s).chan n).wasOnline = decide ((s.chan n).st = .online) := by
  refine foldl_range (get := State.chan) (fun u a m other => (holdChannel_works a u).others m other)
    (P := fun _ c d => d.held = true ∧ d.wasOnline = decide (c.st = .online)) (fun u a => ?_) channel s
  rw [holdChannel, State.modChan_same]
  exact ⟨rfl, rfl⟩

/-! ### Domains (R765) -/

/-- Domain `d`, the ports and the lock of a channel may have changed. -/
structure DomainOnly (d : Nat) (s t : State) : Prop where
  changes : ∃ p c w, t = { s with power := { s.power with doms := p }, catch' := c, net := w }
  others : ∀ e, e ≠ d → t.dom e = s.dom e
  chans : ∀ n, (t.chan n).held = (s.chan n).held ∧ (t.chan n).wasOnline = (s.chan n).wasOnline

theorem closeDomain_onlyNet (d : Nat) (s : State) : OnlyNet (s.modDom d (fun x => { x with st := .closing })) (closeDomain d s) :=
  onlyNet_foldl (fun u (p : Nat × Nat) => onlyNet_closePort p.1 p.2 u) _ _

theorem OnlyNet.dom {s t : State} (only : OnlyNet s t) (d : Nat) : t.dom d = s.dom d := by rw [only]; rfl

theorem modDom_only (d : Nat) (g : Dom → Dom) (s : State) : DomainOnly d s (s.modDom d g) :=
  ⟨⟨_, _, _, rfl⟩, fun _ other => State.modDom_ne _ _ _ _ other, fun _ => ⟨rfl, rfl⟩⟩

theorem DomainOnly.trans {d : Nat} {s t u : State} : DomainOnly d s t → DomainOnly d t u → DomainOnly d s u := by
  rintro ⟨⟨_, _, _, rfl⟩, others, chans⟩ ⟨⟨_, _, _, rfl⟩, others', chans'⟩
  exact ⟨⟨_, _, _, rfl⟩, fun e other => (others' e other).trans (others e other),
    fun n => ⟨(chans' n).1.trans (chans n).1, (chans' n).2.trans (chans n).2⟩⟩

theorem OnlyNet.domainOnly {s t : State} (d : Nat) (only : OnlyNet s t) : DomainOnly d s t :=
  ⟨⟨_, _, _, only⟩, fun e _ => only.dom e, fun n => by rw [only.chan]; exact ⟨rfl, rfl⟩⟩

theorem unlocked_only (d n : Nat) (s : State) : DomainOnly d s (s.modChan n (fun c => { c with locked := false })) := by
  refine ⟨⟨_, _, _, rfl⟩, fun _ _ => rfl, fun m => ?_⟩
  rcases eq_or_ne m n with rfl | other
  · rw [State.modChan_same]
    exact ⟨rfl, rfl⟩
  · rw [State.modChan_ne _ _ other]
    exact ⟨rfl, rfl⟩

theorem holdDomain_only (d : Nat) (s : State) : DomainOnly d s (holdDomain s d) := by
  unfold holdDomain
  split
  · exact modDom_only ..
  · split
    · exact (modDom_only ..).trans (unlocked_only ..)
    · exact (modDom_only ..).trans ((closeDomain_onlyNet d s).domainOnly d)

theorem holdDomain_closes {d : Nat} {s : State} (plain : d < 72) (on : (s.dom d).st = .on) : ((holdDomain s d).dom d).st = .closing := by
  have closes : holdDomain s d = closeDomain d s := by
    rw [holdDomain, on, if_neg (by decide), if_neg (by rw [decide_eq_false (by omega)]; exact Bool.false_ne_true)]
  rw [closes, (closeDomain_onlyNet d s).dom, State.modDom_same]

/-- Every domain but the retained PHYs closes. -/
def domainsHeld (s : State) : State := (List.range 88).foldl holdDomain s

theorem domainsHeld_changes (s : State) : (∃ p c w, domainsHeld s = { s with power := { s.power with doms := p }, catch' := c, net := w }) ∧
    ∀ n, ((domainsHeld s).chan n).held = (s.chan n).held ∧ ((domainsHeld s).chan n).wasOnline = (s.chan n).wasOnline := by
  unfold domainsHeld
  induction List.range 88 generalizing s with
  | nil => exact ⟨⟨_, _, _, rfl⟩, fun _ => ⟨rfl, rfl⟩⟩
  | cons d l ih =>
    obtain ⟨⟨p, c, w, first⟩, _, chans⟩ := holdDomain_only d s
    obtain ⟨⟨p', c', w', rest⟩, chans'⟩ := ih (holdDomain s d)
    rw [List.foldl_cons]
    refine ⟨⟨p', c', w', ?_⟩, fun n => ⟨(chans' n).1.trans (chans n).1, (chans' n).2.trans (chans n).2⟩⟩
    rw [rest, first]

theorem domainsHeld_closing (s : State) {d : Nat} (plain : d < 72) (on : (s.dom d).st = .on) : ((domainsHeld s).dom d).st = .closing :=
  foldl_range (get := State.dom) (fun u a e other => (holdDomain_only a u).others e other)
    (P := fun d x y => d < 72 → x.st = .on → y.st = .closing) (fun _ _ plain on => holdDomain_closes plain on) (Nat.lt_trans plain (by decide)) s plain on

/-! ### HOLD_CMD ENTER (R764, R765) -/

/-- The machine with its links disabled and its channels held, its domains about to close. -/
def holdReady (s : State) : State :=
  (forgetUnretained (channelsHeld (linksDisabled s))).modPower (fun p =>
    { p with hold := .entering, holdEmergency := false, dimmPwren := holdPwren (forgetUnretained (channelsHeld (linksDisabled s))) })

theorem forgetUnretained_changes (s : State) : ∃ d, forgetUnretained s = { s with dram := d } := ⟨_, rfl⟩

theorem holdReady_changes (s : State) : ∃ p d, holdReady s = { channelsHeld (linksDisabled s) with power := p, dram := d } ∧ p.hold = .entering ∧
    p.holdEmergency = false ∧ p.doms = (channelsHeld (linksDisabled s)).power.doms := by
  unfold holdReady
  generalize channelsHeld (linksDisabled s) = u
  obtain ⟨d, forgot⟩ := forgetUnretained_changes u
  rw [forgot]
  exact ⟨_, d, rfl, rfl, rfl, rfl⟩

theorem holdEnter_enters {s : State} (allowed : holdAllowed s = true) : holdEnter s = .ok (domainsHeld (holdReady s)) := need_ok allowed

/-- What the machine is once Hold has been entered. -/
structure HoldEntered (s t : State) : Prop where
  hold : t.power.hold = .entering
  calm : t.power.holdEmergency = false
  held : ∀ n, n < 8 → (t.chan n).held = true ∧ (t.chan n).wasOnline = decide ((s.chan n).st = .online)
  links : ∀ n, n < 6 → (t.vport n).st = .disabled
  closing : ∀ d, d < 72 → (s.dom d).st = .on → (t.dom d).st = .closing

theorem holdReady_entered (s : State) : HoldEntered s (domainsHeld (holdReady s)) := by
  obtain ⟨c, v, links⟩ := linksDisabled_changes s
  have disabled (n : Nat) (port : n < 6) := linksDisabled_st s port
  have held (n : Nat) (channel : n < 8) := channelsHeld_held (linksDisabled s) channel
  have moves := channelsHeld_moves (linksDisabled s)
  obtain ⟨p, e, ready, hold, calm, doms⟩ := holdReady_changes s
  have closing (d : Nat) (plain : d < 72) (on : ((holdReady s).dom d).st = .on) := domainsHeld_closing (holdReady s) plain on
  obtain ⟨⟨q, k, w, closed⟩, chans⟩ := domainsHeld_changes (holdReady s)
  generalize domainsHeld (holdReady s) = t at closing closed chans
  generalize holdReady s = h at ready closing closed chans
  generalize channelsHeld (linksDisabled s) = x at held moves ready doms
  generalize linksDisabled s = l at links disabled held moves
  obtain ⟨_, _, _, _, rfl⟩ := moves
  subst ready closed links
  exact {
    hold := hold
    calm := calm
    held := fun n channel => ⟨(chans n).1.trans (held n channel).1, (chans n).2.trans (held n channel).2⟩
    links := disabled
    closing := fun d plain on => closing d plain (by rw [State.dom, doms]; exact on) }

end Sys2Proof.Machine
end

section
/-! Proofs of 17_clocks_power_startup.md (R764-R766, R769) and 09_catch_memory.md (R465): HOLD_CMD, what it refuses, and the return of the channels. -/

namespace Sys2Proof.Machine

theorem Answered.heat {s t : State} : Answered s t → ∀ n sl, t.heat n sl = s.heat n sl := by rintro ⟨_, _, _, _, rfl⟩ _ _; rfl
theorem Answered.dom {s t : State} (a : Answered s t) (d : Nat) : t.dom d = s.dom d := by rw [State.dom, a.power]; rfl
theorem Answered.vport {s t : State} : Answered s t → ∀ n, t.vport n = s.vport n := by rintro ⟨_, _, _, _, rfl⟩ _; rfl
theorem Answered.sessions {s t : State} : Answered s t → t.dict.sessions = s.dict.sessions := by rintro ⟨_, _, _, _, rfl⟩; rfl

theorem Answered.holdAllowed {s t : State} (a : Answered s t) : holdAllowed t = holdAllowed s := by
  simp only [Machine.holdAllowed, anyLive, a.power, a.heat, a.dom, a.sessions, a.loader, a.evacuating, a.catch', a.recasting, a.chan]

/-! ### HOLD_CMD ENTER (R764, R765) -/

theorem holdCmdEnter_enters {s : State} {path : Nat} (admitted : Admitted s path 0x2130 1 2) (allowed : holdAllowed s = true) :
    Answers (.holdCmdEnter path) s (fun t => t.power.hold = .entering ∧ t.power.holdEmergency = false ∧
      (∀ n, n < 8 → (t.chan n).held = true ∧ (t.chan n).wasOnline = decide ((s.chan n).st = .online)) ∧ (∀ n, n < 6 → (t.vport n).st = .disabled) ∧
      (∀ d, d < 72 → (s.dom d).st = .on → (t.dom d).st = .closing)) := by
  have touched := Answered.touch path s
  have run := dictCommand_admitted admitted (holdEnter_enters (touched.holdAllowed.trans allowed))
  obtain ⟨hold, calm, held, links, closing⟩ := holdReady_entered (touch path s)
  generalize touch path s = u at touched run hold calm held links closing
  have answered := Answered.accept path 0x2130 1 (domainsHeld (holdReady u))
  refine ⟨_, run, by rw [answered.power, hold], by rw [answered.power, calm], fun n channel => ?_, fun n port => ?_, fun d plain on => ?_⟩
  · rw [answered.chan, ← touched.chan]
    exact held n channel
  · rw [answered.vport, links n port]
  · rw [answered.dom, closing d plain (by rw [touched.dom, on])]

/-- What R764 asks of Hold, but for the ports' own domains. -/
theorem holdAllowed_asks {s : State} (allowed : holdAllowed s = true) : s.power.hold = .running ∧ (∀ n, n < 6 → anyLive s n = false) ∧
    (∀ e ∈ s.dict.sessions, e.2.txSt ≠ .committing) ∧ s.loader.st = .idle ∧ s.evacuating = false ∧ s.catch'.zeroBusy = false ∧
    (∀ y, y < 8 → s.recasting y = false) ∧ ∀ n, n < 8 → (s.chan n).st ≠ .gathering ∧ (s.chan n).st ≠ .draining := by
  simp only [holdAllowed, Bool.and_eq_true, decide_eq_true_eq, List.all_eq_true, List.mem_range, Bool.not_eq_true'] at allowed
  obtain ⟨⟨⟨⟨⟨⟨⟨running, ports⟩, sessions⟩, idle⟩, still⟩, calm⟩, rows⟩, channels⟩ := allowed
  exact ⟨running, fun n port => (ports n port).1.1, sessions, idle, still, calm, rows, channels⟩

theorem holdCmdEnter_refuses {s : State} {path : Nat} (admitted : Admitted s path 0x2130 1 2) (free : (s.path path).held = none)
    (busy : s.power.hold ≠ .running ∨ (∃ n, n < 6 ∧ anyLive s n = true) ∨ (∃ e ∈ s.dict.sessions, e.2.txSt = .committing) ∨ s.loader.st ≠ .idle ∨
      s.evacuating = true ∨ s.catch'.zeroBusy = true ∨ (∃ y, y < 8 ∧ s.recasting y = true) ∨
      (∃ n, n < 8 ∧ ((s.chan n).st = .gathering ∨ (s.chan n).st = .draining))) :
    Answers (.holdCmdEnter path) s (fun t => Refused s t path 0x2130 1 0x08000022#32 ∧ t.power = s.power ∧ t.catch' = s.catch') := by
  have refused : holdAllowed s = false := by
    refine Bool.eq_false_iff.mpr fun allowed => ?_
    obtain ⟨running, ports, sessions, idle, still, calm, rows, channels⟩ := holdAllowed_asks allowed
    rcases busy with state | ⟨n, port, live⟩ | ⟨e, member, commits⟩ | load | copies | zeroes | ⟨y, row, recasts⟩ | ⟨n, channel, moves⟩
    · exact state running
    · exact Bool.false_ne_true ((ports n port).symm.trans live)
    · exact sessions e member commits
    · exact load idle
    · exact Bool.false_ne_true (still.symm.trans copies)
    · exact Bool.false_ne_true (calm.symm.trans zeroes)
    · exact Bool.false_ne_true ((rows y row).symm.trans recasts)
    · exact moves.elim (channels n channel).1 (channels n channel).2
  obtain ⟨t, run, answer, answered⟩ := dictCommand_refuses (act := holdEnter) admitted free
    (fun u touched => need_error (touched.holdAllowed.trans refused))
  exact ⟨t, run, answer, answered.power, answered.catch'⟩

/-! ### HOLD_CMD EXIT (R766, R769) -/

/-- Power as Hold is left (R465). -/
def leavingPower (p : PowerState) : PowerState :=
  { p with hold := .exiting, dimmPwren := 0xFF, dimmWait := true, doms := Tab.mapVals Dom.reset (fun _ x => { x with holdRet := false }) p.doms }

theorem holdLeave_eq (s : State) : holdLeave s = startCore (s.modPower leavingPower) := rfl

theorem leavingPower_dom {s : State} (canonical : Tab.wf Dom.reset s.power.doms = true) (d : Nat) :
    (s.modPower leavingPower).dom d = { s.dom d with holdRet := false } :=
  Tab.get_mapVals_wf (fun _ => rfl) d s.power.doms canonical

theorem holdExit_exits {s : State} (held : s.power.hold = .held) (cool : s.power.thermHot.toInt < 16 * (s.settingN 0x2140 3 : Int)) :
    holdExit s = .ok (holdLeave s) := need_ok (by rw [held, decide_eq_true cool]; rfl)

theorem holdCmdExit_exits {s : State} {path : Nat} (admitted : Admitted s path 0x2130 1 2) (held : s.power.hold = .held)
    (cool : s.power.thermHot.toInt < 16 * (s.settingN 0x2140 3 : Int)) (locked : s.power.pllLocked = true) (good : s.power.good1 = true)
    (off : (s.dom 87).st = .off) (canonical : Tab.wf Dom.reset s.power.doms = true) : Answers (.holdCmdExit path) s (fun t =>
      t.power.hold = .exiting ∧ t.power.dimmPwren = 0xFF ∧ t.power.dimmWait = true ∧ (t.dom 87).st = .ramping ∧ t.catch' = s.catch') := by
  have touched := Answered.touch path s
  have run := dictCommand_admitted admitted (holdExit_exits (s := touch path s) (by rw [touched.power, held]) (by rw [touched.power, touched.settingN]; exact cool))
  generalize touch path s = u at touched run
  have dom := leavingPower_dom (s := u) (by rw [touched.power]; exact canonical) 87
  obtain ⟨⟨d, changes⟩, core, _⟩ := startCore_starts (u.modPower leavingPower) (by rw [dom, touched.dom]; exact off)
  rw [holdLeave_eq] at run
  generalize startCore (u.modPower leavingPower) = v at run changes core
  have supply : ((u.modPower leavingPower).power.good1 && (u.modPower leavingPower).power.pllLocked) = true := by
    rw [show (u.modPower leavingPower).power.good1 = u.power.good1 from rfl, show (u.modPower leavingPower).power.pllLocked = u.power.pllLocked from rfl,
      touched.power, good, locked]
    rfl
  rw [supply] at core
  have answered := Answered.accept path 0x2130 1 v
  refine ⟨_, run, ?_, ?_, ?_, by rw [answered.dom, core]; rfl, ?_⟩
  · rw [answered.power, changes]; rfl
  · rw [answered.power, changes]; rfl
  · rw [answered.power, changes]; rfl
  · rw [answered.catch', changes]
    exact touched.catch'

theorem holdCmdExit_refuses {s : State} {path : Nat} (admitted : Admitted s path 0x2130 1 2) (free : (s.path path).held = none)
    (stays : s.power.hold ≠ .held ∨ 16 * (s.settingN 0x2140 3 : Int) ≤ s.power.thermHot.toInt) :
    Answers (.holdCmdExit path) s (fun t => Refused s t path 0x2130 1 0x08000022#32 ∧ t.power = s.power) := by
  have refused : (decide (s.power.hold = .held) && decide (s.power.thermHot.toInt < 16 * (s.settingN 0x2140 3 : Int))) = false := by
    rcases stays with other | hot
    · rw [decide_eq_false other, Bool.false_and]
    · rw [decide_eq_false (Int.not_lt.mpr hot), Bool.and_false]
  obtain ⟨t, run, answer, answered⟩ := dictCommand_refuses (act := holdExit) admitted free
    (fun u touched => need_error (by rw [touched.power, touched.settingN]; exact refused))
  exact ⟨t, run, answer, answered.power⟩

end Sys2Proof.Machine
end

section
/-! Proofs of 09_catch_memory.md (R447, R465) and 17_clocks_power_startup.md (R766): after DIMM_PWR_WAIT the channels that were held return; and the statement of
the family on resets and Hold. -/

namespace Sys2Proof.Machine

/-! ### The delays come from the active slot (R465) -/

/-- Settings and channels may have changed: no channel has left its state or Hold. -/
structure DelaysLoad (s t : State) : Prop where
  changes : ∃ d c, t = { s with dict := d, catch' := c }
  chans : ∀ m, (t.chan m).held = (s.chan m).held ∧ (t.chan m).st = (s.chan m).st

namespace DelaysLoad
variable {s t u : State}

theorem refl (s : State) : DelaysLoad s s := ⟨⟨_, _, rfl⟩, fun _ => ⟨rfl, rfl⟩⟩
theorem trans : DelaysLoad s t → DelaysLoad t u → DelaysLoad s u := by
  rintro ⟨⟨_, _, rfl⟩, chans⟩ ⟨⟨_, _, rfl⟩, chans'⟩
  exact ⟨⟨_, _, rfl⟩, fun m => ⟨(chans' m).1.trans (chans m).1, (chans' m).2.trans (chans m).2⟩⟩
theorem putSetting (s : State) (idx sub : Nat) (v : DWord) : DelaysLoad s (s.putSetting idx sub v) := ⟨⟨_, _, rfl⟩, fun _ => ⟨rfl, rfl⟩⟩
theorem foldl {α : Type} {step : State → α → State} (loads : ∀ s a, DelaysLoad s (step s a)) (l : List α) (s : State) : DelaysLoad s (l.foldl step s) := by
  induction l generalizing s with
  | nil => exact .refl s
  | cons a l ih => exact (loads s a).trans (ih _)
theorem modChan (n : Nat) (s : State) {g : Channel → Channel} (held : ∀ c, (g c).held = c.held) (st : ∀ c, (g c).st = c.st) :
    DelaysLoad s (s.modChan n g) := by
  refine ⟨⟨_, _, rfl⟩, fun m => ?_⟩
  rcases eq_or_ne m n with rfl | other
  · rw [State.modChan_same]
    exact ⟨held _, st _⟩
  · rw [State.modChan_ne _ _ other]
    exact ⟨rfl, rfl⟩

end DelaysLoad

theorem takeDelays_loads (n : Nat) (ws : List Word) (s : State) : DelaysLoad s (takeDelays n ws s) :=
  (DelaysLoad.foldl (fun u (e : Nat × Nat) => .putSetting u (chIdx n) e.1 _) _ s).trans
    ((DelaysLoad.putSetting ..).trans (.modChan n _ (fun _ => rfl) (fun _ => rfl)))

theorem loadDelays_loads (s : State) (n : Nat) : DelaysLoad s (loadDelays s n) := by
  unfold loadDelays
  dsimp only
  split
  · split
    · exact takeDelays_loads ..
    · exact .refl s
  · exact .refl s

/-- The channels that are held take their delays, where the core domain is up. -/
def delaysLoaded (s : State) : State :=
  if s.domOn 87 then (List.range 8).foldl (fun s n => if (s.chan n).held then loadDelays s n else s) s else s

theorem delaysLoaded_loads (s : State) : DelaysLoad s (delaysLoaded s) := by
  unfold delaysLoaded
  split
  · refine .foldl (fun u n => ?_) _ s
    split
    · exact loadDelays_loads u n
    · exact .refl u
  · exact .refl s

/-! ### The return (R447, R766) -/

/-- One channel leaves Hold, for ONLINE where it was. -/
def returnChannel (s : State) (n : Nat) : State :=
  let c := s.chan n
  if !c.held then s
  else
    let s := s.modChan n (fun c => { c with held := false })
    if c.wasOnline && c.dlyValid then whenLocked n .online chanOnline s else s

theorem CameOnline.works {n : Nat} {s t : State} (online : CameOnline n s t) : ChanWorks n s t := ⟨online.moves, online.others⟩

theorem whenLocked_online (n : Nat) (s : State) (free : (s.chan n).held = false) : ChanWorks n s (whenLocked n .online chanOnline s) ∧
    ((whenLocked n .online chanOnline s).chan n).held = false := by
  have online := chanOnline_enters n s
  unfold whenLocked
  split
  · exact ⟨online.works, online.held⟩
  · exact ⟨.modChan .., by rw [State.modChan_same]; exact free⟩

theorem returnChannel_returns (n : Nat) (s : State) : ChanWorks n s (returnChannel s n) ∧ ((returnChannel s n).chan n).held = false := by
  unfold returnChannel
  dsimp only
  split
  · next free => exact ⟨.refl n s, by simpa using free⟩
  · have freed : ((s.modChan n (fun c => { c with held := false })).chan n).held = false := by rw [State.modChan_same]
    have works : ChanWorks n s (s.modChan n (fun c => { c with held := false })) := .modChan ..
    split
    · obtain ⟨online, free⟩ := whenLocked_online n _ freed
      exact ⟨works.trans online, free⟩
    · exact ⟨works, freed⟩

theorem returnChannels_released {s : State} (released : s.loader.released = true) (waited : s.power.dimmWait = false) :
    returnChannels s = (List.range 8).foldl returnChannel s := if_neg (by rw [released, waited]; decide)

theorem returnChannels_unreleased {s : State} (unreleased : s.loader.released = false) : returnChannels s = s :=
  if_pos (by rw [unreleased]; rfl)

theorem returned_moves (s : State) : CatchMoves s ((List.range 8).foldl returnChannel s) := by
  induction List.range 8 generalizing s with
  | nil => exact .refl s
  | cons n l ih => exact (returnChannel_returns n s).1.moves.trans (ih _)

theorem returned_free (s : State) {n : Nat} (channel : n < 8) : (((List.range 8).foldl returnChannel s).chan n).held = false :=
  foldl_range (get := State.chan) (fun u a m other => (returnChannel_returns a u).1.others m other) (P := fun _ _ d => d.held = false)
    (fun u a => (returnChannel_returns a u).2) channel s

theorem CatchMoves.power {s t : State} : CatchMoves s t → t.power = s.power := by rintro ⟨_, _, _, _, rfl⟩; rfl

theorem dimmPwrWaitExpiry_returns (s : State) (waits : s.power.dimmWait = true) : Answers .dimmPwrWaitExpiry s (fun t =>
    t.power = { s.power with dimmWait := false } ∧ (s.loader.released = true → ∀ n, n < 8 → (s.chan n).held = true → (t.chan n).held = false) ∧
    (s.loader.released = false → ∀ n, n < 8 → (t.chan n).held = (s.chan n).held ∧ (t.chan n).st = (s.chan n).st)) := by
  have loads := delaysLoaded_loads (s.modPower (fun p => { p with dimmWait := false }))
  have run : exec .dimmPwrWaitExpiry s = .next (returnChannels (delaysLoaded (s.modPower (fun p => { p with dimmWait := false })))) := event_of waits _ _
  refine ⟨_, run, ?_⟩
  generalize delaysLoaded (s.modPower (fun p => { p with dimmWait := false })) = u at loads
  obtain ⟨⟨d, c, changes⟩, chans⟩ := loads
  have power : u.power = { s.power with dimmWait := false } := by rw [changes]; rfl
  have loader : u.loader = s.loader := by rw [changes]; rfl
  cases released : s.loader.released with
  | true =>
    rw [returnChannels_released (by rw [loader, released]) (by rw [power])]
    exact ⟨(returned_moves u).power.trans power, fun _ n channel _ => returned_free u channel, fun unreleased => absurd unreleased Bool.true_eq_false.mp⟩
  | false =>
    rw [returnChannels_unreleased (by rw [loader, released])]
    exact ⟨power, fun freed => absurd freed Bool.false_ne_true, fun _ n _ => chans n⟩

/-- Settles O50: a core reset by what each phase leaves of management, the management reset by its fields, Hold by its links, channels and domains in turn. -/
theorem resetsAndHold : Obligations.ResetsAndHold := by
  unfold Obligations.ResetsAndHold
  refine ⟨fun s path undrained admitted free => ⟨fun running => ?core, fun held => ?coreHeld, rstCmdMgmt_resets admitted⟩, mgmtAutoReset_resets,
    fun s path admitted free => ⟨holdCmdEnter_enters admitted, holdCmdEnter_refuses admitted free,
      fun held cool locked good off canonical => holdCmdExit_exits admitted held cool locked good off canonical, holdCmdExit_refuses admitted free⟩,
    dimmPwrWaitExpiry_returns⟩
  case core =>
    have resets := rstCmdCore_resets undrained admitted
    rw [if_pos running] at resets
    exact resets
  case coreHeld =>
    have resets := rstCmdCore_resets undrained admitted
    rw [held, if_neg (by decide)] at resets
    exact resets

end Sys2Proof.Machine
end
